-- ==== Sys2Proof/Word.lean ====
section
/-! DEFINITION. Word.lean: the word types of the TZ6400 (R8: every structure of the module's own is stored least-significant byte first). -/
namespace Sys2Proof

/-- One byte of a store or of a packet. -/
abbrev Byte := BitVec 8
/-- A 32-bit word: a vector lane, a wait counter, a tile word. -/
abbrev W32 := BitVec 32
/-- A 64-bit word: a scalar register of a core (R67). -/
abbrev W64 := BitVec 64
/-- A 4,096-bit vector register: 128 lanes of 32 bits. -/
abbrev W4096 := BitVec 4096
/-- A 128-bit predicate register: one bit a lane. -/
abbrev W128 := BitVec 128

/-- A sparse table: a register file, a bank of counters or a store of like units, keyed by unit number. Keys rise strictly
and no entry equals the table's default, so equal tables are equal lists. -/
abbrev Tab (α : Type) := List (Nat × α)

end Sys2Proof
end

