-- ==== Sys2Proof/Syntax.lean ====
section
/-! DEFINITION. Syntax.lean: the commands of the block: one constructor per row of spec/opcode_table.json, with its operands.
An operand is what the command's far side brings (a flit, a packet, a frame, a slot of a bundle, a sample of a sensor) or the
unit of the module the command concerns; what the module itself decides is no operand. -/
namespace Sys2Proof

/-- A slot instruction of a bundle (R77): the core it is given to, whether more slots of the same bundle follow, and the
fields `D`, `A`, `B` and `IMM`. Branch offsets are formed from these fields as R77 states. -/
structure Slot where
  core : BitVec 8
  more : Bool
  d : BitVec 5
  a : BitVec 5
  b : BitVec 5
  imm : BitVec 9
  deriving DecidableEq, Repr, Inhabited

/-- A numbered plane flit that passed its CRC (R256, R257): the port it arrived on, its link header fields and endpoints. -/
structure Rx where
  port : Fin 6
  /-- `SEQ` -/
  seq : BitVec 12
  /-- `ACK_VALID` and `ACK_SEQ` -/
  ackValid : Bool
  ack : BitVec 12
  first : Bool
  last : Bool
  /-- destination endpoint [17:0] and logical core [23:18] -/
  dest : BitVec 24
  /-- source endpoint [17:0] and logical core [23:18] -/
  src : BitVec 24
  deriving DecidableEq, Repr, Inhabited

/-- A Belfry frame (R413): `SRC_SEAT`, `DST` and `HOPS` as received, and 12 payload bytes. -/
structure BFrame where
  src : Byte
  dst : Byte
  hops : Byte
  payload : Vector Byte 12
  deriving DecidableEq, Repr, Inhabited

/-- What Lantern's samples of the closing tick show (R400, R440, R565): mean input power, energy and the two charges. -/
structure TickSample where
  /-- mean input power over the tick, W -/
  meanW : BitVec 16
  /-- input energy of the tick, mJ -/
  energyMj : BitVec 32
  /-- charge of the coulomb counter over 100 ms, mC -/
  counterMc : BitVec 32
  /-- charge of the 1 us current samples over 100 ms, mC -/
  samplesMc : BitVec 32
  deriving DecidableEq, Repr, Inhabited

/-- A sample of one hot spot's two sensors, in 0.01 C (R449). -/
structure SpotSample where
  spot : Fin 128
  a : BitVec 16
  b : BitVec 16
  deriving DecidableEq, Repr, Inhabited

/-- How a read of the flash channels went (R210, R467). -/
inductive T3Read where
  | good | retried | failed
  deriving DecidableEq, Repr, Inhabited

/-- What a scrub read met (R470, R471). -/
inductive ScrubOutcome where
  | clean | corrected | uncorrectable | passEnd
  deriving DecidableEq, Repr, Inhabited

/-- The kinds of RoCEv2 negative acknowledgement (R321). -/
inductive NakKind where
  | sequence | rnr | invalidRequest | remoteAccess | remoteOperational
  deriving DecidableEq, Repr, Inhabited

/-- A PTP message of IEEE 1588-2019 as the module uses it (R327): times in ns. -/
inductive PtpMsg where
  | announce (domain : Byte) (sender dataSet : BitVec 64)
  | sync (domain : Byte) (sender origin receipt correction : BitVec 64)
  | delayResp (domain : Byte) (sender request receipt correction : BitVec 64)
  /-- a management message, a signalling message, or a message of the peer delay mechanism -/
  | management
  | signalling
  | peerDelay
  deriving DecidableEq, Repr, Inhabited

/-- The form of an inbound RoCEv2 request of the write kind: R318 supports the plain one. -/
inductive WriteForm where
  | plain
  | withImmediate
  | atomic
  | memoryWindow
  deriving DecidableEq, Repr, Inhabited

/-- What is wrong with a received frame that is discarded (R316, R318). -/
inductive BadFrame where
  /-- an FCS error, a frame too long, or a frame that no row of R316 handles -/
  | unhandled
  /-- a RoCEv2 packet to QP1 -/
  | qp1
  deriving DecidableEq, Repr, Inhabited

/-- The masters that may write a register (R10, R367). -/
inductive Master where
  | keep | turret | lantern
  deriving DecidableEq, Repr, Inhabited

/-- What Keep alone holds beside its registers (R366). -/
inductive KeepItem where
  | identity | fuses | romAndSram | keyTable | limitTables | leases | topologyRecord | imageStore
  deriving DecidableEq, Repr, Inhabited

/-- The registers of the register maps. -/
inductive Reg where
  | timeNow | timeStatus | timeOffset | tickConfig
  | ctxStatus (ctx : BitVec 12)
  | plinkStatus (port : Fin 6) | plinkPeer (port : Fin 6)
  | bringupStatus | bringupTime
  | capStatus | capTerms | tokenPolicy | belfryStatus
  | supplyStatus | coolantStatus | thermalStatus (spire : Fin 4) | hotspotStatus (spire : Fin 4)
  | faultReaction (source : BitVec 6) | faultStatus
  | hangConfig | pairStatus (part : Fin 4)
  /-- an item that Keep alone holds, written or read -/
  | keepOnly (item : KeepItem) (read : Bool)
  deriving DecidableEq, Repr, Inhabited

/-- The commands of the block. -/
inductive Instr where
  /-- `FRAME_TICK` (R44): At each tick the module snapshots counters, starts due frames, scans mailboxes and runs Lantern decisions, token exchange, audits and wait-cycle evaluation -/
  | frameTick (sample : TickSample)
  /-- `FRAME_DEADLINE` (R53): A frame not complete at its deadline records an overrun and is slipped or aborted -/
  | frameDeadline
  /-- `FRAME_COMPLETE` (R43): A frame completes when all bound cores reached END and all its RDMA writes completed -/
  | frameComplete (plan : W32)
  /-- `TIME_SOURCE_LOST` (R33): The time base loses its discipline source and enters holdover or the next source -/
  | timeSourceLost (source : BitVec 3)
  /-- `HOLDOVER_EXPIRY` (R33): After 60 s of holdover the time base enters free run -/
  | holdoverExpiry
  /-- `ADD` (R82): Scalar 64-bit add -/
  | add (sl : Slot)
  /-- `SUB` (R82): Scalar 64-bit subtract -/
  | sub (sl : Slot)
  /-- `MUL` (R82): Scalar 64-bit multiply -/
  | mul (sl : Slot)
  /-- `AND` (R82): Scalar bitwise and -/
  | and (sl : Slot)
  /-- `OR` (R82): Scalar bitwise or -/
  | or (sl : Slot)
  /-- `XOR` (R82): Scalar bitwise exclusive or -/
  | xor (sl : Slot)
  /-- `SHL` (R82): Scalar shift left by B[5:0] -/
  | shl (sl : Slot)
  /-- `SHR` (R82): Scalar logical shift right -/
  | shr (sl : Slot)
  /-- `SRA` (R82): Scalar arithmetic shift right -/
  | sra (sl : Slot)
  /-- `MIN` (R82): Scalar signed minimum -/
  | min (sl : Slot)
  /-- `MAX` (R82): Scalar signed maximum -/
  | max (sl : Slot)
  /-- `SLT` (R82): Scalar signed set-less-than -/
  | slt (sl : Slot)
  /-- `SLTU` (R82): Scalar unsigned set-less-than -/
  | sltu (sl : Slot)
  /-- `ADDI` (R82): Scalar add of signed immediate -/
  | addi (sl : Slot)
  /-- `ANDI` (R82): Scalar and with immediate -/
  | andi (sl : Slot)
  /-- `ORI` (R82): Scalar or with immediate -/
  | ori (sl : Slot)
  /-- `XORI` (R82): Scalar exclusive or with immediate -/
  | xori (sl : Slot)
  /-- `SHLI` (R82): Scalar shift left by immediate -/
  | shli (sl : Slot)
  /-- `SHRI` (R82): Scalar logical shift right by immediate -/
  | shri (sl : Slot)
  /-- `SRAI` (R82): Scalar arithmetic shift right by immediate -/
  | srai (sl : Slot)
  /-- `SLTI` (R82): Scalar signed compare with immediate -/
  | slti (sl : Slot)
  /-- `LI` (R82): Load a sign-extended 60-bit long immediate -/
  | li (sl : Slot) (imm : BitVec 60)
  /-- `LD8` (R82): Scratchpad 8-bit load -/
  | ld8 (sl : Slot)
  /-- `LD16` (R82): Scratchpad 16-bit load -/
  | ld16 (sl : Slot)
  /-- `LD32` (R82): Scratchpad 32-bit load -/
  | ld32 (sl : Slot)
  /-- `LD64` (R82): Scratchpad 64-bit load -/
  | ld64 (sl : Slot)
  /-- `ST8` (R82): Scratchpad 8-bit store -/
  | st8 (sl : Slot)
  /-- `ST16` (R82): Scratchpad 16-bit store -/
  | st16 (sl : Slot)
  /-- `ST32` (R82): Scratchpad 32-bit store -/
  | st32 (sl : Slot)
  /-- `ST64` (R82): Scratchpad 64-bit store -/
  | st64 (sl : Slot)
  /-- `BR` (R81): Unconditional branch by a 24-bit offset -/
  | br (sl : Slot)
  /-- `CALL` (R81): Call, pushing the return stack -/
  | call (sl : Slot)
  /-- `RET` (R81): Return from the return stack -/
  | ret (sl : Slot)
  /-- `BEQ` (R81): Branch if A equals B -/
  | beq (sl : Slot)
  /-- `BNE` (R81): Branch if A differs from B -/
  | bne (sl : Slot)
  /-- `BLT` (R81): Branch if A is less than B -/
  | blt (sl : Slot)
  /-- `BGE` (R81): Branch if A is at least B -/
  | bge (sl : Slot)
  /-- `LOOP` (R81): Hardware loop over a body a register-given number of times -/
  | loop (sl : Slot)
  /-- `WAIT` (R89): Hold issue until a wait counter reaches a register value -/
  | wait (sl : Slot)
  /-- `WAITI` (R89): Hold issue until a wait counter reaches an immediate -/
  | waiti (sl : Slot)
  /-- `WAIT_SATISFIED` (R89): A held wait's counter reaches its value and the next bundle issues -/
  | waitSatisfied (core : BitVec 8)
  /-- `WCADD` (R88): Add an immediate to a wait counter -/
  | wcadd (sl : Slot)
  /-- `WCREAD` (R82): Read a wait counter into a register -/
  | wcread (sl : Slot)
  /-- `TIME` (R57): Read the Spire time counter -/
  | time (sl : Slot)
  /-- `CYC` (R59): Read the core cycle counter -/
  | cyc (sl : Slot)
  /-- `TICK` (R82): Read the current tick number -/
  | tick (sl : Slot)
  /-- `CSRR` (R73): Read a control register -/
  | csrr (sl : Slot)
  /-- `CSRW` (R74): Write a control register, checking CORE_MODE values -/
  | csrw (sl : Slot)
  /-- `MARKB` (R548): Push a range marker and write a begin record -/
  | markb (sl : Slot)
  /-- `MARKE` (R548): Pop a range marker and write an end record -/
  | marke (sl : Slot)
  /-- `MARKP` (R548): Write a point marker record -/
  | markp (sl : Slot)
  /-- `END` (R102): Wait for all frame operations, mark the core complete and stop issue -/
  | endFrame (sl : Slot)
  /-- `VADD` (R83): Vector F32 add -/
  | vadd (sl : Slot)
  /-- `VSUB` (R83): Vector F32 subtract -/
  | vsub (sl : Slot)
  /-- `VMUL` (R83): Vector F32 multiply -/
  | vmul (sl : Slot)
  /-- `VFMA` (R83): Vector F32 fused multiply-add -/
  | vfma (sl : Slot)
  /-- `VMIN` (R83): Vector F32 minimum -/
  | vmin (sl : Slot)
  /-- `VMAX` (R83): Vector F32 maximum -/
  | vmax (sl : Slot)
  /-- `VABS` (R83): Vector F32 absolute value -/
  | vabs (sl : Slot)
  /-- `VNEG` (R83): Vector F32 negate -/
  | vneg (sl : Slot)
  /-- `VEXP2` (R83): Vector correctly rounded 2^A -/
  | vexp2 (sl : Slot)
  /-- `VLOG2` (R83): Vector correctly rounded log2 A -/
  | vlog2 (sl : Slot)
  /-- `VRCP` (R83): Vector correctly rounded reciprocal -/
  | vrcp (sl : Slot)
  /-- `VRSQRT` (R83): Vector correctly rounded reciprocal square root -/
  | vrsqrt (sl : Slot)
  /-- `VIADD` (R83): Vector I32 add -/
  | viadd (sl : Slot)
  /-- `VISUB` (R83): Vector I32 subtract -/
  | visub (sl : Slot)
  /-- `VIMUL` (R83): Vector I32 multiply -/
  | vimul (sl : Slot)
  /-- `VAND` (R83): Vector bitwise and -/
  | vand (sl : Slot)
  /-- `VOR` (R83): Vector bitwise or -/
  | vor (sl : Slot)
  /-- `VXOR` (R83): Vector bitwise exclusive or -/
  | vxor (sl : Slot)
  /-- `VSHL` (R83): Vector per-lane shift left -/
  | vshl (sl : Slot)
  /-- `VSHR` (R83): Vector per-lane logical shift right -/
  | vshr (sl : Slot)
  /-- `VSRA` (R83): Vector per-lane arithmetic shift right -/
  | vsra (sl : Slot)
  /-- `VCMPEQ` (R83): Vector compare equal into a predicate -/
  | vcmpeq (sl : Slot)
  /-- `VCMPLT` (R83): Vector compare less-than into a predicate -/
  | vcmplt (sl : Slot)
  /-- `VCMPLE` (R83): Vector compare less-or-equal into a predicate -/
  | vcmple (sl : Slot)
  /-- `VSEL` (R83): Vector select by predicate -/
  | vsel (sl : Slot)
  /-- `VBCAST` (R83): Broadcast a scalar into every lane -/
  | vbcast (sl : Slot)
  /-- `VPERM` (R83): Vector lane permutation -/
  | vperm (sl : Slot)
  /-- `VSHIFTL` (R83): Move lanes down by an immediate with zero fill -/
  | vshiftl (sl : Slot)
  /-- `VREDADD` (R83): Vector halving-order F32 sum into lane 0 -/
  | vredadd (sl : Slot)
  /-- `VREDMAX` (R83): Vector halving-order maximum into lane 0 -/
  | vredmax (sl : Slot)
  /-- `VCVT` (R136): Convert 128 elements between formats under CORE_MODE.ROUND -/
  | vcvt (sl : Slot)
  /-- `VCVTMX` (R136): Pack or unpack four microscaling blocks -/
  | vcvtmx (sl : Slot)
  /-- `VLD` (R83): Vector load of 512 B from scratchpad -/
  | vld (sl : Slot)
  /-- `VST` (R83): Vector store of 512 B to scratchpad -/
  | vst (sl : Slot)
  /-- `VSTP` (R83): Vector store of predicated lanes -/
  | vstp (sl : Slot)
  /-- `VGATHER` (R83): Vector gather of 4 B per lane -/
  | vgather (sl : Slot)
  /-- `MDSET` (R148): Load and check a matrix descriptor from scratchpad -/
  | mdset (sl : Slot)
  /-- `MZERO` (R154): Queue zeroing of an accumulator tile -/
  | mzero (sl : Slot)
  /-- `MMA` (R151): Queue a matrix multiply-accumulate into a tile -/
  | mma (sl : Slot)
  /-- `MMAS` (R165): Queue a multiply-accumulate whose left operand is stream-consumed -/
  | mmas (sl : Slot)
  /-- `MLOAD` (R154): Queue a tile load from scratchpad -/
  | mload (sl : Slot)
  /-- `MSTORE` (R154): Queue a converted tile store to scratchpad -/
  | mstore (sl : Slot)
  /-- `MATRIX_OPERATION_BEGIN` (R156): A queued matrix operation begins once its stream is free and earlier operations on its tile completed -/
  | matrixOperationBegin (core : BitVec 8) (op : BitVec 3)
  /-- `STREAM_PIECE_BEGIN` (R165): An MMAS begins a piece once it is ready and the previous piece is finished -/
  | streamPieceBegin (core : BitVec 8)
  /-- `MATRIX_OPERATION_COMPLETE` (R159): A matrix operation finishes and raises its wait counter -/
  | matrixOperationComplete (core : BitVec 8) (op : BitVec 3)
  /-- `MOV` (R86): Queue a copy of 16 B to 16 MiB -/
  | mov (sl : Slot)
  /-- `MOV2D` (R593): Queue a strided copy with a shape read at execution -/
  | mov2d (sl : Slot)
  /-- `MFILL` (R86): Queue a fill with a 64-bit pattern -/
  | mfill (sl : Slot)
  /-- `MOVE_COMPLETE` (R87): A move or fill writes its last byte and raises its counter -/
  | moveComplete (core : BitVec 8) (op : BitVec 5)
  /-- `SEND` (R90): Queue a message from staging to a destination core -/
  | send (sl : Slot)
  /-- `SIGNAL` (R90): Send an add to a remote wait counter -/
  | signal (sl : Slot)
  /-- `RECV` (R94): Arm a receive for a tag into staging -/
  | recv (sl : Slot)
  /-- `HWRITE` (R329): Queue an RDMA WRITE into an outbox window -/
  | hwrite (sl : Slot)
  /-- `HSEND` (R329): Queue a RoCEv2 SEND to the host -/
  | hsend (sl : Slot)
  /-- `COLL` (R288): Start a collective operation from a staging descriptor -/
  | coll (sl : Slot)
  /-- `ALL_REDUCE` (R289): The collective unit executes an all-reduce descriptor through its stages -/
  | allReduce (core : BitVec 8)
  /-- `REDUCE_SCATTER` (R289): The collective unit executes a reduce-scatter descriptor -/
  | reduceScatter (core : BitVec 8)
  /-- `ALL_GATHER` (R289): The collective unit executes an all-gather descriptor -/
  | allGather (core : BitVec 8)
  /-- `ALL_TO_ALL` (R303): The collective unit executes a fixed-capacity all-to-all -/
  | allToAll (core : BitVec 8)
  /-- `BROADCAST` (R289): The collective unit executes a broadcast -/
  | broadcast (core : BitVec 8)
  /-- `GISSUE` (R99): Send a Graver descriptor to an engine of the partition -/
  | gissue (sl : Slot)
  /-- `PHINT` (R193): Pass hint entries to the state pager -/
  | phint (sl : Slot)
  /-- `PHINT_ACCEPT` (R194): The pager accepts a PHINT, checks entries and raises the issuing counter -/
  | phintAccept (core : BitVec 8)
  /-- `PLACEMENT` (R199): The pager places a hinted page, writes its result record and raises READY_WC when the entry is done -/
  | placement (t3 : T3Read)
  /-- `JOURNAL_DRAIN` (R206): A journal slot's page write to tier 3 completes and its map entry moves -/
  | journalDrain (failed : Bool)
  /-- `FLUSH_END` (R208): A warning, emergency or orderly flush ends and placements resume or domains are removed -/
  | flushEnd
  /-- `FLUSH_DEADLINE` (R208): An orderly flush reaches its deadline and abandons unjournalled dirty pages -/
  | flushDeadline
  /-- `GATHER_POOL` (R227): A Graver engine pools table rows into output rows -/
  | gatherPool (k : Fin 12)
  /-- `SCORE_SELECT` (R230): A Graver engine scores queries against key blocks and returns top-k and partials -/
  | scoreSelect (k : Fin 12)
  /-- `PACK` (R236): A Graver engine converts items between formats -/
  | pack (k : Fin 12)
  /-- `ROW_UPDATE` (R238): A Graver engine applies optimiser updates to indexed rows -/
  | rowUpdate (k : Fin 12)
  /-- `CHECKSUM` (R241): A Graver engine computes CRC-32C of rows -/
  | checksum (k : Fin 12)
  /-- `COPY` (R241): A Graver engine copies rows within its stack -/
  | copy (k : Fin 12)
  /-- `FILL` (R241): A Graver engine fills rows with a pattern -/
  | fill (k : Fin 12)
  /-- `CREDIT` (R264): A CREDIT record updates the sender's credits on VC1–VC7 -/
  | credit (port : Fin 6) (ack : BitVec 12) (freed : Vector (BitVec 16) 7)
  /-- `NAK` (R260): A NAK record makes the sender replay from the named SEQ -/
  | nak (port : Fin 6) (ack : BitVec 12) (expected : BitVec 12)
  /-- `DOWN_REQUEST` (R278): A received DOWN_REQUEST takes the link down with PEER_REQUEST -/
  | downRequest (port : Fin 6) (cause : Byte)
  /-- `REPLAY_TIMEOUT` (R260): No acknowledgement for 2 µs makes the sender replay from the oldest buffered flit -/
  | replayTimeout (port : Fin 6)
  /-- `REPLAY_EXHAUSTED` (R469): Nine sends of one SEQ or 20 µs without acknowledgement take the link down -/
  | replayExhausted (port : Fin 6)
  /-- `LOCK_LOST` (R278): FEC lock or lane alignment lost for 1 µs takes the link down -/
  | lockLost (port : Fin 6)
  /-- `DETECT` (R271): At least 16 lanes detect the far end and the link enters TRAIN -/
  | detect (port : Fin 6) (lanes : BitVec 17)
  /-- `TRAIN` (R273): Equalisation ends and the link enters ALIGN, or falls back to full training -/
  | train (port : Fin 6) (ok : Bool)
  /-- `ALIGN` (R272): The lane test ends, the mask is chosen and the link enters INIT or goes down -/
  | align (port : Fin 6) (rxGood : BitVec 17) (txGood : BitVec 17)
  /-- `LINK_INIT` (R275): A received LINK_INIT is checked and the link may enter ACTIVE or go down with INIT_MISMATCH -/
  | linkInit (port : Fin 6) (payload : List Byte)
  /-- `TRAINING_RETRY` (R273): Every 10 s a failed link retries training -/
  | trainingRetry (port : Fin 6)
  /-- `LANE_RETRAIN` (R273): The 1 s corrected-symbol measurement finds a worn lane and retrains or sets LANE_WEAR -/
  | laneRetrain (port : Fin 6) (lane : Fin 17) (corrected : BitVec 48) (symbols : BitVec 48)
  /-- `PORT_HOLD_EXPIRY` (R268): A 10 µs port hold ends and held flits go on the chosen port -/
  | portHoldExpiry (port : Fin 6)
  /-- `TIME_EXCHANGE` (R277): The module sends a time exchange request on a plane, 1,024 per second -/
  | timeExchange (port : Fin 6)
  /-- `TIME_REQUEST` (R277): The rack reference stamps T2 and T3 and answers a time request -/
  | timeRequest (rx : Rx) (payload : List Byte)
  /-- `TIME_RESPONSE` (R277): The requester computes its offset and slews its time base -/
  | timeResponse (rx : Rx) (payload : List Byte)
  /-- `MSG_SEND` (R267): A SEND message's flits arrive and are delivered, held or discarded under R92–R94 -/
  | msgSend (rx : Rx) (payload : List Byte)
  /-- `MSG_SIGNAL` (R92): A signal arrives and raises, holds or discards a wait counter raise -/
  | msgSignal (rx : Rx) (payload : List Byte)
  /-- `MSG_ANSWER` (R95): An acceptance or refusal answer completes an acknowledged SEND -/
  | msgAnswer (rx : Rx) (payload : List Byte)
  /-- `ACK_TIMEOUT` (R270): An acknowledged SEND without answer after 100 µs completes as refused -/
  | ackTimeout (core : BitVec 8) (seq : W32)
  /-- `PACKAGE_FABRIC_TRANSFER` (R282): A package-fabric transfer arrives and is acknowledged, or a duplicate is discarded -/
  | packageFabricTransfer (transfer : BitVec 16)
  /-- `FABRIC_RESEND` (R282): A transfer unacknowledged for 5 µs is resent by the current route -/
  | fabricResend (transfer : BitVec 16)
  /-- `COLL_REDUCE` (R294): A reduction flit arrives and is combined or delivered to RECV -/
  | collReduce (rx : Rx) (payload : List Byte)
  /-- `COLL_GATHER` (R305): A gather, all-to-all or broadcast flit arrives and is written, setting stream map bits -/
  | collGather (rx : Rx) (payload : List Byte)
  /-- `ADVERTISE` (R298): A switch advertises its window per group on a port -/
  | advertise (rx : Rx) (record : List Byte)
  /-- `GRANT` (R298): A window grant arrives and the piece's flits may be sent -/
  | grant (rx : Rx) (record : List Byte)
  /-- `ABORT` (R307): An ABORT record ends the operation on this member with the carried status -/
  | abort (rx : Rx) (record : List Byte)
  /-- `ABSENT` (R308): An ABSENT record ends the frame's operations on the group with PEER_SKIPPED -/
  | absent (rx : Rx) (record : List Byte)
  /-- `FLOOR_NOTICE` (R311): A FLOOR_NOTICE sets BELOW_FLOOR_SEEN for the named member -/
  | floorNotice (rx : Rx) (record : List Byte)
  /-- `AUDIT` (R560): A switch AUDIT record supplies W_s for the window audit -/
  | audit (rx : Rx) (record : List Byte)
  /-- `MGMT` (R346): A management relay flit on VC1 is handled or its answer sent out of the management port -/
  | mgmt (rx : Rx) (payload : List Byte)
  /-- `TRACE` (R550): A received TRACE flit is written to the sink ring or discarded -/
  | trace (rx : Rx) (payload : List Byte)
  /-- `HELLO` (R511): A mirror HELLO updates the pair state, roles and lag -/
  | hello (rx : Rx) (payload : List Byte)
  /-- `GRANULE` (R524): The standby accepts or discards a granule record into its mirror buffer -/
  | granule (rx : Rx) (payload : List Byte)
  /-- `PAGE` (R524): The standby accepts or discards a page record into its mirror buffer -/
  | page (rx : Rx) (payload : List Byte)
  /-- `FRAME_END` (R519): The standby receives a FRAME_END naming the frame's records and batches -/
  | frameEnd (rx : Rx) (payload : List Byte)
  /-- `COMMIT` (R519): Holding every record a FRAME_END names, the standby writes the frame into its windows and answers its batches -/
  | commit (part : Fin 4)
  /-- `ACK` (R524): A mirror ACK releases acknowledged records at the holder -/
  | ack (rx : Rx) (payload : List Byte)
  /-- `RESEND` (R524): A mirror RESEND makes the holder resend from the named sequence -/
  | resend (rx : Rx) (payload : List Byte)
  /-- `MIRROR_RESEND_TIMEOUT` (R524): No ACK advance for 300 µs makes the holder resend from the oldest record -/
  | mirrorResendTimeout (part : Fin 4) (stream : Byte)
  /-- `RELEASE` (R530): A RELEASE from the holder lets the standby take over after commit or 20 ms -/
  | release (rx : Rx) (payload : List Byte)
  /-- `PARTNER_LOST` (R511): Three ticks without a valid HELLO make the pair state PARTNER_LOST and windows resync -/
  | partnerLost (part : Fin 4)
  /-- `LEASE_EXPIRY` (R515): The time base reaches EXPIRES and the holder stops starting frames -/
  | leaseExpiry (part : Fin 4)
  /-- `TAKEOVER` (R528): A standby with a grant in force becomes holder and assigns pending batches -/
  | takeover (part : Fin 4)
  /-- `RDMA_WRITE` (R320): An inbound RDMA WRITE is checked and placed in ascending order, then acknowledged -/
  | rdmaWrite (qp : BitVec 12) (psn : BitVec 24) (rkey : W32) (address : W64) (data : List Byte) (ce : Bool) (form : WriteForm := .plain)
  /-- `RDMA_READ` (R319): An inbound RDMA READ is checked and served or NAKed -/
  | rdmaRead (qp : BitVec 12) (psn : BitVec 24) (rkey : W32) (address : W64) (length : W32) (ce : Bool)
  /-- `RDMA_SEND` (R323): An inbound SEND is placed into a receive ring entry or NAKed -/
  | rdmaSend (qp : BitVec 12) (psn : BitVec 24) (data : List Byte) (imm : Option W32) (ce : Bool)
  /-- `SEAL` (R333): A write covering a seal record is placed, stamped with SEAL_TIME and posted to Turret -/
  | seal (qp : BitVec 12) (psn : BitVec 24) (rkey : W32) (address : W64) (bytes : Vector Byte 16) (ce : Bool := false)
  /-- `RDMA_ACK` (R329): The acknowledgement of a transfer's last packet completes an HWRITE or HSEND -/
  | rdmaAck (qp : BitVec 12) (psn : BitVec 24) (nak : Option NakKind) (ce : Bool := false)
  /-- `QP_RETRY_EXHAUSTED` (R321): Exhausted retries or a fatal NAK move a queue pair to ERROR -/
  | qpRetryExhausted (qp : BitVec 12)
  /-- `CNP` (R324): A received CNP reduces the queue pair's rate -/
  | cnp (qp : BitVec 12)
  /-- `T_ALPHA` (R324): Each T_ALPHA without a CNP decays alpha -/
  | tAlpha (qp : BitVec 12)
  /-- `T_INC` (R324): Each T_INC without a CNP raises the queue pair's rate -/
  | tInc (qp : BitVec 12)
  /-- `PFC_PAUSE` (R326): A PFC frame pauses or resumes a priority -/
  | pfcPause (h : Fin 8) (enables : Byte) (quanta : Vector (BitVec 16) 8)
  /-- `PTP` (R327): A PTP message is time-stamped and used by the slave-only clock -/
  | ptp (h : Fin 8) (msg : PtpMsg)
  /-- `LLDP` (R396): A received LLDP frame updates the topology record for the port -/
  | lldp (h : Fin 8) (chassis : List Byte) (port : List Byte)
  /-- `LLDP_SEND` (R316): Every 30 s the module sends LLDP on each port and half -/
  | lldpSend (h : Fin 8)
  /-- `ARP_REQUEST` (R316): An ARP request or IPv6 neighbour solicitation for the port's address is answered -/
  | arpRequest (h : Fin 8) (ipv6 : Bool) (address : W128)
  /-- `ETH_FRAME_DISCARD` (R316): A frame with FCS error, too long or unhandled is discarded and counted -/
  | ethFrameDiscard (h : Fin 8) (bad : BadFrame := .unhandled)
  /-- `ETH_LINK_DOWN` (R475): An Ethernet port loses link, raising source 18 and moving its queue pairs to ERROR -/
  | ethLinkDown (h : Fin 8)
  /-- `MGMT_WRITE` (R345): A management-port write frame is placed into channel areas and acknowledged -/
  | mgmtWrite (channel : Byte) (xseq : BitVec 16) (length : BitVec 16) (target : BitVec 24) (address : BitVec 48) (data : List Byte)
  /-- `MGMT_READ` (R345): A management-port read frame is answered with read data or refused -/
  | mgmtRead (channel : Byte) (xseq : BitVec 16) (length : BitVec 16) (target : BitVec 24) (address : BitVec 48)
  /-- `HEARTBEAT` (R430): A seat-0 HEARTBEAT ends orphan operation and announces master epochs -/
  | heartbeat (frame : BFrame)
  /-- `HEARTBEAT_SEND` (R415): Every 10 ms the module broadcasts its HEARTBEAT -/
  | heartbeatSend
  /-- `LEASE` (R425): A LEASE sets the module's token holding and token term -/
  | lease (frame : BFrame)
  /-- `SEAT_ASSIGN` (R417): A SEAT_ASSIGN gives the module its seat -/
  | seatAssign (frame : BFrame)
  /-- `COOLANT` (R419): A COOLANT frame supplies inlet, outlet and flow readings -/
  | coolant (frame : BFrame)
  /-- `ALERT` (R420): An ALERT from another member is counted and traced only -/
  | alert (frame : BFrame)
  /-- `WAKE` (R408): A WAKE brings the module out of STANDBY or DARK, subject to coolant checks -/
  | wake (frame : BFrame)
  /-- `TICK_MARKER` (R418): A received marker is forwarded and its offset measured -/
  | tickMarker (count : BitVec 16) (hops : Byte)
  /-- `BELFRY_FRAME_FORWARD` (R414): An open member removes, consumes or forwards a ring frame -/
  | belfryFrameForward (type : Byte) (frame : BFrame) (crcOk : Bool)
  /-- `MARKER_LOST` (R418): Three tick periods without a marker suspend the marker source and cross-check -/
  | markerLost
  /-- `MARKER_MISMATCH` (R36): Three consecutive ticks over 1 µs of difference set MARKER_MISMATCH -/
  | markerMismatch
  /-- `MASTERLESS` (R427): 50 ms without a seat-0 frame freezes the holding -/
  | masterless
  /-- `ORPHAN` (R429): 30 s without a seat-0 HEARTBEAT applies the orphan cap -/
  | orphan
  /-- `COOLANT_ASSUMED` (R419): Three ticks without a valid inlet reading assume 45 °C and unknown flow -/
  | coolantAssumed
  /-- `VR_ALERT_N` (R447): Assertion of VR_ALERT_N forces LOWEST by hardware -/
  | vrAlertN (own : Bool)
  /-- `VR_ALERT_END` (R441): VR_ALERT_N deasserted for 1 ms ends its LOWEST cause -/
  | vrAlertEnd
  /-- `REGULATOR_ALERT` (R447): VR_ALERT_N asserted over 10 s raises the regulator-alert source -/
  | regulatorAlert
  /-- `SUPPLY_WARNING` (R443): Input below 47 V for 20 µs forces LOWEST and starts the warning flush -/
  | supplyWarning (volts : BitVec 16)
  /-- `SUPPLY_GLITCH` (R443): A dip below 47 V shorter than 20 µs is counted only -/
  | supplyGlitch (volts : BitVec 16)
  /-- `SUPPLY_RECOVERY` (R443): Input above 48 V for 5 ms after the flush ends the warning cause -/
  | supplyRecovery (volts : BitVec 16)
  /-- `SUPPLY_RESET` (R444): Input below 43 V for 2 µs removes compute domains and resets the module -/
  | supplyReset (volts : BitVec 16) (holdup : Bool)
  /-- `OVER_VOLTAGE_RESET` (R444): Input above 59.5 V for 10 µs resets the module -/
  | overVoltageReset (volts : BitVec 16)
  /-- `DROOP` (R448): A droop detector stretches the Spire's cycles -/
  | droop (spire : Fin 4) (detector : Fin 8 := 0)
  /-- `DROOP_LONG` (R448): A droop reaching 200 ns ends stretching and raises the droop source -/
  | droopLong (spire : Fin 4)
  /-- `THERMAL_SAMPLE` (R451): Each 100 µs Lantern resolves hot spots and sets thermal rates -/
  | thermalSample (spots : List SpotSample)
  /-- `SENSOR_PAIR` (R450): A sensor pair splits for 100 ms or turns implausible and changes status -/
  | sensorPair (spot : Fin 128)
  /-- `THERMAL_EMERGENCY` (R453): A hot spot at 105 °C for 10 ms at lowest target, or 108 °C, forces LOWEST -/
  | thermalEmergency (spire : Fin 4)
  /-- `THERMAL_TRIP` (R454): The hardware comparator trips, asserting THERM_TRIP_N and removing domains -/
  | thermalTrip (spot : Fin 128)
  /-- `ORDERLY_HALT` (R457): Low flow or high inlet for 1 s releases plans, flushes and enters STANDBY -/
  | orderlyHalt
  /-- `SUDDEN_COOLANT_LOSS` (R458): Fast heating or no flow forces LOWEST, an emergency flush and STANDBY -/
  | suddenCoolantLoss
  /-- `DOMAIN_REMOVAL` (R407): 100 ms after a STANDBY or OFF flush ends, Keep removes the domains -/
  | domainRemoval
  /-- `PWR_EN_ASSERT` (R576): PWR_EN high for 1 ms counts as an assertion -/
  | pwrEnAssert
  /-- `AON_POWER_ON` (R582): With PWR_EN counted and input above 48 V for 100 ms, the supervisor powers AON -/
  | aonPowerOn
  /-- `PWR_EN_DEASSERT` (R583): PWR_EN low for 20 ms counts and the module removes power -/
  | pwrEnDeassert
  /-- `AON_POWER_LOSS` (R444): Input below 36 V removes AON and closes the bypass -/
  | aonPowerLoss
  /-- `LANTERN_READY` (R416): Lantern becomes ready and opens the Belfry bypass -/
  | lanternReady
  /-- `TURRET_WATCHDOG` (R369): 500 ms without a Turret heartbeat raises the watchdog source -/
  | turretWatchdog
  /-- `KEEP_LOCKSTEP` (R370): A Keep lockstep mismatch stops Keep and enters the safe state -/
  | keepLockstep
  /-- `COLLECTOR_CHECK` (R483): A collector parity or copy mismatch enters the safe state -/
  | collectorCheck
  /-- `MARGIN_REVIEW` (R461): Every 720 powered hours Keep reviews path slack and training margins -/
  | marginReview (slack : Vector (BitVec 16) 4) (margins : W64)
  /-- `SCRUB` (R470): A background scrub reads and corrects memory and reports errors -/
  | scrub (address : W64) (outcome : ScrubOutcome)
  /-- `DOMAIN_RETURN` (R497): A reset domain returns, resynchronises and its fence lifts at the next tick -/
  | domainReturn (kind : Byte) (unit : Byte) (ok : Bool)
  /-- `DOMAIN_DEADLINE` (R493): A domain reset missing its deadline raises source 7 and resets the module -/
  | domainDeadline (kind : Byte) (unit : Byte)
  /-- `START` (R386): Keep's ROM leaves reset, selects the start type and runs KEEP_BOOT -/
  | start (romOk : Bool) (fuseOk : Bool) (storeOk : Bool) (crcBad : BitVec 46 := 0)
  /-- `CUPOLA` (R388): Cupola main is powered, Turret verified and started, LPDDR6 restored, journal drained and tier-3 map rebuilt -/
  | cupola (lpFail : Option Byte) (hashOk : Bool) (mapFail : Option Byte) (retrained : BitVec 24 := 0)
  /-- `SPIRES` (R388): Spire and HBM domains are powered and trained, runtime fetched and self-tested -/
  | spires (hbmFail : Option Byte) (testFail : Option Byte) (hashFail : Option Bool) (retrained : BitVec 12 := 0)
  /-- `CORE_FETCH` (R394): A core's fetch unit copies an image and writes its FETCH_STATUS -/
  | coreFetch (core : BitVec 8)
  /-- `MEMORY_TEST` (R393): The memory test runs its passes, adds remaps and zeroes tiers 1 and 2 -/
  | memoryTest (rows : List (W64))
  /-- `LINKS` (R388): Plane and Ethernet ports train and the time base acquires a source -/
  | links (source : BitVec 3)
  /-- `START_LIMIT` (R398): The start limit passes and the start fails with cause 10 -/
  | startLimit
  /-- `REGISTER_WRITE` (R10): A write to a register without its own row sets, clears or ignores fields per access code -/
  | registerWrite (master : Master) (reg : Reg) (value : W64)
  /-- `NOP` (R354): Command with no effect -/
  | nop (channel : Fin 18) (slot : Fin 64)
  /-- `CHANNEL_OPEN` (R350): Open a host channel and return its key -/
  | channelOpen (channel : Fin 18) (slot : Fin 64)
  /-- `CHANNEL_CLOSE` (R350): Close a host channel -/
  | channelClose (channel : Fin 18) (slot : Fin 64)
  /-- `OUTBOX_SET` (R330): Set an outbox window -/
  | outboxSet (channel : Fin 18) (slot : Fin 64)
  /-- `ETH_PORT_SET` (R315): Set an Ethernet port's mode, VLAN and PFC -/
  | ethPortSet (channel : Fin 18) (slot : Fin 64)
  /-- `ETH_ADDR_SET` (R356): Set a port's IP addresses -/
  | ethAddrSet (channel : Fin 18) (slot : Fin 64)
  /-- `ETH_CONG_SET` (R356): Set congestion parameters -/
  | ethCongSet (channel : Fin 18) (slot : Fin 64)
  /-- `PTP_SET` (R356): Set PTP domain, ports and asymmetry -/
  | ptpSet (channel : Fin 18) (slot : Fin 64)
  /-- `ETH_STATUS` (R357): Return Ethernet port status -/
  | ethStatus (channel : Fin 18) (slot : Fin 64)
  /-- `QP_CREATE` (R358): Create a queue pair -/
  | qpCreate (channel : Fin 18) (slot : Fin 64)
  /-- `QP_CONNECT` (R359): Connect a queue pair to READY -/
  | qpConnect (channel : Fin 18) (slot : Fin 64)
  /-- `QP_DESTROY` (R358): Destroy a queue pair -/
  | qpDestroy (channel : Fin 18) (slot : Fin 64)
  /-- `QP_STATUS` (R360): Return queue pair status -/
  | qpStatus (channel : Fin 18) (slot : Fin 64)
  /-- `REGION_REGISTER` (R322): Register a host-visible region -/
  | regionRegister (channel : Fin 18) (slot : Fin 64)
  /-- `REGION_RELEASE` (R354): Release a registered region -/
  | regionRelease (channel : Fin 18) (slot : Fin 64)
  /-- `PLAN_ADMIT` (R49): Check and admit a frame plan -/
  | planAdmit (channel : Fin 18) (slot : Fin 64)
  /-- `PLAN_RELEASE` (R52): Unbind a plan after its current frame -/
  | planRelease (channel : Fin 18) (slot : Fin 64)
  /-- `PLAN_LIST` (R362): List admitted plans -/
  | planList (channel : Fin 18) (slot : Fin 64)
  /-- `CTX_STATUS_READ` (R353): Return a context's status -/
  | ctxStatusRead (channel : Fin 18) (slot : Fin 64)
  /-- `CORE_FAULT_READ` (R353): Return a core's latest fault record -/
  | coreFaultRead (channel : Fin 18) (slot : Fin 64)
  /-- `OVERRUN_READ` (R353): Return and remove overrun records -/
  | overrunRead (channel : Fin 18) (slot : Fin 64)
  /-- `TICK_PERIOD_SET` (R41): Change the tick period -/
  | tickPeriodSet (channel : Fin 18) (slot : Fin 64)
  /-- `TIME_ROLE_SET` (R361): Set the rack-reference role -/
  | timeRoleSet (channel : Fin 18) (slot : Fin 64)
  /-- `TIME_READ` (R362): Return time base registers -/
  | timeRead (channel : Fin 18) (slot : Fin 64)
  /-- `FLOOR_SET` (R48): Keep raises or lowers the admission floor -/
  | floorSet (channel : Fin 18) (slot : Fin 64)
  /-- `PARTITION_SET` (R27): Change the partition count at a tick -/
  | partitionSet (channel : Fin 18) (slot : Fin 64)
  /-- `OBJECT_CREATE` (R188): Create a persistent state object -/
  | objectCreate (channel : Fin 18) (slot : Fin 64)
  /-- `OBJECT_DELETE` (R189): Delete a persistent object -/
  | objectDelete (channel : Fin 18) (slot : Fin 64)
  /-- `OBJECT_READ` (R352): Copy object pages into a registered region -/
  | objectRead (channel : Fin 18) (slot : Fin 64)
  /-- `OBJECT_WRITE` (R352): Copy region pages into an object through the journal -/
  | objectWrite (channel : Fin 18) (slot : Fin 64)
  /-- `OBJECT_STATUS` (R192): Return an object's status record -/
  | objectStatus (channel : Fin 18) (slot : Fin 64)
  /-- `JOURNAL_FLUSH` (R208): Run an orderly flush with no deadline -/
  | journalFlush (channel : Fin 18) (slot : Fin 64)
  /-- `PAGER_READ` (R189): Return pager counters -/
  | pagerRead (channel : Fin 18) (slot : Fin 64)
  /-- `GROUP_READ` (R364): Return a group-table slot -/
  | groupRead (channel : Fin 18) (slot : Fin 64)
  /-- `PLINK_SET` (R363): Enable, disable or retrain a plane port -/
  | plinkSet (channel : Fin 18) (slot : Fin 64)
  /-- `PLINK_ARB_SET` (R263): Set VC arbitration weights -/
  | plinkArbSet (channel : Fin 18) (slot : Fin 64)
  /-- `PLINK_READ` (R363): Return plane port registers -/
  | plinkRead (channel : Fin 18) (slot : Fin 64)
  /-- `COUNTER_READ` (R541): Return counter snapshot or delta values -/
  | counterRead (channel : Fin 18) (slot : Fin 64)
  /-- `TRACE_SET` (R543): Configure Burin tracing and export -/
  | traceSet (channel : Fin 18) (slot : Fin 64)
  /-- `TRACE_READ` (R547): Return trace ring records -/
  | traceRead (channel : Fin 18) (slot : Fin 64)
  /-- `STIPPLE_SET` (R551): Configure Stipple monitors -/
  | stippleSet (channel : Fin 18) (slot : Fin 64)
  /-- `STIPPLE_READ` (R554): Return and optionally clear monitors -/
  | stippleRead (channel : Fin 18) (slot : Fin 64)
  /-- `FAULT_HISTORY_READ` (R481): Return fault history and optionally release a PIN hold -/
  | faultHistoryRead (channel : Fin 18) (slot : Fin 64)
  /-- `FAULT_REACTION_SET` (R479): Set fault source reactions -/
  | faultReactionSet (channel : Fin 18) (slot : Fin 64)
  /-- `DOMAIN_RESET` (R506): Reset a named domain with fence and return -/
  | domainReset (channel : Fin 18) (slot : Fin 64)
  /-- `MODULE_RESET` (R507): Perform a commanded module reset -/
  | moduleReset (channel : Fin 18) (slot : Fin 64)
  /-- `HANG_SET` (R492): Set hang ticks and sample windows and return hang records -/
  | hangSet (channel : Fin 18) (slot : Fin 64)
  /-- `POWER_REQUEST` (R406): Set or withdraw a channel's power cap request -/
  | powerRequest (channel : Fin 18) (slot : Fin 64)
  /-- `POWER_ORDER` (R407): Order STANDBY, OFF or a token policy -/
  | powerOrder (channel : Fin 18) (slot : Fin 64)
  /-- `ORPHAN_CAP_SET` (R429): Set the orphan cap percentage -/
  | orphanCapSet (channel : Fin 18) (slot : Fin 64)
  /-- `POWER_READ` (R464): Return power and thermal status -/
  | powerRead (channel : Fin 18) (slot : Fin 64)
  /-- `AGEING_READ` (R465): Return ageing data -/
  | ageingRead (channel : Fin 18) (slot : Fin 64)
  /-- `PAIR_SET` (R510): Form or dissolve a mirror pair -/
  | pairSet (channel : Fin 18) (slot : Fin 64)
  /-- `LEASE_GRANT` (R513): Grant, renew or revoke the action lease -/
  | leaseGrant (channel : Fin 18) (slot : Fin 64)
  /-- `SWITCH_OVER` (R529): Release the lease to a caught-up standby -/
  | switchOver (channel : Fin 18) (slot : Fin 64)
  /-- `MIRROR_WINDOW_SET` (R518): Define a mirror window and reserve its buffer -/
  | mirrorWindowSet (channel : Fin 18) (slot : Fin 64)
  /-- `PAIR_READ` (R533): Return pair status -/
  | pairRead (channel : Fin 18) (slot : Fin 64)
  /-- `ATTEST` (R385): Return a signed attestation report or certificate -/
  | attest (channel : Fin 18) (slot : Fin 64)
  /-- `IMAGE_UPDATE` (R378): Verify and store a firmware bundle, optionally activating it -/
  | imageUpdate (channel : Fin 18) (slot : Fin 64)
  /-- `SERVICE_MODE` (R380): Enter or leave service mode, forget training, clear settings or read the defect map -/
  | serviceMode (channel : Fin 18) (slot : Fin 64)
  /-- `KEY_ENROL` (R382): Add or revoke an operator key -/
  | keyEnrol (channel : Fin 18) (slot : Fin 64)
  /-- `TOPOLOGY_SET` (R395): Store the expected-topology record and evaluate it -/
  | topologySet (channel : Fin 18) (slot : Fin 64)
  /-- `STATE_READ` (R435): Return unit records, power log, bring-up or Lantern status -/
  | stateRead (channel : Fin 18) (slot : Fin 64)
  /-- `FLIT_CRC_FAILED` (R259): A plane flit arrives with a failing CRC or an unexpected SEQ; the receiver discards it, counts it and sends a NAK naming the expected SEQ -/
  | flitCrcFailed (port : Fin 6)
  /-- `BAD_FLITS` (R258): A flit that passes its CRC but carries an unassigned TYPE, a TYPE on the wrong VC, VC7 or a reserved bit is discarded and counted, while its SEQ and ACK_SEQ are still accepted -/
  | badFlits (rx : Rx) (reserved : Bool) (vc : Byte) (type : Byte)
  /-- `LINK_INIT_SEND` (R274): While a port is in INIT, every 10 µs it sends a LINK_INIT flit with its current INIT_SEEN -/
  | linkInitSend (port : Fin 6)
  /-- `LAST_FLIT_LEAVES` (R86): The last flit of a SEND without ACK, or of a SIGNAL, leaves the Spire and the sender's wait counter is raised -/
  | lastFlitLeaves (core : BitVec 8) (op : BitVec 6)
  /-- `ETH_LINK_UP` (R433): An Ethernet port or half gains PHY link, is published as up with a new state epoch and becomes usable for queue pairs and topology items -/
  | ethLinkUp (h : Fin 8)
  /-- `QP_ACK_TIMEOUT` (R321): A queue pair's ACK timeout of 4.096 µs × 2^t expires with retries left, and the engine retransmits and counts the retry -/
  | qpAckTimeout (qp : BitVec 12)
  /-- `MGMT_PORT_DOWN` (R434): The management port loses link; Keep publishes unit 31 as down with a new state epoch while the data path keeps serving -/
  | mgmtPortDown
  /-- `MGMT_PORT_UP` (R431): The management port gains link; Keep publishes unit 31 as up with a new state epoch -/
  | mgmtPortUp
  /-- `DROOP_END` (R448): The droop detector sees the core supply recover before 200 ns, and the Spire's clock stops stretching -/
  | droopEnd (spire : Fin 4) (lasted : Byte)
  /-- `THERMAL_TRIP_RELEASE` (R576): PWR_EN has been deasserted continuously for 100 ms after a thermal trip, so the supervisor releases THERM_TRIP_N and clears the trip latch -/
  | thermalTripRelease
  /-- `STANDBY_RESUME` (R408): After a WAKE, Keep finishes powering the domains, HBM training, self-test and zeroing of tier 1, and Turret resumes its scans -/
  | standbyResume (failure : Option (Byte × W32))
  /-- `REGISTER_PARITY` (R475): A parity error appears in a configuration register of a unit and raises source 15, with its reactions, including a block reset of the unit's domain -/
  | registerParity (kind : Byte) (unit : Byte)
  /-- `MIRROR_COPY_COMPLETE` (R519): The holder's mirror unit finishes copying a frame's written granules or pages into the mirror buffer, releases writes held for the copy and sends the records -/
  | mirrorCopyComplete (part : Fin 4)
  /-- `OBJECT_COPY_DONE` (R352): The last page of an OBJECT_READ or OBJECT_WRITE is done, and Turret writes the command's response, or UNCORRECTABLE with the pages copied -/
  | objectCopyDone (channel : Fin 18) (slot : Fin 64) (t3 : T3Read)
  /-- `BUNDLE_WRITE_DONE` (R378): Keep finishes writing and reading back a bundle into the image store, answers DONE and, with ACTIVATE 1, performs a commanded module reset -/
  | bundleWriteDone (readBack : Bool)
  deriving DecidableEq, Repr

end Sys2Proof
end

