-- ==== Sys2Proof/Machine/Bits.lean ====
section
/-! DEFINITION. Machine/Bits.lean: sparse tables, bit fields, little-endian byte fields (R8) and the cyclic redundancy checks the spec names. -/
namespace Sys2Proof.Machine

/-- The entry of a sparse table at a key: its default where the table lists none. -/
def tabGet {α : Type} (d : α) (t : Tab α) (k : Nat) : α :=
  match t with
  | [] => d
  | (i, v) :: rest => if i = k then v else tabGet d rest k

/-- The table with one entry set; a default value is not listed. -/
def tabSet {α : Type} [DecidableEq α] (d : α) (t : Tab α) (k : Nat) (v : α) : Tab α :=
  t.filter (fun p => p.1 < k) ++ (if v = d then [] else [(k, v)]) ++ t.filter (fun p => k < p.1)

/-- The table with one entry changed by a function. -/
def tabMod {α : Type} [DecidableEq α] (d : α) (t : Tab α) (k : Nat) (f : α → α) : Tab α :=
  tabSet d t k (f (tabGet d t k))

/-- Add to one counter of a bank of counters (default 0). -/
def tabBump (t : Tab Nat) (k n : Nat) : Tab Nat := tabMod 0 t k (· + n)

/-- Bits [hi:lo] of a number. -/
def bits (x hi lo : Nat) : Nat := (x >>> lo) % 2 ^ (hi + 1 - lo)

/-- Bit i of a number, as a truth value. -/
def bit (x i : Nat) : Bool := (x >>> i) % 2 == 1

/-- A truth value as a bit. -/
def b2n (b : Bool) : Nat := if b then 1 else 0

/-- The number with bit i set or cleared. -/
def setBit (x i : Nat) (b : Bool) : Nat := x - 2 ^ i * b2n (bit x i) + 2 ^ i * b2n b

/-- The value of an n-bit two's complement number. -/
def toSigned (n x : Nat) : Int :=
  let y := x % 2 ^ n
  if y < 2 ^ (n - 1) then (y : Int) else (y : Int) - (2 ^ n : Nat)

/-- An integer reduced to n bits, two's complement. -/
def ofSigned (n : Nat) (x : Int) : Nat := (x % ((2 ^ n : Nat) : Int)).toNat

/-- The smallest multiple of k at or above n. -/
def alignUp (n k : Nat) : Nat := if k = 0 then n else (n + k - 1) / k * k

/-- The quotient rounded up. -/
def ceilDiv (n k : Nat) : Nat := (n + k - 1) / k

/-- n bytes of a value, least-significant byte first (R8). -/
def leBytes : Nat → Nat → List Byte
  | 0, _ => []
  | n + 1, v => BitVec.ofNat 8 v :: leBytes n (v / 256)

/-- The value of bytes stored least-significant byte first (R8). -/
def leNat : List Byte → Nat
  | [] => 0
  | b :: bs => b.toNat + 256 * leNat bs

/-- The n-byte field at an offset of a byte string, as a number; bytes beyond the string read as 0. -/
def field (bs : List Byte) (off n : Nat) : Nat := leNat ((bs.drop off).take n)

/-- n bytes of a byte string at an offset, padded with zero bytes. -/
def slice (bs : List Byte) (off n : Nat) : List Byte :=
  let s := (bs.drop off).take n
  s ++ List.replicate (n - s.length) 0

/-- n zero bytes: a reserved field (R9). -/
def zeros (n : Nat) : List Byte := List.replicate n 0

/-- A reserved field of n bytes at an offset holds only zeros (R9). -/
def zeroAt (bs : List Byte) (off n : Nat) : Bool := field bs off n == 0

/-- A string of bytes with the bytes at an offset replaced. -/
def patch (bs : List Byte) (off : Nat) (new : List Byte) : List Byte :=
  slice bs 0 off ++ new ++ bs.drop (off + new.length)

/-- Big-endian bytes of a value. -/
def beBytes (n v : Nat) : List Byte := (leBytes n v).reverse

/-- The value of big-endian bytes. -/
def beNat (bs : List Byte) : Nat := leNat bs.reverse

/-- One step of a reflected 32-bit check over one bit. -/
def crcBit32 (poly : Nat) (c : Nat) : Nat := if c % 2 = 1 then (c / 2) ^^^ poly else c / 2

/-- One step of a reflected 32-bit check over one byte. -/
def crcByte32 (poly c : Nat) (b : Byte) : Nat :=
  Nat.repeat (crcBit32 poly) 8 (c ^^^ b.toNat)

/-- A reflected 32-bit check, initial value and final complement all ones. -/
def crcReflected (poly : Nat) (bs : List Byte) : Nat :=
  (bs.foldl (crcByte32 poly) 0xFFFFFFFF) ^^^ 0xFFFFFFFF

/-- CRC-32C (Castagnoli), the check of plans, images, pages and CHECKSUM (R45, R206, R241). -/
def crc32c (bs : List Byte) : Nat := crcReflected 0x82F63B78 bs

/-- CRC-32 of IEEE 802.3, the check of a plane flit (R257). -/
def crc32 (bs : List Byte) : Nat := crcReflected 0xEDB88320 bs

/-- A list with its elements numbered from a first number. -/
def numbered {α : Type} (n : Nat) : List α → List (Nat × α)
  | [] => []
  | a :: as => (n, a) :: numbered (n + 1) as

/-- A byte string cut into pieces of n bytes; fuel bounds the number of pieces. -/
def chunksOf (n : Nat) : Nat → List Byte → List (List Byte)
  | 0, _ => []
  | k + 1, bs => if bs.isEmpty then [] else bs.take n :: chunksOf n k (bs.drop n)

/-- A list has no repeated element. -/
def noRepeats : List Nat → Bool
  | [] => true
  | x :: xs => !xs.contains x && noRepeats xs

/-- The least element of a list, where it has one. -/
def least : List Nat → Option Nat
  | [] => none
  | x :: xs => some (xs.foldl min x)

/-- A 32-bit or wider counter that stops at its greatest value. -/
def satAdd (width a b : Nat) : Nat := min (2 ^ width - 1) (a + b)

/-- Insert into a list sorted by a key, after equal keys. -/
def insertBy {α : Type} (key : α → Nat) (a : α) : List α → List α
  | [] => [a]
  | b :: bs => if key a < key b then a :: b :: bs else b :: insertBy key a bs

/-- A list sorted by a key, equal keys keeping their order. -/
def sortBy {α : Type} (key : α → Nat) (l : List α) : List α := l.foldl (fun acc a => insertBy key a acc) []

/-- Replace the first element that satisfies a test. -/
def updateFirst {α : Type} (p : α → Bool) (f : α → α) : List α → List α
  | [] => []
  | a :: as => if p a then f a :: as else a :: updateFirst p f as

/-- Remove the first element that satisfies a test. -/
def removeFirst {α : Type} (p : α → Bool) : List α → List α
  | [] => []
  | a :: as => if p a then as else a :: removeFirst p as

end Sys2Proof.Machine
end

