-- ==== Sys2Proof/Machine/Formats.lean ====
section
/-! DEFINITION. Machine/Formats.lean: the number formats, roundings, conversions and matrix accumulation of 04_number_formats (R111 to R140). -/
namespace Sys2Proof.Machine

/-- The exact value an element of any format stands for: NaN, an infinity, or (-1)^neg x m x 2^e (m = 0 is a signed zero). -/
inductive Val where
  | nan
  | inf (neg : Bool)
  | fin (neg : Bool) (m : Nat) (e : Int)
  deriving DecidableEq, Repr, Inhabited

/-- A rounding mode in the codes of `CORE_MODE.ROUND` (R73, R129), stochastic with its 16-bit draw (R132). -/
inductive Round where
  | nearest
  | zero
  | stochastic (draw : Nat)
  deriving DecidableEq, Repr

/-- Positive zero. -/
def vZero : Val := .fin false 0 0

/-- An integer as a value. -/
def vInt (i : Int) : Val := .fin (i < 0) i.natAbs 0

/-- A dyadic number as a value; zero is +0. -/
def vDyadic (m e : Int) : Val := .fin (m < 0) m.natAbs e

/-- The sign of a value. -/
def vNeg : Val → Bool
  | .nan => false
  | .inf n => n
  | .fin n _ _ => n

/-- A value with its sign set. -/
def vWithSign (n : Bool) : Val → Val
  | .nan => .nan
  | .inf _ => .inf n
  | .fin _ m e => .fin n m e

/-- The signed mantissa of a finite value. -/
def signedMant (n : Bool) (m : Nat) : Int := if n then -(m : Int) else (m : Int)

/-- m x 2^k for an integer m and a natural k. -/
def shiftInt (m : Int) (k : Nat) : Int := m * ((2 ^ k : Nat) : Int)

/-- The exact sum of two dyadic numbers. -/
def dyAdd (m1 e1 m2 e2 : Int) : Int × Int :=
  let e := min e1 e2
  (shiftInt m1 (e1 - e).toNat + shiftInt m2 (e2 - e).toNat, e)

/-- The exact sum of two values, with the zero signs of IEEE 754 nearest-even (R115). -/
def vAdd (a b : Val) : Val :=
  match a, b with
  | .nan, _ => .nan
  | _, .nan => .nan
  | .inf x, .inf y => if x = y then .inf x else .nan
  | .inf x, _ => .inf x
  | _, .inf y => .inf y
  | .fin n1 m1 e1, .fin n2 m2 e2 =>
    if m1 = 0 ∧ m2 = 0 then .fin (n1 && n2) 0 0
    else
      let r := dyAdd (signedMant n1 m1) e1 (signedMant n2 m2) e2
      vDyadic r.1 r.2

/-- The exact product of two values; 0 x infinity is NaN. -/
def vMul (a b : Val) : Val :=
  match a, b with
  | .nan, _ => .nan
  | _, .nan => .nan
  | .inf x, .inf y => .inf (x != y)
  | .inf x, .fin y m _ => if m = 0 then .nan else .inf (x != y)
  | .fin x m _, .inf y => if m = 0 then .nan else .inf (x != y)
  | .fin x m1 e1, .fin y m2 e2 => .fin (x != y) (m1 * m2) (e1 + e2)

/-- Compare the magnitudes of two dyadic numbers: |m1| x 2^e1 ≤ |m2| x 2^e2. -/
def dyLe (m1 : Nat) (e1 : Int) (m2 : Nat) (e2 : Int) : Bool :=
  let e := min e1 e2
  m1 * 2 ^ (e1 - e).toNat ≤ m2 * 2 ^ (e2 - e).toNat

/-- Total order of non-NaN values used by VMIN, VMAX and the compares: -0 below +0 when `zeros` (R115). -/
def vLe (zeros : Bool) (a b : Val) : Bool :=
  match a, b with
  | .nan, _ => false
  | _, .nan => false
  | .inf true, _ => true
  | _, .inf true => false
  | _, .inf false => true
  | .inf false, _ => false
  | .fin n1 m1 e1, .fin n2 m2 e2 =>
    if m1 = 0 ∧ m2 = 0 then (!zeros) || n1 || !n2
    else
      let e := min e1 e2
      decide (shiftInt (signedMant n1 m1) (e1 - e).toNat ≤ shiftInt (signedMant n2 m2) (e2 - e).toNat)

/-- The parameters of a floating-point format (R114). -/
structure FloatFmt where
  width : Nat
  mant : Nat
  bias : Nat
  /-- code of the largest finite magnitude -/
  top : Nat
  /-- code of infinity, where the format has one -/
  infCode : Option Nat
  /-- canonical NaN code (R116), where the format has a NaN -/
  nanCode : Option Nat
  deriving DecidableEq, Repr

/-- The floating-point formats by format code (R111, R114, R116). -/
def floatFmt : Nat → Option FloatFmt
  | 0x00 => some ⟨32, 23, 127, 0x7F7FFFFF, some 0x7F800000, some 0x7FC00000⟩
  | 0x01 => some ⟨16, 10, 15, 0x7BFF, some 0x7C00, some 0x7E00⟩
  | 0x02 => some ⟨16, 7, 127, 0x7F7F, some 0x7F80, some 0x7FC0⟩
  | 0x03 => some ⟨8, 3, 7, 0x7E, none, some 0x7F⟩
  | 0x04 => some ⟨8, 2, 15, 0x7B, some 0x7C, some 0x7E⟩
  | 0x05 => some ⟨6, 2, 3, 0x1F, none, none⟩
  | 0x06 => some ⟨6, 3, 1, 0x1F, none, none⟩
  | 0x07 => some ⟨4, 1, 1, 0x7, none, none⟩
  | _ => none

/-- Width in bits of an element of a format; a microscaling format has its element's width (R111). -/
def fmtWidth : Nat → Nat
  | 0x00 => 32 | 0x01 => 16 | 0x02 => 16 | 0x03 => 8 | 0x04 => 8 | 0x05 => 6 | 0x06 => 6 | 0x07 => 4
  | 0x08 => 8 | 0x09 => 6 | 0x0A => 4 | 0x0B => 8 | 0x0C => 8 | 0x0D => 4 | 0x0E => 32 | 0x0F => 8 | 0x10 => 320
  | _ => 0

/-- A microscaling format code (R119). -/
def isMx (f : Nat) : Bool := 0x08 ≤ f && f ≤ 0x0B

/-- The element format of a microscaling format and its variant (R112); MXI8 elements are I8. -/
def mxElem (f variant : Nat) : Nat :=
  if f = 0x08 then (if variant = 0 then 0x03 else 0x04)
  else if f = 0x09 then (if variant = 0 then 0x05 else 0x06)
  else if f = 0x0A then 0x07
  else 0x0C

/-- Width of an integer format, where the code names one (R118). -/
def intWidth : Nat → Option Nat
  | 0x0C => some 8 | 0x0D => some 4 | 0x0E => some 32 | _ => none

/-- The value of a code of a floating-point format (R114). -/
def decodeFloat (f : FloatFmt) (code : Nat) : Val :=
  let neg := bit code (f.width - 1)
  let mag := code % 2 ^ (f.width - 1)
  let frac := mag % 2 ^ f.mant
  let ex := mag / 2 ^ f.mant
  if some mag = f.infCode then .inf neg
  else if mag > f.top then .nan
  else if ex = 0 then .fin neg frac (1 - (f.bias : Int) - f.mant)
  else .fin neg (2 ^ f.mant + frac) ((ex : Int) - f.bias - f.mant)

/-- T[f] of LG8 as k + 128 (R122). -/
def lgTable : List Nat := [128, 140, 152, 166, 181, 197, 215, 235]

/-- The magnitude of an LG8 code m from 1 to 127: mantissa and exponent (R122). -/
def lgMag (m : Nat) : Nat × Int :=
  let d : Int := (m : Int) - 64
  (lgTable.getD (d % 8).toNat 128, d / 8 - 7)

/-- The value of an LG8 byte; invalid 0x80 is NaN (R122, R124). -/
def decodeLg (code : Nat) : Val :=
  let m := code % 128
  if m = 0 then (if bit code 7 then .nan else vZero)
  else .fin (bit code 7) (lgMag m).1 (lgMag m).2

/-- The value of an element of a format that is not microscaling (R111). -/
def decodeElem (f code : Nat) : Val :=
  match floatFmt f with
  | some ff => decodeFloat ff code
  | none =>
    match intWidth f with
    | some w => vInt (toSigned w code)
    | none => if f = 0x0F then decodeLg code else .nan

/-- Whether a magnitude between two neighbours rounds away from zero, from the low neighbour's parity, the remainder and the
divisor (R130, R132). -/
def roundsUp (r : Round) (lowOdd : Bool) (rem div : Nat) : Bool :=
  match r with
  | .nearest => rem * 2 > div || (rem * 2 == div && lowOdd)
  | .zero => false
  | .stochastic d => d < 65536 * rem / div

/-- A magnitude m x 2^e rounded to a multiple of 2^q: the multiple. -/
def roundQuantum (r : Round) (m : Nat) (e q : Int) : Nat :=
  if q ≤ e then m * 2 ^ (e - q).toNat
  else
    let d := 2 ^ (q - e).toNat
    let lo := m / d
    if m % d ≠ 0 ∧ roundsUp r (lo % 2 == 1) (m % d) d then lo + 1 else lo

/-- A value converted to a floating-point format (R130, R131, R135). -/
def encodeFloat (f : FloatFmt) (r : Round) (v : Val) : Nat :=
  let sign (n : Bool) (c : Nat) : Nat := if n then 2 ^ (f.width - 1) + c else c
  match v with
  | .nan => f.nanCode.getD 0
  | .inf n => sign n (f.infCode.getD f.top)
  | .fin n m e =>
    if m = 0 then sign n 0
    else
      let qmin : Int := 1 - (f.bias : Int) - f.mant
      let q : Int := max (e + (Nat.log2 m : Nat) - f.mant) qmin
      let c := (q - qmin).toNat * 2 ^ f.mant + roundQuantum r m e q
      if c > f.top then
        sign n (match r, f.infCode with
          | .zero, _ => f.top
          | _, some i => i
          | _, none => f.top)
      else sign n c

/-- A value converted to an integer format: rounded, then saturated; NaN gives 0 (R118, R135). -/
def encodeInt (w : Nat) (r : Round) (v : Val) : Nat :=
  let hi : Int := ((2 ^ (w - 1) : Nat) : Int) - 1
  let lo : Int := -((2 ^ (w - 1) : Nat) : Int)
  match v with
  | .nan => 0
  | .inf n => ofSigned w (if n then lo else hi)
  | .fin n m e => ofSigned w (max lo (min hi (signedMant n (roundQuantum r m e 0))))

/-- The largest LG8 code, 0 standing for the magnitude 0, not above a magnitude (R125); searched from 127 down. -/
def lgFloor (m : Nat) (e : Int) : Nat → Nat
  | 0 => 0
  | k + 1 => if dyLe (lgMag (k + 1)).1 (lgMag (k + 1)).2 m e then k + 1 else lgFloor m e k

/-- The magnitude of an LG8 candidate, 0 standing for zero (R125). -/
def lgCand (c : Nat) : Nat × Int := if c = 0 then (0, -15) else lgMag c

/-- A value converted to LG8 (R125). -/
def encodeLg (r : Round) (v : Val) : Nat :=
  match v with
  | .nan => 0x80
  | .inf n => b2n n * 128 + 127
  | .fin n m e =>
    if m = 0 then 0
    else
      let k := lgFloor m e 127
      let k' :=
        if k = 127 then 127
        else
          let x := min e (-15)
          let up (p : Nat × Int) : Nat := p.1 * 2 ^ (p.2 - x).toNat
          let lo := up (lgCand k)
          let hi := up (lgCand (k + 1))
          let d := up (m, e) - lo
          if d ≠ 0 ∧ roundsUp r (k % 2 == 1) d (hi - lo) then k + 1 else k
      if k' = 0 then 0 else b2n n * 128 + k'

/-- A value converted to an element of a format that is not microscaling (R135). -/
def encodeElem (f : Nat) (r : Round) (v : Val) : Nat :=
  match floatFmt f with
  | some ff => encodeFloat ff r v
  | none =>
    match intWidth f with
    | some w => encodeInt w r v
    | none => if f = 0x0F then encodeLg r v else 0

/-- An element converted from one format to another (R135). -/
def convertElem (src dst : Nat) (r : Round) (code : Nat) : Nat := encodeElem dst r (decodeElem src code)

/-- The F32 value of a 32-bit word. -/
def f32Val (w : Nat) : Val := decodeElem 0 w

/-- A value rounded to F32 nearest-even (R129). -/
def f32Of (v : Val) : Nat := encodeElem 0 .nearest v

/-- F32 addition, nearest-even. -/
def f32Add (a b : Nat) : Nat := f32Of (vAdd (f32Val a) (f32Val b))

/-- F32 negation of a value: a NaN gives the canonical NaN (R116). -/
def vNegate (v : Val) : Val := vWithSign (!vNeg v) v

/-- F32 maximum and minimum with -0 below +0 and NaN canonical (R115, R116). -/
def f32Max (a b : Nat) : Nat :=
  match f32Val a, f32Val b with
  | .nan, _ => 0x7FC00000
  | _, .nan => 0x7FC00000
  | x, y => if vLe true x y then b else a

/-- F32 minimum. -/
def f32Min (a b : Nat) : Nat :=
  match f32Val a, f32Val b with
  | .nan, _ => 0x7FC00000
  | _, .nan => 0x7FC00000
  | x, y => if vLe true x y then a else b

/-- The position of element i of width w in a packed register or byte string (R113). -/
def elemAt (w x i : Nat) : Nat := (x >>> (w * i)) % 2 ^ w

/-- Elements packed from element 0 up (R113). -/
def packElems (w : Nat) : List Nat → Nat
  | [] => 0
  | c :: cs => c % 2 ^ w + (packElems w cs) * 2 ^ w

/-- The value of an element of a microscaling block: element times scale; scale 0xFF is NaN (R119, R121). MXI8 elements
carry 2^-6. -/
def mxVal (f variant scale code : Nat) : Val :=
  if scale = 0xFF then .nan
  else
    match decodeElem (mxElem f variant) code with
    | .fin n m e => .fin n m (e + (scale : Int) - 127 - (if f = 0x0B then 6 else 0))
    | v => v

/-- The exponent of the element format's largest power of two (R120). -/
def mxTopExp (f variant : Nat) : Int :=
  if f = 0x0B then 0
  else match mxElem f variant with
    | 0x03 => 8 | 0x04 => 15 | 0x05 => 4 | 0x06 => 2 | _ => 2

/-- Floor of log2 of a non-zero magnitude. -/
def floorLog2 (m : Nat) (e : Int) : Int := e + (Nat.log2 m : Nat)

/-- The largest of the magnitudes of finite values, as (m, e); (0, 0) when all are zero. -/
def maxMag (vs : List Val) : Nat × Int :=
  vs.foldl (fun acc v => match v with
    | .fin _ m e => if dyLe acc.1 acc.2 m e then (m, e) else acc
    | _ => acc) (0, 0)

/-- One element of a packed block: the value divided by the scale, converted, held to the largest finite value with its
sign (R120 step 3): for an MXI8 element that is 127 or -127 (log 31). -/
def mxPackElem (f variant : Nat) (x : Int) (r : Round) (v : Val) : Nat :=
  let el := mxElem f variant
  match v with
  | .fin n m e =>
    let scaled := Val.fin n m (e - x + (if f = 0x0B then 6 else 0))
    let code := encodeElem el r scaled
    match floatFmt el with
    | some ff => if code % 2 ^ (ff.width - 1) > ff.top then b2n n * 2 ^ (ff.width - 1) + ff.top else code
    | none => if code = 0x80 then 0x81 else code
  | _ => 0

/-- 32 values packed into a block: the scale byte and the element codes (R120); `rs` gives the rounding of each element. -/
def mxPack (f variant : Nat) (rs : List Round) (vs : List Val) : Nat × List Nat :=
  if vs.any (fun v => match v with | .fin _ _ _ => false | _ => true) then (0xFF, vs.map (fun _ => 0))
  else
    let a := maxMag vs
    let x : Int := if a.1 = 0 then 0 else max (-127) (min 127 (floorLog2 a.1 a.2 - mxTopExp f variant))
    ((127 + x).toNat, List.zipWith (mxPackElem f variant x) rs vs)

/-- PLATE: `NONFINITE` is bit 319 alone (R126). -/
def plateNonfinite : Nat := 2 ^ 319

/-- A value as a PLATE word: finite values of the formats of R127 lie on its grid. -/
def plateOf (v : Val) : Nat :=
  match v with
  | .fin n m e =>
    if 0 ≤ e + 149 then ofSigned 320 (shiftInt (signedMant n m) (e + 149).toNat)
    else ofSigned 320 (signedMant n (m / 2 ^ (-(e + 149)).toNat))
  | _ => plateNonfinite

/-- PLATE addition (R127). -/
def plateAdd (a b : Nat) : Nat :=
  if a = plateNonfinite ∨ b = plateNonfinite then plateNonfinite else (a + b) % 2 ^ 320

/-- The value of a PLATE word (R128): `NONFINITE` is NaN, zero is +0. -/
def plateVal (a : Nat) : Val := if a = plateNonfinite then .nan else vDyadic (toSigned 320 a) (-149)

/-- The 64-bit mixing function of the stochastic rounding generator (R133). -/
def srMix (z : Nat) : Nat :=
  let z1 := ((z ^^^ (z >>> 30)) * 0xBF58476D1CE4E5B9) % 2 ^ 64
  let z2 := ((z1 ^^^ (z1 >>> 27)) * 0x94D049BB133111EB) % 2 ^ 64
  z2 ^^^ (z2 >>> 31)

/-- The key K of a frame's generator (R133). -/
def srKey (seed core ordinal : Nat) : Nat :=
  srMix ((seed ^^^ ((core <<< 48) % 2 ^ 64) ^^^ ordinal) % 2 ^ 64)

/-- Draw e of an instruction whose words begin at w (R133). -/
def srDraw (key w e : Nat) : Nat :=
  ((srMix ((key + (w + e / 4) * 0x9E3779B97F4A7C15) % 2 ^ 64)) >>> (16 * (e % 4))) % 65536

/-- The rounding of element e for a mode code, with the draws of key and w where the mode is stochastic (R129, R134). -/
def roundFor (mode key w e : Nat) : Round :=
  if mode = 2 then .stochastic (srDraw key w e) else if mode = 1 then .zero else .nearest

/-- ln 2 x 2^320, truncated. -/
def ln2Fix : Nat := 1480553391661173448385607439722553250922680800745876974795605978609098082859138712941075737848984

/-- Terms of the exponential series from term n, each y/(n+1) of the last, all times 2^320. -/
def expTerms : Nat → Nat → Nat → Nat → Nat
  | 0, _, _, acc => acc
  | k + 1, y, n, t => t + expTerms k y (n + 1) (t * y / 2 ^ 320 / (n + 1))

/-- exp(y / 2^320) x 2^320 for 0 ≤ y < 2^320. -/
def expFix (y : Nat) : Nat := expTerms 90 y 0 (2 ^ 320)

/-- Terms of 2 atanh(z): sum of z^(2k+1)/(2k+1), times 2^320. -/
def atanhTerms : Nat → Nat → Nat → Nat → Nat
  | 0, _, _, _ => 0
  | k + 1, z2, n, p => p / n + atanhTerms k z2 (n + 2) (p * z2 / 2 ^ 320)

/-- ln(m / 2^k) x 2^320 for 2^k ≤ m < 2^(k+1). -/
def lnFix (m k : Nat) : Nat :=
  let z := (m - 2 ^ k) * 2 ^ 320 / (m + 2 ^ k)
  2 * atanhTerms 110 (z * z / 2 ^ 320) 1 z

/-- 2^x for a finite dyadic x: exact where x is an integer, else 320 fraction bits with a sticky last bit, so that one
rounding to a shorter format is the rounding of the exact value (log 14). -/
def exp2Val (n : Bool) (m : Nat) (e : Int) : Val :=
  if m = 0 then .fin false 1 0
  else if floorLog2 m e ≥ 12 then (if n then .fin false 1 (-4096) else .fin false 1 4096)
  else
    let fx : Int := if 0 ≤ e + 320 then shiftInt (signedMant n m) (e + 320).toNat
      else signedMant n (m / 2 ^ (-(e + 320)).toNat)
    let k : Int := fx / ((2 ^ 320 : Nat) : Int)
    let f : Nat := (fx % ((2 ^ 320 : Nat) : Int)).toNat
    if f = 0 then .fin false 1 k
    else .fin false (2 * expFix (f * ln2Fix / 2 ^ 320) + 1) (k - 321)

/-- log2 of a positive dyadic number: exact for a power of two, else with a sticky last bit (log 14). -/
def log2Val (m : Nat) (e : Int) : Val :=
  let l := Nat.log2 m
  let ex : Int := e + (l : Nat)
  if m = 2 ^ l then vInt ex
  else
    let frac : Int := ((lnFix m l * 2 ^ 320 / ln2Fix : Nat) : Int)
    vDyadic (2 * (ex * ((2 ^ 320 : Nat) : Int) + frac) + 1) (-321)

/-- e^x of a finite dyadic x at or below 0, or above, as 2^(x / ln 2) with a sticky last bit (log 14). -/
def expVal (n : Bool) (m : Nat) (e : Int) : Val :=
  if m = 0 then .fin false 1 0
  else if floorLog2 m e ≥ 12 then (if n then .fin false 1 (-4096) else .fin false 1 4096)
  else
    let fx : Int := if 0 ≤ e + 320 then shiftInt (signedMant n m) (e + 320).toNat
      else signedMant n (m / 2 ^ (-(e + 320)).toNat)
    let k : Int := fx / (ln2Fix : Int)
    let f : Nat := (fx - k * (ln2Fix : Int)).toNat
    .fin false (2 * expFix f + 1) (k - 321)

/-- Natural logarithm of a positive dyadic number, with a sticky last bit unless it is 1 (log 14). -/
def lnVal (m : Nat) (e : Int) : Val :=
  let l := Nat.log2 m
  let ex : Int := e + (l : Nat)
  if m = 2 ^ l ∧ ex = 0 then vZero
  else
    vDyadic (2 * (ex * (ln2Fix : Int) + ((lnFix m l : Nat) : Int)) + 1) (-321)

/-- 1 / (m x 2^e) with a sticky last bit where the quotient is not exact. -/
def rcpVal (n : Bool) (m : Nat) (e : Int) : Val :=
  let q := 2 ^ 320 / m
  .fin n (2 * q + b2n (2 ^ 320 % m != 0)) (-e - 321)

/-- Integer square root by binary refinement from the highest bit: the largest r with r^2 ≤ n. -/
def isqrtBits (n : Nat) : Nat → Nat → Nat
  | 0, r => r
  | k + 1, r => let t := r + 2 ^ k; isqrtBits n k (if t * t ≤ n then t else r)

/-- 1 / sqrt(m x 2^e) with a sticky last bit where it is not exact. -/
def rsqrtVal (m : Nat) (e : Int) : Val :=
  let m' := if e % 2 = 0 then m else 2 * m
  let e' := if e % 2 = 0 then e else e - 1
  let q := 2 ^ 640 / m'
  let r := isqrtBits q 321 0
  .fin false (2 * r + b2n (r * r * m' != 2 ^ 640)) (-(e' / 2) - 321)

/-- `VEXP2` on an F32 word (R83 table of special cases). -/
def f32Exp2 (a : Nat) : Nat :=
  match f32Val a with
  | .nan => 0x7FC00000
  | .inf n => if n then 0 else 0x7F800000
  | .fin n m e => f32Of (exp2Val n m e)

/-- `VLOG2` on an F32 word. -/
def f32Log2 (a : Nat) : Nat :=
  match f32Val a with
  | .nan => 0x7FC00000
  | .inf n => if n then 0x7FC00000 else 0x7F800000
  | .fin n m e => if m = 0 then 0xFF800000 else if n then 0x7FC00000 else f32Of (log2Val m e)

/-- `VRCP` on an F32 word. -/
def f32Rcp (a : Nat) : Nat :=
  match f32Val a with
  | .nan => 0x7FC00000
  | .inf n => if n then 0x80000000 else 0
  | .fin n m e => if m = 0 then (if n then 0xFF800000 else 0x7F800000) else f32Of (rcpVal n m e)

/-- `VRSQRT` on an F32 word. -/
def f32Rsqrt (a : Nat) : Nat :=
  match f32Val a with
  | .nan => 0x7FC00000
  | .inf n => if n then 0x7FC00000 else 0
  | .fin n m e =>
    if m = 0 then (if n then 0xFF800000 else 0x7F800000) else if n then 0x7FC00000 else f32Of (rsqrtVal m e)

/-- The product of two LG8 bytes, converted to a linear value (R123). -/
def lgProduct (a b : Nat) : Val :=
  if a = 0x80 ∨ b = 0x80 then .nan
  else if a = 0 ∨ b = 0 then vZero
  else
    let s : Int := ((a % 128 + b % 128 : Nat) : Int) - 64
    let m := (max 1 (min 127 s)).toNat
    decodeLg ((b2n (bit a 7 != bit b 7)) * 128 + m)

/-- The exact sum of a chunk's products (R139). -/
def chunkSum (ps : List Val) : Val :=
  match ps with
  | [] => vZero
  | p :: rest => rest.foldl vAdd p

/-- A matrix operand pair accepted by the matrix engine: its lane rate and whether it accumulates in I32 (R152). -/
def macPair (l r : Nat) : Option (Nat × Bool) :=
  let f8 (x : Nat) : Bool := 0x03 ≤ x && x ≤ 0x06
  let mx6 (x : Nat) : Bool := 0x08 ≤ x && x ≤ 0x0A
  let bf (x : Nat) : Bool := x == 0x01 || x == 0x02
  if l = 0x07 ∧ r = 0x07 then some (128, false)
  else if l = 0x0D ∧ r = 0x0D then some (128, true)
  else if l = 0x0F ∧ r = 0x0F then some (128, false)
  else if l = 0x0A ∧ r = 0x0A then some (128, false)
  else if f8 l && f8 r then some (64, false)
  else if mx6 l && mx6 r then some (64, false)
  else if l = 0x0B ∧ r = 0x0B then some (64, false)
  else if l = 0x0C ∧ r = 0x0C then some (64, true)
  else if (l = 0x0F ∧ (r = 0x03 ∨ r = 0x04)) ∨ (r = 0x0F ∧ (l = 0x03 ∨ l = 0x04)) then some (64, false)
  else if bf l && bf r then some (32, false)
  else if (l = 0x0F && bf r) || (r = 0x0F && bf l) then some (32, false)
  else if l = 0x00 ∧ r = 0x00 then some (8, false)
  else none

/-- The chunk length along k of a format pair with an F32 accumulator (R138, R152). -/
def chunkLen (l r : Nat) : Nat :=
  if l = 0x00 then 1 else if l = 0x01 ∨ l = 0x02 ∨ r = 0x01 ∨ r = 0x02 then 8 else 32

end Sys2Proof.Machine
end

