-- ==== Sys2Proof/Config.lean ====
section
/-! DEFINITION. Config.lean: the values the spec leaves open. Each is a constant with no body: nothing in Lean can evaluate it or prove a value of it, so what is proved holds for every value. -/
namespace Sys2Proof.Config

/-- A value the spec leaves open, numbered by the state's own counter of free values (log 8). -/
opaque freeNat : Nat → Nat

/-- Lantern's estimate of module input power in W (R403, R422, R440, R451): rates of the four Spires in 64ths, voltage
steps and bound cores; the power model is the module's own (log 8). -/
opaque powerEstimate : List Nat → List Nat → List Nat → Nat

/-- The MAC address that Keep derives from the module serial number for an Ethernet port code (R315, log 8). -/
opaque macAddress : Nat → Nat → Nat

/-- The Ed25519 firmware keys in Keep's ROM, by key index (R374). -/
opaque firmwareKey : Nat → Nat

/-- The identity certificate of the module (R384, R385), as bytes: the manufacturer's certificate has no stated content. -/
opaque certificate : Nat → List Byte

/-- What an uninitialised or damaged region holds where the spec states no content (R209): address and boot count. -/
opaque leftover : Nat → Nat → Nat

/-- How an engine spends one cycle of its clock (R536 to R538), by engine, module resets so far and cycle, modulo 18: 0 idle, 1 busy, 2 + r stalled
under reason r (log 32). -/
opaque engineCycle : Nat → Nat → Nat → Nat

end Sys2Proof.Config
end

