-- ==== Sys2Proof/Machine/StateBase.lean ====
section
/-! DEFINITION. Machine/StateBase.lean: the time base, clock regions, fault collector, Burin, Stipple and counter parts of the state. -/
namespace Sys2Proof.Machine

/-- The discipline source of the time base (R33, R38), in the codes of `TIME_STATUS.SOURCE`. -/
inductive TimeSource where
  | freeRun | plane | ptp | marker | holdover
  deriving DecidableEq, Repr

/-- The time base and the tick (02_frame_tick, R31 to R41, R63; persisted period R41). -/
structure TimeSt where
  /-- `TIME_NOW`: the time base in ns; 64 bits; R38; reset: DESIGN CHOICE 0 (log 1) -/
  now : Nat := 0
  /-- `TIME_STATUS.SOURCE`; 3 bits; R38; reset 0 (free run) -/
  source : TimeSource := .freeRun
  /-- `TIME_STATUS.RACK_REFERENCE`; 1 bit; R38; reset 0 -/
  rackRef : Bool := false
  /-- `TIME_STATUS.MARKER_MISMATCH`; 1 bit, W1C; R36, R38; reset 0 -/
  mismatch : Bool := false
  /-- consecutive ticks at which the marker differed by more than 1 us; R36; reset: DESIGN CHOICE 0 (log 1) -/
  mismatchRun : Nat := 0
  /-- `TIME_STATUS.SLEWING`; 1 bit; R34, R38; reset 0 -/
  slewing : Bool := false
  /-- offset still to be slewed away, ns; R34; reset: DESIGN CHOICE 0 (log 1) -/
  residual : Int := 0
  /-- `TIME_OFFSET`: last measured offset, ns; 32 bits two's complement; R38; reset 0 -/
  offset : Int := 0
  /-- time at which the current holdover began (`HOLDOVER_S` counts from it); R33, R38; reset: no holdover -/
  holdover : Option Nat := none
  /-- sources 1 to 3 now available (plane, PTP, marker); R33; reset: DESIGN CHOICE none (log 1) -/
  planeOk : Bool := false
  /-- PTP on the Ethernet ports gives a timescale; R33; reset: DESIGN CHOICE no (log 1) -/
  ptpOk : Bool := false
  /-- the Belfry tick marker arrives; R33; reset: DESIGN CHOICE no (log 1) -/
  markerOk : Bool := false
  /-- source 1, 2 or 3 has been acquired since the module reset; R34; reset: no -/
  acquired : Bool := false
  /-- the one step of R34 is still to be made: the first source was acquired with no plan admitted since the module reset; R31, R34; reset: no -/
  stepDue : Bool := false
  /-- a plan has been admitted since the module reset; R31; reset: no -/
  planSeen : Bool := false
  /-- `TICK_CONFIG.PERIOD_CODE`: period in 10 us units; 9 bits; R38, R41; reset 100 -/
  periodCode : Nat := 100
  /-- a period change waiting for its instant: the earliest it may be (two old periods after the scan), and the code; R41; reset: none -/
  periodNext : Option (Nat × Nat) := none
  /-- `TICK_CONFIG.ADMISSION_FLOOR` in 64ths; 7 bits, KL; R38, R47; reset 32 -/
  floor : Nat := 32
  /-- a floor waiting for the next tick; R48; reset: none -/
  floorNext : Option Nat := none
  /-- number of the latest tick; 48 bits; R39; reset: DESIGN CHOICE 0 (log 1) -/
  tick : Nat := 0
  /-- instant of the latest tick, ns; R39; reset: DESIGN CHOICE 0 (log 1) -/
  tickAt : Nat := 0
  /-- the deadline of the current frame window has passed; R40; reset: DESIGN CHOICE yes, no frame is open (log 1) -/
  deadlineDone : Bool := true
  /-- a `TIME_ROLE_SET` designation waiting for the next tick; R33; reset: none -/
  roleNext : Option Bool := none
  deriving DecidableEq, Repr, Inhabited

/-- The clock of one region (R57 to R62): whether it runs, since when, and what its counters had then. -/
structure Clk where
  /-- the region's clock runs; R57, R60; reset: stopped (the region is unpowered or in reset) -/
  running : Bool := false
  /-- time at which the clock last started or stopped -/
  since : Nat := 0
  /-- cycles counted before `since`; the cycle counter is 64 bits; R59, R63; reset by core reset -/
  cycles : Nat := 0
  /-- stopped time counted before `since`, ns; `STOPPED_TIME`, 64 bits; R60, R63; reset by module reset -/
  stopped : Nat := 0
  /-- the Spire's `STRETCH_TIME` when the clock last started; R59 -/
  stretch0 : Nat := 0
  /-- the time counter's value when it halted; 64 bits; R60, R63 -/
  halt : Nat := 0
  deriving DecidableEq, Repr, Inhabited

/-- An entry of the fault collector's history queue (R480). -/
structure HistEntry where
  time : Nat
  seq : Nat
  source : Nat
  reactions : Nat
  suppressed : Bool
  ctx : Nat
  unitKind : Nat
  unit : Nat
  resync : Bool
  boot : Nat
  detail : Nat
  deriving DecidableEq, Repr

/-- A reaction the collector has chosen and that the same command carries out before it ends (R476). -/
inductive Reaction where
  /-- reset of a BLK domain: domain kind (R506) and unit, `SAMPLE_CAUSE` (R501) and the history entry that caused it -/
  | block (kind unit cause seq : Nat)
  /-- module reset with supply present -/
  | module
  /-- the frame of a plan ends as an abort, for a core fault (R109) -/
  | endFrame (plan : Nat)
  /-- the safe state, by source 0 or 1 -/
  | safe (source : Nat)
  deriving DecidableEq, Repr

/-- The default of `FAULT_REACTION` for each source (R475): INT 1, NMI 2, BLK 4, MOD 8, PIN 16; 0 where the source forces
the safe state or is reserved. -/
def reactionDefaults : List Nat :=
  [0, 0, 10, 3, 1, 1, 5, 24, 1, 1, 1, 3, 1, 1, 1, 9, 1, 1, 1, 1, 3, 1, 3, 1, 1, 3, 19, 3, 19, 3, 16, 3, 1]
    ++ List.replicate 31 0

/-- The fault collector (14_integrity_and_faults, R474 to R485). -/
structure FaultSt where
  /-- `FAULT_REACTION` of sources 0 to 63; 8 bits each, KL, persistent; R478; reset: default of R475 -/
  reaction : List Nat := reactionDefaults
  /-- reactions waiting for the next tick (source, value); R479; reset: none -/
  reactionNext : List (Nat × Nat) := []
  /-- `FAULT_COUNT` of each source; 32 bits, saturating, survives module reset; R480, R485; reset 0 at AON power-up -/
  count : Tab Nat := []
  /-- history queue, oldest first, at most 32; survives module reset; R480; reset: empty at AON power-up -/
  history : List HistEntry := []
  /-- `EVENT_SEQ` of the newest entry; 32 bits; R480; reset 0, the first entry takes 1 -/
  seq : Nat := 0
  /-- (source, unit kind, unit) already entered within this tick; R474; reset: none -/
  seen : List (Nat × Nat × Nat) := []
  /-- the safe state and the source that brought it; R483; reset: none -/
  safe : Option Nat := none
  /-- a PIN hold is in force; R484 (`FAULT_STATUS.PIN_HELD`); reset 0 -/
  pinHeld : Bool := false
  /-- `FAULT_STATUS.PIN_SOURCE`; 6 bits; R484; reset 0 -/
  pinSource : Nat := 0
  /-- events Turret was interrupted for, by `EVENT_SEQ`, newest last; R476; reset: none -/
  turretEvents : List Nat := []
  /-- events Keep was trapped for, by `EVENT_SEQ`, newest last; R476; reset: none -/
  keepEvents : List Nat := []
  /-- reactions chosen and not yet taken; empty between commands; R476; reset: none -/
  due : List Reaction := []
  /-- rows on the retirement list (address of the row); at most 256, in Keep's settings; R471; reset: DESIGN CHOICE empty (log 1) -/
  retire : List Nat := []
  /-- rows that the full list could not take, each reported once by `RETIRE_FULL`; R471; reset: DESIGN CHOICE none (log 1) -/
  retireLost : List Nat := []
  /-- scrub corrections of the last 72 h: row, number of the pass of its unit, time; R471; reset: none -/
  scrubHits : List (Nat × Nat × Nat) := []
  /-- corrected errors of the last 1 s: unit of R485, time; R470; reset: none -/
  ceWindow : List (Nat × Nat) := []
  /-- units of R485 for which `MEM_CORRECTED` was raised and when; R470; reset: none -/
  ceRaised : List (Nat × Nat) := []
  deriving DecidableEq, Repr, Inhabited

/-- A Burin trace record (R544). -/
structure TraceRec where
  time : Nat
  kind : Nat
  rflags : Nat
  ctx : Nat
  unit : Nat
  payload : List Byte
  deriving DecidableEq, Repr

/-- A `TRACE_SET` request waiting for the next tick (R543). -/
structure TraceSetting where
  tflags : Nat
  gib : Nat
  plan : Nat
  mask : Nat
  sink : Nat
  deriving DecidableEq, Repr

/-- The trace unit (17_observability, R542 to R550). -/
structure BurinSt where
  /-- `TFLAGS.ENABLE`; R543; reset 0 -/
  enable : Bool := false
  /-- `TFLAGS.STOP_WHEN_FULL`; R543; reset 0 (DESIGN CHOICE, log 1) -/
  stopWhenFull : Bool := false
  /-- `TFLAGS.EXPORT`; R543; reset 0 (DESIGN CHOICE, log 1) -/
  exporting : Bool := false
  /-- `TFLAGS.SINK`; R543; reset 0 (DESIGN CHOICE, log 1) -/
  sink : Bool := false
  /-- size B of the Burin region in GiB; R178, R542; reset 8 -/
  gib : Nat := 8
  /-- module classes of `CLASS_MASK`; R543; reset 0 -/
  moduleMask : Nat := 0
  /-- plan classes by `PLAN_ID`; R543; reset 0 -/
  planMask : Tab Nat := []
  /-- `SINK_ENDPOINT`; 18 bits; R543; reset 0 (DESIGN CHOICE, log 1) -/
  sinkEndpoint : Nat := 0
  /-- ring index of the next record; 64 bits; R546; reset 0 -/
  next : Nat := 0
  /-- ring index of the oldest record; 64 bits; R547; reset 0 -/
  oldest : Nat := 0
  /-- records waiting for tier 2 (buffers of 4,096 records); R546; reset: empty -/
  buffer : List TraceRec := []
  /-- records dropped by a unit (Spire, 4 for Cupola) since its last `LOST` record, and the time of the first; R546; reset: none -/
  lost : List (Nat × Nat × Nat) := []
  /-- export buffer, at most 32,768 (ring index, record bytes); R549; reset: empty -/
  exportBuf : List (Nat × List Byte) := []
  /-- settings waiting for the next tick, in order; R543; reset: none -/
  settings : List TraceSetting := []
  deriving DecidableEq, Repr, Inhabited

/-- A Stipple monitor (R551, R553). -/
structure Monitor where
  /-- `QUANTITY`; 0 is off; R551; reset 0 (DESIGN CHOICE, log 1) -/
  quantity : Nat := 0
  /-- `SFLAGS.LOG_BINS`; R551; reset 0 (DESIGN CHOICE, log 1) -/
  logBins : Bool := false
  /-- `SELECT`; 32 bits; R552; reset 0 (DESIGN CHOICE, log 1) -/
  select : Nat := 0
  /-- `BASE`; 32 bits signed; R551; reset 0 (DESIGN CHOICE, log 1) -/
  base : Int := 0
  /-- `WIDTH`; 32 bits; R551; reset 0 (DESIGN CHOICE, log 1) -/
  width : Nat := 0
  /-- `MIN`; 64 bits signed; R553; reset (empty) 0x7FFF_FFFF_FFFF_FFFF -/
  min : Int := 0x7FFFFFFFFFFFFFFF
  /-- `MAX`; 64 bits signed; R553; reset (empty) 0x8000_0000_0000_0000 -/
  max : Int := -0x8000000000000000
  /-- 32 bins of 32 bits, saturating; R553; reset 0 -/
  bins : Tab Nat := []
  /-- `STIPPLE_SAMPLES`; 64 bits; R555; reset 0 -/
  samples : Nat := 0
  deriving DecidableEq, Repr, Inhabited

/-- The light counter set of the AON domain (R539): survives module resets and DARK, lost with AON power. -/
structure LightSt where
  /-- `AON_SECONDS` is counted from this instant; 64 bits; R539; reset 0 at AON power-up -/
  aonSince : Nat := 0
  /-- `TICKS`; 64 bits; R539; reset 0 at AON power-up -/
  ticks : Nat := 0
  /-- `FRAMES_STARTED`; 64 bits; R539; reset 0 at AON power-up -/
  started : Nat := 0
  /-- `FRAMES_COMPLETED`; 64 bits; R539; reset 0 at AON power-up -/
  completed : Nat := 0
  /-- `FRAMES_OVERRUN`; 64 bits; R539; reset 0 at AON power-up -/
  overrun : Nat := 0
  /-- `FRAMES_SKIPPED`; 64 bits; R539; reset 0 at AON power-up -/
  skipped : Nat := 0
  /-- `FRAMES_ABORTED`; 64 bits; R539; reset 0 at AON power-up -/
  aborted : Nat := 0
  /-- `INPUT_ENERGY_J`; 64 bits; R539; reset 0 at AON power-up -/
  energy : Nat := 0
  /-- `PEAK_JUNCTION`, 0.01 C; 16 bits; R539; reset 0 at AON power-up -/
  peak : Nat := 0
  /-- `MODULE_RESETS`; 32 bits; R539; reset 0 at AON power-up -/
  resets : Nat := 0
  /-- `STARTS_FAILED`; 32 bits; R539; reset 0 at AON power-up -/
  failed : Nat := 0
  /-- `PLANS_ADMITTED`; 64 bits; R539; reset 0 at AON power-up -/
  admitted : Nat := 0
  deriving DecidableEq, Repr, Inhabited

/-- A counter snapshot (R44, R541): every counter of blocks 1 to 13 at the tick instant. -/
structure Snap where
  /-- the tick of the snapshot; R541 -/
  tick : Nat := 0
  /-- the instant of the snapshot -/
  instant : Nat := 0
  /-- the counter bank (block x 2^20 + value index); R540 -/
  ctr : Tab Nat := []
  /-- the clocks of the regions, from which block 1 is read; R63 -/
  clks : Tab Clk := []
  /-- `STRETCH_TIME` of each Spire; R63 -/
  stretch : Tab Nat := []
  /-- the light counter set (block 12); R539 -/
  light : LightSt := {}
  /-- `GRAVER_CHARGED` of each engine, as (plan, frame, cycles); R247 -/
  charged : Tab (List (Nat × Nat × Nat)) := []
  /-- the 64 monitors at the snapshot; R554 -/
  monitors : Tab Monitor := []
  /-- the monitors' samples between the snapshot before and this one; R554 -/
  interval : Tab Monitor := []
  deriving DecidableEq, Repr, Inhabited

end Sys2Proof.Machine
end

