-- ==== Sys2Proof/Machine/StateColl.lean ====
section
/-! DEFINITION. Machine/StateColl.lean: group table, collective operations and reduce windows (09_collectives). -/
namespace Sys2Proof.Machine

/-- An occupied slot of the group table (R283, R284). -/
structure Group where
  slot : Nat
  plan : Nat
  part : Nat
  id : Nat
  mask : Nat
  window : Nat
  eth : Nat
  /-- member records: endpoint [17:0], logical core [23:18] -/
  members : List Nat
  /-- rack records: rack and queue pair index -/
  racks : List (Nat × Nat)
  deriving DecidableEq, Repr, Inhabited

/-- One local member's part of an operation (R288 to R293), with the input its unit read as it began. -/
structure CollPart where
  core : Nat
  /-- member index -/
  index : Nat
  /-- the copied 64 B descriptor -/
  desc : List Byte
  wc : Nat
  bundle : Nat
  issuedAt : Nat
  /-- the input at `SEND` -/
  data : List Byte
  /-- the send counts of an all-to-all -/
  counts : List Nat
  /-- result pieces written -/
  written : List Nat
  /-- result pieces counted under R292 -/
  pieces : Nat
  /-- stream pieces marked (R305) -/
  marked : List Nat
  /-- records dropped (R304) -/
  dropped : Nat
  ended : Bool
  deriving DecidableEq, Repr, Inhabited

/-- A reservation of a piece on a port (R298). -/
structure Reserve where
  port : Nat
  piece : Nat
  bytes : Nat
  granted : Bool
  since : Nat
  deriving DecidableEq, Repr, Inhabited

/-- An operation of a group on this module: matched by group, frame and ordinal (R291). -/
structure CollOp where
  group : Nat
  plan : Nat
  part : Nat
  frame : Nat
  ordinal : Nat
  /-- the parts that have begun, in the order they began -/
  parts : List CollPart
  /-- reservations not yet returned (R298) -/
  reserves : List Reserve
  /-- the 0-byte reservations have been sent (R298) -/
  asked : Bool
  /-- ports on which a 0-byte reservation was granted (R298) -/
  opened : List Nat
  /-- units of data whose flits or requests have been sent, by piece -/
  sent : List Nat
  /-- data received and not yet whole: (2,048 x piece + source, flit number, bytes, aux) -/
  got : List (Nat × Nat × List Byte × Nat)
  /-- result pieces known on this module: (piece, bytes, aux) -/
  results : List (Nat × List Byte × Nat)
  /-- rack results at the root leader, in order of arrival: (rack, piece, bytes) -/
  racksIn : List (Nat × Nat × List Byte)
  /-- status and cause member with which the operation has stopped on this module (R307, R308) -/
  stop : Option (Nat × Nat)
  /-- lowest member named below the floor (R311) -/
  floor : Option Nat
  deriving DecidableEq, Repr, Inhabited

/-- A flit that waits for a local member to issue its operation (R306). -/
structure EarlyFlit where
  reduce : Bool
  dest : Nat
  /-- rack the data came from by RoCEv2; none for a plane flit -/
  rack : Option Nat
  frame : Nat
  payload : List Byte
  deriving DecidableEq, Repr, Inhabited

/-- A descriptor issued by `COLL` and not yet executed (R288). -/
structure CollIssue where
  core : Nat
  desc : List Byte
  wc : Nat
  bundle : Nat
  issuedAt : Nat
  frame : Nat
  deriving DecidableEq, Repr, Inhabited

/-- The collective units (R283 to R312). -/
structure CollSt where
  /-- occupied slots of the group table; 1,024 slots; R283; reset none -/
  groups : List Group := []
  /-- descriptors issued by `COLL` and not yet executed, in issue order; R288, R97; reset none -/
  issued : List CollIssue := []
  /-- operations of the frames in progress; R291; reset none -/
  ops : List CollOp := []
  /-- operations run by each member in its frame: (group, core, frame, count); R290, R291; reset none -/
  ordinals : List (Nat × Nat × Nat × Nat) := []
  /-- flits ahead of the local members, in arrival order (collective buffers); R306; reset none -/
  early : List EarlyFlit := []
  /-- `ABSENT` records remembered: group, frame, member; R308; reset none -/
  absent : List (Nat × Nat × Nat) := []
  /-- last `ADVERTISE` of each port, window bytes per group; 32 bits; R297, R298; reset 0 -/
  window : Tab Nat := []
  /-- ports whose `WINDOW_WAIT_NS` runs: 1 + the instant at which it began, by port; R312; reset none -/
  waitSince : Tab Nat := []
  deriving DecidableEq, Repr, Inhabited

end Sys2Proof.Machine
end

