-- ==== Sys2Proof/Machine/StateConserve.lean ====
section
/-! DEFINITION. Machine/StateConserve.lean: tallies and report runs of the conservation audits (18_conservation). -/
namespace Sys2Proof.Machine

/-- A run of a failing check (R569). -/
structure AuditRun where
  quantity : Nat
  check : Nat
  unit : Nat
  index : Nat
  /-- `DISCREPANCY` at the last raise -/
  value : Int
  /-- tick of the last raise -/
  raised : Nat
  deriving DecidableEq, Repr, Inhabited

/-- The tallies of a message category (R563). -/
structure MsgTally where
  issued : Nat := 0
  arrived : Nat := 0
  delivered : Nat := 0
  dropped : Nat := 0
  duplicates : Nat := 0
  handedOff : Nat := 0
  /-- "in progress": the messages that units hold, which rises and falls as units take and give up messages -/
  held : Int := 0
  deriving DecidableEq, Repr, Inhabited

/-- What a tick contributes to the energy window (R565, R566). -/
structure EnergyTick where
  instant : Nat
  /-- input energy of the tick, mJ -/
  energy : Nat
  /-- growth of `FLOOR_EXCESS_MJ`, mJ -/
  excess : Nat
  /-- token term, W -/
  term : Nat
  /-- length of the tick, ns -/
  span : Nat
  /-- the conditions of R566 held: LOWEST not forced, no flush, RUN or CAPPED -/
  steady : Bool
  deriving DecidableEq, Repr, Inhabited

/-- The conservation audits. -/
structure ConserveSt where
  /-- tallies of categories 0 to 2; 64 bits each; R563; reset 0 -/
  tally : Tab MsgTally := []
  /-- W_m of each group slot and port (8 x slot + port), bytes; R560; reset 0 -/
  granted : Tab Nat := []
  /-- last record or piece flit of each group slot and port; R561; reset none -/
  crossed : Tab Nat := []
  /-- W_m of the pairs settled at the latest tick, by 8 x group slot + port, until their `AUDIT` is compared; R560, R561; reset none -/
  latched : List (Nat × Nat) := []
  /-- settled ticks in a row at which W_m is 0 and W_s is not; R560; reset 0 -/
  leaks : Tab Nat := []
  /-- ticks of the last 200 ms, newest first; R565, R566; reset none -/
  window : List EnergyTick := []
  /-- failing checks already raised; R569; reset none -/
  runs : List AuditRun := []
  /-- `CREDIT_OVERRUN` noted since the tick by port and VC (8 x port + vc); R558; reset none -/
  overruns : List Nat := []
  /-- holdings of the last two `LEASE` frames: sum of seats 1 to 7, own holding; R562; reset none -/
  leaseSum : Option Nat := none
  /-- `TRAY_TOKENS` of seat 0's latest `HEARTBEAT`; R562; reset 0 (DESIGN CHOICE, log 1) -/
  trayTokens : Nat := 0
  /-- an unexplained fall of the own holding since the last tick, tokens; R562; reset 0 -/
  unexplained : Nat := 0
  /-- a new `MASTER_EPOCH` has been announced and no `LEASE` has followed; R430, R562; reset no -/
  epochDue : Bool := false
  /-- the next audit of quantity 4 follows the first `LEASE` of a new `MASTER_EPOCH`; R567; reset no -/
  newEpoch : Bool := false
  deriving DecidableEq, Repr, Inhabited

end Sys2Proof.Machine
end

