-- ==== Sys2Proof/Machine/StateCore.lean ====
section
/-! DEFINITION. Machine/StateCore.lean: the state of one Spire core and of the contexts bound to it (03_spire_core, 04_number_formats, 05_matrix_engine). -/
namespace Sys2Proof.Machine

/-- A matrix descriptor as R147 lays it out. -/
structure MDesc where
  format : Nat := 0
  variant : Nat := 0
  staging : Bool := false
  mapMode : Nat := 0
  clearMap : Bool := false
  tileInt : Bool := false
  rows : Nat := 0
  length : Nat := 0
  streamWc : Nat := 0
  pieceChunks : Nat := 0
  base : Nat := 0
  rowStride : Nat := 0
  pieceStride : Nat := 0
  scaleBase : Nat := 0
  scaleStride : Nat := 0
  mapOrBase : Nat := 0
  deriving DecidableEq, Repr, Inhabited

/-- The kinds of queued matrix operation (R85, R156). -/
inductive MatrixKind where
  | mzero | mma | mmas | mload | mstore
  deriving DecidableEq, Repr, Inhabited

/-- A queued matrix operation, with the copies it took when it issued (R149, R155). -/
structure MatrixOp where
  kind : MatrixKind
  tile : Nat
  left : MDesc
  right : MDesc
  wc : Nat
  bundle : Nat
  mode : Nat
  key : Nat
  word : Nat
  begun : Bool
  pieces : Nat
  deriving DecidableEq, Repr, Inhabited

/-- The kinds of queued move (R86). -/
inductive MoveKind where
  | mov | mov2d | mfill
  deriving DecidableEq, Repr, Inhabited

/-- A queued move or fill: `src` is the source word, or the pattern of `MFILL`; `len` the bytes, or the shape offset of `MOV2D`. -/
structure MoveOp where
  kind : MoveKind
  src : Nat
  dst : Nat
  len : Nat
  wc : Nat
  bundle : Nat
  deriving DecidableEq, Repr, Inhabited

/-- The kinds of operation of the message unit (R97). -/
inductive MsgKind where
  | send | signal | hwrite | hsend
  deriving DecidableEq, Repr, Inhabited

/-- An outstanding operation of the message unit. -/
structure MsgOp where
  id : Nat
  kind : MsgKind
  src : Nat
  len : Nat
  endpoint : Nat
  core : Nat
  tag : Nat
  count : Nat
  ack : Bool
  frameTag : Nat
  wc : Nat
  bundle : Nat
  /-- `MSG_SEQ` once the message left (R266) -/
  seq : Nat
  /-- time at which the last flit left the module (R270) -/
  leftAt : Nat
  /-- the last flit has left the Spire, or the operation was posted to its queue pair -/
  left : Bool
  deriving DecidableEq, Repr, Inhabited

/-- An outstanding `GISSUE` or `PHINT` (R97). -/
structure OutOp where
  id : Nat
  graver : Bool
  wc : Nat
  bundle : Nat
  /-- staging address of the hint entries, and their number (R193); 0 for a `GISSUE` -/
  src : Nat
  count : Nat
  deriving DecidableEq, Repr, Inhabited

/-- An armed receive (R94). -/
structure Armed where
  seq : Nat
  tag : Nat
  addr : Nat
  len : Nat
  wc : Nat
  bundle : Nat
  deriving DecidableEq, Repr, Inhabited

/-- A raise held for a later frame (R92, R93): the tag, the counter, the count and the receive that the delivery consumed. -/
structure HeldRaise where
  tag : Nat
  wc : Nat
  count : Nat
  armed : Option Armed
  bundle : Nat
  unit : Nat
  deriving DecidableEq, Repr, Inhabited

/-- An active hardware loop (R81): first and last bundle of the body and the passes left. -/
structure LoopEntry where
  first : Nat
  last : Nat
  left : Nat
  deriving DecidableEq, Repr, Inhabited

/-- The core fault record of a frame (R108). -/
structure CoreFault where
  time : Nat
  ctx : Nat
  core : Nat
  code : Nat
  unit : Nat
  bundle : Nat
  address : Nat
  plan : Nat
  isAsync : Bool
  resync : Bool
  more : Bool
  deriving DecidableEq, Repr, Inhabited

/-- What holds the bundle at issue (R80). -/
inductive Hold where
  | none | wait | queue | rate
  deriving DecidableEq, Repr, Inhabited

/-- The scalar, vector, predicate, matrix and control state of a context, set anew at every frame start (R70). -/
structure CoreRegs where
  /-- scalar registers s1 to s31; 64 bits; s0 reads zero; R70; reset 0 -/
  s : Tab W64 := []
  /-- vector registers v0 to v31; 4,096 bits; R70; reset 0 -/
  v : Tab W4096 := []
  /-- predicate registers p0 to p7; 128 bits; R70; reset 0 -/
  p : Tab W128 := []
  /-- wait counters wc0 to wc31; 32 bits; R70, R88; reset 0 -/
  wc : Tab Nat := []
  /-- matrix descriptors m0 to m15; 32 B; R146; reset 0 -/
  m : Tab MDesc := []
  /-- `CORE_MODE`; 32 bits; R73; reset 0 -/
  mode : Nat := 0
  /-- return stack, innermost first; 16 entries; R70, R81; reset empty -/
  returns : List Nat := []
  /-- loop stack, innermost first; 4 entries; R70, R81; reset empty -/
  loops : List LoopEntry := []
  /-- program counter: bundle index; R70; reset 0 (DESIGN CHOICE, log 1; `ENTRY` at a frame start) -/
  pc : Nat := 0
  /-- stochastic-rounding key K of the frame; 64 bits; R133; reset 0 (DESIGN CHOICE, log 1) -/
  srKey : Nat := 0
  /-- stochastic-rounding word index w; 64 bits; R133; reset 0 -/
  srWord : Nat := 0
  /-- marker stack, innermost first: ID and time of the `MARKB`; depth 8; R548; reset empty -/
  marks : List (Nat × Nat) := []
  deriving DecidableEq, Repr, Inhabited

/-- One core: its context, its queues and the counts and records of its frame. -/
structure CoreSt where
  /-- register state of the context; R70 -/
  r : CoreRegs := {}
  /-- `CONTEXT_ID` bound to the core, 0 when none; 12 bits; R69, R73; reset 0 -/
  ctx : Nat := 0
  /-- `PLAN_ID` of the context; 32 bits; R69; reset 0 (DESIGN CHOICE, log 1) -/
  plan : Nat := 0
  /-- `BUNDLE_COUNT` of the program in the instruction store; R103; reset 0 (DESIGN CHOICE, log 1) -/
  bundles : Nat := 0
  /-- `ENTRY` of the program; R103; reset 0 (DESIGN CHOICE, log 1) -/
  entry : Nat := 0
  /-- `RUNNING`: a frame executes and has not reached `END`; R75; reset 0 -/
  running : Bool := false
  /-- `END` has issued and waits for outstanding operations; R102; reset no -/
  ending : Bool := false
  /-- the frame being executed, or the last one started; R73 `FRAME`, R92; reset 0 (DESIGN CHOICE, log 1) -/
  frame : Nat := 0
  /-- frames of the plan the core has started since admission; R133; reset 0 -/
  ordinal : Nat := 0
  /-- instant at which the frame started on the core; R545 -/
  startAt : Nat := 0
  /-- cycle counter at frame start; R55 `CYCLES_AT_DEADLINE` -/
  cycles0 : Nat := 0
  /-- the Spire's `STRETCH_TIME` at frame start; R55 `STRETCH_NS` -/
  stretch0 : Nat := 0
  /-- lowest matrix issue rate of the frame, in 64ths; R55 `MIN_ISSUE`; reset 64 (DESIGN CHOICE, log 1) -/
  minIssue : Nat := 64
  /-- matrix issue rate in force up to the core's cycle `rateFrom`, in 64ths; R162; reset 64 (DESIGN CHOICE, log 1) -/
  rateOld : Nat := 64
  /-- the core's cycle, a multiple of 64, from which Lantern's latest rate is in force; R162; reset 0 (DESIGN CHOICE, log 1) -/
  rateFrom : Nat := 0
  /-- vector issue rate in force up to the core's cycle `vectorFrom`, in 64ths; R439; reset 64 (DESIGN CHOICE, log 1) -/
  vectorOld : Nat := 64
  /-- the core's cycle, a multiple of 64, from which Lantern's latest vector rate is in force; R439; reset 0 (DESIGN CHOICE, log 1) -/
  vectorFrom : Nat := 0
  /-- slots of the bundle that is being given, or that is held; R79, R80; reset none -/
  bundle : List Instr := []
  /-- why the bundle is held at issue; R80; reset not held -/
  hold : Hold := .none
  /-- matrix operations queued and in progress, in issue order; at most 8 queued; R97, R156; reset empty -/
  matrixQ : List MatrixOp := []
  /-- moves and fills queued; at most 32; R97; reset empty -/
  moveQ : List MoveOp := []
  /-- `SEND`, `SIGNAL`, `HWRITE` and `HSEND` outstanding; at most 64; R97; reset empty -/
  msgs : List MsgOp := []
  /-- `GISSUE` (64) and `PHINT` (4) outstanding; R97; reset empty -/
  outs : List OutOp := []
  /-- next identifier of an outstanding operation (the model's own) -/
  nextId : Nat := 0
  /-- armed receives, oldest first; at most 256; R70, R94; reset none -/
  armed : List Armed := []
  /-- raises held for a later frame; R92; reset none -/
  held : List HeldRaise := []
  /-- `MSG_COUNTS.LATE_DROPPED`; 16 bits; R73; reset 0 -/
  lateDropped : Nat := 0
  /-- `MSG_COUNTS.NO_BUFFER`; 16 bits; R73; reset 0 -/
  noBuffer : Nat := 0
  /-- `MSG_COUNTS.OVERSIZE`; 16 bits; R73; reset 0 -/
  oversize : Nat := 0
  /-- `MSG_COUNTS.ACK_REFUSED`; 16 bits; R73; reset 0 -/
  ackRefused : Nat := 0
  /-- `GRAVER_ERRORS`; 32 bits; R73; reset 0 -/
  graverErrors : Nat := 0
  /-- `CTX_STATUS.ABORTED`; W1C; R75; reset 0 -/
  aborted : Bool := false
  /-- `CTX_STATUS.FAULTED`; W1C; R75; reset 0 -/
  faulted : Bool := false
  /-- `CTX_STATUS.LAST_FAULT`; 8 bits; R75; reset 0 -/
  lastFault : Nat := 0
  /-- core fault record of the latest frame that had one; R108; reset none -/
  fault : Option CoreFault := none
  /-- the frame of the fault record; R108 -/
  faultFrame : Nat := 0
  deriving DecidableEq, Repr, Inhabited

end Sys2Proof.Machine
end

