-- ==== Sys2Proof/Machine/StateGraver.lean ====
section
/-! DEFINITION. Machine/StateGraver.lean: queues and charges of the twelve Graver engines (07_graver_engines). -/
namespace Sys2Proof.Machine

/-- A descriptor accepted by an engine or waiting in the package fabric for it (R217). -/
structure GDesc where
  ctx : Nat
  core : Nat
  plan : Nat
  frame : Nat
  /-- the 64 B descriptor as copied at `GISSUE` -/
  desc : List Byte
  /-- staging offset of the completion record -/
  completion : Nat
  wc : Nat
  bundle : Nat
  /-- identifier of the outstanding `GISSUE` in the core's queue -/
  op : Nat
  deriving DecidableEq, Repr, Inhabited

/-- A descriptor that an engine executes, between two of its items (R218, R223, R249). -/
structure GRun where
  d : GDesc
  /-- items completed, and so the index of the next; R220, R223 -/
  done : Nat
  /-- cycles charged so far; R245 -/
  charged : Nat
  /-- `DETAIL` so far: padding entries skipped, or keys scored; R221 -/
  detail : Nat
  /-- side inputs as the engine read them when the descriptor began: the bag bounds, or the block list and the queries; R225, R229 -/
  side : List (List Byte)
  /-- the scores of each query so far, as (index, F32 code); R231 -/
  scores : List (List (Nat × Nat))
  deriving DecidableEq, Repr, Inhabited

/-- One Graver engine (R214 to R250). -/
structure GraverSt where
  /-- input queue, oldest first; the first 1,024 are in the engine, later ones wait in the fabric; R217; reset: empty -/
  queue : List GDesc := []
  /-- context served last; R218; reset 0 (DESIGN CHOICE, log 1) -/
  lastCtx : Nat := 0
  /-- the running descriptor; R218, R249, R250; reset: none -/
  running : Option GRun := none
  /-- issue rate g in 64ths; R248; reset 16, the rate of LOWEST (R437) -/
  rate : Nat := 16
  /-- `GRAVER_CHARGED` by plan and frame (plan, frame, cycles); R247; reset: none -/
  charged : List (Nat × Nat × Nat) := []
  /-- the engine accepts descriptors (it does not while its domain is in reset or fenced); R250; reset: no -/
  accepts : Bool := false
  deriving DecidableEq, Repr, Inhabited

end Sys2Proof.Machine
end

