-- ==== Sys2Proof/Machine/StateHang.lean ====
section
/-! DEFINITION. Machine/StateHang.lean: wait-cycle detectors, hang records and domain resets in progress (15_hang_and_recovery). -/
namespace Sys2Proof.Machine

/-- A queue the wait-cycle detectors observe (R486), as the last evaluation left it. -/
structure WatchedQueue where
  kind : Nat
  unit : Nat
  /-- identification of the entries at the last evaluation, head first -/
  entries : List Nat
  /-- the queues the head waited on (kind, unit), with the `WAIT_KIND`; none for an external wait -/
  waits : List (Nat × Nat)
  waitKind : Nat
  /-- context that owns the head, and the cores whose contexts own entries -/
  owner : Nat
  cores : List Nat
  /-- consecutive evaluations without progress -/
  run : Nat
  deriving DecidableEq, Repr, Inhabited

/-- The steps of a domain reset (R497). -/
inductive ResetStep where
  | fence | reset | back
  deriving DecidableEq, Repr, Inhabited

/-- A domain reset in progress (R493, R497). `kind` is the code of R506; 7 is a through-router. -/
structure DomainReset where
  kind : Nat
  unit : Nat
  startedAt : Nat
  deadline : Nat
  step : ResetStep
  /-- mailbox slots (channel, slot) waiting for the answer to `DOMAIN_RESET`, each with the instant of its command's scan -/
  answers : List (Nat × Nat × Nat)
  /-- `SAMPLE_CAUSE` and `EVENT_SEQ` of R501 -/
  cause : Nat
  eventSeq : Nat
  /-- time of the domain's return; the fence lifts at the next tick -/
  backAt : Nat
  deriving DecidableEq, Repr, Inhabited

/-- Hang detection and recovery. -/
structure HangSt where
  /-- `HANG_CONFIG.HANG_TICKS`; 8 bits; R492; reset 3 -/
  ticks : Nat := 3
  /-- `HANG_CONFIG.WINDOW_COUNT` windows in use: (offset, length); R492; reset 0 windows -/
  windows : List (Nat × Nat) := []
  /-- a `HANG_SET` waiting for the next tick: ticks (0 unchanged), windows (none unchanged); R492; reset none -/
  next : List (Nat × Option (List (Nat × Nat))) := []
  /-- the latest 8 hang records, oldest first; 160 B each; R491; reset none -/
  records : List (List Byte) := []
  /-- `HANG_SEQ` of the last record; 32 bits; R491; reset 0, the first record takes 1 -/
  seq : Nat := 0
  /-- the queues as the last evaluation left them; R487; reset none -/
  watched : List WatchedQueue := []
  /-- domain resets in progress, in the order they began; R493; reset none -/
  resets : List DomainReset := []
  deriving DecidableEq, Repr, Inhabited

end Sys2Proof.Machine
end

