-- ==== Sys2Proof/Machine/StateHost.lean ====
section
/-! DEFINITION. Machine/StateHost.lean: Ethernet ports, RoCEv2 queue pairs, regions, mailbox channels and requests (10_host_attachment). -/
namespace Sys2Proof.Machine

/-- One port or half, entry h for code 8 + h (R314, R357). -/
structure EthHalf where
  /-- link state: 0 no link, 1 link, 2 training; R357; reset 0 (DESIGN CHOICE, log 1) -/
  link : Nat := 0
  /-- IPv4 address, 0 none; R356; reset 0 (DESIGN CHOICE, log 1) -/
  ipv4 : Nat := 0
  /-- IPv4 address prefix length; R356; reset 0 (DESIGN CHOICE, log 1) -/
  ipv4Len : Nat := 0
  /-- IPv6 address as 16 bytes, least-significant first, 0 none; R356; reset 0 (DESIGN CHOICE, log 1) -/
  ipv6 : Nat := 0
  /-- IPv6 address prefix length; R356; reset 0 (DESIGN CHOICE, log 1) -/
  ipv6Len : Nat := 0
  /-- LLDP neighbour: chassis ID and port ID received; R316, R396; reset none -/
  lldp : Option (List Byte × List Byte) := none
  /-- time of the last LLDP sent; R316; reset none -/
  lldpAt : Option Nat := none
  /-- instant until which the far end has paused each priority; R326; reset none -/
  pausedUntil : Tab Nat := []
  /-- priorities for which this end has sent XOFF; R326; reset none -/
  xoff : Nat := 0
  /-- bytes in the receive buffer of each priority; R326; reset 0 -/
  rxFill : Tab Nat := []
  /-- bytes of RoCEv2 packets sent since the tick, each payload plus 128 B; R56 cause 5, R317; reset 0 -/
  bytesOut : Nat := 0
  /-- bytes of RoCEv2 packets received since the tick, each payload plus 128 B; R56 cause 5, R317; reset 0 -/
  bytesIn : Nat := 0
  /-- frames of no queue pair that wait while their priority is paused: kind and payload; R326, R355; reset none -/
  waiting : List (Nat × List Byte) := []
  /-- PTP masters heard on this port: sender and the data set of its latest Announce, lower is better; R327; reset none -/
  masters : List (Nat × Nat) := []
  /-- last PTP Sync: receipt less origin less correction, ns; R327; reset none -/
  ptpSync : Option Int := none
  /-- mean path delay from the last delay response, ns; R327; reset none -/
  ptpDelay : Option Int := none
  deriving DecidableEq, Repr, Inhabited

/-- The settings of one Ethernet port (R315, R355), persistent. -/
structure EthPort where
  /-- `PORT_MODE`; R315; reset: DESIGN CHOICE 0 (log 1) -/
  mode : Nat := 0
  /-- `VLAN`: VLAN ID [11:0], priority [14:12]; R355; reset 0 (DESIGN CHOICE, log 1) -/
  vlan : Nat := 0
  /-- `PFC_HALF0`; R355; reset 0 (DESIGN CHOICE, log 1) -/
  pfc0 : Nat := 0
  /-- `PFC_HALF1`; R355; reset 0 (DESIGN CHOICE, log 1) -/
  pfc1 : Nat := 0
  deriving DecidableEq, Repr, Inhabited

/-- Parameters of congestion control (R324, R356). -/
structure Congestion where
  /-- `G_SHIFT`; R356; default 8 (G = 1/256) -/
  gShift : Nat := 8
  /-- `T_ALPHA`, us; R324; default 55 -/
  tAlpha : Nat := 55
  /-- `T_INC`, us; R324; default 55 -/
  tInc : Nat := 55
  /-- `R_AI`, Mb/s; R324; default 100 -/
  rAi : Nat := 100
  /-- `R_MIN`, Mb/s; R324; default 100 -/
  rMin : Nat := 100
  /-- `CNP_INTERVAL`, us; R324; default 50 -/
  cnp : Nat := 50
  deriving DecidableEq, Repr, Inhabited

/-- Who waits for a RoCEv2 request of the module. -/
inductive Sender where
  /-- an `HWRITE` or `HSEND` of a module core: core and identifier -/
  | core (core op : Nat)
  /-- Turret: a response copy, a batch response -/
  | turret
  /-- a rack leader of a collective -/
  | coll
  deriving DecidableEq, Repr, Inhabited

/-- A request the module has sent and that is not yet acknowledged (R318, R321). -/
structure WorkReq where
  sender : Sender
  /-- 0 RDMA WRITE, 1 SEND, 2 SEND with immediate -/
  kind : Nat
  address : Nat
  rkey : Nat
  imm : Nat
  data : List Byte
  psn : Nat
  packets : Nat
  /-- the packets have been sent (they wait while the priority is paused, R326, or the queue pair is not `READY`) -/
  sent : Bool
  sentAt : Nat
  /-- retries made after a timeout or a sequence NAK -/
  retries : Nat
  /-- the packets are to be sent again once the priority is no longer paused (R326) -/
  again : Bool
  /-- its frame was aborted: no further packet of it is sent (R329) -/
  stopped : Bool
  /-- retries made after an RNR NAK -/
  rnrs : Nat
  plan : Nat
  frame : Nat
  deriving DecidableEq, Repr, Inhabited

/-- A queue pair (R321, R360). -/
structure Qp where
  index : Nat
  /-- 0 `CREATED`, 1 `READY`, 2 `ERROR` -/
  state : Nat
  /-- `ERROR_CAUSE` -/
  cause : Nat
  channel : Nat
  code : Nat
  mtu : Nat
  dscp : Nat
  priority : Nat
  ackT : Nat
  retry : Nat
  rnr : Nat
  peerQpn : Nat
  sqPsn : Nat
  rqPsn : Nat
  gidIndex : Nat
  peerGid : Nat
  nextHop : Nat
  outstanding : List WorkReq
  /-- answers that wait while the priority is paused (R326): operation, PSN, address and data -/
  waiting : List (Nat × Nat × Nat × List Byte)
  reads : Nat
  dropContext : Nat
  hostDropped : Nat
  /-- congestion rule of R324: rate and target in bit/s, alpha in 2^-32, stage -/
  rate : Nat
  target : Nat
  alpha : Nat
  stage : Nat
  /-- times of the last CNP received, alpha step, increase step and CNP sent -/
  cnpAt : Nat
  alphaAt : Nat
  incAt : Nat
  cnpSentAt : Option Nat
  deriving DecidableEq, Repr, Inhabited

/-- An accepted batch (R334 to R337). -/
structure Batch where
  seq : Nat
  slot : Nat
  bytes : Nat
  tag : Nat
  frame : Nat
  /-- a batch status to be written at the next tick, once known -/
  outcome : Option Nat
  deriving DecidableEq, Repr, Inhabited

/-- A registered region (R322). -/
structure Region where
  index : Nat
  plan : Nat
  entry : Nat
  channel : Nat
  type : Nat
  base : Nat
  length : Nat
  slots : Nat
  ringQp : Nat
  slotBytes : Nat
  rkey : Nat
  /-- next ring entry (type 3) -/
  nextEntry : Nat
  /-- next expected `BATCH_SEQ` (type 2) -/
  expect : Nat
  batches : List Batch
  /-- `SEAL_REJECTED`; 32 bits; R365; reset by region registration -/
  rejected : Nat
  deriving DecidableEq, Repr, Inhabited

/-- A seal the engine posted to Turret (R333). -/
structure Seal where
  region : Nat
  record : Nat
  time : Nat
  deriving DecidableEq, Repr, Inhabited

/-- A mailbox channel of a host (R350). -/
structure Channel where
  opened : Bool := false
  mask : Nat := 0
  responseQp : Nat := 0
  responseRkey : Nat := 0
  responseAddr : Nat := 0
  key : Nat := 0
  deriving DecidableEq, Repr, Inhabited

/-- An outbox window (R330). -/
structure Outbox where
  enable : Bool := false
  qp : Nat := 0
  rkey : Nat := 0
  address : Nat := 0
  length : Nat := 0
  eventOffset : Nat := 0
  eventEntries : Nat := 0
  /-- `RING_SEQ` of the last entry written; R331 -/
  ringSeq : Nat := 0
  deriving DecidableEq, Repr, Inhabited

/-- A mailbox request in progress (R341). -/
structure Request where
  channel : Nat
  slot : Nat
  /-- the 4 KiB slot as the scan copied it -/
  bytes : List Byte
  /-- tick of the scan that found it -/
  tick : Nat
  /-- instant of that scan (R362) -/
  foundAt : Nat
  /-- the command has started and waits for its completion -/
  started : Bool
  /-- what a started command holds: a target kind and number (R342) -/
  target : Option (Nat × Nat)
  deriving DecidableEq, Repr, Inhabited

/-- An `OBJECT_READ` or `OBJECT_WRITE` in progress (R352). -/
structure ObjCopy where
  channel : Nat
  slot : Nat
  write : Bool
  part : Nat
  obj : Nat
  first : Nat
  count : Nat
  region : Nat
  offset : Nat
  /-- pages copied -/
  done : Nat
  deriving DecidableEq, Repr, Inhabited

/-- The host attachment (10_host_attachment). -/
structure HostSt where
  /-- settings of ports E0 to E3, persistent; R315 -/
  eth : Tab EthPort := []
  /-- settings waiting for the next tick (port, settings); R315; reset none -/
  ethNext : List (Nat × EthPort) := []
  /-- ports and halves by h = code - 8; R314 -/
  halves : Tab EthHalf := []
  /-- congestion parameters; R324 -/
  cong : Congestion := {}
  /-- congestion parameters waiting for the next tick; R356; reset none -/
  congNext : Option Congestion := none
  /-- PTP domain; R327; reset 0 (DESIGN CHOICE, log 1) -/
  ptpDomain : Nat := 0
  /-- `PTP_PORTS`; 8 bits; R356; reset 0 (DESIGN CHOICE, log 1) -/
  ptpPorts : Nat := 0
  /-- `ASYMMETRY` by h, ns; R356; reset 0 (DESIGN CHOICE, log 1) -/
  ptpAsym : Tab Int := []
  /-- the selected master: its port code offset h and its sender; R327; reset none -/
  ptpUsed : Option (Nat × Nat) := none
  /-- notices that wait for their instant, 20 us after the tick: instant and frame; R335, R336; reset none -/
  noticeNext : Option (Nat × Nat) := none
  /-- released inbox windows whose batches have no response yet; R337; reset none -/
  leaving : List Region := []
  /-- queue pairs in ascending index; 4,096; R318; reset none -/
  qps : List Qp := []
  /-- registered regions; 256; R322; reset none -/
  regions : List Region := []
  /-- host channels 0 to 15; R338, R350; reset closed -/
  channels : Tab Channel := []
  /-- outbox windows (4 x channel + index); R330; reset disabled -/
  outboxes : Tab Outbox := []
  /-- outbox settings waiting for the next tick; R330; reset none -/
  outboxNext : List (Nat × Outbox) := []
  /-- seals posted to Turret, in order of `SEAL_TIME`; R333, R334; reset none -/
  seals : List Seal := []
  /-- mailbox requests in progress, in the order they start; R341, R342; reset none -/
  requests : List Request := []
  /-- copies between objects and regions in progress; R352; reset none -/
  copies : List ObjCopy := []
  /-- overrun queue, oldest first, at most 256 records of 64 B; R55; reset empty -/
  overruns : List (List Byte) := []
  /-- `OVERRUN_LOST`; 64 bits; R55; reset 0 (DESIGN CHOICE, log 1) -/
  overrunLost : Nat := 0
  /-- a `TICK_PERIOD_SET` that waits for its instant (channel, slot); R41; reset none -/
  periodAnswer : Option (Nat × Nat) := none
  /-- a `PARTITION_SET` that waits for the next tick: channel, slot, count; R27; reset none -/
  partitionNext : Option (Nat × Nat × Nat) := none
  deriving DecidableEq, Repr, Inhabited

end Sys2Proof.Machine
end

