-- ==== Sys2Proof/Machine/StateKeep.lean ====
section
/-! DEFINITION. Machine/StateKeep.lean: Keep, its fuses and settings, Turret's settings, and the phases of a start (11_firmware_and_bring_up). -/
namespace Sys2Proof.Machine

/-- A key of the operator key table (R381, R383). -/
structure OpKey where
  id : Nat
  /-- Ed25519 public key, 32 B as a little-endian number -/
  pub : Nat
  roles : Nat
  /-- last `COUNTER` accepted -/
  counter : Nat
  deriving DecidableEq, Repr, Inhabited

/-- What the image store holds: a bundle that passed R376 when Keep wrote it (R374, R378). -/
structure BundleInfo where
  version : Nat
  minRev : Nat
  maxRev : Nat
  svn : Nat
  key : Nat
  /-- section hashes of types 1 to 4, each 64 B as a little-endian number -/
  hashes : List Nat
  /-- the bundle itself -/
  bytes : List Byte
  deriving DecidableEq, Repr, Inhabited

/-- An `IMAGE_UPDATE` whose write is in progress (R378). -/
structure ImageWrite where
  channel : Nat
  slot : Nat
  bundle : BundleInfo
  activate : Bool
  deriving DecidableEq, Repr, Inhabited

/-- Keep, fuses, settings and bring-up. -/
structure KeepSt where
  /-- fuse `SERIAL`; 64 bits; R371; reset: fuse (log 2) -/
  serial : Nat := 0
  /-- fuse `ORDERING`; 8 bits; R371; reset: fuse (log 2) -/
  ordering : Nat := 4
  /-- fuse `REVISION`; 16 bits; R371; reset: fuse (log 2) -/
  revision : Nat := 0
  /-- fuse `IDENTITY_SEED`; 256 bits; R371; reset: fuse (log 2) -/
  seed : Nat := 0
  /-- blown fuses of `SECURITY_VERSION`; 0 to 64; R371; reset: fuse (log 2) -/
  svn : Nat := 0
  /-- fuse `KEY_REVOKED`; 4 bits; R371; reset: fuse (log 2) -/
  revoked : Nat := 0
  /-- defect map, disabled cores (16 B); R372; reset: fuse (log 2) -/
  disabled : List Nat := [64, 65, 66, 67, 64, 65, 66, 67, 64, 65, 66, 67, 64, 65, 66, 67]
  /-- defect map, spare lanes (bytes 0 to 11); R372; reset: fuse (log 2) -/
  spares : List Nat := List.replicate 12 31
  /-- defect map, HBM4E row remaps (4,096 x stack + entry); 32 bits; R372; reset: fuse (log 2) -/
  hbmRemap : Tab Nat := []
  /-- defect map, LPDDR6 row remaps (256 x package + entry); 32 bits; R372; reset: fuse (log 2) -/
  lpRemap : Tab Nat := []
  /-- image store: the bundle it holds, if it holds one; R377; reset: DESIGN CHOICE a bundle of version 0 (log 6) -/
  bundle : Option BundleInfo := some ⟨0, 0, 0xFFFF, 0, 0, [0, 0, 0, 0], []⟩
  /-- the bundle that the present start runs; none on the ROM recovery path; R376, R385; reset none -/
  running : Option BundleInfo := none
  /-- `IMAGE_UPDATE` write in progress; R378; reset none -/
  imageWrite : Option ImageWrite := none
  /-- operator key table; 16 entries; R381; reset: DESIGN CHOICE empty (log 1) -/
  keys : List OpKey := []
  /-- expected-topology record, 640 B; R395; reset: DESIGN CHOICE none (log 1) -/
  topology : Option (List Byte) := none
  /-- `BOOT_COUNT`; 32 bits; R386; reset: DESIGN CHOICE 0 (log 1) -/
  bootCount : Nat := 0
  /-- `BRINGUP_STATUS.PHASE`; 4 bits; R389; reset 0 -/
  phase : Nat := 0
  /-- `BRINGUP_STATUS.START_TYPE`; 2 bits; R389; reset 0 -/
  startType : Nat := 0
  /-- `BRINGUP_STATUS.READY`; R389; reset 0 -/
  ready : Bool := false
  /-- `BRINGUP_STATUS.FAILED`; R389; reset 0 -/
  failed : Bool := false
  /-- `BRINGUP_STATUS.CAUSE`; 8 bits; R389; reset 0 -/
  cause : Nat := 0
  /-- `BRINGUP_STATUS.DETAIL`; 8 bits; R389; reset 0 -/
  detail : Nat := 0
  /-- instant of the start; `BRINGUP_TIME` counts from it; R389; reset none (BRINGUP_TIME 0) -/
  startAt : Option Nat := none
  /-- `BRINGUP_TIME` held at `READY` or `FAILED`; 32 bits; R389; reset: not held -/
  heldMs : Option Nat := none
  /-- time excluded from the limit so far, and since when time is being excluded; R398; reset 0 -/
  excluded : Nat := 0
  /-- since when time is being excluded from the limit; R398; reset none -/
  excludeFrom : Option Nat := none
  /-- fast starts since the last full test; R387; reset: DESIGN CHOICE 0 (log 1) -/
  fastStarts : Nat := 0
  /-- the compute rails were removed by the supply, by PWR_EN or by DARK since the last start; R387; reset: DESIGN CHOICE yes (log 1) -/
  railsRemoved : Bool := true
  /-- the previous start ended in `FAILED`; R387; reset: DESIGN CHOICE no (log 1) -/
  prevFailed : Bool := false
  /-- saved training by part (stack k, 16 + package, 64 + port, 72 + Ethernet port), with its training-table version; R392; reset: DESIGN CHOICE none (log 1) -/
  trained : List (Nat × Nat) := []
  /-- powered hours at each part's last full training; 32 bits; R462; reset: DESIGN CHOICE 0 (log 1) -/
  trainedAt : Tab Nat := []
  /-- Turret has started (phase 3); R388; reset no -/
  turretUp : Bool := false
  /-- LPDDR6 packages have left self-refresh or trained (phase 3); R388; reset no -/
  lpUp : Bool := false
  /-- the journal drain of phase 3 has ended in this start; R388, R391; reset no -/
  drained : Bool := false
  /-- the tier-3 map is rebuilt (phase 3); R206, R388; reset no -/
  mapBuilt : Bool := false
  /-- phase 4 has powered and trained; R388; reset no -/
  spiresUp : Bool := false
  /-- cores whose runtime fetch is done (phase 4); R394; reset none -/
  fetched : List Nat := []
  /-- phase 5 has ended; R388; reset no -/
  tested : Bool := false
  /-- phase 6 has begun its training; R388; reset no -/
  linked : Bool := false
  /-- `BOOT_PATH` of the attestation report: 0 bundle, 1 ROM recovery, 2 service mode; R385; reset 0 (DESIGN CHOICE, log 1) -/
  bootPath : Nat := 0
  /-- `SERVICE_MODE` `ENTER` accepted: waiting for the tick (1) or for the flush (2); R380; reset 0 -/
  entering : Nat := 0
  /-- time of Turret's last heartbeat; R369; reset 0 (DESIGN CHOICE, log 1) -/
  heartbeat : Nat := 0
  /-- instant at which the training of phase 6 began; R396; reset none -/
  linksAt : Option Nat := none
  /-- Ethernet ports and halves that gained link, by h, with the time; R396 -/
  linkSince : Tab Nat := []
  /-- plane ports that have failed a full training since the start; R396; reset none -/
  failedTraining : List Nat := []
  /-- plane ports that have reached `ACTIVE` since the start; R396; reset none -/
  wasActive : List Nat := []
  /-- partition count in force, persistent in tier 3; R28; reset 1 -/
  partitions : Nat := 1
  /-- `GENERATION` of the next fetch; 32 bits; R394; reset 0 (DESIGN CHOICE, log 1) -/
  generation : Nat := 0
  /-- context ID last assigned; 12 bits; R69; reset 0, the first assigned is 1 -/
  lastCtx : Nat := 0
  deriving DecidableEq, Repr, Inhabited

end Sys2Proof.Machine
end

