-- ==== Sys2Proof/Machine/StateLinks.lean ====
section
/-! DEFINITION. Machine/StateLinks.lean: plane ports, their replay and credits, and the package fabric (08_plane_links). -/
namespace Sys2Proof.Machine

/-- A flit without the fields its port adds (R256): `SEQ` and `ACK` are added when it is sent. -/
structure Flit where
  vc : Nat
  type : Nat
  first : Bool
  last : Bool
  /-- destination endpoint [17:0] and logical core [23:18] -/
  dest : Nat
  /-- source endpoint [17:0] and logical core [23:18] -/
  src : Nat
  /-- `LEN` payload bytes -/
  payload : List Byte
  /-- message of this module that the flit belongs to (module core, identifier), the model's own bookkeeping for R269 -/
  owner : Option (Nat × Nat)
  deriving DecidableEq, Repr, Inhabited

/-- A flit of VC0 that waits for a slot (R262): `LINK_INIT` or `TIME`. -/
structure CtrlFlit where
  type : Nat
  dest : Nat
  src : Nat
  payload : List Byte
  deriving DecidableEq, Repr, Inhabited

/-- The states of a plane port in the codes of R271. -/
inductive PortState where
  | down | detect | train | align | init | active | disabled
  deriving DecidableEq, Repr, Inhabited

/-- A message being reassembled at a port (R267). -/
structure Partial where
  vc : Nat
  src : Nat
  /-- module core that receives -/
  core : Nat
  /-- staging address word offset (Spire-local) that receives, with the receive it consumed; none when the message is dropped -/
  buffer : Option (Nat × Armed)
  bytes : Nat
  got : Nat
  /-- header fields: frame tag, acknowledgement requested, message sequence, tag -/
  frameTag : Nat
  ack : Bool
  seq : Nat
  tag : Nat
  /-- the first flit came one frame early, so the raise is held (R92, R267) -/
  early : Bool := false
  deriving DecidableEq, Repr, Inhabited

/-- One plane port (R254 to R280). -/
structure Port where
  /-- `PLINK_STATUS.STATE`; 3 bits; R279; reset 0 -/
  state : PortState := .down
  /-- `PLINK_STATUS.SAVED`; R279; reset 0 -/
  saved : Bool := false
  /-- `PLINK_STATUS.RX_SPARE`; 5 bits; R279; reset: fuse (log 2) -/
  rxSpare : Nat := 31
  /-- `PLINK_STATUS.TX_SPARE`; 5 bits; R279; reset: fuse (log 2) -/
  txSpare : Nat := 31
  /-- lane that the next `ALIGN` excludes on receive, after `LANE_RETRAIN`; R273; reset none -/
  exclude : Option Nat := none
  /-- lane mask of the receive direction; 17 bits; R255; reset 0 (DESIGN CHOICE, log 1) -/
  rxMask : Nat := 0
  /-- lane mask of the transmit direction; 17 bits; R255; reset 0 (DESIGN CHOICE, log 1) -/
  txMask : Nat := 0
  /-- `PLINK_STATUS.DOWN_CAUSE`; 8 bits; R279; reset 0 -/
  downCause : Nat := 0
  /-- `PLINK_STATUS.LANE_WEAR`; W1C; R279; reset 0 -/
  laneWear : Bool := false
  /-- `PLINK_PEER`: node (32), port (16), plane (2), link index (1), role (1); R279; reset 0 -/
  peerNode : Nat := 0
  /-- `PLINK_PEER.PEER_PORT`; R279; reset 0 -/
  peerPort : Nat := 0
  /-- `PLINK_PEER.PEER_PLANE`; R279; reset 0 -/
  peerPlane : Nat := 0
  /-- `PLINK_PEER.PEER_LINK_INDEX`; R279; reset 0 -/
  peerIndex : Nat := 0
  /-- `PLINK_PEER.PEER_ROLE`; R279; reset 0 -/
  peerRole : Nat := 0
  /-- the port is enabled by `PLINK_SET`; R271; reset: DESIGN CHOICE yes (log 1) -/
  enabled : Bool := true
  /-- `SEQ` of the next numbered flit; 12 bits; R259; reset 0 (DESIGN CHOICE, log 1) -/
  seqNext : Nat := 0
  /-- replay buffer, oldest first: `SEQ`, times sent, flit; at most 512; R259; reset empty -/
  replay : List (Nat × Nat × Flit) := []
  /-- time at which an acknowledgement last advanced (or the buffer became non-empty); R260 -/
  ackAt : Nat := 0
  /-- a replay since the last advance has been made at this time; R260 -/
  replayAt : Nat := 0
  /-- `SEQ` expected from the far end; 12 bits; R259; reset 0 (DESIGN CHOICE, log 1) -/
  expected : Nat := 0
  /-- a `NAK` was sent for the present gap; R259; reset no -/
  nakSent : Bool := false
  /-- credits the far end advertised, by VC; 16 bits; R264; reset 0 -/
  creditInit : Tab Nat := []
  /-- last cumulative freed count received, by VC; 16 bits; R264; reset 0 -/
  freedSeen : Tab Nat := []
  /-- cumulative flits sent, by VC; R264; reset 0 -/
  sent : Tab Nat := []
  /-- cumulative flits accepted from the far end, by VC; R264; reset 0 -/
  received : Tab Nat := []
  /-- flits in the receive buffers, by VC (O of R557); reset 0 -/
  stored : Tab Nat := []
  /-- cumulative flit buffers freed, by VC; R264; reset 0 -/
  freed : Tab Nat := []
  /-- a valid `LINK_INIT` was received since `INIT`; R274; reset no -/
  initGot : Bool := false
  /-- the far end's `LINK_INIT` carried `INIT_SEEN`; R275; reset no -/
  initSeen : Bool := false
  /-- slots of VC1 to VC6 since the last slot of VC0; R262; reset 0 -/
  slots : Nat := 0
  /-- the last slot of VC0 carried a `LINK_CTRL` flit; R262; reset no -/
  ctrlLast : Bool := false
  /-- `TIME` flits waiting for a slot of VC0, oldest first; R262; reset empty -/
  ctrlQ : List CtrlFlit := []
  /-- `NAK` records waiting for the next `LINK_CTRL` flit; R262, R264; reset empty -/
  ctrlRecords : List Byte := []
  /-- a receive buffer has been freed since the last `LINK_CTRL` flit; R264; reset no -/
  creditDue : Bool := false
  /-- flits waiting for a slot, by VC, oldest first; R262; reset empty -/
  queues : Tab (List Flit) := []
  /-- flits held for the pairs that choose this port, oldest first; R268; reset empty -/
  heldQ : List Flit := []
  /-- end of the hold of R268 on the pairs that choose this port; reset none -/
  holdUntil : Option Nat := none
  /-- messages being reassembled; R267; reset none -/
  parts : List Partial := []
  /-- the training in progress is a full one; R273; reset no -/
  fullTraining : Bool := false
  /-- time of the next retry after a failed training; R273; reset none -/
  retryAt : Option Nat := none
  /-- units of VC1 and VC6 sent since the tick; R263; reset 0 -/
  lowUnits : Nat := 0
  /-- units of VC1 and VC6 served since the tick on the receive direction; R263; reset 0 -/
  lowIn : Nat := 0
  /-- flits of VC1 and VC6 over the limit of the receive direction, in their buffers until the next tick: VC, header, payload; R263;
  reset empty -/
  lowHeld : List (Nat × Rx × List Byte) := []
  /-- units sent and received this frame window for R56 cause 5: outbound -/
  unitsOut : Nat := 0
  /-- units accepted since the tick; R56 cause 5 -/
  unitsIn : Nat := 0
  /-- instant at which the link last became `ACTIVE` -/
  activeAt : Nat := 0
  deriving DecidableEq, Repr, Inhabited

/-- The path of a package-fabric transfer from one Spire to another (R21). -/
inductive FabricRoute where
  /-- it stays on its Spire -/
  | inside
  /-- the direct ring link to a ring neighbour -/
  | ring
  /-- the ring through the through-router of a Spire -/
  | through (router : Nat)
  /-- via Cupola, over both Spires' Cupola links -/
  | viaCupola
  deriving DecidableEq, Repr, Inhabited

/-- One copy of a fabric transfer on its way: the first of a transfer, or one sent again (R282). -/
structure FabricCopy where
  route : FabricRoute
  /-- it holds its transfer credits and has left its port; before that it waits for credits or for room in a through-router (R281, R559) -/
  gone : Bool
  /-- a through-router on its route lost power or was reset after it was sent: its acknowledgement does not come back, and it holds
  no credit any more (R282, R567) -/
  severed : Bool
  deriving DecidableEq, Repr, Inhabited

/-- A package-fabric message between two cores of the module (R90, R282). -/
structure FabricMsg where
  /-- transfer sequence number of the pair -/
  seq : Nat
  srcCore : Nat
  destCore : Nat
  /-- 3 `SEND`, 4 `SIGNAL`, 5 answer, as the flit types of R258 -/
  type : Nat
  bytes : Nat
  tag : Nat
  frameTag : Nat
  ack : Bool
  accepted : Bool
  count : Nat
  msgSeq : Nat
  data : List Byte
  sentAt : Nat
  resends : Nat
  /-- delivered; copies sent again may still arrive -/
  delivered : Bool
  /-- bundle of the issuing operation, 0xFFFF for an answer -/
  bundle : Nat
  /-- the sending port has its acknowledgement -/
  acked : Bool := false
  /-- copies on their way, oldest first -/
  copies : List FabricCopy := []
  deriving DecidableEq, Repr, Inhabited

/-- The plane ports, the fabric and the module-wide link state. -/
structure LinksSt where
  /-- the six plane ports; R252 -/
  ports : Tab Port := []
  /-- weights of VC1 to VC6 of each port, persistent; 8 bits; R261, R263, R363; reset 8, 64, 64, 48, 32, 8 (the empty list) -/
  weights : Tab (List Nat) := []
  /-- weights waiting for the next tick (port mask, weights), in order; R263; reset none -/
  weightsNext : List (Nat × List Nat) := []
  /-- rack (10 bits) and seat (6 bits) of the module's endpoint base, once fixed; R275; reset not fixed -/
  base : Option (Nat × Nat) := none
  /-- `EXCHANGE_ID` of the next time request; 32 bits; R276; reset 0 (DESIGN CHOICE, log 1) -/
  exchangeNext : Nat := 0
  /-- time exchanges outstanding: identifier, port, T1; R277; reset none -/
  exchanges : List (Nat × Nat × Nat) := []
  /-- link of each plane used by the last time request; R277; reset 0 (DESIGN CHOICE, log 1) -/
  lastLink : Tab Nat := []
  /-- package-fabric messages unacknowledged, oldest first; R282; reset none -/
  fabric : List FabricMsg := []
  /-- transfer credits a sender holds by link and direction (8 x sending Spire + `INDEX` of R568); 1,024 of each; R559; reset 1,024 (the
  empty table) -/
  fabricHeld : Tab Nat := []
  /-- next transfer sequence number by pair (256 x source + destination); R282; reset 0 (DESIGN CHOICE, log 1) -/
  fabricSeq : Tab Nat := []
  /-- `MSG_SEQ` of the next message of each module core; 32 bits; R266; reset 0 (DESIGN CHOICE, log 1) -/
  msgSeq : Tab Nat := []
  deriving DecidableEq, Repr, Inhabited

end Sys2Proof.Machine
end

