-- ==== Sys2Proof/Machine/StateMirror.lean ====
section
/-! DEFINITION. Machine/StateMirror.lean: mirror pairs, windows and streams (16_mirror_pair). -/
namespace Sys2Proof.Machine

/-- The pair states in the codes of R511. -/
inductive PairState where
  | unpaired | seeking | paired | partnerLost | mismatch
  deriving DecidableEq, Repr, Inhabited

/-- The roles in the codes of R533. -/
inductive PairRole where
  | none | holder | standby
  deriving DecidableEq, Repr, Inhabited

/-- A mirror record being sent or held (R522, R523): its header fields and its record data. -/
structure MirrorRec where
  kind : Nat
  stream : Nat
  resync : Bool
  seq : Nat
  frame : Nat
  data : List Byte
  deriving DecidableEq, Repr, Inhabited

/-- One direction of a mirror stream (R524). Stream 255 is control. -/
structure MirrorStream where
  /-- `STREAM_SEQ` of the next numbered record sent; 32 bits; R522; reset 0 (DESIGN CHOICE, log 1) -/
  sendNext : Nat := 0
  /-- numbered records sent and not yet acknowledged, oldest first; R524; reset none -/
  unacked : List MirrorRec := []
  /-- when an `ACK` last advanced, or a resend was made -/
  ackAt : Nat := 0
  /-- `STREAM_SEQ` expected next; 32 bits; R524; reset 0 (DESIGN CHOICE, log 1) -/
  expect : Nat := 0
  /-- when the last `ACK` was sent, and the value it named -/
  ackedAt : Nat := 0
  acked : Nat := 0
  deriving DecidableEq, Repr, Inhabited

/-- A mirror window (R518). -/
structure MirrorWindow where
  index : Nat
  entry : Nat
  plan : Nat
  part : Nat
  /-- a region window starts here (tier address); an object window names its object -/
  address : Nat
  object : Option Nat
  offset : Nat
  length : Nat
  maxUnits : Nat
  /-- tier-2 address of the mirror buffer -/
  buffer : Nat
  /-- granules or pages written since the last copy (unit numbers), with the frame they belong to -/
  written : List (Nat × Nat)
  /-- resync: 0 synced, 1 waiting for a valid `HELLO`, 2 sending, 3 the last record taken (standby), 3 + f all sent and waiting for
  the commit of frame f (holder) (R520) -/
  resync : Nat
  /-- the window was in resync when the pair state last left `PAIRED`, or took a resync record since (R528) -/
  stale : Bool
  deriving DecidableEq, Repr, Inhabited

/-- A `FRAME_END` the standby holds and has not committed (R519, R523). -/
structure FrameEnd where
  frame : Nat
  status : Nat
  /-- stream and its next `STREAM_SEQ` after the frame's last record -/
  streams : List (Nat × Nat)
  /-- entry, count and first `BATCH_SEQ` -/
  inboxes : List (Nat × Nat × Nat)
  deriving DecidableEq, Repr, Inhabited

/-- A unit of a window copied into the mirror buffer: its window, its number and its bytes. -/
structure CopiedUnit where
  window : Nat
  unit : Nat
  data : List Byte
  deriving DecidableEq, Repr, Inhabited

/-- A frame of the holder whose copy is pending (R519). -/
structure MirrorCopy where
  frame : Nat
  /-- `END_STATUS` -/
  status : Nat
  units : List CopiedUnit
  /-- entry, count and first `BATCH_SEQ` -/
  inboxes : List (Nat × Nat × Nat)
  /-- instants of writes of later frames to units of the copy, which count in `COPY_WAIT_NS` until it is done -/
  waits : List Nat
  deriving DecidableEq, Repr, Inhabited

/-- A pair of one local partition (R509 to R535). -/
structure Pair where
  part : Nat
  /-- `PARTNER_PARTITION`; R510 -/
  partnerPart : Nat
  /-- `PAIR_ID`; 32 bits; R510 -/
  id : Nat
  /-- `PARTNER_SERIAL`; 64 bits; R510 -/
  serial : Nat
  /-- `PARTNER_BASE`; R510 -/
  base : Nat
  /-- `PAIR_STATUS.PAIR_STATE`; R511 -/
  state : PairState
  /-- `PAIR_STATUS.ROLE`; R515 -/
  role : PairRole
  /-- `LEASE_EPOCH` last accepted; R513 -/
  epoch : Nat
  /-- `EXPIRES` of the last grant; R513 -/
  expires : Nat
  /-- `PARTNER_EXPIRES` of the last mode-1 grant; R513 -/
  partnerExpires : Nat
  /-- the highest `EXPIRES` the partner has reported; R515 -/
  reported : Nat
  /-- the tick of the last valid `HELLO`, and whether it reported a holder; R511, R517 -/
  helloTick : Option Nat
  /-- fields of the last `HELLO`: role, flags, epoch, last ended, committed -/
  peerRole : Nat
  peerFlags : Nat
  peerEpoch : Nat
  peerEnded : Nat
  peerCommitted : Nat
  /-- last frame this member's plan ended while holder; R533 `LAST_ENDED` -/
  ended : Nat
  /-- last frame this member committed; R533 `COMMITTED` -/
  committed : Nat
  /-- `PAIR_STATUS.MIRROR_BEHIND`; R521 -/
  behind : Bool
  /-- `PAIR_STATUS.STALE_TAKEOVER`; W1C; R528 -/
  staleTakeover : Bool
  /-- `RELEASE` received: when, and its `LAST_FRAME`; R530 -/
  released : Option (Nat × Nat)
  /-- `RELEASE` is to be sent at the next tick; R529, R530 -/
  releaseNext : Bool
  /-- `SWITCH_OVER` waiting: channel, slot, start; R529 -/
  switching : Option (Nat × Nat × Nat)
  /-- `FRAME_END` records held, oldest first; R519 -/
  ends : List FrameEnd
  /-- window records held in the mirror buffer, in arrival order; R519 -/
  heldRecs : List MirrorRec
  /-- batches named by committed `FRAME_END`s and not yet accepted: entry, sequence, outcome; R526 -/
  answered : List (Nat × Nat × Nat)
  /-- takeover has left batches to be assigned one to each frame; R528 -/
  rerun : Bool
  /-- frames whose copy is pending, oldest first; R519 -/
  copies : List MirrorCopy
  deriving DecidableEq, Repr, Inhabited

/-- The mirror unit. -/
structure MirrorSt where
  /-- pairs formed, by partition; persistent; R509, R510; reset: DESIGN CHOICE none (log 1) -/
  pairs : List Pair := []
  /-- windows in use; 64; R518; reset none -/
  windows : List MirrorWindow := []
  /-- window settings waiting for the next tick: the index, and the window or its removal; R518; reset none -/
  windowsNext : List (Nat × Option MirrorWindow) := []
  /-- records being received, flit by flit: port, partition and the record so far; R522; reset none -/
  partials : List (Nat × Nat × MirrorRec) := []
  /-- streams, by 256 x partition + stream; R522, R524; reset fresh -/
  streams : Tab MirrorStream := []
  deriving DecidableEq, Repr, Inhabited

end Sys2Proof.Machine
end

