-- ==== Sys2Proof/Machine/StatePager.lean ====
section
/-! DEFINITION. Machine/StatePager.lean: state objects, pool slots, hints, journal and flushes of the state pager (06_memory_tiers). -/
namespace Sys2Proof.Machine

/-- A state object (R187, R188, R192). `plan` is 0 for a persistent object, else 1 + `PLAN_ID` of a plan-local one. -/
structure PObj where
  part : Nat
  id : Nat
  plan : Nat
  pages : Nat
  packed : Bool
  upper : Nat
  lower : Nat
  variant : Nat
  towardZero : Bool
  /-- binding plan of a persistent object, and whether the binding is read-only (R191) -/
  bound : Option (Nat × Bool)
  /-- address of the home of a plan-local object (R187) -/
  home : Nat
  /-- `DAMAGED_PAGES`; 32 bits; R192 -/
  damaged : Nat
  /-- `DURABLE_FRAME`; 48 bits; R192 -/
  durable : Nat
  /-- the latest ended frame of the plans that bound the object; R192; 0 for a new object -/
  ended : Nat := 0
  /-- the earliest frame with a write that was lost before it entered the journal; R192, R210; none for a new object -/
  lost : Option Nat := none
  deriving DecidableEq, Repr, Inhabited

/-- Where a resident page lies: a pool of a plan by reservation index, or its spill reserve (R182, R186). -/
inductive PoolRef where
  | pool (plan reservation : Nat)
  | spill (plan : Nat)
  deriving DecidableEq, Repr, Inhabited

/-- A resident page (R197 to R203). -/
structure Resident where
  pool : PoolRef
  slot : Nat
  addr : Nat
  part : Nat
  obj : Nat
  /-- 1 + plan of a plan-local object, 0 for a persistent one -/
  owner : Nat
  page : Nat
  dirty : Bool
  /-- frames (of the plan) for which the page is pinned, each with its `WRITE` and `SYNC` -/
  pins : List (Nat × Bool × Bool)
  /-- the earliest frame whose write of the page has not been made clean -/
  writtenBy : Nat
  /-- the write was hinted with `SYNC` and has not entered the journal -/
  syncDue : Bool
  /-- 8-bit recency history; R201 -/
  history : Nat
  deriving DecidableEq, Repr, Inhabited

/-- A hint entry accepted and not yet served (R193, R196). -/
structure Hint where
  core : Nat
  plan : Nat
  part : Nat
  /-- the frame served -/
  frame : Nat
  obj : Nat
  first : Nat
  count : Nat
  readyWc : Nat
  pool : Nat
  result : Nat
  write : Bool
  sync : Bool
  bundle : Nat
  acceptedAt : Nat
  /-- results written so far, by page index of the run -/
  done : List Nat
  /-- pages that have had to wait (R199 step 5) -/
  waited : List Nat
  deriving DecidableEq, Repr, Inhabited

/-- An occupied journal slot (R205); the slots are listed in the order they were filled. -/
structure JournalSlot where
  slot : Nat
  part : Nat
  obj : Nat
  page : Nat
  bytes : Nat
  crc : Nat
  frame : Nat
  deriving DecidableEq, Repr, Inhabited

/-- A stored page in tier 3, as the spare area of its block names it: the page, its write sequence number, and its location (R206). -/
structure FlashPage where
  part : Nat
  obj : Nat
  page : Nat
  seq : Nat
  loc : Nat
  deriving DecidableEq, Repr, Inhabited

/-- What triggered a flush (R208). -/
inductive FlushKind where
  | warning | emergency | standby | dark | off | halt | reset | command
  deriving DecidableEq, Repr, Inhabited

/-- A flush in progress (R208). -/
structure Flush where
  kind : FlushKind
  deadline : Option Nat
  /-- stored pages written to tier 3 so far -/
  written : Nat
  /-- mailbox slot (channel, slot) waiting for the answer to `JOURNAL_FLUSH` -/
  answer : Option (Nat × Nat)
  deriving DecidableEq, Repr, Inhabited

/-- The state pager (06_memory_tiers). -/
structure PagerSt where
  /-- state objects, in the pager directory; persistent ones survive module reset; R187; reset: none (DESIGN CHOICE, log 1) -/
  objects : List PObj := []
  /-- resident pages of the pools and spill reserves; R197; reset: none -/
  resident : List Resident := []
  /-- accepted hint entries in order of acceptance; R196, R199; reset: none -/
  hints : List Hint := []
  /-- occupied journal slots in the order they were filled; at most 8,192; R205; reset: none (DESIGN CHOICE, log 1) -/
  journal : List JournalSlot := []
  /-- flushes in progress, oldest first; R208; reset: none -/
  flushes : List Flush := []
  /-- spare areas of the blocks that hold stored pages, from which the tier-3 map is rebuilt; R206; reset none (DESIGN CHOICE, log 1) -/
  spare : List FlashPage := []
  /-- write sequence number of the next tier-3 write; R206; reset 0 (DESIGN CHOICE, log 1) -/
  writeSeq : Nat := 0
  /-- journal slots kept over a module reset are still to be drained before the first admission; R209; reset no -/
  drainDue : Bool := false
  /-- pages moved per plan, frame and path (plan, path, pages x 16); R46, R56 cause 6 -/
  moved : List (Nat × Nat × Nat) := []
  /-- `WEAR_USED` marks (8,000 and 10,000) already reported; R212; reset 0 (DESIGN CHOICE, log 1) -/
  wearMarks : Nat := 0
  deriving DecidableEq, Repr, Inhabited

end Sys2Proof.Machine
end

