-- ==== Sys2Proof/Machine/StatePlan.lean ====
section
/-! DEFINITION. Machine/StatePlan.lean: admitted frame plans and their frames (02_frame_tick, 06_memory_tiers). -/
namespace Sys2Proof.Machine

/-- An entry of the core table (R46) with the context ID assigned at admission (R69). -/
structure CoreEntry where
  core : Nat
  wOther : Nat
  wMatrix : Nat
  program : Nat
  ctx : Nat
  deriving DecidableEq, Repr, Inhabited

/-- An entry of the reservation table (R181) with the place check 11 gave it (R183). -/
structure Reservation where
  kind : Nat
  place : Nat
  flags : Nat
  pages : Nat
  object : Nat
  pinLimit : Nat
  baseSlot : Nat
  coreFirst : Nat
  coreCount : Nat
  /-- physical address, or staging offset for kind 2 -/
  base : Nat
  deriving DecidableEq, Repr, Inhabited

/-- The frame in progress of a plan. -/
structure FrameRun where
  number : Nat
  startAt : Nat
  /-- the record of a first overrun, held until its outcome is known (R55) -/
  overrun : Option (List Byte)
  /-- stopped time of the plan's clock regions at its start (R56 code 2) -/
  stopped0 : Nat
  /-- it is slipped, and the deadline after the next tick aborts it (R53) -/
  slipped : Bool
  deriving DecidableEq, Repr, Inhabited

/-- A plan that counts as admitted (R52). -/
structure Plan where
  /-- `PLAN_ID`; R45 -/
  id : Nat
  /-- `OVERRUN_POLICY` abort; R45 -/
  abort : Bool
  /-- `PARTITION`; R45 -/
  part : Nat
  /-- `SEED`; R45 -/
  seed : Nat
  /-- `BODY_CRC`; R45, R512 -/
  crc : Nat
  cores : List CoreEntry
  /-- engine and `BUSY_CYCLES` -/
  gravers : List (Nat × Nat)
  /-- port, direction and `UNITS` -/
  links : List (Nat × Nat × Nat)
  /-- path and `PAGES` -/
  pager : List (Nat × Nat)
  reservations : List Reservation
  /-- tier-2 address and pages of the spill reserve (R186) -/
  spillBase : Nat
  spillPages : Nat
  /-- the program section (R103) -/
  programs : List Byte
  /-- channel that admitted the plan, and the slot that waits for its response -/
  channel : Nat
  answer : Option Nat
  /-- cores whose fetch has not ended (R394) -/
  fetching : List Nat
  /-- `START_TICK`; R45 -/
  startTick : Nat
  /-- number of the first frame, once answered (R51) -/
  firstFrame : Option Nat
  /-- `LAST_FRAME` once released (R52), and the tick after which it is freed -/
  lastFrame : Option Nat
  frame : Option FrameRun
  /-- the tick at which no frame of the plan starts, because a frame slipped at the deadline before it (R53) -/
  slipTick : Option Nat
  /-- a core of the plan is fenced and frames are skipped (R502) -/
  fenced : Bool
  /-- last frame that started, and the last that ended -/
  lastStarted : Nat
  lastEnded : Nat
  deriving DecidableEq, Repr, Inhabited

/-- The plans of the module. -/
structure PlansSt where
  /-- plans that count as admitted, in order of admission; R52; reset none -/
  plans : List Plan := []
  deriving DecidableEq, Repr, Inhabited

/-- What the headers of a RoCEv2 packet that the module sends carry beside its operation. -/
structure RoceHead where
  /-- destination MAC address: `NEXT_HOP_MAC` (R359) -/
  nextHop : Nat
  /-- IEEE 802.1Q tag, VLAN ID and priority; none where the port's frames are untagged (R326, R355) -/
  tag : Option (Nat × Nat)
  /-- source address by GID index, destination GID and QPN (R318, R321) -/
  gidIndex : Nat
  peerGid : Nat
  peerQpn : Nat
  dscp : Nat
  /-- marked ECN-capable (R325) -/
  ecn : Bool
  deriving DecidableEq, Repr, Inhabited

/-- What leaves the module (the model's own record of its outputs): the block's far sides are outside the model. -/
inductive Emit where
  /-- a plane flit: port, and its 256 bytes (R256) -/
  | flit (port : Nat) (bytes : List Byte)
  /-- a RoCEv2 packet of a queue pair: operation 0 write, 1 send, 2 send with immediate, 3 acknowledgement, 4 NAK (its kind in
  the place of the address), 5 CNP, 6 read data -/
  | roce (qp : Nat) (head : RoceHead) (op psn address rkey imm : Nat) (data : List Byte)
  /-- an Ethernet frame: port code offset h, kind 1 LLDP, 2 ARP or neighbour answer, 3 PFC, 4 PTP Delay_Req, its IEEE 802.1Q tag
  and its payload -/
  | ether (h kind : Nat) (tag : Option (Nat × Nat)) (payload : List Byte)
  /-- a frame of the management port, with its message kind -/
  | mgmt (kind : Nat) (payload : List Byte)
  /-- a Belfry frame on the ring: its 18 bytes (R413) -/
  | belfry (bytes : List Byte)
  /-- a tick marker on the ring -/
  | marker (count hops : Nat)
  deriving DecidableEq, Repr, Inhabited

end Sys2Proof.Machine
end

