-- ==== Sys2Proof/Machine/StatePower.lean ====
section
/-! DEFINITION. Machine/StatePower.lean: Lantern, the Belfry ring, power, cooling, ageing and the pins (12_lantern_and_belfry, 13_power_thermal_ageing, 19_connectors_and_ratings). -/
namespace Sys2Proof.Machine

/-- A unit record (R431, R435), units 0 to 32. -/
structure UnitRec where
  state : Nat := 0
  cause : Nat := 0
  epoch : Nat := 0
  time : Nat := 0
  deriving DecidableEq, Repr, Inhabited

/-- The transitions of module power in progress (R407, R457, R458, R583). -/
inductive PowerMove where
  /-- an order (`OFF` or `STANDBY`) or an orderly halt of an instant: plans are released and the flush begins at the next tick -/
  | accepted (off halt : Bool) (instant : Nat) (answer : Option (Nat × Nat))
  /-- the orderly flush of an order or halt runs -/
  | flushing (off halt : Bool)
  /-- the domains are removed at an instant -/
  | removal (off halt : Bool) (instant : Nat)
  /-- PWR_EN was deasserted: power is removed when the warning flush has ended -/
  | cut
  deriving DecidableEq, Repr

/-- Lantern's part of the tray: the Belfry ring, tokens and the cap (R400 to R436). -/
structure LanternSt where
  /-- Lantern is ready; R401; reset no -/
  up : Bool := false
  /-- `CAP_STATUS.POWER_STATE`: 0 RUN, 1 CAPPED, 2 LOWEST, 3 STANDBY, 4 DARK; R411; reset 2 -/
  powerState : Nat := 2
  /-- `CAP_STATUS.CAP_SOURCE`; 2 bits; R411; reset 0 -/
  capSource : Nat := 0
  /-- `CAP_STATUS.MASTERLESS`; R411, R427; reset 1 -/
  masterless : Bool := true
  /-- `CAP_STATUS.ORPHAN`; R411, R429; reset 0 -/
  orphan : Bool := false
  /-- `CAP_STATUS.CAP_BELOW_FLOOR`; R405, R411; reset 0 -/
  belowFloor : Bool := false
  /-- causes that force LOWEST: 1 VR alert, 2 supply warning, 3 thermal emergency, 4 coolant loss, 5 safe state, 6 PWR_EN deasserted; R441, R583 (`LOWEST_FORCED` is any); reset none -/
  lowest : List Nat := []
  /-- `CAP_STATUS.COOLANT_ASSUMED`; R411, R419; reset 1 -/
  coolantAssumed : Bool := true
  /-- `CAP_STATUS.EFFECTIVE_CAP`, 5 W units; 10 bits; R411; reset 140 -/
  effectiveCap : Nat := 140
  /-- `CAP_TERMS.TOKEN_TERM`, 5 W units; 16 bits; R411; reset 140 -/
  tokenTerm : Nat := 140
  /-- `CAP_TERMS.HOST_TERM`; 16 bits; R411; reset 0xFFFF -/
  hostTerm : Nat := 0xFFFF
  /-- `CAP_TERMS.THERMAL_TERM`; 16 bits; R411; reset 560 -/
  thermalTerm : Nat := 560
  /-- `CAP_TERMS.COOLANT_TERM`; 16 bits; R411; reset 560 -/
  coolantTerm : Nat := 560
  /-- applied cap C in uW, so that its rise of 200 W in 100 ms is exact at every tick period; R452; reset 700 W (DESIGN CHOICE, log 1: the reset effective cap) -/
  appliedCap : Nat := 700000000
  /-- `TOKEN_POLICY.SLACK_RELEASE`; 16 bits, KL, persistent; R411; reset 8,192 -/
  slackRelease : Nat := 8192
  /-- `TOKEN_POLICY.SLACK_CLAIM`; 16 bits, KL, persistent; R411; reset 2,048 -/
  slackClaim : Nat := 2048
  /-- `TOKEN_POLICY.RELEASE_STEP`; 8 bits, KL, persistent; R411; reset 4 -/
  releaseStep : Nat := 4
  /-- `TOKEN_POLICY.CLAIM_STEP`; 8 bits, KL, persistent; R411; reset 8 -/
  claimStep : Nat := 8
  /-- `TOKEN_POLICY.ORPHAN_PERCENT`; 7 bits, KL, persistent; R411; reset 75 -/
  orphanPercent : Nat := 75
  /-- policy waiting for the next tick; R407; reset none -/
  policyNext : Option (Nat × Nat × Nat × Nat) := none
  /-- orphan percentage waiting for the next tick; R429; reset none -/
  orphanNext : Option Nat := none
  /-- power requests in W by channel (0 none); R406; reset none -/
  requests : Tab Nat := []
  /-- power requests waiting for the tick after the response (channel, W); R406; reset none -/
  requestsNext : List (Nat × Nat) := []
  /-- power order log, oldest first, at most 64 entries of 32 B; R410; reset empty (DESIGN CHOICE, log 1) -/
  log : List (List Byte) := []
  /-- state epoch; 32 bits; R431; reset 0 (DESIGN CHOICE, log 1) -/
  epoch : Nat := 0
  /-- state epoch last written to Keep's settings; R431; reset 0 (DESIGN CHOICE, log 1) -/
  epochSaved : Nat := 0
  /-- unit records 0 to 32; R431; reset all zero (DESIGN CHOICE, log 1) -/
  units : Tab UnitRec := []
  /-- `BELFRY_STATUS.SEAT` when `SEAT_VALID`; R435; reset none (0, 0) -/
  seat : Option Nat := none
  /-- `BELFRY_STATUS.BYPASS_OPEN`; R416, R435; reset 0 -/
  bypassOpen : Bool := false
  /-- `BELFRY_STATUS.MEMBERS`[7:1]; R435; reset 0 -/
  members : Nat := 0
  /-- changes of seat counted; R417; reset 0 (DESIGN CHOICE, log 1) -/
  seatChanges : Nat := 0
  /-- `HELD`: tokens the last `LEASE` gave; R421, R422; reset 140 -/
  held : Nat := 140
  /-- offer and claim of the last `STATUS`; R422, R425; reset 0 -/
  offer : Nat := 0
  /-- claim of the last `STATUS`; R422; reset 0 -/
  claim : Nat := 0
  /-- `MASTER_EPOCH` last heard; 32 bits; R430; reset none -/
  masterEpoch : Option Nat := none
  /-- last time a valid frame from seat 0 arrived; R427; reset none -/
  heardAt : Option Nat := none
  /-- last time a `HEARTBEAT` from seat 0 arrived; R429; reset none -/
  beatAt : Option Nat := none
  /-- time from which the orphan rule counts when no heartbeat was heard; R429 -/
  aloneSince : Nat := 0
  /-- last time this module sent a `HEARTBEAT`; R415; reset none -/
  sentBeatAt : Option Nat := none
  /-- last marker: its reference instant and its count; R418; reset none -/
  marker : Option (Nat × Nat) := none
  /-- `MARKER_OFFSET` measured at the last marker, ns; R418 -/
  markerOffset : Int := 0
  /-- ticks without a valid inlet reading; R419; reset 3 (DESIGN CHOICE, log 1: `COOLANT_ASSUMED` is set at reset) -/
  coolantMiss : Nat := 3
  /-- coolant readings of the last 100 ms, newest first: time, inlet, flow where valid; R456; reset none -/
  coolant : List (Nat × Option Int × Option Nat) := []
  /-- `INLET` last valid reading, 0.01 C; R464; reset 0 (DESIGN CHOICE, log 1) -/
  inlet : Int := 0
  /-- `OUTLET` last valid reading, 0.01 C; R464; reset 0 (DESIGN CHOICE, log 1) -/
  outlet : Int := 0
  /-- `FLOW` last valid reading, 0.001 L/min; R464; reset 0 (DESIGN CHOICE, log 1) -/
  flow : Nat := 0
  /-- consecutive valid flow readings below 0.5 L/min; R458; reset 0 -/
  lowFlowRun : Nat := 0
  /-- since when W has stayed below 1.2 L/min; R457; reset none -/
  lowFlowSince : Option Nat := none
  /-- since when I has stayed above 52 C; R457; reset none -/
  hotInletSince : Option Nat := none
  /-- completion slack of the frame of each plan that ended last (plan, slack in U/65,536); R422; reset none -/
  slack : List (Nat × Nat) := []
  /-- the release of STANDBY or DARK tokens has been offered; R426; reset no -/
  standbyOffered : Bool := false
  deriving DecidableEq, Repr, Inhabited

/-- A hot spot of two thermal diodes (R449, R450). -/
structure HotSpot where
  /-- the two sensors' previous samples, 0.01 C; reset none -/
  a : Option Int := none
  b : Option Int := none
  /-- pair status; 2 bits; R450; reset 0 -/
  status : Nat := 0
  /-- status that the latest sample gives the pair; R450; reset 0 -/
  latest : Nat := 0
  /-- since when the pair has differed by more than 6 C -/
  splitSince : Option Nat := none
  /-- since when the condition of the status has been absent -/
  absentSince : Option Nat := none
  /-- when the spot last changed status -/
  changedAt : Option Nat := none
  /-- resolved readings of the last 1 s, newest first: time and 0.01 C -/
  history : List (Nat × Int) := []
  deriving DecidableEq, Repr, Inhabited

/-- One Spire's power and thermal state. -/
structure SpirePower where
  /-- matrix issue rate in 64ths; R437; reset 4 (the LOWEST rate; R437) -/
  matrixRate : Nat := 4
  /-- `THERMAL_STATUS.THERMAL_RATE`; 7 bits; R463; reset 64 -/
  thermalRate : Nat := 64
  /-- thermal target of the last sample and since when; R451; reset 64 -/
  target : Nat := 64
  /-- since when the present target has been the target; R451 -/
  targetSince : Nat := 0
  /-- `THERMAL_STATUS.THROTTLING`; R463; reset 0 -/
  throttling : Bool := false
  /-- `THERMAL_STATUS.EMERGENCY`; R463; reset 0 -/
  emergency : Bool := false
  /-- `THERMAL_STATUS.AT_CLAMP`; R463; reset 0 -/
  atClamp : Bool := false
  /-- `THERMAL_STATUS.HOTTEST_SPOT`; 6 bits; R463; reset 0 -/
  hottestSpot : Nat := 0
  /-- `THERMAL_STATUS.HOTTEST`, 0.01 C; 16 bits signed; R463; reset 0 -/
  hottest : Int := 0
  /-- since when T_s has stayed at or above 105 C at the lowest permitted target; R453; reset none -/
  hotSince : Option Nat := none
  /-- since when T_s has stayed below 100 C; R441; reset none -/
  coolSince : Option Nat := none
  /-- since when the clock is stretched (a droop event in progress); R448; reset none -/
  droopSince : Option Nat := none
  /-- by how much the droop event in progress lengthens cycles, in 1/100,000: a free value of at most 12 %; R59, R448 -/
  droopRate : Nat := 0
  /-- which of the 8 detectors began the droop event in progress, or the last one; R448; reset 0 (DESIGN CHOICE, log 1) -/
  droopBy : Nat := 0
  /-- when the last droop event of each detector ended; R448; reset none -/
  droopEnded : Tab Nat := []
  /-- the droop event in progress has already reached 200 ns; R448 -/
  droopLong : Bool := false
  /-- `STRETCH_TIME`, ns; 64 bits; R59, R63; reset 0 by module reset -/
  stretch : Nat := 0
  /-- `WORST_SLACK`, ps; 16 bits; R465; reset 0 (DESIGN CHOICE, log 1) -/
  worstSlack : Nat := 0
  /-- `BASELINE_SLACK`, ps; 16 bits; R460, R465; reset 0 (DESIGN CHOICE, log 1: measured at manufacture) -/
  baseline : Nat := 0
  /-- `VOLT_STEPS`; 0 to 8, persistent; R461, R465; reset 0 (DESIGN CHOICE, log 1) -/
  voltSteps : Nat := 0
  /-- voltage steps in the supply setpoint in force since the Spire was last powered; R461; reset 0 (DESIGN CHOICE, log 1) -/
  stepsNow : Nat := 0
  /-- `OUTCOME` of the last review; R461; reset 0 (DESIGN CHOICE, log 1) -/
  outcome : Nat := 0
  /-- `LAST_REVIEW`, powered hours; 32 bits; R465; reset 0 (DESIGN CHOICE, log 1) -/
  lastReview : Nat := 0
  deriving DecidableEq, Repr, Inhabited

/-- Supply, domains, pins, temperatures and ageing. -/
structure PowerSt where
  /-- per-Spire power and thermal state; R437 to R451, R463 -/
  spires : Tab SpirePower := []
  /-- vector issue rate in 64ths; R437, R439; reset 32 (the LOWEST rate) -/
  vectorRate : Nat := 32
  /-- hot spots: 30 x Spire + spot for 0 to 119, Cupola 120 to 127; R449; reset none sampled -/
  spots : Tab HotSpot := []
  /-- `SUPPLY_STATUS.WARNING`; R463; reset 0 -/
  warning : Bool := false
  /-- `SUPPLY_STATUS.VR_ALERT`; R463; reset 0 -/
  vrAlert : Bool := false
  /-- `SUPPLY_STATUS.VR_OWN`; R463; reset 0 -/
  vrOwn : Bool := false
  /-- when VR_ALERT_N was asserted; R441, R447; reset none -/
  vrSince : Option Nat := none
  /-- the 10 s alert has been raised for this assertion; R447; reset no -/
  vrReported : Bool := false
  /-- `SUPPLY_STATUS.WARNING_SEEN`; W1C; R463; reset 0 -/
  warningSeen : Bool := false
  /-- `SUPPLY_STATUS.RESET_SEEN`; W1C; R444, R463; reset 0 -/
  resetSeen : Bool := false
  /-- a supply or over-voltage reset awaits its start (R444) -/
  resetDue : Bool := false
  /-- `SUPPLY_STATUS.INPUT_V`, 0.01 V; 16 bits; R463; reset 0 -/
  inputV : Nat := 0
  /-- `COOLANT_STATUS.COOLANT_MODE`; 2 bits; R463; reset 0 -/
  coolantMode : Nat := 0
  /-- `COOLANT_STATUS.FLOW_UNKNOWN`; R463; reset 1 -/
  flowUnknown : Bool := true
  /-- `COOLANT_STATUS.INLET_HIGH`; R463; reset 0 -/
  inletHigh : Bool := false
  /-- `COOLANT_STATUS.COOLANT_FACTOR`, 0.1 %; 10 bits; R463; reset 1,000 -/
  coolantFactor : Nat := 1000
  /-- mean input power over the last tick, W; R464; reset 0 (DESIGN CHOICE, log 1) -/
  meanPower : Nat := 0
  /-- since when a supply warning has been in force, until compute resumes; R398, R443, R495; reset none -/
  warnAt : Option Nat := none
  /-- the input has stayed above 48 V for 5 ms since the last supply warning; R443, R446; reset no -/
  warnClear : Bool := false
  /-- a `WAKE` was accepted in STANDBY and the module is powering up; R408; reset no -/
  waking : Bool := false
  /-- power transitions in progress; R407, R457, R458, R583; reset none -/
  moves : List PowerMove := []
  /-- STANDBY was entered by an orderly halt or a coolant loss; R459; reset no -/
  haltedWake : Bool := false
  /-- the AON domain is powered; R19, R576; reset yes (State.reset is the module as its ROM leaves reset) -/
  aon : Bool := true
  /-- the Cupola main domain is powered; R19; reset no -/
  cupola : Bool := false
  /-- Spire compute domain s is powered; R19; reset none -/
  spireOn : List Nat := []
  /-- through-router domain s is powered; R19; reset none -/
  routerOn : List Nat := []
  /-- HBM domain s is powered; R19; reset none -/
  hbmOn : List Nat := []
  /-- the LPDDR6 domain is powered; R19; reset yes (tier 2 is retained over a module reset, R209) -/
  lpddrOn : Bool := true
  /-- LPDDR6 is in self-refresh; R19, R209; reset yes -/
  selfRefresh : Bool := true
  /-- the flash domain is powered; R19; reset yes (Keep's ROM reads its image store there, R377) -/
  flashOn : Bool := true
  /-- PWR_EN, as driven; R573; reset high -/
  pwrEn : Bool := true
  /-- when PWR_EN last changed; R576 -/
  pwrEnAt : Nat := 0
  /-- PWR_GOOD; R577; reset high -/
  pwrGood : Bool := true
  /-- THERM_TRIP_N is asserted (the trip latch); R454, R576; reset no -/
  tripLatch : Bool := false
  /-- when the thermal trip occurred; R576; reset none -/
  tripAt : Option Nat := none
  /-- the Cupola main domain was removed by a trip; R583; reset no -/
  tripCupola : Bool := false
  /-- tier 2 is retained under the first row of R583; reset no -/
  retained : Bool := false
  /-- the management port has link; R431, R434; reset no -/
  mgmtUp : Bool := false
  /-- `POWERED_HOURS` of the present life, counted in ms; R465; reset 0 (DESIGN CHOICE, log 1) -/
  poweredMs : Nat := 0
  /-- powered hours at which the next review falls due; R461, R465; reset 720 (DESIGN CHOICE, log 1) -/
  nextReview : Nat := 720
  /-- `STALE_MASK`; 64 bits; R462, R465; reset 0 (DESIGN CHOICE, log 1) -/
  stale : Nat := 0
  /-- mean input power samples of the energy window; R440 -/
  energyMj : Nat := 0
  /-- previous value used for `POWERED_HOURS` -/
  poweredAt : Nat := 0
  deriving DecidableEq, Repr, Inhabited

end Sys2Proof.Machine
end

