-- ==== Sys2Proof/Machine/State.lean ====
section
/-! DEFINITION. Machine/State.lean: the state of the module: its registers and units, its memory and the queue of waiting commands; the outcomes that are no next state; and the module right after reset. -/
namespace Sys2Proof.Machine

/-- Everything the spec gives the module but its addressed memory. -/
structure Hw where
  time : TimeSt := {}
  /-- clock regions: core c is c, the staging and message logic of Spire s is 256 + s, through-router s is 260 + s, Graver k is 264 + k; R57 -/
  clks : Tab Clk := []
  /-- the 256 cores by module core number; R64 -/
  cores : Tab CoreSt := []
  links : LinksSt := {}
  pager : PagerSt := {}
  /-- the twelve Graver engines; R214 -/
  gravers : Tab GraverSt := []
  coll : CollSt := {}
  host : HostSt := {}
  keep : KeepSt := {}
  lantern : LanternSt := {}
  power : PowerSt := {}
  fault : FaultSt := {}
  hang : HangSt := {}
  mirror : MirrorSt := {}
  conserve : ConserveSt := {}
  plans : PlansSt := {}
  burin : BurinSt := {}
  /-- the 64 Stipple monitors; R551 -/
  monitors : Tab Monitor := []
  /-- the monitors as they count from the latest snapshot on, from which a cleared monitor goes on; R554; reset none -/
  monitorsSince : Tab Monitor := []
  /-- monitor configurations waiting for the next tick; R551; reset none -/
  monitorsNext : List (Nat × Monitor) := []
  light : LightSt := {}
  /-- the counter bank: key block x 2^20 + value index (R540); reset 0 -/
  ctr : Tab Nat := []
  /-- the snapshot of the latest tick; R44, R541; reset: none taken -/
  snapCur : Snap := {}
  /-- the snapshot of the tick before; R541; reset: none taken -/
  snapPrev : Snap := {}
  /-- base addresses of the check units that hold an uncorrectable error; R594; reset: DESIGN CHOICE none (log 1) -/
  bad : List Nat := []
  /-- what the last command sent out of the module, in order (the model's own field, log 7); reset empty -/
  tx : List Emit := []
  /-- how many free values have been taken (the model's own field, log 8); reset: DESIGN CHOICE 0 (log 8) -/
  freeCtr : Nat := 0
  deriving DecidableEq, Repr, Inhabited

/-- The addressed memory: cells in strictly rising address order, none of value 0, an unlisted address reads 0 (log 3). -/
abbrev Mem := List Host.Cell

/-- The state of the block: the module, its memory, and the commands that wait, first in first out. -/
structure State where
  hw : Hw
  mem : Mem
  pending : List Instr
  deriving DecidableEq, Repr

/-- Outcomes after which the spec gives the module no further behaviour. -/
inductive Fault where
  /-- an absolute maximum rating is exceeded (R6, R587): raised by the supply commands; safe: the spec gives no effect -/
  | beyondRatings
  deriving DecidableEq, Repr

/-- Refusals: the model declines to say what a command does. -/
inductive Refusal where
  /-- the command has no meaning in this model yet: raised by an arm of `exec`; safe -/
  | notModelled (mnemonic : String)
  deriving DecidableEq, Repr

/-- The module as Keep's ROM leaves reset (R386): AON powered, everything else unpowered or in reset, memory with nothing
listed, no command waiting. -/
def State.reset : State := { hw := {}, mem := [], pending := [] }

end Sys2Proof.Machine
end

