-- ==== Sys2Proof/Machine/Ops.lean ====
section
/-! DEFINITION. Machine/Ops.lean: the named operations over the state: memory, counters, clocks and time-stamps, trace records, monitors and the fault collector. -/
namespace Sys2Proof.Machine

/-! ## Memory -/

/-- The cells of n addresses from a on, a missing cell reading 0. -/
def spread (a : Nat) : Nat → Mem → List Byte
  | 0, _ => []
  | n + 1, [] => 0 :: spread (a + 1) n []
  | n + 1, (k, v) :: rest => if k = a then v :: spread (a + 1) n rest else 0 :: spread (a + 1) n ((k, v) :: rest)

/-- Read n bytes of memory from an address. -/
def memGet (m : Mem) (a n : Nat) : List Byte :=
  spread a n (m.filter (fun p => a ≤ p.1 && p.1 < a + n))

/-- One byte of memory. -/
def memByte (m : Mem) (a : Nat) : Byte := tabGet 0 m a

/-- The cells that hold bytes from an address on; a zero byte has no cell. -/
def cellsOf (a : Nat) : List Byte → Mem
  | [] => []
  | b :: bs => if b = 0 then cellsOf (a + 1) bs else (a, b) :: cellsOf (a + 1) bs

/-- Write bytes of memory from an address on. -/
def memPut (m : Mem) (a : Nat) (bs : List Byte) : Mem :=
  m.filter (fun p => p.1 < a) ++ cellsOf a bs ++ m.filter (fun p => a + bs.length ≤ p.1)

/-- Fill n bytes of memory with zeros. -/
def memClear (m : Mem) (a n : Nat) : Mem := m.filter (fun p => p.1 < a || a + n ≤ p.1)

/-- The canonical form: addresses strictly rise and no cell holds 0. -/
def Mem.wf : Mem → Bool
  | [] => true
  | (a, v) :: rest => v != 0 && rest.all (fun p => a < p.1) && Mem.wf rest

/-- One store of a command. -/
inductive Store where
  | put (addr : Nat) (bytes : List Byte)
  | clear (addr len : Nat)
  deriving DecidableEq, Repr

/-- One store carried out. -/
def applyStore (m : Mem) : Store → Mem
  | .put a bs => memPut m a bs
  | .clear a n => memClear m a n

/-- What a command works on: the module, the memory before the command, and the command's stores, newest first. -/
structure Work where
  hw : Hw
  base : Mem
  log : List Store
  /-- stores of the log that the mirror windows have already noted, counted from the oldest (R519) -/
  marked : Nat := 0

/-- n bytes from a, with one store laid over them. -/
def overlay (a n : Nat) (st : Store) (acc : List Byte) : List Byte :=
  match st with
  | .put b bs =>
    let lo := max a b
    let hi := min (a + n) (b + bs.length)
    if hi ≤ lo then acc
    else acc.take (lo - a) ++ (bs.drop (lo - b)).take (hi - lo) ++ acc.drop (hi - a)
  | .clear b len =>
    let lo := max a b
    let hi := min (a + n) (b + len)
    if hi ≤ lo then acc
    else acc.take (lo - a) ++ zeros (hi - lo) ++ acc.drop (hi - a)

/-- Read n bytes as the command's own stores have left them. -/
def Work.read (w : Work) (a n : Nat) : List Byte := w.log.foldr (overlay a n) (memGet w.base a n)

/-- Read an n-byte number, least-significant byte first. -/
def Work.num (w : Work) (a n : Nat) : Nat := leNat (w.read a n)

/-- The memory after the command's stores. -/
def Work.mem (w : Work) : Mem := w.log.foldr (fun st m => applyStore m st) w.base

/-- Change the module. -/
def Work.up (w : Work) (f : Hw → Hw) : Work := { w with hw := f w.hw }

/-- Size of the check unit at an address key (R467, R594): 32 B in the tiers, 16 B in SRAM, 4 B in tiles. -/
def checkUnit (a : Nat) : Nat :=
  if a < 2 ^ 48 then 32 else if a < 2 ^ 50 then 16 else if a < 2 ^ 51 then 4 else 16

/-- The check units with an uncorrectable error that a range touches. -/
def badUnits (hw : Hw) (a n : Nat) : List Nat :=
  hw.bad.filter (fun u => a < u + checkUnit u && u < a + n)

/-- Every check unit of a range reads without an uncorrectable error (R468). -/
def Work.good (w : Work) (a n : Nat) : Bool := (badUnits w.hw a n).isEmpty

/-- The address of the first failing check unit in a range. -/
def Work.firstBad (w : Work) (a n : Nat) : Nat := ((badUnits w.hw a n).foldl min (a + n))

/-- Store bytes under R594: a bad unit the store covers whole becomes good, one covered in part keeps its error and its bytes. -/
def Work.write (w : Work) (a : Nat) (bs : List Byte) : Work :=
  if bs.isEmpty then w
  else
    let hit := badUnits w.hw a bs.length
    if hit.isEmpty then { w with log := .put a bs :: w.log }
    else
      let whole := hit.filter (fun u => a ≤ u && u + checkUnit u ≤ a + bs.length)
      let part := hit.filter (fun u => !whole.contains u)
      let keep := part.map (fun u => Store.put u (w.read u (checkUnit u)))
      { w with
        hw := { w.hw with bad := w.hw.bad.filter (fun u => !whole.contains u) }
        log := keep ++ (.put a bs :: w.log) }

/-- Store an n-byte number, least-significant byte first. -/
def Work.writeNum (w : Work) (a n v : Nat) : Work := w.write a (leBytes n v)

/-- Fill n bytes with zeros; the fill covers every check unit of the range whole. -/
def Work.zero (w : Work) (a n : Nat) : Work :=
  if n = 0 then w
  else { w with
         hw := { w.hw with bad := w.hw.bad.filter (fun u => u + checkUnit u ≤ a || a + n ≤ u) }
         log := .clear a n :: w.log }

/-! ## Address keys -/

/-- Scratchpad of a core (R65). -/
def scratchKey (core off : Nat) : Nat := 2 ^ 48 + core * 2 ^ 22 + off
/-- Staging of a Spire (R65). -/
def stagingKey (spire off : Nat) : Nat := 2 ^ 49 + spire * 2 ^ 26 + off
/-- Word (row, column) of an accumulator tile (R150). -/
def tileKey (core tile row col : Nat) : Nat := 2 ^ 50 + core * 2 ^ 19 + tile * 2 ^ 16 + (row * 128 + col) * 4
/-- Instruction store of a core (R64). -/
def storeKey (core off : Nat) : Nat := 2 ^ 51 + core * 2 ^ 17 + off
/-- Control store of a core, which holds its core runtime (R375, R394). -/
def controlKey (core off : Nat) : Nat := 2 ^ 52 + core * 2 ^ 22 + off
/-- Location of a stored page in tier 3, beyond the addresses that any unit but the pager reaches (R206). -/
def flashKey (loc : Nat) : Nat := 2 ^ 60 + loc * 2 ^ 16
/-- Scratchpad bytes of a core (R65). -/
def scratchBytes : Nat := 0x300000
/-- Staging offsets granted to plans lie below this (R180). -/
def stagingPlan : Nat := 0x3800000
/-- First address of tier 2 (R174). -/
def tier2Base : Nat := 0x010000000000
/-- Journal (R178). -/
def journalBase : Nat := 0x027AD0000000
/-- Group table (R178). -/
def groupTableBase : Nat := 0x027AF0000000
/-- Firmware work area (R178). -/
def workArea : Nat := 0x027C00000000
/-- The Spire of a module core. -/
def spireOf (core : Nat) : Nat := core / 64

/-! ## Time, clocks and stamps -/

/-- Nanoseconds of the tick period (R38, R39). -/
def period (hw : Hw) : Nat := hw.time.periodCode * 10000

/-- The instant T of a period change: the first multiple of the new period at or after an instant (R41). -/
def changeAt (earliest code : Nat) : Nat := alignUp earliest (code * 10000)

/-- The instant of the next tick: a multiple of the period, or the instant of a period change (R39, R41). -/
def nextTick (hw : Hw) : Nat :=
  let t := hw.time.tickAt + period hw
  match hw.time.periodNext with
  | some (earliest, code) => min t (changeAt earliest code)
  | none => t

/-- The deadline of the current frame window: 4 us before the next tick (R40). -/
def deadlineAt (hw : Hw) : Nat := nextTick hw - 4000

/-- The next instant that time alone brings: the deadline, then the tick. -/
def horizon (hw : Hw) : Nat := if hw.time.deadlineDone then nextTick hw else deadlineAt hw

/-- A timed event due at an instant has its moment within the present window. -/
def due (hw : Hw) (instant : Nat) : Bool := instant ≤ horizon hw

/-- Time moves to an instant where that lies ahead. -/
def advance (w : Work) (instant : Nat) : Work :=
  w.up fun h => { h with time := { h.time with now := max h.time.now instant } }

/-- Time passes by 1 ns while no command waits, up to the next instant that time alone brings (R38; log 5). -/
def idle (hw : Hw) : Hw := { hw with time := { hw.time with now := max hw.time.now (min (hw.time.now + 1) (horizon hw)) } }

/-- The clock of a region. -/
def clkOf (hw : Hw) (region : Nat) : Clk := tabGet {} hw.clks region

/-- The Spire whose droop detectors stretch a region's cycles; 4 for a Graver engine, which none stretches. -/
def stretchSpire (region : Nat) : Nat :=
  if region < 256 then region / 64 else if region < 260 then region - 256 else if region < 264 then region - 260 else 4

/-- Power and thermal state of a Spire. -/
def spirePower (hw : Hw) (s : Nat) : SpirePower := tabGet {} hw.power.spires s

/-- By how much cycles lengthened by a share of k/100,000 have grown over n ns (R59, R448): that part of the time was lengthening. -/
def droopGrowth (k n : Nat) : Nat := n * k / (100000 + k)

/-- The growth of `STRETCH_TIME` in a droop event in progress; stretching ends at 200 ns (R448). -/
def droopNow (hw : Hw) (s : Nat) : Nat :=
  match (spirePower hw s).droopSince with
  | none => 0
  | some t => droopGrowth (spirePower hw s).droopRate (min 200 (hw.time.now - t))

/-- `STRETCH_TIME` of a Spire at this instant (R59). -/
def stretchNow (hw : Hw) (s : Nat) : Nat := if s < 4 then (spirePower hw s).stretch + droopNow hw s else 0

/-- Cycles per nanosecond of a region: 2 on a Spire, 1 on a Graver engine. -/
def cyclesPerNs (region : Nat) : Nat := if region < 264 then 2 else 1

/-- The cycle counter of a region: a stretched cycle counts as one cycle (R59); it halts with the clock (R60). -/
def cyclesNow (hw : Hw) (region : Nat) : Nat :=
  let c := clkOf hw region
  if c.running then
    c.cycles + cyclesPerNs region * ((hw.time.now - c.since) - (stretchNow hw (stretchSpire region) - c.stretch0))
  else c.cycles

/-- `STOPPED_TIME` of a region (R60). -/
def stoppedNow (hw : Hw) (region : Nat) : Nat :=
  let c := clkOf hw region
  if c.running then c.stopped else c.stopped + (hw.time.now - c.since)

/-- The time counter of a region and its resync flag (R57, R61, R62): for 2 us after a restart it may lie behind. -/
def stampOf (hw : Hw) (region : Nat) : Nat × Bool :=
  let c := clkOf hw region
  if !c.running then (c.halt, true)
  else if c.stopped > 0 && hw.time.now < c.since + 2000 then (c.halt + (hw.time.now - c.since), true)
  else (hw.time.now, false)

/-- Start a region's clock. -/
def startClk (region : Nat) (w : Work) : Work :=
  w.up fun h =>
    let c := clkOf h region
    if c.running then h
    else
      let c' : Clk := { c with
        running := true
        since := h.time.now
        stopped := c.stopped + (h.time.now - c.since)
        stretch0 := stretchNow h (stretchSpire region) }
      { h with clks := tabSet {} h.clks region c' }

/-- Stop a region's clock: its counters halt (R60). -/
def stopClk (region : Nat) (w : Work) : Work :=
  w.up fun h =>
    let c := clkOf h region
    if !c.running then h
    else
      let c' : Clk := { c with
        running := false
        since := h.time.now
        cycles := cyclesNow h region
        halt := (stampOf h region).1 }
      { h with clks := tabSet {} h.clks region c' }

/-- Region of a core's own time-stamps: its Spire's time counter. -/
def coreRegion (core : Nat) : Nat := 256 + spireOf core

/-! ## Units of the state -/

/-- The state of a core. -/
def coreOf (hw : Hw) (c : Nat) : CoreSt := tabGet {} hw.cores c
/-- Set the state of a core. -/
def setCore (c : Nat) (v : CoreSt) (w : Work) : Work := w.up fun h => { h with cores := tabSet {} h.cores c v }
/-- Change the state of a core. -/
def modCore (c : Nat) (f : CoreSt → CoreSt) (w : Work) : Work := w.up fun h => { h with cores := tabMod {} h.cores c f }
/-- The state of a plane port. -/
def portOf (hw : Hw) (p : Nat) : Port := tabGet {} hw.links.ports p
/-- Change the state of a plane port. -/
def modPort (p : Nat) (f : Port → Port) (w : Work) : Work :=
  w.up fun h => { h with links := { h.links with ports := tabMod {} h.links.ports p f } }
/-- The state of a Graver engine. -/
def graverOf (hw : Hw) (k : Nat) : GraverSt := tabGet {} hw.gravers k
/-- The descriptors that an engine holds: the running one, then the queue (R217, R218). -/
def graverHeld (g : GraverSt) : List GDesc := (g.running.map (fun r => r.d)).toList ++ g.queue

/-- Change the state of a Graver engine. -/
def modGraver (k : Nat) (f : GraverSt → GraverSt) (w : Work) : Work :=
  w.up fun h => { h with gravers := tabMod {} h.gravers k f }
/-- Change the power and thermal state of a Spire. -/
def modSpire (s : Nat) (f : SpirePower → SpirePower) (w : Work) : Work :=
  w.up fun h => { h with power := { h.power with spires := tabMod {} h.power.spires s f } }

/-- The matrix issue rate in force on a core, in 64ths: Lantern's, from the first multiple of 64 of the core's cycles on (R162). -/
def issueRate (hw : Hw) (core : Nat) : Nat :=
  let c := coreOf hw core
  if cyclesNow hw core < c.rateFrom then c.rateOld else (spirePower hw (core / 64)).matrixRate

/-- The lowest matrix issue rate in force on a core since its frame started (R55). -/
def minIssueNow (hw : Hw) (core : Nat) : Nat := min (coreOf hw core).minIssue (issueRate hw core)

/-- The vector issue rate in force on a core, in 64ths (R162, R439). -/
def vectorIssueRate (hw : Hw) (core : Nat) : Nat :=
  let c := coreOf hw core
  if cyclesNow hw core < c.vectorFrom then c.vectorOld else hw.power.vectorRate

/-- One of the two cycles of a nanosecond that begins at cycle c is enabled at a rate in 64ths (R160; log 69). -/
def cycleEnabled (c r : Nat) : Bool := c * r / 64 < (c + 2) * r / 64

/-- One of the two cycles of this nanosecond is a matrix-enabled cycle of a core (R160). -/
def rateEnables (hw : Hw) (core : Nat) : Bool := cycleEnabled (cyclesNow hw core) (issueRate hw core)

/-- One of the two cycles of this nanosecond is a vector-enabled cycle of a core (R439); so it is at 32/64 and above. -/
def vectorEnables (hw : Hw) (core : Nat) : Bool := cycleEnabled (cyclesNow hw core) (vectorIssueRate hw core)

/-- The partition count in force (R25). -/
def partCount (hw : Hw) : Nat := hw.keep.partitions
/-- The partition of a Spire (R24, R25). -/
def partOfSpire (hw : Hw) (s : Nat) : Nat := s / (4 / max 1 (partCount hw))
/-- The partition of a core. -/
def partOfCore (hw : Hw) (c : Nat) : Nat := partOfSpire hw (spireOf c)
/-- The Spires of a partition (R24). -/
def spiresOfPart (hw : Hw) (p : Nat) : List Nat := (List.range 4).filter (fun s => partOfSpire hw s == p)

/-- The plan with an identifier, where it counts as admitted (R52). -/
def findPlan (hw : Hw) (id : Nat) : Option Plan := hw.plans.plans.find? (fun p => p.id == id)
/-- Change a plan. -/
def modPlan (id : Nat) (f : Plan → Plan) (w : Work) : Work :=
  w.up fun h => { h with plans := { h.plans with plans := h.plans.plans.map (fun p => if p.id == id then f p else p) } }
/-- The plan bound to a core. -/
def planOfCore (hw : Hw) (c : Nat) : Option Plan :=
  hw.plans.plans.find? (fun p => p.cores.any (fun e => e.core == c))

/-- Endpoint ID of a die: rack, seat and die (R265); a module whose base is not yet fixed has base 0. -/
def endpointOf (hw : Hw) (die : Nat) : Nat :=
  match hw.links.base with
  | some (rack, seat) => rack * 256 + seat * 4 + die
  | none => die

/-- An endpoint ID names a die of this module. -/
def isOwnEndpoint (hw : Hw) (ep : Nat) : Bool := ep / 4 == endpointOf hw 0 / 4

/-! ## Counters, free values, outputs -/

/-- Add to a counter of a block (R540). -/
def bump (block index n : Nat) (w : Work) : Work :=
  w.up fun h => { h with ctr := tabBump h.ctr (block * 2 ^ 20 + index) n }

/-- A saturating 64-bit counter rises. -/
def bumpSat (block index n : Nat) (w : Work) : Work :=
  bump block index (min n (2 ^ 64 - 1 - tabGet 0 w.hw.ctr (block * 2 ^ 20 + index))) w

/-- A counter of a block. -/
def ctrOf (hw : Hw) (block index : Nat) : Nat := tabGet 0 hw.ctr (block * 2 ^ 20 + index)

/-- Set a counter of a block: for the values that are current values. -/
def setCtr (block index v : Nat) (w : Work) : Work :=
  w.up fun h => { h with ctr := tabSet 0 h.ctr (block * 2 ^ 20 + index) v }

/-- The next free value. -/
def freeOf (w : Work) : Nat := Config.freeNat w.hw.freeCtr
/-- The free value has been taken. -/
def freeUsed (w : Work) : Work := w.up fun h => { h with freeCtr := h.freeCtr + 1 }

/-- Something leaves the module. -/
def emit (e : Emit) (w : Work) : Work := w.up fun h => { h with tx := h.tx ++ [e] }

/-! ## Monitors -/

/-- The bin of a sample (R553). -/
def binOf (m : Monitor) (v : Int) : Nat :=
  let d := v - m.base
  if m.logBins then
    if d < 1 then 0
    else min 31 (Nat.log2 d.toNat + 1)
  else
    let q := d / (m.width : Int)
    if q < 0 then 0 else min 31 q.toNat

/-- One sample counted in a monitor (R553). -/
def countSample (m : Monitor) (v : Int) : Monitor :=
  { m with
    min := if v < m.min then v else m.min
    max := if v > m.max then v else m.max
    bins := tabMod 0 m.bins (binOf m v) (fun b => satAdd 32 b 1)
    samples := m.samples + 1 }

/-- A quantity of R552 has a sample: every monitor that names it takes it. -/
def sample (quantity select : Nat) (v : Int) (w : Work) : Work :=
  let count (p : Nat × Monitor) : Nat × Monitor :=
    if p.2.quantity == quantity && p.2.select == select then (p.1, countSample p.2 v) else p
  w.up fun h => { h with monitors := h.monitors.map count, monitorsSince := h.monitorsSince.map count }

/-! ## Trace records (R542 to R549) -/

/-- First address of the Burin region (R178, R542). -/
def burinBase (hw : Hw) : Nat := journalBase - hw.burin.gib * 2 ^ 30
/-- Records the trace ring holds (R542). -/
def ringCapacity (hw : Hw) : Nat := (hw.burin.gib * 2 ^ 30 - 0x4100000) / 32
/-- Address of a ring index. -/
def ringAddr (hw : Hw) (index : Nat) : Nat := burinBase hw + 0x4100000 + 32 * (index % ringCapacity hw)

/-- The 32 bytes of a trace record (R544). -/
def traceBytes (r : TraceRec) : List Byte :=
  leBytes 8 r.time ++ leBytes 1 r.kind ++ leBytes 1 r.rflags ++ leBytes 2 r.ctx ++ leBytes 2 r.unit ++ zeros 2
    ++ slice r.payload 0 16

/-- The unit whose buffer a record passes (R546): a Spire, or 4 for Cupola. The record names a core, a stack, a Spire's core or the module. -/
def traceSource (r : TraceRec) : Nat := if r.unit = 0xFFFF then 4 else if r.kind = 6 then r.unit / 3 else r.unit / 64

/-- Write 32 record bytes at the next ring index, and into the export buffer (R546, R549); a record dropped counts for the unit it comes from. -/
def ringWrite (source : Nat) (bytes : List Byte) (w : Work) : Work :=
  let b := w.hw.burin
  if b.stopWhenFull && ringCapacity w.hw ≤ b.next - b.oldest then bump 13 (1 + source) 1 w
  else
    let w1 := (w.write (ringAddr w.hw b.next) bytes).up fun h => { h with burin :=
      { h.burin with
        next := b.next + 1
        oldest := if ringCapacity h ≤ b.next - b.oldest then b.oldest + 1 else b.oldest } }
    let w2 := bump 13 0 1 w1
    if !b.exporting then w2
    else if 32768 ≤ b.exportBuf.length then bump 13 6 1 w2
    else w2.up fun h => { h with burin := { h.burin with exportBuf := h.burin.exportBuf ++ [(b.next, bytes)] } }

/-- The `LOST` record of a unit (R545). -/
def lostRecord (now n first : Nat) : TraceRec := ⟨now, 0x14, 0, 0, 0xFFFF, leBytes 8 n ++ leBytes 8 first⟩

/-- The buffered records enter the ring (R546) while tier 2 is up; a `LOST` record of each unit that dropped records follows. -/
def drainTrace (w : Work) : Work :=
  if !w.hw.keep.lpUp then w
  else
    let b := w.hw.burin
    let w1 := b.buffer.foldl (fun acc r => ringWrite (traceSource r) (traceBytes r) acc) w
    let w2 := b.lost.foldl (fun acc l => ringWrite l.1 (traceBytes (lostRecord w.hw.time.now l.2.1 l.2.2)) acc) w1
    w2.up fun h => { h with burin := { h.burin with buffer := [], lost := [] } }

/-- A record goes to Burin through its unit's buffer of 4,096 records (R546). -/
def putTrace (r : TraceRec) (w : Work) : Work :=
  let s := traceSource r
  if (w.hw.burin.buffer.filter (fun x => traceSource x == s)).length < 4096 then
    drainTrace (w.up fun h => { h with burin := { h.burin with buffer := h.burin.buffer ++ [r] } })
  else
    (bump 13 (1 + s) 1 w).up fun h => { h with burin := { h.burin with
      lost := match h.burin.lost.find? (fun l => l.1 == s) with
        | some l => h.burin.lost.map (fun x => if x.1 == s then (s, l.2.1 + 1, l.2.2) else x)
        | none => h.burin.lost ++ [(s, 1, r.time)] } }

/-- A module record (R545), stamped by Cupola. -/
def traceModule (kind unit : Nat) (payload : List Byte) (w : Work) : Work :=
  putTrace ⟨w.hw.time.now, kind, 0, 0, unit, payload⟩ w

/-- Whether a plan class is set for a plan (R543). -/
def planClass (hw : Hw) (plan cls : Nat) : Bool :=
  hw.burin.enable && bit (tabGet 0 hw.burin.planMask plan) cls

/-- A record of a plan class, stamped by a region's time counter. -/
def tracePlan (plan cls region kind rflags ctx unit : Nat) (payload : List Byte) (w : Work) : Work :=
  if planClass w.hw plan cls then
    let (t, rs) := stampOf w.hw region
    putTrace ⟨t, kind, rflags + b2n rs, ctx, unit, payload⟩ w
  else w

/-! ## The fault collector (R474 to R485) -/

/-- `READY` (R397): from the start of a module reset until then, events of unpowered units are not recorded. -/
def isReady (hw : Hw) : Bool := hw.keep.ready

/-- The domain that a block reset of an event resets (R475): kind as in R506, 7 for a through-router; none where BLK is not permitted. -/
def blockDomain (source unitKind unit : Nat) : Option (Nat × Nat) :=
  match source with
  | 4 => some (1, unit)
  | 9 => if unitKind = 1 then some (1, unit) else if unitKind = 3 then some (4, unit) else none
  | 15 =>
    match unitKind with
    | 1 => some (2, unit / 64)
    | 2 => some (2, unit)
    | 3 => some (4, unit)
    | 6 => some (5, unit)
    | 7 => some (6, (unit - 8) / 2)
    | 10 => some (7, unit)
    | _ => none
  | 16 => some (5, unit)
  | 18 => some (6, (unit - 8) / 2)
  | _ => none

/-- BLK may be set on a source (R475). -/
def blockPermitted (source : Nat) : Bool := [4, 6, 9, 15, 16, 18].contains source

/-- Locked reactions of a source (R475), as bits of R476. -/
def lockedReactions (source : Nat) : Nat :=
  match source with
  | 2 => 2 | 3 => 2 | 7 => 8 | 11 => 1 | 26 => 16 | 30 => 16 | 31 => 2 | _ => 0

/-- A domain of kind and unit (R506; 7 a through-router) is held in reset by a domain reset in progress. -/
def domainInReset (hw : Hw) (kind unit : Nat) : Bool :=
  hw.hang.resets.any (fun r => r.step == .reset && r.kind == kind && r.unit == unit)

/-- A Spire is held in reset: by its own reset or by its partition's. -/
def spireInReset (hw : Hw) (s : Nat) : Bool := domainInReset hw 2 s || domainInReset hw 3 (partOfSpire hw s)

/-- A unit is powered and not held in reset, for R477: units of Cupola count from the Cupola domain. -/
def unitUp (hw : Hw) (unitKind unit : Nat) : Bool :=
  match unitKind with
  | 1 => hw.power.spireOn.contains (unit / 64) && !domainInReset hw 1 unit && !spireInReset hw (unit / 64)
  | 2 => hw.power.spireOn.contains unit && !spireInReset hw unit
  | 3 => hw.power.hbmOn.contains (unit / 3) && !domainInReset hw 4 unit
  | 4 => hw.power.lpddrOn
  | 5 => hw.power.flashOn
  | 10 => hw.power.routerOn.contains unit && !domainInReset hw 7 unit
  | 0 => true
  | 9 => true
  | _ => hw.power.cupola

/-- A reset in progress that already covers a domain (R495). -/
def coveringReset (hw : Hw) (kind unit : Nat) : Option DomainReset :=
  hw.hang.resets.find? (fun r =>
    (r.kind == kind && r.unit == unit)
      || (kind == 1 && ((r.kind == 2 && r.unit == spireOf unit) || (r.kind == 3 && r.unit == partOfCore hw unit)))
      || (kind == 2 && r.kind == 3 && r.unit == partOfSpire hw unit))

/-- A BLK domain is already in reset (R477). -/
def blockRuns (hw : Hw) (b : Nat × Nat) : Bool := (coveringReset hw b.1 b.2).isSome

/-- The reactions taken for an event whose source has a set of reactions and whose BLK domains are `blocks` (R475 to R477): none in the
safe state, no BLK beside MOD, none of a domain already in reset, none without a domain. -/
def takenOf (hw : Hw) (set : Nat) (blocks : List (Nat × Nat)) : Nat :=
  if hw.fault.safe.isSome then 0
  else if bit set 2 && (bit set 3 || blocks.all (blockRuns hw)) then set - 4
  else set

/-- `SUPPRESSED` (R480): reactions were withheld under R477. -/
def withheld (hw : Hw) (set : Nat) (blocks : List (Nat × Nat)) : Bool :=
  if hw.fault.safe.isSome then set != 0 else bit set 2 && !blocks.isEmpty && (bit set 3 || blocks.any (blockRuns hw))

/-- One event reaches the collector: history entry, count, reactions (R474, R476, R477). `blocks` are the BLK domains. -/
def raiseWith (blocks : List (Nat × Nat)) (source unitKind unit ctx detail : Nat) (stamp : Nat × Bool) (w : Work) : Work :=
  let always := [0, 1, 26, 30].contains source
  if !always && !isReady w.hw && !unitUp w.hw unitKind unit then w
  else
    let w0 := w.up fun h => { h with fault := { h.fault with count := tabMod 0 h.fault.count source (fun n => satAdd 32 n 1) } }
    if w.hw.fault.seen.contains (source, unitKind, unit) then w0
    else
      let f := w0.hw.fault
      let set := (f.reaction[source]?).getD 0
      let safe := f.safe.isSome
      let forcesSafe := source == 0 || source == 1
      let taken := takenOf w.hw set blocks
      let suppressed := withheld w.hw set blocks
      let seq := f.seq + 1
      let entry : HistEntry := {
        time := stamp.1
        seq := seq
        source := source
        reactions := taken
        suppressed := suppressed
        ctx := ctx
        unitKind := unitKind
        unit := unit
        resync := stamp.2
        boot := w.hw.keep.bootCount % 2 ^ 32
        detail := detail % 2 ^ 64 }
      let older := if f.history.length < 32 then f.history else f.history.drop 1
      let due := (if bit taken 2 then (blocks.filter (fun b => !blockRuns w.hw b)).map (fun b => Reaction.block b.1 b.2 (if source = 6 then 1 else if source = 4 then 2 else 3) seq) else [])
        ++ (if bit taken 3 then [Reaction.module] else [])
        ++ (if forcesSafe && !safe then [Reaction.safe source] else [])
      let w1 := w0.up fun h => { h with fault := { h.fault with
        seq := seq
        history := older ++ [entry]
        seen := (source, unitKind, unit) :: h.fault.seen
        turretEvents := if bit taken 0 then h.fault.turretEvents ++ [seq] else h.fault.turretEvents
        keepEvents := if bit taken 1 then h.fault.keepEvents ++ [seq] else h.fault.keepEvents
        pinHeld := h.fault.pinHeld || bit taken 4
        pinSource := if bit taken 4 then source else h.fault.pinSource
        due := h.fault.due ++ due } }
      traceModule 0x12 0xFFFF (leBytes 4 seq ++ leBytes 1 source ++ leBytes 1 (taken + 32 * b2n suppressed) ++ zeros 2
        ++ leBytes 8 detail) w1

/-- One event stamped by Cupola, with the BLK domain of R475. -/
def raise (source unitKind unit ctx detail : Nat) (w : Work) : Work :=
  raiseWith (blockDomain source unitKind unit).toList source unitKind unit ctx detail (w.hw.time.now, false) w

/-- One event stamped by the time counter of a region. -/
def raiseAt (region source unitKind unit ctx detail : Nat) (w : Work) : Work :=
  raiseWith (blockDomain source unitKind unit).toList source unitKind unit ctx detail (stampOf w.hw region) w

/-- Fold a change over a list. -/
def forEach {α : Type} (l : List α) (f : α → Work → Work) (w : Work) : Work := l.foldl (fun acc a => f a acc) w

/-- Carry out a change only where a condition holds. -/
def when (c : Bool) (f : Work → Work) (w : Work) : Work := if c then f w else w

end Sys2Proof.Machine
end

