-- ==== Sys2Proof/Machine/Operands.lean ====
section
/-! DEFINITION. Machine/Operands.lean: operands of a core: registers, the fields of a slot, address words and the checks of R66 to R68. -/
namespace Sys2Proof.Machine

/-- Scalar register i: s0 reads zero (R70). -/
def sreg (r : CoreRegs) (i : Nat) : Nat := if i = 0 then 0 else (tabGet (0 : W64) r.s i).toNat

/-- Scalar register i set: writes to s0 are discarded (R70). -/
def setS (r : CoreRegs) (i v : Nat) : CoreRegs :=
  if i = 0 then r else { r with s := tabSet 0 r.s i (BitVec.ofNat 64 v) }

/-- Vector register i as a number of 4,096 bits. -/
def vreg (r : CoreRegs) (i : Nat) : Nat := (tabGet (0 : W4096) r.v i).toNat

/-- Vector register i set. -/
def setV (r : CoreRegs) (i v : Nat) : CoreRegs := { r with v := tabSet 0 r.v i (BitVec.ofNat 4096 v) }

/-- Predicate register i. -/
def preg (r : CoreRegs) (i : Nat) : Nat := (tabGet (0 : W128) r.p i).toNat

/-- Predicate register i set. -/
def setP (r : CoreRegs) (i v : Nat) : CoreRegs := { r with p := tabSet 0 r.p i (BitVec.ofNat 128 v) }

/-- Wait counter i. -/
def wcOf (r : CoreRegs) (i : Nat) : Nat := tabGet 0 r.wc i

/-- Lane i of a vector register value. -/
def lane (v i : Nat) : Nat := elemAt 32 v i

/-- A vector register value from its 128 lanes. -/
def ofLanes (l : List Nat) : Nat := packElems 32 l

/-- The 128 lanes of a register value computed lane by lane. -/
def mapLanes (f : Nat → Nat) : Nat := ofLanes ((List.range 128).map f)

/-- `IMM` as a signed number (R82). -/
def immSigned (sl : Slot) : Int := toSigned 9 sl.imm.toNat

/-- The 14-bit branch offset of `IMM` and `D` (R77). -/
def offset14 (sl : Slot) : Int := toSigned 14 (sl.imm.toNat * 32 + sl.d.toNat)

/-- The 24-bit branch offset of bits [29:6] (R77). -/
def offset24 (sl : Slot) : Int :=
  toSigned 24 (sl.d.toNat + sl.a.toNat * 2 ^ 5 + sl.b.toNat * 2 ^ 10 + sl.imm.toNat * 2 ^ 15)

/-- What a slot does at issue (R79, R80, R107): its synchronous faults with their addresses, what holds it, its effect, and
the bundle it continues at where it branches. -/
structure SlotOut where
  faults : List (Nat × Nat) := []
  hold : Hold := .none
  effect : Work → Work := id
  jump : Option Nat := none
  /-- issue falls through from this bundle in place of its own (a `LOOP` of count zero, R81) -/
  skip : Option Nat := none

/-- A slot that only writes registers. -/
def regs (core : Nat) (f : CoreRegs → CoreRegs) : SlotOut :=
  { effect := modCore core (fun c => { c with r := f c.r }) }

/-- A slot that raises a synchronous fault. -/
def faultOut (code address : Nat) : SlotOut := { faults := [(code, address)] }

/-- Fault codes of R105. -/
def illegalBundle : Nat := 0x01
/-- `ILLEGAL_OPERAND`. -/
def illegalOperand : Nat := 0x02
/-- `ALIGNMENT`. -/
def alignmentFault : Nat := 0x03
/-- `SCRATCHPAD_BOUNDS`. -/
def scratchBounds : Nat := 0x04
/-- `STAGING_BOUNDS`. -/
def stagingBounds : Nat := 0x05
/-- `ADDRESS_INVALID`. -/
def addressInvalid : Nat := 0x06
/-- `NOT_IN_PARTITION` (R26). -/
def notInPartition : Nat := 0x07
/-- `RESERVATION_BOUNDS`. -/
def reservationBounds : Nat := 0x08
/-- `NOT_SAME_PLAN`. -/
def notSamePlan : Nat := 0x09
/-- `DESCRIPTOR_INVALID`. -/
def descriptorInvalid : Nat := 0x0A
/-- `UNCORRECTABLE_READ`. -/
def uncorrectableRead : Nat := 0x0B
/-- `WAIT_OVERFLOW`. -/
def waitOverflow : Nat := 0x0C

/-- The space of an address word (R66). -/
def spaceOf (word : Nat) : Nat := word / 2 ^ 60

/-- The address word has no bit outside the fields of its space (R66). -/
def wordClean (word : Nat) : Bool :=
  match spaceOf word with
  | 0 => word < 2 ^ 48
  | 1 => word % 2 ^ 60 < 2 ^ 22
  | 2 => word % 2 ^ 60 < 2 ^ 26
  | 3 => bits word 51 22 == 0
  | _ => false

/-- The range lies in tier 1 or in tier 2 (R175). -/
def inTiers (a len : Nat) : Bool :=
  a + len ≤ 12 * 2 ^ 36 || (tier2Base ≤ a && a + len ≤ 0x028000000000)

/-- Whole GiB of a partition's tier-2 share (R179). -/
def shareGib (hw : Hw) : Nat := (4 * 1536 - (4 * hw.burin.gib + 83)) / (4 * max 1 (partCount hw))

/-- First address of a partition's tier-2 share (R179). -/
def shareBase (hw : Hw) (p : Nat) : Nat := tier2Base + p * (shareGib hw * 2 ^ 30)

/-- The range lies in the tier-1 and tier-2 shares of a partition (R25, R179). -/
def inShare (hw : Hw) (p a len : Nat) : Bool :=
  if a < tier2Base then
    let n := 12 / max 1 (partCount hw)
    p * n * 2 ^ 36 ≤ a && a + len ≤ (p + 1) * n * 2 ^ 36
  else shareBase hw p ≤ a && a + len ≤ shareBase hw (p + 1)

/-- The tier-1 and tier-2 ranges of a plan's reservations, with its spill reserve (R67, R182, R186). -/
def planRanges (p : Plan) : List (Nat × Nat) :=
  (p.spillBase, p.spillPages * 65536) ::
    (p.reservations.filter (fun r => r.kind != 2 && r.kind != 5)).map (fun r => (r.base, r.pages * 65536))

/-- The bytes from a to e lie in ranges (first address, length), one of them after another; fuel bounds how many are crossed. -/
def covered (ranges : List (Nat × Nat)) : Nat → Nat → Nat → Bool
  | 0, a, e => decide (e ≤ a)
  | n + 1, a, e =>
    if e ≤ a then true
    else match ranges.find? (fun r => r.1 ≤ a && a < r.1 + r.2) with
      | none => false
      | some r => covered ranges n (r.1 + r.2) e

/-- The range lies within the plan's reservations, of which it may take several that adjoin (R67). -/
def inReservation (p : Plan) (a len : Nat) : Bool := covered (planRanges p) (planRanges p).length a (a + len)

/-- The staging range is granted to a core by its plan (R67, R181). -/
def inGrant (hw : Hw) (core off len : Nat) : Bool :=
  match planOfCore hw core with
  | none => false
  | some p => p.reservations.any (fun r => r.kind == 2 && r.place == spireOf core
      && r.coreFirst ≤ core % 64 && core % 64 < r.coreFirst + r.coreCount
      && r.base ≤ off && off + len ≤ r.base + r.pages * 65536)

/-- The fault codes of an access through an address word that begins `delta` bytes past the address the word gives (R26, R66 to
R68). A bit outside the fields of the space does not hide what the fields themselves break (R107). -/
def rangeCodes (hw : Hw) (core word delta len : Nat) : List Nat :=
  (if wordClean word then [] else [addressInvalid]) ++
    match spaceOf word with
    | 0 =>
      let a := word % 2 ^ 48 + delta
      (if a % 16 != 0 || len % 16 != 0 then [alignmentFault] else [])
      ++ (if !inTiers a len then [addressInvalid]
          else if !inShare hw (partOfCore hw core) a len then [notInPartition]
          else match planOfCore hw core with
            | none => [reservationBounds]
            | some p => if inReservation p a len then [] else [reservationBounds])
    | 1 => if word % 2 ^ 22 + delta + len ≤ scratchBytes then [] else [scratchBounds]
    | 2 => if inGrant hw core (word % 2 ^ 26 + delta) len then [] else [stagingBounds]
    | 3 =>
      let off := word % 2 ^ 22 + delta
      let target := bits word 59 52
      (if off % 16 != 0 || len % 16 != 0 then [alignmentFault] else [])
      ++ (if off + len ≤ scratchBytes then [] else [scratchBounds])
      ++ (if partOfCore hw target != partOfCore hw core then [notInPartition] else [])
      ++ (if (planOfCore hw target).map (fun p => p.id) == (planOfCore hw core).map (fun p => p.id) then [] else [notSamePlan])
    | _ => []

/-- The fault codes an access through an address word raises. -/
def addrFaults (hw : Hw) (core word len : Nat) : List Nat := rangeCodes hw core word 0 len

/-- The fault codes of an operand that must be a staging address (R86). -/
def stagingFaults (hw : Hw) (core word len : Nat) : List Nat :=
  match spaceOf word with
  | 0 => [stagingBounds]
  | 1 => [stagingBounds]
  | 3 => [stagingBounds]
  | _ => addrFaults hw core word len

/-- Fault codes with the address they report. -/
def withAddress (address : Nat) (codes : List Nat) : List (Nat × Nat) := codes.map (fun c => (c, address))

/-- The memory key an address word names. -/
def addrKey (core word : Nat) : Nat :=
  match spaceOf word with
  | 0 => word
  | 1 => scratchKey core (word % 2 ^ 22)
  | 2 => stagingKey (spireOf core) (word % 2 ^ 26)
  | _ => scratchKey (bits word 59 52) (word % 2 ^ 22)

/-- The unit of R485 that holds an address key: stacks 0 to 11 (R172, R176), LPDDR6 packages 12 to 35 (R177), Spire SRAM 36 to 39. -/
def memUnit (a : Nat) : Nat :=
  if a < 12 * 2 ^ 36 then a / 2 ^ 36
  else if a < 2 ^ 48 then 12 + (a - tier2Base) / 4096 % 24
  else if a < 2 ^ 49 then 36 + (a - 2 ^ 48) / 2 ^ 28 % 4
  else if a < 2 ^ 50 then 36 + (a - 2 ^ 49) / 2 ^ 26 % 4
  else if a < 2 ^ 51 then 36 + (a - 2 ^ 50) / 2 ^ 25 % 4
  else 36 + (a - 2 ^ 51) / 2 ^ 23 % 4

/-- The `UNIT_KIND` and `UNIT` of R480 of a memory unit. -/
def memUnitKind (u : Nat) : Nat × Nat := if u < 12 then (3, u) else if u < 36 then (4, u - 12) else (2, u - 36)

/-- A tier-1 or tier-2 row enters the retirement list of at most 256 rows, or raises `RETIRE_FULL` (R471, log 13). -/
def retireRow (a : Nat) (w : Work) : Work :=
  let row := a / 32 * 32
  if w.hw.fault.retire.contains row || w.hw.fault.retireLost.contains row then w
  else if w.hw.fault.retire.length < 256 then
    w.up fun h => { h with fault := { h.fault with retire := h.fault.retire ++ [row] } }
  else
    let u := memUnitKind (memUnit row)
    raise 13 u.1 u.2 0 row (w.up fun h => { h with fault := { h.fault with retireLost := h.fault.retireLost ++ [row] } })

/-- A read met an uncorrectable error at an address key: counted, and a row of tier 1 or 2 is retired (R471, R485). -/
def uncorrectableAt (a : Nat) (w : Work) : Work :=
  let w1 := bump 8 (104 + memUnit a) 1 w
  if a < 2 ^ 48 then retireRow a w1 else w1

/-- A core fault (R105 to R109): the record of the frame or its `MORE`, the status flags, the fault source, and the end of the
plan's frame, which the command carries out before it ends. -/
def coreFaultAt (core code unit bundle address : Nat) (isAsync : Bool) (w : Work) : Work :=
  let c := coreOf w.hw core
  let (t, rs) := stampOf w.hw (coreRegion core)
  let record : CoreFault := {
    time := t
    ctx := c.ctx
    core := core
    code := code
    unit := unit
    bundle := bundle
    address := address
    plan := c.plan
    isAsync := isAsync
    resync := rs
    more := false }
  let second := match c.fault with
    | some f => c.faultFrame == c.frame && f.plan == c.plan
    | none => false
  let w1 := modCore core (fun c => { c with
    fault := if second then c.fault.map (fun f => { f with more := true }) else some record
    faultFrame := c.frame
    faulted := true
    lastFault := code }) w
  let w2 := raiseAt (coreRegion core) 4 1 core c.ctx code w1
  let w3 := if code = uncorrectableRead then raiseAt (coreRegion core) 9 1 core c.ctx address w2 else w2
  w3.up fun h => { h with fault := { h.fault with due := h.fault.due ++ [Reaction.endFrame c.plan] } }

/-- A core fault of a unit of the core; an uncorrectable read of its SRAM is also counted for the Spire (R485). -/
def coreFault (core code unit bundle address : Nat) (isAsync : Bool) (w : Work) : Work :=
  coreFaultAt core code unit bundle address isAsync
    (if code = uncorrectableRead then uncorrectableAt (scratchKey core 0) w else w)

/-- A wait counter is raised by a completion (R88, R89): it stops at 0xFFFF_FFFF, and a raise beyond that is a core fault
naming the issuing bundle and unit (R108). -/
def raiseWc (core counter n bundle unit : Nat) (w : Work) : Work :=
  let v := wcOf (coreOf w.hw core).r counter + n
  let set (x : Nat) : Work → Work :=
    modCore core (fun c => { c with r := { c.r with wc := tabSet 0 c.r.wc counter x } })
  if v < 2 ^ 32 then set v w
  else coreFault core waitOverflow unit bundle counter true (set 0xFFFFFFFF w)

end Sys2Proof.Machine
end

