-- ==== Sys2Proof/Machine/CoreControl.lean ====
section
/-! DEFINITION. Machine/CoreControl.lean: branches, loops, wait counters, control registers, markers and `END` (R73, R74, R81, R82, R88, R89, R101, R102, R548). -/
namespace Sys2Proof.Machine

/-- `BRANCH_RANGE`. -/
def branchRange : Nat := 0x0F

/-- A branch to an offset from the branching bundle; a target outside the program is a fault (R81). -/
def branchTo (w : Work) (core : Nat) (off : Int) (extra : Work → Work) : SlotOut :=
  let c := coreOf w.hw core
  let target : Int := (c.r.pc : Int) + off
  if target < 0 ∨ (c.bundles : Int) ≤ target then faultOut branchRange 0
  else { effect := extra, jump := some target.toNat }

/-- A compare-and-branch. -/
def branchIf (p : Nat → Nat → Bool) (w : Work) (sl : Slot) : SlotOut :=
  let r := (coreOf w.hw sl.core.toNat).r
  if p (sreg r sl.a.toNat) (sreg r sl.b.toNat) then branchTo w sl.core.toNat (offset14 sl) id
  else {}

/-- `BR`. -/
def slotBr (w : Work) (sl : Slot) : SlotOut := branchTo w sl.core.toNat (offset24 sl) id

/-- `CALL`: the bundle after the call goes on the return stack of 16 entries. -/
def slotCall (w : Work) (sl : Slot) : SlotOut :=
  let c := sl.core.toNat
  let r := (coreOf w.hw c).r
  let push := modCore c (fun c => { c with r := { c.r with returns := (r.pc + 1) :: c.r.returns } })
  let out := branchTo w c (offset24 sl) push
  if 16 ≤ r.returns.length then { out with faults := (0x0D, 0) :: out.faults } else out

/-- `RET`. -/
def slotRet (w : Work) (sl : Slot) : SlotOut :=
  let c := sl.core.toNat
  let st := coreOf w.hw c
  match st.r.returns with
  | [] => faultOut 0x0D 0
  | t :: rest =>
    branchTo w c ((t : Int) - st.r.pc) (modCore c (fun c => { c with r := { c.r with returns := rest } }))

/-- `BEQ`. -/
def slotBeq (w : Work) (sl : Slot) : SlotOut := branchIf (fun a b => a == b) w sl
/-- `BNE`. -/
def slotBne (w : Work) (sl : Slot) : SlotOut := branchIf (fun a b => a != b) w sl
/-- `BLT`: signed, as the other compares of R82. -/
def slotBlt (w : Work) (sl : Slot) : SlotOut := branchIf (fun a b => decide (toSigned 64 a < toSigned 64 b)) w sl
/-- `BGE`. -/
def slotBge (w : Work) (sl : Slot) : SlotOut := branchIf (fun a b => decide (toSigned 64 b ≤ toSigned 64 a)) w sl

/-- `LOOP`: the body from the next bundle to the bundle of the offset runs the number of times in A (R81). At depth 4 it raises
`LOOP_DEPTH` whatever its count, also a count of zero, of which the spec does not say whether it nests (log 64). -/
def slotLoop (w : Work) (sl : Slot) : SlotOut :=
  let c := sl.core.toNat
  let st := coreOf w.hw c
  let off := offset14 sl
  let n := sreg st.r sl.a.toNat
  let last : Int := (st.r.pc : Int) + off
  let range := if off < 1 ∨ (st.bundles : Int) ≤ last then [(branchRange, 0)] else []
  let depth := if 4 ≤ st.r.loops.length then [(0x0E, 0)] else []
  match depth ++ range with
  | [] =>
    if n = 0 then { skip := some last.toNat }
    else { effect := modCore c (fun c => { c with r := { c.r with loops := ⟨st.r.pc + 1, last.toNat, n⟩ :: c.r.loops } }) }
  | fs => { faults := fs }

/-- `WAIT`: holds the bundle until wc D reaches A, unsigned (R89). -/
def slotWait (w : Work) (sl : Slot) : SlotOut :=
  let r := (coreOf w.hw sl.core.toNat).r
  { hold := if sreg r sl.a.toNat ≤ wcOf r sl.d.toNat then .none else .wait }

/-- `WAITI`: holds the bundle until wc D reaches `IMM`. -/
def slotWaiti (w : Work) (sl : Slot) : SlotOut :=
  let r := (coreOf w.hw sl.core.toNat).r
  { hold := if sl.imm.toNat ≤ wcOf r sl.d.toNat then .none else .wait }

/-- `WCADD`: adds 1 to 511; a raise beyond 0xFFFF_FFFF is a synchronous fault naming the counter (R88, R89, R105, R108). -/
def slotWcadd (w : Work) (sl : Slot) : SlotOut :=
  let c := sl.core.toNat
  let n := sl.imm.toNat
  let v := wcOf (coreOf w.hw c).r sl.d.toNat
  if n = 0 then faultOut illegalOperand 0
  else if 2 ^ 32 ≤ v + n then faultOut waitOverflow sl.d.toNat
  else { effect := raiseWc c sl.d.toNat n 0xFFFF 0 }

/-- `WCREAD`. -/
def slotWcread (w : Work) (sl : Slot) : SlotOut :=
  let c := sl.core.toNat
  let v := wcOf (coreOf w.hw c).r sl.a.toNat
  regs c (fun r => setS r sl.d.toNat v)

/-- `TIME`: the Spire's time counter (R57). -/
def slotTime (w : Work) (sl : Slot) : SlotOut :=
  let c := sl.core.toNat
  let v := (stampOf w.hw (coreRegion c)).1
  regs c (fun r => setS r sl.d.toNat v)

/-- `CYC`: the core's cycle counter (R59). -/
def slotCyc (w : Work) (sl : Slot) : SlotOut :=
  let c := sl.core.toNat
  let v := cyclesNow w.hw c
  regs c (fun r => setS r sl.d.toNat v)

/-- `TICK`: the tick number at this instant. -/
def slotTick (w : Work) (sl : Slot) : SlotOut :=
  let v := w.hw.time.tick
  regs sl.core.toNat (fun r => setS r sl.d.toNat v)

/-- The value of a control register (R73). -/
def controlReg (hw : Hw) (core n : Nat) : Nat :=
  let c := coreOf hw core
  match n with
  | 0 => c.r.mode
  | 1 => c.ctx
  | 2 => core
  | 3 => endpointOf hw (spireOf core)
  | 4 => partCount hw + 8 * partOfCore hw core
  | 5 => issueRate hw core
  | 6 => hw.time.floor
  | 7 => c.lateDropped + c.noBuffer * 2 ^ 16 + c.oversize * 2 ^ 32 + c.ackRefused * 2 ^ 48
  | 8 => c.graverErrors
  | 9 => c.frame
  | _ => 0

/-- `CSRR`. -/
def slotCsrr (w : Work) (sl : Slot) : SlotOut :=
  let c := sl.core.toNat
  let v := controlReg w.hw c sl.imm.toNat
  regs c (fun r => setS r sl.d.toNat v)

/-- `CSRW`: only `CORE_MODE` is writable; `ROUND` 3 or a reserved bit is a fault (R73, R74). Bits [63:32] of
register A count as reserved bits of the 32-bit register, which the spec does not say (log 63). -/
def slotCsrw (w : Work) (sl : Slot) : SlotOut :=
  let c := sl.core.toNat
  let v := sreg (coreOf w.hw c).r sl.a.toNat
  if sl.imm.toNat = 0 then
    if v ≥ 3 then faultOut illegalOperand 0
    else regs c (fun r => { r with mode := v })
  else {}

/-- A marker record of the core (R545, R548). -/
def markRecord (core kind id depth : Nat) (mismatch : Bool) (w : Work) : Work :=
  let c := coreOf w.hw core
  tracePlan c.plan 0 (coreRegion core) kind (2 * b2n mismatch) c.ctx core
    (leBytes 4 id ++ leBytes 1 depth ++ zeros 3 ++ leBytes 8 c.frame) w

/-- `MARKB` (R548). -/
def slotMarkb (w : Work) (sl : Slot) : SlotOut :=
  let c := sl.core.toNat
  let r := (coreOf w.hw c).r
  let id := sreg r sl.a.toNat % 2 ^ 32
  if 8 ≤ r.marks.length then { effect := markRecord c 1 id 8 true }
  else
    let t := (stampOf w.hw (coreRegion c)).1
    { effect := fun w => markRecord c 1 id (r.marks.length + 1) false
        (modCore c (fun c => { c with r := { c.r with marks := (id, t) :: c.r.marks } }) w) }

/-- `MARKE` (R548, R552 quantity 11). -/
def slotMarke (w : Work) (sl : Slot) : SlotOut :=
  let c := sl.core.toNat
  let r := (coreOf w.hw c).r
  let id := sreg r sl.a.toNat % 2 ^ 32
  let now := (stampOf w.hw (coreRegion c)).1
  match r.marks with
  | [] => { effect := markRecord c 2 id 0 true }
  | (top, t0) :: rest =>
    if top = id then
      { effect := fun w => sample 11 id ((now : Int) - t0) (markRecord c 2 id r.marks.length false
          (modCore c (fun c => { c with r := { c.r with marks := rest } }) w)) }
    else { effect := markRecord c 2 id r.marks.length true }

/-- `MARKP` (R548). -/
def slotMarkp (w : Work) (sl : Slot) : SlotOut :=
  let c := sl.core.toNat
  let r := (coreOf w.hw c).r
  { effect := markRecord c 3 (sreg r sl.a.toNat % 2 ^ 32) r.marks.length false }

/-- `END`: issue stops, and the core is complete once its outstanding operations have raised their counters (R102). -/
def slotEnd (_ : Work) (sl : Slot) : SlotOut :=
  { effect := modCore sl.core.toNat (fun c => { c with ending := true }) }

end Sys2Proof.Machine
end

