-- ==== Sys2Proof/Machine/CoreScalar.lean ====
section
/-! DEFINITION. Machine/CoreScalar.lean: what the scalar slot computes, loads and stores at issue (R82). -/
namespace Sys2Proof.Machine

/-- A scalar operation on two registers. -/
def scalarRR (f : Nat → Nat → Nat) (w : Work) (sl : Slot) : SlotOut :=
  let c := sl.core.toNat
  let r := (coreOf w.hw c).r
  let v := f (sreg r sl.a.toNat) (sreg r sl.b.toNat)
  regs c (fun r => setS r sl.d.toNat v)

/-- A scalar operation on a register and the signed immediate. -/
def scalarRI (f : Nat → Nat → Nat) (w : Work) (sl : Slot) : SlotOut :=
  let c := sl.core.toNat
  let r := (coreOf w.hw c).r
  let v := f (sreg r sl.a.toNat) (ofSigned 64 (immSigned sl))
  regs c (fun r => setS r sl.d.toNat v)

/-- A shift by an immediate: `IMM`[5:0], its other bits zero (R78). -/
def scalarShift (f : Nat → Nat → Nat) (w : Work) (sl : Slot) : SlotOut :=
  if sl.imm.toNat ≥ 64 then faultOut illegalOperand 0 else scalarRI f w sl

/-- 64-bit wrap. -/
def wrap64 (n : Nat) : Nat := n % 2 ^ 64
/-- Addition, wrapping. -/
def add64 (a b : Nat) : Nat := wrap64 (a + b)
/-- Subtraction, wrapping. -/
def sub64 (a b : Nat) : Nat := wrap64 (a + 2 ^ 64 - b)
/-- Multiplication, wrapping. -/
def mul64 (a b : Nat) : Nat := wrap64 (a * b)
/-- Shift left by B[5:0]. -/
def shl64 (a b : Nat) : Nat := wrap64 (a <<< (b % 64))
/-- Logical shift right by B[5:0]. -/
def shr64 (a b : Nat) : Nat := a >>> (b % 64)
/-- Arithmetic shift right by B[5:0]. -/
def sra64 (a b : Nat) : Nat := ofSigned 64 (toSigned 64 a / ((2 ^ (b % 64) : Nat) : Int))
/-- Signed minimum. -/
def min64 (a b : Nat) : Nat := if toSigned 64 a ≤ toSigned 64 b then a else b
/-- Signed maximum. -/
def max64 (a b : Nat) : Nat := if toSigned 64 a ≤ toSigned 64 b then b else a
/-- Signed less-than, 1 or 0. -/
def slt64 (a b : Nat) : Nat := b2n (decide (toSigned 64 a < toSigned 64 b))
/-- Unsigned less-than, 1 or 0. -/
def sltu64 (a b : Nat) : Nat := b2n (decide (a < b))

/-- `ADD`. -/
def slotAdd (w : Work) (sl : Slot) : SlotOut := scalarRR add64 w sl
/-- `SUB`. -/
def slotSub (w : Work) (sl : Slot) : SlotOut := scalarRR sub64 w sl
/-- `MUL`. -/
def slotMul (w : Work) (sl : Slot) : SlotOut := scalarRR mul64 w sl
/-- `AND`. -/
def slotAnd (w : Work) (sl : Slot) : SlotOut := scalarRR (· &&& ·) w sl
/-- `OR`. -/
def slotOr (w : Work) (sl : Slot) : SlotOut := scalarRR (· ||| ·) w sl
/-- `XOR`. -/
def slotXor (w : Work) (sl : Slot) : SlotOut := scalarRR (· ^^^ ·) w sl
/-- `SHL`. -/
def slotShl (w : Work) (sl : Slot) : SlotOut := scalarRR shl64 w sl
/-- `SHR`. -/
def slotShr (w : Work) (sl : Slot) : SlotOut := scalarRR shr64 w sl
/-- `SRA`. -/
def slotSra (w : Work) (sl : Slot) : SlotOut := scalarRR sra64 w sl
/-- `MIN`. -/
def slotMin (w : Work) (sl : Slot) : SlotOut := scalarRR min64 w sl
/-- `MAX`. -/
def slotMax (w : Work) (sl : Slot) : SlotOut := scalarRR max64 w sl
/-- `SLT`. -/
def slotSlt (w : Work) (sl : Slot) : SlotOut := scalarRR slt64 w sl
/-- `SLTU`. -/
def slotSltu (w : Work) (sl : Slot) : SlotOut := scalarRR sltu64 w sl
/-- `ADDI`. -/
def slotAddi (w : Work) (sl : Slot) : SlotOut := scalarRI add64 w sl
/-- `ANDI`. -/
def slotAndi (w : Work) (sl : Slot) : SlotOut := scalarRI (· &&& ·) w sl
/-- `ORI`. -/
def slotOri (w : Work) (sl : Slot) : SlotOut := scalarRI (· ||| ·) w sl
/-- `XORI`. -/
def slotXori (w : Work) (sl : Slot) : SlotOut := scalarRI (· ^^^ ·) w sl
/-- `SHLI`. -/
def slotShli (w : Work) (sl : Slot) : SlotOut := scalarShift shl64 w sl
/-- `SHRI`. -/
def slotShri (w : Work) (sl : Slot) : SlotOut := scalarShift shr64 w sl
/-- `SRAI`. -/
def slotSrai (w : Work) (sl : Slot) : SlotOut := scalarShift sra64 w sl
/-- `SLTI`: signed compare. -/
def slotSlti (w : Work) (sl : Slot) : SlotOut := scalarRI slt64 w sl

/-- `LI`: the 60-bit immediate, sign-extended. -/
def slotLi (imm : Nat) (_ : Work) (sl : Slot) : SlotOut :=
  regs sl.core.toNat (fun r => setS r sl.d.toNat (ofSigned 64 (toSigned 60 imm)))

/-- The offset of a scalar access, A + IMM x size (R82). -/
def scalarOffset (w : Work) (sl : Slot) (size : Nat) : Nat :=
  ofSigned 64 ((sreg (coreOf w.hw sl.core.toNat).r sl.a.toNat : Int) + immSigned sl * size)

/-- Faults of an access to the core's own scratchpad (R68, R105). -/
def scratchFaults (off size align : Nat) : List (Nat × Nat) :=
  withAddress off ((if off % align = 0 then [] else [alignmentFault])
    ++ (if off + size ≤ scratchBytes then [] else [scratchBounds]))

/-- A scalar load, zero-extending. -/
def scalarLoad (size : Nat) (w : Work) (sl : Slot) : SlotOut :=
  let c := sl.core.toNat
  let off := scalarOffset w sl size
  match scratchFaults off size size with
  | [] =>
    if w.good (scratchKey c off) size then
      let v := w.num (scratchKey c off) size
      regs c (fun r => setS r sl.d.toNat v)
    else faultOut uncorrectableRead off
  | fs => { faults := fs }

/-- A scalar store of the low bytes of B. -/
def scalarStore (size : Nat) (w : Work) (sl : Slot) : SlotOut :=
  let c := sl.core.toNat
  let off := scalarOffset w sl size
  let v := sreg (coreOf w.hw c).r sl.b.toNat
  match scratchFaults off size size with
  | [] => { effect := fun w => w.writeNum (scratchKey c off) size v }
  | fs => { faults := fs }

/-- `LD8`. -/
def slotLd8 (w : Work) (sl : Slot) : SlotOut := scalarLoad 1 w sl
/-- `LD16`. -/
def slotLd16 (w : Work) (sl : Slot) : SlotOut := scalarLoad 2 w sl
/-- `LD32`. -/
def slotLd32 (w : Work) (sl : Slot) : SlotOut := scalarLoad 4 w sl
/-- `LD64`. -/
def slotLd64 (w : Work) (sl : Slot) : SlotOut := scalarLoad 8 w sl
/-- `ST8`. -/
def slotSt8 (w : Work) (sl : Slot) : SlotOut := scalarStore 1 w sl
/-- `ST16`. -/
def slotSt16 (w : Work) (sl : Slot) : SlotOut := scalarStore 2 w sl
/-- `ST32`. -/
def slotSt32 (w : Work) (sl : Slot) : SlotOut := scalarStore 4 w sl
/-- `ST64`. -/
def slotSt64 (w : Work) (sl : Slot) : SlotOut := scalarStore 8 w sl

end Sys2Proof.Machine
end

