-- ==== Sys2Proof/Machine/CoreVector.lean ====
section
/-! DEFINITION. Machine/CoreVector.lean: what the vector slot computes, converts, loads and stores at issue (R83, R136). -/
namespace Sys2Proof.Machine

/-- The vector registers a slot names. -/
def vA (w : Work) (sl : Slot) : Nat := vreg (coreOf w.hw sl.core.toNat).r sl.a.toNat
/-- Register B. -/
def vB (w : Work) (sl : Slot) : Nat := vreg (coreOf w.hw sl.core.toNat).r sl.b.toNat
/-- Register D as a source. -/
def vD (w : Work) (sl : Slot) : Nat := vreg (coreOf w.hw sl.core.toNat).r sl.d.toNat

/-- A vector slot that writes register D. -/
def vecOut (sl : Slot) (v : Nat) : SlotOut := regs sl.core.toNat (fun r => setV r sl.d.toNat v)

/-- An operation on each lane of A and B. -/
def vecLanes (f : Nat → Nat → Nat) (w : Work) (sl : Slot) : SlotOut :=
  let a := vA w sl
  let b := vB w sl
  vecOut sl (mapLanes (fun i => f (lane a i) (lane b i)))

/-- An operation on each lane of A. -/
def vecUnary (f : Nat → Nat) (w : Work) (sl : Slot) : SlotOut :=
  let a := vA w sl
  vecOut sl (mapLanes (fun i => f (lane a i)))

/-- F32 subtraction. -/
def f32Sub (a b : Nat) : Nat := f32Of (vAdd (f32Val a) (vNegate (f32Val b)))
/-- F32 multiplication. -/
def f32Mul (a b : Nat) : Nat := f32Of (vMul (f32Val a) (f32Val b))
/-- F32 fused multiply-add with one rounding. -/
def f32Fma (a b d : Nat) : Nat := f32Of (vAdd (vMul (f32Val a) (f32Val b)) (f32Val d))
/-- F32 absolute value. -/
def f32Abs (a : Nat) : Nat := f32Of (vWithSign false (f32Val a))
/-- F32 negation. -/
def f32Neg (a : Nat) : Nat := f32Of (vNegate (f32Val a))

/-- `VADD`. -/
def slotVadd (w : Work) (sl : Slot) : SlotOut := vecLanes f32Add w sl
/-- `VSUB`. -/
def slotVsub (w : Work) (sl : Slot) : SlotOut := vecLanes f32Sub w sl
/-- `VMUL`. -/
def slotVmul (w : Work) (sl : Slot) : SlotOut := vecLanes f32Mul w sl
/-- `VFMA`: D becomes A x B + D. -/
def slotVfma (w : Work) (sl : Slot) : SlotOut :=
  let a := vA w sl
  let b := vB w sl
  let d := vD w sl
  vecOut sl (mapLanes (fun i => f32Fma (lane a i) (lane b i) (lane d i)))
/-- `VMIN`. -/
def slotVmin (w : Work) (sl : Slot) : SlotOut := vecLanes f32Min w sl
/-- `VMAX`. -/
def slotVmax (w : Work) (sl : Slot) : SlotOut := vecLanes f32Max w sl
/-- `VABS`. -/
def slotVabs (w : Work) (sl : Slot) : SlotOut := vecUnary f32Abs w sl
/-- `VNEG`. -/
def slotVneg (w : Work) (sl : Slot) : SlotOut := vecUnary f32Neg w sl
/-- `VEXP2`. -/
def slotVexp2 (w : Work) (sl : Slot) : SlotOut := vecUnary f32Exp2 w sl
/-- `VLOG2`. -/
def slotVlog2 (w : Work) (sl : Slot) : SlotOut := vecUnary f32Log2 w sl
/-- `VRCP`. -/
def slotVrcp (w : Work) (sl : Slot) : SlotOut := vecUnary f32Rcp w sl
/-- `VRSQRT`. -/
def slotVrsqrt (w : Work) (sl : Slot) : SlotOut := vecUnary f32Rsqrt w sl

/-- `VIADD`. -/
def slotViadd (w : Work) (sl : Slot) : SlotOut := vecLanes (fun a b => (a + b) % 2 ^ 32) w sl
/-- `VISUB`. -/
def slotVisub (w : Work) (sl : Slot) : SlotOut := vecLanes (fun a b => (a + 2 ^ 32 - b) % 2 ^ 32) w sl
/-- `VIMUL`. -/
def slotVimul (w : Work) (sl : Slot) : SlotOut := vecLanes (fun a b => (a * b) % 2 ^ 32) w sl
/-- `VAND`. -/
def slotVand (w : Work) (sl : Slot) : SlotOut := vecLanes (· &&& ·) w sl
/-- `VOR`. -/
def slotVor (w : Work) (sl : Slot) : SlotOut := vecLanes (· ||| ·) w sl
/-- `VXOR`. -/
def slotVxor (w : Work) (sl : Slot) : SlotOut := vecLanes (· ^^^ ·) w sl
/-- `VSHL`: by B[4:0] of the lane. -/
def slotVshl (w : Work) (sl : Slot) : SlotOut := vecLanes (fun a b => (a <<< (b % 32)) % 2 ^ 32) w sl
/-- `VSHR`. -/
def slotVshr (w : Work) (sl : Slot) : SlotOut := vecLanes (fun a b => a >>> (b % 32)) w sl
/-- `VSRA`. -/
def slotVsra (w : Work) (sl : Slot) : SlotOut :=
  vecLanes (fun a b => ofSigned 32 (toSigned 32 a / ((2 ^ (b % 32) : Nat) : Int))) w sl

/-- A compare of F32 lanes into predicate D[2:0]; D[4:3] must be zero (R78, R83). -/
def vecCompare (p : Val → Val → Bool) (w : Work) (sl : Slot) : SlotOut :=
  let a := vA w sl
  let b := vB w sl
  if sl.d.toNat ≥ 8 then faultOut illegalOperand 0
  else
    let m := packElems 1 ((List.range 128).map (fun i => b2n (p (f32Val (lane a i)) (f32Val (lane b i)))))
    regs sl.core.toNat (fun r => setP r sl.d.toNat m)

/-- `VCMPEQ`: IEEE equality, zeros equal, NaN unequal. -/
def slotVcmpeq (w : Work) (sl : Slot) : SlotOut := vecCompare (fun x y => vLe false x y && vLe false y x) w sl
/-- `VCMPLT`. -/
def slotVcmplt (w : Work) (sl : Slot) : SlotOut := vecCompare (fun x y => vLe false x y && !vLe false y x) w sl
/-- `VCMPLE`. -/
def slotVcmple (w : Work) (sl : Slot) : SlotOut := vecCompare (fun x y => vLe false x y) w sl

/-- `VSEL`: A where predicate `IMM`[2:0] is 1, else B. -/
def slotVsel (w : Work) (sl : Slot) : SlotOut :=
  let a := vA w sl
  let b := vB w sl
  if sl.imm.toNat ≥ 8 then faultOut illegalOperand 0
  else
    let p := preg (coreOf w.hw sl.core.toNat).r sl.imm.toNat
    vecOut sl (mapLanes (fun i => if bit p i then lane a i else lane b i))

/-- `VBCAST`: bits [31:0] of scalar A in every lane. -/
def slotVbcast (w : Work) (sl : Slot) : SlotOut :=
  let v := sreg (coreOf w.hw sl.core.toNat).r sl.a.toNat % 2 ^ 32
  vecOut sl (mapLanes (fun _ => v))

/-- `VPERM`: D[i] becomes A[B[i] mod 128]. -/
def slotVperm (w : Work) (sl : Slot) : SlotOut :=
  let a := vA w sl
  let b := vB w sl
  vecOut sl (mapLanes (fun i => lane a (lane b i % 128)))

/-- `VSHIFTL`: lanes moved down by `IMM`, zeros entering. -/
def slotVshiftl (w : Work) (sl : Slot) : SlotOut :=
  vecOut sl (vA w sl >>> (32 * sl.imm.toNat))

/-- One halving level of a reduction. -/
def halve (f : Nat → Nat → Nat) (l : List Nat) : List Nat :=
  let h := l.length / 2
  List.zipWith f (l.take h) (l.drop h)

/-- The seven halving levels of R83. -/
def halving (f : Nat → Nat → Nat) (l : List Nat) : Nat :=
  (Nat.repeat (halve f) 7 l).headD 0

/-- A reduction of all lanes of A into lane 0 of D, the other lanes zero. -/
def vecReduce (f : Nat → Nat → Nat) (w : Work) (sl : Slot) : SlotOut :=
  let a := vA w sl
  vecOut sl (halving f ((List.range 128).map (lane a)))

/-- `VREDADD`. -/
def slotVredadd (w : Work) (sl : Slot) : SlotOut := vecReduce f32Add w sl
/-- `VREDMAX`. -/
def slotVredmax (w : Work) (sl : Slot) : SlotOut := vecReduce f32Max w sl

/-- The draws of an instruction that rounds n elements have been taken, by the mode in force when it issued (R79, R133, R134). -/
def takeDraws (core mode n : Nat) (w : Work) : Work :=
  if mode = 2 then modCore core (fun c => { c with r := { c.r with srWord := (c.r.srWord + ceilDiv n 4) % 2 ^ 64 } }) w else w

/-- The rounding of element e of an instruction issued now by a core (R129). -/
def roundNow (r : CoreRegs) (e : Nat) : Round := roundFor r.mode r.srKey r.srWord e

/-- `VCVT`: 128 elements from the format `IMM`[3:0] to the format `IMM`[7:4] (R136). -/
def slotVcvt (w : Work) (sl : Slot) : SlotOut :=
  let c := sl.core.toNat
  let r := (coreOf w.hw c).r
  let src := bits sl.imm.toNat 3 0
  let dst := bits sl.imm.toNat 7 4
  let a := vA w sl
  if isMx src || isMx dst || bit sl.imm.toNat 8 then faultOut illegalOperand 0
  else
    let ws := fmtWidth src
    let es := (List.range 128).map (fun e => convertElem src dst (roundNow r e) (elemAt ws a e))
    { effect := fun w => takeDraws c r.mode 128 ((vecOut sl (packElems (fmtWidth dst) es)).effect w) }

/-- `VCVTMX`: four blocks packed or unpacked; scale bytes at bytes 496 to 499 (R136, R120, R121). -/
def slotVcvtmx (w : Work) (sl : Slot) : SlotOut :=
  let c := sl.core.toNat
  let r := (coreOf w.hw c).r
  let src := bits sl.imm.toNat 3 0
  let dst := bits sl.imm.toNat 7 4
  let variant := b2n (bit sl.imm.toNat 8)
  let a := vA w sl
  let plain (f : Nat) : Bool := f == 0x00 || f == 0x02
  let mx := if isMx src then src else dst
  let variantOk := variant == 0 || mx == 0x08 || mx == 0x09
  if !((isMx src && plain dst) || (plain src && isMx dst)) || !variantOk then faultOut illegalOperand 0
  else if isMx src then
    let ws := fmtWidth src
    let es := (List.range 128).map (fun e =>
      encodeElem dst (roundNow r e) (mxVal src variant (elemAt 8 a (496 + e / 32)) (elemAt ws a e)))
    { effect := fun w => takeDraws c r.mode 128 ((vecOut sl (packElems (fmtWidth dst) es)).effect w) }
  else
    let ws := fmtWidth src
    let vals (b : Nat) : List Val := (List.range 32).map (fun i => decodeElem src (elemAt ws a (32 * b + i)))
    let rs (b : Nat) : List Round := (List.range 32).map (fun i => roundNow r (32 * b + i))
    let blocks := (List.range 4).map (fun b => mxPack dst variant (rs b) (vals b))
    let elems := packElems (fmtWidth dst) (blocks.flatMap (fun p => p.2))
    let scales := packElems 8 (blocks.map (fun p => p.1))
    { effect := fun w => takeDraws c r.mode 128 ((vecOut sl (elems + scales * 2 ^ (8 * 496))).effect w) }

/-- The offset of a vector access, A + IMM x 64, with `IMM` signed as in R82 (log 15). -/
def vecOffset (w : Work) (sl : Slot) : Nat :=
  ofSigned 64 ((sreg (coreOf w.hw sl.core.toNat).r sl.a.toNat : Int) + immSigned sl * 64)

/-- `VLD`. -/
def slotVld (w : Work) (sl : Slot) : SlotOut :=
  let c := sl.core.toNat
  let off := vecOffset w sl
  match scratchFaults off 512 64 with
  | [] =>
    if w.good (scratchKey c off) 512 then vecOut sl (w.num (scratchKey c off) 512)
    else faultOut uncorrectableRead (w.firstBad (scratchKey c off) 512 - scratchKey c 0)
  | fs => { faults := fs }

/-- `VST`: stores register D. -/
def slotVst (w : Work) (sl : Slot) : SlotOut :=
  let c := sl.core.toNat
  let off := vecOffset w sl
  let v := vD w sl
  match scratchFaults off 512 64 with
  | [] => { effect := fun w => w.writeNum (scratchKey c off) 512 v }
  | fs => { faults := fs }

/-- `VSTP`: stores the lanes of D whose bit in predicate B[2:0] is 1. -/
def slotVstp (w : Work) (sl : Slot) : SlotOut :=
  let c := sl.core.toNat
  let off := vecOffset w sl
  let v := vD w sl
  let unused := if sl.b.toNat ≥ 8 then [(illegalOperand, 0)] else []
  match unused ++ scratchFaults off 512 64 with
  | [] =>
    let p := preg (coreOf w.hw c).r sl.b.toNat
    { effect := forEach (List.range 128) (fun i w => if bit p i then w.writeNum (scratchKey c (off + 4 * i)) 4 (lane v i) else w) }
  | fs => { faults := fs }

/-- `VGATHER`: lane i from offset A + B[i], a multiple of 4 below 0x0030_0000 (R68, R83). -/
def slotVgather (w : Work) (sl : Slot) : SlotOut :=
  let c := sl.core.toNat
  let a := sreg (coreOf w.hw c).r sl.a.toNat
  let b := vB w sl
  let offs := (List.range 128).map (fun i => (a + lane b i) % 2 ^ 64)
  match offs.flatMap (fun o => scratchFaults o 4 4) with
  | [] =>
    match offs.find? (fun o => !w.good (scratchKey c o) 4) with
    | some o => faultOut uncorrectableRead o
    | none => vecOut sl (ofLanes (offs.map (fun o => w.num (scratchKey c o) 4)))
  | fs => { faults := fs }

end Sys2Proof.Machine
end

