-- ==== Sys2Proof/Machine/CoreMatrix.lean ====
section
/-! DEFINITION. Machine/CoreMatrix.lean: the matrix slot, the queued matrix operations and stream-consume mode (05_matrix_engine). -/
namespace Sys2Proof.Machine

/-- Bytes of a row of n elements (R147). -/
def matrixRowBytes (fmt n : Nat) : Nat :=
  let w := fmtWidth fmt
  if w = 6 then 3 * ceilDiv n 4 else ceilDiv (n * w) 8

/-- The descriptor that 32 bytes hold, where they obey R147. -/
def parseMDesc (bs : List Byte) : Option MDesc :=
  let f0 := field bs 0 1
  let fl := field bs 1 1
  let d : MDesc := {
    format := bits f0 4 0
    variant := b2n (bit f0 5)
    staging := bit fl 0
    mapMode := b2n (bit fl 1)
    clearMap := bit fl 2
    tileInt := bit fl 3
    rows := field bs 2 2
    length := field bs 4 2
    streamWc := bits (field bs 6 1) 4 0
    pieceChunks := field bs 7 1
    base := field bs 8 4
    rowStride := field bs 12 4
    pieceStride := field bs 16 4
    scaleBase := field bs 20 4
    scaleStride := field bs 24 2
    mapOrBase := field bs 28 4 }
  let streamed := d.pieceChunks != 0
  let n := if streamed then min d.length (32 * d.pieceChunks) else d.length
  let mx := isMx d.format
  let ok :=
    f0 < 64 && d.format ≤ 0x0F && (d.variant == 0 || d.format == 0x08 || d.format == 0x09)
    && fl < 16 && 1 ≤ d.rows && d.rows ≤ 128 && 1 ≤ d.length && d.length ≤ 16384
    && field bs 6 1 < 32 && d.pieceChunks ≤ 64 && d.base % 16 == 0
    && d.rowStride % 16 == 0 && matrixRowBytes d.format n ≤ d.rowStride
    && (if streamed then d.pieceStride % 16 == 0 else d.pieceStride == 0)
    && (if mx && !streamed then d.scaleBase % 16 == 0 else d.scaleBase == 0)
    && (if mx then ceilDiv n 32 ≤ d.scaleStride else d.scaleStride == 0)
    && field bs 26 2 == 0
    && (if streamed then d.mapMode == 0 || d.mapOrBase % 16 == 0 else d.mapOrBase == 0)
  if ok then some d else none

/-- `MDSET` (R148): the descriptor is read at issue and checked; a broken one is an asynchronous fault naming this bundle. -/
def slotMdset (w : Work) (sl : Slot) : SlotOut :=
  let c := sl.core.toNat
  let st := coreOf w.hw c
  let off := sreg st.r sl.a.toNat
  let unused := if sl.d.toNat ≥ 16 then [(illegalOperand, 0)] else []
  match unused ++ scratchFaults off 32 32 with
  | [] =>
    if !w.good (scratchKey c off) 32 then { effect := coreFault c uncorrectableRead 2 st.r.pc off true }
    else
      match parseMDesc (w.read (scratchKey c off) 32) with
      | none => { effect := coreFault c descriptorInvalid 2 st.r.pc off true }
      | some d => regs c (fun r => { r with m := tabSet {} r.m sl.d.toNat d })
  | fs => { faults := fs }

/-- The memory key of an offset of a descriptor's space (R150). -/
def descKey (core : Nat) (d : MDesc) (off : Nat) : Nat :=
  if d.staging then stagingKey (spireOf core) off else scratchKey core off

/-- Elements of a piece along k; the whole row where the descriptor is not streamed (R165). -/
def pieceLen (d : MDesc) (p : Nat) : Nat :=
  if d.pieceChunks = 0 then d.length
  else min (32 * d.pieceChunks) (d.length - p * (32 * d.pieceChunks))

/-- Pieces of a descriptor. -/
def pieceCount (d : MDesc) : Nat := if d.pieceChunks = 0 then 1 else ceilDiv d.length (32 * d.pieceChunks)

/-- Offset of row r of piece p (R150). -/
def rowOffset (d : MDesc) (p r : Nat) : Nat := d.base + p * d.pieceStride + r * d.rowStride

/-- Offset of scale row r of piece p (R150). -/
def scaleOffset (d : MDesc) (p r : Nat) : Nat :=
  if d.pieceChunks = 0 then d.scaleBase + r * d.scaleStride
  else d.base + p * d.pieceStride + d.rows * d.rowStride + r * d.scaleStride

/-- The byte ranges (offset, length) a descriptor's elements and scales take, piece by piece. -/
def descRanges (d : MDesc) : List (Nat × Nat) :=
  (List.range (pieceCount d)).flatMap (fun p =>
    let n := pieceLen d p
    (rowOffset d p 0, (d.rows - 1) * d.rowStride + matrixRowBytes d.format n) ::
      (if isMx d.format then [(scaleOffset d p 0, (d.rows - 1) * d.scaleStride + ceilDiv n 32)] else []))

/-- The byte ranges that a descriptor's rows take for n elements from element `first` of piece p, with their scales: the bytes between
rows are not among them (R150). -/
def rowRanges (d : MDesc) (p first n : Nat) : List (MDesc × Nat × Nat) :=
  (List.range d.rows).flatMap (fun r =>
    (d, rowOffset d p r + matrixRowBytes d.format first, matrixRowBytes d.format n)
      :: (if isMx d.format then [(d, scaleOffset d p r + first / 32, ceilDiv n 32)] else []))

/-- What a fault record names for an offset of a descriptor's space: a core offset in the scratchpad, the address word in staging (R108). -/
def descWord (d : MDesc) (off : Nat) : Nat := if d.staging then 2 * 2 ^ 60 + off else off

/-- Faults of a range in a descriptor's space (R67, R153). -/
def rangeFaults (hw : Hw) (core : Nat) (d : MDesc) (r : Nat × Nat) : List (Nat × Nat) :=
  if d.staging then (if inGrant hw core r.1 r.2 then [] else [(stagingBounds, descWord d r.1)])
  else if r.1 + r.2 ≤ scratchBytes then [] else [(scratchBounds, r.1)]

/-- Faults of every range of a descriptor. -/
def descFaults (hw : Hw) (core : Nat) (d : MDesc) : List (Nat × Nat) := (descRanges d).flatMap (rangeFaults hw core d)

/-- Put an operation in the core's matrix queue; a full queue holds the bundle (R97). The rounding mode is that of the moment of
issue, before any slot of the bundle acts (R79, R129); its draws follow those of the bundle's vector slot (R134). -/
def queueMatrix (w : Work) (core : Nat) (op : MatrixOp) (draws : Nat) : SlotOut :=
  let mode := (coreOf w.hw core).r.mode
  if 8 ≤ (coreOf w.hw core).matrixQ.length then { hold := .queue }
  else
    { effect := fun w =>
        let r := (coreOf w.hw core).r
        let op' := { op with key := r.srKey, word := r.srWord, mode := mode }
        takeDraws core mode draws (modCore core (fun c => { c with matrixQ := c.matrixQ ++ [op'] }) w) }

/-- The wait counter a matrix instruction names; `IMM`[8:5] must be zero (R153). -/
def matrixImm (sl : Slot) : List (Nat × Nat) := if sl.imm.toNat ≥ 32 then [(illegalOperand, 0)] else []

/-- An operation with its issue copies (R149). -/
def matrixOp (kind : MatrixKind) (w : Work) (sl : Slot) (left right : MDesc) : MatrixOp := {
  kind := kind
  tile := sl.d.toNat
  left := left
  right := right
  wc := sl.imm.toNat % 32
  bundle := (coreOf w.hw sl.core.toNat).r.pc
  mode := 0
  key := 0
  word := 0
  begun := false
  pieces := 0 }

/-- `MZERO`. -/
def slotMzero (w : Work) (sl : Slot) : SlotOut :=
  let fs := (if sl.d.toNat ≥ 8 then [(illegalOperand, 0)] else []) ++ matrixImm sl
  { queueMatrix w sl.core.toNat (matrixOp .mzero w sl {} {}) 0 with faults := fs }

/-- The issue checks of `MMA` and `MMAS` (R152, R153). -/
def macFaults (w : Work) (sl : Slot) (stream : Bool) : List (Nat × Nat) :=
  let c := sl.core.toNat
  let r := (coreOf w.hw c).r
  if sl.d.toNat ≥ 8 || sl.a.toNat ≥ 16 || sl.b.toNat ≥ 16 then [(illegalOperand, 0)]
  else
    let a := tabGet {} r.m sl.a.toNat
    let b := tabGet {} r.m sl.b.toNat
    let bad := a.length != b.length || (macPair a.format b.format).isNone
      || a.tileInt || b.tileInt || b.staging || b.pieceChunks != 0
      || ((isMx a.format || isMx b.format) && a.length % 32 != 0)
      || (if stream then !a.staging || a.pieceChunks == 0 || 128 < pieceCount a || (a.mapMode == 0 && a.clearMap)
          else a.pieceChunks != 0)
    (if bad then [(illegalOperand, 0)] else []) ++ matrixImm sl
      ++ (if bad then [] else
        descFaults w.hw c a ++ descFaults w.hw c b
        ++ (if stream && a.mapMode == 1 then rangeFaults w.hw c a (a.mapOrBase, 16) else []))

/-- A product joins the matrix queue: its bundle issues only in an enabled cycle, and is held until one comes (R160, R161). -/
def queueProduct (w : Work) (core : Nat) (op : MatrixOp) : SlotOut :=
  if rateEnables w.hw core then queueMatrix w core op 0 else { hold := .rate }

/-- `MMA` (R151). -/
def slotMma (w : Work) (sl : Slot) : SlotOut :=
  let r := (coreOf w.hw sl.core.toNat).r
  { queueProduct w sl.core.toNat (matrixOp .mma w sl (tabGet {} r.m sl.a.toNat) (tabGet {} r.m sl.b.toNat)) with faults := macFaults w sl false }

/-- `MMAS` (R165). -/
def slotMmas (w : Work) (sl : Slot) : SlotOut :=
  let r := (coreOf w.hw sl.core.toNat).r
  { queueProduct w sl.core.toNat (matrixOp .mmas w sl (tabGet {} r.m sl.a.toNat) (tabGet {} r.m sl.b.toNat)) with faults := macFaults w sl true }

/-- The formats of a tile transfer (R154). -/
def transferFormat (load tileInt : Bool) (f : Nat) : Bool :=
  if load then (if tileInt then [0x0E, 0x0C].contains f else [0x00, 0x01, 0x02].contains f)
  else if tileInt then [0x0E, 0x0C, 0x0D, 0x00, 0x01, 0x02].contains f
  else f ≤ 0x0F

/-- The issue checks of `MLOAD` and `MSTORE` (R153, R154). -/
def transferFaults (w : Work) (sl : Slot) (load : Bool) : List (Nat × Nat) :=
  let c := sl.core.toNat
  let r := (coreOf w.hw c).r
  if sl.d.toNat ≥ 8 || sl.a.toNat ≥ 16 then [(illegalOperand, 0)]
  else
    let a := tabGet {} r.m sl.a.toNat
    let bad := 128 < a.length || a.pieceChunks != 0 || !transferFormat load a.tileInt a.format
      || (!load && isMx a.format && a.length % 32 != 0)
    (if bad then [(illegalOperand, 0)] else []) ++ matrixImm sl
      ++ (if bad then [] else descFaults w.hw c a)

/-- `MLOAD`. -/
def slotMload (w : Work) (sl : Slot) : SlotOut :=
  { queueMatrix w sl.core.toNat (matrixOp .mload w sl (tabGet {} (coreOf w.hw sl.core.toNat).r.m sl.a.toNat) {}) 0 with faults := transferFaults w sl true }

/-- `MSTORE`: its draws are taken at issue (R134, R155). -/
def slotMstore (w : Work) (sl : Slot) : SlotOut :=
  let a := tabGet {} (coreOf w.hw sl.core.toNat).r.m sl.a.toNat
  { queueMatrix w sl.core.toNat (matrixOp .mstore w sl a {}) (a.rows * a.length) with faults := transferFaults w sl false }

/-! ## Execution of queued operations -/

/-- The MAC array executes an operation; otherwise the tile port does (R156). -/
def onMacArray (k : MatrixKind) : Bool := k == .mma || k == .mmas

/-- Operation i of a queue may begin: its stream is free and in order, and earlier operations on its tile have completed (R156). -/
def mayBegin (q : List MatrixOp) (i : Nat) : Bool :=
  match q[i]? with
  | none => false
  | some op =>
    let earlier := q.take i
    !op.begun
    && q.all (fun o => !(o.begun && onMacArray o.kind == onMacArray op.kind))
    && earlier.all (fun o => onMacArray o.kind != onMacArray op.kind)
    && earlier.all (fun o => o.tile != op.tile)

/-- The element codes of row r of a descriptor, k from 0 within piece p. -/
def rowCodes (w : Work) (core : Nat) (d : MDesc) (p r : Nat) : List Nat :=
  let n := pieceLen d p
  let v := w.num (descKey core d (rowOffset d p r)) (matrixRowBytes d.format n)
  (List.range n).map (elemAt (fmtWidth d.format) v)

/-- The scale bytes of row r of piece p; none where the format has no scales. -/
def rowScales (w : Work) (core : Nat) (d : MDesc) (p r : Nat) : List Nat :=
  if isMx d.format then (w.read (descKey core d (scaleOffset d p r)) (ceilDiv (pieceLen d p) 32)).map (fun b => b.toNat)
  else []

/-- An operand row as pairs of code and scale byte. -/
def rowPairs (w : Work) (core : Nat) (d : MDesc) (p r : Nat) : List (Nat × Nat) :=
  let sc := rowScales w core d p r
  (numbered 0 (rowCodes w core d p r)).map (fun x => (x.2, sc.getD (x.1 / 32) 127))

/-- The exact value of an operand element. -/
def operandVal (d : MDesc) (x : Nat × Nat) : Val :=
  if isMx d.format then mxVal d.format d.variant x.2 x.1 else decodeElem d.format x.1

/-- The exact product of two operand elements (R137). -/
def product (l r : MDesc) (x y : Nat × Nat) : Val :=
  if l.format = 0x0F ∧ r.format = 0x0F then lgProduct x.1 y.1 else vMul (operandVal l x) (operandVal r y)

/-- A list cut into chunks of n; fuel bounds their number. -/
def chunks {α : Type} (n : Nat) : Nat → List α → List (List α)
  | 0, _ => []
  | k + 1, l => match l with
    | [] => []
    | _ => l.take n :: chunks n k (l.drop n)

/-- One output element over a run of k: F32 with one rounding a chunk, or I32 wrapping (R138, R139). -/
def accumulate (l r : MDesc) (acc : Nat) (xs ys : List (Nat × Nat)) : Nat :=
  let isInt := match macPair l.format r.format with | some (_, i) => i | none => false
  if isInt then
    (List.zipWith (fun x y =>
      toSigned (fmtWidth l.format) x.1 * toSigned (fmtWidth r.format) y.1) xs ys).foldl
        (fun a p => ofSigned 32 ((a : Int) + p)) acc
  else
    let ps := List.zipWith (product l r) xs ys
    (chunks (chunkLen l.format r.format) ps.length ps).foldl
      (fun a ch => f32Of (vAdd (f32Val a) (chunkSum ch))) acc

/-- The words of tile row i, columns 0 to n - 1. -/
def tileRow (w : Work) (core tile i n : Nat) : List Nat :=
  let v := w.num (tileKey core tile i 0) (4 * n)
  (List.range n).map (elemAt 32 v)

/-- Tile row i written. -/
def setTileRow (core tile i : Nat) (ws : List Nat) (w : Work) : Work :=
  w.write (tileKey core tile i 0) (ws.flatMap (leBytes 4))

/-- The right operand's elements that meet piece p of the left operand. -/
def rightRun (w : Work) (core : Nat) (op : MatrixOp) (p j : Nat) : List (Nat × Nat) :=
  let from_ := p * (32 * op.left.pieceChunks)
  ((rowPairs w core op.right 0 j).drop from_).take (pieceLen op.left p)

/-- One piece of a product added into its tile, row by row (R151, R165). -/
def addPiece (core : Nat) (op : MatrixOp) (p : Nat) (w : Work) : Work :=
  let cols := (List.range op.right.rows).map (rightRun w core op p)
  forEach (List.range op.left.rows) (fun i w' =>
    let row := rowPairs w core op.left p i
    let old := tileRow w' core op.tile i op.right.rows
    setTileRow core op.tile i (List.zipWith (fun a c => accumulate op.left op.right a row c) old cols) w') w

/-- The operand and scale ranges a product reads for piece p: the piece of the left operand, and the elements of the right operand
that meet it (R150, R165). -/
def productRanges (op : MatrixOp) (p : Nat) : List (MDesc × Nat × Nat) :=
  let n := pieceLen op.left p
  rowRanges op.left p 0 n ++ rowRanges op.right 0 (p * (32 * op.left.pieceChunks)) n

/-- What a fault record names for the first uncorrectable unit of descriptor ranges; none where every unit is good. -/
def firstBadRange (w : Work) (core : Nat) (l : List (MDesc × Nat × Nat)) : Option Nat :=
  l.findSome? (fun r =>
    let k := descKey core r.1 r.2.1
    if w.good k r.2.2 then none else some (descWord r.1 (r.2.1 + (w.firstBad k r.2.2 - k))))

/-- The accumulator words of rows of a tile read good. -/
def tileGood (w : Work) (core tile rows cols : Nat) : Bool :=
  (List.range rows).all (fun i => w.good (tileKey core tile i 0) (4 * cols))

/-- An uncorrectable read of a matrix operation ends in a core fault, else the operation acts (R106); a tile has no address (R108). -/
def unlessBad (core : Nat) (op : MatrixOp) (bad : Option Nat) (tile : Bool) (act : Work → Work) (w : Work) : Work :=
  match bad with
  | some a => coreFault core uncorrectableRead 2 op.bundle a true w
  | none => if tile then act w else coreFault core uncorrectableRead 2 op.bundle 0 true w

/-- Replace operation i of the core's matrix queue. -/
def setMatrixOp (core i : Nat) (op : MatrixOp) (w : Work) : Work :=
  modCore core (fun c => { c with matrixQ := c.matrixQ.set i op }) w

/-- Operation i leaves the queue and raises its counter (R159). -/
def finishMatrix (core i : Nat) (op : MatrixOp) (w : Work) : Work :=
  raiseWc core op.wc 1 op.bundle 2 (modCore core (fun c => { c with matrixQ := c.matrixQ.eraseIdx i }) w)

/-- The tile words of a row as `MLOAD` converts them (R154). -/
def loadRow (w : Work) (core : Nat) (d : MDesc) (r : Nat) : List Nat :=
  (rowCodes w core d 0 r).map (fun c =>
    if d.tileInt then ofSigned 32 (toSigned (fmtWidth d.format) c) else convertElem d.format 0 .nearest c)

/-- The rounding of element e of a stored region (R155). -/
def storeRound (op : MatrixOp) (e : Nat) : Round := roundFor op.mode op.key op.word e

/-- Row r of a tile stored through a descriptor (R154). -/
def storeRow (core : Nat) (op : MatrixOp) (r : Nat) (w : Work) : Work :=
  let d := op.left
  let n := d.length
  let words := tileRow w core op.tile r n
  let src := if d.tileInt then 0x0E else 0x00
  let rs := (List.range n).map (fun j => storeRound op (r * n + j))
  if isMx d.format then
    let vals := words.map (decodeElem src)
    let blocks := (List.range (n / 32)).map (fun b =>
      mxPack d.format d.variant ((rs.drop (32 * b)).take 32) ((vals.drop (32 * b)).take 32))
    let codes := blocks.flatMap (fun p => p.2)
    let w1 := w.write (descKey core d (rowOffset d 0 r)) (leBytes (matrixRowBytes d.format n) (packElems (fmtWidth d.format) codes))
    w1.write (descKey core d (scaleOffset d 0 r)) (blocks.map (fun p => BitVec.ofNat 8 p.1))
  else
    let codes := List.zipWith (fun rd c => convertElem src d.format rd c) rs words
    w.write (descKey core d (rowOffset d 0 r)) (leBytes (matrixRowBytes d.format n) (packElems (fmtWidth d.format) codes))

/-- Operation i of the matrix queue begins (R156). -/
def beginMatrix (core i : Nat) (w : Work) : Work :=
  let q := (coreOf w.hw core).matrixQ
  match q[i]? with
  | some op => if mayBegin q i then setMatrixOp core i { op with begun := true } w else w
  | none => w

/-- The index of the `MMAS` in progress. -/
def streamIndex (q : List MatrixOp) : Option Nat := q.findIdx? (fun o => o.begun && o.kind == .mmas)

/-- Piece p of an `MMAS` is ready (R166). -/
def pieceReady (w : Work) (core : Nat) (op : MatrixOp) (p : Nat) : Bool :=
  if op.left.mapMode = 0 then op.left.mapOrBase + p + 1 ≤ wcOf (coreOf w.hw core).r op.left.streamWc
  else bit (w.num (stagingKey (spireOf core) op.left.mapOrBase) 16) p

/-- The next piece of the `MMAS` in progress begins where it is ready: its chunks are added (R165). -/
def beginPiece (core : Nat) (w : Work) : Work :=
  let q := (coreOf w.hw core).matrixQ
  match streamIndex q with
  | none => w
  | some i =>
    match q[i]? with
    | none => w
    | some op =>
      let p := op.pieces
      let mapKey := stagingKey (spireOf core) op.left.mapOrBase
      if pieceCount op.left ≤ p then w
      else if op.left.mapMode = 1 && !w.good mapKey 16 then
        coreFault core uncorrectableRead 2 op.bundle (descWord op.left op.left.mapOrBase) true w
      else if !pieceReady w core op p then w
      else unlessBad core op (firstBadRange w core (productRanges op p)) (tileGood w core op.tile op.left.rows op.right.rows)
        (fun w => setMatrixOp core i { op with pieces := p + 1 } (addPiece core op p w)) w

/-- Operation i of the matrix queue, begun, finishes: its result is written and its counter raised (R159, R168, R171). -/
def completeMatrix (core i : Nat) (w : Work) : Work :=
  match (coreOf w.hw core).matrixQ[i]? with
  | none => w
  | some op =>
    if !op.begun then w
    else
      match op.kind with
      | .mzero => finishMatrix core i op (w.zero (tileKey core op.tile 0 0) 65536)
      | .mma =>
        unlessBad core op (firstBadRange w core (productRanges op 0)) (tileGood w core op.tile op.left.rows op.right.rows)
          (fun w => finishMatrix core i op (addPiece core op 0 w)) w
      | .mmas =>
        if op.pieces < pieceCount op.left then w
        else
          finishMatrix core i op
            (if op.left.clearMap then w.zero (stagingKey (spireOf core) op.left.mapOrBase) 16 else w)
      | .mload =>
        unlessBad core op (firstBadRange w core (rowRanges op.left 0 0 op.left.length)) true
          (fun w => finishMatrix core i op
            (forEach (List.range op.left.rows) (fun r w' => setTileRow core op.tile r (loadRow w core op.left r) w') w)) w
      | .mstore =>
        unlessBad core op none (tileGood w core op.tile op.left.rows op.left.length)
          (fun w => finishMatrix core i op (forEach (List.range op.left.rows) (storeRow core op) w)) w

end Sys2Proof.Machine
end

