-- ==== Sys2Proof/Machine/Shared.lean ====
section
/-! DEFINITION. Machine/Shared.lean: fences, unit records, message tallies and the delivery of messages to a core (R92 to R96, R431, R498, R563). -/
namespace Sys2Proof.Machine

/-! ## Fences and units in service -/

/-- A domain reset in progress covers the Spire (R493, R497). -/
def spireFenced (hw : Hw) (s : Nat) : Bool :=
  hw.hang.resets.any (fun r => (r.kind == 2 && r.unit == s) || (r.kind == 3 && partOfSpire hw s == r.unit))

/-- A domain reset in progress covers the core. -/
def coreFenced (hw : Hw) (c : Nat) : Bool :=
  spireFenced hw (spireOf c) || hw.hang.resets.any (fun r => r.kind == 1 && r.unit == c)

/-- The stack or its Graver engine is fenced: its own reset, or the reset of its Spire (R493, R495). -/
def stackFenced (hw : Hw) (k : Nat) : Bool :=
  spireFenced hw (k / 3) || hw.hang.resets.any (fun r => r.kind == 4 && r.unit == k)

/-- A stack is itself in reset: space-0 accesses to it are answered with an error (R498). -/
def stackInReset (hw : Hw) (k : Nat) : Bool := hw.hang.resets.any (fun r => r.kind == 4 && r.unit == k)

/-- The module is in the safe state, in which its engines are stopped (R483). -/
def isSafe (hw : Hw) : Bool := hw.fault.safe.isSome

/-- The enabled physical cores of a Spire, ascending: the 68 less those the defect map disables (R16, R372). -/
def enabledCores (hw : Hw) (s : Nat) : List Nat :=
  (List.range 68).filter (fun p => !((hw.keep.disabled.drop (4 * s)).take 4).contains p)

/-- The physical core of its Spire that a module core number names: logical core i is the enabled core i (R18; log 59). -/
def physicalCore (hw : Hw) (core : Nat) : Option Nat := (enabledCores hw (spireOf core))[core % 64]?

/-- A core runs: the defect map gives it a physical core, its Spire is powered, no fence covers it, and the module is not in the
safe state. -/
def coreLive (hw : Hw) (c : Nat) : Bool :=
  (physicalCore hw c).isSome && hw.power.spireOn.contains (spireOf c) && !coreFenced hw c && !isSafe hw

/-- The Cupola main domain serves: powered and not in the safe state. -/
def cupolaLive (hw : Hw) : Bool := hw.power.cupola && !isSafe hw

/-- An access through an address word reaches a fenced core's scratchpad or a stack in reset (R498). -/
def hitsFence (hw : Hw) (core word : Nat) : Bool :=
  match spaceOf word with
  | 0 => word < tier2Base && stackInReset hw (word / 2 ^ 36)
  | 3 => bits word 59 52 != core && coreFenced hw (bits word 59 52)
  | _ => false

/-! ## Unit records -/

/-- Keep publishes a unit's state: the state epoch rises by 1 and the record carries it (R431). -/
def publishUnit (unit state cause : Nat) (w : Work) : Work :=
  let old := tabGet {} w.hw.lantern.units unit
  if old.state = state then w
  else w.up fun h =>
    let e := (h.lantern.epoch + 1) % 2 ^ 32
    let rec_ : UnitRec := { state := state, cause := cause, epoch := e, time := h.time.now }
    { h with lantern := { h.lantern with
      epoch := e
      epochSaved := if e % 4096 = 0 then e else h.lantern.epochSaved
      units := tabSet {} h.lantern.units unit rec_ } }

/-! ## Message tallies -/

/-- Messages a category has taken in, less those it has given up (R563). -/
def MsgTally.balance (t : MsgTally) : Int := (t.issued + t.arrived : Nat) - (t.delivered + t.dropped + t.duplicates + t.handedOff : Nat)

/-- Change the tallies of a message category (R563); the messages in progress change with them. -/
def tally (cat : Nat) (f : MsgTally → MsgTally) (w : Work) : Work :=
  let change (t : MsgTally) : MsgTally := { f t with held := t.held + ((f t).balance - t.balance) }
  w.up fun h => { h with conserve := { h.conserve with tally := tabMod {} h.conserve.tally cat change } }

/-- A message is issued. -/
def tallyIssued (cat : Nat) : Work → Work := tally cat (fun t => { t with issued := t.issued + 1 })
/-- A message arrives from a plane port. -/
def tallyArrived (cat : Nat) : Work → Work := tally cat (fun t => { t with arrived := t.arrived + 1 })
/-- A message is delivered. -/
def tallyDelivered (cat : Nat) : Work → Work := tally cat (fun t => { t with delivered := t.delivered + 1 })
/-- A message is dropped. -/
def tallyDropped (cat : Nat) : Work → Work := tally cat (fun t => { t with dropped := t.dropped + 1 })
/-- A copy is discarded by its sequence number. -/
def tallyDuplicate (cat : Nat) : Work → Work := tally cat (fun t => { t with duplicates := t.duplicates + 1 })
/-- The last flit of a message has been acknowledged. -/
def tallyHandedOff (cat : Nat) : Work → Work := tally cat (fun t => { t with handedOff := t.handedOff + 1 })

/-! ## Completion of an operation of the message unit -/

/-- An operation of the message unit completes and raises its counter by 1; a refused `SEND` counts in `ACK_REFUSED` (R95). -/
def completeMsg (core id : Nat) (refused : Bool) (w : Work) : Work :=
  match (coreOf w.hw core).msgs.find? (fun m => m.id == id) with
  | none => w
  | some op =>
    raiseWc core op.wc 1 op.bundle 4 (modCore core (fun c => { c with
      msgs := c.msgs.filter (fun m => m.id != id)
      ackRefused := if refused && op.ack then satAdd 16 c.ackRefused 1 else c.ackRefused }) w)

/-! ## Arrival of messages at a core (R92 to R96, R498) -/

/-- The frame distance d of R92. -/
def frameDistance (hw : Hw) (core frameTag : Nat) : Nat :=
  (frameTag + 256 - (coreOf hw core).frame % 256) % 256

/-- Reasons of a `MSG_DROP` record (R545): late, no buffer, oversize, fence. -/
inductive DropReason where
  | late | noBuffer | oversize | fence
  deriving DecidableEq, Repr

/-- The code of a drop reason. -/
def DropReason.code : DropReason → Nat
  | .late => 0
  | .noBuffer => 1
  | .oversize => 2
  | .fence => 3

/-- A discard at the receiver is counted and recorded (R92 to R94, R498, R545). -/
def noteDrop (core src tag bytes : Nat) (reason : DropReason) (w : Work) : Work :=
  let w1 := match reason with
    | .late => modCore core (fun c => { c with lateDropped := satAdd 16 c.lateDropped 1 }) w
    | .noBuffer => modCore core (fun c => { c with noBuffer := satAdd 16 c.noBuffer 1 }) w
    | .oversize => modCore core (fun c => { c with oversize := satAdd 16 c.oversize 1 }) w
    | .fence => bump 9 (8 + spireOf core) 1 w
  let c := coreOf w1.hw core
  tracePlan c.plan 5 (coreRegion core) 0x09 0 c.ctx core
    (leBytes 4 (src % 2 ^ 18) ++ leBytes 1 tag ++ leBytes 1 reason.code ++ zeros 2 ++ leBytes 4 bytes
      ++ leBytes 4 (c.frame % 2 ^ 32)) w1

/-- A message or signal is discarded at the receiver. -/
def dropMessage (core src tag bytes : Nat) (reason : DropReason) (w : Work) : Work :=
  noteDrop core src tag bytes reason (tallyDropped 0 w)

/-- The receive that an arriving `SEND` consumes, and whether its raise is held; none when the message is discarded. -/
def admitSend (core src tag frameTag bytes : Nat) (w : Work) : Work × Option Armed :=
  let c := coreOf w.hw core
  if coreFenced w.hw core then (dropMessage core src tag bytes .fence w, none)
  else if c.ctx = 0 then (tallyDropped 0 (bump 3 148 1 w), none)
  else if 2 ≤ frameDistance w.hw core frameTag then (dropMessage core src tag bytes .late w, none)
  else match c.armed.find? (fun a => a.tag == tag) with
    | none => (dropMessage core src tag bytes .noBuffer w, none)
    | some a =>
      if a.len < bytes then (dropMessage core src tag bytes .oversize w, none)
      else (modCore core (fun c => { c with armed := c.armed.filter (fun b => b.seq != a.seq) }) w, some a)

/-- A raise tagged with a frame is applied at once, held for the next frame, or late (R92). -/
def taggedRaise (core src tag frameTag wc count bundle : Nat) (unit : Nat) (armed : Option Armed) (w : Work) : Work :=
  match frameDistance w.hw core frameTag with
  | 0 => raiseWc core wc count bundle unit w
  | 1 =>
    let h : HeldRaise := { tag := frameTag, wc := wc, count := count, armed := armed, bundle := bundle, unit := unit }
    modCore core (fun c => { c with held := c.held ++ [h] }) w
  | _ => noteDrop core src tag 0 .late w

/-- A `SEND` that arrives now for a core is one frame early, so that its raise is held (R92). -/
def arrivesEarly (hw : Hw) (core frameTag : Nat) : Bool := frameDistance hw core frameTag == 1

/-- A receive returns to the armed list of a core, at its place among those of its tag (R93). -/
def rearm (core : Nat) (a : Armed) (w : Work) : Work :=
  modCore core (fun c => { c with armed := c.armed.filter (fun b => b.seq < a.seq) ++ a :: c.armed.filter (fun b => a.seq < b.seq) }) w

/-- A delivered `SEND` raises the counter its `RECV` named, as it was judged when its first flit arrived (R92, R94, R267): at once, or
where it was early with the frame of its tag, which may have begun or passed by now (R93; log 11). -/
def finishSend (core src frameTag : Nat) (early : Bool) (a : Armed) (w : Work) : Work :=
  let w1 := tallyDelivered 0 w
  if !early || frameDistance w.hw core frameTag = 0 then raiseWc core a.wc 1 a.bundle 4 w1
  else if arrivesEarly w.hw core frameTag then taggedRaise core src a.tag frameTag a.wc 1 a.bundle 4 (some a) w1
  else noteDrop core src a.tag 0 .late (rearm core a w1)

/-- A signal arrives at a core (R92, R96, R498). -/
def arriveSignal (core src wc frameTag count : Nat) (w : Work) : Work :=
  if coreFenced w.hw core then dropMessage core src wc 0 .fence w
  else if (coreOf w.hw core).ctx = 0 then tallyDropped 0 (bump 3 148 1 w)
  else if 2 ≤ frameDistance w.hw core frameTag then dropMessage core src wc 0 .late w
  else taggedRaise core src wc frameTag wc count 0xFFFF 4 none (tallyDelivered 0 w)

/-- An answer arrives for a `SEND` with `ACK` (R95, R270): without an outstanding one it is late. -/
def arriveAnswer (core seq : Nat) (accepted : Bool) (w : Work) : Work :=
  match (coreOf w.hw core).msgs.find? (fun m => m.kind == .send && m.ack && m.left && m.seq == seq) with
  | some op => completeMsg core op.id (!accepted) (tallyDelivered 0 w)
  | none => tallyDropped 0 (bump 3 147 1 w)

/-! ## The source of the time base (R33) -/

/-- Change the time base. -/
def modTime (f : TimeSt → TimeSt) (w : Work) : Work := w.up fun h => { h with time := f h.time }

/-- The source in use among those available (R33): the rack reference skips source 1; a source lost brings holdover. -/
def chosenSource (t : TimeSt) : TimeSource :=
  if t.planeOk && !t.rackRef then .plane
  else if t.ptpOk then .ptp
  else if t.markerOk then .marker
  else match t.source with
    | .freeRun => .freeRun
    | _ => .holdover

/-- The time base takes its source (R33); the first it acquires after a module reset makes the step of R34 due, where no plan has been
admitted yet (R31). -/
def chooseSource (w : Work) : Work :=
  modTime (fun t =>
    let next := chosenSource t
    let first := !t.acquired && (next == .plane || next == .ptp || next == .marker)
    { t with
      source := next
      acquired := t.acquired || first
      stepDue := t.stepDue || (first && !t.planSeen)
      holdover := if next == .holdover then (match t.holdover with | some x => some x | none => some t.now) else none
      residual := if next == t.source then t.residual else 0
      slewing := if next == t.source then t.slewing else false }) w

/-- A source is heard (R33). -/
def gainSource (source : TimeSource) (w : Work) : Work :=
  chooseSource (modTime (fun t => match source with
    | .plane => { t with planeOk := true }
    | .ptp => { t with ptpOk := true }
    | .marker => { t with markerOk := true }
    | _ => t) w)

/-- A source is lost (R33). -/
def loseSource (source : TimeSource) (w : Work) : Work :=
  chooseSource (modTime (fun t => match source with
    | .plane => { t with planeOk := false }
    | .ptp => { t with ptpOk := false }
    | .marker => { t with markerOk := false }
    | _ => t) w)

end Sys2Proof.Machine
end

