-- ==== Sys2Proof/Machine/GraverOps.lean ====
section
/-! DEFINITION. Machine/GraverOps.lean: the queue of a Graver engine and the completion of a descriptor (R217, R218, R221, R245 to R251). -/
namespace Sys2Proof.Machine

/-- The clock region of Graver engine k. -/
def graverRegion (k : Nat) : Nat := 264 + k

/-- The completion record of a descriptor (R221). -/
def graverRecord (hw : Hw) (k : Nat) (d : GDesc) (status items charged detail : Nat) : List Byte :=
  let (t, rs) := stampOf hw (graverRegion k)
  leBytes 8 t ++ slice d.desc 4 4 ++ leBytes 2 d.ctx ++ slice d.desc 0 1 ++ leBytes 1 status ++ leBytes 4 items
    ++ leBytes 4 charged ++ leBytes 4 detail ++ leBytes 1 k ++ leBytes 1 (b2n rs) ++ zeros 2

/-- Charge cycles to the plan and frame that issued a descriptor (R247). -/
def addCharge (plan frame charged : Nat) : List (Nat × Nat × Nat) → List (Nat × Nat × Nat)
  | [] => [(plan, frame, charged)]
  | e :: es => if e.1 = plan ∧ e.2.1 = frame then (plan, frame, e.2.2 + charged) :: es else e :: addCharge plan frame charged es

/-- A descriptor completes: its record is written where the core's staging can receive it, its charge counted, the error count
and the counter of the core raised, and the Graver trace record written (R99, R221, R247, R250). -/
def graverDone (k : Nat) (d : GDesc) (status items charged detail : Nat) (w : Work) : Work :=
  let reach := w.hw.power.spireOn.contains (spireOf d.core) && !spireFenced w.hw (spireOf d.core)
  let w1 := if reach then w.write (stagingKey (spireOf d.core) d.completion) (graverRecord w.hw k d status items charged detail) else w
  let w2 := modGraver k (fun g => { g with charged := addCharge d.plan d.frame charged g.charged }) w1
  let w3 := tracePlan d.plan 2 (graverRegion k) 0x06 0 d.ctx k
    (slice d.desc 4 4 ++ slice d.desc 0 1 ++ leBytes 1 status ++ leBytes 1 k ++ zeros 1 ++ leBytes 4 charged ++ leBytes 4 items) w2
  if (coreOf w3.hw d.core).outs.any (fun o => o.id == d.op) then
    raiseWc d.core d.wc 1 d.bundle 5 (modCore d.core (fun c => { c with
      outs := c.outs.filter (fun o => o.id != d.op)
      graverErrors := if status = 0 then c.graverErrors else satAdd 32 c.graverErrors 1 }) w3)
  else w3

/-- The engine accepts descriptors: its HBM domain is powered and it is not fenced (R250). -/
def graverOpen (hw : Hw) (k : Nat) : Bool := (graverOf hw k).accepts && !stackFenced hw k && !isSafe hw

/-- A descriptor reaches an engine: queued, or completed with `ENGINE_RESET` at a fenced engine (R217, R250, R498). -/
def graverSubmit (k : Nat) (d : GDesc) (w : Work) : Work :=
  if graverOpen w.hw k then modGraver k (fun g => { g with queue := g.queue ++ [d] }) w
  else graverDone k d 9 0 16 0 w

/-- The engine is reset or fenced: the running descriptor and every queued one complete with `ENGINE_RESET`, a descriptor-level status that
is charged 16 cycles, and no item done; what the running one wrote before stays (R222, R245, R250). -/
def graverReset (k : Nat) (w : Work) : Work :=
  (graverHeld (graverOf w.hw k)).foldl (fun acc d => graverDone k d 9 0 16 0 acc)
    (modGraver k (fun g => { g with queue := [], running := none }) w)

/-- The next descriptor: contexts take turns in ascending order after the one served last (R218). -/
def graverNext (g : GraverSt) : Option GDesc :=
  let held := g.queue.take 1024
  let ids := held.map (fun d => d.ctx)
  let ctx := match least (ids.filter (fun c => g.lastCtx < c)) with
    | some c => some c
    | none => least ids
  match ctx with
  | none => none
  | some c => held.find? (fun d => d.ctx == c)

/-- The descriptor leaves the queue as its context is served. -/
def graverTake (k : Nat) (d : GDesc) (w : Work) : Work :=
  modGraver k (fun g => { g with
    queue := removeFirst (fun e => e.ctx == d.ctx && e.core == d.core && e.op == d.op) g.queue
    lastCtx := d.ctx }) w

/-- Descriptors of a plan's frame leave every engine without a record; a running one stops at the item boundary where it stands, and the
items it has completed keep their tier-1 writes (R249). -/
def graverCancel (plan : Nat) (w : Work) : Work :=
  (List.range 12).foldl (fun acc k => modGraver k (fun g => { g with
    queue := g.queue.filter (fun d => d.plan != plan)
    running := g.running.filter (fun r => r.d.plan != plan) }) acc) w

end Sys2Proof.Machine
end

