-- ==== Sys2Proof/Machine/HostOps.lean ====
section
/-! DEFINITION. Machine/HostOps.lean: the module as RoCEv2 requester: queue pairs, requests and their completion (R318 to R331). -/
namespace Sys2Proof.Machine

/-- The queue pair of an index. -/
def findQp (hw : Hw) (i : Nat) : Option Qp := hw.host.qps.find? (fun q => q.index == i)

/-- Change a queue pair. -/
def modQp (i : Nat) (f : Qp → Qp) (w : Work) : Work :=
  w.up fun h => { h with host := { h.host with qps := h.host.qps.map (fun q => if q.index == i then f q else q) } }

/-- The state of an Ethernet port or half, entry h for code 8 + h. -/
def halfOf (hw : Hw) (h : Nat) : EthHalf := tabGet {} hw.host.halves h

/-- Change the state of an Ethernet port or half. -/
def modHalf (i : Nat) (f : EthHalf → EthHalf) (w : Work) : Work :=
  w.up fun h => { h with host := { h.host with halves := tabMod {} h.host.halves i f } }

/-- The settings of Ethernet port e. -/
def ethPortOf (hw : Hw) (e : Nat) : EthPort := tabGet {} hw.host.eth e

/-- An Ethernet code h names a port or half in the mode in force (R314). -/
def halfExists (hw : Hw) (h : Nat) : Bool := h < 8 && (h % 2 == 0 || (ethPortOf hw (h / 2)).mode == 1)

/-- Line rate of a port or half in bit/s (R314). -/
def lineRate (hw : Hw) (h : Nat) : Nat := if (ethPortOf hw (h / 2)).mode = 1 then 200000000000 else 400000000000

/-- IEEE 802.1Q tag of frames of a priority on a port or half: its `VLAN`'s ID, none where frames are untagged (R355). -/
def tagOf (hw : Hw) (h priority : Nat) : Option (Nat × Nat) :=
  let id := (ethPortOf hw (h / 2)).vlan % 2 ^ 12
  if id = 0 then none else some (id, priority)

/-- The headers of every packet of a queue pair (R321, R325, R326, R359). -/
def roceHead (hw : Hw) (q : Qp) : RoceHead :=
  { nextHop := q.nextHop
    tag := tagOf hw (q.code - 8) q.priority
    gidIndex := q.gidIndex
    peerGid := q.peerGid
    peerQpn := q.peerQpn
    dscp := q.dscp
    ecn := true }

/-- A priority of a port or half is paused by the far end (R326). -/
def isPaused (hw : Hw) (h priority : Nat) : Bool := hw.time.now < tabGet 0 (halfOf hw h).pausedUntil priority

/-- Bytes that packets count on an Ethernet port: their payload and 128 B each (R317). -/
def wireBytes (packets len : Nat) : Nat := len + 128 * packets

/-- Packets of a queue pair leave: they are counted on its port (R317, R365). A CNP is no request, response or acknowledgement: it
carries no units. -/
def countSent (q : Qp) (packets len : Nat) (w : Work) : Work :=
  bump 5 (q.code - 8) packets (modHalf (q.code - 8) (fun x => { x with bytesOut := x.bytesOut + len }) w)

/-- The `roce` operation number of a request kind: 0 write, 1 send, 2 send with immediate. -/
def sendOf (hw : Hw) (q : Qp) (r : WorkReq) : Emit := .roce q.index (roceHead hw q) r.kind r.psn r.address r.rkey r.imm r.data

/-- The packets of a request leave, unless its frame was aborted (R328, R329). -/
def sendWork (q : Qp) (r : WorkReq) (w : Work) : Work :=
  if r.stopped then w else countSent q r.packets (wireBytes r.packets r.data.length) (emit (sendOf w.hw q r) w)

/-- Packets of a request at a path MTU; every request takes at least one PSN. -/
def packetsOf (mtu len : Nat) : Nat := max 1 (ceilDiv len (max 1 mtu))

/-- An answer of a queue pair, of operation number op, leaves (R318, R325). -/
def sendReply (q : Qp) (op psn address : Nat) (data : List Byte) (w : Work) : Work :=
  let n := packetsOf q.mtu data.length
  countSent q n (if op = 5 then 0 else wireBytes n data.length) (emit (.roce q.index (roceHead w.hw q) op psn address 0 0 data) w)

/-- A request has packets to send: it was never sent, or is to be sent again. -/
def WorkReq.fresh (r : WorkReq) : Bool := !r.sent || r.again

/-- The answers and then the requests of a queue pair that wait leave in order, while it is `READY` and its priority is not paused
(R321, R326, R329). -/
def pushQp (i : Nat) (w : Work) : Work :=
  match findQp w.hw i with
  | none => w
  | some q =>
    if q.state ≠ 1 ∨ isPaused w.hw (q.code - 8) q.priority ∨ isSafe w.hw then w
    else
      let now := w.hw.time.now
      let w1 := modQp i (fun x => { x with
        waiting := []
        outstanding := x.outstanding.map (fun r => if r.fresh then { r with sent := true, again := false, sentAt := now } else r) }) w
      let w2 := forEach q.waiting (fun a w => sendReply q a.1 a.2.1 a.2.2.1 a.2.2.2 w) w1
      forEach (q.outstanding.filter WorkReq.fresh) (sendWork q) w2

/-- A request joins a queue pair in `READY` and is sent; a queue pair in another state sends nothing (R321). -/
def postWork (i : Nat) (sender : Sender) (kind address rkey imm : Nat) (data : List Byte) (plan frame : Nat) (w : Work) : Work :=
  match findQp w.hw i with
  | none => w
  | some q =>
    if q.state ≠ 1 then w
    else
      let n := packetsOf q.mtu data.length
      let r : WorkReq := {
        sender := sender
        kind := kind
        address := address
        rkey := rkey
        imm := imm
        data := data
        psn := q.sqPsn
        packets := n
        sent := false
        sentAt := w.hw.time.now
        retries := 0
        again := false
        stopped := false
        rnrs := 0
        plan := plan
        frame := frame }
      pushQp i (modQp i (fun q => { q with sqPsn := (q.sqPsn + n) % 2 ^ 24, outstanding := q.outstanding ++ [r] }) w)

/-- The request's sender learns that it is acknowledged (R329). -/
def finishWork (r : WorkReq) (w : Work) : Work :=
  match r.sender with
  | .core core op => completeMsg core op false w
  | _ => w

/-- An `HWRITE` or `HSEND` on a queue pair in `ERROR` sends nothing: its counter rises at once and the drop is counted (R329). -/
def dropHost (i core op : Nat) (w : Work) : Work :=
  let ctx := (coreOf w.hw core).ctx
  let w1 := modQp i (fun q => { q with
    hostDropped := q.hostDropped + 1
    dropContext := if q.dropContext = 0 then ctx else q.dropContext }) w
  completeMsg core op false (bump 5 (41 + i) 1 w1)

/-- A queue pair moves to `ERROR` with a cause (R321): work of cores completes as dropped, the rest is discarded. -/
def qpError (i cause : Nat) (w : Work) : Work :=
  match findQp w.hw i with
  | none => w
  | some q =>
    if q.state ≠ 1 then w
    else
      let w1 := modQp i (fun q => { q with state := 2, cause := cause, outstanding := [], waiting := [] }) w
      q.outstanding.foldl (fun acc r => match r.sender with
        | .core core op => dropHost i core op acc
        | _ => acc) w1

/-- An outbox window of a channel (R330). -/
def outboxOf (hw : Hw) (channel index : Nat) : Outbox := tabGet {} hw.host.outboxes (4 * channel + index)

/-- An entry of the channel's event ring (R331): written through the first outbox window with a ring. -/
def writeEvent (channel : Nat) (entry : Nat → List Byte) (w : Work) : Work :=
  match (List.range 4).find? (fun i => (outboxOf w.hw channel i).enable && 0 < (outboxOf w.hw channel i).eventEntries) with
  | none => w
  | some i =>
    let o := outboxOf w.hw channel i
    let n := (o.ringSeq + 1) % 2 ^ 32
    let w1 := w.up fun h => { h with host := { h.host with
      outboxes := tabSet {} h.host.outboxes (4 * channel + i) { o with ringSeq := n } } }
    postWork o.qp .turret 0 (o.address + o.eventOffset + 32 * (o.ringSeq % o.eventEntries)) o.rkey 0 (entry n) 0 0 w1

/-! ## PTP masters, and the link of a port (R321, R327) -/

/-- The best of two masters, each with its port code offset, sender and data set; the first of equals. -/
def betterMaster (best : Option (Nat × Nat × Nat)) (m : Nat × Nat × Nat) : Option (Nat × Nat × Nat) :=
  match best with
  | none => some m
  | some b => if m.2.2 < b.2.2 then some m else some b

/-- The master that is best by the data-set comparison, over the Announce messages of all ports (R327). -/
def bestMaster (hw : Hw) : Option (Nat × Nat) :=
  let heard := (List.range 8).flatMap (fun h => (halfOf hw h).masters.map (fun m => (h, m)))
  (heard.foldl betterMaster none).map (fun m => (m.1, m.2.1))

/-- The master in use is chosen again; another one is measured afresh, and without one PTP is no source (R33, R327). -/
def chooseMaster (w : Work) : Work :=
  let best := bestMaster w.hw
  if best = w.hw.host.ptpUsed then w
  else
    let w1 := w.up fun h => { h with host := { h.host with ptpUsed := best } }
    match best with
    | none => loseSource .ptp w1
    | some m => modHalf m.1 (fun x => { x with ptpSync := none, ptpDelay := none }) w1

/-- PTP is lost: the master in use is forgotten, and the next best is used (R33, R327). -/
def losePtp (w : Work) : Work :=
  match w.hw.host.ptpUsed with
  | none => loseSource .ptp w
  | some m => loseSource .ptp (chooseMaster (modHalf m.1 (fun x => { x with masters := x.masters.filter (fun e => e.1 != m.2) }) w))

/-- What a port or half that has no link forgets. -/
def EthHalf.without (link : Nat) (x : EthHalf) : EthHalf := { x with
  link := link
  lldp := none
  masters := []
  ptpSync := none
  ptpDelay := none
  pausedUntil := []
  xoff := 0
  rxFill := []
  waiting := [] }

/-- The link state of a port or half without link (R321, R327, R357). -/
def linkGone (h link : Nat) (w : Work) : Work := chooseMaster (modHalf h (EthHalf.without link) w)

/-- A frame of no queue pair leaves, tagged with the port's `VLAN`, or waits while that priority is paused (R326, R355). -/
def sendEther (h kind : Nat) (payload : List Byte) (w : Work) : Work :=
  let priority := (ethPortOf w.hw (h / 2)).vlan / 2 ^ 12 % 8
  if isPaused w.hw h priority then modHalf h (fun x => { x with waiting := x.waiting ++ [(kind, payload)] }) w
  else bump 5 h 1 (emit (.ether h kind (tagOf w.hw h priority) payload) w)

/-- The frames that waited leave in order once the pause has ended (R326). -/
def pushHalf (h : Nat) (w : Work) : Work :=
  let x := halfOf w.hw h
  if isPaused w.hw h ((ethPortOf w.hw (h / 2)).vlan / 2 ^ 12 % 8) then w
  else forEach x.waiting (fun f w => sendEther h f.1 f.2 w) (modHalf h (fun x => { x with waiting := [] }) w)

end Sys2Proof.Machine
end

