-- ==== Sys2Proof/Machine/FabricOps.lean ====
section
/-! DEFINITION. Machine/FabricOps.lean: the package fabric: routes, through-routers, transfer credits, and the sending of transfers (R19 to R23, R281, R282, R559). -/
namespace Sys2Proof.Machine

/-! ## Routes (R19, R21, R23, R496) -/

/-- A through-router forwards: its domain is powered and not in reset; neither a reset nor a fence of its Spire counts (R19, R23, R496). -/
def routerUp (hw : Hw) (s : Nat) : Bool :=
  hw.power.routerOn.contains s && !domainInReset hw 7 s

/-- The route of a transfer from Spire a to Spire b: the first row of R21 that matches it. -/
def fabricRoute (hw : Hw) (a b : Nat) : FabricRoute :=
  if a = b then .inside
  else if b = (a + 1) % 4 ∨ b = (a + 3) % 4 then .ring
  else if routerUp hw ((a + 1) % 4) then .through ((a + 1) % 4)
  else if routerUp hw ((a + 3) % 4) then .through ((a + 3) % 4)
  else .viaCupola

/-- The first link that a transfer from Spire a takes on a route, by 8 x sending Spire + `INDEX` of R568; none inside a Spire. -/
def firstLink (a b : Nat) : FabricRoute → Option Nat
  | .inside => none
  | .ring => some (8 * a + if b = (a + 1) % 4 then 1 else 2)
  | .through r => some (8 * a + if r = (a + 1) % 4 then 1 else 2)
  | .viaCupola => some (8 * a)

/-! ## Transfer credits and through-router buffers (R281, R559) -/

/-- 256 B transfer units of a message (R559). -/
def fabricUnits (m : FabricMsg) : Nat := max 1 (ceilDiv m.bytes 256)

/-- Credits that the sender of a link and direction holds. -/
def heldCredits (hw : Hw) (link : Nat) : Nat := tabGet 1024 hw.links.fabricHeld link

/-- Change the credits that a sender holds. -/
def modCredits (link : Nat) (f : Nat → Nat) (w : Work) : Work :=
  w.up fun h => { h with links := { h.links with fabricHeld := tabMod 1024 h.links.fabricHeld link f } }

/-- The first link of a copy of a message. -/
def copyLink (m : FabricMsg) (c : FabricCopy) : Option Nat := firstLink (spireOf m.srcCore) (spireOf m.destCore) c.route

/-- A copy is on its way and holds credits. -/
def FabricCopy.flying (c : FabricCopy) : Bool := c.gone && !c.severed

/-- Bytes in transit through a through-router from one ring neighbour to the other; a transfer never fills more than the buffer of
64 KiB through which it streams (R281). -/
def transitBytes (hw : Hw) (router from_ : Nat) : Nat :=
  hw.links.fabric.foldl (fun n m =>
    if spireOf m.srcCore = from_ ∧ m.copies.any (fun c => c.flying && c.route == .through router)
    then n + 256 * min 256 (fabricUnits m) else n) 0

/-- A copy of a message may leave its port: its credits are free, and so is room in the through-router it crosses. -/
def copyMayGo (hw : Hw) (m : FabricMsg) (c : FabricCopy) : Bool :=
  (match copyLink m c with
    | none => true
    | some l => decide (fabricUnits m ≤ heldCredits hw l))
  && (match c.route with
    | .through r => decide (transitBytes hw r (spireOf m.srcCore) + 256 * min 256 (fabricUnits m) ≤ 0x10000)
    | _ => true)

/-- A message of the pair that is older than message i holds it back: it has not been delivered, or it was sent again and is not
acknowledged (R282). -/
def heldByPair (hw : Hw) (i : Nat) (m : FabricMsg) : Bool :=
  (hw.links.fabric.take i).any (fun x =>
    x.srcCore == m.srcCore && x.destCore == m.destCore && (!x.delivered || (0 < x.resends && !x.acked)))

/-- A copy that has not left its port yet. -/
def waitingCopy : FabricCopy := { route := .inside, gone := false, severed := false }

/-- Change one message of the fabric. -/
def setFabric (i : Nat) (m : FabricMsg) (w : Work) : Work :=
  w.up fun h => { h with links := { h.links with fabric := h.links.fabric.set i m } }

/-- The first copy of message i that waits leaves its port, where it may, by the route R21 gives it now: it takes its credits, and its
5 us begin. -/
def goFabric (i : Nat) (w : Work) : Work :=
  match w.hw.links.fabric[i]? with
  | none => w
  | some m =>
    match m.copies.find? (fun c => !c.gone) with
    | none => w
    | some c =>
      let sent : FabricCopy := { c with route := fabricRoute w.hw (spireOf m.srcCore) (spireOf m.destCore), gone := true }
      if copyMayGo w.hw m sent then
        let w1 := match copyLink m sent with
          | some l => modCredits l (fun n => n - fabricUnits m) w
          | none => w
        setFabric i { m with copies := updateFirst (fun x => !x.gone) (fun _ => sent) m.copies, sentAt := w.hw.time.now } w1
      else w

/-- Every copy that waits leaves where it may, oldest message first; at the end of every command. -/
def goAll (w : Work) : Work := forEach (List.range w.hw.links.fabric.length) goFabric w

/-- A copy is received, or discarded as a duplicate: its credits are freed and go back to its sender (R559). -/
def freeCopy (m : FabricMsg) (c : FabricCopy) (w : Work) : Work :=
  if c.flying then
    match copyLink m c with
    | some l => modCredits l (fun n => n + fabricUnits m) w
    | none => w
  else w

/-- A message goes on the package fabric by the route of R21 (R90, R282). -/
def sendFabric (m : FabricMsg) (w : Work) : Work :=
  let key := 256 * m.srcCore + m.destCore
  let n := tabGet 0 w.hw.links.fabricSeq key
  let w1 := w.up fun h => { h with links := { h.links with
    fabricSeq := tabSet 0 h.links.fabricSeq key (n + 1)
    fabric := h.links.fabric ++ [{ m with seq := n, sentAt := h.time.now, copies := [waitingCopy] }] } }
  goFabric w.hw.links.fabric.length w1

/-- Messages that satisfy a test leave the fabric; their credits go back (R497). -/
def dropFabric (p : FabricMsg → Bool) (w : Work) : Work :=
  let w1 := forEach (w.hw.links.fabric.filter p) (fun m w => forEach m.copies (freeCopy m) w) w
  w1.up fun h => { h with links := { h.links with fabric := h.links.fabric.filter (fun m => !p m) } }

/-- A through-router loses power or is reset: the acknowledgements of the transfers in transit through it do not come back, and
the credits of its links are whole again when both ends are back (R282, R496, R567; log 58). -/
def severRouter (router : Nat) (w : Work) : Work :=
  let cut (c : FabricCopy) : Bool := c.flying && c.route == .through router
  let w1 := forEach w.hw.links.fabric (fun m w => forEach (m.copies.filter cut) (freeCopy m) w) w
  w1.up fun h => { h with links := { h.links with
    fabric := h.links.fabric.map (fun m => { m with copies := m.copies.map (fun c => if cut c then { c with severed := true } else c) }) } }

/-- Message i is sent again by the route that R21 now gives (R282). -/
def resendFabric (i : Nat) (m : FabricMsg) (w : Work) : Work :=
  goFabric i (setFabric i { m with resends := m.resends + 1, copies := m.copies ++ [waitingCopy], sentAt := w.hw.time.now } w)

/-- The balance of R559 for a link and direction: credits held, and units sent and not yet received; a receiving port frees a
unit and its credit goes back with the transfer's arrival, so that none is occupied or on its way back between two commands. -/
def fabricBalance (hw : Hw) (link : Nat) : Nat :=
  hw.links.fabric.foldl (fun n m =>
    n + fabricUnits m * (m.copies.filter (fun c => c.flying && copyLink m c == some link)).length) (heldCredits hw link)

end Sys2Proof.Machine
end

