-- ==== Sys2Proof/Machine/PortOps.lean ====
section
/-! DEFINITION. Machine/PortOps.lean: plane ports: flits, credits, arbitration, replay, acceptance, port choice, and what a port's departure from `ACTIVE` does (R256 to R278). -/
namespace Sys2Proof.Machine

/-- The VC of a flit type (R258). -/
def vcOfType (type : Nat) : Option Nat :=
  match type with
  | 0 => some 0 | 1 => some 0 | 2 => some 0 | 3 => some 4 | 4 => some 4 | 5 => some 4
  | 6 => some 2 | 7 => some 3 | 8 => some 2 | 9 => some 1 | 10 => some 5 | 11 => some 6
  | _ => none

/-- Receive buffers the module advertises, VC1 to VC7 (R265). -/
def receiveBuffers : List Nat := [64, 640, 640, 512, 128, 64, 0]

/-- Weights of VC1 to VC6 of a port (R261, R263). -/
def weightsOf (hw : Hw) (p : Nat) : List Nat :=
  let ws := tabGet [] hw.links.weights p
  if ws.isEmpty then [8, 64, 64, 48, 32, 8] else ws

/-- The `CREDIT` record of a port (R264). -/
def creditRecord (port : Port) : List Byte :=
  leBytes 1 1 ++ (List.range 7).flatMap (fun i => leBytes 2 (tabGet 0 port.freed (i + 1))) ++ zeros 1

/-- The 16 B header of a flit and its payload, zero beyond `LEN`, with the CRC in place (R256, R257, R259). -/
def flitBytes (seq ack : Option Nat) (vc type : Nat) (first last : Bool) (dest src : Nat) (payload : List Byte) : List Byte :=
  let head := leBytes 1 (vc + 8 * type) ++ leBytes 1 payload.length
    ++ leBytes 2 (seq.getD 0 + 2 ^ 12 * b2n first + 2 ^ 13 * b2n last + 2 ^ 14 * b2n ack.isSome)
    ++ leBytes 2 (ack.getD 0) ++ leBytes 3 dest ++ leBytes 3 src
  let body := payload ++ zeros (240 - payload.length)
  head ++ leBytes 4 (crc32 (head ++ body)) ++ body

/-- A VC0 flit leaves a port: it has no `SEQ` and is not kept for replay (R259). -/
def emitCtrl (p type dest src : Nat) (payload : List Byte) (w : Work) : Work :=
  let port := portOf w.hw p
  let ack := if port.state = .active then some port.expected else none
  emit (.flit p (flitBytes none ack 0 type true true dest src payload)) w

/-- A `LINK_CTRL` flit with a `CREDIT` record and further records (R262, R264). -/
def emitLinkCtrl (p : Nat) (records : List Byte) (w : Work) : Work :=
  emitCtrl p 0 0 0 (creditRecord (portOf w.hw p) ++ records) w

/-- A slot of VC0: the oldest waiting `TIME` flit after a slot that carried `LINK_CTRL`; otherwise a `LINK_CTRL` flit with a `CREDIT` record
and every pending record (R262, R264). -/
def ctrlSlot (p : Nat) (w : Work) : Work :=
  let port := portOf w.hw p
  match port.ctrlQ with
  | f :: rest =>
    if port.ctrlLast then
      modPort p (fun q => { q with ctrlQ := rest, ctrlLast := false, slots := 0 }) (emitCtrl p f.type f.dest f.src f.payload w)
    else modPort p (fun q => { q with ctrlRecords := [], creditDue := false, ctrlLast := true, slots := 0 }) (emitLinkCtrl p port.ctrlRecords w)
  | [] => modPort p (fun q => { q with ctrlRecords := [], creditDue := false, ctrlLast := true, slots := 0 }) (emitLinkCtrl p port.ctrlRecords w)

/-- A port has something for VC0 beside the idle flit that repeats the last one. -/
def ctrlWaits (port : Port) : Bool :=
  port.state == .active && (port.creditDue || !port.ctrlQ.isEmpty || !port.ctrlRecords.isEmpty)

/-- Slots without an eligible flit go to VC0 until nothing waits there; fuel bounds them. -/
def idleSlots (p : Nat) : Nat → Work → Work
  | 0, w => w
  | n + 1, w => if ctrlWaits (portOf w.hw p) then idleSlots p n (ctrlSlot p w) else w

/-- A flit takes a slot of VC1 to VC6: after 256 of them VC0 takes its own slot first (R262). -/
def takeSlot (p : Nat) (w : Work) : Work :=
  modPort p (fun q => { q with slots := q.slots + 1 }) (if 256 ≤ (portOf w.hw p).slots then ctrlSlot p w else w)

/-- Credits a port holds on a VC (R264). -/
def creditsOf (port : Port) (vc : Nat) : Nat :=
  (tabGet 0 port.creditInit vc + tabGet 0 port.freedSeen vc + 2 ^ 16 - tabGet 0 port.sent vc % 2 ^ 16) % 2 ^ 16

/-- Units per tick that a plane link carries in one direction (R50). -/
def linkCapacity (hw : Hw) : Nat := (period hw - 4000) * 400 / 256

/-- Units per tick the admitted plans declare on a port and direction (R46). -/
def declaredUnits (hw : Hw) (p dir : Nat) : Nat :=
  hw.plans.plans.foldl (fun n pl => pl.links.foldl (fun m l => if l.1 = p && l.2.1 = dir then m + l.2.2 else m) n) 0

/-- The limit on VC1 and VC6 together in a direction of a port: the units plans leave undeclared (R263). -/
def lowLimit (hw : Hw) (p dir : Nat) : Nat := linkCapacity hw - declaredUnits hw p dir

/-- The flits waiting on a VC of a port. -/
def queueOf (port : Port) (vc : Nat) : List Flit := tabGet [] port.queues vc

/-- The head of a VC may be sent now (R259, R263, R264). -/
def eligible (hw : Hw) (p vc : Nat) : Bool :=
  let port := portOf hw p
  port.state == .active && !(queueOf port vc).isEmpty && 0 < creditsOf port vc && port.replay.length < 512
    && (!(vc == 1 || vc == 6) || port.lowUnits < lowLimit hw p 0)

/-- The flit that is the last of a message of a module core leaves the module: R270 counts from here. -/
def markLeft (f : Flit) (w : Work) : Work :=
  match f.owner with
  | some (core, id) =>
    if f.last then
      modCore core (fun c => { c with msgs := c.msgs.map (fun m => if m.id == id then { m with leftAt := w.hw.time.now } else m) }) w
    else w
  | none => w

/-- The head flit of a VC is sent for the first time: numbered, kept for replay and counted (R259, R264, R280). -/
def sendHead (p vc : Nat) (w0 : Work) : Work :=
  let w := takeSlot p w0
  let port := portOf w.hw p
  match queueOf port vc with
  | [] => w
  | f :: rest =>
    let now := w.hw.time.now
    let w1 := modPort p (fun q => { q with
      queues := tabSet [] q.queues vc rest
      replay := q.replay ++ [(q.seqNext, 1, f)]
      seqNext := (q.seqNext + 1) % 4096
      ackAt := if q.replay.isEmpty then now else q.ackAt
      replayAt := if q.replay.isEmpty then now else q.replayAt
      sent := tabBump q.sent vc 1
      unitsOut := q.unitsOut + 1
      lowUnits := if vc == 1 || vc == 6 then q.lowUnits + 1 else q.lowUnits }) w
    markLeft f (bump 3 p 1 (emit (.flit p (flitBytes (some port.seqNext) (some port.expected) vc f.type f.first f.last f.dest f.src f.payload)) w1))

/-- A VC sends up to its weight (R262). -/
def pumpVc (p vc : Nat) : Nat → Work → Work
  | 0, w => w
  | n + 1, w => if eligible w.hw p vc then pumpVc p vc n (sendHead p vc w) else w

/-- One visit of the arbiter to VC1 to VC6 (R262). -/
def pumpRound (p : Nat) (w : Work) : Work :=
  (numbered 1 (weightsOf w.hw p)).foldl (fun acc v => pumpVc p v.1 v.2 acc) w

/-- Flits waiting on a port. -/
def waiting (hw : Hw) (p : Nat) : Nat := (portOf hw p).queues.foldl (fun n q => n + q.2.length) 0

/-- The arbiter's visits until nothing more is eligible; fuel bounds them. -/
def pumpGo (p : Nat) : Nat → Work → Work
  | 0, w => w
  | n + 1, w =>
    let w' := pumpRound p w
    if waiting w'.hw p < waiting w.hw p then pumpGo p n w' else w

/-- Every flit of a port that may be sent is sent, and then what waits on VC0 (R262). -/
def pump (p : Nat) (w : Work) : Work :=
  let w1 := pumpGo p (waiting w.hw p) w
  idleSlots p (2 * (portOf w1.hw p).ctrlQ.length + 1) w1

/-- Every plane port sends what it may. -/
def pumpAll (w : Work) : Work := (List.range 6).foldl (fun acc p => pump p acc) w

/-- A flit joins the queue of a port and VC. -/
def enqueue (p : Nat) (f : Flit) (w : Work) : Work :=
  modPort p (fun q => { q with queues := tabSet [] q.queues f.vc (queueOf q f.vc ++ [f]) }) w

/-- The category of R563 of a flit type: messages, or mirror records. -/
def categoryOf (f : Flit) : Option Nat :=
  if f.type = 3 || f.type = 4 || f.type = 5 then some 0
  else if f.type = 10 then some 2
  else none

/-- The records of an all-to-all block whose last flit this is (R296, R563). -/
def blockRecords (f : Flit) : Nat := if f.type = 7 && f.last && field f.payload 6 1 == 4 then field f.payload 14 2 else 0

/-- An acknowledgement of every buffered flit before s (R259, R260). -/
def acknowledge (p s : Nat) (w : Work) : Work :=
  let port := portOf w.hw p
  match port.replay with
  | [] => w
  | (s0, _, _) :: _ =>
    let n := (s + 4096 - s0) % 4096
    if n = 0 ∨ port.replay.length < n then w
    else
      let w1 := modPort p (fun q => { q with
        replay := q.replay.drop n
        ackAt := w.hw.time.now
        replayAt := w.hw.time.now }) w
      (port.replay.take n).foldl (fun acc e =>
        if e.2.2.last then
          match categoryOf e.2.2 with
          | some c => tallyHandedOff c acc
          | none => tally 1 (fun t => { t with handedOff := t.handedOff + blockRecords e.2.2 }) acc
        else acc) w1

/-- The buffered flits from one on are sent again, in order (R260). A `SEQ` sent nine times is not sent again: replay is exhausted. -/
def replayFrom (p s : Nat) (w : Work) : Work :=
  let port := portOf w.hw p
  match port.replay with
  | [] => w
  | (s0, _, _) :: _ =>
    let n := (s + 4096 - s0) % 4096
    let again := port.replay.drop n
    if port.replay.length ≤ n ∨ again.any (fun e => 9 ≤ e.2.1) then w
    else
      let w1 := modPort p (fun q => { q with
        replay := q.replay.take n ++ again.map (fun e => (e.1, e.2.1 + 1, e.2.2))
        replayAt := w.hw.time.now }) w
      let w2 := again.foldl (fun acc e =>
        emit (.flit p (flitBytes (some e.1) (some port.expected) e.2.2.vc e.2.2.type e.2.2.first e.2.2.last e.2.2.dest e.2.2.src
          e.2.2.payload)) (takeSlot p acc)) w1
      bump 3 (18 + p) again.length w2

/-- A `NAK` record naming the expected `SEQ`, once per gap, for the next `LINK_CTRL` flit (R259, R264). -/
def sendNak (p : Nat) (w : Work) : Work :=
  modPort p (fun q => if q.nakSent then q else { q with
    nakSent := true
    ctrlRecords := q.ctrlRecords ++ leBytes 1 2 ++ leBytes 2 q.expected ++ zeros 13 }) w

/-- The link layer takes a numbered flit into a receive buffer, or discards it, out of sequence, with a `NAK` (R259, R264). The flag says
that it was accepted. -/
def linkTake (rx : Rx) (vc : Nat) (w : Work) : Work × Bool :=
  let p := rx.port.val
  let port := portOf w.hw p
  if port.state ≠ .active then (w, false)
  else
    let w1 := if rx.ackValid then acknowledge p rx.ack.toNat w else w
    if rx.seq.toNat ≠ port.expected then (sendNak p w1, false)
    else if ((receiveBuffers[vc - 1]?).getD 0) ≤ tabGet 0 port.stored vc then
      -- every receive buffer of the VC is occupied (R558)
      (sendNak p (w1.up fun h => { h with conserve := { h.conserve with overruns := h.conserve.overruns ++ [8 * p + vc] } }), false)
    else
      (bump 3 (6 + p) 1 (modPort p (fun q => { q with
        expected := (q.expected + 1) % 4096
        nakSent := false
        received := tabBump q.received vc 1
        stored := tabBump q.stored vc 1
        unitsIn := q.unitsIn + 1 }) w1), true)

/-- The buffer of an accepted flit is freed, and the credit goes back with the next `LINK_CTRL` flit (R264). -/
def freeBuffer (p vc : Nat) (w : Work) : Work :=
  modPort p (fun q => { q with freed := tabBump q.freed vc 1, stored := tabMod 0 q.stored vc (fun n => n - 1), creditDue := true }) w

/-- What an accepted flit of a VC without a limit does, its buffer freed. -/
def acceptFlit (rx : Rx) (vc : Nat) (act : Work → Work) (w : Work) : Work :=
  let r := linkTake rx vc w
  if r.2 then act (freeBuffer rx.port.val vc r.1) else r.1

/-- A flit of VC1 or VC6: over the limit of its port's receive direction it stays in its buffer until the next tick (R263). -/
def acceptLow (rx : Rx) (vc : Nat) (payload : List Byte) (act : Work → Work) (w : Work) : Work :=
  let p := rx.port.val
  let r := linkTake rx vc w
  if !r.2 then r.1
  else if (portOf r.1.hw p).lowIn < lowLimit r.1.hw p 1 then
    act (modPort p (fun q => { q with lowIn := q.lowIn + 1 }) (freeBuffer p vc r.1))
  else modPort p (fun q => { q with lowHeld := q.lowHeld ++ [(vc, rx, payload)] }) r.1

/-! ## Choice of port (R268) -/

/-- The port a pair takes, walking up from its own: some port, or none while no port is `ACTIVE`; the flag says that it is held there. -/
def walkPort (hw : Hw) : Nat → Nat → Option (Nat × Bool)
  | 0, _ => none
  | n + 1, p =>
    let port := portOf hw (p % 6)
    if port.holdUntil.isSome then some (p % 6, true)
    else if port.state = .active then some (p % 6, false)
    else walkPort hw n (p + 1)

/-- The port of a pair: module core c and a destination word, with logical core d and endpoint e (R268). -/
def pairPort (c dest : Nat) : Nat := (c + dest / 2 ^ 18 + dest % 256) % 6

/-- The first port a flit prefers: R268 for VC4, the given port otherwise. -/
def preferred (f : Flit) (base : Nat) : Nat := if f.vc = 4 then pairPort (f.src % 4 * 64 + f.src / 2 ^ 18) f.dest else base % 6

/-- The pair of a module core and a destination word on another module is held at a port, so that the core's queue waits (R97, R268). -/
def pairHeld (hw : Hw) (core dest : Nat) : Bool :=
  !isOwnEndpoint hw (dest % 2 ^ 18) && dest % 2 ^ 18 / 256 == endpointOf hw 0 / 256
    && ((walkPort hw 6 (pairPort core dest)).map (fun x => x.2)).getD false

/-- A flit of a message that no port can carry: counted in `NO_ROUTE`, its sender completed as refused (R269). -/
def noRoute (f : Flit) (w : Work) : Work :=
  if !f.last then w
  else
    let w1 := match categoryOf f with
      | some c => tallyDropped c w
      | none => w
    let w2 := if f.vc = 4 then bump 3 145 1 w1 else w1
    match f.owner with
    | some (core, id) => completeMsg core id true w2
    | none => w2

/-- A flit takes its port: queued there, held there, or without a route. -/
def routeFlit (base : Nat) (f : Flit) (w : Work) : Work :=
  match walkPort w.hw 6 (preferred f base) with
  | none => noRoute f w
  | some (p, false) => enqueue p f w
  | some (p, true) => modPort p (fun q => { q with heldQ := q.heldQ ++ [f] }) w

/-- The 16 B message header (R266). -/
def msgHeader (bytes tag frameTag flags count seq : Nat) : List Byte :=
  leBytes 4 bytes ++ leBytes 1 tag ++ leBytes 1 frameTag ++ leBytes 1 flags ++ zeros 1 ++ leBytes 2 count ++ zeros 2 ++ leBytes 4 seq

/-- The flits of a message of up to 240 B each (R266, R267). -/
def flitsOf (vc type dest src : Nat) (body : List Byte) (owner : Option (Nat × Nat)) : List Flit :=
  let parts := chunksOf 240 (body.length / 240 + 1) body
  (numbered 0 parts).map (fun c =>
    { vc := vc
      type := type
      first := c.1 == 0
      last := c.1 + 1 == parts.length
      dest := dest
      src := src
      payload := c.2
      owner := owner : Flit })

/-- Source word of a module core: endpoint of its Spire and logical core. -/
def coreWord (hw : Hw) (core : Nat) : Nat := endpointOf hw (spireOf core) + core % 64 * 2 ^ 18

/-- The module core that a destination word of this module names (R90, R275). -/
def coreOfWord (word : Nat) : Nat := word % 4 * 64 + word / 2 ^ 18 % 64

/-- The next `MSG_SEQ` of a core, taken (R266). -/
def nextMsgSeq (core : Nat) (w : Work) : Work × Nat :=
  let n := tabGet 0 w.hw.links.msgSeq core
  (w.up fun h => { h with links := { h.links with msgSeq := tabSet 0 h.links.msgSeq core ((n + 1) % 2 ^ 32) } }, n)

/-- A message goes on the planes, or is resolved under R269. -/
def sendPlane (type core dest : Nat) (body : List Byte) (owner : Option (Nat × Nat)) (w : Work) : Work :=
  if dest % 2 ^ 18 / 256 != endpointOf w.hw 0 / 256 then
    let w1 := tallyDropped 0 (bump 3 144 1 w)
    match owner with
    | some (c, id) => completeMsg c id true w1
    | none => w1
  else (flitsOf 4 type dest (coreWord w.hw core) body owner).foldl (fun acc f => routeFlit 0 f acc) w

/-- An answer to a `SEND` with `ACK`, from the answering core to the sender's word (R95, R268). -/
def sendAnswer (core dest seq : Nat) (accepted : Bool) (w : Work) : Work :=
  let frameTag := (coreOf w.hw core).frame % 256
  let w1 := tallyIssued 0 w
  if isOwnEndpoint w.hw (dest % 2 ^ 18) then
    sendFabric { seq := 0, srcCore := core, destCore := coreOfWord dest, type := 5, bytes := 0, tag := 0, frameTag := frameTag,
                 ack := false, accepted := accepted, count := 0, msgSeq := seq, data := [], sentAt := 0, resends := 0,
                 delivered := false, bundle := 0xFFFF } w1
  else sendPlane 5 core dest (msgHeader 0 0 frameTag (2 * b2n accepted) 0 seq) none w1

/-! ## Leaving `ACTIVE` (R268, R269, R278) -/

/-- The messages a port drops when it leaves `ACTIVE`: those that have begun on it and have an unacknowledged flit (R269).
Flits of one message share their owner; a message without an owner is a single flit. -/
def lostOwners (port : Port) : List (Nat × Nat) :=
  let q := queueOf port 4
  let starts := q.filterMap (fun f => if f.first then f.owner else none)
  let cut := q.filterMap (fun f => if (f.owner.map starts.contains).getD true then none else f.owner)
  (port.replay.filterMap (fun e => if e.2.2.vc = 4 then e.2.2.owner else none) ++ cut).eraseDups

/-- Single-flit messages of VC4 without an owner in the replay buffer: answers. -/
def lostAnswers (port : Port) : Nat := (port.replay.filter (fun e => e.2.2.vc = 4 && e.2.2.owner.isNone)).length

/-- Mirror records with an unacknowledged last flit. -/
def lostMirror (port : Port) : Nat := (port.replay.filter (fun e => e.2.2.vc = 5 && e.2.2.last)).length

/-- The port leaves `ACTIVE` for `DOWN` (R278); the next state is given by the caller. Collectives follow R469 and R307 elsewhere. -/
def portDown (p cause : Nat) (next : PortState) (w : Work) : Work :=
  let port := portOf w.hw p
  if port.state ≠ .active then
    modPort p (fun q => { q with state := next, downCause := cause }) w
  else
    let w1 := if cause = 2 then w else emitLinkCtrl p (leBytes 1 3 ++ leBytes 1 cause ++ zeros 14) w
    let owners := lostOwners port
    let cutParts := (port.parts.filter (fun q => q.buffer.isSome)).length
    let dropped := owners.length + lostAnswers port + cutParts
    let now := w.hw.time.now
    let survivors := [4, 1, 5, 6].flatMap (fun vc =>
      (queueOf port vc).filter (fun f => match f.owner with
        | some o => vc != 4 || !owners.contains o
        | none => true))
    let w2 := bump 3 146 dropped (bump 3 (138 + p) 1 w1)
    let w3 := Nat.repeat (tallyDropped 0) dropped w2
    let w3 := Nat.repeat (tallyDropped 2) (lostMirror port) w3
    -- a receive consumed by a message that never ends returns to the head of its list (log 12)
    let w4 := port.parts.foldl (fun acc q => match q.buffer with
      | some (_, a) => modCore q.core (fun c => { c with armed := a :: c.armed }) acc
      | none => acc) w3
    let w5 := owners.foldl (fun acc o => completeMsg o.1 o.2 true acc) w4
    let w6 := modPort p (fun q => { q with
      state := next
      downCause := cause
      replay := []
      queues := []
      heldQ := q.heldQ ++ survivors
      holdUntil := some (now + 10000)
      seqNext := 0
      expected := 0
      nakSent := false
      creditInit := []
      freedSeen := []
      sent := []
      received := []
      stored := []
      freed := []
      slots := 0
      ctrlLast := false
      ctrlQ := []
      ctrlRecords := []
      creditDue := false
      lowHeld := []
      parts := []
      initGot := false
      initSeen := false }) w5
    let w7 := publishUnit (17 + p) (if next = .disabled then 5 else 0) cause w6
    when (cause == 1 || cause == 2 || cause == 3 || cause == 8) (raise 16 6 p 0 cause) w7

/-- The hold on a port ends: its held flits take the ports of their pairs (R268). -/
def endHold (p : Nat) (w : Work) : Work :=
  let held := (portOf w.hw p).heldQ
  held.foldl (fun acc f => routeFlit p f acc)
    (modPort p (fun q => { q with heldQ := [], holdUntil := none }) w)

/-- The state a port goes to from `DOWN`: `DETECT` while it is enabled and Cupola is powered (R271). -/
def afterDown (hw : Hw) (p : Nat) : PortState :=
  if hw.power.cupola && (portOf hw p).enabled then .detect else .down

end Sys2Proof.Machine
end

