-- ==== Sys2Proof/Machine/CoreMove.lean ====
section
/-! DEFINITION. Machine/CoreMove.lean: the move/message slot, the move engine and the message unit of a core (R86, R90 to R100, R328, R329, R593). -/
namespace Sys2Proof.Machine

/-- Bits of `IMM` an instruction leaves unused must be zero (R78). -/
def immUnused (sl : Slot) (used : Nat) : List (Nat × Nat) :=
  if sl.imm.toNat < 2 ^ used then [] else [(illegalOperand, 0)]

/-- `ILLEGAL_OPERAND` unless a condition holds. -/
def operandUnless (c : Bool) : List (Nat × Nat) := if c then [] else [(illegalOperand, 0)]

/-- The values of the registers that a slot of this unit names. -/
def regD (w : Work) (sl : Slot) : Nat := sreg (coreOf w.hw sl.core.toNat).r sl.d.toNat
/-- Register A. -/
def regA (w : Work) (sl : Slot) : Nat := sreg (coreOf w.hw sl.core.toNat).r sl.a.toNat
/-- Register B. -/
def regB (w : Work) (sl : Slot) : Nat := sreg (coreOf w.hw sl.core.toNat).r sl.b.toNat

/-- A slot with its faults, the fullness of its queue, which holds the bundle first (R80, R97), and what it does. -/
def queueSlot (faults : List (Nat × Nat)) (full : Bool) (effect : Work → Work) : SlotOut :=
  { faults := faults, hold := if full then .queue else .none, effect := effect }

/-- A length of a move or message is in range (R105). -/
def lengthOk (n top : Nat) : Bool := decide (16 ≤ n) && decide (n ≤ top)

/-! ## Moves -/

/-- A move joins the queue of 32 (R97). -/
def queueMove (core : Nat) (op : MoveOp) (faults : List (Nat × Nat)) (w : Work) : SlotOut :=
  queueSlot faults (32 ≤ (coreOf w.hw core).moveQ.length) (modCore core (fun c => { c with moveQ := c.moveQ ++ [op] }))

/-- `MOV`. Where the source and the destination raise the same code, the record names the destination word (log 29). -/
def slotMov (w : Work) (sl : Slot) : SlotOut :=
  let c := sl.core.toNat
  let d := regD w sl
  let a := regA w sl
  let n := regB w sl
  let op : MoveOp := { kind := .mov, src := a, dst := d, len := n, wc := sl.imm.toNat % 32, bundle := (coreOf w.hw c).r.pc }
  queueMove c op (immUnused sl 5 ++ operandUnless (lengthOk n (2 ^ 24)) ++ withAddress d (addrFaults w.hw c d n)
    ++ withAddress a (addrFaults w.hw c a n)) w

/-- `MFILL`: A is the pattern. -/
def slotMfill (w : Work) (sl : Slot) : SlotOut :=
  let c := sl.core.toNat
  let d := regD w sl
  let n := regB w sl
  let op : MoveOp := { kind := .mfill, src := regA w sl, dst := d, len := n, wc := sl.imm.toNat % 32, bundle := (coreOf w.hw c).r.pc }
  queueMove c op (immUnused sl 5 ++ operandUnless (lengthOk n (2 ^ 24)) ++ withAddress d (addrFaults w.hw c d n)) w

/-- `MOV2D`: the shape's place and the form of the address words are checked at issue (R593 step 1). -/
def slotMov2d (w : Work) (sl : Slot) : SlotOut :=
  let c := sl.core.toNat
  let d := regD w sl
  let a := regA w sl
  let b := regB w sl
  let op : MoveOp := { kind := .mov2d, src := a, dst := d, len := b, wc := sl.imm.toNat % 32, bundle := (coreOf w.hw c).r.pc }
  let shape := withAddress b ((if b % 16 = 0 then [] else [alignmentFault]) ++ (if b + 32 ≤ scratchBytes then [] else [scratchBounds]))
  queueMove c op (immUnused sl 5 ++ shape ++ (if wordClean a then [] else [(addressInvalid, a)])
    ++ (if wordClean d then [] else [(addressInvalid, d)])) w

/-- The address a fault record names for a byte of an operand: its core offset in the core's own scratchpad, else its word (R108). -/
def faultAddress (word delta : Nat) : Nat := if spaceOf word = 1 then word % 2 ^ 60 + delta else word + delta

/-- An uncorrectable read by a queued operation: counted where it lies, and a core fault of the operation (R105, R106). -/
def moveUncorrectable (core unit bundle word key bad : Nat) (w : Work) : Work :=
  coreFaultAt core uncorrectableRead unit bundle (faultAddress word (bad - key)) true (uncorrectableAt bad w)

/-- Copy n bytes between address words; an uncorrectable read leaves what lies before its 16 B unit and faults (R106). -/
def copyRange (core bundle src dst n : Nat) (w : Work) : Except Work Work :=
  let sk := addrKey core src
  let dk := addrKey core dst
  if hitsFence w.hw core src then .error (coreFaultAt core uncorrectableRead 3 bundle src true w)
  else if hitsFence w.hw core dst then .error (coreFaultAt core uncorrectableRead 3 bundle dst true w)
  else if w.good sk n then .ok (w.write dk (w.read sk n))
  else
    let bad := w.firstBad sk n
    let keep := (bad - sk) / 16 * 16
    .error (moveUncorrectable core 3 bundle src sk bad (w.write dk (w.read sk keep)))

/-- The rows of a strided copy in order. -/
def copyRows (core bundle src dst n ss ds : Nat) : List Nat → Work → Except Work Work
  | [], w => .ok w
  | r :: rs, w =>
    match copyRange core bundle (src + r * ss) (dst + r * ds) n w with
    | .error e => .error e
    | .ok w' => copyRows core bundle src dst n ss ds rs w'

/-- The first fault of the rows of one side of a `MOV2D` (R593 step 3). -/
def rowsFault (hw : Hw) (core word n stride : Nat) : List Nat → Option (Nat × Nat)
  | [] => none
  | r :: rs =>
    match least (rangeCodes hw core word (r * stride) n) with
    | some c => some (c, word + r * stride)
    | none => rowsFault hw core word n stride rs

/-- A move or fill carried out whole, or the fault that stops it (R86, R106, R593). -/
def doMove (core : Nat) (op : MoveOp) (w : Work) : Except Work Work :=
  match op.kind with
  | .mov => copyRange core op.bundle op.src op.dst op.len w
  | .mfill =>
    if hitsFence w.hw core op.dst then .error (coreFaultAt core uncorrectableRead 3 op.bundle op.dst true w)
    else .ok (w.write (addrKey core op.dst) (((List.replicate (op.len / 8 + 1) (leBytes 8 op.src)).flatten).take op.len))
  | .mov2d =>
    let k := scratchKey core op.len
    if !w.good k 32 then .error (coreFault core uncorrectableRead 3 op.bundle op.len true w)
    else
      let sh := w.read k 32
      let rows := field sh 0 4
      let rb := field sh 4 4
      let ss := field sh 8 4
      let ds := field sh 12 4
      if rows = 0 ∨ rb < 16 ∨ 2 ^ 24 < rb ∨ rb % 16 ≠ 0 ∨ !zeroAt sh 16 16 then
        .error (coreFault core descriptorInvalid 3 op.bundle op.len true w)
      else match rowsFault w.hw core op.src rb ss (List.range rows) with
        | some (c, a) => .error (coreFault core c 3 op.bundle a true w)
        | none => match rowsFault w.hw core op.dst rb ds (List.range rows) with
          | some (c, a) => .error (coreFault core c 3 op.bundle a true w)
          | none => copyRows core op.bundle op.src op.dst rb ss ds (List.range rows) w

/-- Move i of the queue writes its last byte and raises its counter (R87). -/
def completeMove (core i : Nat) (w : Work) : Work :=
  match (coreOf w.hw core).moveQ[i]? with
  | none => w
  | some op =>
    let w1 := modCore core (fun c => { c with moveQ := c.moveQ.eraseIdx i }) w
    match doMove core op w1 with
    | .ok w2 => raiseWc core op.wc 1 op.bundle 3 w2
    | .error w2 => w2

/-! ## Messages -/

/-- An operation joins the message unit's queue of 64 (R97). -/
def pushMsg (core : Nat) (op : MsgOp) (w : Work) : Work :=
  modCore core (fun c => { c with msgs := c.msgs ++ [{ op with id := c.nextId, frameTag := c.frame % 256 }], nextId := c.nextId + 1 }) w

/-- The message unit's queue of a core is full. -/
def msgsFull (hw : Hw) (core : Nat) : Bool := 64 ≤ (coreOf hw core).msgs.length

/-- `SEND` (R86, R90). -/
def slotSend (w : Work) (sl : Slot) : SlotOut :=
  let c := sl.core.toNat
  let d := regD w sl
  let a := regA w sl
  let n := regB w sl
  let op : MsgOp := {
    id := 0
    kind := .send
    src := a % 2 ^ 60
    len := n
    endpoint := d % 2 ^ 18
    core := bits d 23 18
    tag := bits d 31 24
    count := 0
    ack := bit sl.imm.toNat 5
    frameTag := 0
    wc := sl.imm.toNat % 32
    bundle := (coreOf w.hw c).r.pc
    seq := 0
    leftAt := 0
    left := false }
  queueSlot (immUnused sl 6 ++ operandUnless (lengthOk n 262144 && d < 2 ^ 32) ++ withAddress a (stagingFaults w.hw c a n))
    (msgsFull w.hw c) (pushMsg c op)

/-- `SIGNAL` (R86, R90). -/
def slotSignal (w : Work) (sl : Slot) : SlotOut :=
  let c := sl.core.toNat
  let d := regD w sl
  let n := regA w sl % 65536
  let op : MsgOp := {
    id := 0
    kind := .signal
    src := 0
    len := 0
    endpoint := d % 2 ^ 18
    core := bits d 23 18
    tag := bits d 28 24
    count := n
    ack := false
    frameTag := 0
    wc := sl.imm.toNat % 32
    bundle := (coreOf w.hw c).r.pc
    seq := 0
    leftAt := 0
    left := false }
  queueSlot (immUnused sl 5 ++ operandUnless (n != 0 && d < 2 ^ 29)) (msgsFull w.hw c) (pushMsg c op)

/-- `RECV`: arms a receive; a bundle waits while 256 are armed (R94). -/
def slotRecv (w : Work) (sl : Slot) : SlotOut :=
  let c := sl.core.toNat
  let a := regA w sl
  let n := regB w sl
  let tag := regD w sl % 256
  let wc := sl.imm.toNat % 32
  let pc := (coreOf w.hw c).r.pc
  queueSlot (immUnused sl 5 ++ withAddress a (stagingFaults w.hw c a n)) (256 ≤ (coreOf w.hw c).armed.length)
    (modCore c (fun s => { s with
      armed := s.armed ++ [(⟨s.nextId, tag, a % 2 ^ 60, n, wc, pc⟩ : Armed)]
      nextId := s.nextId + 1 }))

/-- A message without acknowledgement of a `SEND` that has the oldest place among those to its destination leaves next (R91). -/
def isOldest (c : CoreSt) (op : MsgOp) : Bool :=
  match c.msgs.find? (fun m => !m.left && m.endpoint == op.endpoint && m.core == op.core && (m.kind == .send || m.kind == .signal)) with
  | some m => m.id == op.id
  | none => false

/-- The last flit of operation i of the message unit leaves the Spire: the data is read, the message goes on the fabric or to
a plane port, and the counter of a message without acknowledgement rises (R86, R90, R106, R266). -/
def leaveMsg (core i : Nat) (w : Work) : Work :=
  let c := coreOf w.hw core
  match c.msgs[i]? with
  | none => w
  | some op =>
    if op.left || !(op.kind == .send || op.kind == .signal) || !isOldest c op || pairHeld w.hw core (op.endpoint + op.core * 2 ^ 18) then w
    else
      let sk := stagingKey (spireOf core) op.src
      if op.kind == .send && !w.good sk op.len then
        moveUncorrectable core 4 op.bundle (2 * 2 ^ 60 + op.src) sk (w.firstBad sk op.len) w
      else
        let data := if op.kind == .send then w.read sk op.len else []
        let (w1, seq) := nextMsgSeq core w
        let now := w.hw.time.now
        let w2 := tallyIssued 0 (modCore core (fun c => { c with
          msgs := c.msgs.map (fun m => if m.id == op.id then { m with left := true, seq := seq, leftAt := now } else m) }) w1)
        let dest := op.endpoint + op.core * 2 ^ 18
        let type := if op.kind == .send then 3 else 4
        let w3 :=
          if isOwnEndpoint w2.hw op.endpoint then
            sendFabric { seq := 0, srcCore := core, destCore := coreOfWord dest, type := type, bytes := op.len, tag := op.tag,
                         frameTag := op.frameTag, ack := op.ack, accepted := false, count := op.count, msgSeq := seq, data := data,
                         sentAt := now, resends := 0, delivered := false, bundle := op.bundle } w2
          else sendPlane type core dest
            (msgHeader op.len op.tag op.frameTag (b2n op.ack) op.count seq ++ data) (some (core, op.id)) w2
        if op.ack then w3 else completeMsg core op.id false w3

/-! ## Transfers to the host (R328, R329) -/

/-- The transfer descriptor's fields obey R328. -/
def transferOk (isWrite : Bool) (d : List Byte) : Bool :=
  let flags := field d 2 1
  let len := field d 4 4
  16 ≤ len && len ≤ 16777216 && len % 16 == 0 && (spaceOf (field d 8 8) == 0 || spaceOf (field d 8 8) == 2) && zeroAt d 0x1C 4
    && (if isWrite then zeroAt d 0 2 && flags == 0 && field d 3 1 < 4 && zeroAt d 0x18 4
        else flags < 2 && zeroAt d 3 1 && zeroAt d 0x10 8 && (bit flags 0 || zeroAt d 0x18 4))

/-- The message unit executes the descriptor of an `HWRITE` or `HSEND` (R328, R329). -/
def hostTransfer (core id : Nat) (isWrite : Bool) (word bundle : Nat) (w : Work) : Work :=
  let dk := stagingKey (spireOf core) (word % 2 ^ 60)
  if !w.good dk 32 then moveUncorrectable core 4 bundle word dk (w.firstBad dk 32) w
  else
    let d := w.read dk 32
    let len := field d 4 4
    let src := field d 8 8
    let off := field d 0x10 8
    let invalid (w : Work) : Work := coreFault core descriptorInvalid 4 bundle word true w
    match planOfCore w.hw core with
    | none => invalid w
    | some p =>
      let o := outboxOf w.hw p.channel (field d 3 1)
      let qi := if isWrite then o.qp else field d 0 2
      match findQp w.hw qi with
      | none => invalid w
      | some q =>
        let ok := transferOk isWrite d && (addrFaults w.hw core src len).isEmpty && (!isWrite || (o.enable && off + len ≤ o.length))
          && q.channel == p.channel && (q.state == 1 || q.state == 2)
        if !ok then invalid w
        else if q.state = 2 then dropHost qi core id w
        else
          let sk := addrKey core src
          if hitsFence w.hw core src then coreFaultAt core uncorrectableRead 4 bundle src true w
          else if !w.good sk len then moveUncorrectable core 4 bundle src sk (w.firstBad sk len) w
          else
            let frame := (coreOf w.hw core).frame
            let data := w.read sk len
            if isWrite then postWork qi (.core core id) 0 (o.address + off) o.rkey 0 data p.id frame w
            else postWork qi (.core core id) (if bit (field d 2 1) 0 then 2 else 1) 0 0 (field d 0x18 4) data p.id frame w

/-- `HWRITE` or `HSEND`: the descriptor is executed as it reaches the message unit. -/
def slotHost (isWrite : Bool) (w : Work) (sl : Slot) : SlotOut :=
  let c := sl.core.toNat
  let a := regA w sl
  let st := coreOf w.hw c
  let op : MsgOp := {
    id := 0
    kind := if isWrite then .hwrite else .hsend
    src := a % 2 ^ 60
    len := 0
    endpoint := 0
    core := 0
    tag := 0
    count := 0
    ack := false
    frameTag := 0
    wc := sl.imm.toNat % 32
    bundle := st.r.pc
    seq := 0
    leftAt := 0
    left := true }
  queueSlot (immUnused sl 5 ++ withAddress a (stagingFaults w.hw c a 32)) (msgsFull w.hw c)
    (fun w => hostTransfer c (coreOf w.hw c).nextId isWrite a st.r.pc (pushMsg c op w))

/-- `HWRITE`. -/
def slotHwrite (w : Work) (sl : Slot) : SlotOut := slotHost true w sl
/-- `HSEND`. -/
def slotHsend (w : Work) (sl : Slot) : SlotOut := slotHost false w sl

/-! ## Collectives, Graver descriptors and hints -/

/-- Collective operations a core has outstanding (R97). -/
def collOutstanding (hw : Hw) (core : Nat) : Nat :=
  (hw.coll.issued.filter (fun e => e.core == core)).length
    + (hw.coll.ops.flatMap (fun o => o.parts.filter (fun p => p.core == core && !p.ended))).length

/-- `COLL`: the descriptor is copied from staging as it issues (R288). -/
def slotColl (w : Work) (sl : Slot) : SlotOut :=
  let c := sl.core.toNat
  let a := regA w sl
  let pc := (coreOf w.hw c).r.pc
  let wc := sl.imm.toNat % 32
  queueSlot (immUnused sl 5 ++ withAddress a (stagingFaults w.hw c a 64)) (8 ≤ collOutstanding w.hw c)
    (fun w =>
      let k := stagingKey (spireOf c) (a % 2 ^ 60)
      if !w.good k 64 then moveUncorrectable c 4 pc a k (w.firstBad k 64) w
      else
        let desc := w.read k 64
        w.up fun h => { h with coll := { h.coll with
          issued := h.coll.issued ++ [(⟨c, desc, wc, pc, h.time.now, (coreOf h c).frame⟩ : CollIssue)] } })

/-- `GISSUE` (R86, R99, R217): engine `IMM`[3:0], counter `IMM`[8:4]. -/
def slotGissue (w : Work) (sl : Slot) : SlotOut :=
  let c := sl.core.toNat
  let a := regA w sl
  let b := regB w sl
  let st := coreOf w.hw c
  let k := sl.imm.toNat % 16
  let wc := sl.imm.toNat / 16
  let engine := if 12 ≤ k then [(illegalOperand, 0)]
    else if partOfSpire w.hw (k / 3) != partOfCore w.hw c then [(notInPartition, 0)] else []
  queueSlot (engine ++ withAddress a (stagingFaults w.hw c a 64) ++ withAddress b (stagingFaults w.hw c b 32))
    (64 ≤ (st.outs.filter (fun o => o.graver)).length)
    (fun w =>
      let key := stagingKey (spireOf c) (a % 2 ^ 60)
      if !w.good key 64 then moveUncorrectable c 5 st.r.pc a key (w.firstBad key 64) w
      else
        let id := (coreOf w.hw c).nextId
        let d : GDesc := {
          ctx := st.ctx
          core := c
          plan := st.plan
          frame := st.frame
          desc := w.read key 64
          completion := b % 2 ^ 60
          wc := wc
          bundle := st.r.pc
          op := id }
        let out : OutOp := { id := id, graver := true, wc := wc, bundle := st.r.pc, src := 0, count := 0 }
        graverSubmit k d (modCore c (fun s => { s with outs := s.outs ++ [out], nextId := s.nextId + 1 }) w))

/-- `PHINT`: waits in the core's queue of 4 until the pager accepts it (R97, R193). -/
def slotPhint (w : Work) (sl : Slot) : SlotOut :=
  let c := sl.core.toNat
  let a := regA w sl
  let n := regB w sl
  let st := coreOf w.hw c
  let out : OutOp := { id := 0, graver := false, wc := sl.imm.toNat % 32, bundle := st.r.pc, src := a % 2 ^ 60, count := n }
  queueSlot (immUnused sl 5 ++ withAddress a (stagingFaults w.hw c a (16 * n)))
    (4 ≤ (st.outs.filter (fun o => !o.graver)).length)
    (modCore c (fun s => { s with outs := s.outs ++ [{ out with id := s.nextId }], nextId := s.nextId + 1 }))

end Sys2Proof.Machine
end

