-- ==== Sys2Proof/Machine/CoreBundle.lean ====
section
/-! DEFINITION. Machine/CoreBundle.lean: the slots of a bundle brought together: legality, waiting, faults, effects and the next bundle (R76 to R81, R105, R107). -/
namespace Sys2Proof.Machine

open Sys2Proof

/-- An instruction of a slot: its fields, its unit of the bundle (0 scalar, 1 vector, 2 matrix, 3 move/message), the `UNIT` code
of R108, which fields it uses (D 8, A 4, B 2, IMM 1), and what it does at issue. -/
structure SlotInfo where
  sl : Slot
  place : Nat
  unit : Nat
  used : Nat
  act : Work → Slot → SlotOut

/-- The slot instruction of a command; none for a command that is no slot. -/
def slotOf (i : Instr) : Option SlotInfo :=
  match i with
  | .add sl => some ⟨sl, 0, 0, 14, slotAdd⟩
  | .sub sl => some ⟨sl, 0, 0, 14, slotSub⟩
  | .mul sl => some ⟨sl, 0, 0, 14, slotMul⟩
  | .and sl => some ⟨sl, 0, 0, 14, slotAnd⟩
  | .or sl => some ⟨sl, 0, 0, 14, slotOr⟩
  | .xor sl => some ⟨sl, 0, 0, 14, slotXor⟩
  | .shl sl => some ⟨sl, 0, 0, 14, slotShl⟩
  | .shr sl => some ⟨sl, 0, 0, 14, slotShr⟩
  | .sra sl => some ⟨sl, 0, 0, 14, slotSra⟩
  | .min sl => some ⟨sl, 0, 0, 14, slotMin⟩
  | .max sl => some ⟨sl, 0, 0, 14, slotMax⟩
  | .slt sl => some ⟨sl, 0, 0, 14, slotSlt⟩
  | .sltu sl => some ⟨sl, 0, 0, 14, slotSltu⟩
  | .addi sl => some ⟨sl, 0, 0, 13, slotAddi⟩
  | .andi sl => some ⟨sl, 0, 0, 13, slotAndi⟩
  | .ori sl => some ⟨sl, 0, 0, 13, slotOri⟩
  | .xori sl => some ⟨sl, 0, 0, 13, slotXori⟩
  | .shli sl => some ⟨sl, 0, 0, 13, slotShli⟩
  | .shri sl => some ⟨sl, 0, 0, 13, slotShri⟩
  | .srai sl => some ⟨sl, 0, 0, 13, slotSrai⟩
  | .slti sl => some ⟨sl, 0, 0, 13, slotSlti⟩
  | .li sl imm => some ⟨sl, 0, 0, 8, slotLi imm.toNat⟩
  | .ld8 sl => some ⟨sl, 0, 0, 13, slotLd8⟩
  | .ld16 sl => some ⟨sl, 0, 0, 13, slotLd16⟩
  | .ld32 sl => some ⟨sl, 0, 0, 13, slotLd32⟩
  | .ld64 sl => some ⟨sl, 0, 0, 13, slotLd64⟩
  | .st8 sl => some ⟨sl, 0, 0, 7, slotSt8⟩
  | .st16 sl => some ⟨sl, 0, 0, 7, slotSt16⟩
  | .st32 sl => some ⟨sl, 0, 0, 7, slotSt32⟩
  | .st64 sl => some ⟨sl, 0, 0, 7, slotSt64⟩
  | .br sl => some ⟨sl, 0, 0, 15, slotBr⟩
  | .call sl => some ⟨sl, 0, 0, 15, slotCall⟩
  | .ret sl => some ⟨sl, 0, 0, 0, slotRet⟩
  | .beq sl => some ⟨sl, 0, 0, 15, slotBeq⟩
  | .bne sl => some ⟨sl, 0, 0, 15, slotBne⟩
  | .blt sl => some ⟨sl, 0, 0, 15, slotBlt⟩
  | .bge sl => some ⟨sl, 0, 0, 15, slotBge⟩
  | .loop sl => some ⟨sl, 0, 0, 13, slotLoop⟩
  | .wait sl => some ⟨sl, 0, 0, 12, slotWait⟩
  | .waiti sl => some ⟨sl, 0, 0, 9, slotWaiti⟩
  | .wcadd sl => some ⟨sl, 0, 0, 9, slotWcadd⟩
  | .wcread sl => some ⟨sl, 0, 0, 12, slotWcread⟩
  | .time sl => some ⟨sl, 0, 0, 8, slotTime⟩
  | .cyc sl => some ⟨sl, 0, 0, 8, slotCyc⟩
  | .tick sl => some ⟨sl, 0, 0, 8, slotTick⟩
  | .csrr sl => some ⟨sl, 0, 0, 9, slotCsrr⟩
  | .csrw sl => some ⟨sl, 0, 0, 5, slotCsrw⟩
  | .markb sl => some ⟨sl, 0, 0, 4, slotMarkb⟩
  | .marke sl => some ⟨sl, 0, 0, 4, slotMarke⟩
  | .markp sl => some ⟨sl, 0, 0, 4, slotMarkp⟩
  | .endFrame sl => some ⟨sl, 0, 0, 0, slotEnd⟩
  | .vadd sl => some ⟨sl, 1, 1, 14, slotVadd⟩
  | .vsub sl => some ⟨sl, 1, 1, 14, slotVsub⟩
  | .vmul sl => some ⟨sl, 1, 1, 14, slotVmul⟩
  | .vfma sl => some ⟨sl, 1, 1, 14, slotVfma⟩
  | .vmin sl => some ⟨sl, 1, 1, 14, slotVmin⟩
  | .vmax sl => some ⟨sl, 1, 1, 14, slotVmax⟩
  | .vabs sl => some ⟨sl, 1, 1, 12, slotVabs⟩
  | .vneg sl => some ⟨sl, 1, 1, 12, slotVneg⟩
  | .vexp2 sl => some ⟨sl, 1, 1, 12, slotVexp2⟩
  | .vlog2 sl => some ⟨sl, 1, 1, 12, slotVlog2⟩
  | .vrcp sl => some ⟨sl, 1, 1, 12, slotVrcp⟩
  | .vrsqrt sl => some ⟨sl, 1, 1, 12, slotVrsqrt⟩
  | .viadd sl => some ⟨sl, 1, 1, 14, slotViadd⟩
  | .visub sl => some ⟨sl, 1, 1, 14, slotVisub⟩
  | .vimul sl => some ⟨sl, 1, 1, 14, slotVimul⟩
  | .vand sl => some ⟨sl, 1, 1, 14, slotVand⟩
  | .vor sl => some ⟨sl, 1, 1, 14, slotVor⟩
  | .vxor sl => some ⟨sl, 1, 1, 14, slotVxor⟩
  | .vshl sl => some ⟨sl, 1, 1, 14, slotVshl⟩
  | .vshr sl => some ⟨sl, 1, 1, 14, slotVshr⟩
  | .vsra sl => some ⟨sl, 1, 1, 14, slotVsra⟩
  | .vcmpeq sl => some ⟨sl, 1, 1, 14, slotVcmpeq⟩
  | .vcmplt sl => some ⟨sl, 1, 1, 14, slotVcmplt⟩
  | .vcmple sl => some ⟨sl, 1, 1, 14, slotVcmple⟩
  | .vsel sl => some ⟨sl, 1, 1, 15, slotVsel⟩
  | .vbcast sl => some ⟨sl, 1, 1, 12, slotVbcast⟩
  | .vperm sl => some ⟨sl, 1, 1, 14, slotVperm⟩
  | .vshiftl sl => some ⟨sl, 1, 1, 13, slotVshiftl⟩
  | .vredadd sl => some ⟨sl, 1, 1, 12, slotVredadd⟩
  | .vredmax sl => some ⟨sl, 1, 1, 12, slotVredmax⟩
  | .vcvt sl => some ⟨sl, 1, 1, 13, slotVcvt⟩
  | .vcvtmx sl => some ⟨sl, 1, 1, 13, slotVcvtmx⟩
  | .vld sl => some ⟨sl, 1, 1, 13, slotVld⟩
  | .vst sl => some ⟨sl, 1, 1, 13, slotVst⟩
  | .vstp sl => some ⟨sl, 1, 1, 15, slotVstp⟩
  | .vgather sl => some ⟨sl, 1, 1, 14, slotVgather⟩
  | .mdset sl => some ⟨sl, 2, 2, 12, slotMdset⟩
  | .mzero sl => some ⟨sl, 2, 2, 9, slotMzero⟩
  | .mma sl => some ⟨sl, 2, 2, 15, slotMma⟩
  | .mmas sl => some ⟨sl, 2, 2, 15, slotMmas⟩
  | .mload sl => some ⟨sl, 2, 2, 13, slotMload⟩
  | .mstore sl => some ⟨sl, 2, 2, 13, slotMstore⟩
  | .mov sl => some ⟨sl, 3, 3, 15, slotMov⟩
  | .mov2d sl => some ⟨sl, 3, 3, 15, slotMov2d⟩
  | .mfill sl => some ⟨sl, 3, 3, 15, slotMfill⟩
  | .send sl => some ⟨sl, 3, 4, 15, slotSend⟩
  | .signal sl => some ⟨sl, 3, 4, 13, slotSignal⟩
  | .recv sl => some ⟨sl, 3, 4, 15, slotRecv⟩
  | .hwrite sl => some ⟨sl, 3, 4, 5, slotHwrite⟩
  | .hsend sl => some ⟨sl, 3, 4, 5, slotHsend⟩
  | .coll sl => some ⟨sl, 3, 4, 5, slotColl⟩
  | .gissue sl => some ⟨sl, 3, 5, 7, slotGissue⟩
  | .phint sl => some ⟨sl, 3, 3, 7, slotPhint⟩
  | _ => none

/-- A field that the instruction does not use holds zero (R78). -/
def fieldsClean (s : SlotInfo) : Bool :=
  (bit s.used 3 || s.sl.d == 0) && (bit s.used 2 || s.sl.a == 0) && (bit s.used 1 || s.sl.b == 0) && (bit s.used 0 || s.sl.imm == 0)

/-- The command is `LI`, whose bundle is in long-immediate form. -/
def isLi : Instr → Bool
  | .li _ _ => true
  | _ => false

/-- The command is `END`. -/
def isEndSlot : Instr → Bool
  | .endFrame _ => true
  | _ => false

/-- The bundle breaks no rule of R78 about its instructions (a stored word's header, form and opcodes are judged by `decodeBundle`). A command gives one slot with an assigned opcode, so two slots name one destination only
where they are two slots of one place. -/
def bundleLegal (b : List Instr) : Bool :=
  let infos := b.filterMap slotOf
  noRepeats (infos.map (fun s => s.place)) && infos.all fieldsClean
    && (!b.any isEndSlot || b.length == 1)
    && (!b.any isLi || infos.all (fun s => s.place < 2))

/-- The bundle after one from which issue falls through: the innermost loop that ends there begins its next pass, or ends (R81). A
loop that a branch has left stays on the stack, and still counts to its depth (log 64). -/
def afterBundle (last : Nat) : List LoopEntry → Nat × List LoopEntry
  | [] => (last + 1, [])
  | l :: ls =>
    if l.last ≠ last then (last + 1, l :: ls)
    else if 1 < l.left then (l.first, { l with left := l.left - 1 } :: ls)
    else afterBundle last ls

/-- The program counter moves to the next bundle; past the last bundle without a branch the core faults (R81, R105). -/
def nextBundle (core : Nat) (jump skip : Option Nat) (w : Work) : Work :=
  match jump with
  | some t => modCore core (fun c => { c with r := { c.r with pc := t } }) w
  | none =>
    let c := coreOf w.hw core
    let (t, ls) := afterBundle (skip.getD c.r.pc) c.r.loops
    let w1 := modCore core (fun c => { c with r := { c.r with pc := t, loops := ls } }) w
    if c.bundles ≤ t && !c.ending then coreFault core branchRange 0 c.bundles 0 false w1 else w1

/-- The first element of a list for which a function answers. -/
def firstSome {α β : Type} (f : α → Option β) : List α → Option β
  | [] => none
  | a :: as => match f a with | some b => some b | none => firstSome f as

/-- The fault a bundle records: the first slot in the order scalar, vector, matrix, move, and its lowest code (R107). -/
def firstFault (outs : List (SlotInfo × SlotOut)) : Option (Nat × Nat × Nat) :=
  firstSome (fun o => match o.2.faults with
    | [] => none
    | f :: fs =>
      let g := fs.foldl (fun b x => if x.1 < b.1 then x else b) f
      some (o.1.unit, g.1, g.2)) outs

/-- A complete bundle issues, waits or faults (R78, R80, R105). -/
def runBundle (core : Nat) (w : Work) : Work :=
  let c := coreOf w.hw core
  let clear := modCore core (fun c => { c with bundle := [], hold := .none })
  if c.bundle.isEmpty then w
  else if !bundleLegal c.bundle then coreFault core illegalBundle 0 c.r.pc 0 false (clear w)
  else
    let infos := sortBy (fun s => s.place) (c.bundle.filterMap slotOf)
    let outs := infos.map (fun s => (s, s.act w s.sl))
    match outs.find? (fun o => o.2.hold != .none) with
    | some o => modCore core (fun c => { c with hold := o.2.hold }) w
    | none =>
      -- a vector slot issues only in a vector-enabled cycle (R439)
      if infos.any (fun s => s.place == 1) && !vectorEnables w.hw core then modCore core (fun c => { c with hold := .rate }) w
      else
        match firstFault outs with
        | some (unit, code, addr) => coreFault core code unit c.r.pc addr false (clear w)
        | none =>
          let w1 := outs.foldl (fun acc o => o.2.effect acc) (clear w)
          nextBundle core (firstSome (fun o => o.2.jump) outs) (firstSome (fun o => o.2.skip) outs) w1

/-- The core takes slots: it is live, executes a frame, has not issued `END`, and no bundle is held. -/
def issues (hw : Hw) (core : Nat) : Bool :=
  let c := coreOf hw core
  coreLive hw core && c.running && !c.ending && c.hold == .none

/-- A slot is given to a core; the last slot of its bundle makes the bundle issue (R79). -/
def giveSlot (i : Instr) (w : Work) : Work :=
  match slotOf i with
  | none => w
  | some s =>
    let core := s.sl.core.toNat
    if !issues w.hw core then w
    else
      let w1 := modCore core (fun c => { c with bundle := c.bundle ++ [i] }) w
      if s.sl.more then w1 else runBundle core w1

/-- A held bundle is tried again (R80, R89). -/
def retryHeld (core : Nat) (hold : Hold) (w : Work) : Work :=
  let c := coreOf w.hw core
  if coreLive w.hw core && c.running && c.hold == hold then runBundle core (modCore core (fun c => { c with hold := .none }) w) else w

end Sys2Proof.Machine
end

