-- ==== Sys2Proof/Machine/BundleWord.lean ====
section
/-! DEFINITION. Machine/BundleWord.lean: the 128-bit bundle word, and the bundles that cores issue from their instruction stores (R76 to R78, R82, R83, R85, R86). -/
namespace Sys2Proof.Machine

open Sys2Proof

/-- The parts of a bundle word (R76). -/
structure BundleWord where
  valid : Nat
  form : Nat
  reserved : Nat
  scalar : Nat
  vector : Nat
  matrix : Nat
  move : Nat
  deriving DecidableEq, Repr

/-- The parts of a bundle word, from its 128 bits (R76). -/
def bundleParts (v : Nat) : BundleWord := {
  valid := bits v 3 0
  form := bits v 4 4
  reserved := bits v 7 5
  scalar := bits v 37 8
  vector := bits v 67 38
  matrix := bits v 97 68
  move := bits v 127 98 }

/-- `OP` of a slot instruction (R77). -/
def opOf (x : Nat) : Nat := bits x 5 0

/-- The fields of a slot instruction of a core (R77); `more` says that another slot of the bundle follows. -/
def slotFields (core : Nat) (more : Bool) (x : Nat) : Slot :=
  ⟨BitVec.ofNat 8 core, more, BitVec.ofNat 5 (bits x 10 6), BitVec.ofNat 5 (bits x 15 11), BitVec.ofNat 5 (bits x 20 16), BitVec.ofNat 9 (bits x 29 21)⟩

/-- The scalar instruction of an opcode (R82), but for `LI`; none for an unassigned code. -/
def scalarCode (sl : Slot) (op : Nat) : Option Instr :=
  match op with
  | 0x01 => some (.add sl)
  | 0x02 => some (.sub sl)
  | 0x03 => some (.mul sl)
  | 0x04 => some (.and sl)
  | 0x05 => some (.or sl)
  | 0x06 => some (.xor sl)
  | 0x07 => some (.shl sl)
  | 0x08 => some (.shr sl)
  | 0x09 => some (.sra sl)
  | 0x0A => some (.min sl)
  | 0x0B => some (.max sl)
  | 0x0C => some (.slt sl)
  | 0x0D => some (.sltu sl)
  | 0x10 => some (.addi sl)
  | 0x11 => some (.andi sl)
  | 0x12 => some (.ori sl)
  | 0x13 => some (.xori sl)
  | 0x14 => some (.shli sl)
  | 0x15 => some (.shri sl)
  | 0x16 => some (.srai sl)
  | 0x17 => some (.slti sl)
  | 0x20 => some (.ld8 sl)
  | 0x21 => some (.ld16 sl)
  | 0x22 => some (.ld32 sl)
  | 0x23 => some (.ld64 sl)
  | 0x24 => some (.st8 sl)
  | 0x25 => some (.st16 sl)
  | 0x26 => some (.st32 sl)
  | 0x27 => some (.st64 sl)
  | 0x28 => some (.br sl)
  | 0x29 => some (.call sl)
  | 0x2A => some (.ret sl)
  | 0x2B => some (.beq sl)
  | 0x2C => some (.bne sl)
  | 0x2D => some (.blt sl)
  | 0x2E => some (.bge sl)
  | 0x2F => some (.loop sl)
  | 0x30 => some (.wait sl)
  | 0x31 => some (.waiti sl)
  | 0x32 => some (.wcadd sl)
  | 0x33 => some (.wcread sl)
  | 0x34 => some (.time sl)
  | 0x35 => some (.cyc sl)
  | 0x36 => some (.tick sl)
  | 0x38 => some (.csrr sl)
  | 0x39 => some (.csrw sl)
  | 0x3A => some (.markb sl)
  | 0x3B => some (.marke sl)
  | 0x3C => some (.markp sl)
  | 0x3F => some (.endFrame sl)
  | _ => none

/-- The vector instruction of an opcode (R83). -/
def vectorCode (sl : Slot) (op : Nat) : Option Instr :=
  match op with
  | 0x01 => some (.vadd sl)
  | 0x02 => some (.vsub sl)
  | 0x03 => some (.vmul sl)
  | 0x04 => some (.vfma sl)
  | 0x05 => some (.vmin sl)
  | 0x06 => some (.vmax sl)
  | 0x07 => some (.vabs sl)
  | 0x08 => some (.vneg sl)
  | 0x09 => some (.vexp2 sl)
  | 0x0A => some (.vlog2 sl)
  | 0x0B => some (.vrcp sl)
  | 0x0C => some (.vrsqrt sl)
  | 0x10 => some (.viadd sl)
  | 0x11 => some (.visub sl)
  | 0x12 => some (.vimul sl)
  | 0x13 => some (.vand sl)
  | 0x14 => some (.vor sl)
  | 0x15 => some (.vxor sl)
  | 0x16 => some (.vshl sl)
  | 0x17 => some (.vshr sl)
  | 0x18 => some (.vsra sl)
  | 0x1A => some (.vcmpeq sl)
  | 0x1B => some (.vcmplt sl)
  | 0x1C => some (.vcmple sl)
  | 0x1D => some (.vsel sl)
  | 0x20 => some (.vbcast sl)
  | 0x21 => some (.vperm sl)
  | 0x22 => some (.vshiftl sl)
  | 0x23 => some (.vredadd sl)
  | 0x24 => some (.vredmax sl)
  | 0x28 => some (.vcvt sl)
  | 0x29 => some (.vcvtmx sl)
  | 0x30 => some (.vld sl)
  | 0x31 => some (.vst sl)
  | 0x32 => some (.vstp sl)
  | 0x33 => some (.vgather sl)
  | _ => none

/-- The matrix instruction of an opcode (R85). -/
def matrixCode (sl : Slot) (op : Nat) : Option Instr :=
  match op with
  | 0x01 => some (.mdset sl)
  | 0x02 => some (.mzero sl)
  | 0x03 => some (.mma sl)
  | 0x04 => some (.mmas sl)
  | 0x05 => some (.mload sl)
  | 0x06 => some (.mstore sl)
  | _ => none

/-- The move or message instruction of an opcode (R86). -/
def moveCode (sl : Slot) (op : Nat) : Option Instr :=
  match op with
  | 0x01 => some (.mov sl)
  | 0x02 => some (.mov2d sl)
  | 0x03 => some (.mfill sl)
  | 0x08 => some (.send sl)
  | 0x09 => some (.signal sl)
  | 0x0A => some (.recv sl)
  | 0x10 => some (.hwrite sl)
  | 0x11 => some (.hsend sl)
  | 0x18 => some (.coll sl)
  | 0x20 => some (.gissue sl)
  | 0x28 => some (.phint sl)
  | _ => none

/-- The slot of a place of a bundle: none of them where its `VALID` bit is 0, in which case its bits are zero, else its instruction;
no answer where a rule of R78 is broken. -/
def decodeSlot (code : Slot → Nat → Option Instr) (core valid place x : Nat) : Option (List Instr) :=
  if !bit valid place then (if x = 0 then some [] else none)
  else (code (slotFields core (decide (0 < valid / 2 ^ (place + 1))) x) (opOf x)).map (fun i => [i])

/-- The slots of a bundle word in the order scalar, vector, matrix, move/message; none where the header, the form, an unused slot or an
opcode breaks R78. What instructions say of their own fields is judged as the bundle issues (`bundleLegal`). -/
def decodeBundle (core v : Nat) : Option (List Instr) :=
  let b := bundleParts v
  if b.reserved ≠ 0 then none
  else if b.form = 0 then
    match decodeSlot scalarCode core b.valid 0 b.scalar, decodeSlot vectorCode core b.valid 1 b.vector,
      decodeSlot matrixCode core b.valid 2 b.matrix, decodeSlot moveCode core b.valid 3 b.move with
    | some s, some x, some m, some o => some (s ++ x ++ m ++ o)
    | _, _, _, _ => none
  else if bits b.valid 3 2 ≠ 0 ∨ !bit b.valid 0 ∨ opOf b.scalar ≠ 0x18 then none
  else (decodeSlot vectorCode core b.valid 1 b.vector).map (fun x =>
    Instr.li (slotFields core (bit b.valid 1) b.scalar) (BitVec.ofNat 60 (b.matrix + b.move * 2 ^ 30)) :: x)

/-- The memory key of the bundle at a core's program counter. -/
def bundleKey (hw : Hw) (core : Nat) : Nat := storeKey core (16 * (coreOf hw core).r.pc)

/-- A core issues the bundle at its program counter from its instruction store (R78, R79): an illegal word is `ILLEGAL_BUNDLE`, and a
word that cannot be read `UNCORRECTABLE_READ` (R468; log 68). -/
def issueStored (core : Nat) (w : Work) : Work :=
  let pc := (coreOf w.hw core).r.pc
  let k := bundleKey w.hw core
  if !w.good k 16 then coreFault core uncorrectableRead 0 pc 0 true w
  else match decodeBundle core (w.num k 16) with
    | none => coreFault core illegalBundle 0 pc 0 false w
    | some [] => nextBundle core none none w
    | some b => runBundle core (modCore core (fun c => { c with bundle := b }) w)

/-- The cores that can issue a bundle of their own: they execute a frame, hold no bundle and are given none. -/
def issuingCores (hw : Hw) : List Nat :=
  (hw.cores.filter (fun e => issues hw e.1 && e.2.bundle.isEmpty)).map (fun e => e.1)

/-- The passing of time lets some core issue: a bundle of its own, or one that the issue rate held (R161). -/
def coresAct (hw : Hw) : Bool := !(issuingCores hw).isEmpty || hw.cores.any (fun e => e.2.hold == .rate)

/-- Every core that can issues one bundle from its instruction store. -/
def issueAll (w : Work) : Work := forEach (issuingCores w.hw) issueStored w

end Sys2Proof.Machine
end

