-- ==== Sys2Proof/Machine/CollOps.lean ====
section
/-! DEFINITION. Machine/CollOps.lean: the collective units: descriptors, stages, windows, delivery and the ends of operations (R283 to R312). -/
namespace Sys2Proof.Machine

/-! ## Groups -/

/-- The group of an identifier. -/
def findGroup (hw : Hw) (id : Nat) : Option Group := hw.coll.groups.find? (fun g => g.id == id)

/-- The module core of a member record, where it lies on this module. -/
def memberCore (hw : Hw) (m : Nat) : Option Nat := if isOwnEndpoint hw (m % 2 ^ 18) then some (coreOfWord m) else none

/-- The local members of a group: index and core. -/
def localMembers (hw : Hw) (g : Group) : List (Nat × Nat) :=
  (numbered 0 g.members).filterMap (fun m => (memberCore hw m.2).map (fun c => (m.1, c)))

/-- The rack of an endpoint or member record. -/
def rackOf (m : Nat) : Nat := m % 2 ^ 18 / 256

/-- The module's rack. -/
def ownRack (hw : Hw) : Nat := rackOf (endpointOf hw 0)

/-- The group has members on other modules. -/
def isRemote (hw : Hw) (g : Group) : Bool := g.members.any (fun m => !isOwnEndpoint hw (m % 2 ^ 18))

/-- A member lies beyond the reach of the package stage, in this rack or another: the tray stage carries the operation (R294). -/
def hasTray (hw : Hw) (g : Group) : Bool := isRemote hw g

/-- Another module of the rack holds a member: a leader sends it global results and the data of other racks (R294). -/
def hasRackPeer (hw : Hw) (g : Group) : Bool := g.members.any (fun m => rackOf m == ownRack hw && !isOwnEndpoint hw (m % 2 ^ 18))

/-- The group spans racks. -/
def spansRacks (hw : Hw) (g : Group) : Bool := g.members.any (fun m => rackOf m != ownRack hw)

/-- The module holds the lowest-indexed member of its rack (R294). -/
def isLeader (hw : Hw) (g : Group) : Bool :=
  match g.members.find? (fun m => rackOf m == ownRack hw) with
  | some m => isOwnEndpoint hw (m % 2 ^ 18)
  | none => false

/-- The root rack: the lowest rack number among the members. -/
def rootRack (g : Group) : Nat := (least (g.members.map rackOf)).getD 0

/-- The set bits of `PORT_MASK`, counted upward. -/
def groupPorts (g : Group) : List Nat := (List.range 6).filter (fun p => bit g.mask p)

/-- The port on which piece p travels (R295). -/
def portOfPiece (g : Group) (p : Nat) : Nat :=
  let l := groupPorts g
  (l[(p + g.id) % max 1 l.length]?).getD 0

/-- The other racks of the group. -/
def otherRacks (hw : Hw) (g : Group) : List Nat := ((g.members.map rackOf).filter (fun r => r != ownRack hw)).eraseDups

/-! ## Records and flits on the planes (R296, R297) -/

/-- The time at which a record or flit of the group crossed a port (R561). -/
def noteCrossing (g : Group) (p : Nat) (w : Work) : Work :=
  w.up fun h => { h with conserve := { h.conserve with crossed := tabSet 0 h.conserve.crossed (8 * g.slot + p) (h.time.now + 1) } }

/-- A window record of 16 B (R297). -/
def windowRecord (kind b1 b2 b3 group mid last : Nat) : List Byte :=
  leBytes 1 kind ++ leBytes 1 b1 ++ leBytes 1 b2 ++ leBytes 1 b3 ++ leBytes 4 group ++ leBytes 4 mid ++ leBytes 4 last

/-- A window record is sent on a port. -/
def sendRecord (g : Group) (p : Nat) (rec_ : List Byte) (w : Work) : Work :=
  let f : Flit := { vc := 2, type := 8, first := true, last := true, dest := 0, src := endpointOf w.hw 0, payload := rec_, owner := none }
  noteCrossing g p (enqueue p f w)

/-- A record on every port of the group. -/
def sendRecordAll (g : Group) (rec_ : List Byte) (w : Work) : Work := forEach (groupPorts g) (fun p w => sendRecord g p rec_ w) w

/-- `JOIN` on a port (R287, R297). -/
def sendJoin (g : Group) (p : Nat) (w : Work) : Work :=
  let mods := ((g.members.filter (fun m => rackOf m == ownRack w.hw)).map (fun m => m % 2 ^ 18 / 4)).eraseDups.length
  sendRecord g p (windowRecord 2 (b2n (spansRacks w.hw g) + 2 * b2n (isLeader w.hw g)) 0 0 g.id 0 mods) w

/-- `LEAVE` on a port. -/
def sendLeave (g : Group) (p : Nat) (w : Work) : Work := sendRecord g p (windowRecord 3 0 0 0 g.id 0 0) w

/-- The 16 B collective header (R296). -/
def collHeader (o : CollOp) (op cflags flitNo member aux : Nat) : List Byte :=
  leBytes 4 o.group ++ leBytes 1 o.frame ++ leBytes 1 o.ordinal ++ leBytes 1 op ++ leBytes 1 cflags ++ leBytes 4 flitNo
    ++ leBytes 2 member ++ leBytes 2 aux

/-- The flits of a unit of data on a port; `chunk` is the data bytes of a flit. -/
def sendUnit (g : Group) (o : CollOp) (p vc type op cflags first member aux dest chunk : Nat) (bytes : List Byte) (w : Work) : Work :=
  let parts := chunksOf chunk (bytes.length / chunk + 1) bytes
  noteCrossing g p (forEach (numbered 0 parts) (fun c w =>
    let f : Flit := {
      vc := vc
      type := type
      first := c.1 == 0
      last := c.1 + 1 == parts.length
      dest := dest
      src := endpointOf w.hw 0
      payload := collHeader o op cflags (first + c.1) member aux ++ c.2
      owner := none }
    enqueue p f w) w)

/-- Data goes to the leader of another rack by RoCEv2 SENDs with immediate (R294, R296): the immediate carries the `DEST` word (log 18). -/
def sendRack (g : Group) (o : CollOp) (rack op cflags first member aux dest chunk : Nat) (bytes : List Byte) (w : Work) : Work :=
  match g.racks.find? (fun r => r.1 == rack) with
  | none => w
  | some (_, qp) =>
    forEach (numbered 0 (chunksOf chunk (bytes.length / chunk + 1) bytes)) (fun c w =>
      postWork qp .coll 2 0 0 dest (collHeader o op cflags (first + c.1) member aux ++ c.2) o.plan o.frame w) w

/-- A record goes to the leaders of the other racks (R307, log 18). -/
def sendRackRecord (g : Group) (o : CollOp) (rec_ : List Byte) (w : Work) : Work :=
  forEach (otherRacks w.hw g) (fun r w => match g.racks.find? (fun x => x.1 == r) with
    | none => w
    | some (_, qp) => postWork qp .coll 2 0 0 0 rec_ o.plan o.frame w) w

/-! ## Descriptors (R288 to R290) -/

/-- Descriptor fields. -/
def dField (d : List Byte) (off n : Nat) : Nat := field d off n
/-- `OP`. -/
def dOp (d : List Byte) : Nat := field d 0 1
/-- `EXACT`. -/
def dExact (d : List Byte) : Bool := bit (field d 1 1) 0
/-- `MAX`. -/
def dMax (d : List Byte) : Bool := bit (field d 1 1) 1
/-- `STREAM`. -/
def dStream (d : List Byte) : Bool := bit (field d 1 1) 2
/-- `PROGRESS`. -/
def dProgress (d : List Byte) : Bool := bit (field d 1 1) 3
/-- `COUNT`. -/
def dCount (d : List Byte) : Nat := field d 0x18 4
/-- `RECORD_BYTES`. -/
def dRecord (d : List Byte) : Nat := field d 0x1C 2
/-- Width in bytes of the input format. -/
def inBytes (d : List Byte) : Nat := fmtWidth (field d 2 1) / 8
/-- Width in bytes of the output format. -/
def outBytes (d : List Byte) : Nat := fmtWidth (field d 3 1) / 8
/-- Padded size of a count array of M words (R303). -/
def countArray (m : Nat) : Nat := alignUp (4 * m) 16

/-- `SEND` and `RECV` are address words of space 0 or 2 (R288). -/
def collSpace (word : Nat) : Bool := spaceOf word == 0 || spaceOf word == 2

/-- Check 1 of R290: the fields alone. -/
def collMalformed (d : List Byte) : Bool :=
  let op := dOp d
  let mode := field d 1 1
  let reduce := op == 1 || op == 2
  let fmt (f : Nat) : Bool := f ≤ 2
  let ok := 1 ≤ op && op ≤ 5 && mode < 16
    && (reduce || (!dExact d && !dMax d)) && !(dExact d && dMax d)
    && (!dStream d || op == 3 || op == 5)
    && (if reduce then fmt (field d 2 1) && fmt (field d 3 1) else field d 2 1 == 0 && field d 3 1 == 0)
    && field d 8 8 % 16 == 0 && field d 16 8 % 16 == 0
    && collSpace (field d 8 8) && collSpace (field d 16 8)
    && (match op with
        | 1 => 1 ≤ dCount d && dCount d ≤ 2 ^ 28
        | 2 => 1 ≤ dCount d && dCount d ≤ 2 ^ 28
        | 4 => 1 ≤ dCount d && dCount d ≤ 65535
        | _ => 16 ≤ dCount d && dCount d % 16 == 0)
    && (if op == 4 then 16 ≤ dRecord d && dRecord d ≤ 4096 && dRecord d % 16 == 0 else dRecord d == 0)
    && (op == 5 || field d 0x1E 2 == 0)
    && (op == 4 || field d 0x20 4 == 0)
    && (if dStream d then true else field d 0x28 4 == 0 && field d 0x2C 4 == 0)
    && field d 0x30 1 < 32 && field d 0x31 1 < 32 && zeroAt d 0x32 14
  !ok

/-- Input and result bytes (R289); the input of an all-to-all is given by its send counts. -/
def collSizes (d : List Byte) (m index sendSum : Nat) : Nat × Nat :=
  match dOp d with
  | 1 => (dCount d * inBytes d, dCount d * outBytes d)
  | 2 => (dCount d * inBytes d, dCount d / max 1 m * outBytes d)
  | 3 => (dCount d, m * dCount d)
  | 4 => (dRecord d * sendSum, m * dCount d * dRecord d)
  | _ => (if index = field d 0x1E 2 then dCount d else 0, dCount d)

/-- A range named by an address word of space 0 or 2 obeys R67, whatever its length (R68 is no test of R290); an empty range is not tested. -/
def collRange (hw : Hw) (core word n : Nat) : Bool :=
  n == 0 || (collSpace word && ((addrFaults hw core word n).filter (fun c => c != alignmentFault)).isEmpty)

/-- The completion record's range obeys R67. -/
def recordOk (hw : Hw) (core : Nat) (d : List Byte) : Bool := inGrant hw core (field d 0x24 4) 32

/-- Check 5 of R290. -/
def collShape (d : List Byte) (m index : Nat) (sz : Nat × Nat) (core : Nat) : Bool :=
  let s := addrKey core (field d 8 8)
  let r := addrKey core (field d 16 8)
  let apart := sz.1 == 0 || sz.2 == 0 || s + sz.1 ≤ r || r + sz.2 ≤ s
  let inPlace := dOp d == 1 && inBytes d == outBytes d && field d 8 8 == field d 16 8
  (dOp d != 2 || dCount d % max 1 m == 0)
    && (dOp d != 5 || (field d 0x1E 2 < m && (index == field d 0x1E 2 || field d 8 8 == 0)))
    && (apart || inPlace)
    && (!dStream d || (spaceOf (field d 16 8) == 2 && field d 0x2C 4 != 0 && sz.2 % field d 0x2C 4 == 0
          && sz.2 / field d 0x2C 4 ≤ 128 && (dOp d != 3 || field d 0x2C 4 % dCount d == 0) && field d 0x28 4 % 16 == 0))

/-- Send counts of an all-to-all (R303). -/
def sendCounts (w : Work) (core : Nat) (d : List Byte) (m : Nat) : List Nat :=
  (chunksOf 4 m (w.read (stagingKey (spireOf core) (field d 0x20 4)) (4 * m))).map leNat

/-! ## Pieces (R295) -/

/-- Values of a flit: 5 PLATE values or 56 words. -/
def flitValues (exact : Bool) : Nat := if exact then 5 else 56
/-- Bytes of a value. -/
def valueBytes (exact : Bool) : Nat := if exact then 40 else 4
/-- Flits of a full reduction piece. -/
def pieceFlits (g : Group) (exact : Bool) : Nat := if exact then g.window / 400 else g.window / 448
/-- Values of a full reduction piece. -/
def pieceValues (g : Group) (exact : Bool) : Nat := flitValues exact * pieceFlits g exact
/-- Bytes of a full broadcast piece. -/
def castBytes (g : Group) : Nat := 224 * (g.window / 448)

/-- The descriptor of an operation: that of its first part. -/
def opDesc (o : CollOp) : List Byte := (o.parts.head?.map (fun p => p.desc)).getD []

/-- Members of the group. -/
def groupSize (g : Group) : Nat := g.members.length

/-- The reduction part of an operation runs exact. -/
def redExact (o : CollOp) : Bool := dOp (opDesc o) != 4 && dExact (opDesc o)
/-- Values reduced: the elements, or the counts of an all-to-all. -/
def redCount (g : Group) (o : CollOp) : Nat := if dOp (opDesc o) = 4 then groupSize g else dCount (opDesc o)
/-- First piece key of the reduction: the count vector follows the blocks (R304). -/
def redBase (g : Group) (o : CollOp) : Nat := if dOp (opDesc o) = 4 then groupSize g * groupSize g else 0
/-- Reduction pieces. -/
def redPieces (g : Group) (o : CollOp) : Nat := ceilDiv (redCount g o) (max 1 (pieceValues g (redExact o)))
/-- Values of reduction piece p. -/
def redValues (g : Group) (o : CollOp) (p : Nat) : Nat := min (pieceValues g (redExact o)) (redCount g o - p * pieceValues g (redExact o))
/-- `ARITH` of R296. -/
def redArith (o : CollOp) : Nat :=
  if dOp (opDesc o) = 4 then 3 else if dExact (opDesc o) then 1 else if dMax (opDesc o) then 2 else 0
/-- `OP` of the reduction's flits. -/
def redOp (o : CollOp) : Nat := if dOp (opDesc o) = 4 then 6 else dOp (opDesc o)

/-- One combining step (R300, R301). -/
def combineValue (arith a b : Nat) : Nat :=
  match arith with
  | 0 => f32Add a b
  | 1 => plateAdd a b
  | 2 => f32Max a b
  | _ => min 0xFFFFFFFF (a + b)

/-- The values of a byte string of values. -/
def valuesOf (exact : Bool) (bs : List Byte) : List Nat :=
  (chunksOf (valueBytes exact) (bs.length / valueBytes exact + 1) bs).map leNat

/-- The bytes of values. -/
def bytesOfValues (exact : Bool) (vs : List Nat) : List Byte := vs.flatMap (leBytes (valueBytes exact))

/-- Two partials combined value by value. -/
def combineBytes (arith : Nat) (a b : List Byte) : List Byte :=
  let exact := arith == 1
  bytesOfValues exact (List.zipWith (combineValue arith) (valuesOf exact a) (valuesOf exact b))

/-- A member's values of reduction piece p (R300, R301). -/
def memberValues (g : Group) (o : CollOp) (p : Nat) (q : CollPart) : List Byte :=
  let exact := redExact o
  let first := p * pieceValues g exact
  let n := redValues g o p
  if dOp q.desc = 4 then
    bytesOfValues false (((q.counts.map (fun c => c - dCount q.desc)).drop first).take n)
  else
    let k := inBytes q.desc
    let f := field q.desc 2 1
    let raw := (chunksOf k n ((q.data.drop (first * k)).take (n * k))).map leNat
    bytesOfValues exact (raw.map (fun c => if exact then plateOf (decodeElem f c) else convertElem f 0 .nearest c))

/-- The module's partial of a piece (R294): each Spire combines its members as they began, the leader Spire the Spires in the
order in which they were complete. -/
def modulePartial (g : Group) (o : CollOp) (p : Nat) : List Byte :=
  let spires := (o.parts.reverse.map (fun q => spireOf q.core)).eraseDups.reverse
  let combine (l : List (List Byte)) : List Byte := match l with
    | [] => []
    | x :: xs => xs.foldl (combineBytes (redArith o)) x
  combine (spires.map (fun s => combine ((o.parts.filter (fun q => spireOf q.core == s)).map (memberValues g o p))))

/-! ## State of operations -/

/-- The operation of a group, frame and ordinal. -/
def findOp (hw : Hw) (group frame ordinal : Nat) : Option CollOp :=
  hw.coll.ops.find? (fun o => o.group == group && o.frame == frame && o.ordinal == ordinal)

/-- Two operations are one. -/
def sameOp (a b : CollOp) : Bool := a.group == b.group && a.frame == b.frame && a.ordinal == b.ordinal

/-- An operation put back, or added. -/
def putOp (o : CollOp) (w : Work) : Work :=
  w.up fun h =>
    let ops := match h.coll.ops.find? (sameOp o) with
      | some _ => h.coll.ops.map (fun x => if sameOp o x then o else x)
      | none => h.coll.ops ++ [o]
    { h with coll := { h.coll with ops := ops } }

/-- A fresh operation. -/
def freshOp (g : Group) (frame ordinal : Nat) : CollOp := {
  group := g.id
  plan := g.plan
  part := g.part
  frame := frame
  ordinal := ordinal
  parts := []
  reserves := []
  asked := false
  opened := []
  sent := []
  got := []
  results := []
  racksIn := []
  stop := none
  floor := none }

/-- The operation, or a fresh one. -/
def getOp (hw : Hw) (g : Group) (frame ordinal : Nat) : CollOp := (findOp hw g.id frame ordinal).getD (freshOp g frame ordinal)

/-- Change a part of an operation. -/
def modPart (index : Nat) (f : CollPart → CollPart) (o : CollOp) : CollOp :=
  { o with parts := o.parts.map (fun p => if p.index == index then f p else p) }

/-- W_m of a group and port changes (R560). -/
def addGranted (g : Group) (p : Nat) (n : Int) (w : Work) : Work :=
  w.up fun h => { h with conserve := { h.conserve with granted := tabMod 0 h.conserve.granted (8 * g.slot + p) (fun v => ((v : Int) + n).toNat) } }

/-- `CANCEL` of every reservation of an operation (R298, R307). -/
def cancelReserves (g : Group) (o : CollOp) (w : Work) : Work :=
  forEach o.reserves (fun r w =>
    sendRecord g r.port (windowRecord 6 (o.frame % 256) (o.ordinal % 256) 0 g.id r.piece r.bytes)
      (when r.granted (addGranted g r.port (-(r.bytes : Int))) w)) w

/-! ## Ends -/

/-- The completion record, the counter and the counts of a member's part (R293, R312, R545). `write` is false where the record's range
breaks R67. -/
def completeColl (core : Nat) (desc : List Byte) (wc bundle issuedAt pieces dropped part ordinal status cause : Nat) (floor write : Bool) (w : Work) : Work :=
  let (t, rs) := stampOf w.hw (coreRegion core)
  let c := coreOf w.hw core
  let rec_ := leBytes 8 t ++ slice desc 4 4 ++ leBytes 2 c.ctx ++ leBytes 1 (dOp desc) ++ leBytes 1 status ++ leBytes 4 pieces
    ++ leBytes 2 cause ++ leBytes 1 (b2n floor + 2 * b2n rs) ++ zeros 1 ++ leBytes 4 (min dropped 0xFFFFFFFF) ++ zeros 4
  let w1 := when write (fun w => w.write (stagingKey (spireOf core) (field desc 0x24 4)) rec_) w
  let w2 := when (status != 0) (bump 4 (4 + part) 1) (bump 4 part 1 w1)
  let dur := w.hw.time.now - issuedAt
  let w3 := tracePlan c.plan 3 (coreRegion core) 0x07 0 c.ctx core
    (slice desc 4 4 ++ leBytes 1 (dOp desc) ++ leBytes 1 status ++ leBytes 1 ordinal ++ zeros 1 ++ leBytes 4 pieces
      ++ leBytes 4 (min dur 0xFFFFFFFF)) w2
  raiseWc core wc 1 bundle 4 (sample 7 (field desc 4 4) dur w3)

/-- The cause member that a part's record names. -/
def causeOf (o : CollOp) (cause : Nat) : Nat := if cause != 0xFFFF then cause else o.floor.getD 0xFFFF

/-- A part of an operation ends with a status (R293). -/
def endPart (o : CollOp) (q : CollPart) (status cause : Nat) (w : Work) : Work :=
  if q.ended then w
  else
    let now := (findOp w.hw o.group o.frame o.ordinal).getD o
    let o' := modPart q.index (fun x => { x with ended := true, data := [] }) now
    completeColl q.core q.desc q.wc q.bundle q.issuedAt q.pieces q.dropped o.part o.ordinal status (causeOf o cause) o.floor.isSome true (putOp o' w)

/-- The operation stops on this module: its parts end with a status, and a flag tells the member that met it itself (R307). -/
def stopOp (g : Group) (o : CollOp) (status cause : Nat) (w : Work) : Work :=
  if o.stop.isSome then w
  else
    let w1 := putOp { o with stop := some (status, cause), reserves := [], got := [], results := [] } w
    forEach o.parts (fun q w => endPart { o with stop := some (status, cause) } q status cause w)
      (if o.reserves.isEmpty then w1
       else forEach o.reserves (fun r w => when r.granted (addGranted g r.port (-(r.bytes : Int))) w) w1)

/-- `ABORT` leaves to the group, here and on the rack-record queue pairs (R307). -/
def sendAbort (g : Group) (o : CollOp) (status cause : Nat) (w : Work) : Work :=
  let rec_ := windowRecord 7 (o.frame % 256) (o.ordinal % 256) status g.id 0 (cause % 65536)
  let w1 := when (hasTray w.hw g) (sendRecordAll g rec_) w
  when (spansRacks w.hw g && isLeader w.hw g) (sendRackRecord g o rec_) w1

/-- A status that other members take over as it is (R307). -/
def carriedStatus (status : Nat) : Nat := if status = 6 ∨ status = 7 ∨ status = 0x0B then status else 8

/-- A member's part meets a status itself: it ends with that status, the others here as told, and the group is told (R307). -/
def failOp (g : Group) (o : CollOp) (index status : Nat) (w : Work) : Work :=
  if o.stop.isSome then w
  else
    let w1 := sendAbort g o status index (cancelReserves g o w)
    let w2 := match o.parts.find? (fun q => q.index == index) with
      | some q => endPart o q status 0xFFFF w1
      | none => w1
    let o2 := (findOp w2.hw o.group o.frame o.ordinal).getD o
    stopOp g { o2 with reserves := [] } (carriedStatus status) index w2

/-- The whole operation fails on this module for a cause no one member names: a link or a queue pair (R307, R469). -/
def failAll (g : Group) (o : CollOp) (status : Nat) (w : Work) : Work :=
  if o.stop.isSome then w
  else
    let cause := (o.parts.head?.map (fun q => q.index)).getD 0xFFFF
    stopOp g { o with reserves := [] } status 0xFFFF (sendAbort g o status cause (cancelReserves g o w))

/-! ## Delivery (R289, R292, R303 to R305) -/

/-- The result pieces of a member's part in the order R292 counts them. -/
def resultPieces (g : Group) (o : CollOp) (q : CollPart) : List Nat :=
  let m := groupSize g
  match dOp q.desc with
  | 2 =>
    let share := dCount q.desc / max 1 m
    let pv := pieceValues g (dExact q.desc)
    (List.range (redPieces g o)).filter (fun p => p * pv < (q.index + 1) * share && q.index * share < (p + 1) * pv)
  | 3 => List.range m
  | 4 => (List.range m).map (fun s => s * m + q.index)
  | 5 => List.range (ceilDiv (dCount q.desc) (castBytes g))
  | _ => List.range (redPieces g o)

/-- The pieces of a part beyond those R292 counts: the count vector of an all-to-all. -/
def extraPieces (g : Group) (o : CollOp) (q : CollPart) : List Nat :=
  if dOp q.desc = 4 then (List.range (redPieces g o)).map (· + redBase g o) else []

/-- A result value in the output format (R300, R301). -/
def outValue (d : List Byte) (v : Nat) : List Byte :=
  let f := field d 3 1
  leBytes (outBytes d) (if dExact d then encodeElem f .nearest (plateVal v) else convertElem 0 f .nearest v)

/-- The stores of a result piece at a part: (memory key, bytes). -/
def pieceStores (g : Group) (q : CollPart) (piece : Nat) (bytes : List Byte) (aux : Nat) : List (Nat × List Byte) :=
  let recv := addrKey q.core (field q.desc 16 8)
  let m := groupSize g
  let stage := stagingKey (spireOf q.core) (field q.desc 0x20 4)
  match dOp q.desc with
  | 1 =>
    let pv := pieceValues g (dExact q.desc)
    [(recv + piece * pv * outBytes q.desc, (valuesOf (dExact q.desc) bytes).flatMap (outValue q.desc))]
  | 2 =>
    let pv := pieceValues g (dExact q.desc)
    let share := dCount q.desc / max 1 m
    let lo := q.index * share
    let first := max lo (piece * pv)
    let n := min ((q.index + 1) * share) ((piece + 1) * pv) - first
    let vs := ((valuesOf (dExact q.desc) bytes).drop (first - piece * pv)).take n
    [(recv + (first - lo) * outBytes q.desc, vs.flatMap (outValue q.desc))]
  | 3 => [(recv + piece * dCount q.desc, bytes)]
  | 4 =>
    if piece < m * m then
      let s := piece / m
      [(recv + s * dCount q.desc * dRecord q.desc, bytes), (stage + countArray m + 4 * s, leBytes 4 aux)]
    else
      [(stage + 3 * countArray m + 4 * (piece - m * m) * pieceValues g false, bytes)]
  | _ => [(recv + piece * castBytes g, bytes)]

/-- Bytes of `RECV` that a result piece of an all-gather or broadcast covers. -/
def pieceSpan (g : Group) (q : CollPart) (piece : Nat) : Nat × Nat :=
  if dOp q.desc = 3 then (piece * dCount q.desc, (piece + 1) * dCount q.desc)
  else (piece * castBytes g, min (dCount q.desc) ((piece + 1) * castBytes g))

/-- The stream pieces that are complete and not yet marked (R305). -/
def streamReady (g : Group) (o : CollOp) (q : CollPart) : List Nat :=
  if !dStream q.desc then []
  else
    let pb := field q.desc 0x2C 4
    let total := (collSizes q.desc (groupSize g) q.index 0).2
    (List.range (total / max 1 pb)).filter (fun p => !q.marked.contains p
      && (resultPieces g o q).all (fun r =>
        let sp := pieceSpan g q r
        sp.2 ≤ p * pb || (p + 1) * pb ≤ sp.1 || q.written.contains r))

/-- A stream piece is marked in the ready map and its counter raised (R167); none when the map cannot be read. -/
def markPiece (q : CollPart) (p : Nat) (w : Work) : Option Work :=
  let k := stagingKey (spireOf q.core) (field q.desc 0x28 4)
  if !w.good k 16 then none
  else some (raiseWc q.core (field q.desc 0x30 1 % 32) 1 q.bundle 4 (w.writeNum k 16 (w.num k 16 ||| 2 ^ p)))

/-- Mark the stream pieces of a list; the flag tells that the map could not be read. -/
def markAll (q : CollPart) : List Nat → Work → Work × Bool
  | [], w => (w, true)
  | p :: ps, w =>
    match markPiece q p w with
    | none => (w, false)
    | some w1 => markAll q ps w1

/-- The length of the longest run of counted pieces. -/
def countedPrefix (written : List Nat) : List Nat → Nat
  | [] => 0
  | p :: ps => if written.contains p then 1 + countedPrefix written ps else 0

/-- A part receives the result pieces known and not yet written (R292, R305). The flag tells that its stream map failed. -/
def deliverPart (g : Group) (o : CollOp) (q : CollPart) (w : Work) : Work × CollPart × Bool :=
  let wanted := resultPieces g o q ++ extraPieces g o q
  let fresh := o.results.filter (fun r => wanted.contains r.1 && !q.written.contains r.1)
  let w1 := forEach fresh (fun r w => forEach (pieceStores g q r.1 r.2.1 r.2.2) (fun s w => w.write s.1 s.2) w) w
  let q1 := { q with written := q.written ++ fresh.map (fun r => r.1) }
  let ready := streamReady g o q1
  let (w2, ok) := markAll q1 ready w1
  let counted := countedPrefix q1.written (resultPieces g o q1)
  let n := counted - q.pieces
  let w3 := if dProgress q.desc && 0 < n then raiseWc q.core (field q.desc 0x31 1 % 32) n q.bundle 4 w2 else w2
  let arrived := if dOp q.desc = 4 then (fresh.filter (fun r => r.1 < groupSize g * groupSize g)).foldl (fun n r => n + r.2.2) 0 else 0
  let w4 := tally 1 (fun t => { t with delivered := t.delivered + arrived }) w3
  (w4, { q1 with marked := q1.marked ++ ready, pieces := counted }, ok)

/-! ## Progress of an operation (R294 to R304) -/

/-- A part's own unit of data on the planes: piece key, port number seed, bytes, aux, destination word. -/
structure OutUnit where
  key : Nat
  seed : Nat
  member : Nat
  bytes : List Byte
  aux : Nat
  dest : Nat

/-- The block from source part q to destination member d, padded to C records (R304). -/
def blockOf (q : CollPart) (d : Nat) : List Byte × Nat :=
  let c := dCount q.desc
  let rb := dRecord q.desc
  let cnt := (q.counts[d]?).getD 0
  let n := min cnt c
  let off := rb * (q.counts.take d).foldl (· + ·) 0
  ((q.data.drop off).take (n * rb) ++ List.replicate ((c - n) * rb) (0xFF : Byte), n)

/-- The data a begun part contributes to an all-gather, broadcast or all-to-all, toward every member. -/
def partUnits (g : Group) (q : CollPart) : List OutUnit :=
  let m := groupSize g
  match dOp q.desc with
  | 3 => [⟨q.index, q.index, q.index, q.data, 0, 0⟩]
  | 4 => (numbered 0 g.members).map (fun d =>
      let b := blockOf q d.1
      ⟨q.index * m + d.1, q.index + d.1, q.index, b.1, b.2, d.2⟩)
  | 5 =>
    if q.index = field q.desc 0x1E 2 then
      (numbered 0 (chunksOf (castBytes g) (q.data.length / castBytes g + 1) q.data)).map (fun c => ⟨c.1, c.1, q.index, c.2, 0, 0⟩)
    else []
  | _ => []

/-- The first flit number of a unit on the planes. -/
def firstFlit (g : Group) (op key : Nat) : Nat := if op = 5 then key * (g.window / 448) else 0

/-- A gather unit leaves on its port (R295, R296). -/
def sendGather (g : Group) (o : CollOp) (u : OutUnit) (global : Bool) (w : Work) : Work :=
  let op := dOp (opDesc o)
  sendUnit g o (portOfPiece g u.seed) 3 7 op (2 * b2n global) (firstFlit g op u.key)
    (if op = 5 then field (opDesc o) 0x1E 2 else u.member) u.aux (if op = 4 then u.dest else 0) 224 u.bytes w

/-- A gather unit goes to the leader of a rack. -/
def rackGather (g : Group) (o : CollOp) (rack : Nat) (u : OutUnit) (w : Work) : Work :=
  let op := dOp (opDesc o)
  sendRack g o rack op 2 (if op = 5 then u.key * ceilDiv (castBytes g) 4080 else 0)
    (if op = 5 then field (opDesc o) 0x1E 2 else u.member) u.aux (if op = 4 then u.dest else 0) 4080 u.bytes w

/-- The result pieces as units: what a leader passes on. -/
def resultUnits (g : Group) (o : CollOp) : List OutUnit :=
  let m := groupSize g
  let op := dOp (opDesc o)
  o.results.filterMap (fun r =>
    if op = 3 then some ⟨r.1, r.1, r.1, r.2.1, 0, 0⟩
    else if op = 5 then some ⟨r.1, r.1, field (opDesc o) 0x1E 2, r.2.1, 0, 0⟩
    else if op = 4 && r.1 < m * m then some ⟨r.1, r.1 / m + r.1 % m, r.1 / m, r.2.1, r.2.2, (g.members[r.1 % m]?).getD 0⟩
    else none)

/-- The rack in which a unit's data originates. -/
def unitRack (g : Group) (u : OutUnit) : Nat := rackOf ((g.members[u.member]?).getD 0)

/-- Markers of `sent`: a unit sent to the racks, and one injected into the own rack. -/
def rackMark (key : Nat) : Nat := 2 ^ 40 + key
/-- See `rackMark`. -/
def injectMark (key : Nat) : Nat := 2 ^ 41 + key

/-- Send units in order, noting each in `sent`. -/
def sendMarked (mark : OutUnit → Nat) (act : OutUnit → Work → Work) (us : List OutUnit) (ow : CollOp × Work) : CollOp × Work :=
  us.foldl (fun acc u => if acc.1.sent.contains (mark u) then acc else ({ acc.1 with sent := acc.1.sent ++ [mark u] }, act u acc.2)) ow

/-- Operations 3 to 5: local exchange, the tray, and the racks. -/
def driveGather (g : Group) (o : CollOp) (w : Work) : CollOp × Work :=
  let op := dOp (opDesc o)
  if !(op = 3 ∨ op = 4 ∨ op = 5) then (o, w)
  else
    let hw := w.hw
    let units := o.parts.flatMap (partUnits g)
    let isLocal (u : OutUnit) : Bool := op != 4 || isOwnEndpoint hw (u.dest % 2 ^ 18)
    let fresh := (units.filter isLocal).filter (fun u => !o.results.any (fun r => r.1 == u.key) && !o.sent.contains (2 ^ 42 + u.key))
    let o1 := { o with
      results := o.results ++ fresh.map (fun u => (u.key, u.bytes, u.aux))
      sent := o.sent ++ fresh.map (fun u => 2 ^ 42 + u.key) }
    let tray := hasTray hw g
    -- the 0-byte reservations
    let (o2, w2) :=
      if tray && !o1.asked then
        ({ o1 with
            asked := true
            reserves := o1.reserves ++ (groupPorts g).map (fun p => (⟨p, 0, 0, false, hw.time.now⟩ : Reserve)) },
          sendRecordAll g (windowRecord 4 (o.frame % 256) (o.ordinal % 256) 0 g.id 0 0) w)
      else (o1, w)
    -- own data on the open ports
    let spans := spansRacks hw g
    let leader := isLeader hw g
    let onPlane (u : OutUnit) : Bool := op != 4 || (!isOwnEndpoint hw (u.dest % 2 ^ 18) && (rackOf u.dest == ownRack hw || !leader))
    let ready (u : OutUnit) : Bool := o2.opened.contains (portOfPiece g u.seed)
    let s3 := if tray then sendMarked (fun u => u.key) (fun u w => sendGather g o u false w)
      (units.filter (fun u => onPlane u && ready u)) (o2, w2) else (o2, w2)
    if !(spans && leader) then s3
    else
      -- data of this rack to the other racks' leaders
      let all := units.filter (fun u => !isLocal u) ++ resultUnits g s3.1
      let outward := all.filter (fun u => unitRack g u == ownRack hw && (op != 4 || rackOf u.dest != ownRack hw))
      let s4 := sendMarked (fun u => rackMark u.key) (fun u w =>
        if op = 4 then rackGather g o (rackOf u.dest) u w
        else forEach (otherRacks hw g) (fun r w => rackGather g o r u w) w) outward s3
      -- data of other racks into this one
      let inward := (resultUnits g s4.1).filter (fun u => unitRack g u != ownRack hw
        && (op != 4 || (rackOf u.dest == ownRack hw && !isOwnEndpoint hw (u.dest % 2 ^ 18))) && ready u)
      if hasRackPeer hw g then sendMarked (fun u => injectMark u.key) (fun u w => sendGather g o u true w) inward s4 else s4

/-- Every unit a part contributes has left the module where it must. -/
def unitsLeft (hw : Hw) (g : Group) (o : CollOp) (q : CollPart) : Bool :=
  let op := dOp q.desc
  let leader := isLeader hw g
  !hasTray hw g || !(op = 3 ∨ op = 4 ∨ op = 5)
    || (partUnits g q).all (fun u => o.sent.contains u.key
        || (op == 4 && (isOwnEndpoint hw (u.dest % 2 ^ 18) || (rackOf u.dest != ownRack hw && leader))))

/-- The rack result of a reduction piece at the root leader is complete: the global result goes out (R294). -/
def globalResult (g : Group) (p : Nat) (bytes : List Byte) (ow : CollOp × Work) : CollOp × Work :=
  let o := ow.1
  let key := redBase g o + p
  let exact := redExact o
  let chunk := if exact then 4080 else 4080
  let per := ceilDiv (pieceValues g exact * valueBytes exact) chunk
  let w1 := if ownRack ow.2.hw = rootRack g then
      forEach (otherRacks ow.2.hw g) (fun r w => sendRack g o r (redOp o) (3 + 4 * redArith o) (p * per) 0 0 0 chunk bytes w) ow.2
    else ow.2
  let w2 := if hasRackPeer w1.hw g then
      sendUnit g o (portOfPiece g p) 2 6 (redOp o) (3 + 4 * redArith o) (p * pieceFlits g exact) 0 0 0 (flitValues exact * valueBytes exact) bytes w1
    else w1
  ({ o with results := o.results ++ [(key, bytes, 0)] }, w2)

/-- The result of the module's rack for a reduction piece is known (R294). -/
def rackResult (g : Group) (p : Nat) (bytes : List Byte) (ow : CollOp × Work) : CollOp × Work :=
  let o := ow.1
  let hw := ow.2.hw
  if !spansRacks hw g then ({ o with results := o.results ++ [(redBase g o + p, bytes, 0)] }, ow.2)
  else if !isLeader hw g then ow
  else if ownRack hw = rootRack g then
    let o1 := { o with racksIn := o.racksIn ++ [(ownRack hw, p, bytes)] }
    tryGlobal o1
  else
    let exact := redExact o
    let per := ceilDiv (pieceValues g exact * valueBytes exact) 4080
    (o, sendRack g o (rootRack g) (redOp o) (1 + 4 * redArith o) (p * per) 0 0 0 4080 bytes ow.2)
where
  tryGlobal (o1 : CollOp) : CollOp × Work :=
    let ins := o1.racksIn.filter (fun r => r.2.1 == p)
    if ins.length = (otherRacks ow.2.hw g).length + 1 then
      match ins with
      | [] => (o1, ow.2)
      | x :: xs => globalResult g p (xs.foldl (fun a b => combineBytes (redArith o1) a b.2.2) x.2.2) (o1, ow.2)
    else (o1, ow.2)

/-- Reservations of the group on a port: at most two at a time (R298). -/
def portLoad (hw : Hw) (g : Group) (p : Nat) : Nat :=
  ((hw.coll.ops.filter (fun o => o.group == g.id)).flatMap (fun o => o.reserves.filter (fun r => r.port == p && r.bytes != 0))).length

/-- The reduction pieces of an operation are reserved, or combined within the module (R294, R298). -/
def driveReduce (g : Group) (o : CollOp) (w : Work) : CollOp × Work :=
  let op := dOp (opDesc o)
  let locals := localMembers w.hw g
  let allBegun := locals.all (fun l => o.parts.any (fun q => q.index == l.1))
  let ready := allBegun && (op = 1 ∨ op = 2 ∨ (op = 4 ∧ o.parts.all (unitsLeft w.hw g o)))
  if !ready then (o, w)
  else
    let exact := redExact o
    (List.range (redPieces g o)).foldl (fun (acc : CollOp × Work) p =>
      let key := redBase g o + p
      if acc.1.sent.contains key then acc
      else if hasTray acc.2.hw g then
        let port := portOfPiece g p
        let mine := (acc.1.reserves.filter (fun r => r.port == port && r.bytes != 0)).length
        let others := portLoad ((putOp { acc.1 with reserves := [] } acc.2).hw) g port
        if 2 ≤ mine + others then acc
        else
          let bytes := redValues g o p * valueBytes exact
          ({ acc.1 with
              sent := acc.1.sent ++ [key]
              reserves := acc.1.reserves ++ [⟨port, p, bytes, false, acc.2.hw.time.now⟩] },
            sendRecord g port (windowRecord 4 (o.frame % 256) (o.ordinal % 256) 0 g.id p bytes) acc.2)
      else rackResult g p (modulePartial g acc.1 p) ({ acc.1 with sent := acc.1.sent ++ [key] }, acc.2)) (o, w)

/-- A part has all its results and all its data has left (R293). -/
def partDone (hw : Hw) (g : Group) (o : CollOp) (q : CollPart) : Bool :=
  (resultPieces g o q ++ extraPieces g o q).all (fun p => q.written.contains p) && unitsLeft hw g o q

/-- Deliver to every part and end those that are complete. -/
def deliverAll (g : Group) (o : CollOp) (w : Work) : Work :=
  (o.parts.map (fun q => q.index)).foldl (fun w i =>
    match findOp w.hw o.group o.frame o.ordinal with
    | none => w
    | some o1 =>
      match o1.parts.find? (fun q => q.index == i) with
      | none => w
      | some q =>
        if q.ended || o1.stop.isSome then w
        else
          let (w1, q1, ok) := deliverPart g o1 q w
          let o2 := modPart i (fun _ => q1) o1
          let w2 := putOp o2 w1
          if !ok then failOp g o2 i 0x0A w2
          else if partDone w2.hw g o2 q1 then endPart o2 q1 0 0xFFFF w2
          else w2) (putOp o w)

/-- Reservations that a port had no room for are sent as soon as one is returned (R298): every operation of a group. -/
def reserveNext (group : Nat) (w : Work) : Work :=
  match findGroup w.hw group with
  | none => w
  | some g => forEach (w.hw.coll.ops.filter (fun o => o.group == group)) (fun o w =>
      match findOp w.hw group o.frame o.ordinal with
      | none => w
      | some o1 =>
        if o1.stop.isSome || o1.parts.isEmpty then w
        else
          let r := driveReduce g o1 w
          if r.1 = o1 then w else putOp r.1 r.2) w

/-- An operation goes as far as it can, and with it the reservations of its group that wait for a place (R298). -/
def driveOp (group frame ordinal : Nat) (w : Work) : Work :=
  reserveNext group (match findGroup w.hw group, findOp w.hw group frame ordinal with
  | some g, some o =>
    if o.stop.isSome || o.parts.isEmpty then w
    else
      let (o1, w1) := driveGather g o w
      let (o2, w2) := driveReduce g o1 w1
      deliverAll g o2 w2
  | _, _ => w)

/-! ## Flits and records received -/

/-- Received data joins what an operation holds of a piece; the whole piece once its bytes are all there. -/
def assemble (o : CollOp) (key source flitNo expected aux : Nat) (bytes : List Byte) : CollOp × Option (List Byte) :=
  let k := 2048 * key + source
  let got := o.got ++ [(k, flitNo, bytes, aux)]
  let mine := sortBy (fun e => e.2.1) (got.filter (fun e => e.1 == k))
  let data := mine.flatMap (fun e => e.2.2.1)
  if expected ≤ data.length then ({ o with got := got.filter (fun e => e.1 != k) }, some (data.take expected))
  else ({ o with got := got }, none)

/-- The reservation of a piece is returned (R298). -/
def returnReserve (g : Group) (p : Nat) (ow : CollOp × Work) : CollOp × Work :=
  match ow.1.reserves.find? (fun r => r.piece == p && r.bytes != 0) with
  | none => ow
  | some r =>
    ({ ow.1 with reserves := removeFirst (fun x => x.piece == p && x.bytes != 0) ow.1.reserves },
      addGranted g r.port (-(r.bytes : Int)) ow.2)

/-- A result or partial of a reduction arrives (R294, R298). -/
def takeReduce (g : Group) (o : CollOp) (e : EarlyFlit) (w : Work) : Work :=
  let h := e.payload
  let data := h.drop 16
  let exact := redExact o
  let flitNo := field h 8 4
  let full := pieceValues g exact * valueBytes exact
  let per := if e.rack.isSome then ceilDiv full 4080 else pieceFlits g exact
  let p := flitNo / max 1 per
  let expected := redValues g o p * valueBytes exact
  let global := bit (field h 7 1) 1
  match assemble o (redBase g o + p) (match e.rack with | some r => r + 1 | none => 0) flitNo expected 0 data with
  | (o1, none) => putOp o1 w
  | (o1, some bytes) =>
    let (o2, w2) :=
      match e.rack with
      | some r =>
        if global then globalResult g p bytes (o1, w)
        else
          let o2 := { o1 with racksIn := o1.racksIn ++ [(r, p, bytes)] }
          rackResult.tryGlobal g p (o2, w) o2
      | none =>
        if global then returnReserve g p ({ o1 with results := o1.results ++ [(redBase g o + p, bytes, 0)] }, w)
        else
          returnReserve g p (rackResult g p bytes (o1, w))
    driveOp o.group o.frame o.ordinal (putOp o2 w2)

/-- A slice, block or piece of a gather arrives (R296, R305). -/
def takeGather (g : Group) (o : CollOp) (e : EarlyFlit) (w : Work) : Work :=
  let h := e.payload
  let data := h.drop 16
  let d := opDesc o
  let m := groupSize g
  let flitNo := field h 8 4
  let member := field h 12 2
  let aux := field h 14 2
  let (key, expected) := match dOp d with
    | 3 => (member, dCount d)
    | 4 =>
      let dst := (g.members.findIdx? (fun x => x == e.dest % 2 ^ 24)).getD 0
      (member * m + dst, dCount d * dRecord d)
    | _ =>
      let per := if e.rack.isSome then ceilDiv (castBytes g) 4080 else g.window / 448
      let p := flitNo / max 1 per
      (p, min (castBytes g) (dCount d - p * castBytes g))
  match assemble o key 0 flitNo expected aux data with
  | (o1, none) => putOp o1 w
  | (o1, some bytes) =>
    let w1 := when (dOp d == 4) (tally 1 (fun t => { t with arrived := t.arrived + aux })) w
    driveOp o.group o.frame o.ordinal (putOp { o1 with results := o1.results ++ [(key, bytes, aux)] } w1)

/-- A group's frame on this module: the frame its members execute, between frames the next one, whose predecessors have ended (R306). -/
def groupFrame (hw : Hw) (g : Group) : Nat :=
  match findPlan hw g.plan with
  | none => 0
  | some p => match p.frame with
    | some f => f.number
    | none => if p.lastStarted = 0 then p.firstFrame.getD 0 else p.lastStarted + 1

/-- The frame a tag names, seen from the local members' frame; none when it is older (R306). -/
def tagFrame (hw : Hw) (g : Group) (tag : Nat) : Option Nat :=
  let f := groupFrame hw g
  let d := (tag + 256 - f % 256) % 256
  if d < 128 then some (f + d) else none

/-- A rack leader has passed on everything of an operation: every result is known here and every block and slice is on its way to its rack
(R294, R306). -/
def relayed (hw : Hw) (g : Group) (o : CollOp) : Bool :=
  let m := groupSize g
  let op := dOp (opDesc o)
  let known (key : Nat) : Bool := o.results.any (fun r => r.1 == key)
  let reduced := (List.range (redPieces g o)).all (fun p => known (redBase g o + p))
  let own (i : Nat) : Bool := rackOf ((g.members[i]?).getD 0) == ownRack hw
  let here (i : Nat) : Bool := isOwnEndpoint hw ((g.members[i]?).getD 0 % 2 ^ 18)
  let injected := !hasRackPeer hw g || (resultUnits g o).all (fun u => unitRack g u == ownRack hw || o.sent.contains (injectMark u.key)
    || (op == 4 && (rackOf u.dest != ownRack hw || isOwnEndpoint hw (u.dest % 2 ^ 18))))
  match op with
  | 3 => (List.range m).all known && injected
  | 5 => (List.range (ceilDiv (dCount (opDesc o)) (castBytes g))).all known && injected
  | 4 => reduced && injected && (List.range m).all (fun s => (List.range m).all (fun d =>
      known (s * m + d) || o.sent.contains (rackMark (s * m + d)) || (own s && own d && !here d) || (!own s && !own d)))
  | _ => reduced

/-- The operation has ended on this module, which passes nothing of it on any more (R306). -/
def opOver (hw : Hw) (g : Group) (o : CollOp) : Bool :=
  o.stop.isSome || (!o.parts.isEmpty && o.parts.all (fun q => q.ended)
    && (localMembers hw g).all (fun l => o.parts.any (fun q => q.index == l.1))
    && (!(isLeader hw g && spansRacks hw g) || relayed hw g o))

/-- A collective flit that the link layer accepted, or data of another rack's leader: delivered, kept or discarded (R306). -/
def takeColl (e : EarlyFlit) (w : Work) : Work :=
  let h := e.payload
  match findGroup w.hw (field h 0 4) with
  | none => bump 4 8 1 w
  | some g =>
    match tagFrame w.hw g (field h 4 1) with
    | none => bump 4 8 1 w
    | some frame =>
      match findOp w.hw g.id frame (field h 5 1) with
      | none => w.up fun hw => { hw with coll := { hw.coll with early := hw.coll.early ++ [{ e with frame := frame }] } }
      | some o =>
        if opOver w.hw g o then bump 4 8 1 w
        else if o.parts.isEmpty then
          w.up fun hw => { hw with coll := { hw.coll with early := hw.coll.early ++ [{ e with frame := frame }] } }
        else if e.reduce then takeReduce g o e w
        else takeGather g o e w

/-- Data that waited for its operation is taken now. -/
def takeEarly (g : Group) (frame ordinal : Nat) (w : Work) : Work :=
  let mine (e : EarlyFlit) : Bool := field e.payload 0 4 == g.id && e.frame == frame && field e.payload 5 1 == ordinal
  let l := w.hw.coll.early.filter mine
  forEach l takeColl (w.up fun h => { h with coll := { h.coll with early := h.coll.early.filter (fun e => !mine e) } })

/-- `GRANT`: the piece's flits may be sent, or the port is open (R298). -/
def takeGrant (p : Nat) (r : List Byte) (w : Work) : Work :=
  match findGroup w.hw (field r 4 4) with
  | none => bump 4 8 1 w
  | some g =>
    match (tagFrame w.hw g (field r 1 1)).bind (fun f => findOp w.hw g.id f (field r 2 1)) with
    | none => bump 4 8 1 w
    | some o =>
      let piece := field r 8 4
      let bytes := field r 12 4
      match o.reserves.find? (fun x => x.port == p && x.piece == piece && x.bytes == bytes && !x.granted) with
      | none => bump 4 8 1 w
      | some x =>
        let waited := w.hw.time.now - x.since
        let w1 := sample 9 p waited (noteCrossing g p w)
        if bytes = 0 then
          let o1 := { o with opened := o.opened ++ [p], reserves := removeFirst (fun y => y == x) o.reserves }
          driveOp o.group o.frame o.ordinal (putOp o1 w1)
        else
          let o1 := { o with reserves := o.reserves.map (fun y => if y == x then { y with granted := true } else y) }
          let exact := redExact o
          let w2 := addGranted g p bytes (putOp o1 w1)
          driveOp o.group o.frame o.ordinal
            (sendUnit g o1 p 2 6 (redOp o) (4 * redArith o) (piece * pieceFlits g exact) 0 0 0
              (flitValues exact * valueBytes exact) (modulePartial g o1 piece) w2)

/-- An `ABORT` received ends the operation with the carried status (R307); leaders pass it on. -/
def takeAbort (fromRack : Bool) (r : List Byte) (w : Work) : Work :=
  match findGroup w.hw (field r 4 4) with
  | none => bump 4 8 1 w
  | some g =>
    match tagFrame w.hw g (field r 1 1) with
    | none => bump 4 8 1 w
    | some frame =>
      let o := getOp w.hw g frame (field r 2 1)
      if opOver w.hw g o then bump 4 8 1 w
      else
        let w1 := if isLeader w.hw g && spansRacks w.hw g then
            (if fromRack then when (hasRackPeer w.hw g) (sendRecordAll g (slice r 0 16)) w else sendRackRecord g o (slice r 0 16) w)
          else w
        reserveNext g.id (stopOp g o (carriedStatus (field r 3 1)) (field r 12 2) (putOp o w1))

/-- An `ABSENT` received ends the frame's operations on the group (R308). -/
def takeAbsent (fromRack : Bool) (r : List Byte) (w : Work) : Work :=
  match findGroup w.hw (field r 4 4) with
  | none => bump 4 8 1 w
  | some g =>
    match tagFrame w.hw g (field r 1 1) with
    | none => bump 4 8 1 w
    | some frame =>
      let m := field r 12 2
      let o0 := freshOp g frame 0
      let w1 := w.up fun h => { h with coll := { h.coll with absent := h.coll.absent ++ [(g.id, frame, m)] } }
      let w2 := if isLeader w.hw g && spansRacks w.hw g then
          (if fromRack then when (hasRackPeer w.hw g) (sendRecordAll g (slice r 0 16)) w1 else sendRackRecord g o0 (slice r 0 16) w1)
        else w1
      forEach (w2.hw.coll.ops.filter (fun o => o.group == g.id && o.frame == frame)) (fun o w =>
        stopOp g ((findOp w.hw o.group o.frame o.ordinal).getD o) 9 m w) w2

/-- A `FLOOR_NOTICE` names a member below the floor (R311). -/
def takeFloor (fromRack : Bool) (r : List Byte) (w : Work) : Work :=
  match findGroup w.hw (field r 4 4) with
  | none => bump 4 8 1 w
  | some g =>
    match tagFrame w.hw g (field r 1 1) with
    | none => bump 4 8 1 w
    | some frame =>
      let o := getOp w.hw g frame (field r 2 1)
      if opOver w.hw g o then bump 4 8 1 w
      else
        let m := field r 12 2
        let w1 := if isLeader w.hw g && spansRacks w.hw g then
            (if fromRack then when (hasRackPeer w.hw g) (sendRecordAll g (slice r 0 16)) w else sendRackRecord g o (slice r 0 16) w)
          else w
        putOp { o with floor := some (match o.floor with | some x => min x m | none => m) } w1

/-- The notice of a local member below the floor goes to the group, and holds here too (R311). -/
def sendFloor (g : Group) (o : CollOp) (index : Nat) (w : Work) : Work :=
  let rec_ := windowRecord 9 (o.frame % 256) (o.ordinal % 256) 0 g.id 0 index
  let w1 := when (hasTray w.hw g) (sendRecordAll g rec_) w
  let w2 := when (spansRacks w1.hw g && isLeader w1.hw g) (sendRackRecord g o rec_) w1
  putOp { o with floor := some (match o.floor with | some x => min x index | none => index) } w2

/-- LOWEST begins: every operation with a local member in it sends its notice (R311). -/
def floorAll (w : Work) : Work :=
  forEach w.hw.coll.ops (fun o w =>
    match findGroup w.hw o.group, findOp w.hw o.group o.frame o.ordinal with
    | some g, some o1 =>
      match least ((o1.parts.filter (fun q => !q.ended)).map (fun q => q.index)) with
      | some i => if o1.stop.isSome then w else sendFloor g o1 i w
      | none => w
    | _, _ => w) w

/-- `ADVERTISE`: the window a switch offers per group on a port (R298). -/
def takeAdvertise (p : Nat) (r : List Byte) (w : Work) : Work :=
  w.up fun h => { h with coll := { h.coll with window := tabSet 0 h.coll.window p (field r 12 4) } }

/-- Data or a record from another rack's leader (R294, R307): 16 B are a record. -/
def takeRack (qp : Nat) (imm : Nat) (data : List Byte) (w : Work) : Work :=
  match w.hw.coll.groups.findSome? (fun g => (g.racks.find? (fun r => r.2 == qp)).map (fun r => r.1)) with
  | none => w
  | some rack =>
    if data.length = 16 then
      match field data 0 1 with
      | 7 => takeAbort true data w
      | 8 => takeAbsent true data w
      | 9 => takeFloor true data w
      | _ => w
    else
      let op := field data 6 1
      takeColl { reduce := op == 1 || op == 2 || op == 6, dest := imm, rack := some rack, frame := 0, payload := data } w

/-- A queue pair serves a rack record (R284). -/
def isRackQp (hw : Hw) (qp : Nat) : Bool := hw.coll.groups.any (fun g => g.racks.any (fun r => r.2 == qp))

/-! ## The collective unit executes a descriptor (R290, R291) -/

/-- A count of operations by group, core and frame. -/
def ordinalOf (hw : Hw) (group core frame : Nat) : Nat :=
  ((hw.coll.ordinals.find? (fun e => e.1 == group && e.2.1 == core && e.2.2.1 == frame)).map (fun e => e.2.2.2)).getD 0

/-- The next ordinal has been taken. -/
def takeOrdinal (group core frame : Nat) (w : Work) : Work :=
  let n := ordinalOf w.hw group core frame
  w.up fun h => { h with coll := { h.coll with ordinals :=
    (group, core, frame, n + 1) :: h.coll.ordinals.filter (fun e => !(e.1 == group && e.2.1 == core && e.2.2.1 == frame)) } }

/-- The descriptor-level status of a descriptor: the first failing test of R290, 0 when none fails. -/
def collStatus (w : Work) (e : CollIssue) : Nat :=
  let d := e.desc
  if collMalformed d then 1
  else match findGroup w.hw (field d 4 4) with
    | none => 2
    | some g =>
      if g.plan != (coreOf w.hw e.core).plan then 2
      else match (localMembers w.hw g).find? (fun l => l.2 == e.core) with
        | none => 3
        | some (index, _) =>
          let m := groupSize g
          let arrays := dOp d != 4 || inGrant w.hw e.core (field d 0x20 4) (4 * countArray m)
          let sum := if dOp d = 4 && arrays then (sendCounts w e.core d m).foldl (· + ·) 0 else 0
          let sz := collSizes d m index sum
          let root := field d 0x1E 2
          let ok := arrays && collRange w.hw e.core (field d 8 8) sz.1 && collRange w.hw e.core (field d 16 8) sz.2
            && (!dStream d || inGrant w.hw e.core (field d 0x28 4) 16) && recordOk w.hw e.core d
          if !ok then 4
          else if !collShape d m index sz e.core || (dOp d == 5 && m ≤ root) then 1
          else if 256 ≤ ordinalOf w.hw g.id e.core e.frame then 0x0C
          else 0

/-- The ports that carry a piece of an operation to or from this module (R295): the sums p + `GROUP_ID` of its pieces. -/
def opPorts (hw : Hw) (g : Group) (o : CollOp) : List Nat :=
  let d := opDesc o
  let m := groupSize g
  let seeds : List Nat := match dOp d with
    | 3 => List.range m
    | 4 => (localMembers hw g).flatMap (fun (l : Nat × Nat) => (numbered 0 g.members).filterMap (fun (e : Nat × Nat) =>
        if isOwnEndpoint hw (e.2 % 2 ^ 18) then none else some (l.1 + e.1))) ++ List.range (redPieces g o)
    | 5 => List.range (ceilDiv (dCount d) (castBytes g))
    | _ => List.range (redPieces g o)
  (groupPorts g).filter (fun p => seeds.any (fun x => portOfPiece g x == p))

/-- The ports an operation uses are `ACTIVE`, and those of the group advertise its window (R293, R298): the status otherwise. -/
def portStatus (hw : Hw) (g : Group) (o : CollOp) : Nat :=
  if !hasTray hw g then 0
  else if (opPorts hw g o).any (fun p => (portOf hw p).state != .active) then 6
  else if (groupPorts g).any (fun p => tabGet 0 hw.coll.window p < g.window) then 5
  else 0

/-- The input of a part can be read: its bytes, or none at an uncorrectable error or a fence (R293, R468, R498). -/
def readInput (w : Work) (core : Nat) (d : List Byte) (n : Nat) : Option (List Byte) :=
  let word := field d 8 8
  if n = 0 then some []
  else if hitsFence w.hw core word || !w.good (addrKey core word) n then none
  else some (w.read (addrKey core word) n)

/-- The oldest descriptor a core has issued is executed, where its operation code is the one named or is unassigned (R288 to R291). -/
def runColl (op core : Nat) (w : Work) : Work :=
  match w.hw.coll.issued.find? (fun e => e.core == core) with
  | none => w
  | some e =>
    let d := e.desc
    if !(dOp d = op ∨ dOp d = 0 ∨ 5 < dOp d) then w
    else
      let w0 := w.up fun h => { h with coll := { h.coll with issued := removeFirst (fun x => x == e) h.coll.issued } }
      let st := collStatus w0 e
      let part := partOfCore w0.hw core
      let early (w : Work) (ordinal : Nat) (floor : Option Nat) : Work :=
        completeColl core d e.wc e.bundle e.issuedAt 0 0 part ordinal st (floor.getD 0xFFFF) floor.isSome (recordOk w.hw core d) w
      match findGroup w0.hw (field d 4 4) with
      | none => early w0 0 none
      | some g =>
        match (localMembers w0.hw g).find? (fun l => l.2 == core) with
        | none => early w0 0 none
        | some (index, _) =>
          if g.plan != (coreOf w0.hw core).plan then early w0 0 none
          else if st = 0x0C then
            -- the 257th operation of the frame: its ordinal does not fit the record, which carries it modulo 256 (log 39)
            sendAbort g (freshOp g e.frame 256) st index (early w0 0 none)
          else
            let ordinal := ordinalOf w0.hw g.id core e.frame
            let w1 := takeOrdinal g.id core e.frame w0
            let o := getOp w1.hw g e.frame ordinal
            if st ≠ 0 then
              -- the group learns that this member ends without a result
              let w2 := early w1 ordinal o.floor
              if o.stop.isSome then w2
              else reserveNext g.id (stopOp g { o with reserves := [] } 8 index (sendAbort g o st index (cancelReserves g o (putOp o w2))))
            else
              let m := groupSize g
              let counts := if dOp d = 4 then sendCounts w1 core d m else []
              let n := (collSizes d m index (counts.foldl (· + ·) 0)).1
              let dropped := (counts.map (fun c => c - dCount d)).foldl (· + ·) 0
              let q : CollPart := {
                core := core
                index := index
                desc := d
                wc := e.wc
                bundle := e.bundle
                issuedAt := e.issuedAt
                data := (readInput w1 core d n).getD []
                counts := counts
                written := []
                pieces := 0
                marked := []
                dropped := dropped
                ended := false }
              let o1 := { o with parts := o.parts ++ [q] }
              let ends (status cause : Nat) : Work := endPart o1 q status cause (putOp o1 w1)
              match o.stop with
              | some (s, c) => ends s c
              | none =>
                match w1.hw.coll.absent.find? (fun a => a.1 == g.id && a.2.1 == e.frame) with
                | some (_, _, a) => ends 9 a
                | none =>
                  let countsBad := dOp d == 4 && !w1.good (stagingKey (spireOf core) (field d 0x20 4)) (4 * m)
                  if (readInput w1 core d n).isNone || countsBad then failOp g o1 index 0x0A (putOp o1 w1)
                  else
                    let ps := portStatus w1.hw g o1
                    if ps ≠ 0 then failOp g o1 index ps (putOp o1 w1)
                    else
                      let w2 := putOp o1 w1
                      let w3 := if dOp d = 4 then
                          tally 1 (fun t => { t with issued := t.issued + counts.foldl (· + ·) 0, dropped := t.dropped + dropped })
                            (bumpSat 4 (9 + part) dropped
                              (w2.write (stagingKey (spireOf core) (field d 0x20 4) + 2 * countArray m)
                                (counts.flatMap (fun c => leBytes 4 (c - dCount d)))))
                        else w2
                      let w4 := if w3.hw.lantern.lowest.isEmpty then w3
                        else sendFloor g ((findOp w3.hw g.id e.frame ordinal).getD o1) index w3
                      takeEarly g e.frame ordinal (driveOp g.id e.frame ordinal w4)

/-! ## Ends from outside -/

/-- A port left `ACTIVE`: every operation with a piece on it ends with `LINK_DOWN` on every member (R307, R469). -/
def collLinkDown (p : Nat) (w : Work) : Work :=
  forEach w.hw.coll.ops (fun o w =>
    match findGroup w.hw o.group, findOp w.hw o.group o.frame o.ordinal with
    | some g, some o1 =>
      if !hasTray w.hw g || opOver w.hw g o1 || o1.parts.isEmpty || !(opPorts w.hw g o1).contains p then w
      else reserveNext g.id (failAll g o1 6 w)
    | _, _ => w) w

/-- A rack-record queue pair failed: operations of its group end with `REMOTE_FAILED` (R293). -/
def collQpFailed (qp : Nat) (w : Work) : Work :=
  forEach w.hw.coll.ops (fun o w =>
    match findGroup w.hw o.group, findOp w.hw o.group o.frame o.ordinal with
    | some g, some o1 =>
      if !(g.racks.any (fun r => r.2 == qp)) || opOver w.hw g o1 || o1.parts.isEmpty then w else reserveNext g.id (failAll g o1 0x0B w)
    | _, _ => w) w

/-- The descriptors of a plan that its cores issued and no unit has executed, each with its group, the index of its member and the ordinal
it would take (R291). -/
def unexecuted (hw : Hw) (plan frame : Nat) : List (Group × Nat × Nat × Nat) :=
  let mine := hw.coll.issued.filter (fun e => (coreOf hw e.core).plan == plan && e.frame ≤ frame)
  (numbered 0 mine).filterMap (fun e =>
    match findGroup hw (field e.2.desc 4 4) with
    | none => none
    | some g =>
      let before := ((mine.take e.1).filter (fun x => x.core == e.2.core && field x.desc 4 4 == g.id)).length
      match (localMembers hw g).find? (fun l => l.2 == e.2.core) with
      | none => none
      | some (index, _) => some (g, index, e.2.frame, ordinalOf hw g.id e.2.core e.2.frame + before))

/-- A plan's frame ends: the parts its members have not ended, executed or only issued, end without records, and the group learns it of each
(R307); what belonged to the frame is forgotten, and flits that still waited for it are discarded and counted (R306). -/
def collEndFrame (plan frame : Nat) (w : Work) : Work :=
  let w1 := forEach (w.hw.coll.ops.filter (fun o => o.plan == plan && o.frame ≤ frame)) (fun o w =>
    match findGroup w.hw o.group with
    | none => w
    | some g =>
      if o.stop.isSome then w
      else
        let open_ := o.parts.filter (fun q => !q.ended)
        if open_.isEmpty then w else forEach open_ (fun q w => sendAbort g o 8 q.index w) (cancelReserves g o w)) w
  let w2 := forEach (unexecuted w.hw plan frame) (fun x w =>
    if ((findOp w.hw x.1.id x.2.2.1 x.2.2.2).bind (fun o => o.stop)).isSome || 256 ≤ x.2.2.2 then w
    else sendAbort x.1 (freshOp x.1 x.2.2.1 x.2.2.2) 8 x.2.1 w) w1
  let groups := (w2.hw.coll.groups.filter (fun g => g.plan == plan)).map (fun g => g.id)
  let late (e : EarlyFlit) : Bool := groups.contains (field e.payload 0 4) && e.frame ≤ frame
  (bump 4 8 (w2.hw.coll.early.filter late).length w2).up fun h => { h with coll := { h.coll with
    ops := h.coll.ops.filter (fun o => !(o.plan == plan && o.frame ≤ frame))
    issued := h.coll.issued.filter (fun e => !((coreOf h e.core).plan == plan && e.frame ≤ frame))
    ordinals := h.coll.ordinals.filter (fun e => !(groups.contains e.1 && e.2.2.1 ≤ frame))
    early := h.coll.early.filter (fun e => !late e)
    absent := h.coll.absent.filter (fun a => !(groups.contains a.1 && a.2.1 ≤ frame)) } }

/-- A port has an ungranted reservation. -/
def ungranted (hw : Hw) (p : Nat) : Bool := hw.coll.ops.any (fun o => o.reserves.any (fun r => r.port == p && !r.granted))

/-- `WINDOW_WAIT_NS` of a port runs while it has an ungranted reservation (R312): the wait begins or ends here. -/
def markWait (p : Nat) (w : Work) : Work :=
  let since := tabGet 0 w.hw.coll.waitSince p
  let set (v : Nat) (w : Work) : Work := w.up fun h => { h with coll := { h.coll with waitSince := tabSet 0 h.coll.waitSince p v } }
  if ungranted w.hw p then (if since = 0 then set (w.hw.time.now + 1) w else w)
  else if since = 0 then w
  else set 0 (bump 4 (13 + p) (w.hw.time.now + 1 - since) w)

/-- The waits of every port. -/
def markWaits (w : Work) : Work := forEach (List.range 6) markWait w

/-- The part of `WINDOW_WAIT_NS` that a wait in progress has added. -/
def waitingNs (hw : Hw) (p : Nat) : Nat :=
  let since := tabGet 0 hw.coll.waitSince p
  if since = 0 then 0 else hw.time.now + 1 - since

/-- A module skips a frame: `ABSENT` for every group of the plan (R308). -/
def sendAbsent (plan frame : Nat) (w : Work) : Work :=
  forEach (w.hw.coll.groups.filter (fun g => g.plan == plan && isRemote w.hw g)) (fun g w =>
    let m := ((localMembers w.hw g).head?.map (fun l => l.1)).getD 0
    let rec_ := windowRecord 8 (frame % 256) 0 0 g.id 0 m
    let w1 := when (hasTray w.hw g) (sendRecordAll g rec_) w
    when (spansRacks w1.hw g && isLeader w1.hw g) (sendRackRecord g (freshOp g frame 0) rec_) w1) w

/-- The endpoint of a member below the floor on whose operation a plan's frame waits (R56 cause 3, R311). -/
def belowFloorOf (hw : Hw) (plan frame : Nat) : Option Nat :=
  hw.coll.ops.findSome? (fun o =>
    if o.plan == plan && o.frame == frame && o.stop.isNone && o.parts.any (fun q => !q.ended) then
      match findGroup hw o.group, o.floor with
      | some g, some m => some ((g.members[m]?).getD 0 % 2 ^ 18)
      | _, _ => none
    else none)

end Sys2Proof.Machine
end

