-- ==== Sys2Proof/Machine/CoreFrame.lean ====
section
/-! DEFINITION. Machine/CoreFrame.lean: the start and the ends of a frame on one core (R70, R93, R102, R109, R545). -/
namespace Sys2Proof.Machine

/-- The `FRAME_END` record and cycle sample of a core (R545, R552): outcome 0 complete, 1 aborted, 2 complete after slip. -/
def frameEndRecord (core outcome : Nat) (w : Work) : Work :=
  let c := coreOf w.hw core
  let cycles := cyclesNow w.hw core - c.cycles0
  sample 2 core cycles (tracePlan c.plan 1 (coreRegion core) 0x05 0 c.ctx core
    (leBytes 8 c.frame ++ leBytes 4 (min cycles (2 ^ 32 - 1)) ++ leBytes 1 outcome ++ zeros 3) w)

/-- Operations of the frame that have not raised their counter (R102). -/
def outstanding (hw : Hw) (core : Nat) : Bool :=
  let c := coreOf hw core
  !c.matrixQ.isEmpty || !c.moveQ.isEmpty || !c.msgs.isEmpty || !c.outs.isEmpty || collOutstanding hw core != 0

/-- A core whose `END` has issued is complete once nothing is outstanding (R102). -/
def completeCore (core : Nat) (w : Work) : Work :=
  let c := coreOf w.hw core
  if !c.ending || outstanding w.hw core || !coreLive w.hw core then w
  else
    let slipped := ((findPlan w.hw c.plan).bind (fun p => p.frame.map (fun f => f.slipped))).getD false
    frameEndRecord core (if slipped then 2 else 0) (modCore core (fun c => { c with running := false, ending := false }) w)

/-- A raise held for a frame: applied at the start of the frame of its tag, else discarded as late, its receive returned (R92, R93). -/
def settleHeld (core frame : Nat) (h : HeldRaise) (w : Work) : Work :=
  if h.tag = frame % 256 then raiseWc core h.wc h.count h.bundle h.unit w
  else noteDrop core 0 h.wc 0 .late w

/-- A context starts a frame: its registers are set anew (R70, R133) and the counts of the frame are cleared (R73), then the raises
held for it are applied (R92, R93). Receives that return (R93) may take the armed list beyond 256, where a `RECV` waits until it is
shorter again (log 65). -/
def startCore (core seed frame : Nat) (w : Work) : Work :=
  let c := coreOf w.hw core
  let back := sortBy (fun a => a.seq) ((c.held.filter (fun h => h.tag != frame % 256)).filterMap (fun h => h.armed))
  let r : CoreRegs := { pc := c.entry, srKey := srKey seed core c.ordinal }
  let stretch := stretchNow w.hw (spireOf core)
  let cycles := cyclesNow w.hw core
  let rate := issueRate w.hw core
  let w1 := modCore core (fun c => { c with
    r := r
    running := true
    ending := false
    frame := frame
    ordinal := c.ordinal + 1
    startAt := w.hw.time.now
    cycles0 := cycles
    stretch0 := stretch
    minIssue := rate
    bundle := []
    hold := .none
    held := []
    armed := back ++ c.armed
    lateDropped := 0
    noBuffer := 0
    oversize := 0
    ackRefused := 0
    graverErrors := 0 }) (w.zero (tileKey core 0 0 0) 0x80000)
  let w2 := tracePlan c.plan 1 (coreRegion core) 0x04 0 c.ctx core (leBytes 8 frame ++ leBytes 4 c.plan ++ zeros 4) w1
  forEach c.held (settleHeld core frame) w2

/-- A core stops for the abort of its frame: its queued operations are cancelled (R53, R109). -/
def abortCore (core : Nat) (w : Work) : Work :=
  let c := coreOf w.hw core
  let w1 := modCore core (fun c => { c with
    running := false
    ending := false
    bundle := []
    hold := .none
    matrixQ := []
    moveQ := []
    msgs := []
    outs := []
    aborted := true }) w
  if c.running then frameEndRecord core 1 w1 else w1

end Sys2Proof.Machine
end

