-- ==== Sys2Proof/Machine/Graver.lean ====
section
/-! DEFINITION. Machine/Graver.lean: the operations of a Graver engine: checks, items, results and charges (R214 to R251). -/
namespace Sys2Proof.Machine

/-- What an operation did: status, items done, charge, detail, and the work with its effects. -/
structure GOut where
  status : Nat
  items : Nat
  charged : Nat
  detail : Nat
  work : Work

/-- Where a descriptor stands after a command: it is over, or it goes on from an item boundary (R218, R223). -/
inductive GStep where
  | over (o : GOut)
  | goes (r : GRun) (w : Work)

/-- An operation of an engine: how a descriptor begins (its descriptor-level checks and side inputs), and its next item. -/
structure GOp where
  start : Nat → GDesc → Work → GStep
  next : Nat → GRun → Work → GStep

/-- A descriptor-level failure: no effect, charge 16 (R223, R245). -/
def gFail (status : Nat) (w : Work) : GStep := .over ⟨status, 0, 16, 0, w⟩

/-- A descriptor begins: no item done, its fixed charge, and the side inputs it read (R223, R245). -/
def gBegin (d : GDesc) (charge : Nat) (side : List (List Byte)) (w : Work) : GStep := .goes ⟨d, 0, charge, 0, side, []⟩ w

/-- A field of a descriptor. -/
def gField (d : GDesc) (off n : Nat) : Nat := field d.desc off n

/-- The rounding mode of a descriptor (R219). -/
def gRound (d : GDesc) : Round := if bit (gField d 1 1) 0 then .zero else .nearest

/-- `MALFORMED` unless a condition holds. -/
def malformedUnless (c : Bool) : List Nat := if c then [] else [1]

/-- The header's reserved bits are zero (R219). -/
def gHeader (d : GDesc) : List Nat := malformedUnless (gField d 1 1 < 2 && gField d 2 2 == 0)

/-- The statuses of a tier-1 range (R215). -/
def tier1Status (hw : Hw) (d : GDesc) (k word len : Nat) : List Nat :=
  let n := alignUp len 16
  if 2 ^ 48 ≤ word ∨ word % 16 ≠ 0 then [1]
  else if word < k * 2 ^ 36 ∨ (k + 1) * 2 ^ 36 < word + n then [3]
  else match findPlan hw d.plan with
    | none => [4]
    | some p =>
      if p.reservations.any (fun r => (r.kind == 0 || r.kind == 3) && r.place == k && r.base ≤ word && word + n ≤ r.base + r.pages * 65536)
      then [] else [4]

/-- A staging offset has the format of R215: a multiple of 16 with bits [31:26] zero. -/
def stagingForm (off : Nat) : Bool := off % 16 == 0 && decide (off < 2 ^ 26)

/-- The statuses of a staging range (R215). -/
def stagingStatus (hw : Hw) (d : GDesc) (off len : Nat) : List Nat :=
  if !stagingForm off then [1]
  else if inGrant hw d.core off (alignUp len 16) then [] else [5]

/-- The statuses of an output range (R215). -/
def outputStatus (hw : Hw) (d : GDesc) (k word len : Nat) : List Nat :=
  match spaceOf word with
  | 0 => tier1Status hw d k word len
  | 2 => if 2 ^ 26 ≤ word % 2 ^ 60 then [1] else stagingStatus hw d (word % 2 ^ 26) len
  | _ => [1]

/-- The first failing check in the order of the status codes (R223). -/
def firstStatus (l : List Nat) : Option Nat := least l

/-- Bytes from the first byte of row 0 to the last byte of the last row (R215). -/
def spanOf (rows stride bytes : Nat) : Nat := (rows - 1) * stride + bytes

/-- Key of a staging offset of the issuing core's Spire. -/
def gStage (d : GDesc) (off : Nat) : Nat := stagingKey (spireOf d.core) off

/-- Key of an output address word. -/
def gKey (d : GDesc) (word : Nat) : Nat := if spaceOf word = 0 then word else gStage d (word % 2 ^ 26)

/-- The address word of a byte that an engine reads: the stack in space 0, the staging of the issuing core's Spire in space 2 (R66). -/
def gWord (key : Nat) : Nat := if key < 2 ^ 48 then key else 2 * 2 ^ 60 + key % 2 ^ 26

/-- An uncorrectable read by an engine: the fault source with the issuing context and the address word (R251, R480). -/
def gUncorrectable (k : Nat) (d : GDesc) (key : Nat) (w : Work) : Work :=
  raiseAt (graverRegion k) 9 3 k d.ctx (gWord key) (uncorrectableAt key w)

/-- Result of one item: a status and the work it leaves, or the work, the charge and the detail it adds. -/
abbrev ItemOut := Except (Nat × Work) (Work × Nat × Nat)

/-- One item of a descriptor of n items: it fails and ends the descriptor, with its charge and 16; it completes and the descriptor stands
at the next item boundary; or it was the last, after which what the descriptor writes at its end is written (R223, R245). -/
def itemStep (n : Nat) (item : Nat → Work → ItemOut) (last : Work → Work) (r : GRun) (w : Work) : GStep :=
  match item r.done w with
  | .error (st, w') => .over ⟨st, r.done, r.charged + 16, r.detail, w'⟩
  | .ok (w', c, e) =>
    if r.done + 1 < n then .goes { r with done := r.done + 1, charged := r.charged + c, detail := r.detail + e } w'
    else .over ⟨0, r.done + 1, r.charged + c, r.detail + e, last w'⟩

/-- The F32 rounding of an exact value. -/
def fl (r : Round) (v : Val) : Nat := encodeElem 0 r v

/-- Maximum of exact values under the `VMAX` rules (R115, R116). -/
def valMax (a b : Val) : Val :=
  match a, b with
  | .nan, _ => .nan
  | _, .nan => .nan
  | x, y => if vLe true x y then y else x

/-- Element j of a row of elements at a key. -/
def elemOf (bytes : List Byte) (fmt j : Nat) : Nat := elemAt (fmtWidth fmt) (leNat bytes) j

/-! ## GATHER_POOL (R224 to R227) -/

/-- Bytes of a row of elements, with its scale where it carries one. -/
def rowBytes (fmt elements : Nat) (scale : Bool) : Nat := elements * fmtWidth fmt / 8 + 4 * b2n scale

/-- Engine elements per cycle (R245). -/
def elemRate (fmt : Nat) : Nat := if fmt = 0x02 then 1024 else 2048

/-- The formats `GATHER_POOL` and `SCORE_SELECT` read. -/
def gatherFormat (f : Nat) : Bool := f == 0x03 || f == 0x0C || f == 0x0F || f == 0x02

/-- One entry of a bag read from staging and the stack: padding, a row's element values with its factor, or a failure. -/
def gatherEntry (k : Nat) (d : GDesc) (i : Nat) (w : Work) : Except (Nat × Work) (Option (List Byte × Val)) :=
  let inF := gField d 0x1A 1 % 32
  let scaled := bit (gField d 0x1A 1) 5
  let weighted := bit (gField d 0x1E 1) 1
  let elements := gField d 0x18 2
  let ixKey := gStage d (gField d 0x20 4 + 4 * i)
  if !w.good ixKey 4 then .error (8, gUncorrectable k d (w.firstBad ixKey 4) w)
  else
    let ix := w.num ixKey 4
    if ix = 0xFFFFFFFF then .ok none
    else if gField d 0x10 4 ≤ ix then .error (7, w)
    else
      let rb := rowBytes inF elements scaled
      let row := gField d 0x08 8 + ix * gField d 0x14 4
      let wKey := gStage d (gField d 0x28 4 + 4 * i)
      if !w.good row rb then .error (8, gUncorrectable k d (w.firstBad row rb) w)
      else if weighted && !w.good wKey 4 then .error (8, gUncorrectable k d (w.firstBad wKey 4) w)
      else
        let bytes := w.read row rb
        let c := if scaled then f32Val (field bytes (rb - 4) 4) else .fin false 1 0
        let wt := if weighted then f32Val (w.num wKey 4) else .fin false 1 0
        .ok (some (bytes, vMul c wt))

/-- The entries of a bag in order; the rows that are not padding. -/
def gatherBag (k : Nat) (d : GDesc) (w : Work) : List Nat → Except (Nat × Work) (List (Option (List Byte × Val)))
  | [] => .ok []
  | i :: is => do
    let e ← gatherEntry k d i w
    let rest ← gatherBag k d w is
    return e :: rest

/-- The pooled code of element j over the rows of a bag (R227). -/
def poolElement (inF outF : Nat) (isMax : Bool) (r : Round) (rows : List (List Byte × Val)) (j : Nat) : Nat :=
  let vs := rows.map (fun p => vMul (decodeElem inF (elemOf p.1 inF j)) p.2)
  match vs with
  | [] => encodeElem outF r vZero
  | v :: rest =>
    if isMax then encodeElem outF r (rest.foldl valMax v)
    else encodeElem outF r (f32Val ((v :: rest).foldl (fun acc x => fl r (vAdd (f32Val acc) x)) 0))

/-- Bag bound o of the bounds as the engine read them (R225). -/
def bagBound (bounds : List Byte) (o : Nat) : Nat := field bounds (4 * o) 4

/-- One output row of `GATHER_POOL`. -/
def gatherItem (k : Nat) (d : GDesc) (bounds : List Byte) (o : Nat) (w : Work) : ItemOut :=
  let inF := gField d 0x1A 1 % 32
  let outF := gField d 0x1B 1 % 32
  let elements := gField d 0x18 2
  let lo := bagBound bounds o
  let hi := bagBound bounds (o + 1)
  match gatherBag k d w ((List.range (hi - lo)).map (· + lo)) with
  | .error e => .error e
  | .ok es =>
    let rows := es.filterMap id
    let pad := es.length - rows.length
    let codes := (List.range elements).map (poolElement inF outF (bit (gField d 0x1E 1) 0) (gRound d) rows)
    let ob := elements * fmtWidth outF / 8
    let bytes := leBytes ob (packElems (fmtWidth outF) codes)
    let w' := w.write (gKey d (gField d 0x30 8 + o * gField d 0x2C 4)) bytes
    .ok (w', 8 + ceilDiv ob 512 + pad + rows.length * ceilDiv elements (elemRate inF), pad)

/-- The checks of step 1 of R225. -/
def gatherChecks (hw : Hw) (k : Nat) (d : GDesc) : List Nat :=
  let inB := gField d 0x1A 1
  let outB := gField d 0x1B 1
  let elements := gField d 0x18 2
  let outputs := gField d 0x1C 2
  let rows := gField d 0x10 4
  let rb := rowBytes (inB % 32) elements (bit inB 5)
  let pool := gField d 0x1E 1
  gHeader d
  ++ malformedUnless (1 ≤ rows && rows ≤ 0xFFFFFFFE && gField d 0x14 4 % 16 == 0 && rb ≤ gField d 0x14 4 && rb ≤ 16384
    && 1 ≤ elements && elements ≤ 16384 && inB < 64 && inB % 32 ≤ 0x10 && outB ≤ 0x10 && 1 ≤ outputs && outputs ≤ 256 && pool < 4
    && gField d 0x1F 1 == 0 && gField d 0x2C 4 % 16 == 0 && elements * fmtWidth outB / 8 ≤ gField d 0x2C 4
    && stagingForm (gField d 0x20 4) && (if bit pool 1 then stagingForm (gField d 0x28 4) else gField d 0x28 4 == 0)
    && gField d 0x38 8 == 0)
  ++ (if gatherFormat (inB % 32) && [0x00, 0x02, 0x01, 0x03, 0x0F].contains (outB % 32) then [] else [2])
  ++ tier1Status hw d k (gField d 0x08 8) (rows * gField d 0x14 4)
  ++ outputStatus hw d k (gField d 0x30 8) (outputs * gField d 0x2C 4)
  ++ stagingStatus hw d (gField d 0x24 4) (4 * (outputs + 1))

/-- The bounds of R225 hold. -/
def bagsOk : List Nat → Bool
  | [] => true
  | [_] => true
  | a :: b :: rest => decide (a ≤ b) && decide (b - a ≤ 512) && bagsOk (b :: rest)

/-- The start of `GATHER_POOL`: the three steps of R225. The bounds are read once, and the items use them as read. -/
def startGather (k : Nat) (d : GDesc) (w : Work) : GStep :=
  match firstStatus (gatherChecks w.hw k d) with
  | some st => gFail st w
  | none =>
    let outputs := gField d 0x1C 2
    let bk := gStage d (gField d 0x24 4)
    let n := 4 * (outputs + 1)
    if !w.good bk n then gFail 8 (gUncorrectable k d (w.firstBad bk n) w)
    else
      let bounds := w.read bk n
      let b0 := bagBound bounds 0
      let entries := bagBound bounds outputs - b0
      if !(bagsOk ((List.range (outputs + 1)).map (bagBound bounds)) && entries ≤ 16384) then gFail 1 w
      else
        let held (off : Nat) : Bool := inGrant w.hw d.core (off + 4 * b0) (alignUp (4 * entries) 16)
        if !(held (gField d 0x20 4) && (!bit (gField d 0x1E 1) 1 || held (gField d 0x28 4))) then gFail 5 w
        else gBegin d 32 [bounds] w

/-- `GATHER_POOL` (R224 to R227). -/
def runGather : GOp where
  start := startGather
  next k r w := itemStep (gField r.d 0x1C 2) (gatherItem k r.d (r.side.headD [])) id r w

/-! ## SCORE_SELECT (R228 to R234) -/

/-- A block-list entry: address, key count and base index. -/
structure GBlock where
  address : Nat
  count : Nat
  base : Nat

/-- The dot product of a query and a key (R230), as F32. -/
def dotF32 (fmt dim : Nat) (r : Round) (q key : List Byte) : Nat :=
  if fmt = 0x0C then
    fl r (vInt ((List.range dim).foldl (fun acc j => acc + toSigned 8 (elemOf q fmt j) * toSigned 8 (elemOf key fmt j)) 0))
  else
    let prod (j : Nat) : Val :=
      if fmt = 0x0F then lgProduct (elemOf q fmt j) (elemOf key fmt j)
      else vMul (decodeElem fmt (elemOf q fmt j)) (decodeElem fmt (elemOf key fmt j))
    let c := chunkLen fmt fmt
    (List.range (ceilDiv dim c)).foldl (fun acc i =>
      fl r (vAdd (f32Val acc) (chunkSum (((List.range c).map (· + i * c)).filter (· < dim) |>.map prod)))) 0

/-- The score of a key (R230). -/
def scoreOf (d : GDesc) (q key : List Byte) : Nat :=
  let fmt := gField d 0x1C 1 % 32
  let dim := gField d 0x16 2
  let kb := rowBytes fmt dim (bit (gField d 0x1C 1) 5)
  let s := if bit (gField d 0x1C 1) 5 then f32Val (field key (kb - 4) 4) else .fin false 1 0
  fl (gRound d) (vMul (vMul (f32Val (dotF32 fmt dim (gRound d) q key)) s) (f32Val (gField d 0x20 4)))

/-- A signed number in the order of F32 codes that are not NaN; the two zeros are equal. -/
def f32Order (c : Nat) : Int := if c < 2 ^ 31 then (c : Int) else -((c - 2 ^ 31 : Nat) : Int)

/-- An F32 code is a NaN. -/
def isNan32 (c : Nat) : Bool := f32Val c == .nan

/-- Insert a scored key into a ranking: higher score first, equal scores by index (R231). -/
def rankInsert (x : Nat × Nat) : List (Nat × Nat) → List (Nat × Nat)
  | [] => [x]
  | y :: ys =>
    if f32Order y.2 < f32Order x.2 ∨ (f32Order x.2 = f32Order y.2 ∧ x.1 < y.1) then x :: y :: ys
    else y :: rankInsert x ys

/-- The partials M and S over the scores that are not NaN, in key order (R232). -/
def partials (r : Round) (scores : List Nat) : Nat × Nat :=
  match scores with
  | [] => (0xFF800000, 0)
  | s :: rest =>
    let m := rest.foldl (fun a b => if f32Order a < f32Order b then b else a) s
    if m = 0xFF800000 then (0xFF800000, 0)
    else if m = 0x7F800000 then (m, fl r (vInt ((scores.filter (· == 0x7F800000)).length : Nat)))
    else
      let e (x : Nat) : Nat :=
        match f32Val (fl r (vAdd (f32Val x) (vNegate (f32Val m)))) with
        | .fin n mm ex => fl r (expVal n mm ex)
        | _ => 0
      (m, scores.foldl (fun acc x => if x = 0xFF800000 then acc else fl r (vAdd (f32Val acc) (f32Val (e x)))) 0)

/-- The result of one query (R233). -/
def queryResult (topK : Nat) (r : Round) (scores : List (Nat × Nat)) : List Byte :=
  let good := scores.filter (fun p => !isNan32 p.2)
  let ranked := (good.foldl (fun acc p => rankInsert p acc) []).take topK
  let ms := partials r (good.map (fun p => p.2))
  leBytes 4 ms.1 ++ leBytes 4 ms.2 ++ leBytes 2 ranked.length ++ leBytes 2 (min 0xFFFF (scores.length - good.length)) ++ zeros 4
    ++ ranked.flatMap (fun p => leBytes 4 p.1 ++ leBytes 4 p.2) ++ zeros (8 * (topK - ranked.length))

/-- The scores of one block for every query, or the status that stops at it (R229, R234). -/
def scoreBlock (k : Nat) (d : GDesc) (queries : List (List Byte)) (b : GBlock) (w : Work) :
    Except (Nat × Work) (List (List (Nat × Nat))) :=
  let fmt := gField d 0x1C 1 % 32
  let kb := rowBytes fmt (gField d 0x16 2) (bit (gField d 0x1C 1) 5)
  let stride := gField d 0x1A 2
  match (if b.count = 0 then none else firstStatus (tier1Status w.hw d k b.address (b.count * stride))) with
  | some st => .error (st, w)
  | none =>
    match (List.range b.count).find? (fun p => !w.good (b.address + p * stride) kb) with
    | some p => .error (8, gUncorrectable k d (w.firstBad (b.address + p * stride) kb) w)
    | none => .ok (queries.map (fun q => (List.range b.count).map (fun p =>
        ((b.base + p) % 2 ^ 32, scoreOf d q (w.read (b.address + p * stride) kb)))))

/-- The charge of `SCORE_SELECT` over blocks and keys (R245). -/
def scoreCharge (d : GDesc) (blocks keys : Nat) : Nat :=
  let fmt := gField d 0x1C 1 % 32
  let dim := gField d 0x16 2
  let kb := rowBytes fmt dim (bit (gField d 0x1C 1) 5)
  let q := gField d 0x1D 1
  64 + 16 * blocks + max (ceilDiv (keys * dim * q) (elemRate fmt)) (max (ceilDiv (keys * kb) 2048) (ceilDiv (keys * q) 16))
    + q * ceilDiv (16 + 8 * gField d 0x18 2) 512

/-- Block i of a block list as the engine read it (R229). -/
def keyBlock (list : List Byte) (i : Nat) : GBlock := ⟨field list (16 * i) 8, field list (16 * i + 8) 2, field list (16 * i + 12) 4⟩

/-- A block list breaks R229 for a key stride. -/
def blocksBad (list : List Byte) (blocks stride : Nat) : Bool :=
  let bs := (List.range blocks).map (keyBlock list)
  (List.range blocks).any (fun i => !zeroAt list (16 * i + 10) 2)
    || bs.any (fun b => 65536 / stride < b.count || 2 ^ 48 ≤ b.address || b.address % 16 != 0)
    || 65536 < bs.foldl (fun n b => n + b.count) 0

/-- The start of `SCORE_SELECT`: its checks in the order of R223 and R229, then the queries, which are read once. -/
def startScore (k : Nat) (d : GDesc) (w : Work) : GStep :=
  let keyB := gField d 0x1C 1
  let fmt := keyB % 32
  let dim := gField d 0x16 2
  let blocks := gField d 0x14 2
  let topK := gField d 0x18 2
  let queries := gField d 0x1D 1
  let stride := gField d 0x1A 2
  let eb := dim * fmtWidth fmt / 8
  let qs := alignUp eb 16
  let rs := 16 + 8 * topK
  let listOff := gField d 0x0C 4
  let fields := gHeader d ++ malformedUnless (1 ≤ blocks && blocks ≤ 256 && 1 ≤ dim && dim ≤ 1024 && 1 ≤ topK && topK ≤ 1024
    && stride % 16 == 0 && rowBytes fmt dim (bit keyB 5) ≤ stride && keyB < 64 && fmt ≤ 0x10 && 1 ≤ queries && queries ≤ 8
    && gField d 0x1E 2 == 0 && zeroAt d.desc 0x24 28)
  let rest := (if gatherFormat fmt then [] else [2]) ++ stagingStatus w.hw d (gField d 0x08 4) (queries * qs)
    ++ stagingStatus w.hw d (gField d 0x10 4) (queries * rs)
  let list := stagingStatus w.hw d listOff (16 * blocks)
  match firstStatus (fields ++ rest ++ list) with
  | some 1 => gFail 1 w
  | st =>
    if !list.isEmpty then gFail (st.getD 5) w
    else
      let lk := gStage d listOff
      if !w.good lk (16 * blocks) then gFail (st.getD 8) (gUncorrectable k d (w.firstBad lk (16 * blocks)) w)
      else
        let listed := w.read lk (16 * blocks)
        if blocksBad listed blocks stride then gFail 1 w
        else match st with
          | some s => gFail s w
          | none =>
            let qk := gStage d (gField d 0x08 4)
            if !w.good qk (queries * qs) then
              .over ⟨8, 0, scoreCharge d 0 0 + 16, 0, gUncorrectable k d (w.firstBad qk (queries * qs)) w⟩
            else .goes ⟨d, 0, scoreCharge d 0 0, 0, listed :: (List.range queries).map (fun q => w.read (qk + q * qs) eb),
                List.replicate queries []⟩ w

/-- The next block of `SCORE_SELECT`: its keys are scored for every query; after the last, every result is written (R229 to R234). -/
def nextScore (k : Nat) (r : GRun) (w : Work) : GStep :=
  match scoreBlock k r.d r.side.tail (keyBlock (r.side.headD []) r.done) w with
  | .error (st, w') => .over ⟨st, r.done, r.charged + 16, r.detail, w'⟩
  | .ok ss =>
    let keys := r.detail + (keyBlock (r.side.headD []) r.done).count
    let scores := List.zipWith (· ++ ·) r.scores ss
    let charged := scoreCharge r.d (r.done + 1) keys
    if r.done + 1 < gField r.d 0x14 2 then .goes ⟨r.d, r.done + 1, charged, keys, r.side, scores⟩ w
    else .over ⟨0, r.done + 1, charged, keys,
      w.write (gStage r.d (gField r.d 0x10 4)) (scores.flatMap (queryResult (gField r.d 0x18 2) (gRound r.d)))⟩

/-- `SCORE_SELECT` (R228 to R234). -/
def runScore : GOp := ⟨startScore, nextScore⟩

/-! ## PACK (R235, R236) -/

/-- Bytes of an item of elements in a format, its scale array included (R236). -/
def itemBytes (fmt e : Nat) : Nat := e * fmtWidth fmt / 8 + (if isMx fmt then e / 32 else 0)

/-- The exact values of an item (R113, R121). -/
def itemVals (fmt variant e : Nat) (bytes : List Byte) : List Val :=
  let n := leNat bytes
  if isMx fmt then
    (List.range e).map (fun j => mxVal fmt variant (field bytes (e * fmtWidth fmt / 8 + j / 32) 1) (elemAt (fmtWidth fmt) n j))
  else (List.range e).map (fun j => decodeElem fmt (elemAt (fmtWidth fmt) n j))

/-- Values cut into blocks of 32; fuel bounds them. -/
def blocks32 : Nat → List Val → List (List Val)
  | 0, _ => []
  | k + 1, vs => if vs.isEmpty then [] else vs.take 32 :: blocks32 k (vs.drop 32)

/-- The bytes of an item of exact values (R120, R135, R236). -/
def itemEncode (fmt variant : Nat) (r : Round) (vs : List Val) : List Byte :=
  if isMx fmt then
    let packed := (blocks32 (vs.length / 32 + 1) vs).map (fun b => mxPack fmt variant (List.replicate 32 r) b)
    leBytes (vs.length * fmtWidth fmt / 8) (packElems (fmtWidth fmt) (packed.flatMap (fun p => p.2)))
      ++ packed.flatMap (fun p => leBytes 1 p.1)
  else leBytes (vs.length * fmtWidth fmt / 8) (packElems (fmtWidth fmt) (vs.map (encodeElem fmt r)))

/-- Two spans share a byte. -/
def overlaps (a n b m : Nat) : Bool := decide (a < b + m) && decide (b < a + n)

/-- The wide formats of R236. -/
def wideFormat (f : Nat) : Bool := f ≤ 0x02
/-- The narrow formats of R236. -/
def narrowFormat (f : Nat) : Bool := f == 0x03 || f == 0x04 || (0x08 ≤ f && f ≤ 0x0A) || f == 0x0F

/-- `MX_VARIANT` is legal for a format (R112). -/
def variantOk (b : Nat) : Bool := !bit b 5 || b % 32 == 0x08 || b % 32 == 0x09

/-- The start of `PACK`. -/
def startPack (k : Nat) (d : GDesc) (w : Work) : GStep :=
  let src := gField d 0x08 8
  let dst := gField d 0x10 8
  let items := gField d 0x18 4
  let e := gField d 0x1C 4
  let ss := gField d 0x20 4
  let ds := gField d 0x24 4
  let sB := gField d 0x28 1
  let dB := gField d 0x29 1
  let sf := sB % 32
  let df := dB % 32
  let sb := itemBytes sf e
  let db := itemBytes df e
  let checks := gHeader d ++ malformedUnless (sB < 64 && dB < 64 && sf ≤ 0x10 && df ≤ 0x10 && variantOk sB && variantOk dB
      && 1 ≤ items && items ≤ 65536 && 1 ≤ e && e ≤ 32768 && (!(isMx sf || isMx df) || e % 32 == 0)
      && ss % 16 == 0 && sb ≤ ss && ds % 16 == 0 && db ≤ ds && zeroAt d.desc 0x2A 22)
    ++ (if (wideFormat sf && (wideFormat df || narrowFormat df)) || (narrowFormat sf && wideFormat df) then [] else [2])
    ++ tier1Status w.hw d k src (spanOf items ss sb) ++ outputStatus w.hw d k dst (spanOf items ds db)
    ++ (if spaceOf dst = 0 ∧ overlaps src (spanOf items ss sb) dst (spanOf items ds db) then [6] else [])
  match firstStatus checks with
  | some st => gFail st w
  | none => gBegin d 16 [] w

/-- An item of `PACK`: its elements are read exactly and encoded in the destination's format (R236). -/
def packItem (k : Nat) (d : GDesc) (i : Nat) (w : Work) : ItemOut :=
  let e := gField d 0x1C 4
  let sB := gField d 0x28 1
  let dB := gField d 0x29 1
  let sb := itemBytes (sB % 32) e
  let a := gField d 0x08 8 + i * gField d 0x20 4
  if !w.good a sb then .error (8, gUncorrectable k d (w.firstBad a sb) w)
  else .ok (w.write (gKey d (gField d 0x10 8 + i * gField d 0x24 4))
      (itemEncode (dB % 32) (b2n (bit dB 5)) (gRound d) (itemVals (sB % 32) (b2n (bit sB 5)) e (w.read a sb))),
    4 + ceilDiv (max (2 * e) (max sb (itemBytes (dB % 32) e))) 1024, 0)

/-- `PACK` (R235, R236). -/
def runPack : GOp where
  start := startPack
  next k r w := itemStep (gField r.d 0x18 4) (packItem k r.d) id r w

/-! ## ROW_UPDATE (R237 to R239) -/

/-- The quotient of two F32 values, exact or with a sticky last bit. -/
def valDiv (a b : Val) : Val :=
  match a, b with
  | .nan, _ => .nan
  | _, .nan => .nan
  | .inf _, .inf _ => .nan
  | .inf n, y => .inf (n != vNeg y)
  | x, .inf n => .fin (vNeg x != n) 0 0
  | .fin n1 m1 e1, .fin n2 m2 e2 =>
    if m2 = 0 then (if m1 = 0 then .nan else .inf (n1 != n2))
    else
      let q := m1 * 2 ^ 320 / m2
      if m1 = 0 then .fin (n1 != n2) 0 0
      else .fin (n1 != n2) (2 * q + b2n (m1 * 2 ^ 320 % m2 != 0)) (e1 - e2 - 321)

/-- The square root of an F32 value, exact or with a sticky last bit. -/
def valSqrt (a : Val) : Val :=
  match a with
  | .nan => .nan
  | .inf n => if n then .nan else .inf false
  | .fin n m e =>
    if m = 0 then .fin n 0 0
    else if n then .nan
    else
      let m' := if e % 2 = 0 then m else 2 * m
      let e' := if e % 2 = 0 then e else e - 1
      let x := m' * 2 ^ 640
      let r := isqrtBits x 400 0
      .fin false (2 * r + b2n (r * r != x)) (e' / 2 - 321)

/-- fl(a x b + c), one rounding (R238). -/
def fma32 (r : Round) (a b c : Val) : Val := f32Val (fl r (vAdd c (vMul a b)))

/-- The new row and state of one entry (R238). -/
def rowStep (op : Nat) (r : Round) (alpha beta eps : Val) (ws gs state : List Val) : List Val × List Val :=
  match op with
  | 0 => (List.zipWith (fun x g => fma32 r alpha g x) ws gs, state)
  | 1 =>
    let q := gs.foldl (fun q g => fma32 r g g q) vZero
    let s0 := state.headD vZero
    let s := f32Val (fl r (vAdd s0 (f32Val (fl r (valDiv q (vInt (gs.length : Nat)))))))
    let den := f32Val (fl r (vAdd (f32Val (fl r (valSqrt s))) eps))
    let c := vNegate (f32Val (fl r (valDiv alpha den)))
    (List.zipWith (fun x g => fma32 r c g x) ws gs, [s])
  | _ =>
    let ms := List.zipWith (fun m g => fma32 r beta m g) state gs
    (List.zipWith (fun x m => fma32 r (vNegate alpha) m x) ws ms, ms)

/-- Bytes between the states of consecutive rows (R237). -/
def stateStride (op e : Nat) : Nat := if op = 1 then 4 else alignUp (4 * e) 16

/-- The start of `ROW_UPDATE`. -/
def startRowUpdate (k : Nat) (d : GDesc) (w : Work) : GStep :=
  let base := gField d 0x08 8
  let rows := gField d 0x10 4
  let stride := gField d 0x14 4
  let stBase := gField d 0x18 8
  let ixOff := gField d 0x20 4
  let grOff := gField d 0x24 4
  let entries := gField d 0x28 2
  let e := gField d 0x2A 2
  let tf := gField d 0x2C 1
  let gf := gField d 0x2D 1
  let op := gField d 0x2E 1
  let gs := gField d 0x3C 4
  let rb := itemBytes tf e
  let gb := itemBytes gf e
  let checks := gHeader d ++ malformedUnless (1 ≤ rows && rows ≤ 0xFFFFFFFE && stride % 16 == 0 && rb ≤ stride && 1 ≤ entries
      && entries ≤ 4096 && 1 ≤ e && e ≤ (if tf = 0x02 then 8192 else 4096) && tf ≤ 0x10 && gf ≤ 0x10 && op ≤ 2
      && gField d 0x2F 1 == 0 && gs % 16 == 0 && gb ≤ gs && (op != 0 || stBase == 0))
    ++ (if (tf = 0x00 ∨ tf = 0x02) ∧ (gf = 0x00 ∨ gf = 0x02) then [] else [2])
    ++ tier1Status w.hw d k base (spanOf rows stride rb)
    ++ stagingStatus w.hw d ixOff (4 * entries) ++ stagingStatus w.hw d grOff (spanOf entries gs gb)
    ++ (if op = 0 then [] else tier1Status w.hw d k stBase (rows * stateStride op e))
  match firstStatus checks with
  | some st => gFail st w
  | none => gBegin d 32 [] w

/-- An entry of `ROW_UPDATE`: padding is skipped and counted; otherwise the row, its gradient and its state, where the operation has one,
are read and the new row and state written (R237, R238). -/
def rowEntry (k : Nat) (d : GDesc) (i : Nat) (w : Work) : ItemOut :=
  let e := gField d 0x2A 2
  let tf := gField d 0x2C 1
  let gf := gField d 0x2D 1
  let op := gField d 0x2E 1
  let ik := gStage d (gField d 0x20 4 + 4 * i)
  if !w.good ik 4 then .error (8, gUncorrectable k d (w.firstBad ik 4) w)
  else
    let r := w.num ik 4
    if r = 0xFFFFFFFF then .ok (w, 1, 1)
    else if gField d 0x10 4 ≤ r then .error (7, w)
    else
      let gk := gStage d (gField d 0x24 4 + i * gField d 0x3C 4)
      let gb := itemBytes gf e
      let wk := gField d 0x08 8 + r * gField d 0x14 4
      let rb := itemBytes tf e
      let sk := gField d 0x18 8 + r * stateStride op e
      let sn := if op = 0 then 0 else if op = 1 then 1 else e
      if !w.good gk gb then .error (8, gUncorrectable k d (w.firstBad gk gb) w)
      else if !w.good wk rb then .error (8, gUncorrectable k d (w.firstBad wk rb) w)
      else if op != 0 && !w.good sk (4 * sn) then .error (8, gUncorrectable k d (w.firstBad sk (4 * sn)) w)
      else
        let state := if op = 0 then [] else itemVals 0 0 sn (w.read sk (4 * sn))
        let out := rowStep op (gRound d) (f32Val (gField d 0x30 4)) (f32Val (gField d 0x34 4)) (f32Val (gField d 0x38 4))
          (itemVals tf 0 e (w.read wk rb)) (itemVals gf 0 e (w.read gk gb)) state
        let w1 := w.write wk (itemEncode tf 0 (gRound d) out.1)
        let w2 := if op = 0 then w1 else w1.write sk (itemEncode 0 0 (gRound d) out.2)
        .ok (w2, 12 + ceilDiv (e * (if op = 0 then 1 else 2)) 512, 0)

/-- `ROW_UPDATE` (R237 to R239). -/
def runRowUpdate : GOp where
  start := startRowUpdate
  next k r w := itemStep (gField r.d 0x28 2) (rowEntry k r.d) id r w

/-! ## CHECKSUM, COPY and FILL (R240, R241) -/

/-- The start of `CHECKSUM`. -/
def startChecksum (k : Nat) (d : GDesc) (w : Work) : GStep :=
  let src := gField d 0x08 8
  let rows := gField d 0x18 4
  let rb := gField d 0x1C 4
  let ss := gField d 0x20 4
  let ro := gField d 0x24 4
  let checks := gHeader d ++ malformedUnless (gField d 0x10 8 == 0 && 1 ≤ rows && rows ≤ 65536 && 1 ≤ rb && rb ≤ 1048576 && ss % 16 == 0
      && zeroAt d.desc 0x28 24)
    ++ tier1Status w.hw d k src (spanOf rows ss rb) ++ stagingStatus w.hw d ro (4 * rows)
  match firstStatus checks with
  | some st => gFail st w
  | none => gBegin d 16 [] w

/-- A row of `CHECKSUM` is read. -/
def checksumItem (k : Nat) (d : GDesc) (i : Nat) (w : Work) : ItemOut :=
  let a := gField d 0x08 8 + i * gField d 0x20 4
  let n := gField d 0x1C 4
  if !w.good a n then .error (8, gUncorrectable k d (w.firstBad a n) w) else .ok (w, 2 + ceilDiv n 1024, 0)

/-- `CHECKSUM` (R240, R241): the CRC of each row is formed as the row is read, and all are written at the end. -/
def runChecksum : GOp where
  start := startChecksum
  next k r w :=
    let crc := leBytes 4 (crc32c (w.read (gField r.d 0x08 8 + r.done * gField r.d 0x20 4) (gField r.d 0x1C 4)))
    let sums := r.side.headD [] ++ crc
    itemStep (gField r.d 0x18 4) (checksumItem k r.d) (fun w => w.write (gStage r.d (gField r.d 0x24 4)) sums) { r with side := [sums] } w

/-- The start of `COPY`. -/
def startCopy (k : Nat) (d : GDesc) (w : Work) : GStep :=
  let src := gField d 0x08 8
  let dst := gField d 0x10 8
  let rows := gField d 0x18 4
  let rb := gField d 0x1C 4
  let ss := gField d 0x20 4
  let ds := gField d 0x24 4
  let checks := gHeader d ++ malformedUnless (1 ≤ rows && rows ≤ 65536 && 16 ≤ rb && rb ≤ 16777216 && rb % 16 == 0 && ss % 16 == 0
      && ds % 16 == 0 && zeroAt d.desc 0x28 24)
    ++ tier1Status w.hw d k src (spanOf rows ss rb) ++ tier1Status w.hw d k dst (spanOf rows ds rb)
    ++ (if overlaps src (spanOf rows ss rb) dst (spanOf rows ds rb) then [6] else [])
  match firstStatus checks with
  | some st => gFail st w
  | none => gBegin d 16 [] w

/-- A row of `COPY`. -/
def copyItem (k : Nat) (d : GDesc) (i : Nat) (w : Work) : ItemOut :=
  let a := gField d 0x08 8 + i * gField d 0x20 4
  let n := gField d 0x1C 4
  if !w.good a n then .error (8, gUncorrectable k d (w.firstBad a n) w)
  else .ok (w.write (gField d 0x10 8 + i * gField d 0x24 4) (w.read a n), 2 + ceilDiv n 1024, 0)

/-- `COPY` (R240, R241). -/
def runCopy : GOp where
  start := startCopy
  next k r w := itemStep (gField r.d 0x18 4) (copyItem k r.d) id r w

/-- A 64-bit pattern repeated over n bytes. -/
def patternBytes (pattern n : Nat) : List Byte :=
  ((List.replicate (n / 8 + 1) (leBytes 8 pattern)).flatten).take n

/-- The start of `FILL`. -/
def startFill (k : Nat) (d : GDesc) (w : Work) : GStep :=
  let dst := gField d 0x08 8
  let rows := gField d 0x18 4
  let rb := gField d 0x1C 4
  let ds := gField d 0x20 4
  let checks := gHeader d ++ malformedUnless (1 ≤ rows && rows ≤ 65536 && 16 ≤ rb && rb ≤ 16777216 && rb % 16 == 0 && ds % 16 == 0
      && gField d 0x24 4 == 0 && zeroAt d.desc 0x28 24)
    ++ tier1Status w.hw d k dst (spanOf rows ds rb)
  match firstStatus checks with
  | some st => gFail st w
  | none => gBegin d 16 [] w

/-- A row of `FILL`. -/
def fillItem (d : GDesc) (i : Nat) (w : Work) : ItemOut :=
  let n := gField d 0x1C 4
  .ok (w.write (gField d 0x08 8 + i * gField d 0x20 4) (patternBytes (gField d 0x10 8) n), 2 + ceilDiv n 2048, 0)

/-- `FILL` (R240, R241). -/
def runFill : GOp where
  start := startFill
  next _ r w := itemStep (gField r.d 0x18 4) (fillItem r.d) id r w

/-- The engine keeps the running descriptor, or writes the record of one that is over (R218, R221). -/
def graverStep (k : Nat) (d : GDesc) : GStep → Work
  | .over o => graverDone k d o.status o.items o.charged o.detail (modGraver k (fun g => { g with running := none }) o.work)
  | .goes r w => modGraver k (fun g => { g with running := some r }) w

/-- An engine executes one descriptor at a time: the running one does its next item, where it has the command's operation code; with none
running, the next descriptor begins, where it has that code; one with an unassigned code completes with `MALFORMED` (R218, R222). One command
is the start of a descriptor or one item of it (DESIGN CHOICE, log 55). -/
def graverServe (opcode : Nat) (op : GOp) (k : Nat) (w : Work) : Work :=
  if !graverOpen w.hw k then w
  else match (graverOf w.hw k).running with
    | some r => if gField r.d 0 1 = opcode then graverStep k r.d (op.next k r w) else w
    | none => match graverNext (graverOf w.hw k) with
      | none => w
      | some d =>
        let code := gField d 0 1
        if code = opcode then graverStep k d (op.start k d (graverTake k d w))
        else if code = 0 ∨ 8 ≤ code then graverStep k d (gFail 1 (graverTake k d w))
        else w

end Sys2Proof.Machine
end

