-- ==== Sys2Proof/Machine/Crypto.lean ====
section
/-! DEFINITION. Machine/Crypto.lean: SHA-512 (FIPS 180-4) and Ed25519 (RFC 8032), which R344, R374 and R385 use, and the CRC-16 of Belfry frames (R413). -/
namespace Sys2Proof.Machine

/-! ## SHA-512 -/

/-- Round constants 0 to 39 of SHA-512. -/
def shaK0 : List Nat := [
  0x428A2F98D728AE22, 0x7137449123EF65CD, 0xB5C0FBCFEC4D3B2F, 0xE9B5DBA58189DBBC,
  0x3956C25BF348B538, 0x59F111F1B605D019, 0x923F82A4AF194F9B, 0xAB1C5ED5DA6D8118,
  0xD807AA98A3030242, 0x12835B0145706FBE, 0x243185BE4EE4B28C, 0x550C7DC3D5FFB4E2,
  0x72BE5D74F27B896F, 0x80DEB1FE3B1696B1, 0x9BDC06A725C71235, 0xC19BF174CF692694,
  0xE49B69C19EF14AD2, 0xEFBE4786384F25E3, 0x0FC19DC68B8CD5B5, 0x240CA1CC77AC9C65,
  0x2DE92C6F592B0275, 0x4A7484AA6EA6E483, 0x5CB0A9DCBD41FBD4, 0x76F988DA831153B5,
  0x983E5152EE66DFAB, 0xA831C66D2DB43210, 0xB00327C898FB213F, 0xBF597FC7BEEF0EE4,
  0xC6E00BF33DA88FC2, 0xD5A79147930AA725, 0x06CA6351E003826F, 0x142929670A0E6E70,
  0x27B70A8546D22FFC, 0x2E1B21385C26C926, 0x4D2C6DFC5AC42AED, 0x53380D139D95B3DF,
  0x650A73548BAF63DE, 0x766A0ABB3C77B2A8, 0x81C2C92E47EDAEE6, 0x92722C851482353B]

/-- Round constants 40 to 79 of SHA-512. -/
def shaK1 : List Nat := [
  0xA2BFE8A14CF10364, 0xA81A664BBC423001, 0xC24B8B70D0F89791, 0xC76C51A30654BE30,
  0xD192E819D6EF5218, 0xD69906245565A910, 0xF40E35855771202A, 0x106AA07032BBD1B8,
  0x19A4C116B8D2D0C8, 0x1E376C085141AB53, 0x2748774CDF8EEB99, 0x34B0BCB5E19B48A8,
  0x391C0CB3C5C95A63, 0x4ED8AA4AE3418ACB, 0x5B9CCA4F7763E373, 0x682E6FF3D6B2B8A3,
  0x748F82EE5DEFB2FC, 0x78A5636F43172F60, 0x84C87814A1F0AB72, 0x8CC702081A6439EC,
  0x90BEFFFA23631E28, 0xA4506CEBDE82BDE9, 0xBEF9A3F7B2C67915, 0xC67178F2E372532B,
  0xCA273ECEEA26619C, 0xD186B8C721C0C207, 0xEADA7DD6CDE0EB1E, 0xF57D4F7FEE6ED178,
  0x06F067AA72176FBA, 0x0A637DC5A2C898A6, 0x113F9804BEF90DAE, 0x1B710B35131C471B,
  0x28DB77F523047D84, 0x32CAAB7B40C72493, 0x3C9EBE0A15C9BEBC, 0x431D67C49C100D4C,
  0x4CC5D4BECB3E42B6, 0x597F299CFC657E2A, 0x5FCB6FAB3AD6FAEC, 0x6C44198C4A475817]

/-- Initial hash value of SHA-512. -/
def shaInit : List Nat := [
  0x6A09E667F3BCC908, 0xBB67AE8584CAA73B, 0x3C6EF372FE94F82B, 0xA54FF53A5F1D36F1,
  0x510E527FADE682D1, 0x9B05688C2B3E6C1F, 0x1F83D9ABFB41BD6B, 0x5BE0CD19137E2179]

/-- A 64-bit word rotated right. -/
def rotr64 (x n : Nat) : Nat := (x >>> n) ||| ((x <<< (64 - n)) % 2 ^ 64)

/-- The complement of a 64-bit word. -/
def not64 (x : Nat) : Nat := 2 ^ 64 - 1 - x

/-- The small sigma functions of the message schedule. -/
def shaSmall0 (x : Nat) : Nat := rotr64 x 1 ^^^ rotr64 x 8 ^^^ (x >>> 7)
/-- The second small sigma. -/
def shaSmall1 (x : Nat) : Nat := rotr64 x 19 ^^^ rotr64 x 61 ^^^ (x >>> 6)

/-- The message schedule, newest word first, extended n words. -/
def shaExtend : Nat → List Nat → List Nat
  | 0, ws => ws
  | n + 1, ws =>
    let w (i : Nat) : Nat := (ws[i]?).getD 0
    shaExtend n ((shaSmall1 (w 1) + w 6 + shaSmall0 (w 14) + w 15) % 2 ^ 64 :: ws)

/-- The working variables a to h. -/
structure ShaVars where
  a : Nat
  b : Nat
  c : Nat
  d : Nat
  e : Nat
  f : Nat
  g : Nat
  h : Nat

/-- One round with its constant and schedule word. -/
def shaRound (s : ShaVars) (kw : Nat × Nat) : ShaVars :=
  let s1 := rotr64 s.e 14 ^^^ rotr64 s.e 18 ^^^ rotr64 s.e 41
  let ch := (s.e &&& s.f) ^^^ (not64 s.e &&& s.g)
  let t1 := s.h + s1 + ch + kw.1 + kw.2
  let s0 := rotr64 s.a 28 ^^^ rotr64 s.a 34 ^^^ rotr64 s.a 39
  let maj := (s.a &&& s.b) ^^^ (s.a &&& s.c) ^^^ (s.b &&& s.c)
  ⟨(t1 + s0 + maj) % 2 ^ 64, s.a, s.b, s.c, (s.d + t1) % 2 ^ 64, s.e, s.f, s.g⟩

/-- One block of 128 bytes. -/
def shaBlock (h : List Nat) (block : List Byte) : List Nat :=
  let words := (chunksOf 8 16 block).map beNat
  let ws := (shaExtend 64 words.reverse).reverse
  let v (i : Nat) : Nat := (h[i]?).getD 0
  let s := ((shaK0 ++ shaK1).zip ws).foldl shaRound ⟨v 0, v 1, v 2, v 3, v 4, v 5, v 6, v 7⟩
  [(v 0 + s.a) % 2 ^ 64, (v 1 + s.b) % 2 ^ 64, (v 2 + s.c) % 2 ^ 64, (v 3 + s.d) % 2 ^ 64,
   (v 4 + s.e) % 2 ^ 64, (v 5 + s.f) % 2 ^ 64, (v 6 + s.g) % 2 ^ 64, (v 7 + s.h) % 2 ^ 64]

/-- SHA-512 of a byte string. -/
def sha512 (bs : List Byte) : List Byte :=
  let pad := (2 * 128 - 17 - bs.length % 128) % 128
  let padded := bs ++ [0x80] ++ zeros pad ++ beBytes 16 (8 * bs.length)
  ((chunksOf 128 (padded.length / 128) padded).foldl shaBlock shaInit).flatMap (beBytes 8)

/-! ## Ed25519 -/

/-- The prime of the field. -/
def edP : Nat := 2 ^ 255 - 19
/-- The order of the base point. -/
def edL : Nat := 2 ^ 252 + 27742317777372353535851937790883648493
/-- The curve constant. -/
def edD : Nat := 37095705934669439343138083508754565189542113879843219016388785533085940283555
/-- The base point's x. -/
def edBx : Nat := 15112221349535400772501151409588531511454012693041857206046113283949847762202
/-- The base point's y. -/
def edBy : Nat := 46316835694926478169428394003475163141307993866256225615783033603165251855960

/-- A power modulo a number; the bits of the exponent bound the steps. -/
def powMod (m b : Nat) : Nat → Nat → Nat → Nat
  | 0, _, acc => acc
  | n + 1, e, acc => powMod m (b * b % m) n (e / 2) (if e % 2 = 1 then acc * b % m else acc)

/-- A power in the field. -/
def edPow (b e : Nat) : Nat := powMod edP b 256 e 1

/-- A point in extended coordinates. -/
structure EdPoint where
  x : Nat
  y : Nat
  z : Nat
  t : Nat

/-- A point from its affine coordinates. -/
def edAffine (x y : Nat) : EdPoint := ⟨x, y, 1, x * y % edP⟩

/-- The sum of two points. -/
def edAdd (p q : EdPoint) : EdPoint :=
  let a := (p.y + edP - p.x) * (q.y + edP - q.x) % edP
  let b := (p.y + p.x) * (q.y + q.x) % edP
  let c := 2 * p.t * q.t % edP * edD % edP
  let d := 2 * p.z * q.z % edP
  let e := b + edP - a
  let f := d + edP - c
  let g := d + c
  let h := b + a
  ⟨e * f % edP, g * h % edP, f * g % edP, e * h % edP⟩

/-- A multiple of a point by a scalar of n bits. -/
def edMul : Nat → Nat → EdPoint → EdPoint → EdPoint
  | 0, _, _, acc => acc
  | n + 1, k, p, acc => edMul n (k / 2) (edAdd p p) (if k % 2 = 1 then edAdd acc p else acc)

/-- A multiple of a point. -/
def edScale (k : Nat) (p : EdPoint) : EdPoint := edMul 512 k p ⟨0, 1, 1, 0⟩

/-- Two points are equal. -/
def edSame (p q : EdPoint) : Bool := p.x * q.z % edP == q.x * p.z % edP && p.y * q.z % edP == q.y * p.z % edP

/-- The 32 bytes of a point, as a number. -/
def edCompress (p : EdPoint) : Nat :=
  let i := edPow p.z (edP - 2)
  p.y * i % edP + (p.x * i % edP % 2) * 2 ^ 255

/-- The point of 32 bytes, as a number; none where they encode no point. -/
def edDecompress (n : Nat) : Option EdPoint :=
  let y := n % 2 ^ 255
  let sign := n / 2 ^ 255 % 2
  if edP ≤ y then none
  else
    let u := (y * y + edP - 1) % edP
    let v := (edD * y * y + 1) % edP
    let x2 := u * edPow v (edP - 2) % edP
    let r := edPow x2 ((edP + 3) / 8)
    let x := if r * r % edP = x2 then some r
      else
        let r' := r * edPow 2 ((edP - 1) / 4) % edP
        if r' * r' % edP = x2 then some r' else none
    match x with
    | none => none
    | some x =>
      if x = 0 ∧ sign = 1 then none
      else some (edAffine (if x % 2 = sign then x else (edP - x) % edP) y)

/-- A signature of 64 bytes verifies over a message under a public key. -/
def edVerify (pub : Nat) (msg sig : List Byte) : Bool :=
  let r := field sig 0 32
  let s := field sig 32 32
  if edL ≤ s then false
  else match edDecompress pub, edDecompress r with
    | some a, some rp =>
      let k := leNat (sha512 (slice sig 0 32 ++ leBytes 32 pub ++ msg)) % edL
      edSame (edScale (8 * s) (edAffine edBx edBy)) (edAdd (edScale 8 rp) (edScale (8 * k) a))
    | _, _ => false

/-- The secret scalar of a seed. -/
def edSecret (seed : Nat) : Nat :=
  let h := leNat ((sha512 (leBytes 32 seed)).take 32)
  h / 8 % 2 ^ 251 * 8 + 2 ^ 254

/-- The public key of a seed. -/
def edPublic (seed : Nat) : Nat := edCompress (edScale (edSecret seed) (edAffine edBx edBy))

/-- The signature of a message under a seed. -/
def edSign (seed : Nat) (msg : List Byte) : List Byte :=
  let h := (sha512 (leBytes 32 seed)).drop 32
  let r := leNat (sha512 (h ++ msg)) % edL
  let rp := leBytes 32 (edCompress (edScale r (edAffine edBx edBy)))
  let k := leNat (sha512 (rp ++ leBytes 32 (edPublic seed) ++ msg)) % edL
  rp ++ leBytes 32 ((r + k * edSecret seed) % edL)

/-! ## CRC-16 -/

/-- One bit of the CRC-16 of polynomial 0x1021. -/
def crc16Bit (c : Nat) : Nat := if c ≥ 0x8000 then (c * 2 - 0x10000) ^^^ 0x1021 else c * 2

/-- The CRC-16 of a byte string, initial value 0xFFFF (R413). -/
def crc16 (bs : List Byte) : Nat := bs.foldl (fun c b => Nat.repeat crc16Bit 8 (c ^^^ (b.toNat * 256))) 0xFFFF

end Sys2Proof.Machine
end

