-- ==== Sys2Proof/Machine/MailOps.lean ====
section
/-! DEFINITION. Machine/MailOps.lean: mailbox channels: slots, the scan, the checks of a request and its response (R338 to R349, R381 to R383, R397). -/
namespace Sys2Proof.Machine

/-- Mailbox statuses (R347). -/
def stDone : Nat := 0x0000
/-- `ADMITTED`. -/
def stAdmitted : Nat := 0x0001
/-- `MALFORMED`. -/
def stMalformed : Nat := 0x0010
/-- `UNKNOWN_COMMAND`. -/
def stUnknown : Nat := 0x0011
/-- `NOT_PERMITTED`. -/
def stNotPermitted : Nat := 0x0012
/-- `BAD_SIGNATURE`. -/
def stBadSignature : Nat := 0x0013
/-- `REPLAYED`. -/
def stReplayed : Nat := 0x0014
/-- `NOT_FOUND`. -/
def stNotFound : Nat := 0x0015
/-- `NO_RESOURCE`. -/
def stNoResource : Nat := 0x0016
/-- `PLAN_ACTIVE`. -/
def stPlanActive : Nat := 0x0017
/-- `TARGET_BUSY`. -/
def stTargetBusy : Nat := 0x0018
/-- `QP_STATE`. -/
def stQpState : Nat := 0x0019
/-- `NO_CAPACITY`. -/
def stNoCapacity : Nat := 0x0029
/-- `FLOOR_CONFLICT`. -/
def stFloorConflict : Nat := 0x0030
/-- `OBJECT_EXISTS`. -/
def stObjectExists : Nat := 0x0031
/-- `OBJECT_BUSY`. -/
def stObjectBusy : Nat := 0x0032
/-- `UNCORRECTABLE`. -/
def stUncorrectable : Nat := 0x0033
/-- `BATCH_DONE`. -/
def stBatchDone : Nat := 0x0040
/-- `FRAME_SKIPPED`. -/
def stFrameSkipped : Nat := 0x0041
/-- `FRAME_ABORTED`. -/
def stFrameAborted : Nat := 0x0042
/-- `NO_FRAME`. -/
def stNoFrame : Nat := 0x0043

/-- The snapshot of the tick of the scan that found a request, where it is still kept; else the latest (R541, log 54). -/
def snapOf (hw : Hw) (r : Request) : Snap := if hw.snapPrev.tick = r.tick then hw.snapPrev else hw.snapCur

/-! ## Slots -/

/-- Address of a request slot (R339). -/
def requestAddr (channel slot : Nat) : Nat := workArea + channel * 0x80000 + slot * 0x1000
/-- Address of a response slot. -/
def responseAddr (channel slot : Nat) : Nat := requestAddr channel slot + 0x40000
/-- Address of a channel's plan load area. -/
def loadArea (channel : Nat) : Nat := 0x027C10000000 + channel * 0x10000000

/-- `COMMAND` of a request. -/
def Request.code (r : Request) : Nat := field r.bytes 4 2
/-- `LENGTH` of a request. -/
def Request.length (r : Request) : Nat := field r.bytes 8 4
/-- A request is signed. -/
def Request.isSigned (r : Request) : Bool := bit (field r.bytes 6 2) 0
/-- An operand field of a request. -/
def Request.arg (r : Request) (off n : Nat) : Nat := field r.bytes (0x40 + off) n
/-- The operand bytes of a request. -/
def Request.payload (r : Request) : List Byte := slice r.bytes 0x40 r.length
/-- `LENGTH` equals the operands' size and the reserved ranges (offset, bytes) are zero (R9, R354). -/
def Request.shape (r : Request) (len : Nat) (reserved : List (Nat × Nat)) : Bool :=
  r.length == len && reserved.all (fun z => r.arg z.1 z.2 == 0)

/-- Commands that Keep owns (R349, R366, R368). -/
def keepOwned (code : Nat) : Bool :=
  [0x29, 0x61, 0x63, 0x71, 0x72, 0x80, 0x81, 0x82, 0x90, 0x91, 0x92, 0x93, 0x94, 0x95].contains code

/-- Commands with host channels in their list. -/
def onHost (code : Nat) : Bool :=
  [0x01, 0x04, 0x0C, 0x11, 0x13, 0x14, 0x15, 0x20, 0x21, 0x22, 0x23, 0x24, 0x25, 0x28, 0x30, 0x31, 0x32, 0x33, 0x34, 0x35, 0x36,
   0x40, 0x43, 0x50, 0x51, 0x52, 0x53, 0x54, 0x60, 0x70, 0x73, 0x74, 0x83, 0x84, 0x90, 0x95].contains code

/-- Commands with the management channel in their list: all but three. -/
def onMgmt (code : Nat) : Bool := !([0x72, 0x92, 0x93].contains code)

/-- Commands with the Keep channel in their list. -/
def onKeep (code : Nat) : Bool :=
  [0x01, 0x02, 0x03, 0x08, 0x0C, 0x22, 0x26, 0x27, 0x28, 0x29, 0x2A, 0x41, 0x42, 0x43, 0x50, 0x60, 0x61, 0x63, 0x71, 0x72, 0x73,
   0x74, 0x80, 0x81, 0x82, 0x84, 0x90, 0x91, 0x92, 0x93, 0x94, 0x95].contains code

/-- The codes of the catalogue. -/
def inCatalogue (code : Nat) : Bool :=
  onHost code || onKeep code || [0x09, 0x0A, 0x0B, 0x10, 0x12, 0x62, 0x64].contains code

/-- The channel is listed for the command. -/
def channelListed (channel code : Nat) : Bool :=
  if channel < 16 then onHost code else if channel = 16 then onMgmt code else onKeep code

/-- Commands that are served before readiness on channels 0 to 16 (R397). -/
def servedEarly (code : Nat) : Bool := keepOwned code || [0x01, 0x0C, 0x43, 0x50, 0x60, 0x73, 0x74, 0x28].contains code

/-! ## Responses -/

/-- What a signature covers (R344): serial number, channel, header bytes 0x00 to 0x17, payload, `KEY_ID` and `COUNTER`. -/
def signedBytes (serial channel : Nat) (header payload : List Byte) (keyId counter : Nat) : List Byte :=
  leBytes 8 serial ++ leBytes 1 channel ++ slice header 0 0x18 ++ payload ++ leBytes 8 keyId ++ leBytes 8 counter

/-- The response slot of a request (R340, R343, R344). -/
def responseSlot (hw : Hw) (r : Request) (status : Nat) (payload : List Byte) : List Byte :=
  let signs := r.channel = 17 ∨ keepOwned r.code
  let header := slice r.bytes 0 4 ++ leBytes 2 r.code ++ leBytes 2 (if signs then 1 else 0) ++ leBytes 4 payload.length
    ++ leBytes 2 status ++ zeros 2 ++ slice r.bytes 0x10 8 ++ leBytes 8 r.tick ++ leBytes 8 hw.time.now ++ zeros 24
  if signs then
    let counter := if r.isSigned then field r.bytes 0xFA8 8 else 0
    header ++ slice payload 0 3936 ++ zeros 8 ++ leBytes 8 counter
      ++ edSign hw.keep.seed (signedBytes hw.keep.serial r.channel header payload 0 counter) ++ zeros 16
  else header ++ slice payload 0 4032

/-- The response is written, `SEQ` last, with its copy where the request asks for one, and the slot is no longer in progress. -/
def respond (r : Request) (status : Nat) (payload : List Byte) (w : Work) : Work :=
  let bytes := responseSlot w.hw r status payload
  let w1 := (w.write (responseAddr r.channel r.slot) bytes).up fun h => { h with host := { h.host with
    requests := h.host.requests.filter (fun q => !(q.channel == r.channel && q.slot == r.slot)) } }
  let ch := tabGet {} w.hw.host.channels r.channel
  if r.channel < 16 ∧ bit (field r.bytes 6 2) 1 ∧ ch.responseAddr ≠ 0 then
    let a := ch.responseAddr + r.slot * 4096
    postWork ch.responseQp .turret 0 a ch.responseRkey 0 (bytes.take 4) 0 0
      (postWork ch.responseQp .turret 0 (a + 4) ch.responseRkey 0 (bytes.drop 4) 0 0 w1)
  else w1

/-- The request in progress at a channel and slot. -/
def requestAt (hw : Hw) (channel slot : Nat) : Option Request :=
  hw.host.requests.find? (fun r => r.channel == channel && r.slot == slot)

/-- A command that has waited is answered. -/
def answerLater (channel slot status : Nat) (payload : List Byte) (w : Work) : Work :=
  match requestAt w.hw channel slot with
  | some r => respond r status payload w
  | none => w

/-! ## The scan (R341, R342) -/

/-- The header meets R340 and R9. -/
def headerOk (r : Request) : Bool :=
  let flags := field r.bytes 6 2
  flags < 4 && !(bit flags 1 && 16 ≤ r.channel) && r.length ≤ (if r.isSigned then 3936 else 4032)
    && zeroAt r.bytes 0x0C 4 && zeroAt r.bytes 0x28 24 && (!r.isSigned || zeroAt r.bytes 0xFF0 16)

/-- One slot of a scan: a pending slot is copied and in progress; a slot that cannot be read, or whose header fails, is
answered at once; of a `PLAN_ADMIT` with the payload that all its responses carry, its fields 0 (R351). -/
def scanSlot (channel slot : Nat) (w : Work) : Work :=
  let a := requestAddr channel slot
  let b := responseAddr channel slot
  let seq := w.num a 4
  if (requestAt w.hw channel slot).isSome || !w.good a 4 || seq == 0 || seq == w.num b 4 then w
  else
    let r : Request := {
      channel := channel
      slot := slot
      bytes := w.read a 4096
      tick := w.hw.time.tick
      foundAt := w.hw.time.now
      started := false
      target := none }
    let w1 := w.up fun h => { h with host := { h.host with requests := h.host.requests ++ [r] } }
    let empty := if r.code = 0x20 then zeros 0x30 else []
    if !w.good a 4096 then respond r stUncorrectable empty w1
    else if !headerOk r then respond r stMalformed empty w1
    else if !inCatalogue r.code then respond r stUnknown [] w1
    else w1

/-- The channels that are scanned (R338, R342, R388, R391, R397, R483): Keep's with Keep; Turret's once Turret has started and the
start has not failed; a closed host channel is not scanned; in the safe state of source 0 only Keep's; none in STANDBY or DARK, nor
once power is being removed (R407, R583). -/
def scannedChannels (hw : Hw) : List Nat :=
  let keep := hw.power.aon && 2 ≤ hw.keep.phase && hw.fault.safe != some 1
  let serving := hw.lantern.powerState < 3 && !hw.power.moves.contains .cut
  let keep := keep && serving
  let turret := serving && hw.keep.turretUp && hw.keep.lpUp && hw.power.cupola && !isSafe hw && hw.keep.phase != 15
  (if keep then [17] else []) ++ (if turret then
    16 :: (List.range 16).filter (fun c => (tabGet {} hw.host.channels c).opened) else [])

/-- Every slot header on every channel is scanned, in the order of R342. -/
def scanMail (w : Work) : Work :=
  forEach (scannedChannels w.hw) (fun c w => forEach (List.range 64) (fun s w => scanSlot c s w) w) w

/-! ## Checks and execution -/

/-- A known operator key. -/
def findKey (hw : Hw) (id : Nat) : Option OpKey := hw.keep.keys.find? (fun k => k.id == id)

/-- The roles a request needs (R381). -/
def rolesNeeded (r : Request) : Nat :=
  (if r.channel = 17 then 1 else if r.channel = 16 ∧ keepOwned r.code then 2 else 0) + (if r.code = 0x93 then 4 else 0)

/-- A request that must be signed: on channel 17, and for a Keep-owned command on channel 16 (R344). -/
def mustSign (r : Request) : Bool := r.channel == 17 || (r.channel == 16 && keepOwned r.code)

/-- Check 4 of R348: the status that refuses the request, or none, and the accepted counter. Every signed request is verified (R344, R381
to R383). -/
def checkSignature (r : Request) (w : Work) : Option Nat × Work :=
  if !r.isSigned then (if mustSign r then some stBadSignature else none, w)
  else
    let id := field r.bytes 0xFA0 8
    let counter := field r.bytes 0xFA8 8
    let verifies (pub : Nat) : Bool :=
      edVerify pub (signedBytes w.hw.keep.serial r.channel r.bytes r.payload id counter) (slice r.bytes 0xFB0 64)
    match findKey w.hw id with
    | some k =>
      if !verifies k.pub then (some stBadSignature, w)
      else if k.roles &&& rolesNeeded r ≠ rolesNeeded r then (some stNotPermitted, w)
      else if counter ≤ k.counter then (some stReplayed, w)
      else (none, w.up fun h => { h with keep := { h.keep with
        keys := h.keep.keys.map (fun x => if x.id == id then { x with counter := counter } else x) } })
    | none =>
      -- the first enrolment: one add signed by the key it enrols, with `ENROL` among its roles (R382)
      if r.code = 0x93 ∧ w.hw.keep.keys.isEmpty ∧ id ≠ 0 ∧ r.arg 0 1 = 1 ∧ r.arg 8 8 = id ∧ bit (r.arg 1 1) 2 ∧ verifies (r.arg 16 32)
      then (none, w)
      else (some stBadSignature, w)

/-- What a command answers: its response now, or a response that waits for its completion and holds a target (R342). -/
inductive Answer where
  | reply (status : Nat) (payload : List Byte) (w : Work)
  | later (target : Option (Nat × Nat)) (w : Work)

/-- The request is served in the safe state (R483). -/
def servedSafe (r : Request) : Bool := r.channel == 17 && [0x95, 0x90, 0x63, 0x60].contains r.code

/-- Commands that Keep serves in phase `FAILED` (R391). -/
def servedFailed (code : Nat) : Bool := [0x01, 0x90, 0x95, 0x60, 0x71, 0x63].contains code

/-- Commands that Keep serves on the ROM recovery path (R377). -/
def servedRecovery (code : Nat) : Bool := [0x01, 0x90, 0x95, 0x91].contains code

/-- The next command to start: the first in progress that has not started (R342). -/
def nextRequest (hw : Hw) : Option Request := hw.host.requests.find? (fun r => !r.started)

/-- The request of a row: the next to start, at this channel and slot, with this command code. -/
def takesRequest (hw : Hw) (code channel slot : Nat) : Option Request :=
  match nextRequest hw with
  | some r => if r.channel == channel && r.slot == slot && r.code == code then some r else none
  | none => none

/-- A command passes the checks of R348 in order and is executed. `permit` is the part of check 3 that depends on the
operands; `refuse` answers a refused request. -/
def serveWith (code : Nat) (refuse : Nat → Request → Work → Work) (permit : Hw → Request → Bool) (act : Request → Work → Answer)
    (channel slot : Nat) (w : Work) : Work :=
  match takesRequest w.hw code channel slot with
  | none => w
  | some r =>
    if isSafe w.hw && !servedSafe r then w
    else if w.hw.keep.phase == 15 && !servedFailed code then refuse stNotPermitted r w
    else if w.hw.keep.phase == 2 && !servedRecovery code then refuse stNotPermitted r w
    else if channel < 17 && !isReady w.hw && !servedEarly code then refuse stNotPermitted r w
    else if !channelListed channel code || !permit w.hw r then refuse stNotPermitted r w
    else match checkSignature r w with
      | (some status, w1) => refuse status r w1
      | (none, w1) => match act r w1 with
        | .reply status payload w2 => respond r status payload w2
        | .later target w2 => w2.up fun h => { h with host := { h.host with
            requests := h.host.requests.map (fun q =>
              if q.channel == channel && q.slot == slot then { q with started := true, target := target } else q) } }

/-- A command whose refusals carry no payload. -/
def serve (code : Nat) (permit : Hw → Request → Bool) (act : Request → Work → Answer) (channel slot : Nat) (w : Work) : Work :=
  serveWith code (fun status r w => respond r status [] w) permit act channel slot w

/-- A command that needs no check of ownership. -/
def anyOwner (_ : Hw) (_ : Request) : Bool := true

/-- A target that an earlier command holds in progress (R342). -/
def targetBusy (hw : Hw) (kind n : Nat) : Bool := hw.host.requests.any (fun r => r.started && r.target == some (kind, n))

/-- A `DOMAIN_RESET` holds a plane port (kind 5) or an Ethernet port (kind 6) until it is answered (R342). -/
def portBusy (hw : Hw) (kind unit : Nat) : Bool := hw.hang.resets.any (fun r => r.kind == kind && r.unit == unit && !r.answers.isEmpty)

/-- `MALFORMED`. -/
def malformed (w : Work) : Answer := .reply stMalformed [] w

/-- The channel is the plan's own: host channels act on their own plans only. -/
def ownPlan (hw : Hw) (r : Request) (plan : Nat) : Bool :=
  16 ≤ r.channel || match findPlan hw plan with
    | some p => p.channel == r.channel
    | none => true

/-- A host channel's partition mask has a partition. -/
def ownPart (hw : Hw) (r : Request) (part : Nat) : Bool :=
  16 ≤ r.channel || bit (tabGet {} hw.host.channels r.channel).mask part

/-- A host channel acts on its own queue pairs. -/
def ownQp (hw : Hw) (r : Request) (qp : Nat) : Bool :=
  16 ≤ r.channel || match findQp hw qp with
    | some q => q.channel == r.channel
    | none => true

end Sys2Proof.Machine
end

