-- ==== Sys2Proof/Machine/BatchOps.lean ====
section
/-! DEFINITION. Machine/BatchOps.lean: inbox windows: seals, notices and batch responses (R42, R331 to R337). -/
namespace Sys2Proof.Machine

/-- Change a region. -/
def modRegion (i : Nat) (f : Region → Region) (w : Work) : Work :=
  w.up fun h => { h with host := { h.host with regions := h.host.regions.map (fun r => if r.index == i then f r else r) } }

/-- A region by its index. -/
def findRegion (hw : Hw) (i : Nat) : Option Region := hw.host.regions.find? (fun r => r.index == i)

/-- The registered inbox windows. -/
def openInboxes (hw : Hw) : List Region := hw.host.regions.filter (fun r => r.type == 2)

/-- The inbox windows with batches: the registered ones, and those released before every batch was answered (R337). -/
def inboxes (hw : Hw) : List Region := openInboxes hw ++ hw.host.leaving

/-- Change the batches of an inbox window; one that was released is gone with its last batch. -/
def modBatches (reg : Region) (f : List Batch → List Batch) (w : Work) : Work :=
  let change (r : Region) : Region := if r.index == reg.index && r.rkey == reg.rkey then { r with batches := f r.batches } else r
  w.up fun h => { h with host := { h.host with
    regions := h.host.regions.map change
    leaving := (h.host.leaving.map change).filter (fun r => !r.batches.isEmpty) } }

/-- A batch response goes to the event ring of the window's channel, and the batch's slot is free (R331, R337). -/
def batchRespond (reg : Region) (b : Batch) (status : Nat) (w : Work) : Work :=
  let entry (ring : Nat) : List Byte := leBytes 4 b.seq ++ leBytes 4 b.tag ++ leBytes 8 b.frame ++ leBytes 2 status
    ++ leBytes 2 reg.index ++ leBytes 4 reg.plan ++ leBytes 4 ring ++ zeros 4
  modBatches reg (fun l => l.filter (fun x => x.seq != b.seq)) (writeEvent reg.channel entry w)

/-- The batches of a plan's frame are answered now. -/
def answerBatches (plan frame status : Nat) (w : Work) : Work :=
  forEach ((inboxes w.hw).filter (fun r => r.plan == plan)) (fun reg w =>
    forEach (reg.batches.filter (fun b => b.frame == frame)) (fun b w => batchRespond reg b status w) w) w

/-- The batches of a plan's frame are answered at the next tick (R337). -/
def noteBatches (plan frame status : Nat) (w : Work) : Work :=
  forEach ((inboxes w.hw).filter (fun r => r.plan == plan)) (fun reg w =>
    modBatches reg (fun l => l.map (fun b => if b.frame == frame then { b with outcome := some status } else b)) w) w

/-- The batch responses that fell due since the last tick. -/
def answerDue (w : Work) : Work :=
  forEach (inboxes w.hw) (fun reg w =>
    forEach reg.batches (fun b w => match b.outcome with
      | some st => batchRespond reg b st w
      | none => w) w) w

/-- The number after a `BATCH_SEQ`: modulo 2^32, skipping 0 (R333). -/
def nextBatch (n : Nat) : Nat := if (n + 1) % 2 ^ 32 = 0 then 1 else (n + 1) % 2 ^ 32

/-- The frame has a place in the plan: not before its first frame and not after its release (R337). -/
def frameOfPlan (hw : Hw) (plan frame : Nat) : Bool :=
  match findPlan hw plan with
  | none => false
  | some p => (match p.firstFrame with | some f => decide (f ≤ frame) | none => false)
    && (match p.lastFrame with | some l => decide (frame ≤ l) | none => true)

/-- The pair of a plan's partition. -/
def pairOfPlan (hw : Hw) (plan : Nat) : Option Pair :=
  (findPlan hw plan).bind (fun p => hw.mirror.pairs.find? (fun q => q.part == p.part))

/-- The latest frame to which a batch of a plan is assigned and that has no outcome. -/
def lastAssigned (hw : Hw) (plan : Nat) : Nat :=
  ((inboxes hw).filter (fun r => r.plan == plan)).foldl (fun n r =>
    r.batches.foldl (fun n b => if b.outcome.isNone then max n b.frame else n) n) 0

/-- The frame of an accepted batch: R42, or after a takeover the next frame without one while batches are pending (R528). -/
def frameForBatch (hw : Hw) (plan frame : Nat) : Nat :=
  match pairOfPlan hw plan with
  | some p => if p.rerun then max frame (lastAssigned hw plan + 1) else frame
  | none => frame

/-- A takeover's assignment one to a frame ends when no batch is pending (R528). -/
def clearReruns (frame : Nat) (w : Work) : Work :=
  w.up fun h => { h with mirror := { h.mirror with pairs := h.mirror.pairs.map (fun p =>
    { p with rerun := p.rerun && h.plans.plans.any (fun q => q.part == p.part && frame ≤ lastAssigned h q.id) }) } }

/-- An accepted batch that a committed frame of the partner has named is answered at once (R526). -/
def answerCommitted (reg : Region) (b : Batch) (w : Work) : Work :=
  match pairOfPlan w.hw reg.plan with
  | none => w
  | some p =>
    match p.answered.find? (fun a => a.1 == reg.entry && a.2.1 == b.seq) with
    | none => w
    | some a => batchRespond reg b a.2.2 (w.up fun h => { h with mirror := { h.mirror with
        pairs := h.mirror.pairs.map (fun q => if q.part == p.part then
          { q with answered := q.answered.filter (fun x => !(x.1 == reg.entry && x.2.1 == b.seq)) } else q) } })

/-- One seal is accepted for a frame, or ignored and counted (R334). -/
def takeSeal (frame : Nat) (s : Seal) (w : Work) : Work :=
  match findRegion w.hw s.region with
  | none => w
  | some reg =>
    let a := reg.base + 0x800 + 32 * s.record
    let rec_ := w.read a 32
    let seq := field rec_ 0 4
    let len := field rec_ 4 4
    let ok := w.good a 32 && seq == reg.expect && s.record == (seq - 1) % max 1 reg.slots && 1 ≤ len && len ≤ reg.slotBytes
      && zeroAt rec_ 0x0C 4 && zeroAt rec_ 0x18 8 && !reg.batches.any (fun b => b.slot == s.record)
    if !ok then modRegion reg.index (fun r => { r with rejected := satAdd 32 r.rejected 1 }) w
    else
      let b : Batch := {
        seq := seq
        slot := s.record
        bytes := len
        tag := field rec_ 8 4
        frame := frameForBatch w.hw reg.plan frame
        outcome := none }
      let w1 := modRegion reg.index (fun r => { r with expect := nextBatch seq, batches := r.batches ++ [b] }) w
      if frameOfPlan w.hw reg.plan b.frame then answerCommitted reg b w1 else batchRespond reg b stNoFrame w1

/-- The seals stamped before an instant are taken in the order of their stamps (R334, R335). -/
def takeSeals (instant frame : Nat) (w : Work) : Work :=
  let now := w.hw.host.seals.filter (fun s => s.time < instant)
  let w1 := w.up fun h => { h with host := { h.host with seals := h.host.seals.filter (fun s => instant ≤ s.time) } }
  forEach (sortBy (fun s => s.time) now) (takeSeal frame) (clearReruns frame w1)

/-- The notice of a frame in an inbox window (R335). -/
def noticeBytes (reg : Region) (frame : Nat) : List Byte :=
  let bs := reg.batches.filter (fun b => b.frame == frame)
  let first : Nat × Nat := match bs with | b :: _ => (b.seq, b.slot) | [] => (0, 0)
  leBytes 8 frame ++ leBytes 4 first.1 ++ leBytes 1 bs.length ++ leBytes 1 first.2 ++ zeros 2
    ++ leBytes 8 (bs.foldl (fun n b => n + b.bytes) 0) ++ zeros 40

/-- Turret writes the notice of a frame into every inbox window. -/
def writeNotices (frame : Nat) (w : Work) : Work :=
  forEach (openInboxes w.hw) (fun reg w => w.write (reg.base + 64 * (frame % 2)) (noticeBytes reg frame)) w

/-- The notices that wait are written: at their instant, or at the latest before the next tick (R335). -/
def closeNotices (w : Work) : Work :=
  match w.hw.host.noticeNext with
  | none => w
  | some (_, frame) => writeNotices frame (w.up fun h => { h with host := { h.host with noticeNext := none } })

/-- Notices wait whose instant has come. -/
def noticesDue (hw : Hw) : Bool :=
  match hw.host.noticeNext with
  | none => false
  | some (t, _) => t ≤ hw.time.now

/-- The notices are written once their instant has come: 20 us after their tick, so that those before stay until then (R336). -/
def settleNotices (w : Work) : Work := if noticesDue w.hw then closeNotices w else w

end Sys2Proof.Machine
end

