-- ==== Sys2Proof/Machine/PagerOps.lean ====
section
/-! DEFINITION. Machine/PagerOps.lean: the state pager: stored forms, placement, cleaning, the journal and flushes (R187 to R213). -/
namespace Sys2Proof.Machine

/-! ## Stored forms (R190) -/

/-- The element widths and page forms an upper and lower format admit (R190). -/
def packPair (upper lower : Nat) : Bool :=
  (upper == 0x00 && [0x01, 0x02, 0x03, 0x04, 0x08, 0x09, 0x0A].contains lower)
    || ((upper == 0x01 || upper == 0x02) && [0x03, 0x04, 0x08, 0x09, 0x0A].contains lower)

/-- Elements of a page in its upper format. -/
def pageElems (o : PObj) : Nat := 65536 * 8 / max 1 (fmtWidth o.upper)

/-- Stored bytes of a page (R190). -/
def storedBytes (o : PObj) : Nat :=
  if o.packed then pageElems o * fmtWidth o.lower / 8 + (if isMx o.lower then pageElems o / 32 else 0) else 65536

/-- Sectors of 4 KiB of a stored page: S of R190. -/
def sectorsOf (o : PObj) : Nat := ceilDiv (storedBytes o) 4096

/-- Tier-3 size of an object in pages (R190). -/
def storedPages (o : PObj) : Nat := ceilDiv (o.pages * sectorsOf o) 16

/-- A page in its stored form. -/
def packPage (o : PObj) (bs : List Byte) : List Byte :=
  if !o.packed then bs
  else
    let wu := fmtWidth o.upper
    let rd := if o.towardZero then Round.zero else Round.nearest
    let blocks := chunksOf (4 * wu) (pageElems o / 32) bs
    let vals (b : List Byte) : List Val := (List.range 32).map (fun i => decodeElem o.upper (elemAt wu (leNat b) i))
    if isMx o.lower then
      let packed := blocks.map (fun b => mxPack o.lower o.variant (List.replicate 32 rd) (vals b))
      packed.flatMap (fun p => leBytes (4 * fmtWidth o.lower) (packElems (fmtWidth o.lower) p.2))
        ++ packed.map (fun p => BitVec.ofNat 8 p.1)
    else
      blocks.flatMap (fun b => leBytes (4 * fmtWidth o.lower) (packElems (fmtWidth o.lower) ((vals b).map (encodeElem o.lower rd))))

/-- A page from its stored form. -/
def unpackPage (o : PObj) (bs : List Byte) : List Byte :=
  if !o.packed then bs
  else
    let wu := fmtWidth o.upper
    let wl := fmtWidth o.lower
    let n := pageElems o / 32
    let blocks := chunksOf (4 * wl) n (bs.take (4 * wl * n))
    let scales := bs.drop (4 * wl * n)
    let val (p : Nat × List Byte) (i : Nat) : Val :=
      let code := elemAt wl (leNat p.2) i
      if isMx o.lower then mxVal o.lower o.variant (((scales[p.1]?).getD 0).toNat) code else decodeElem o.lower code
    (numbered 0 blocks).flatMap (fun p =>
      leBytes (4 * wu) (packElems wu ((List.range 32).map (fun i => encodeElem o.upper .nearest (val p i)))))

/-! ## Objects -/

/-- Pages of tier 3 (R1, R173). -/
def tier3Pages (hw : Hw) : Nat := if hw.keep.ordering = 8 then 134217728 else 67108864

/-- The persistent objects of a partition. -/
def persistentOf (hw : Hw) (part : Nat) : List PObj := hw.pager.objects.filter (fun o => o.plan == 0 && o.part == part)

/-- Free tier-3 pages of a partition's share (R179, R189). -/
def freeTier3 (hw : Hw) (part : Nat) : Nat :=
  tier3Pages hw / max 1 (partCount hw) - (persistentOf hw part).foldl (fun n o => n + storedPages o) 0

/-- A persistent object of a partition. -/
def findObject (hw : Hw) (part id : Nat) : Option PObj := (persistentOf hw part).find? (fun o => o.id == id)

/-- The object a hint of a plan names: bound to the plan, or plan-local (R193). -/
def hintObject (hw : Hw) (plan part id : Nat) : Option PObj :=
  if id < 2 ^ 31 then
    match findObject hw part id with
    | some o => if o.bound.map (fun b => b.1) == some plan then some o else none
    | none => none
  else hw.pager.objects.find? (fun o => o.plan == plan + 1 && o.id == id)

/-- Two objects are the same. -/
def sameObject (o : PObj) (part id owner : Nat) : Bool := o.id == id && o.plan == owner && (owner != 0 || o.part == part)

/-- Change an object. -/
def modObject (o : PObj) (f : PObj → PObj) (w : Work) : Work :=
  w.up fun h => { h with pager := { h.pager with
    objects := h.pager.objects.map (fun x => if sameObject x o.part o.id o.plan then f x else x) } }

/-- The object of a resident page. -/
def objectOf (hw : Hw) (r : Resident) : Option PObj := hw.pager.objects.find? (fun o => sameObject o r.part r.obj r.owner)

/-- A resident page belongs to an object's page. -/
def holds (o : PObj) (page : Nat) (r : Resident) : Bool := r.page == page && sameObject o r.part r.obj r.owner

/-- Change resident pages. -/
def modResidents (f : List Resident → List Resident) (w : Work) : Work :=
  w.up fun h => { h with pager := { h.pager with resident := f h.pager.resident } }

/-- Two residents lie in one slot. -/
def sameSlot (a b : Resident) : Bool := a.pool == b.pool && a.slot == b.slot

/-- Stored pages x 16 counted on a path of a plan's frame (R46, R190). -/
def countMove (plan path n : Nat) (w : Work) : Work :=
  w.up fun h => { h with pager := { h.pager with moved := addMove h.pager.moved } }
where
  addMove : List (Nat × Nat × Nat) → List (Nat × Nat × Nat)
    | [] => [(plan, path, n)]
    | e :: es => if e.1 = plan ∧ e.2.1 = path then (plan, path, e.2.2 + n) :: es else e :: addMove es

/-- The path of a movement between addresses of tiers 1 and 2 (R46): 2 up, 3 down, none within a tier. -/
def pathOf (src dst : Nat) : Option Nat :=
  if tier2Base ≤ src ∧ dst < tier2Base then some 2 else if src < tier2Base ∧ tier2Base ≤ dst then some 3 else none

/-- A movement of a whole page between tiers 1 and 2 is counted. -/
def countPath (plan src dst : Nat) (w : Work) : Work :=
  match pathOf src dst with
  | some p => countMove plan p 16 w
  | none => w

/-! ## Errors the pager meets (R210, R468) -/

/-- A read of tier 1 or 2 met an uncorrectable error: counted, its row retired, source 9 raised (R471, R475, R485). -/
def pagerError (key n : Nat) (w : Work) : Work :=
  let bad := w.firstBad key n
  let u := memUnitKind (memUnit bad)
  raise 9 u.1 u.2 0 bad (uncorrectableAt bad w)

/-- An update is lost (R210): `DAMAGED_PAGES` and `STATE_LOSS`. -/
def damage (o : PObj) (w : Work) : Work :=
  raise 11 0 0 0 o.id (modObject o (fun x => { x with damaged := satAdd 32 x.damaged 1 }) w)

/-! ## The journal (R203 to R207) -/

/-- Address of a journal slot. -/
def journalAddr (slot : Nat) : Nat := journalBase + slot * 65536

/-- A warning or emergency flush runs: nothing enters the journal and no placement starts (R208). -/
def flushHolds (hw : Hw) : Bool := hw.pager.flushes.any (fun f => f.kind == .warning || f.kind == .emergency)

/-- The pager runs: Cupola serves, the LPDDR6 packages are up and the tier-3 map is rebuilt (R206, R483). -/
def pagerLive (hw : Hw) : Bool := cupolaLive hw && hw.keep.lpUp && hw.power.flashOn && hw.keep.mapBuilt

/-- The lowest free number below a bound. -/
def lowestFree (used : List Nat) : Nat → Nat → Option Nat
  | 0, _ => none
  | n + 1, k => if used.contains k then lowestFree used n (k + 1) else some k

/-- A page of a persistent object enters the journal in its stored form, into its own slot or a free one (R205). -/
def journalEnter (o : PObj) (page frame : Nat) (stored : List Byte) (w : Work) : Option Work :=
  let j := w.hw.pager.journal
  let put (s : Nat) (l : List JournalSlot) : Work :=
    (w.write (journalAddr s) stored).up fun h => { h with pager := { h.pager with journal := l } }
  let entry (s : Nat) : JournalSlot :=
    { slot := s, part := o.part, obj := o.id, page := page, bytes := stored.length, crc := crc32c stored, frame := frame }
  match j.find? (fun e => e.part == o.part && e.obj == o.id && e.page == page) with
  | some e => some (put e.slot (j.map (fun x => if x.slot == e.slot then entry e.slot else x)))
  | none =>
    match lowestFree (j.map (fun e => e.slot)) 8192 0 with
    | some s => some (put s (j ++ [entry s]))
    | none => none

/-- `DURABLE_FRAME` of an object after pages have been made clean (R192): the frame before the earliest whose write is still dirty or was
lost, else the latest that has ended. -/
def refreshDurable (o : PObj) (w : Work) : Work :=
  let dirty := w.hw.pager.resident.filter (fun r => r.dirty && sameObject o r.part r.obj r.owner)
  modObject o (fun x =>
    let f := match least (x.lost.toList ++ dirty.map (fun r => r.writtenBy)) with
      | some k => k - 1
      | none => x.ended
    { x with durable := max x.durable f }) w

/-- A write of a frame is lost before it entered the journal: `DURABLE_FRAME` stays below that frame (R192; log 70). -/
def loseWrite (frame : Nat) (o : PObj) : PObj :=
  { o with lost := some (match o.lost with | some k => min k frame | none => frame) }

/-- A dirty page is made clean (R203): into the journal, or to its home; none while no journal slot is free or a flush holds. -/
def cleanPage (r : Resident) (w : Work) : Option Work :=
  match objectOf w.hw r with
  | none => some (modResidents (fun l => l.filter (fun x => !sameSlot x r)) w)
  | some o =>
    let clean := modResidents (fun l => l.map (fun x => if sameSlot x r then { x with dirty := false, syncDue := false } else x))
    let plan := match r.pool with | .pool p _ => p | .spill p => p
    if !w.good r.addr 65536 then
      some (refreshDurable o (modObject o (loseWrite r.writtenBy) (damage o (pagerError r.addr 65536 (modResidents (fun l =>
        if r.pins.isEmpty then l.filter (fun x => !sameSlot x r)
        else l.map (fun x => if sameSlot x r then { x with dirty := false, syncDue := false } else x)) w)))))
    else if o.plan != 0 then
      some (countPath plan r.addr (o.home + r.page * 65536) (clean (w.write (o.home + r.page * 65536) (w.read r.addr 65536))))
    else if flushHolds w.hw then none
    else
      match journalEnter o r.page r.writtenBy (packPage o (w.read r.addr 65536)) w with
      | some w1 => some (refreshDurable o (countPath plan r.addr journalBase (clean w1)))
      | none => none

/-- Pages are made clean in order; one that must wait for a journal slot lets pass a later one that has a slot of its own (R205). -/
def cleanAll : List Resident → Work → Work
  | [], w => w
  | r :: rs, w => cleanAll rs ((cleanPage r w).getD w)

/-- A dirty page that an orderly flush must make clean: one the target state will not keep (R208). -/
def flushTakes (hw : Hw) (r : Resident) : Bool :=
  r.owner == 0 && r.dirty && hw.pager.flushes.any (fun f => match f.kind with
    | .warning => false
    | .emergency => false
    | .standby => r.addr < tier2Base
    | _ => true)

/-- The plan of a resident's pool is being released: its dirty persistent pages are made clean (R204). -/
def releasing (hw : Hw) (r : Resident) : Bool :=
  let plan := match r.pool with | .pool p _ => p | .spill p => p
  r.dirty && (match findPlan hw plan with
    | some p => p.lastFrame.isSome && p.frame.isNone
    | none => true)

/-- The dirty pages that are to be made clean now, oldest frame first (R203, R204, R208). -/
def wantClean (hw : Hw) : List Resident :=
  sortBy (fun r => r.writtenBy) (hw.pager.resident.filter (fun r => r.dirty && (r.syncDue || flushTakes hw r || releasing hw r)))

/-- Pages that wait to be made clean go as far as the journal has room. -/
def feedJournal (w : Work) : Work :=
  if !pagerLive w.hw || flushHolds w.hw then w else cleanAll (wantClean w.hw) w

/-- `WEAR_USED` in 0.01 % of the rated volume (R211, R212). -/
def wearUsed (hw : Hw) : Nat := ctrOf hw 2 19 * 10000 / (16 * (tier3Pages hw * 36520))

/-- A stored page has been written to tier 3: sectors are counted and wear reported (R212). -/
def countWear (sectors : Nat) (w : Work) : Work :=
  let w1 := bump 2 19 sectors w
  let mark := if 10000 ≤ wearUsed w1.hw then 10000 else if 8000 ≤ wearUsed w1.hw then 8000 else 0
  if w1.hw.pager.wearMarks < mark then
    raise 12 0 0 0 (wearUsed w1.hw) (w1.up fun h => { h with pager := { h.pager with wearMarks := mark } })
  else w1

/-- The stored copy of a page that the tier-3 map gives: the one with the highest write sequence number (R206). -/
def flashPage (hw : Hw) (part obj page : Nat) : Option FlashPage :=
  (hw.pager.spare.filter (fun f => f.part == part && f.obj == obj && f.page == page)).foldl (fun best f => match best with
    | none => some f
    | some b => if b.seq < f.seq then some f else some b) none

/-- The stored form of a page in tier 3; a page never written is zero (R188). -/
def storedPage (w : Work) (o : PObj) (page : Nat) : List Byte :=
  match flashPage w.hw o.part o.id page with
  | some f => w.read (flashKey f.loc) (storedBytes o)
  | none => zeros (storedBytes o)

/-- A page written to tier 3 (R206): to a fresh location with its spare area, and only then does the map entry move, which gives the
location of the previous copy free. -/
def storeTier3 (o : PObj) (page : Nat) (stored : List Byte) (w : Work) : Work :=
  let used := w.hw.pager.spare.map (fun f => f.loc)
  let loc := (lowestFree used (used.length + 1) 0).getD used.length
  let f : FlashPage := { part := o.part, obj := o.id, page := page, seq := w.hw.pager.writeSeq, loc := loc }
  let old (x : FlashPage) : Bool := x.part == o.part && x.obj == o.id && x.page == page && x.seq < f.seq
  let written := (w.write (flashKey loc) stored).up fun h => { h with pager := { h.pager with
    spare := h.pager.spare ++ [f]
    writeSeq := f.seq + 1 } }
  countWear (sectorsOf o) (written.up fun h => { h with pager := { h.pager with spare := h.pager.spare.filter (fun x => !old x) } })

/-- The tier-3 pages of an object are freed (R188, R189). -/
def freeFlash (part obj : Nat) (w : Work) : Work :=
  w.up fun h => { h with pager := { h.pager with spare := h.pager.spare.filter (fun f => !(f.part == part && f.obj == obj)) } }

/-- The oldest journal slot has been written to tier 3, or its update is lost, and the slot is free (R205, R206, R210). -/
def drainSlot (failed : Bool) (w : Work) : Work :=
  match w.hw.pager.journal with
  | [] => feedJournal w
  | e :: rest =>
    let a := journalAddr e.slot
    let w1 := w.up fun h => { h with pager := { h.pager with journal := rest } }
    match findObject w.hw e.part e.obj with
    | none => feedJournal w1
    | some o =>
      if failed || !w.good a e.bytes || crc32c (w.read a e.bytes) != e.crc then
        feedJournal (damage o (pagerError a e.bytes w1))
      else
        let plan := match o.bound with | some (p, _) => p | none => 0
        let w2 := storeTier3 o e.page (w.read a e.bytes) (countMove plan 1 (sectorsOf o) w1)
        feedJournal (w2.up fun h => { h with pager := { h.pager with
          flushes := h.pager.flushes.map (fun f => { f with written := f.written + 1 }) } })

/-! ## Flushes (R208) -/

/-- A flush begins. -/
def startFlush (kind : FlushKind) (deadline : Option Nat) (answer : Option (Nat × Nat)) (w : Work) : Work :=
  feedJournal (w.up fun h => { h with pager := { h.pager with
    flushes := h.pager.flushes ++ [{ kind := kind, deadline := deadline, written := 0, answer := answer }] } })

/-- A flush kind has no dirty-page part. -/
def journalOnly : FlushKind → Bool
  | .warning => true
  | .emergency => true
  | _ => false

/-- The flush has written all it must. -/
def flushDone (hw : Hw) (f : Flush) : Bool :=
  hw.pager.journal.isEmpty && (journalOnly f.kind || !hw.pager.resident.any (fun r =>
    r.owner == 0 && r.dirty && (f.kind != .standby || r.addr < tier2Base)))

/-- An orderly flush meets its deadline: the dirty pages it has not journalled are abandoned (R208). -/
def abandonFlush (f : Flush) (w : Work) : Work :=
  let lost (r : Resident) : Bool := r.owner == 0 && r.dirty && (f.kind != .standby || r.addr < tier2Base)
  let n := (w.hw.pager.resident.filter lost).length
  let w0 := forEach (w.hw.pager.resident.filter lost) (fun r w => match objectOf w.hw r with
    | some o => modObject o (loseWrite r.writtenBy) w
    | none => w) w
  let w1 := modResidents (fun l => l.map (fun r => if lost r then { r with dirty := false, syncDue := false } else r)) w0
  let w2 := w1.up fun h => { h with pager := { h.pager with
    flushes := h.pager.flushes.map (fun x => if x == f then { x with deadline := none } else x) } }
  if n = 0 then w2 else raise 11 0 0 0 n (bump 2 18 n w2)

/-! ## Placement (R195 to R202) -/

/-- Capacity and base address of a pool of a plan. -/
def poolPlace (p : Plan) (ref : PoolRef) : Nat × Nat :=
  match ref with
  | .spill _ => (p.spillPages, p.spillBase)
  | .pool _ i => match p.reservations[i]? with
    | some r => (r.pages, r.base)
    | none => (0, 0)

/-- A pool index names a kind-3 or kind-4 entry; the entry. -/
def poolEntry (p : Plan) (i : Nat) : Option Reservation :=
  match p.reservations[i]? with
  | some r => if r.kind = 3 ∨ r.kind = 4 then some r else none
  | none => none

/-- Number of 1 bits of a recency history (R201). -/
def recency (h : Nat) : Nat := ((List.range 8).filter (fun i => bit h i)).length

/-- A free slot of a pool, the lowest. -/
def freeSlot (hw : Hw) (p : Plan) (ref : PoolRef) : Option Nat :=
  lowestFree ((hw.pager.resident.filter (fun r => r.pool == ref)).map (fun r => r.slot)) (poolPlace p ref).1 0

/-- A free slot of a plan's spill reserve, the lowest: one without a page, or whose page is unpinned and clean (R199 step 4; no rule
evicts from it otherwise). -/
def spillSlot (hw : Hw) (p : Plan) : Option Nat :=
  lowestFree ((hw.pager.resident.filter (fun r => r.pool == .spill p.id && (r.dirty || !r.pins.isEmpty))).map (fun r => r.slot))
    p.spillPages 0

/-- The resident of a list with the lowest recency, ties to the lowest slot. -/
def coldest (l : List Resident) : Option Resident :=
  l.foldl (fun best r => match best with
    | none => some r
    | some b =>
      if recency r.history < recency b.history ∨ (recency r.history = recency b.history ∧ r.slot < b.slot) then some r else best) none

/-- The unpinned clean page that step 3 of R199 evicts. -/
def cleanVictim (hw : Hw) (ref : PoolRef) : Option Resident :=
  coldest (hw.pager.resident.filter (fun r => r.pool == ref && r.pins.isEmpty && !r.dirty))

/-- The unpinned dirty page that an eviction makes clean first (R203). -/
def dirtyVictim (hw : Hw) (ref : PoolRef) : Option Resident :=
  coldest (hw.pager.resident.filter (fun r => r.pool == ref && r.pins.isEmpty && r.dirty))

/-- Put a resident into a slot, in place of what the slot held. -/
def putResident (r : Resident) (w : Work) : Work :=
  modResidents (fun l => l.filter (fun x => !sameSlot x r) ++ [r]) w

/-- The tier-2 pools of a plan, in table order. -/
def tier2Pools (p : Plan) : List PoolRef :=
  (numbered 0 p.reservations).filterMap (fun e => if e.2.kind = 4 then some (.pool p.id e.1) else none)

/-- An evicted page of a tier-1 pool with recency 2 or more is copied into a tier-2 pool of the plan (R201), unless a tier-2 pool of the
plan already holds it. -/
def demote (p : Plan) (r : Resident) (w : Work) : Work :=
  let isTier1 := r.addr < tier2Base && (match r.pool with | .pool _ _ => true | .spill _ => false)
  let other := w.hw.pager.resident.any (fun x => (tier2Pools p).contains x.pool && x.page == r.page && x.obj == r.obj
    && x.owner == r.owner && x.part == r.part)
  if !isTier1 || recency r.history < 2 || other then w
  else
    let target (ref : PoolRef) : Option Nat :=
      match freeSlot w.hw p ref with
      | some s => some s
      | none => match cleanVictim w.hw ref with
        | some v => if recency v.history < recency r.history then some v.slot else none
        | none => none
    let found := (tier2Pools p).findSome? (fun ref => (target ref).map (fun s => (ref, s)))
    match found with
    | none => w
    | some (ref, s) =>
      let a := (poolPlace p ref).2 + s * 65536
      if w.good r.addr 65536 then
        putResident { r with pool := ref, slot := s, addr := a } (countMove p.id 3 16 (w.write a (w.read r.addr 65536)))
      else w

/-- The newest copy of an object's page in a pool: one being written, a dirty one, or any (R199). -/
def newestCopy (hw : Hw) (o : PObj) (page : Nat) : Option Resident :=
  let l := hw.pager.resident.filter (holds o page)
  match l.find? (fun r => r.pins.any (fun p => p.2.1)) with
  | some r => some r
  | none => match l.find? (fun r => r.dirty) with
    | some r => some r
    | none => l.head?

/-- The newest contents of a page on their way to an address, or the error met (R199, R210). -/
def fetchPage (o : PObj) (page plan dst : Nat) (t3 : T3Read) (w : Work) : Except Work (List Byte × Work) :=
  match newestCopy w.hw o page with
  | some r =>
    if w.good r.addr 65536 then .ok (w.read r.addr 65536, countPath plan r.addr dst w)
    else .error (pagerError r.addr 65536 w)
  | none =>
    match w.hw.pager.journal.find? (fun e => o.plan == 0 && e.part == o.part && e.obj == o.id && e.page == page) with
    | some e =>
      let a := journalAddr e.slot
      if w.good a e.bytes then .ok (unpackPage o (w.read a e.bytes), countPath plan a dst w)
      else .error (pagerError a e.bytes w)
    | none =>
      if o.plan != 0 then
        let a := o.home + page * 65536
        if w.good a 65536 then .ok (w.read a 65536, countPath plan a dst w) else .error (pagerError a 65536 w)
      else
        let channel := freeOf w % 16
        let w1 := countMove plan 0 (sectorsOf o) (bump 2 (12 + o.part) (sectorsOf o) w)
        match t3 with
        | .good => .ok (unpackPage o (storedPage w1 o page), w1)
        | .retried =>
          .ok (unpackPage o (storedPage w1 o page), bump 8 (180 + channel) 1 (freeUsed w1))
        | .failed => .error (raise 10 5 channel 0 0 (bump 8 (180 + channel) 1 (freeUsed w1)))

/-- The first address of a stack's or tier's reach: tier and stack of an address (R195). -/
def tierOf (a : Nat) : Nat := if a < tier2Base then 1 else 2

/-- What a placement answers for a page: address, status, flags. -/
structure PlaceResult where
  addr : Nat
  status : Nat
  flags : Nat

/-- The result record of a page of a hint is written, counted and traced (R195, R213, R545). -/
def writeResult (h : Hint) (i : Nat) (res : PlaceResult) (w : Work) : Work :=
  let placed := res.status = 0 ∨ res.status = 1 ∨ res.status = 4
  let tier := if placed then tierOf res.addr else 0
  let stack := if placed ∧ tier = 1 then res.addr / 2 ^ 36 else 0xFF
  let bytes := leBytes 8 (if placed then res.addr else 0) ++ leBytes 1 res.status ++ leBytes 1 tier ++ leBytes 1 stack
    ++ leBytes 1 res.flags ++ leBytes 4 h.frame
  let w1 := w.write (stagingKey (spireOf h.core) (h.result + 16 * i)) bytes
  let w2 := when (bit res.flags 0) (bump 2 (4 + h.part) 1) w1
  let w3 := when (res.status == 2 || res.status == 3 || res.status == 5) (bump 2 (8 + h.part) 1) w2
  if res.status != 0 || bit res.flags 0 then
    if planClass w3.hw h.plan 4 then
      putTrace ⟨w3.hw.time.now, 0x08, 0, (coreOf w3.hw h.core).ctx, 0xFFFF, leBytes 4 h.obj ++ leBytes 4 (h.first + i)
        ++ leBytes 1 res.status ++ leBytes 1 res.flags ++ leBytes 1 tier ++ zeros 1 ++ leBytes 4 h.frame⟩ w3
    else w3
  else w3

/-- The tick of the frame that a hint serves has come, or the tick guard before it has begun (R196). -/
def hintLate (hw : Hw) (h : Hint) : Bool := h.frame ≤ hw.time.tick || (hw.time.deadlineDone && h.frame = hw.time.tick + 1)

/-- The frame that a hint serves has ended or was skipped, so that a page it places is not pinned (R197). -/
def hintOver (p : Plan) (tick : Nat) (h : Hint) : Bool := h.frame ≤ tick && (p.frame.map (fun f => f.number)) != some h.frame

/-- The page gets a pin for the frame its hint serves, unless that frame is over. -/
def pinFor (past : Bool) (h : Hint) (write : Bool) (r : Resident) : Resident :=
  if past then r
  else match r.pins.find? (fun p => p.1 == h.frame) with
  | some _ => { r with pins := r.pins.map (fun p => if p.1 == h.frame then (p.1, p.2.1 || write, p.2.2 || (write && h.sync)) else p) }
  | none => { r with pins := r.pins ++ [(h.frame, write, write && h.sync)] }

/-- The page is brought into a slot of a pool, in place of a clean page where one is evicted. -/
def bringIn (p : Plan) (h : Hint) (o : PObj) (page : Nat) (ref : PoolRef) (slot : Nat) (victim : Option Resident)
    (write : Bool) (t3 : T3Read) (w : Work) : Except Work (Nat × Work) :=
  let a := (poolPlace p ref).2 + slot * 65536
  match fetchPage o page p.id a t3 w with
  | .error w1 => .error w1
  | .ok (bytes, w1) =>
    let w2 := match victim with
      | some v => demote p v w1
      | none => w1
    let r : Resident := {
      pool := ref
      slot := slot
      addr := a
      part := o.part
      obj := o.id
      owner := o.plan
      page := page
      dirty := false
      pins := []
      writtenBy := 0
      syncDue := false
      history := 0 }
    .ok (a, putResident (pinFor (hintOver p w.hw.time.tick h) h write r) (w2.write a bytes))

/-- The outcome of an attempt at a page: placed or failed with a result, or it must wait. -/
inductive Attempt where
  | done (res : PlaceResult) (w : Work)
  | waits

/-- Steps 1 to 5 of R199 for a page, with R198 and R200. -/
def tryPlace (p : Plan) (h : Hint) (i : Nat) (t3 : T3Read) (w : Work) : Attempt :=
  let page := h.first + i
  match hintObject w.hw p.id p.part h.obj with
  | none => .done ⟨0, 2, 0⟩ w
  | some o =>
    if o.pages ≤ page then .done ⟨0, 2, 0⟩ w
    else match poolEntry p h.pool with
      | none => .done ⟨0, 2, 0⟩ w
      | some entry =>
        let ref : PoolRef := .pool p.id h.pool
        let readOnly := o.bound.map (fun b => b.2) == some true
        let write := h.write && !readOnly
        let late := b2n (h.waited.contains i || hintLate w.hw h)
        let answer (a base flags : Nat) (w : Work) : Attempt := .done ⟨a, if h.write && readOnly then 4 else base, flags⟩ w
        let mine := w.hw.pager.resident.filter (holds o page)
        let pinIn (r : Resident) (flags : Nat) : Attempt :=
          answer r.addr (match r.pool with | .spill _ => 1 | .pool _ _ => 0) flags
            (modResidents (fun l => l.map (fun x => if sameSlot x r then pinFor (hintOver p w.hw.time.tick h) h write x else x)) w)
        let stays (r : Resident) : Bool := r.pins.any (fun q => q.1 + 1 == h.frame && q.2.1)
        match mine.find? (fun r => r.pins.any (fun q => q.1 == h.frame)) with
        | some r => pinIn r (late + 2 * b2n (stays r))
        | none =>
          match mine.find? stays with
          | some r => pinIn r (late + 2)
          | none =>
            match mine.find? (fun r => r.pool == ref) with
            | some r => pinIn r late
            | none =>
              let placed := (w.hw.pager.resident.filter (fun r => r.pool == ref && r.pins.any (fun q => q.1 == h.frame))).length
              let beyond := entry.pinLimit ≤ placed
              let into (ref : PoolRef) (slot : Nat) (victim : Option Resident) (base late : Nat) (w : Work) : Attempt :=
                match bringIn p h o page ref slot victim write t3 w with
                | .ok (a, w1) => answer a base late (when (base == 1) (bump 2 p.part 1) w1)
                | .error w1 => .done ⟨0, 3, late⟩ w1
              let spill : Option Attempt :=
                if entry.kind = 3 then (spillSlot w.hw p).map (fun s => into (.spill p.id) s none 1 late w) else none
              if beyond then spill.getD (.done ⟨0, 5, late⟩ w)
              else match freeSlot w.hw p ref with
                | some s => into ref s none 0 late w
                | none => match cleanVictim w.hw ref with
                  | some v => into ref v.slot (some v) 0 late w
                  | none => match spill with
                    | some a => a
                    | none =>
                      -- step 5: a dirty page of the pool, else of the spill reserve, is made clean and gives its slot
                      let own := (dirtyVictim w.hw ref).bind (fun v => (cleanPage v w).bind (fun w1 =>
                        match cleanVictim w1.hw ref with
                        | some x => some (into ref x.slot (some x) 0 1 w1)
                        | none => (freeSlot w1.hw p ref).map (fun s => into ref s none 0 1 w1)))
                      let spilled := if entry.kind = 3 then
                          (dirtyVictim w.hw (.spill p.id)).bind (fun v => (cleanPage v w).bind (fun w1 =>
                            (spillSlot w1.hw p).map (fun s => into (.spill p.id) s none 1 1 w1)))
                        else none
                      own.getD (spilled.getD .waits)

/-- The identity of a hint among the accepted ones. -/
def sameHint (a b : Hint) : Bool := a == b

/-- The page's result is written; the entry's counter is raised when every page has one (R196). -/
def finishPage (h : Hint) (i : Nat) (res : PlaceResult) (w : Work) : Work :=
  let w1 := writeResult h i res w
  let done := h.done ++ [i]
  if done.length < h.count then
    w1.up fun hw => { hw with pager := { hw.pager with
      hints := updateFirst (fun x => sameHint x h) (fun x => { x with done := done }) hw.pager.hints } }
  else
    let w2 := w1.up fun hw => { hw with pager := { hw.pager with hints := removeFirst (fun x => sameHint x h) hw.pager.hints } }
    sample 8 h.part ((w2.hw.time.now : Int) - h.acceptedAt)
      (taggedRaise h.core (endpointOf w2.hw (spireOf h.core)) h.readyWc (h.frame % 256) h.readyWc 1 h.bundle 3 none w2)

/-- Pages of a hint in order: the first that can be served is; the ones that must wait are noted (R199 step 5). -/
def servePages (p : Plan) (h : Hint) (t3 : T3Read) : List Nat → List Nat → Work → Option Work × List Nat
  | [], waits, _ => (none, waits)
  | i :: is, waits, w =>
    match tryPlace p h i t3 w with
    | .done res w1 => (some (finishPage { h with waited := waits } i res
        (w1.up fun hw => { hw with pager := { hw.pager with
          hints := updateFirst (fun x => sameHint x h) (fun x => { x with waited := waits }) hw.pager.hints } })), waits)
    | .waits => servePages p h t3 is (if waits.contains i then waits else waits ++ [i]) w

/-- Hints in order of acceptance: the first page that can be served is placed (R199). -/
def serveHints (t3 : T3Read) : List Hint → Work → Work
  | [], w => w
  | h :: hs, w =>
    match findPlan w.hw h.plan with
    | none => serveHints t3 hs w
    | some p =>
      match servePages p h t3 ((List.range h.count).filter (fun i => !h.done.contains i)) h.waited w with
      | (some w1, _) => w1
      | (none, waits) =>
        serveHints t3 hs (w.up fun hw => { hw with pager := { hw.pager with
          hints := updateFirst (fun x => sameHint x h) (fun x => { x with waited := waits }) hw.pager.hints } })

/-- A hint entry obeys R194. -/
def hintOk (hw : Hw) (core : Nat) (p : Plan) (e : List Byte) : Bool :=
  let cw := field e 8 2
  let res := field e 12 4
  1 ≤ cw % 2048 && cw % 2048 ≤ 1024 && res / 2 ^ 28 == 0 && res % 16 == 0 && (!bit res 27 || bit res 26)
    && (poolEntry p (field e 10 2)).isSome && inGrant hw core (res % 2 ^ 26) (16 * (cw % 2048))

/-- The pager accepts the oldest waiting `PHINT` of a core: its entries are checked and queued, and its counter rises (R193 to R196). A count
register outside 1 to 1,024 ends in `DESCRIPTOR_INVALID`, and the record of a hint's fault gives unit 3 (log 67). -/
def acceptHints (core : Nat) (w : Work) : Work :=
  let c := coreOf w.hw core
  match c.outs.find? (fun o => !o.graver) with
  | none => w
  | some op =>
    let w0 := modCore core (fun c => { c with outs := c.outs.filter (fun o => o.id != op.id) }) w
    let key := stagingKey (spireOf core) op.src
    let invalid (w : Work) : Work := coreFault core descriptorInvalid 3 op.bundle (2 * 2 ^ 60 + op.src) true w
    match planOfCore w.hw core with
    | none => w0
    | some p =>
      if op.count < 1 || 1024 < op.count then invalid w0
      else if !w.good key (16 * op.count) then
        let bad := w.firstBad key (16 * op.count)
        coreFaultAt core uncorrectableRead 3 op.bundle (2 * 2 ^ 60 + op.src + (bad - key)) true (uncorrectableAt bad w0)
      else
        let entries := chunksOf 16 op.count (w.read key (16 * op.count))
        if !entries.all (hintOk w.hw core p) then invalid w0
        else
          let hints := entries.map (fun e => ({
            core := core
            plan := p.id
            part := p.part
            frame := c.frame + 1
            obj := field e 0 4
            first := field e 4 4
            count := field e 8 2 % 2048
            readyWc := field e 8 2 / 2048
            pool := field e 10 2
            result := field e 12 4 % 2 ^ 26
            write := bit (field e 12 4) 26
            sync := bit (field e 12 4) 27
            bundle := op.bundle
            acceptedAt := w.hw.time.now
            done := []
            waited := [] } : Hint))
          raiseWc core op.wc 1 op.bundle 3
            (w0.up fun h => { h with pager := { h.pager with hints := h.pager.hints ++ hints } })

/-! ## Ends of frames and plans -/

/-- A frame of a plan has ended: its pins are released, and pages it hinted with `WRITE` become dirty unless it was skipped
(R197, R202, R203). Hints that serve it and have no result yet stay in the queue (log 20). -/
def endPins (plan frame : Nat) (skipped : Bool) (w : Work) : Work :=
  let ofPlan (r : Resident) : Bool := match r.pool with | .pool p _ => p == plan | .spill p => p == plan
  let settleOne (r : Resident) : Resident :=
    if !ofPlan r then r
    else match r.pins.find? (fun p => p.1 == frame) with
      | none => r
      | some (_, wr, sy) =>
        let pins := r.pins.filter (fun p => p.1 != frame)
        if wr && !skipped then
          { r with pins := pins, dirty := true, syncDue := r.syncDue || sy, writtenBy := if r.dirty then r.writtenBy else frame }
        else { r with pins := pins }
  let wrote := w.hw.pager.resident.filter (fun r => ofPlan r && !skipped && r.pins.any (fun p => p.1 == frame && p.2.1))
  let stale (r : Resident) : Bool :=
    wrote.any (fun x => !sameSlot x r && x.page == r.page && x.obj == r.obj && x.owner == r.owner && x.part == r.part) && r.pins.isEmpty
  let w1 := modResidents (fun l => (l.filter (fun r => !stale r)).map settleOne) w
  let ended := match findPlan w1.hw plan with | some p => p.lastEnded | none => 0
  let bound := w1.hw.pager.objects.filter (fun o => o.bound.map (fun b => b.1) == some plan)
  feedJournal (forEach bound (fun o w => refreshDurable o (modObject o (fun x => { x with ended := max x.ended ended }) w)) w1)

/-- A page of a persistent object has an occupied journal slot of its own, which a new copy replaces (R205). -/
def ownsSlot (hw : Hw) (part obj page : Nat) : Bool :=
  hw.pager.journal.any (fun e => e.part == part && e.obj == obj && e.page == page)

/-- The unpinned dirty pages that pages of hints wait for (R199 step 5, R203): in each pool as many as pages wait, the coldest first. -/
def evictionWaits (hw : Hw) : List Resident :=
  let pools := (hw.pager.hints.map (fun h => PoolRef.pool h.plan h.pool)).eraseDups
  pools.flatMap (fun ref =>
    let n := (hw.pager.hints.filter (fun h => PoolRef.pool h.plan h.pool == ref)).foldl (fun k h => k + h.waited.length) 0
    (sortBy (fun r => recency r.history * 2 ^ 32 + r.slot)
      (hw.pager.resident.filter (fun r => r.pool == ref && r.pins.isEmpty && r.dirty))).take n)

/-- The pages (partition, object, page) that must enter the journal and wait while no slot is free (R205): dirty pages to be made clean,
dirty pages that an eviction waits for, the next page of each `OBJECT_WRITE`, and the mirrored pages of the commit that waits. -/
def journalWaiters (hw : Hw) : List (Nat × Nat × Nat) :=
  let dirty := (wantClean hw ++ evictionWaits hw).filter (fun r => r.owner == 0)
  let copies := (hw.host.copies.filter (fun c => c.write)).map (fun c => (c.part, c.obj, c.first + c.done))
  let mirrored := hw.mirror.pairs.flatMap (fun p => match p.ends with
    | [] => []
    | e :: _ => (p.heldRecs.filter (fun r => r.kind == 3 && r.frame ≤ e.frame)).filterMap (fun r =>
        (hw.mirror.windows.find? (fun x => x.index == r.stream)).bind (fun x => x.object.map (fun o => (x.part, o, field r.data 4 4)))))
  ((dirty.map (fun r => (r.part, r.obj, r.page)) ++ copies ++ mirrored).eraseDups).filter (fun e =>
    e.2.1 < 2 ^ 31 && !ownsSlot hw e.1 e.2.1 e.2.2)

/-- At every tick the recency histories shift in whether the page is pinned for the frame that starts (R201), and the pages
that wait for a journal slot are counted (R205). -/
def tickRecency (starting : List (Nat × Nat)) (w : Work) : Work :=
  let starts (r : Resident) : Bool :=
    let plan := match r.pool with | .pool p _ => p | .spill p => p
    starting.any (fun s => s.1 == plan && r.pins.any (fun p => p.1 == s.2))
  let w1 := modResidents (fun l => l.map (fun r => { r with history := (r.history * 2 + b2n (starts r)) % 256 })) w
  when (8192 ≤ w.hw.pager.journal.length) (bump 2 16 (journalWaiters w.hw).length) w1

end Sys2Proof.Machine
end

