-- ==== Sys2Proof/Machine/MirrorOps.lean ====
section
/-! DEFINITION. Machine/MirrorOps.lean: mirror pairs: roles, streams, records, windows and their resync, commits and takeover (R509 to R535). -/
namespace Sys2Proof.Machine

/-! ## Pairs, windows and streams -/

/-- The pair of a partition. -/
def findPair (hw : Hw) (part : Nat) : Option Pair := hw.mirror.pairs.find? (fun p => p.part == part)

/-- Change a pair. -/
def modPair (part : Nat) (f : Pair → Pair) (w : Work) : Work :=
  w.up fun h => { h with mirror := { h.mirror with pairs := h.mirror.pairs.map (fun p => if p.part == part then f p else p) } }

/-- The windows of a partition, in ascending index. -/
def windowsOf (hw : Hw) (part : Nat) : List MirrorWindow := sortBy (fun x => x.index) (hw.mirror.windows.filter (fun x => x.part == part))

/-- Change a window. -/
def modWindow (i : Nat) (f : MirrorWindow → MirrorWindow) (w : Work) : Work :=
  w.up fun h => { h with mirror := { h.mirror with windows := h.mirror.windows.map (fun x => if x.index == i then f x else x) } }

/-- A stream of a partition; stream 255 is control. -/
def streamOf (hw : Hw) (part s : Nat) : MirrorStream := tabGet {} hw.mirror.streams (256 * part + s)

/-- Change a stream. -/
def modStream (part s : Nat) (f : MirrorStream → MirrorStream) (w : Work) : Work :=
  w.up fun h => { h with mirror := { h.mirror with streams := tabMod {} h.mirror.streams (256 * part + s) f } }

/-- The paired plan of a partition (R515). -/
def pairedPlan (hw : Hw) (part : Nat) : Option Plan := hw.plans.plans.find? (fun p => p.part == part)

/-- A grant is in force (R513). -/
def grantInForce (hw : Hw) (p : Pair) : Bool := hw.time.now < p.expires

/-- The mirror fault source with a detail code (R534). -/
def mirrorFault (detail : Nat) : Work → Work := raise 32 0 0 0 detail

/-- A window enters resync (R520, R534, R535). -/
def enterResync (i : Nat) (w : Work) : Work :=
  match w.hw.mirror.windows.find? (fun x => x.index == i) with
  | none => w
  | some x =>
    let w1 := modWindow i (fun x => { x with resync := 1 }) w
    if x.resync = 0 then mirrorFault (4 + 256 * i) (bump 10 (20 + i) 1 w1) else w1

/-- The last frame whose `FRAME_END` has been sent (R523). -/
def lastSent (p : Pair) : Nat := match p.copies with | c :: _ => c.frame - 1 | [] => p.ended

/-- Writes held for copies that are done, or given up, have waited (R519, R535). -/
def endWaits (part : Nat) (copies : List MirrorCopy) (w : Work) : Work :=
  bump 10 (88 + part) ((copies.flatMap (fun c => c.waits)).foldl (fun n t => n + (w.hw.time.now - t)) 0) w

/-- A member becomes standby: it sends no more window records and its windows enter resync (R516, R520). -/
def becomeStandby (part : Nat) (w : Work) : Work :=
  forEach (windowsOf w.hw part) (fun x w => enterResync x.index w)
    (modPair part (fun p => { p with role := .standby, ended := lastSent p, copies := [], behind := false, released := none })
      (endWaits part (((findPair w.hw part).map (fun p => p.copies)).getD []) w))

/-- The pair state leaves `PAIRED`: the windows in resync at that moment are noted (R528). -/
def leavePaired (part : Nat) (w : Work) : Work :=
  forEach (windowsOf w.hw part) (fun x w => modWindow x.index (fun y => { y with stale := y.resync != 0 }) w) w

/-! ## Sending (R522 to R524) -/

/-- Endpoint word of the partner: die 0 of its module, logical core 0. -/
def partnerWord (p : Pair) : Nat := p.base / 64 * 256 + p.base % 64 * 4

/-- The record header (R522). -/
def recordHeader (id kind stream rflags seq frame : Nat) : List Byte :=
  leBytes 4 id ++ leBytes 1 kind ++ leBytes 1 stream ++ leBytes 1 rflags ++ zeros 1 ++ leBytes 4 seq ++ leBytes 4 frame

/-- A record's flits go on the port of its stream. -/
def sendRecordFlits (p : Pair) (r : MirrorRec) (w : Work) : Work :=
  let parts := if r.data.isEmpty then [[]] else chunksOf 224 (r.data.length / 224 + 1) r.data
  let header := recordHeader p.id r.kind r.stream (b2n r.resync) r.seq r.frame
  let flit (c : Nat × List Byte) : Flit := {
    vc := 5
    type := 10
    first := c.1 == 0
    last := c.1 + 1 == parts.length
    dest := partnerWord p
    src := endpointOf w.hw 0
    payload := header ++ c.2
    owner := none }
  forEach (numbered 0 parts) (fun c w => routeFlit (p.id + r.stream) (flit c) w) w

/-- An unnumbered record. -/
def sendPlain (p : Pair) (kind stream : Nat) (data : List Byte) (w : Work) : Work :=
  sendRecordFlits p { kind := kind, stream := stream, resync := false, seq := 0, frame := w.hw.time.tick % 2 ^ 32, data := data }
    (tallyIssued 2 w)

/-- A numbered record, kept until it is acknowledged. -/
def sendNumbered (p : Pair) (kind stream : Nat) (resync : Bool) (frame : Nat) (data : List Byte) (w : Work) : Work :=
  let s := streamOf w.hw p.part stream
  let r : MirrorRec := { kind := kind, stream := stream, resync := resync, seq := s.sendNext, frame := frame % 2 ^ 32, data := data }
  let now := w.hw.time.now
  let w1 := modStream p.part stream (fun s => { s with
    sendNext := (s.sendNext + 1) % 2 ^ 32
    unacked := s.unacked ++ [r]
    ackAt := if s.unacked.isEmpty then now else s.ackAt }) w
  sendRecordFlits p r (bump 10 p.part 1 (tallyIssued 2 w1))

/-- The records kept from one on are sent again. -/
def resendFrom (p : Pair) (stream seq : Nat) (w : Work) : Work :=
  let s := streamOf w.hw p.part stream
  let again := match s.unacked with
    | [] => []
    | r :: _ => s.unacked.drop ((seq + 2 ^ 32 - r.seq) % 2 ^ 32)
  let now := w.hw.time.now
  forEach again (fun r w => sendRecordFlits p r (bump 10 (12 + p.part) 1 w)) (modStream p.part stream (fun s => { s with ackAt := now }) w)

/-- An `ACK` of the next expected number of a stream. -/
def sendAck (p : Pair) (stream : Nat) (w : Work) : Work :=
  let s := streamOf w.hw p.part stream
  let now := w.hw.time.now
  sendPlain p 5 stream (leBytes 4 s.expect) (modStream p.part stream (fun s => { s with ackedAt := now, acked := s.expect }) w)

/-- The plan digest of a partition (R512). -/
def planDigest (hw : Hw) (part : Nat) : Nat :=
  match pairedPlan hw part with
  | some p => p.id + p.crc * 2 ^ 32
  | none => 0

/-- The setting of a window as the 32 B operands of `MIRROR_WINDOW_SET` (R518). -/
def windowSetting (x : MirrorWindow) : List Byte :=
  leBytes 1 x.index ++ leBytes 1 1 ++ leBytes 2 x.entry ++ leBytes 4 x.plan ++ leBytes 8 x.offset ++ leBytes 8 x.length
    ++ leBytes 4 x.maxUnits ++ zeros 4

/-- The window digest of a partition (R512). -/
def windowDigest (hw : Hw) (part : Nat) : Nat :=
  crc32c ((List.range 64).flatMap (fun i =>
    match hw.mirror.windows.find? (fun x => x.index == i && x.part == part) with
    | some x => windowSetting x
    | none => zeros 32))

/-- The code of a role (R533). -/
def PairRole.code : PairRole → Nat
  | .none => 0
  | .holder => 1
  | .standby => 2

/-- The code of a pair state (R511). -/
def PairState.code : PairState → Nat
  | .unpaired => 0
  | .seeking => 1
  | .paired => 2
  | .partnerLost => 3
  | .mismatch => 4

/-- The data of a `HELLO` (R523). -/
def helloData (hw : Hw) (p : Pair) : List Byte :=
  let holder := p.role == .holder
  leBytes 1 p.role.code ++ leBytes 1 (b2n (grantInForce hw p) + 2 * b2n p.behind) ++ leBytes 1 (4 / max 1 (partCount hw)) ++ zeros 5
    ++ leBytes 8 hw.keep.serial ++ leBytes 8 p.epoch ++ leBytes 8 (if holder then p.expires else 0)
    ++ leBytes 8 (planDigest hw p.part) ++ leBytes 4 (windowDigest hw p.part) ++ zeros 4
    ++ leBytes 8 (if holder then p.ended else 0) ++ leBytes 8 (if holder then 0 else p.committed)

/-- A holder sends `RELEASE` and ceases to be holder (R515, R530). -/
def releaseLease (part : Nat) (w : Work) : Work :=
  match findPair w.hw part with
  | none => w
  | some p =>
    if p.role != .holder then w
    else becomeStandby part (sendNumbered p 7 255 false (lastSent p) (leBytes 8 (lastSent p)) w)

/-- Every holder of the module releases its lease (R530). -/
def releaseAll (w : Work) : Work := forEach w.hw.mirror.pairs (fun p w => releaseLease p.part w) w

/-! ## Frames of the holder (R519, R520) -/

/-- A store's first address and length. -/
def Store.range : Store → Nat × Nat
  | .put a bs => (a, bs.length)
  | .clear a n => (a, n)

/-- The granules of a region window that a store touches. -/
def granulesOf (x : MirrorWindow) (st : Store) : List Nat :=
  let (a, n) := st.range
  let lo := max a x.address
  let hi := min (a + n) (x.address + x.length)
  if hi ≤ lo then [] else (List.range ((hi - 1 - x.address) / 4096 - (lo - x.address) / 4096 + 1)).map (fun i => (lo - x.address) / 4096 + i)

/-- A window notes the granules that stores of the frame have written. -/
def markStores (frame : Nat) (log : List Store) (x : MirrorWindow) : MirrorWindow :=
  { x with written := log.foldl (fun l st => (granulesOf x st).foldl (fun l u =>
      if l.contains (u, frame) then l else l ++ [(u, frame)]) l) x.written }

/-- The frame to which a write into a window of a plan belongs: the one in progress, or the next one (log 42). -/
def writingFrame (pl : Plan) : Nat := match pl.frame with | some f => f.number | none => pl.lastStarted + 1

/-- The addresses of a unit of a window: a granule's, or those of the pages that hold an object's page. -/
def unitRanges (hw : Hw) (u : CopiedUnit) : List (Nat × Nat) :=
  match hw.mirror.windows.find? (fun x => x.index == u.window) with
  | none => []
  | some x =>
    match x.object with
    | none => [(x.address + u.unit * 4096, 4096)]
    | some o => (hw.pager.resident.filter (fun r => r.page == u.unit && r.obj == o && (r.owner == x.plan + 1 || (r.owner == 0 && r.part == x.part)))).map
        (fun r => (r.addr, 65536))

/-- A store touches a unit of a pending copy. -/
def hitsCopy (hw : Hw) (log : List Store) (c : MirrorCopy) : Bool :=
  c.units.any (fun u => (unitRanges hw u).any (fun r => log.any (fun st => st.range.1 < r.1 + r.2 && r.1 < st.range.1 + st.range.2)))

/-- Writes since the last call are attributed to the frame in progress of each window's plan, on a holder; those to units whose copy for an
earlier frame is pending wait for it (R519, log 42). -/
def markWindows (w : Work) : Work :=
  if w.hw.mirror.windows.isEmpty then w
  else
    let log := w.log.take (w.log.length - w.marked)
    let holds (h : Hw) (part : Nat) : Bool := match findPair h part with | some p => p.role == .holder | none => false
    { (w.up fun h => { h with mirror := { h.mirror with
        windows := h.mirror.windows.map (fun x => match findPlan h x.plan with
          | some pl => if holds h x.part && x.object.isNone then markStores (writingFrame pl) log x else x
          | none => x)
        pairs := h.mirror.pairs.map (fun p => { p with
          copies := p.copies.map (fun c => if hitsCopy h log c then { c with waits := c.waits ++ [h.time.now] } else c) }) } }) with
      marked := w.log.length }

/-- The units of a window that a frame has changed, each with its address and length: the granules written, or the pages hinted with
`WRITE` (R519). -/
def changedUnits (hw : Hw) (x : MirrorWindow) (frame : Nat) : List (Nat × Nat × Nat) :=
  match x.object with
  | some o => (hw.pager.resident.filter (fun r => r.obj == o && (r.owner == x.plan + 1 || (r.owner == 0 && r.part == x.part))
      && r.pins.any (fun q => q.1 == frame && q.2.1))).map (fun r => (r.page, r.addr, 65536))
  | none => (x.written.filter (fun u => u.2 ≤ frame)).map (fun u => (u.1, x.address + u.1 * 4096, 4096))

/-- The frames of a window whose records are still to be sent or acknowledged. -/
def framesHeld (hw : Hw) (p : Pair) (x : MirrorWindow) : Nat :=
  let sent : List Nat := ((streamOf hw p.part x.index).unacked.filter (fun r => !r.resync)).map (fun r => r.frame)
  let copied : List Nat := (p.copies.filter (fun c => c.units.any (fun u => u.window == x.index))).map (fun c => c.frame % 2 ^ 32)
  (sent ++ copied).eraseDups.length

/-- A unit of a window as the mirror unit reads it; an uncorrectable error is counted and raised, and nothing of the unit is delivered
(R468, R471). -/
def readUnit (a n : Nat) (w : Work) : Option (List Byte) × Work :=
  if w.good a n then (some (w.read a n), w) else (none, pagerError a n w)

/-- Units read one after the other, those that cannot be read left out. -/
def readUnits : List (Nat × Nat × Nat) → Work → List (Nat × List Byte) × Work
  | [], w => ([], w)
  | u :: us, w =>
    let (got, w1) := readUnit u.2.1 u.2.2 w
    let (rest, w2) := readUnits us w1
    ((got.map (fun bs => (u.1, bs))).toList ++ rest, w2)

/-- A frame of a holder's plan ends: 0 complete, 1 aborted, 2 skipped; its changes are copied (R519, R520, R526). Called before the
frame's pins are released and its batches answered. -/
def mirrorFrameEnd (plan frame status : Nat) (w0 : Work) : Work :=
  let w := markWindows w0
  match findPlan w.hw plan with
  | none => w
  | some pl =>
    match findPair w.hw pl.part with
    | none => w
    | some p =>
      if p.role != .holder then w
      else
        let ws := (windowsOf w.hw pl.part).filter (fun x => x.plan == plan)
        let unitsOf (x : MirrorWindow) : List (Nat × Nat × Nat) := if status = 2 then [] else changedUnits w.hw x frame
        let beyond (x : MirrorWindow) : Bool := x.maxUnits < (unitsOf x).length || (!(unitsOf x).isEmpty && 3 ≤ framesHeld w.hw p x)
        let (units, w1) := (ws.filter (fun x => x.resync != 1 && !beyond x)).foldl (fun (acc : List CopiedUnit × Work) x =>
          let (got, w') := readUnits (unitsOf x) acc.2
          (acc.1 ++ got.map (fun u => { window := x.index, unit := u.1, data := u.2 }), w')) ([], w)
        let boxes := (inboxes w.hw).filter (fun r => r.plan == plan)
        let named := boxes.filterMap (fun r =>
          match r.batches.filter (fun b => b.frame == frame) with
          | b :: bs => some (r.entry, bs.length + 1, b.seq)
          | [] => none)
        let c : MirrorCopy := { frame := frame, status := status, units := units, inboxes := named, waits := [] }
        let w2 := forEach (ws.filter beyond) (fun x w => enterResync x.index w) w1
        let w3 := if status = 2 then w2
          else forEach ws (fun x w => modWindow x.index (fun y => { y with written := y.written.filter (fun u => frame < u.2) }) w) w2
        modPair pl.part (fun p => { p with ended := max p.ended frame, copies := sortBy (fun x => x.frame) (p.copies ++ [c]) }) w3

/-- The record of a copied unit: a granule with its offset, or a page with its object. -/
def unitData (hw : Hw) (i unit : Nat) (data : List Byte) : Nat × List Byte :=
  match (hw.mirror.windows.find? (fun x => x.index == i)).bind (fun x => x.object) with
  | some o => (3, leBytes 4 o ++ leBytes 4 unit ++ zeros 8 ++ data)
  | none => (2, leBytes 8 (unit * 4096) ++ zeros 8 ++ data)

/-- The copy of the oldest ended frame is done: its records and its `FRAME_END` are sent (R519, R523). -/
def sendCopy (part : Nat) (w : Work) : Work :=
  match findPair w.hw part with
  | none => w
  | some p =>
    match p.copies with
    | [] => w
    | c :: rest =>
      let earlier := match (pairedPlan w.hw part).bind (fun pl => pl.frame) with
        | some f => decide (f.number < c.frame)
        | none => false
      if p.role != .holder || p.state == .mismatch || earlier then w
      else
        let w1 := endWaits part [c] (modPair part (fun p => { p with copies := rest }) w)
        let live := c.units.filter (fun u => w.hw.mirror.windows.any (fun x => x.index == u.window && x.part == part && x.resync != 1))
        let w2 := forEach live (fun u w =>
          let (kind, data) := unitData w.hw u.window u.unit u.data
          sendNumbered p kind u.window false c.frame data w) w1
        let ws := windowsOf w2.hw part
        let entries := ws.flatMap (fun x => leBytes 1 x.index ++ zeros 3 ++ leBytes 4 (streamOf w2.hw part x.index).sendNext)
        let boxes := c.inboxes.flatMap (fun b => leBytes 2 b.1 ++ leBytes 1 b.2.1 ++ zeros 1 ++ leBytes 4 b.2.2)
        let w3 := sendNumbered p 4 255 false c.frame
          (leBytes 1 c.status ++ leBytes 1 ws.length ++ leBytes 1 c.inboxes.length ++ zeros 1 ++ entries ++ boxes) w2
        -- a window whose resync records have all been sent waits for the commit of this `FRAME_END` (R520)
        forEach ws (fun x w => if x.resync = 2 then modWindow x.index (fun y => { y with resync := 3 + c.frame }) w else w) w3

/-- The newest contents of an object's page, in its upper format: from a pool, the journal, or its home (R200); a page read from tier 3 counts
its sectors (R213). -/
def pageNow (o : PObj) (page : Nat) (w : Work) : Option (List Byte) × Work :=
  match newestCopy w.hw o page with
  | some r => readUnit r.addr 65536 w
  | none =>
    match w.hw.pager.journal.find? (fun e => o.plan == 0 && e.part == o.part && e.obj == o.id && e.page == page) with
    | some e =>
      let (got, w1) := readUnit (journalAddr e.slot) e.bytes w
      (got.map (unpackPage o), w1)
    | none =>
      if o.plan != 0 then readUnit (o.home + page * 65536) 65536 w
      else (some (unpackPage o (storedPage w o page)), bump 2 (12 + o.part) (sectorsOf o) w)

/-- The object of a window. -/
def windowObject (hw : Hw) (x : MirrorWindow) : Option PObj :=
  x.object.bind (fun id => hw.pager.objects.find? (fun o => o.id == id && (o.plan == x.plan + 1 || (o.plan == 0 && o.part == x.part))))

/-- One unit of a window in resync, as it stands. -/
def windowUnit (x : MirrorWindow) (i : Nat) (w : Work) : Option (List Byte) × Work :=
  match windowObject w.hw x with
  | some o => pageNow o i w
  | none => readUnit (x.address + i * 4096) 4096 w

/-- Number of units of a window. -/
def unitCount (hw : Hw) (x : MirrorWindow) : Nat :=
  match windowObject hw x with
  | some o => o.pages
  | none => x.length / 4096

/-- A window in resync is sent whole, as it stands (R520); a unit that cannot be read is left out (R468). -/
def sendResync (p : Pair) (x : MirrorWindow) (w : Work) : Work :=
  let frame := p.ended
  let w1 := forEach (List.range (unitCount w.hw x)) (fun i w =>
    match windowUnit x i w with
    | (none, w') => w'
    | (some bytes, w') =>
      let (kind, data) := unitData w'.hw x.index i bytes
      sendNumbered p kind x.index true frame data w') w
  modWindow x.index (fun y => { y with resync := 2 }) w1

/-! ## Records received (R519, R524, R528) -/

/-- A page mirrored to the standby passes to its pager as a page written by a frame; none while it must wait (R202, R203, R519). -/
def passPage (x : MirrorWindow) (page frame : Nat) (bytes : List Byte) (w : Work) : Option Work :=
  match windowObject w.hw x with
  | none => some w
  | some o =>
    let w1 := modResidents (fun l => l.filter (fun r => !(holds o page r))) w
    if o.plan != 0 then some (w1.write (o.home + page * 65536) bytes)
    else if flushHolds w.hw then none
    else (journalEnter o page frame (packPage o bytes) w1).map (fun w2 => refreshDurable o w2)

/-- One window record is written into its window. -/
def writeRecord (r : MirrorRec) (w : Work) : Option Work :=
  match w.hw.mirror.windows.find? (fun x => x.index == r.stream) with
  | none => some w
  | some x =>
    if r.kind = 2 then
      if field r.data 0 8 + 4096 ≤ x.length then some (w.write (x.address + field r.data 0 8) (slice r.data 16 4096)) else some w
    else passPage x (field r.data 4 4) r.frame (slice r.data 16 65536) w

/-- Several records in order; none while one of them must wait. -/
def writeRecords : List MirrorRec → Work → Option Work
  | [], w => some w
  | r :: rs, w => match writeRecord r w with
    | some w1 => writeRecords rs w1
    | none => none

/-- A resync record is written at once (R520); none while it must wait for the journal, or behind another that waits. -/
def writeResync (r : MirrorRec) (w : Work) : Option Work :=
  (writeRecord r w).map (fun w1 =>
    let unit := if r.kind = 2 then field r.data 0 8 / 4096 else field r.data 4 4
    modWindow r.stream (fun x => { x with stale := true, resync := if unit + 1 = unitCount w.hw x then 3 else 2 }) w1)

/-- A resync record that must wait is held in the mirror buffer. -/
def takeResync (p : Pair) (r : MirrorRec) (w : Work) : Work :=
  let held := modPair p.part (fun p => { p with heldRecs := p.heldRecs ++ [r] }) w
  if p.heldRecs.any (fun q => q.resync && q.stream == r.stream) then held else (writeResync r w).getD held

/-- The resync records that wait are written, as far as they can be. -/
def writeWaiting (part : Nat) : List MirrorRec → Work → Option Work
  | [], w => some w
  | r :: rs, w => match writeResync r w with
    | none => none
    | some w1 => writeWaiting part rs (modPair part (fun p => { p with heldRecs := p.heldRecs.filter (fun q => q != r) }) w1)

/-- The `FRAME_END` of a record. -/
def parseFrameEnd (r : MirrorRec) : FrameEnd :=
  let nw := field r.data 1 1
  let ni := field r.data 2 1
  { frame := r.frame
    status := field r.data 0 1
    streams := (List.range nw).map (fun i => (field r.data (4 + 8 * i) 1, field r.data (8 + 8 * i) 4))
    inboxes := (List.range ni).map (fun i =>
      (field r.data (4 + 8 * nw + 8 * i) 2, field r.data (6 + 8 * nw + 8 * i) 1, field r.data (8 + 8 * nw + 8 * i) 4)) }

/-- An accepted numbered record acts (R516, R519, R520, R530). -/
def takeNumbered (p : Pair) (r : MirrorRec) (w : Work) : Work :=
  match r.kind with
  | 4 => modPair p.part (fun p => { p with ends := p.ends ++ [parseFrameEnd r] }) w
  | 7 => modPair p.part (fun p => { p with released := some (w.hw.time.now, field r.data 0 8) }) w
  | _ =>
    if r.resync then (if p.state == .mismatch then w else takeResync p r w)
    else modPair p.part (fun p => { p with heldRecs := p.heldRecs ++ [r] }) w

/-- A numbered record is accepted in sequence, or discarded as a duplicate, or discarded with a `RESEND` (R524); a holder ignores
window records of the former holder (R528). -/
def numberedRecord (p : Pair) (r : MirrorRec) (w : Work) : Work :=
  let s := streamOf w.hw p.part r.stream
  let below := (s.expect + 2 ^ 32 - r.seq) % 2 ^ 32
  if p.role != .standby then tallyDropped 2 (tallyArrived 2 (bump 10 (16 + p.part) 1 w))
  else if below = 0 then
    let w1 := modStream p.part r.stream (fun s => { s with expect := (s.expect + 1) % 2 ^ 32 })
      (tallyDelivered 2 (tallyArrived 2 (bump 10 (4 + p.part) 1 w)))
    let w2 := takeNumbered p r w1
    if s.ackedAt + 100000 ≤ w.hw.time.now then sendAck p r.stream w2 else w2
  else if below ≤ 4096 then tallyDuplicate 2 (tallyArrived 2 (bump 10 (8 + p.part) 1 w))
  else sendPlain p 6 r.stream (leBytes 4 s.expect) w

/-- A `HELLO` arrives (R511, R515, R517, R520). -/
def takeHello (p : Pair) (id : Nat) (r : MirrorRec) (w : Work) : Work :=
  let f (off n : Nat) : Nat := field r.data off n
  let same := id == p.id && f 8 8 == p.serial && f 2 1 == 4 / max 1 (partCount w.hw)
    && f 32 8 == planDigest w.hw p.part && f 40 4 == windowDigest w.hw p.part
  let next : PairState := if same then .paired else .mismatch
  let w0 := if p.state == .paired && !same then leavePaired p.part w else w
  let w1 := modPair p.part (fun p => { p with
    state := next
    helloTick := some w.hw.time.tick
    peerRole := f 0 1
    peerFlags := f 1 1
    peerEpoch := f 16 8
    reported := max p.reported (f 24 8)
    peerEnded := f 48 8
    peerCommitted := f 56 8 }) w0
  let w2 := if !same && p.state != .mismatch then mirrorFault 2 w1 else w1
  let lower := p.epoch < f 16 8 || (p.epoch == f 16 8 && w.hw.keep.serial < f 8 8)
  let w3 := if p.role == .holder && f 0 1 == 1 then
      mirrorFault 7 (if lower then modPair p.part (fun p => { p with expires := 0, releaseNext := true }) (becomeStandby p.part w2) else w2)
    else w2
  match findPair w3.hw p.part with
  | none => w3
  | some q =>
    if q.role == .holder && same then
      let w4 := forEach ((windowsOf w3.hw p.part).filter (fun x => x.resync == 1)) (fun x w => sendResync q x w) w3
      -- a window leaves resync once the standby has committed the `FRAME_END` that followed its records (R520)
      forEach (windowsOf w4.hw p.part) (fun x w =>
        if 3 ≤ x.resync && x.resync - 3 ≤ q.peerCommitted then modWindow x.index (fun y => { y with resync := 0 }) w else w) w4
    else w3

/-- Records acknowledged below a number are released (R524). -/
def takeAck (p : Pair) (stream next : Nat) (w : Work) : Work :=
  let now := w.hw.time.now
  modStream p.part stream (fun s =>
    match s.unacked with
    | [] => s
    | r :: _ =>
      let n := (next + 2 ^ 32 - r.seq) % 2 ^ 32
      if n = 0 ∨ s.unacked.length < n then s else { s with unacked := s.unacked.drop n, ackAt := now }) w

/-- The pair a record belongs to: by `PAIR_ID`, or for a `HELLO` with another one by the module it came from. -/
def pairOfRecord (hw : Hw) (id src : Nat) : Option Pair :=
  match hw.mirror.pairs.find? (fun p => p.id == id) with
  | some p => some p
  | none => hw.mirror.pairs.find? (fun p => partnerWord p / 4 == src % 2 ^ 18 / 4)

/-- A whole record of a kind acts. -/
def takeRecord (id src : Nat) (r : MirrorRec) (w : Work) : Work :=
  match pairOfRecord w.hw id src with
  | none => w
  | some p =>
    if r.kind = 1 then takeHello p id r (tallyDelivered 2 (tallyArrived 2 w))
    else if p.id != id then w
    else match r.kind with
      | 5 => takeAck p r.stream (field r.data 0 4) (tallyDelivered 2 (tallyArrived 2 w))
      | 6 => resendFrom p r.stream (field r.data 0 4) (tallyDelivered 2 (tallyArrived 2 w))
      | _ => numberedRecord p r w

/-- Whether a record has the data its kind needs (R523). -/
def recordWhole (r : MirrorRec) : Bool :=
  match r.kind with
  | 1 => r.data.length == 64
  | 2 => r.data.length == 16 + 4096
  | 3 => r.data.length == 16 + 65536
  | 4 => r.data.length == 4 + 8 * field r.data 1 1 + 8 * field r.data 2 1
  | 5 => r.data.length == 4
  | 6 => r.data.length == 4
  | 7 => r.data.length == 8
  | _ => false

/-- A mirror flit of a kind arrives: its record is assembled, and acts with its last flit (R522). -/
def takeMirrorFlit (kind : Nat) (rx : Rx) (payload : List Byte) (w : Work) : Work :=
  if field payload 4 1 ≠ kind then w
  else
    acceptFlit rx 5 (fun w =>
      let port := rx.port.val
      let stream := field payload 5 1
      let mine (x : Nat × Nat × MirrorRec) : Bool := x.1 == port && x.2.2.stream == stream && x.2.1 == field payload 0 4
      let old := w.hw.mirror.partials.find? mine
      let fresh : MirrorRec := {
        kind := kind
        stream := stream
        resync := bit (field payload 6 1) 0
        seq := field payload 8 4
        frame := field payload 12 4
        data := [] }
      let rec_ := if rx.first then some fresh else old.map (fun x => x.2.2)
      let w1 := w.up fun h => { h with mirror := { h.mirror with partials := h.mirror.partials.filter (fun x => !mine x) } }
      match rec_ with
      | none => w1
      | some r =>
        let r' := { r with data := r.data ++ payload.drop 16 }
        if rx.last then (if recordWhole r' then takeRecord (field payload 0 4) rx.src.toNat r' w1 else w1)
        else w1.up fun h => { h with mirror := { h.mirror with partials := h.mirror.partials ++ [(port, field payload 0 4, r')] } }) w

/-! ## Commit (R519, R526) -/

/-- The standby holds every record that a `FRAME_END` names. -/
def endReady (hw : Hw) (part : Nat) (e : FrameEnd) : Bool :=
  e.streams.all (fun s => ((streamOf hw part s.1).expect + 2 ^ 32 - s.2) % 2 ^ 32 < 2 ^ 31)

/-- The batch status of an `END_STATUS`. -/
def endOutcome (status : Nat) : Nat := if status = 0 then stBatchDone else if status = 1 then stFrameAborted else stFrameSkipped

/-- One batch that a committed frame names is answered, or noted for its acceptance (R526). -/
def answerNamed (part entry seq outcome : Nat) (w : Work) : Work :=
  let plan := (pairedPlan w.hw part).map (fun p => p.id)
  match (inboxes w.hw).find? (fun r => some r.plan == plan && r.entry == entry) with
  | none => w
  | some reg =>
    match reg.batches.find? (fun b => b.seq == seq) with
    | some b => batchRespond reg b outcome w
    | none => modPair part (fun p => { p with answered := p.answered ++ [(entry, seq, outcome)] }) w

/-- The full frame number of the 32 bits a record carries, from the last committed frame. -/
def fullFrame (committed low : Nat) : Nat := committed + (low + 2 ^ 32 - committed % 2 ^ 32) % 2 ^ 32

/-- The oldest `FRAME_END` is committed (R519). -/
def commitFrame (part : Nat) (w : Work) : Work :=
  match findPair w.hw part with
  | none => w
  | some p =>
    match p.ends with
    | [] => w
    | e :: rest =>
      if p.role != .standby || p.state == .mismatch || !endReady w.hw part e then w
      else
        let own (r : MirrorRec) : Bool := r.frame == e.frame && !r.resync
        match (writeWaiting part (p.heldRecs.filter (fun r => r.resync)) w).bind (writeRecords (p.heldRecs.filter own)) with
        | none => w
        | some w1 =>
          let outcome := endOutcome e.status
          let w2 := modPair part (fun p => { p with
            ends := rest
            heldRecs := p.heldRecs.filter (fun r => !own r)
            committed := fullFrame p.committed e.frame }) w1
          let w3 := forEach (windowsOf w2.hw part) (fun x w => if x.resync = 3 then modWindow x.index (fun y => { y with resync := 0 }) w else w) w2
          let w4 := forEach e.inboxes (fun b w => forEach (List.range b.2.1) (fun i w => answerNamed part b.1 (b.2.2 + i) outcome w) w) w3
          forEach (255 :: e.streams.map (fun s => s.1)) (fun s w => sendAck p s w) w4

/-! ## Takeover (R515, R528) -/

/-- The instant T from which a standby may become holder; none where it may not. -/
def takeoverAt (hw : Hw) (p : Pair) : Option Nat :=
  if p.role != .standby || !(p.state == .paired || p.state == .seeking || p.state == .partnerLost) then none
  else
    let lease := max p.partnerExpires p.reported
    let t := match p.released with
      | some (when_, last) => min lease (if last ≤ p.committed then when_ else when_ + 20000000)
      | none => lease
    let t' := max hw.time.now t
    if t' < p.expires then some t' else none

/-- The accepted batches that no committed frame names go one to each frame from the first on, oldest first (R528). -/
def reassign (plan first : Nat) (w : Work) : Work :=
  let all := sortBy (fun x => x.2.frame) ((inboxes w.hw).filter (fun r => r.plan == plan)
    |>.flatMap (fun r => (r.batches.filter (fun b => b.outcome.isNone)).map (fun b => (r.index, b))))
  let w1 := forEach (numbered first all) (fun x w => modRegion x.2.1 (fun r => { r with
    batches := r.batches.map (fun b => if b.seq == x.2.2.seq then { b with frame := x.1 } else b) }) w) w
  forEach ((openInboxes w1.hw).filter (fun r => r.plan == plan)) (fun reg w => w.write (reg.base + 64 * (first % 2)) (noticeBytes reg first)) w1

/-- A standby becomes holder (R515, R528). -/
def takeOver (part : Nat) (w : Work) : Work :=
  match findPair w.hw part with
  | none => w
  | some p =>
    match takeoverAt w.hw p with
    | none => w
    | some t =>
      if !due w.hw t then w
      else
        let stale := (windowsOf w.hw part).any (fun x => x.stale)
        let w1 := modPair part (fun p => { p with
          role := .holder
          ends := []
          heldRecs := []
          answered := []
          released := none
          rerun := true
          behind := false
          ended := p.committed
          staleTakeover := p.staleTakeover || stale }) (advance w t)
        let w2 := mirrorFault (if stale then 6 else 5) (bump 10 (84 + part) 1 w1)
        match pairedPlan w2.hw part with
        | some pl => reassign pl.id (w2.hw.time.tick + 1) w2
        | none => w2

/-! ## The tick (R511, R521, R529, R530) -/

/-- `PAIR_READ` payload (R533). -/
def pairReport (hw : Hw) (p : Pair) : List Byte :=
  let ws := windowsOf hw p.part
  let lag := if p.role == .standby then min 255 (p.peerEnded - p.committed) else 0
  let behind := if p.role == .holder then bit p.peerFlags 1 else p.behind
  let status := p.state.code + 8 * p.role.code + 32 * b2n (grantInForce hw p) + 64 * b2n behind
    + 128 * b2n (ws.any (fun x => x.resync != 0)) + 256 * b2n p.staleTakeover + 2 ^ 16 * lag
  leBytes 4 status ++ leBytes 4 p.id ++ leBytes 8 p.serial ++ leBytes 8 p.epoch ++ leBytes 8 p.expires ++ leBytes 8 p.reported
    ++ leBytes 8 p.partnerExpires ++ leBytes 8 p.ended ++ leBytes 8 p.committed
    ++ (List.range 64).flatMap (fun i =>
      match ws.find? (fun x => x.index == i) with
      | some x => leBytes 1 (if x.resync = 0 then 1 else 2) ++ zeros 3 ++ leBytes 4 (streamOf hw p.part i).sendNext
      | none => zeros 8)

/-- `SWITCH_OVER` is answered (R529). -/
def switchAnswer (p : Pair) (result last : Nat) (w : Work) : Work :=
  match p.switching with
  | none => w
  | some (c, s, _) =>
    let w1 := modPair p.part (fun p => { p with switching := none }) w
    answerLater c s stDone (leBytes 1 result ++ zeros 7 ++ leBytes 8 last
      ++ (match findPair w1.hw p.part with | some q => pairReport w1.hw q | none => [])) w1

/-- The mirror unit's work for one pair at a tick: lag, waiting releases and switch-over, then `HELLO`. -/
def pairTick (p : Pair) (w : Work) : Work :=
  let lag := p.peerEnded - p.committed
  let w1 :=
    if p.role == .standby && p.helloTick.isSome then
      if 3 ≤ lag && !p.behind then mirrorFault 3 (modPair p.part (fun p => { p with behind := true }) w)
      else if lag ≤ 1 then modPair p.part (fun p => { p with behind := false }) w
      else w
    else w
  let w2 := if p.releaseNext then
      modPair p.part (fun p => { p with releaseNext := false }) (sendNumbered p 7 255 false (lastSent p) (leBytes 8 (lastSent p)) w1)
    else w1
  let w3 := match p.switching with
    | none => w2
    | some (_, _, start) =>
      if p.role != .holder then switchAnswer p 2 (lastSent p) w2
      else if p.copies.isEmpty && p.ended ≤ p.peerCommitted then switchAnswer p 0 (lastSent p) (releaseLease p.part w2)
      else if start + 40000000 ≤ w.hw.time.now then switchAnswer p 1 (lastSent p) w2
      else w2
  match findPair w3.hw p.part with
  | some q => sendPlain q 1 255 (helloData w3.hw q) w3
  | none => w3

/-- The mirror unit's work at a tick. -/
def mirrorTick (w : Work) : Work := forEach w.hw.mirror.pairs pairTick w

/-- Whether a plan's frame may start at an instant under its pair (R515): an unpaired partition's always may. -/
def mayStart (hw : Hw) (part instant : Nat) : Bool :=
  match findPair hw part with
  | none => true
  | some p => p.role == .holder && instant < p.expires

/-- The windows of a plan end with it; a pair's settings stay (R518). -/
def endWindows (plan : Nat) (w : Work) : Work :=
  w.up fun h => { h with mirror := { h.mirror with 
    windows := h.mirror.windows.filter (fun x => x.plan != plan)
    windowsNext := h.mirror.windowsNext.filter (fun e => match e.2 with | some x => x.plan != plan | none => true) } }

end Sys2Proof.Machine
end

