-- ==== Sys2Proof/Machine/FrameOps.lean ====
section
/-! DEFINITION. Machine/FrameOps.lean: frames of admitted plans: start, completion, overrun, slip, abort and skip (R40 to R44, R53 to R56). -/
namespace Sys2Proof.Machine

/-- Change the light counter set (R539). -/
def modLight (f : LightSt → LightSt) (w : Work) : Work := w.up fun h => { h with light := f h.light }

/-- Usable tick time U in ns (R40). -/
def usableNs (hw : Hw) : Nat := period hw - 4000

/-- The cores of a plan. -/
def Plan.coreList (p : Plan) : List Nat := p.cores.map (fun e => e.core)

/-- A core of the plan has not reached the end of the frame. -/
def coreLate (hw : Hw) (c : Nat) : Bool := (coreOf hw c).running || (coreOf hw c).ending

/-- RDMA WRITEs that a frame issued and that are not acknowledged. -/
def writesOutstanding (hw : Hw) (plan frame : Nat) : Bool :=
  hw.host.qps.any (fun q => q.outstanding.any (fun r => r.kind == 0 && r.sender != .turret && r.plan == plan && r.frame == frame))

/-- A frame in progress is complete (R43). -/
def frameDone (hw : Hw) (p : Plan) (f : FrameRun) : Bool :=
  !p.coreList.any (coreLate hw) && !writesOutstanding hw p.id f.number

/-- An overrun record joins the queue of 256 (R55). -/
def queueOverrun (bytes : List Byte) (w : Work) : Work :=
  w.up fun h =>
    let full := 256 ≤ h.host.overruns.length
    { h with host := { h.host with
      overruns := (if full then h.host.overruns.drop 1 else h.host.overruns) ++ [bytes]
      overrunLost := if full then h.host.overrunLost + 1 else h.host.overrunLost } }

/-- An overrun record with its `FLAGS` joined and its `COMPLETE_TIME` given. -/
def finishOverrun (rec_ : List Byte) (flags completeTime : Nat) : List Byte :=
  patch (patch rec_ 0x0F (leBytes 1 (field rec_ 0x0F 1 + flags))) 0x28 (leBytes 8 completeTime)

/-- Cycles a core declares at the floor (R50). -/
def declaredCycles (hw : Hw) (e : CoreEntry) : Nat := e.wOther + ceilDiv (e.wMatrix * 64) (max 1 hw.time.floor)

/-- A plan whose core time does not fit at a floor (R48, R50). -/
def failsAtFloor (hw : Hw) (floor : Nat) (p : Plan) : Bool :=
  p.cores.any (fun e => usableNs hw * 2 < e.wOther + ceilDiv (e.wMatrix * 64) (max 1 floor))

/-- The plan with the lowest `PLAN_ID` that a lowered floor would make fail (R48). -/
def floorConflict (hw : Hw) (floor : Nat) : Option Nat :=
  if floor < hw.time.floor then least ((hw.plans.plans.filter (failsAtFloor hw floor)).map (fun p => p.id)) else none

/-- The clock regions a plan uses (R56, R57): its cores, their Spires' staging and message logic, the Graver engines of its Graver
table, and the through-routers between two opposite Spires of its cores (R21). -/
def planRegions (p : Plan) : List Nat :=
  let spires := (p.coreList.map spireOf).eraseDups
  let between := (List.range 4).filter (fun s => spires.contains ((s + 1) % 4) && spires.contains ((s + 3) % 4))
  p.coreList ++ spires.map (fun s => 256 + s) ++ p.gravers.map (fun e => 264 + e.1) ++ between.map (fun s => 260 + s)

/-- Stopped time of every clock region of a plan (R60): it grows where one of them is stopped. -/
def stoppedTime (hw : Hw) (p : Plan) : Nat := ((planRegions p).map (stoppedNow hw)).sum

/-- The first engine that charged a frame more than the plan declared (R56 code 4, R247). -/
def graverOver (hw : Hw) (p : Plan) (frame : Nat) : Option Nat :=
  (List.range 12).find? (fun k =>
    let used := ((graverOf hw k).charged.filter (fun e => e.1 == p.id && e.2.1 == frame)).foldl (fun n e => n + e.2.2) 0
    let declared := (p.gravers.filter (fun e => e.1 == k)).foldl (fun n e => n + e.2) 0
    declared < used)

/-- Units a port code has carried out and in since the tick: plane ports 0 to 5, Ethernet codes 8 to 15 (R46, R317). -/
def carriedUnits (hw : Hw) (code : Nat) : Nat × Nat :=
  if code < 6 then ((portOf hw code).unitsOut, (portOf hw code).unitsIn)
  else (ceilDiv (halfOf hw (code - 8)).bytesOut 256, ceilDiv (halfOf hw (code - 8)).bytesIn 256)

/-- The first port or half that carried more units than declared in a direction (R56 code 5). -/
def linkOver (hw : Hw) : Option Nat :=
  (List.range 6 ++ (List.range 8).map (fun h => 8 + h)).find? (fun p =>
    declaredUnits hw p 0 < (carriedUnits hw p).1 || declaredUnits hw p 1 < (carriedUnits hw p).2)

/-- The first pager path that moved more than the plan declared, or path 2 where a page of the frame was spilled (R56 code 6). -/
def pagerOver (hw : Hw) (p : Plan) (frame : Nat) : Option Nat :=
  let path := (List.range 4).find? (fun k =>
    let used := (hw.pager.moved.filter (fun e => e.1 == p.id && e.2.1 == k)).foldl (fun n e => n + e.2.2) 0
    let declared := (p.pager.filter (fun e => e.1 == k)).foldl (fun n e => n + e.2) 0
    16 * declared < used)
  match path with
  | some k => some k
  | none => if hw.pager.resident.any (fun r => r.pool == .spill p.id && r.pins.any (fun q => q.1 == frame)) then some 2 else none

/-- `CAUSE`, `PEER_ENDPOINT` and `RESOURCE` of an overrun (R56). The frame's slack at the deadline of code 8 is what the core's declared
cycles leave of U: the model's choice (log 60). -/
def overrunCause (hw : Hw) (p : Plan) (e : CoreEntry) (f : FrameRun) (cycles stretch : Nat) : Nat × Nat × Nat :=
  let frame := f.number
  let declared := declaredCycles hw e
  if minIssueNow hw e.core < hw.time.floor then (1, 0, 0)
  else if f.stopped0 < stoppedTime hw p then (2, 0, 0)
  else match belowFloorOf hw p.id frame with
    | some ep => (3, ep, 0)
    | none => match graverOver hw p frame with
      | some k => (4, 0, k)
      | none => match linkOver hw with
        | some k => (5, 0, k)
        | none => match pagerOver hw p frame with
          | some k => (6, 0, k)
          | none =>
            if declared < cycles then (7, 0, 0)
            else if usableNs hw * 2 < declared + 2 * stretch then (8, 0, 0)
            else (9, 0, 0)

/-- The overrun record of a frame at its deadline, without its outcome (R55). Where every core has reached `END` and only RDMA WRITEs are
outstanding, `CORE` is the plan's lowest core with `CORES_LATE` 0: the model's choice (log 61). -/
def overrunRecord (hw : Hw) (p : Plan) (f : FrameRun) : List Byte × Nat × Nat :=
  let late := p.cores.filter (fun e => coreLate hw e.core)
  match sortBy (fun e => e.core) (if late.isEmpty then p.cores else late) with
  | [] => (zeros 64, 0, 0)
  | e :: _ =>
    let c := coreOf hw e.core
    let cycles := cyclesNow hw e.core - c.cycles0
    let stretch := stretchNow hw (spireOf e.core) - c.stretch0
    let (cause, peer, resource) := overrunCause hw p e f cycles stretch
    let resync := (stampOf hw (coreRegion e.core)).2
    (leBytes 8 f.number ++ leBytes 4 p.id ++ leBytes 2 e.ctx ++ leBytes 1 cause ++ leBytes 1 (8 * b2n resync) ++ leBytes 2 e.core
      ++ leBytes 2 late.length ++ leBytes 4 peer ++ leBytes 4 cycles ++ leBytes 4 (declaredCycles hw e) ++ leBytes 1 (minIssueNow hw e.core)
      ++ leBytes 1 hw.time.floor ++ leBytes 2 resource ++ leBytes 4 stretch ++ leBytes 8 0 ++ zeros 16, e.ctx, e.core)

/-- Completion slack of the frame of a plan that ended last (R422). -/
def noteSlack (plan slack : Nat) (w : Work) : Work :=
  w.up fun h => { h with lantern := { h.lantern with slack := h.lantern.slack.filter (fun s => s.1 != plan) ++ [(plan, slack)] } }

/-- What every end of a frame that ran does, after its outcome is settled. -/
def closeFrame (p : Plan) (f : FrameRun) (status batch : Nat) (w : Work) : Work :=
  let w1 := mirrorFrameEnd p.id f.number status w
  let w2 := modPlan p.id (fun q => { q with frame := none, lastEnded := f.number }) w1
  let w3 := endPins p.id f.number false w2
  noteBatches p.id f.number batch (collEndFrame p.id f.number w3)

/-- A frame completes (R43, R55, R337, R552); the light set counts those complete by their deadline (R539). -/
def completeFrame (p : Plan) (f : FrameRun) (w : Work) : Work :=
  let now := w.hw.time.now
  let onTime := f.number = w.hw.time.tick ∧ f.overrun.isNone
  let slack := if onTime then min 0xFFFE ((deadlineAt w.hw - now) * 65536 / max 1 (usableNs w.hw)) else 0
  let w1 := match f.overrun with
    | some r => queueOverrun (finishOverrun r 1 now) w
    | none => w
  let w2 := when f.overrun.isNone (modLight (fun l => { l with completed := l.completed + 1 })) (sample 1 p.id ((now : Int) - f.startAt) w1)
  closeFrame p f 0 stBatchDone (noteSlack p.id slack w2)

/-- Requests of an aborted frame: those that have not been sent leave their queue pairs, and those behind them move up; of those sent no
further packet is sent (R53, R329). -/
def dropUnsent (plan frame : Nat) (w : Work) : Work :=
  let ended (r : WorkReq) : Bool := r.sender != .turret && r.plan == plan && r.frame == frame
  let fix (q : Qp) : Qp :=
    let sent := (q.outstanding.filter (fun r => r.sent)).map (fun r => if ended r then { r with stopped := true } else r)
    let rest := q.outstanding.filter (fun r => !r.sent)
    let keep := rest.filter (fun r => !ended r)
    match rest with
    | [] => { q with outstanding := sent }
    | r0 :: _ =>
      let out := keep.foldl (fun (acc : Nat × List WorkReq) r =>
        ((acc.1 + r.packets) % 2 ^ 24, acc.2 ++ [{ r with psn := acc.1 }])) (r0.psn, [])
      { q with sqPsn := out.1, outstanding := sent ++ out.2 }
  w.up fun h => { h with host := { h.host with qps := h.host.qps.map fix } }

/-- The frame of a plan ends as an abort (R53, R109). -/
def abortFrame (p : Plan) (w : Work) : Work :=
  match p.frame with
  | none => w
  | some f =>
    let w1 := forEach p.coreList abortCore w
    let w2 := dropUnsent p.id f.number (graverCancel p.id w1)
    closeFrame p f 1 stFrameAborted (noteSlack p.id 0 (modLight (fun l => { l with aborted := l.aborted + 1 }) w2))

/-- A core fault, a reset or a change of power ends the frame of a plan; the record of an overrun that it had is appended first (R55). -/
def cutFrame (p : Plan) (w : Work) : Work :=
  abortFrame p (match p.frame.bind (fun f => f.overrun) with
    | some r => queueOverrun (finishOverrun r 1 0) w
    | none => w)

/-- The frame of a plan is not complete at a deadline: an overrun (R53, R55). -/
def overrunFrame (p : Plan) (f : FrameRun) (w : Work) : Work :=
  let (rec_, ctx, core) := overrunRecord w.hw p f
  let w1 := modLight (fun l => { l with overrun := l.overrun + 1 }) (raise 5 1 core ctx 0 w)
  if p.abort then abortFrame p (queueOverrun (finishOverrun rec_ 2 0) w1)
  else match f.overrun with
    | none => modPlan p.id (fun q => { q with
      frame := some { f with overrun := some rec_, slipped := true }
      slipTick := some ((w.hw.time.tick + 1) % 2 ^ 48) }) w1
    | some first => abortFrame p (queueOverrun (finishOverrun rec_ 6 0) (queueOverrun (finishOverrun first 1 0) w1))

/-- One plan at the deadline (R43, R53). -/
def planDeadline (id : Nat) (w : Work) : Work :=
  match findPlan w.hw id with
  | none => w
  | some p => match p.frame with
    | none => w
    | some f => if frameDone w.hw p f then completeFrame p f w else overrunFrame p f w

/-- The deadline of the frame window (R40, R53). -/
def frameDeadline (w : Work) : Work :=
  if w.hw.time.deadlineDone then w
  else
    let w1 := advance w (deadlineAt w.hw)
    let w2 := w1.up fun h => { h with time := { h.time with deadlineDone := true } }
    forEach (w2.hw.plans.plans.map (fun p => p.id)) planDeadline w2

/-- A frame is skipped: its batches are answered and `ABSENT` is sent (R54, R308, R502, R519). -/
def skipFrame (p : Plan) (frame : Nat) (w : Work) : Work :=
  let w1 := mirrorFrameEnd p.id frame 2 w
  let w2 := if p.frame.isNone then modPlan p.id (fun q => { q with lastEnded := frame }) w1 else w1
  let w3 := endPins p.id frame true (sendAbsent p.id frame w2)
  answerBatches p.id frame stFrameSkipped (modLight (fun l => { l with skipped := l.skipped + 1 }) w3)

/-- A frame of a plan starts on every core of the plan (R44, R70, R72, R110). -/
def beginFrame (p : Plan) (frame : Nat) (w : Work) : Work :=
  let f : FrameRun := { number := frame, startAt := w.hw.time.now, overrun := none, stopped0 := stoppedTime w.hw p, slipped := false }
  let w1 := modPlan p.id (fun q => { q with frame := some f, lastStarted := frame }) w
  let w2 := w1.up fun h => { h with pager := { h.pager with moved := h.pager.moved.filter (fun e => e.1 != p.id) } }
  forEach p.coreList (fun c w => startCore c p.seed frame w) (modLight (fun l => { l with started := l.started + 1 }) w2)

/-- A plan has a frame due at a tick: admitted, fetched, not before its first frame and not after its last (R51, R52). -/
def frameDue (p : Plan) (tick : Nat) : Bool :=
  p.fetching.isEmpty && (match p.firstFrame with | some f => decide (f ≤ tick) | none => false)
    && (match p.lastFrame with | some l => decide (tick ≤ l) | none => true)

/-- One plan at a tick: its frame starts, is skipped, or does not fall due (R53, R502, R515). -/
def planTick (tick : Nat) (id : Nat) (w : Work) : Work :=
  match findPlan w.hw id with
  | none => w
  | some p =>
    if !frameDue p tick then w
    else if !mayStart w.hw p.part w.hw.time.tickAt then w
    else if p.coreList.any (fun c => coreFenced w.hw c) then skipFrame p tick (modPlan id (fun q => { q with fenced := true }) w)
    else if p.frame.isSome || p.slipTick == some tick then skipFrame p tick w
    else if p.coreList.any (fun c => !coreLive w.hw c) then w
    else beginFrame p tick (modPlan id (fun q => { q with fenced := false }) w)

/-- Every plan at a tick. -/
def startFrames (w : Work) : Work :=
  forEach (w.hw.plans.plans.map (fun p => p.id)) (planTick w.hw.time.tick) w

end Sys2Proof.Machine
end

