-- ==== Sys2Proof/Machine/AdmitOps.lean ====
section
/-! DEFINITION. Machine/AdmitOps.lean: frame plans: parsing, the admission checks, placement, fetch, release and freeing (R45 to R52, R103, R104, R181 to R187, R283 to R287, R394, R592). -/
namespace Sys2Proof.Machine

/-! ## Reading a plan (R45, R46, R592) -/

/-- Why a plan is refused: status, `FAIL_INDEX`, `FAIL_DECLARED` and `FAIL_AVAILABLE`. -/
structure PlanFail where
  status : Nat
  index : Nat
  declared : Nat
  available : Nat

/-- The sections of a plan: number of entries, entry bytes and the offset of the count field. -/
def fixedSections : List (Nat × Nat) := [(0x20, 16), (0x22, 8), (0x24, 8), (0x26, 8), (0x28, 32)]

/-- Offsets of the sections whose extents hold, or the count field of the first that does not (R592 row 4). -/
def sectionOffsets (b : List Byte) (total : Nat) : List (Nat × Nat) → Nat → Except Nat (List Nat)
  | [], _ => .ok []
  | (off, size) :: rest, pos =>
    let stop := pos + alignUp (field b off 2 * size) 16
    if total < stop then .error off
    else match sectionOffsets b total rest stop with
      | .ok l => .ok (stop :: l)
      | .error e => .error e

/-- Size of a group entry from its counts (R284). -/
def groupEntryBytes (b : List Byte) (pos : Nat) : Nat := alignUp (32 + 4 * field b (pos + 4) 2 + 8 * field b (pos + 7) 1) 16

/-- Offsets of the group entries and their end; none where one lies outside the plan. -/
def groupOffsets (b : List Byte) (total : Nat) : Nat → Nat → Option (List Nat × Nat)
  | 0, pos => some ([], pos)
  | n + 1, pos =>
    if total < pos + 32 || total < pos + groupEntryBytes b pos then none
    else (groupOffsets b total n (pos + groupEntryBytes b pos)).map (fun r => (pos :: r.1, r.2))

/-- Where the sections of a plan lie. -/
structure PlanShape where
  cores : List Nat
  gravers : List Nat
  links : List Nat
  pager : List Nat
  reservations : List Nat
  groups : List Nat
  program : Nat
  programBytes : Nat

/-- Offsets of n entries of a size. -/
def entryOffsets (start n size : Nat) : List Nat := (List.range n).map (fun i => start + i * size)

/-- Rows 1 to 6 of R592: the shape of a plan, or the index of the first row that fails. -/
def planShape (b : List Byte) : Except Nat PlanShape :=
  if b.length < 64 then .error b.length
  else if field b 0 2 ≠ 1 then .error 0
  else if field b 0x30 4 ≠ b.length then .error 0x30
  else match sectionOffsets b b.length fixedSections 64 with
    | .error e => .error e
    | .ok ends =>
      let e (i : Nat) : Nat := (ends[i]?).getD 64
      match groupOffsets b b.length (field b 0x2A 2) (e 4) with
      | none => .error 0x2A
      | some (groups, prog) =>
        let bytes := field b 0x2C 4
        if b.length < prog + alignUp bytes 16 then .error 0x2C
        else if prog + alignUp bytes 16 ≠ b.length then .error 0x30
        else if crc32c (b.drop 64) ≠ field b 0x34 4 then .error 0x34
        else .ok {
          cores := entryOffsets 64 (field b 0x20 2) 16
          gravers := entryOffsets (e 0) (field b 0x22 2) 8
          links := entryOffsets (e 1) (field b 0x24 2) 8
          pager := entryOffsets (e 2) (field b 0x26 2) 8
          reservations := entryOffsets (e 3) (field b 0x28 2) 32
          groups := groups
          program := prog
          programBytes := bytes }

/-- The offset where a test fails. -/
def failAt (bad : Bool) (off : Nat) : List Nat := if bad then [off] else []

/-- Offsets of entries whose key has occurred before. -/
def duplicates (key : Nat → Nat) : List Nat → List Nat → List Nat
  | [], _ => []
  | o :: os, seen => failAt (seen.contains (key o)) o ++ duplicates key os (key o :: seen)

/-- Non-zero padding bytes of a range: the first. -/
def paddingFault (b : List Byte) (start stop : Nat) : List Nat :=
  ((List.range (stop - start)).find? (fun i => field b (start + i) 1 != 0)).toList.map (fun i => start + i)

/-- Faults of the header (R45). -/
def headerFaults (b : List Byte) : List Nat :=
  let count := field b 0x0C 1
  failAt (1 < field b 2 2) 2 ++ failAt (!(count == 1 || count == 2 || count == 4)) 0x0C ++ failAt (count ≤ field b 0x0D 1) 0x0D
    ++ failAt (!zeroAt b 0x0E 2) 0x0E ++ failAt (!zeroAt b 0x1E 2) 0x1E ++ failAt (!zeroAt b 0x38 8) 0x38

/-- Faults of a link-table port or `ETH_PORT` number (R46, R592). -/
def portNumberOk (hw : Hw) (n : Nat) : Bool :=
  n ≤ 5 || (8 ≤ n && n ≤ 15 && (n % 2 == 0 || (ethPortOf hw ((n - 8) / 2)).mode == 1))

/-- Faults of a reservation entry (R181, R182, R187). -/
def reservationFaults (b : List Byte) (o : Nat) : List Nat :=
  let k := field b o 1
  let flags := field b (o + 2) 2
  let pages := field b (o + 4) 4
  let obj := field b (o + 8) 4
  let slot := field b (o + 0x10) 4
  let first := field b (o + 0x14) 1
  let count := field b (o + 0x15) 1
  let place := if k = 0 ∨ k = 3 then 11 else if k = 2 then 3 else 0
  if 6 < k then [o]
  else failAt (place < field b (o + 1) 1) (o + 1)
    ++ failAt (3 < flags || (bit flags 0 && k != 1) || (bit flags 1 && k != 5)) (o + 2)
    ++ failAt ((pages == 0) != (k == 5)) (o + 4)
    ++ failAt (if k = 5 then obj = 0 ∨ 2 ^ 31 ≤ obj else if k = 6 then obj < 2 ^ 31 else obj ≠ 0) (o + 8)
    ++ failAt (k != 3 && k != 4 && field b (o + 0x0C) 4 != 0) (o + 0x0C)
    ++ failAt (slot != 0xFFFFFFFF && (3 ≤ k || slot % 8 != 0 || scratchBytes ≤ slot)) (o + 0x10)
    ++ (if k = 2 then failAt (64 < first + count && 1 ≤ count && count ≤ 64) (o + 0x14) ++ failAt (count == 0 || 64 < count) (o + 0x15)
        else failAt (first != 0) (o + 0x14) ++ failAt (count != 0) (o + 0x15))
    ++ failAt (!zeroAt b (o + 0x16) 10) (o + 0x16)

/-- Faults of a group entry (R284, R286). -/
def groupFaults (hw : Hw) (b : List Byte) (cores : List Nat) (o : Nat) : List Nat :=
  let n := field b (o + 4) 2
  let racks := field b (o + 7) 1
  let window := field b (o + 8) 4
  let eth := field b (o + 0x0C) 1
  let size := groupEntryBytes b o
  let mo := entryOffsets (o + 0x20) n 4
  let ro := entryOffsets (o + 0x20 + 4 * n) racks 8
  let member (m : Nat) : Nat := field b m 3
  let isLocal (m : Nat) : Bool := isOwnEndpoint hw (member m % 2 ^ 18)
  let rack (m : Nat) : Nat := member m % 2 ^ 18 / 256
  let own := endpointOf hw 0 / 256
  let ownMembers := mo.filter (fun m => rack m == own)
  let leads := match ownMembers with | m :: _ => isLocal m | [] => false
  let named := ro.map (fun r => field b r 2 % 1024)
  failAt (field b o 4 == 0) o ++ failAt (n == 0 || 16384 < n) (o + 4) ++ failAt (64 ≤ field b (o + 6) 1) (o + 6)
    ++ failAt (63 < racks) (o + 7) ++ failAt (window < 4096 || 16777216 < window || window % 4096 != 0) (o + 8)
    ++ failAt (if racks = 0 then eth ≠ 0 else eth < 8 ∨ !portNumberOk hw eth) (o + 0x0C)
    ++ failAt (!zeroAt b (o + 0x0D) 3) (o + 0x0D) ++ failAt (field b (o + 0x10) 4 != size) (o + 0x10)
    ++ failAt (!zeroAt b (o + 0x14) 12) (o + 0x14)
    ++ mo.flatMap (fun m => failAt (field b (m + 3) 1 != 0) (m + 3)) ++ duplicates member mo []
    ++ mo.flatMap (fun m => failAt (isLocal m && !cores.contains (coreOfWord (member m))) m)
    ++ failAt (field b (o + 6) 1 % 64 == 0 && mo.any (fun m => !isLocal m)) (o + 6)
    ++ failAt (leads && mo.any (fun m => rack m != own && !named.contains (rack m))) (o + 7)
    ++ ro.flatMap (fun r => failAt (1024 ≤ field b r 4) (r + 1))
    ++ paddingFault b (o + 0x20 + 4 * n + 8 * racks) (o + size)

/-- Faults of the init segments of an image, and their end (R103, R104). A segment of no bytes that begins inside another counts as
overlapping it (log 66). -/
def initFaults (b : List Byte) (stop lengthField : Nat) : Nat → Nat → List (Nat × Nat) → List Nat
  | 0, pos, _ => failAt (pos != stop) lengthField
  | n + 1, pos, seen =>
    if stop < pos + 16 then [lengthField]
    else
      let off := field b pos 4
      let len := field b (pos + 4) 4
      let next := pos + 16 + alignUp len 16
      failAt (off % 16 != 0 || scratchBytes ≤ off) pos ++ failAt (scratchBytes < off + len && off < scratchBytes) (pos + 4)
        ++ failAt (!zeroAt b (pos + 8) 8) (pos + 8)
        ++ failAt (seen.any (fun s => off < s.1 + s.2 && s.1 < off + len)) pos
        ++ (if stop < next then [lengthField]
            else paddingFault b (pos + 16 + len) next ++ initFaults b stop lengthField n next ((off, len) :: seen))

/-- Faults of a core's program image (R103, R104). -/
def imageFaults (b : List Byte) (prog bytes : Nat) (entry : Nat) : List Nat :=
  let idx := field b (entry + 12) 4
  let o := prog + idx
  if idx % 16 ≠ 0 ∨ bytes < idx + 32 then [entry + 12]
  else
    let n := field b (o + 4) 4
    let inits := field b (o + 0x0C) 4
    let size := field b (o + 0x10) 4
    failAt (field b o 2 != 1) o ++ failAt (!zeroAt b (o + 2) 2) (o + 2) ++ failAt (n == 0 || 8192 < n) (o + 4)
      ++ failAt (n ≤ field b (o + 8) 4) (o + 8) ++ failAt (1024 < inits) (o + 0x0C)
      ++ failAt (bytes < idx + size || size < 32 + 16 * n) (o + 0x10) ++ failAt (!zeroAt b (o + 0x14) 12) (o + 0x14)
      ++ (if n = 0 ∨ 8192 < n ∨ 1024 < inits ∨ bytes < idx + size then []
          else initFaults b (o + size) (o + 0x10) inits (o + 32 + 16 * n) [])

/-- Faults of row 8 of R592. -/
def planFaults (hw : Hw) (b : List Byte) (s : PlanShape) : List Nat :=
  let cores := s.cores.map (fun o => field b o 2)
  let pad (start : List Nat) (size from_ : Nat) : List Nat :=
    let n := start.length * size
    let a := (start.head?).getD from_
    paddingFault b (a + n) (a + alignUp n 16)
  headerFaults b
    ++ s.cores.flatMap (fun o => failAt (255 < field b o 2) o ++ failAt (!zeroAt b (o + 2) 2) (o + 2) ++ imageFaults b s.program s.programBytes o)
    ++ duplicates (fun o => field b o 2) s.cores []
    ++ s.gravers.flatMap (fun o => failAt (11 < field b o 1) o ++ failAt (!zeroAt b (o + 1) 3) (o + 1))
    ++ duplicates (fun o => field b o 1) s.gravers [] ++ pad s.gravers 8 0
    ++ s.links.flatMap (fun o => failAt (!portNumberOk hw (field b o 1)) o ++ failAt (1 < field b (o + 1) 1) (o + 1)
        ++ failAt (!zeroAt b (o + 2) 2) (o + 2))
    ++ duplicates (fun o => field b o 2) s.links [] ++ pad s.links 8 0
    ++ s.pager.flatMap (fun o => failAt (3 < field b o 1) o ++ failAt (!zeroAt b (o + 1) 3) (o + 1))
    ++ duplicates (fun o => field b o 1) s.pager [] ++ pad s.pager 8 0
    ++ s.reservations.flatMap (reservationFaults b)
    ++ duplicates (fun o => field b (o + 8) 4) (s.reservations.filter (fun o => 5 ≤ field b o 1)) []
    ++ s.groups.flatMap (groupFaults hw b cores) ++ duplicates (fun o => field b o 4) s.groups []
    ++ paddingFault b (s.program + s.programBytes) (s.program + alignUp s.programBytes 16)

/-! ## Capacities (R50) -/

/-- Units per tick of a link-table port (R50). -/
def portCapacity (hw : Hw) (port : Nat) : Nat :=
  let rate := if port < 8 then 400 else if (ethPortOf hw ((port - 8) / 2)).mode = 1 then 25 else 50
  usableNs hw * rate / 256

/-- Pages per tick of a pager path; paths 2 and 3 share one capacity (R50). -/
def pathCapacity (hw : Hw) (path : Nat) : Nat :=
  usableNs hw * (if path = 0 then 56 else if path = 1 then 28 else 1000) / 65536

/-- The sum of a table's declarations over the admitted plans. -/
def declaredSum (hw : Hw) (f : Plan → Nat) : Nat := hw.plans.plans.foldl (fun n p => n + f p) 0

/-- The sum of the values of matching pairs. -/
def sumOf {α : Type} (l : List α) (test : α → Bool) (f : α → Nat) : Nat := l.foldl (fun n a => if test a then n + f a else n) 0

/-! ## Placement (R179, R183, R186) -/

/-- First address and size of a partition's tier-2 share (R179). -/
def tier2Share (hw : Hw) (part : Nat) : Nat × Nat :=
  (shareBase hw part, shareGib hw * 2 ^ 30)

/-- The lowest free address of a run in a range, and the largest free run; `used` is sorted by address. -/
def fitRun (len hi : Nat) : List (Nat × Nat) → Nat → Nat → Option Nat → Option Nat × Nat
  | [], lo, best, found => ((if found.isNone && lo + len ≤ hi then some lo else found), max best (hi - lo))
  | (a, n) :: rest, lo, best, found =>
    fitRun len hi rest (max lo (a + n)) (max best (a - lo)) (if found.isNone && lo + len ≤ a then some lo else found)

/-- A place: tier-1 stack, tier-2 share, or staging of a Spire. -/
inductive Place where
  | stack (k : Nat)
  | share (part : Nat)
  | staging (s : Nat)
  deriving DecidableEq, Repr

/-- The place of a reservation. -/
def placeOf (part : Nat) (r : Reservation) : Option Place :=
  match r.kind with
  | 0 => some (.stack r.place)
  | 3 => some (.stack r.place)
  | 2 => some (.staging r.place)
  | 5 => none
  | _ => some (.share part)

/-- Address range of a place. -/
def placeRange (hw : Hw) : Place → Nat × Nat
  | .stack k => (k * 2 ^ 36, (k + 1) * 2 ^ 36)
  | .share p => ((tier2Share hw p).1, (tier2Share hw p).1 + (tier2Share hw p).2)
  | .staging _ => (0, stagingPlan)

/-- The runs in use in a place: reservations, spill reserves and mirror buffers of admitted plans, and slots whose pages are not
yet clean (R183, R186, R204, R518). -/
def usedRuns (hw : Hw) (pl : Place) : List (Nat × Nat) :=
  let ofPlan (p : Plan) : List (Nat × Nat) :=
    (p.reservations.filter (fun r => placeOf p.part r == some pl)).map (fun r => (r.base, r.pages * 65536))
      ++ (if pl = .share p.part && p.spillPages != 0 then [(p.spillBase, p.spillPages * 65536)] else [])
  let buffers := (hw.mirror.windows ++ hw.mirror.windowsNext.filterMap (fun e => e.2)).filterMap (fun x =>
    if pl = .share x.part then some (x.buffer, 3 * x.maxUnits * (if x.object.isSome then 65536 else 4096)) else none)
  let (lo, hi) := placeRange hw pl
  let slots := match pl with
    | .staging _ => []
    | _ => (hw.pager.resident.filter (fun r => lo ≤ r.addr && r.addr < hi)).map (fun r => (r.addr, 65536))
  sortBy (fun r => r.1) ((hw.plans.plans.flatMap ofPlan ++ buffers ++ slots).filter (fun r => r.2 != 0))

/-- A run placed beside the runs in use; else the largest free run in pages. -/
def placeRun (hw : Hw) (pl : Place) (used : List (Nat × Nat)) (bytes : Nat) : Except Nat Nat :=
  let (lo, hi) := placeRange hw pl
  match fitRun bytes hi (sortBy (fun r => r.1) used) lo 0 none with
  | (some a, _) => .ok a
  | (none, best) => .error (best / 65536)

/-- The tier number of a place for `FAIL_INDEX` (R183). -/
def placeTier : Place → Nat
  | .stack _ => 1
  | .share _ => 2
  | .staging _ => 0

/-- The place lies in the plan's partition. -/
def placeInPart (hw : Hw) (part : Nat) : Place → Bool
  | .stack k => partOfSpire hw (k / 3) == part
  | .share p => p == part
  | .staging s => partOfSpire hw s == part

/-- Reservations placed in table order (check 11, R183; where R49 would order by tier, log 62); `taken` holds the runs given to earlier entries. -/
def placeAll (hw : Hw) (part : Nat) : List Reservation → List (Place × (Nat × Nat)) → Except PlanFail (List Reservation × List (Place × (Nat × Nat)))
  | [], taken => .ok ([], taken)
  | r :: rs, taken =>
    let fail (tier declared available : Nat) : PlanFail := ⟨0x29, tier, declared, available⟩
    match placeOf part r with
    | none =>
      match findObject hw part r.object with
      | none => .error (fail 3 0 0)
      | some o =>
        if o.bound.isSome then .error (fail 3 o.pages 0)
        else match placeAll hw part rs taken with
          | .ok (l, t) => .ok (r :: l, t)
          | .error e => .error e
    | some pl =>
      if !placeInPart hw part pl then .error (fail (placeTier pl) r.pages 0)
      else
        let used := usedRuns hw pl ++ (taken.filter (fun t => t.1 == pl)).map (fun t => t.2)
        let largest := match placeRun hw pl used (2 ^ 60) with | .error n => n | .ok _ => 0
        if (r.kind = 3 ∨ r.kind = 4) ∧ r.pages < 2 * r.pinLimit then .error (fail (placeTier pl) r.pages largest)
        else match placeRun hw pl used (r.pages * 65536) with
          | .error n => .error (fail (placeTier pl) r.pages n)
          | .ok a =>
            match placeAll hw part rs (taken ++ [(pl, (a, r.pages * 65536))]) with
            | .ok (l, t) => .ok ({ r with base := a } :: l, t)
            | .error e => .error e

/-- The entries before the one whose plan-local object is more than n allow, and that entry (R187). -/
def withinLocals : Nat → List Reservation → List Reservation × Option Reservation
  | _, [] => ([], none)
  | n, r :: rs =>
    if r.kind ≠ 6 then
      let x := withinLocals n rs
      (r :: x.1, x.2)
    else match n with
      | 0 => ([], some r)
      | k + 1 =>
        let x := withinLocals k rs
        (r :: x.1, x.2)

/-- The reservation table placed (check 11): a plan has at most 4,096 plan-local objects, and the next is refused with nothing
available (R187, log 71). -/
def placeTable (hw : Hw) (part : Nat) (rs : List Reservation) : Except PlanFail (List Reservation × List (Place × (Nat × Nat))) :=
  let (fit, next) := withinLocals 4096 rs
  match placeAll hw part fit [], next with
  | .error e, _ => .error e
  | .ok _, some r => .error ⟨0x29, 2, r.pages, 0⟩
  | .ok x, none => .ok x

/-! ## The checks (R49) -/

/-- A reservation entry, not yet placed. -/
def readReservation (b : List Byte) (o : Nat) : Reservation := {
  kind := field b o 1
  place := field b (o + 1) 1
  flags := field b (o + 2) 2
  pages := field b (o + 4) 4
  object := field b (o + 8) 4
  pinLimit := field b (o + 0x0C) 4
  baseSlot := field b (o + 0x10) 4
  coreFirst := field b (o + 0x14) 1
  coreCount := field b (o + 0x15) 1
  base := 0 }

/-- Pages of the spill reserve (R186). -/
def spillPagesOf (rs : List Reservation) : Nat := 2 * sumOf rs (fun r => r.kind == 3) (fun r => r.pinLimit)

/-- The index of a queue pair number; a number that names no queue pair keeps a value that no index has (R318). -/
def qpOfNumber (n : Nat) : Nat := if 0x1000 ≤ n ∧ n < 0x2000 then n - 0x1000 else 2 ^ 32 + n

/-- A group of a plan in a slot of the group table. -/
def readGroup (b : List Byte) (plan part slot o : Nat) : Group :=
  let n := field b (o + 4) 2
  { slot := slot
    plan := plan
    part := part
    id := field b o 4
    mask := field b (o + 6) 1
    window := field b (o + 8) 4
    eth := field b (o + 0x0C) 1
    members := (entryOffsets (o + 0x20) n 4).map (fun m => field b m 3)
    racks := (entryOffsets (o + 0x20 + 4 * n) (field b (o + 7) 1) 8).map (fun r => (field b r 2 % 1024, qpOfNumber (field b (r + 4) 4))) }

/-- Checks 2 to 10 of R49, in order: the first that fails. -/
def capacityChecks (hw : Hw) (b : List Byte) (s : PlanShape) : Option PlanFail :=
  let part := field b 0x0D 1
  let cores := sortBy id (s.cores.map (fun o => field b o 2))
  let floor := match hw.time.floorNext with | some f => min f hw.time.floor | none => hw.time.floor
  let coreCap := usableNs hw * 2
  let coreNeed (o : Nat) : Nat := field b (o + 4) 4 + ceilDiv (field b (o + 8) 4 * 64) (max 1 floor)
  let graverNeed (k : Nat) : Nat := sumOf s.gravers (fun o => field b o 1 == k) (fun o => field b (o + 4) 4)
    + declaredSum hw (fun p => sumOf p.gravers (fun g => g.1 == k) (fun g => g.2))
  let linkNeed (port dir : Nat) : Nat := sumOf s.links (fun o => field b o 1 == port && field b (o + 1) 1 == dir) (fun o => field b (o + 4) 4)
    + declaredSum hw (fun p => sumOf p.links (fun l => l.1 == port && l.2.1 == dir) (fun l => l.2.2))
  let pathNeed (k : Nat) : Nat :=
    let mine (n : Nat) : Bool := n == k || (2 ≤ k && 2 ≤ n)
    sumOf s.pager (fun o => mine (field b o 1)) (fun o => field b (o + 4) 4)
      + declaredSum hw (fun p => sumOf p.pager (fun l => mine l.1) (fun l => l.2))
  let linkKeys := sortBy id (s.links.map (fun o => 256 * field b (o + 1) 1 + field b o 1))
  if field b 8 2 ≠ hw.keep.revision then some ⟨0x20, 0, 0, 0⟩
  else if field b 0x0A 2 ≠ hw.time.periodCode then some ⟨0x21, 0, 0, 0⟩
  else if field b 0x0C 1 ≠ partCount hw then some ⟨0x22, 0xFFFFFFFF, field b 0x0C 1, partCount hw⟩
  else match cores.find? (fun c => partOfCore hw c != part) with
  | some c => some ⟨0x22, c, 0, 0⟩
  | none => match (sortBy id (s.gravers.map (fun o => field b o 1))).find? (fun k => partOfSpire hw (k / 3) != part) with
  | some k => some ⟨0x22, 256 + k, 0, 0⟩
  | none => match cores.find? (fun c => (planOfCore hw c).isSome) with
  | some c => some ⟨0x23, c, 0, 0⟩
  | none =>
    if hw.time.source = .freeRun ∧ !s.links.isEmpty then some ⟨0x24, 0, 0, 0⟩
    else match (sortBy (fun o => field b o 2) s.cores).find? (fun o => coreCap < coreNeed o) with
    | some o => some ⟨0x25, field b o 2, coreNeed o, coreCap⟩
    | none => match (sortBy id (s.gravers.map (fun o => field b o 1))).find? (fun k => usableNs hw < graverNeed k) with
    | some k => some ⟨0x26, k, graverNeed k, usableNs hw⟩
    | none => match linkKeys.find? (fun k => portCapacity hw (k % 256) < linkNeed (k % 256) (k / 256)) with
    | some k => some ⟨0x27, k, linkNeed (k % 256) (k / 256), portCapacity hw (k % 256)⟩
    | none => match (sortBy id (s.pager.map (fun o => field b o 1))).find? (fun k => pathCapacity hw k < pathNeed k) with
    | some k => some ⟨0x28, k, pathNeed k, pathCapacity hw k⟩
    | none => none

/-- Check 12: a free slot for every group entry (R283, R286). -/
def groupSlots (hw : Hw) (b : List Byte) (s : PlanShape) : Except PlanFail (List Group) :=
  let free := (List.range 1024).filter (fun i => !hw.coll.groups.any (fun g => g.slot == i))
  match (numbered 0 s.groups).find? (fun e => free.length ≤ e.1 || hw.coll.groups.any (fun g => g.id == field b e.2 4)) with
  | some e => .error ⟨0x2A, e.1, 0, 0⟩
  | none => .ok ((free.zip s.groups).map (fun e => readGroup b (field b 4 4) (field b 0x0D 1) e.1 e.2))

/-- Context IDs for n cores, in rising cyclic order after the last assigned, skipping those bound (R69). -/
def assignContexts (bound : List Nat) : Nat → Nat → Nat → List Nat
  | 0, _, _ => []
  | _, 0, _ => []
  | fuel + 1, n + 1, last =>
    let c := last % 4095 + 1
    if bound.contains c then assignContexts bound fuel (n + 1) c else c :: assignContexts bound fuel n c

/-- Where Turret keeps the copy of a core's program image for its fetch: in the firmware work area (log 22). -/
def imageCopy (core : Nat) : Nat := 0x027E10000000 + core * 0x400000
/-- Fetch descriptor of a core (R394). -/
def fetchDesc (core : Nat) : Nat := 0x027E00000000 + 32 * core
/-- Fetch status of a core. -/
def fetchStatus (core : Nat) : Nat := 0x027E00002000 + 16 * core

/-- Turret prepares the fetch of a program image: its copy and the core's descriptor (R394). -/
def prepareFetch (kind core : Nat) (image : List Byte) (w : Work) : Work :=
  let g := (w.hw.keep.generation + 1) % 2 ^ 32
  let desc := leBytes 2 1 ++ leBytes 1 kind ++ zeros 1 ++ leBytes 4 g ++ leBytes 8 (imageCopy core) ++ leBytes 4 image.length
    ++ leBytes 4 (crc32c image) ++ zeros 8
  (((w.write (imageCopy core) image).write (fetchDesc core) desc)).up fun h => { h with keep := { h.keep with generation := g } }

/-- The image that a core's program index names. -/
def imageOf (p : Plan) (e : CoreEntry) : List Byte := slice p.programs e.program (field p.programs (e.program + 0x10) 4)

/-- A plan that passes every check, and the module admitting it in full (R49, R51). -/
def admitPlan (r : Request) (b : List Byte) (s : PlanShape) (placed : List Reservation) (spill : Nat) (groups : List Group) (w : Work) : Work :=
  let id := field b 4 4
  let part := field b 0x0D 1
  let bound := w.hw.plans.plans.flatMap (fun p => p.cores.map (fun e => e.ctx))
  let ctxs := assignContexts bound 8192 s.cores.length w.hw.keep.lastCtx
  let entries := (s.cores.zip ctxs).map (fun e => ({
    core := field b e.1 2
    wOther := field b (e.1 + 4) 4
    wMatrix := field b (e.1 + 8) 4
    program := field b (e.1 + 12) 4
    ctx := e.2 } : CoreEntry))
  let p : Plan := {
    id := id
    abort := bit (field b 2 2) 0
    part := part
    seed := field b 0x10 8
    crc := field b 0x34 4
    cores := entries
    gravers := s.gravers.map (fun o => (field b o 1, field b (o + 4) 4))
    links := s.links.map (fun o => (field b o 1, field b (o + 1) 1, field b (o + 4) 4))
    pager := s.pager.map (fun o => (field b o 1, field b (o + 4) 4))
    reservations := placed
    spillBase := spill
    spillPages := spillPagesOf placed
    programs := slice b s.program s.programBytes
    channel := r.channel
    answer := some r.slot
    fetching := entries.map (fun e => e.core)
    startTick := field b 0x18 6
    firstFrame := none
    lastFrame := none
    frame := none
    slipTick := none
    fenced := false
    lastStarted := 0
    lastEnded := 0 }
  let w1 := w.up fun h => { h with
    plans := { h.plans with plans := h.plans.plans ++ [p] }
    time := { h.time with planSeen := true, stepDue := false }
    keep := { h.keep with lastCtx := (ctxs.getLast?).getD h.keep.lastCtx }
    coll := { h.coll with groups := h.coll.groups ++ groups }
    pager := { h.pager with objects :=
      (h.pager.objects.map (fun o => match placed.find? (fun e => e.kind == 5 && o.plan == 0 && o.part == part && o.id == e.object) with
        | some e => { o with bound := some (id, bit e.flags 1) }
        | none => o))
      ++ (placed.filter (fun e => e.kind == 6)).map (fun e => ({
          part := part
          id := e.object
          plan := id + 1
          pages := e.pages
          packed := false
          upper := 0
          lower := 0
          variant := 0
          towardZero := false
          bound := none
          home := e.base
          damaged := 0
          durable := 0 } : PObj)) } }
  let w2 := forEach (placed.filter (fun e => e.kind != 2 && e.kind != 5)) (fun e w => w.zero e.base (e.pages * 65536)) w1
  let w3 := w2.zero spill (p.spillPages * 65536)
  let w4 := forEach (groups.zip s.groups) (fun g w =>
    w.write (groupTableBase + g.1.slot * 0x40000) (slice b g.2 (groupEntryBytes b g.2))) w3
  let w5 := forEach entries (fun e w =>
    prepareFetch 2 e.core (imageOf p e) (modCore e.core (fun c => ({
      r := { srKey := srKey p.seed e.core 0 }
      ctx := e.ctx
      plan := id
      frame := max p.startTick (w.hw.time.tick + 2) - 1
      fault := c.fault
      faultFrame := c.faultFrame
      nextId := c.nextId } : CoreSt)) (w.zero (tileKey e.core 0 0 0) 0x80000))) w4
  forEach (groups.filter (isRemote w5.hw)) (fun g w => forEach (groupPorts g) (fun port w => sendJoin g port w) w) w5

/-- The payload of a refused `PLAN_ADMIT` (R351). -/
def admitRefusal (id : Nat) (f : PlanFail) : List Byte :=
  leBytes 4 id ++ leBytes 4 f.index ++ leBytes 8 f.declared ++ leBytes 8 f.available ++ leBytes 8 0 ++ leBytes 2 0 ++ zeros 14

/-- A reservation of the plan binds an object that a copy still holds (R342, R352). -/
def bindsBusy (hw : Hw) (b : List Byte) (s : PlanShape) : Bool :=
  let part := field b 0x0D 1
  (s.reservations.map (readReservation b)).any (fun e =>
    e.kind == 5 && hw.host.copies.any (fun c => c.part == part && c.obj == e.object))

/-- `PLAN_ADMIT` after the checks of the header (R49, R351). -/
def admitRequest (r : Request) (w : Work) : Answer :=
  let addr := r.arg 0 8
  let len := r.arg 8 4
  let area := loadArea r.channel
  let refuse (id : Nat) (f : PlanFail) : Answer := .reply f.status (admitRefusal id f) w
  if targetBusy w.hw 1 0 || targetBusy w.hw 2 0 then refuse 0 ⟨stTargetBusy, 0, 0, 0⟩
  else if !r.shape 16 [(12, 4)] || addr % 16 != 0 || addr < area || area + 0x10000000 < addr + len then refuse 0 ⟨stMalformed, 0, 0, 0⟩
  else if !w.good addr len then refuse 0 ⟨stUncorrectable, 0, 0, 0⟩
  else
    let b := w.read addr len
    let id := if len < 8 then 0 else field b 4 4
    let malformedAt (i : Nat) : Answer := refuse id ⟨stMalformed, i, 0, 0⟩
    match planShape b with
    | .error i => malformedAt i
    | .ok s =>
      if targetBusy w.hw 5 id || bindsBusy w.hw b s then refuse id ⟨stTargetBusy, 0, 0, 0⟩
      else if (findPlan w.hw id).isSome then malformedAt 4
      else match least (planFaults w.hw b s) with
        | some i => malformedAt i
        | none =>
          if !ownPart w.hw r (field b 0x0D 1) then refuse id ⟨stNotPermitted, 0, 0, 0⟩
          else match capacityChecks w.hw b s with
            | some f => refuse id f
            | none =>
              let part := field b 0x0D 1
              match placeTable w.hw part (s.reservations.map (readReservation b)) with
              | .error f => refuse id f
              | .ok (placed, taken) =>
                let need := spillPagesOf placed
                let used := usedRuns w.hw (.share part) ++ (taken.filter (fun t => t.1 == .share part)).map (fun t => t.2)
                match if need = 0 then .ok 0 else placeRun w.hw (.share part) used (need * 65536) with
                | .error n => refuse id ⟨stNoCapacity, 2, need, n⟩
                | .ok spill => match groupSlots w.hw b s with
                  | .error f => refuse id f
                  | .ok groups => .later (some (5, id)) (admitPlan r b s placed spill groups w)

/-! ## Freeing and release (R52, R71, R204) -/

/-- A plan's cores, contexts, reservations, regions, groups and windows are freed (R52). -/
def freePlan (p : Plan) (w : Work) : Work :=
  let w1 := forEach p.coreList (fun c w => (modCore c (fun s => ({
    fault := s.fault
    faultFrame := s.faultFrame
    nextId := s.nextId } : CoreSt)) w).zero (scratchKey c 0) scratchBytes) w
  let mine := w1.hw.coll.groups.filter (fun g => g.plan == p.id)
  let w2 := forEach (mine.filter (isRemote w1.hw)) (fun g w => forEach (groupPorts g) (fun port w => sendLeave g port w) w) w1
  let ofPlan (r : Resident) : Bool := match r.pool with | .pool q _ => q == p.id | .spill q => q == p.id
  let w3 := endWindows p.id (w2.up fun h => { h with
    plans := { h.plans with plans := h.plans.plans.filter (fun q => q.id != p.id) }
    coll := { h.coll with
      groups := h.coll.groups.filter (fun g => g.plan != p.id)
      ordinals := h.coll.ordinals.filter (fun o => !mine.any (fun g => g.id == o.1))
      absent := h.coll.absent.filter (fun o => !mine.any (fun g => g.id == o.1)) }
    host := { h.host with
      regions := h.host.regions.filter (fun r => r.plan != p.id)
      leaving := h.host.leaving.filter (fun r => r.plan != p.id) }
    pager := { h.pager with
      objects := (h.pager.objects.filter (fun o => o.plan != p.id + 1)).map (fun o =>
        if o.bound.map (fun b => b.1) == some p.id then { o with bound := none } else o)
      resident := (h.pager.resident.filter (fun r => !(ofPlan r && (!r.dirty || r.owner != 0)))).map (fun r =>
        if ofPlan r then { r with pins := [] } else r)
      hints := h.pager.hints.filter (fun x => x.plan != p.id)
      moved := h.pager.moved.filter (fun x => x.1 != p.id) }
    conserve := { h.conserve with
      granted := h.conserve.granted.filter (fun e => !mine.any (fun g => g.slot == e.1 / 8))
      crossed := h.conserve.crossed.filter (fun e => !mine.any (fun g => g.slot == e.1 / 8))
      leaks := h.conserve.leaks.filter (fun e => !mine.any (fun g => g.slot == e.1 / 8)) }
    burin := { h.burin with planMask := h.burin.planMask.filter (fun e => e.1 != p.id) }
    lantern := { h.lantern with slack := h.lantern.slack.filter (fun s => s.1 != p.id) } })
  let w4 := forEach (List.range 12) (fun k w => modGraver k (fun g => { g with charged := g.charged.filter (fun e => e.1 != p.id) }) w) w3
  feedJournal w4

/-- Slots of plans that are gone are freed once their pages are clean (R204). -/
def freeSlots (w : Work) : Work :=
  let gone (r : Resident) : Bool := match r.pool with
    | .pool q _ => (findPlan w.hw q).isNone
    | .spill q => (findPlan w.hw q).isNone
  modResidents (fun l => l.filter (fun r => !(gone r && !r.dirty))) w

/-- Plans whose last frame has ended are freed at the tick (R52). -/
def freePlans (w : Work) : Work :=
  freeSlots (forEach (w.hw.plans.plans.filter (fun p => p.lastFrame.isSome && p.frame.isNone)) freePlan w)

/-- Turret unbinds a plan: no further frame starts (R52, R337, R530). -/
def releasePlan (id : Nat) (w : Work) : Work :=
  match findPlan w.hw id with
  | none => w
  | some p =>
    if p.lastFrame.isSome then w
    else
      let w1 := releaseLease p.part w
      let w2 := modPlan id (fun q => { q with lastFrame := some q.lastStarted }) w1
      forEach ((inboxes w2.hw).filter (fun r => r.plan == id)) (fun reg w =>
        forEach (reg.batches.filter (fun b => p.lastStarted < b.frame && b.outcome.isNone)) (fun b w => batchRespond reg b stNoFrame w) w) w2

/-! ## Fetch (R394) -/

/-- The init segments of an image, copied into a scratchpad (R103). -/
def copyInits (core : Nat) (image : List Byte) : Nat → Nat → Work → Work
  | 0, _, w => w
  | n + 1, pos, w =>
    let len := field image (pos + 4) 4
    copyInits core image n (pos + 16 + alignUp len 16) (w.write (scratchKey core (field image pos 4)) (slice image (pos + 16) len))

/-- A fetch is repeated: its descriptor takes a `GENERATION` of its own (R394). -/
def renewFetch (core : Nat) (w : Work) : Work :=
  let g := (w.hw.keep.generation + 1) % 2 ^ 32
  (w.writeNum (fetchDesc core + 4) 4 g).up fun h => { h with keep := { h.keep with generation := g } }

/-- The descriptor of a fetch meets R394: an image of a known kind and size within the firmware work area. -/
def fetchOk (desc image : List Byte) : Bool :=
  let kind := field desc 2 1
  let a := field desc 8 8
  let len := field desc 16 4
  field desc 0 2 == 1 && zeroAt desc 3 1 && zeroAt desc 24 8 && a % 16 == 0 && workArea ≤ a && a + len ≤ workArea + 0x400000000
    && (if kind = 1 then len ≤ 0x400000 else kind == 2 && field image 16 4 == len)

/-- A core's fetch unit: the status it writes, and the core with its image: a core runtime in its control store, a program in its
instruction store and scratchpad (R71, R103, R394). -/
def fetchCore (core : Nat) (w : Work) : Nat × Work :=
  let desc := w.read (fetchDesc core) 32
  let a := field desc 8 8
  let len := field desc 16 4
  let image := w.read a len
  let status :=
    if !w.good (fetchDesc core) 32 || !w.good a len then 2
    else if !fetchOk desc image then 3
    else if crc32c image ≠ field desc 20 4 then 1
    else 0
  let w1 := w.write (fetchStatus core) (slice desc 4 4 ++ leBytes 1 status ++ zeros 11)
  if status ≠ 0 then (status, w1)
  else if field desc 2 1 = 1 then (0, (w1.zero (controlKey core 0) 0x400000).write (controlKey core 0) image)
  else
    let n := field image 4 4
    let w2 := (w1.zero (scratchKey core 0) scratchBytes).write (storeKey core 0) (slice image 32 (16 * n))
    let w3 := copyInits core image (field image 0x0C 4) (32 + 16 * n) w2
    (0, modCore core (fun c => { c with bundles := n, entry := field image 8 4 }) w3)

/-- The base words of a plan are written into a core's scratchpad (R66, R184). -/
def writeBases (p : Plan) (core : Nat) (w : Work) : Work :=
  forEach (p.reservations.filter (fun r => r.kind < 3 && r.baseSlot != 0xFFFFFFFF)) (fun r w =>
    if r.kind < 2 then w.writeNum (scratchKey core r.baseSlot) 8 r.base
    else if r.place == spireOf core && r.coreFirst ≤ core % 64 && core % 64 < r.coreFirst + r.coreCount then
      w.writeNum (scratchKey core r.baseSlot) 8 (2 * 2 ^ 60 + r.base)
    else w) w

/-- A plan whose fetch failed twice is refused, and nothing of it remains (R394). -/
def refuseFetch (p : Plan) (core : Nat) (w : Work) : Work :=
  let w1 := freePlan p w
  match p.answer with
  | some slot => answerLater p.channel slot stUncorrectable (admitRefusal p.id ⟨stUncorrectable, core, 0, 0⟩) w1
  | none => w1

/-- Every core of a plan has its program: the admission is answered (R51, R351); until its first frame a context takes the frame before
it as its current frame (R96). -/
def answerAdmitted (p : Plan) (w : Work) : Work :=
  let first := max p.startTick (w.hw.time.tick + 2)
  let w1 := modLight (fun l => { l with admitted := l.admitted + 1 })
    (forEach p.coreList (fun c w => modCore c (fun x => { x with frame := first - 1 }) w)
      (modPlan p.id (fun q => { q with firstFrame := some first, answer := none }) w))
  match p.answer with
  | some slot => answerLater p.channel slot stAdmitted (leBytes 4 p.id ++ leBytes 4 0 ++ leBytes 8 0 ++ leBytes 8 0 ++ leBytes 8 first
      ++ leBytes 2 p.cores.length ++ zeros 14 ++ p.cores.flatMap (fun e => leBytes 2 e.ctx)) w1
  | none => w1

/-- A core of a plan fetches its program; a fetch that fails is repeated once (R394). -/
def fetchPlanCore (p : Plan) (core : Nat) (w : Work) : Work :=
  let (st, w1) := fetchCore core w
  let (st, w1) := if st = 1 ∨ st = 2 then fetchCore core (renewFetch core w1) else (st, w1)
  if st ≠ 0 then refuseFetch p core w1
  else
    let left := p.fetching.filter (fun c => c != core)
    let w2 := writeBases p core (modPlan p.id (fun q => { q with fetching := left }) w1)
    if left.isEmpty then answerAdmitted p w2 else w2

end Sys2Proof.Machine
end

