-- ==== Sys2Proof/Machine/LanternOps.lean ====
section
/-! DEFINITION. Machine/LanternOps.lean: issue rates, LOWEST, the module's unit record, Belfry frames sent and the power order log (R405, R410, R415, R420, R437 to R441). -/
namespace Sys2Proof.Machine

/-- Change Lantern's state. -/
def modLantern (f : LanternSt → LanternSt) (w : Work) : Work := w.up fun h => { h with lantern := f h.lantern }

/-- Change the power and pin state. -/
def modPower (f : PowerSt → PowerSt) (w : Work) : Work := w.up fun h => { h with power := f h.power }

/-- Change Keep's state. -/
def modKeep (f : KeepSt → KeepSt) (w : Work) : Work := w.up fun h => { h with keep := f h.keep }

/-- Cores of a Spire bound to an admitted plan. -/
def boundCores (hw : Hw) (s : Nat) : Nat :=
  (hw.plans.plans.flatMap (fun p => p.cores.filter (fun e => spireOf e.core == s))).length

/-- Lantern's estimate of module input power with the four Spires at given matrix rates, in W (R440). -/
def estimateW (hw : Hw) (rates : List Nat) (vector graver : Nat) : Nat :=
  Config.powerEstimate (rates ++ [vector, graver, hw.power.meanPower])
    ((List.range 4).map (fun s => (spirePower hw s).stepsNow)) ((List.range 4).map (boundCores hw))

/-- P_F: the input power with every bound core at the floor and the other units at full rate (R405). -/
def floorPower (hw : Hw) : Nat :=
  estimateW hw ((List.range 4).map (fun s => if boundCores hw s = 0 then 64 else hw.time.floor)) 64 64

/-- `WANT` in W: the input power with every bound core at 64/64 (R422). -/
def wantPower (hw : Hw) : Nat := estimateW hw [64, 64, 64, 64] 64 64

/-- `FLOOR_TOKENS` (R422). -/
def floorTokens (hw : Hw) : Nat := if hw.plans.plans.isEmpty then 0 else ceilDiv (floorPower hw) 5

/-- The lowest matrix rate a Spire may have outside LOWEST (R440, R451). -/
def lowestRate (hw : Hw) (s : Nat) : Nat := if boundCores hw s = 0 then 4 else hw.time.floor

/-- A Spire's matrix rate is set (R438). It is in force on each core from the core's next cycle that is a multiple of 64 (R162); until
then the core keeps its rate, which counts for the lowest of its frame (R55). -/
def setMatrixRate (s rate : Nat) (w : Work) : Work :=
  if (spirePower w.hw s).matrixRate = rate then w
  else
    let cores := w.hw.cores.map (fun e =>
      if spireOf e.1 == s then (e.1, { e.2 with
        minIssue := minIssueNow w.hw e.1
        rateOld := issueRate w.hw e.1
        rateFrom := alignUp (cyclesNow w.hw e.1 + 1) 64 }) else e)
    (modSpire s (fun p => { p with matrixRate := rate }) w).up fun h => { h with cores := cores }

/-- The vector rate is set; it is in force on a core from its next cycle that is a multiple of 64 (R162, R439). -/
def setVectorRate (rate : Nat) (w : Work) : Work :=
  if w.hw.power.vectorRate = rate then w
  else
    let cores := w.hw.cores.map (fun e => (e.1, { e.2 with
      vectorOld := vectorIssueRate w.hw e.1
      vectorFrom := alignUp (cyclesNow w.hw e.1 + 1) 64 }))
    (modPower (fun p => { p with vectorRate := rate }) w).up fun h => { h with cores := cores }

/-- The rates of every Spire, the vector rate and the Graver rate are set (R437). -/
def setRates (rates : Nat → Nat) (vector graver : Nat) (w : Work) : Work :=
  let w1 := forEach (List.range 4) (fun s w => setMatrixRate s (rates s) w) w
  setVectorRate vector (forEach (List.range 12) (fun k w => modGraver k (fun g => { g with rate := graver }) w) w1)

/-- The module's unit state (R431). -/
def moduleState (hw : Hw) : Nat :=
  if hw.lantern.powerState = 4 then 0
  else if hw.lantern.powerState = 3 then 1
  else if hw.fault.safe.isSome then 6
  else if !hw.keep.ready then 5
  else if hw.lantern.powerState = 2 then 2
  else if hw.lantern.powerState = 1 then 3
  else 4

/-- Keep publishes the module's unit record (R431). -/
def publishModule (w : Work) : Work := publishUnit 0 (moduleState w.hw) 0 w

/-- Belfry membership is published: 0 bypassed, 1 open without a seat, 2 open with one (R431). -/
def publishBelfry (w : Work) : Work :=
  publishUnit 32 (if !w.hw.lantern.bypassOpen then 0 else if w.hw.lantern.seat.isNone then 1 else 2) 0 w

/-- The 18 bytes of a Belfry frame (R413). -/
def belfryBytes (type src dst hops : Nat) (payload : List Byte) : List Byte :=
  let body := leBytes 1 type ++ leBytes 1 src ++ leBytes 1 dst ++ leBytes 1 hops ++ slice payload 0 12
  body ++ leBytes 2 (crc16 body)

/-- The module sends a Belfry frame: only as an open member that holds a seat (R414, R417). -/
def sendBelfry (type dst : Nat) (payload : List Byte) (w : Work) : Work :=
  match w.hw.lantern.seat with
  | some seat => if w.hw.lantern.bypassOpen && w.hw.power.aon then emit (.belfry (belfryBytes type seat dst 0 payload)) w else w
  | none => w

/-- `ALERT` with a cause (R420). -/
def sendAlert (cause : Nat) (w : Work) : Work :=
  sendBelfry 6 8 (leBytes 1 cause ++ zeros 1 ++ leBytes 8 w.hw.time.now ++ zeros 2) w

/-- FAULT_N is driven low (R484, R577). -/
def faultAsserted (hw : Hw) : Bool := hw.fault.safe.isSome || hw.keep.failed || hw.fault.pinHeld

/-- `CAP_STATUS` (R411). -/
def capStatus (hw : Hw) : Nat :=
  let l := hw.lantern
  l.powerState + 8 * l.capSource + 32 * b2n l.masterless + 64 * b2n l.orphan + 128 * b2n l.belowFloor + 256 * b2n (!l.lowest.isEmpty)
    + 512 * b2n l.coolantAssumed + 2 ^ 16 * l.effectiveCap

/-- `CAP_TERMS` (R411). -/
def capTerms (hw : Hw) : Nat :=
  let l := hw.lantern
  l.tokenTerm + 2 ^ 16 * l.hostTerm + 2 ^ 32 * l.thermalTerm + 2 ^ 48 * l.coolantTerm

/-- `TOKEN_POLICY` (R411). -/
def tokenPolicy (hw : Hw) : Nat :=
  let l := hw.lantern
  l.slackRelease + 2 ^ 16 * l.slackClaim + 2 ^ 32 * l.releaseStep + 2 ^ 40 * l.claimStep + 2 ^ 48 * l.orphanPercent

/-- An entry of the power order log (R410). -/
def logPower (source order value outcome : Nat) (w : Work) : Work :=
  let l := w.hw.lantern
  let entry := leBytes 8 w.hw.time.now ++ leBytes 4 l.epoch ++ leBytes 1 source ++ leBytes 1 order ++ leBytes 2 value
    ++ leBytes 1 outcome ++ leBytes 1 l.capSource ++ leBytes 2 l.effectiveCap ++ zeros 12
  modLantern (fun l => { l with log := (if l.log.length < 64 then l.log else l.log.drop 1) ++ [entry] }) w

/-- LOWEST is forced by a cause (R437, R441): the rates fall at once and collectives below the floor say so (R311). -/
def forceLowest (cause : Nat) (w : Work) : Work :=
  let was := !w.hw.lantern.lowest.isEmpty
  let w1 := modLantern (fun l => { l with lowest := if l.lowest.contains cause then l.lowest else l.lowest ++ [cause] }) w
  if was || 3 ≤ w.hw.lantern.powerState then w1
  else
    let running := w.hw.lantern.powerState < 2
    let w2 := setRates (fun _ => 4) 32 16 (modLantern (fun l => { l with powerState := 2 }) w1)
    when running floorAll (publishModule w2)

/-- A cause of LOWEST ends; the module leaves LOWEST at a tick (R441). -/
def endLowest (cause : Nat) (w : Work) : Work :=
  modLantern (fun l => { l with lowest := l.lowest.filter (fun c => c != cause) }) w

end Sys2Proof.Machine
end

