-- ==== Sys2Proof/Machine/Resets.lean ====
section
/-! DEFINITION. Machine/Resets.lean: domain resets, scratchpad samples, the safe state and module resets (R209, R483, R493 to R505). -/
namespace Sys2Proof.Machine

/-! ## Links that end -/

/-- A plane port leaves `ACTIVE`: its flits and messages, its unit record, and the collectives with a piece on it (R278, R307). -/
def linkDown (p cause : Nat) (next : PortState) (w : Work) : Work :=
  let was := (portOf w.hw p).state == .active
  let w1 := portDown p cause next w
  if was then collLinkDown p w1 else w1

/-- A queue pair fails: its work, and the collectives whose rack records it carries (R293, R321). -/
def qpFailed (i cause : Nat) (w : Work) : Work := collQpFailed i (qpError i cause w)

/-- The queue pairs of an Ethernet port or half fail (R321, R504). -/
def halfQpsFail (h cause : Nat) (w : Work) : Work :=
  forEach ((w.hw.host.qps.filter (fun q => q.code == 8 + h && q.state != 2)).map (fun q => q.index)) (fun i w => qpFailed i cause w) w

/-! ## Contents of domains -/

/-- The contents of a core are reset: its units, scratchpad, instruction store and register state; the binding stays (R493, R502). -/
def clearCore (core : Nat) (w : Work) : Work :=
  let c := coreOf w.hw core
  let kept : CoreSt := { ({} : CoreSt) with
    ctx := c.ctx
    plan := c.plan
    ordinal := c.ordinal
    frame := c.frame
    nextId := c.nextId
    aborted := c.aborted
    faulted := c.faulted
    lastFault := c.lastFault
    fault := c.fault
    faultFrame := c.faultFrame }
  let w1 := setCore core kept (((w.zero (scratchKey core 0) (2 ^ 22)).zero (tileKey core 0 0 0) 0x80000).zero (storeKey core 0) 0x20000)
  w1.up fun h => { h with coll := { h.coll with issued := h.coll.issued.filter (fun e => e.core != core) } }

/-- A core's clock stops and its cycle counter is reset (R63). -/
def resetCoreClock (core : Nat) (w : Work) : Work :=
  (stopClk core w).up fun h => { h with clks := tabMod {} h.clks core (fun c => { c with cycles := 0 }) }

/-- Package-fabric messages that cores of a domain had sent and that are not delivered are abandoned at the drain (R497). -/
def abandonFabric (cores : Nat → Bool) (w : Work) : Work :=
  let lost (m : FabricMsg) : Bool := cores m.srcCore && !m.delivered
  dropFabric lost (forEach (w.hw.links.fabric.filter lost) (fun _ w => tallyDropped 0 w) w)

/-- The cores that a reset of kind 1 to 3 covers. -/
def resetCores (hw : Hw) (kind unit : Nat) : List Nat :=
  match kind with
  | 1 => [unit]
  | 2 => (List.range 64).map (fun i => 64 * unit + i)
  | 3 => (spiresOfPart hw unit).flatMap (fun s => (List.range 64).map (fun i => 64 * s + i))
  | _ => []

/-- The Spires that a reset of kind 2 or 3 covers. -/
def resetSpires (hw : Hw) (kind unit : Nat) : List Nat :=
  match kind with
  | 2 => [unit]
  | 3 => spiresOfPart hw unit
  | _ => []

/-! ## Scratchpad samples (R500, R501) -/

/-- Bytes of a scratchpad in units of 16 B, a unit with an uncorrectable error read as zeros, and whether one was met. -/
def sampleBytes (w : Work) (a n : Nat) : List Byte × Bool :=
  let hit := badUnits w.hw a n
  (hit.foldl (fun bs u => patch bs (max a u - a) (zeros (min (a + n) (u + 16) - max a u))) (w.read a n), !hit.isEmpty)

/-- A sample of a core's scratchpad goes into its slot of the Burin region. -/
def takeSample (core cause seq : Nat) (w : Work) : Work :=
  if !w.hw.keep.lpUp then w
  else
    let c := coreOf w.hw core
    let (t, rs) := stampOf w.hw (coreRegion core)
    let wins := w.hw.hang.windows
    let parts := ((0, 0x10000) :: wins).map (fun x => sampleBytes w (scratchKey core x.1) x.2)
    let data := parts.flatMap (fun x => x.1)
    let flags := b2n (parts.any (fun x => x.2)) + 2 * b2n rs
    let counters := (List.range 32).flatMap (fun i => leBytes 4 (tabGet 0 c.r.wc i))
    let winBytes := (List.range 4).flatMap (fun i => match wins[i]? with
      | some x => leBytes 4 x.1 ++ leBytes 4 x.2
      | none => zeros 8)
    let header := leBytes 8 t ++ leBytes 6 c.frame ++ zeros 2 ++ leBytes 4 (if c.ctx = 0 then 0 else c.plan) ++ leBytes 2 c.ctx
      ++ leBytes 1 cause ++ leBytes 1 flags ++ leBytes 4 seq ++ leBytes 4 data.length ++ leBytes 4 c.r.pc ++ zeros 4
      ++ counters ++ leBytes 1 wins.length ++ zeros 7 ++ winBytes ++ zeros 3888
    bump 9 12 1 (w.write (burinBase w.hw + core * 0x41000) (header ++ data))

/-! ## Domain resets (R493 to R504) -/

/-- Bit of `STALE_MASK` of a part: stack k, 16 + package, 64 + plane port, 72 + Ethernet port (R465). -/
def staleBit (part : Nat) : Nat :=
  if part < 12 then part else if part < 64 then part - 4 else if part < 72 then 36 + (part - 64) else 42 + (part - 72)

/-- The training-table version of section 4 of the running bundle: its hash names it (log 74). -/
def tableVersion (hw : Hw) : Nat :=
  match hw.keep.running with
  | some b => (b.hashes[3]?).getD 0
  | none => 0

/-- A part's saved training is valid (R392). -/
def trainingValid (hw : Hw) (part : Nat) : Bool :=
  hw.keep.trained.contains (part, tableVersion hw) && !bit hw.power.stale (staleBit part)

/-- The deadline of a domain reset (R493), ns from its start. -/
def resetLimit (hw : Hw) (kind unit : Nat) : Nat :=
  match kind with
  | 1 => 5000000
  | 2 => 1800000000
  | 3 => 1800000000
  | 4 => if trainingValid hw unit then 1200000000 else 3000000000
  | _ => 10000000

/-- Plans with a core in a set end their frame as an abort (R502). -/
def abortPlansOf (cores : List Nat) (w : Work) : Work :=
  forEach ((w.hw.plans.plans.filter (fun p => p.coreList.any cores.contains)).map (fun p => p.id)) (fun id w =>
    match findPlan w.hw id with
    | some p => modPlan id (fun q => { q with fenced := true }) (cutFrame p w)
    | none => w) w

/-- What a reset of cores does when it begins: fence, drain, sample and reset (R497, R500, R502). -/
def beginCoreReset (kind unit cause seq : Nat) (w : Work) : Work :=
  let cores := resetCores w.hw kind unit
  let spires := resetSpires w.hw kind unit
  let fresh := cores.filter (fun c => !w.hw.hang.resets.any (fun r => (r.kind == 1 && r.unit == c) || (r.kind == 2 && r.unit == spireOf c)))
  let w1 := abandonFabric cores.contains (abortPlansOf cores w)
  let w2 := forEach fresh (fun c w => takeSample c cause seq w) w1
  let w3 := forEach cores (fun c w => resetCoreClock c (clearCore c w)) w2
  forEach spires (fun s w =>
    let w4 := stopClk (256 + s) ((forEach [3 * s, 3 * s + 1, 3 * s + 2] graverReset w).zero (stagingKey s 0) (2 ^ 26))
    forEach [3 * s, 3 * s + 1, 3 * s + 2] (fun k w => if stackInReset w.hw k then w else publishUnit (5 + k) 3 0 w)
      (publishUnit (1 + s) 2 0 w4)) w3

/-- What a reset of a stack does when it begins (R503). -/
def beginStackReset (k : Nat) (w : Work) : Work :=
  let inStack (a : Nat) : Bool := a < tier2Base && a / 2 ^ 36 == k
  let mine (w : Work) : List Resident := sortBy (fun r => r.writtenBy) (w.hw.pager.resident.filter (fun r => r.dirty && inStack r.addr))
  let w1 := cleanAll (mine w) w
  let w2 := forEach (mine w1) (fun r w => match objectOf w.hw r with
    | some o => if o.plan == 0 then damage o w else w
    | none => w) w1
  let w3 := forEach ((w2.hw.plans.plans.filter (fun p => p.reservations.any (fun e => e.kind == 0 && inStack e.base))).map (fun p => p.id))
    releasePlan w2
  let w4 := modResidents (fun l => l.filter (fun r => !inStack r.addr)) w3
  publishUnit (5 + k) 2 0 (stopClk (264 + k) ((graverReset k w4).zero (k * 2 ^ 36) (2 ^ 36)))

/-- A domain reset begins, or is recorded as covered by one in progress (R493 to R497, R506). -/
def beginReset (kind unit cause seq : Nat) (answer : Option (Nat × Nat × Nat)) (w : Work) : Work :=
  match coveringReset w.hw kind unit with
  | some r => w.up fun h => { h with hang := { h.hang with
      resets := h.hang.resets.map (fun q => if q == r then { q with answers := q.answers ++ answer.toList } else q) } }
  | none =>
    let now := w.hw.time.now
    let cores := resetCores w.hw kind unit
    let spires := resetSpires w.hw kind unit
    let inner (r : DomainReset) : Bool :=
      (kind == 2 || kind == 3) && ((r.kind == 1 && cores.contains r.unit) || (r.kind == 2 && spires.contains r.unit))
    let w1 := match kind with
      | 4 => beginStackReset unit w
      | 5 => publishUnit (17 + unit) 2 9 (linkDown unit 9 .down w)
      | 6 => forEach [2 * unit, 2 * unit + 1] (fun h w =>
          if halfExists w.hw h then publishUnit (23 + h) 2 0 (linkGone h 0 (halfQpsFail h 3 w)) else w) w
      | 7 => severRouter unit (stopClk (260 + unit) w)
      | _ => beginCoreReset kind unit cause seq w
    let carried := (w1.hw.hang.resets.filter inner).flatMap (fun r => r.answers)
    let r : DomainReset := {
      kind := kind
      unit := unit
      startedAt := now
      deadline := now + resetLimit w.hw kind unit
      step := .reset
      answers := carried ++ answer.toList
      cause := cause
      eventSeq := seq
      backAt := 0 }
    let w2 := w1.up fun h => { h with hang := { h.hang with resets := h.hang.resets.filter (fun q => !inner q) ++ [r] } }
    if 1 ≤ kind ∧ kind ≤ 6 then bump 9 kind 1 w2 else w2

/-- A core is refilled after its reset: its plan's image is fetched again and its base words rewritten (R502); false where the
fetch fails. -/
def refillCore (core : Nat) (w : Work) : Bool × Work :=
  match planOfCore w.hw core with
  | none => (true, w)
  | some p => match p.cores.find? (fun e => e.core == core) with
    | none => (true, w)
    | some e =>
      if p.fetching.contains core then (true, w)
      else
        let (st, w1) := fetchCore core (prepareFetch 2 core (imageOf p e) w)
        (st == 0, writeBases p core w1)

/-- Cores are refilled one after the other. -/
def refillCores : List Nat → Work → Bool × Work
  | [], w => (true, w)
  | c :: cs, w =>
    let (ok, w1) := refillCore c w
    if ok then refillCores cs w1 else (false, w1)

/-- The step of a reset in progress is set. -/
def markBack (kind unit : Nat) (w : Work) : Work :=
  w.up fun h => { h with hang := { h.hang with
    resets := h.hang.resets.map (fun q => if q.kind == kind && q.unit == unit then { q with step := .back, backAt := h.time.now } else q) } }

/-- A domain returns (R497, R502): a domain that fails its own check is not back (R494). A port returns when its link is up;
here it has only met its deadline (R493). -/
def returnDomain (kind unit : Nat) (w : Work) : Work :=
  let cores := resetCores w.hw kind unit
  let spires := resetSpires w.hw kind unit
  match kind with
  | 4 =>
    let w1 := startClk (264 + unit) (modGraver unit (fun g => { g with accepts := true }) (markBack 4 unit w))
    publishUnit (5 + unit) (if spireFenced w1.hw (unit / 3) then 3 else 1) 0 w1
  | 5 => (publishUnit (17 + unit) 0 9 (modPort unit (fun p => { p with state := if p.enabled then .detect else .disabled }) w)).up fun h =>
      { h with hang := { h.hang with resets := h.hang.resets.map (fun q =>
        if q.kind == 5 && q.unit == unit then { q with step := .back } else q) } }
  | 6 => (forEach [2 * unit, 2 * unit + 1] (fun i w =>
      if halfExists w.hw i then publishUnit (23 + i) 0 0 (modHalf i (fun x => { x with link := 2 }) w) else w) w).up fun h =>
      { h with hang := { h.hang with resets := h.hang.resets.map (fun q =>
        if q.kind == 6 && q.unit == unit then { q with step := .back } else q) } }
  | 7 => startClk (260 + unit) (markBack 7 unit w)
  | _ =>
    let (ok, w1) := refillCores cores w
    if !ok then w1
    else
      let w2 := forEach cores startClk (markBack kind unit w1)
      forEach spires (fun s w =>
        let w3 := publishUnit (1 + s) 1 0 (startClk (256 + s) w)
        forEach [3 * s, 3 * s + 1, 3 * s + 2] (fun k w => if stackInReset w.hw k then w else publishUnit (5 + k) 1 0 w) w3) w2

/-- The port or Ethernet port of a reset has link again. -/
def portBack (hw : Hw) (r : DomainReset) : Bool :=
  if r.kind = 5 then (portOf hw r.unit).state == .active
  else [2 * r.unit, 2 * r.unit + 1].all (fun h => !halfExists hw h || (halfOf hw h).link == 1)

/-- The fences of domains that are back lift at the tick, and the commands that reset them are answered (R497, R506). -/
def liftFences (w : Work) : Work :=
  let isBack (hw : Hw) (r : DomainReset) : Bool := r.step == .back && ((r.kind != 5 && r.kind != 6) || portBack hw r)
  let done := w.hw.hang.resets.filter (isBack w.hw)
  let w1 := w.up fun h => { h with hang := { h.hang with resets := h.hang.resets.filter (fun r => !isBack w.hw r) } }
  forEach done (fun r w => forEach r.answers (fun a w =>
    let back := if r.backAt = 0 then w.hw.time.now else r.backAt
    answerLater a.1 a.2.1 stDone (leBytes 8 (back - a.2.2)) w) w) w1

/-- Unit kind and number by which the collector names a reset domain (R480). -/
def resetUnit (hw : Hw) (kind unit : Nat) : Nat × Nat :=
  match kind with
  | 1 => (1, unit)
  | 2 => (2, unit)
  | 3 => (2, ((spiresOfPart hw unit).head?).getD 0)
  | 4 => (3, unit)
  | 5 => (6, unit)
  | 6 => (7, 8 + 2 * unit)
  | _ => (10, unit)

/-! ## Removal of domains (R19, R209) -/

/-- The Spire, through-router and HBM domains are removed: tier 1, the scratchpads and the staging are lost (R209). -/
def removeSpires (w : Work) : Work :=
  let w1 := abandonFabric (fun _ => true) (forEach (List.range 12) graverReset w)
  let w2 := forEach (List.range 276) stopClk w1
  let w3 := ((w2.zero 0 tier2Base).zero (2 ^ 48) (2 ^ 52)).up fun h => { h with
    cores := h.cores.filterMap (fun e => if e.2.fault.isSome then some (e.1, { ({} : CoreSt) with fault := e.2.fault, faultFrame := e.2.faultFrame }) else none)
    gravers := []
    power := { h.power with spireOn := [], routerOn := [], hbmOn := [] }
    pager := { h.pager with resident := h.pager.resident.filter (fun r => tier2Base ≤ r.addr) }
    links := { h.links with fabric := [], fabricHeld := [] }
    coll := { h.coll with ops := [], issued := [], early := [] } }
  forEach (List.range 12) (fun k w => publishUnit (5 + k) 0 0 w) (forEach (List.range 4) (fun s w => publishUnit (1 + s) 0 0 w) w3)

/-- The Spire, through-router and HBM domains are powered and their clocks run. -/
def powerSpires (w : Work) : Work :=
  let w1 := w.up fun h => { h with power := { h.power with
    spireOn := [0, 1, 2, 3]
    routerOn := [0, 1, 2, 3]
    hbmOn := [0, 1, 2, 3]
    spires := h.power.spires.map (fun e => (e.1, { e.2 with stepsNow := e.2.voltSteps })) } }
  let w2 := forEach (List.range 12) (fun k w => modGraver k (fun g => { g with accepts := true, rate := 16 }) w) (forEach (List.range 276) startClk w1)
  forEach (List.range 12) (fun k w => publishUnit (5 + k) 1 0 w) (forEach (List.range 4) (fun s w => publishUnit (1 + s) 1 0 w) w2)

/-! ## Module resets (R386, R505) -/

/-- What becomes of the journal: kept, or lost (R209). -/
inductive JournalFate where
  | kept | lost
  deriving DecidableEq, Repr

/-- Counters that a module reset leaves: the sectors written to tier 3 and the missed deadlines (R213, R508). -/
def keptCounters (c : Tab Nat) : Tab Nat := c.filter (fun e => e.1 == 2 * 2 ^ 20 + 19 || e.1 == 9 * 2 ^ 20 + 7)

/-- The settings of a pair that a module reset leaves: a former holder joins again as standby (R509 to R515, R531). -/
def pairAfterReset (p : Pair) : Pair := { p with
  state := .seeking
  role := .standby
  expires := if p.role == .holder then 0 else p.expires
  helloTick := none
  peerRole := 0
  peerFlags := 0
  peerEpoch := 0
  peerEnded := 0
  peerCommitted := 0
  behind := false
  staleTakeover := false
  released := none
  releaseNext := false
  switching := none
  ends := []
  heldRecs := []
  answered := []
  rerun := false
  copies := [] }

/-- Keep's fuses and settings, which every reset leaves, in a fresh Keep (R367, R371, R380). -/
def keepAfterReset (k : KeepSt) (railsLost : Bool) : KeepSt := {
  serial := k.serial
  ordering := k.ordering
  revision := k.revision
  seed := k.seed
  svn := k.svn
  revoked := k.revoked
  disabled := k.disabled
  spares := k.spares
  hbmRemap := k.hbmRemap
  lpRemap := k.lpRemap
  bundle := if k.imageWrite.isSome then none else k.bundle
  keys := k.keys
  topology := k.topology
  bootCount := k.bootCount
  fastStarts := k.fastStarts
  railsRemoved := k.railsRemoved || railsLost
  prevFailed := k.failed
  trained := k.trained
  trainedAt := k.trainedAt
  partitions := k.partitions }

/-- The pager after a reset: persistent objects stay in tier 3; plan-local objects, pools and pins end; the journal is kept to be
drained, or lost (R209). -/
def pagerAfterReset (g : PagerSt) (fate : JournalFate) : PagerSt := {
  objects := (g.objects.filter (fun o => o.plan == 0)).map (fun o =>
    let lost := least (o.lost.toList ++ (g.resident.filter (fun r => r.dirty && sameObject o r.part r.obj r.owner)).map (fun r => r.writtenBy))
    { o with bound := none, lost := lost })
  journal := if fate == .kept then g.journal else []
  spare := g.spare
  writeSeq := g.writeSeq
  drainDue := fate == .kept && !g.journal.isEmpty
  wearMarks := g.wearMarks }

/-- Lantern after a reset: the settings, the order log and the unit records stay (R410, R411, R431). -/
def lanternAfterReset (l : LanternSt) : LanternSt := {
  slackRelease := l.slackRelease
  slackClaim := l.slackClaim
  releaseStep := l.releaseStep
  claimStep := l.claimStep
  orphanPercent := l.orphanPercent
  log := l.log
  epoch := l.epoch
  epochSaved := l.epochSaved
  units := l.units }

/-- One Spire's ageing data, which Keep's settings hold (R460, R461). -/
def spireAfterReset (s : SpirePower) : SpirePower := {
  worstSlack := s.worstSlack
  baseline := s.baseline
  voltSteps := s.voltSteps
  stepsNow := s.stepsNow
  outcome := s.outcome
  lastReview := s.lastReview }

/-- Pins, supervisor and ageing after a reset; the domains are unpowered until the start powers them (R388, R576). -/
def powerAfterReset (p : PowerSt) (aon : Bool) : PowerSt := {
  spires := p.spires.map (fun e => (e.1, spireAfterReset e.2))
  vrAlert := p.vrAlert
  vrOwn := p.vrOwn
  vrSince := p.vrSince
  vrReported := p.vrReported
  resetSeen := false
  resetDue := p.resetDue
  inputV := p.inputV
  aon := aon
  lpddrOn := aon
  selfRefresh := aon
  flashOn := aon
  pwrEn := p.pwrEn
  pwrEnAt := p.pwrEnAt
  pwrGood := p.pwrGood
  tripLatch := p.tripLatch
  tripAt := p.tripAt
  mgmtUp := p.mgmtUp
  poweredMs := p.poweredMs
  nextReview := p.nextReview
  stale := p.stale
  poweredAt := p.poweredAt }

/-- The module after a reset: what the spec says survives, everything else as after reset (R209, R386, R480, R505, R539).
`aon` says whether the AON domain keeps its power; where it does not, the history queue and the light set are lost. -/
def afterReset (h : Hw) (fate : JournalFate) (railsLost aon : Bool) : Hw :=
  let clk : Clk := { since := h.time.now }
  let fresh : Hw := {}
  { fresh with
    time := { fresh.time with
      now := h.time.now
      rackRef := h.time.rackRef
      periodCode := h.time.periodCode
      tick := h.time.tick
      tickAt := h.time.tickAt
      deadlineDone := h.time.deadlineDone }
    clks := (List.range 276).foldl (fun t r => tabSet {} t r clk) []
    links := { fresh.links with
      weights := h.links.weights
      ports := (List.range 6).foldl (fun t p => tabSet {} t p { ({} : Port) with
        rxSpare := (portOf h p).rxSpare
        txSpare := (portOf h p).txSpare }) [] }
    host := { fresh.host with eth := h.host.eth }
    pager := pagerAfterReset h.pager fate
    keep := keepAfterReset h.keep railsLost
    lantern := lanternAfterReset h.lantern
    power := powerAfterReset h.power aon
    fault := if aon then { fresh.fault with
        reaction := h.fault.reaction
        count := h.fault.count
        history := h.fault.history
        seq := h.fault.seq
        retire := h.fault.retire
        retireLost := h.fault.retireLost
        scrubHits := h.fault.scrubHits }
      else { fresh.fault with
        reaction := h.fault.reaction
        retire := h.fault.retire
        retireLost := h.fault.retireLost
        scrubHits := h.fault.scrubHits }
    mirror := { fresh.mirror with pairs := h.mirror.pairs.map pairAfterReset }
    light := if aon then h.light else { aonSince := h.time.now }
    ctr := if aon then keptCounters h.ctr else h.ctr.filter (fun e => e.1 == 2 * 2 ^ 20 + 19)
    bad := h.bad.filter (fun u => 2 ^ 60 ≤ u || (fate == .kept && journalBase ≤ u && u < journalBase + 0x20000000))
    tx := h.tx
    freeCtr := h.freeCtr }

/-- Tiers 1 and 2 and the SRAM of the Spires are cleared but for a journal that is kept (R209). -/
def clearTiers (fate : JournalFate) (w : Work) : Work :=
  let w1 := (w.zero 0 journalBase).zero (journalBase + 0x20000000) (2 ^ 60 - (journalBase + 0x20000000))
  if fate == .kept then w1 else w1.zero journalBase 0x20000000

/-- A module reset (R505): every domain but AON is reset, and a start follows (R386). -/
def moduleReset (fate : JournalFate) (railsLost : Bool) (w : Work) : Work :=
  let w1 := (clearTiers fate w).up fun h => afterReset h fate railsLost true
  publishBelfry (publishModule (modLight (fun l => { l with resets := l.resets + 1 }) w1))

/-- AON power is lost: nothing but fuses, settings and tier 3 remains (R209, R444, R583). -/
def powerLoss (fate : JournalFate) (w : Work) : Work := (clearTiers fate w).up fun h => afterReset h fate true false

/-! ## The safe state (R483) -/

/-- The module enters the safe state. -/
def enterSafe (source : Nat) (w : Work) : Work :=
  if w.hw.fault.safe.isSome then w
  else
    let w1 := forceLowest 5 w
    let w2 := sendAlert 5 w1
    let w3 := forEach (List.range 6) (fun p w => linkDown p 6 .disabled (modPort p (fun q => { q with enabled := false }) w)) w2
    let stop (c : CoreSt) : CoreSt := { c with
      bundle := []
      hold := .none
      matrixQ := []
      moveQ := []
      msgs := []
      outs := [] }
    publishModule (w3.up fun h => { h with
      cores := h.cores.map (fun e => (e.1, stop e.2))
      gravers := h.gravers.map (fun e => (e.1, { e.2 with queue := [], running := none }))
      coll := { h.coll with ops := [], issued := [], early := [] }
      pager := { h.pager with hints := [], flushes := [] }
      fault := { h.fault with safe := some source, pinSource := source } })

/-! ## The end of a supply warning (R443, R446) -/

/-- A start is in progress: begun, and neither ready nor failed. -/
def starting (k : KeepSt) : Bool := k.startAt.isSome && !k.ready && !k.failed && 1 ≤ k.phase && k.phase ≤ 7

/-- A warning flush is in progress (R463). -/
def warningFlush (hw : Hw) : Bool := hw.pager.flushes.any (fun f => f.kind == .warning)

/-- Compute resumes at the next tick after a warning: the time since the warning counts neither against the start limit nor against
the deadline of a domain reset (R398, R495). -/
def resumeFrom (t : Nat) (w : Work) : Work :=
  let lost := nextTick w.hw - t
  let w1 := modKeep (fun k => { k with excluded := if starting k && k.excludeFrom.isNone then k.excluded + lost else k.excluded }) w
  (modPower (fun p => { p with warnAt := none }) w1).up fun h => { h with hang := { h.hang with
    resets := h.hang.resets.map (fun r => { r with deadline := r.deadline + lost }) } }

/-- A supply warning ends once its flush has ended and the input has stayed above 48 V for 5 ms since the last warning (R441, R443,
R446). -/
def endWarning (w : Work) : Work :=
  if !w.hw.power.warning || !w.hw.power.warnClear || warningFlush w.hw then w
  else
    let w1 := endLowest 2 (modPower (fun p => { p with warning := false, warnClear := false }) w)
    match w1.hw.power.warnAt with
    | some t => resumeFrom t w1
    | none => w1

end Sys2Proof.Machine
end

