-- ==== Sys2Proof/Machine/PowerOps.lean ====
section
/-! DEFINITION. Machine/PowerOps.lean: coolant and thermal rules, the effective and applied caps, tokens, and the transitions of module power (R403 to R407, R422 to R429, R440, R449 to R459, R583). -/
namespace Sys2Proof.Machine

/-! ## Coolant (R419, R455 to R459) -/

/-- Coolant readings of the last 100 ms (R456). -/
def recentCoolant (hw : Hw) : List (Nat × Option Int × Option Nat) :=
  hw.lantern.coolant.filter (fun c => hw.time.now < c.1 + 100000000)

/-- Flow W as a sum of readings in 0.001 L/min and their number; none while flow is unknown (R419, R456). -/
def flowMean (hw : Hw) : Option (Nat × Nat) :=
  if hw.lantern.coolantAssumed then none
  else
    let vs := (recentCoolant hw).filterMap (fun c => c.2.2)
    if vs.isEmpty then none else some (vs.foldl (· + ·) 0, vs.length)

/-- Inlet I as a sum of readings in 0.01 C and their number; 45 C while it is assumed (R419, R456). -/
def inletMean (hw : Hw) : Int × Nat :=
  if hw.lantern.coolantAssumed then (4500, 1)
  else
    let vs := (recentCoolant hw).filterMap (fun c => c.2.1)
    if vs.isEmpty then (hw.lantern.inlet, 1) else (vs.foldl (· + ·) 0, vs.length)

/-- W lies below a flow in 0.001 L/min; false while flow is unknown. -/
def flowBelow (hw : Hw) (limit : Nat) : Bool :=
  match flowMean hw with
  | some (s, n) => s < limit * n
  | none => false

/-- I lies above a temperature in 0.01 C. -/
def inletAbove (hw : Hw) (limit : Nat) : Bool :=
  let m := inletMean hw
  ((limit * m.2 : Nat) : Int) < m.1

/-- f_W as a fraction (R456). -/
def flowFactor (hw : Hw) : Nat × Nat :=
  match flowMean hw with
  | none => (1, 1)
  | some (s, n) => if 2000 * n ≤ s then (1, 1) else if s < 1500 * n then (3, 5) else (8 * s - 6000 * n, 10000 * n)

/-- f_I as a fraction (R456). -/
def inletFactor (hw : Hw) : Nat × Nat :=
  let m := inletMean hw
  if m.1 ≤ ((4500 * m.2 : Nat) : Int) then (1, 1)
  else if ((5000 * m.2 : Nat) : Int) < m.1 then (3, 5)
  else (46000 * m.2 - 8 * m.1.toNat, 10000 * m.2)

/-- A whole scaled by both factors, rounded down (R456). -/
def coolantPart (hw : Hw) (whole : Nat) : Nat :=
  let f := flowFactor hw
  let g := inletFactor hw
  whole * (f.1 * g.1) / max 1 (f.2 * g.2)

/-- A halt or a loss is in progress (R457, R458). -/
def haltRuns (hw : Hw) : Bool := hw.power.coolantMode == 2 || hw.power.coolantMode == 3

/-- The coolant part of a tick: the term, its registers and how long the halt conditions have held (R456, R457). -/
def coolantTick (w : Work) : Work :=
  let hw := w.hw
  let term := coolantPart hw 560
  let since (c : Bool) (o : Option Nat) : Option Nat := if c then some (o.getD hw.time.now) else none
  let miss := hw.lantern.coolantMiss + 1
  let w1 := modLantern (fun l => { l with
    coolantTerm := term
    coolantMiss := miss
    lowFlowSince := since (flowBelow hw 1200) l.lowFlowSince
    hotInletSince := since (inletAbove hw 5200) l.hotInletSince
    coolant := recentCoolant hw }) w
  modPower (fun p => { p with
    coolantMode := if haltRuns hw then p.coolantMode else b2n (decide (term < 560))
    flowUnknown := (flowMean hw).isNone
    inletHigh := inletAbove hw 4500
    coolantFactor := coolantPart hw 1000 }) w1

/-! ## Hot spots (R449 to R454) -/

/-- The state of a hot spot: 30 x Spire + spot, Cupola 120 to 127. -/
def spotOf (hw : Hw) (i : Nat) : HotSpot := tabGet {} hw.power.spots i

/-- Change a hot spot. -/
def modSpot (i : Nat) (f : HotSpot → HotSpot) (w : Work) : Work :=
  modPower (fun p => { p with spots := tabMod {} p.spots i f }) w

/-- A sensor reading is plausible: within -20 C to 140 C and within 20 C of that sensor's previous sample (R450). -/
def plausible (prev : Option Int) (v : Int) : Bool :=
  -2000 ≤ v && v ≤ 14000 && (match prev with | some q => decide ((v - q).natAbs ≤ 2000) | none => true)

/-- What R450 makes of a pair: the reading used and the pair status. `split` says that the two have differed for more than 100 ms. -/
def resolvePair (pa pb split : Bool) (a b : Int) : Int × Nat :=
  if !pa && !pb then (10500, 3)
  else if !pa then (b + 300, 2)
  else if !pb then (a + 300, 2)
  else if split then (max a b + 300, 1)
  else (max a b, 0)

/-- A sample of one hot spot (R450): the reading it resolves to is noted with its time. -/
def samplePair (i : Nat) (a b : Int) (w : Work) : Work :=
  let now := w.hw.time.now
  let s := spotOf w.hw i
  let pa := plausible s.a a
  let pb := plausible s.b b
  let apart := pa && pb && decide (600 < (a - b).natAbs)
  let splitSince := if apart then some (s.splitSince.getD now) else none
  let split := apart && (match s.splitSince with | some t => decide (t + 100000000 < now) | none => false)
  let (v, st) := resolvePair pa pb split a b
  let w1 := modSpot i (fun q => { q with
    a := some a
    b := some b
    latest := st
    splitSince := splitSince
    absentSince := if s.status != 0 && st == s.status then none else some (s.absentSince.getD now)
    history := (now, v) :: q.history.filter (fun e => now ≤ e.1 + 1000000000) }) w
  let select := if i < 120 then 64 * (i / 30) + i % 30 else 30 + (i - 120)
  let w2 := sample 4 select v w1
  let w3 := if i < 120 then w2 else forEach [1, 2, 3] (fun s w => sample 4 (64 * s + 30 + (i - 120)) v w) w2
  modLight (fun l => { l with peak := max l.peak v.toNat }) w3

/-- A pair changes status (R450): at once into status 1 to 3, back to 0 only after 1 s without the condition. Cupola's pairs count
for every Spire. -/
def changePair (i : Nat) (w : Work) : Work :=
  let now := w.hw.time.now
  let s := spotOf w.hw i
  let want := s.latest
  if want = s.status then w
  else if want = 0 then
    match s.absentSince with
    | some t => if t + 1000000000 ≤ now then modSpot i (fun q => { q with status := 0, changedAt := some now }) w else w
    | none => w
  else
    let spires := if i < 120 then [i / 30] else [0, 1, 2, 3]
    let w1 := modSpot i (fun q => { q with status := want, changedAt := some now, absentSince := none }) w
    raise 24 9 i 0 want (forEach spires (fun s w => bump 7 (15 + s) 1 w) w1)

/-- The hot spots of a Spire with their numbers in `HOTTEST_SPOT` (R449, R463). -/
def spotsOfSpire (s : Nat) : List (Nat × Nat) :=
  (List.range 30).map (fun j => (j, 30 * s + j)) ++ (List.range 8).map (fun j => (30 + j, 120 + j))

/-- The latest resolved reading of a hot spot. -/
def readingOf (hw : Hw) (i : Nat) : Option Int := ((spotOf hw i).history.head?).map (fun e => e.2)

/-- The hottest reading of a list of hot spots, the lower number first. -/
def hottestOf (hw : Hw) (l : List (Nat × Nat)) : Option (Nat × Int) :=
  l.foldl (fun acc x => match readingOf hw x.2, acc with
    | some v, some (_, u) => if u < v then some (x.1, v) else acc
    | some v, none => some (x.1, v)
    | none, _ => acc) none

/-- The rise of a hot spot's resolved reading over a time, its samples within 200 ms of a change of status left out (R452, R458). -/
def riseOf (hw : Hw) (i span : Nat) : Int :=
  let s := spotOf hw i
  let h := s.history.filter (fun e => hw.time.now ≤ e.1 + span
    && (match s.changedAt with | some t => decide (t + 200000000 ≤ e.1) | none => true))
  match h, h.getLast? with
  | (_, v) :: _, some (_, u) => v - u
  | _, _ => 0

/-- Rates and the cap may not rise: some reading has risen by more than 3 C over the last 1 s (R452). -/
def heatingFast (hw : Hw) : Bool := (List.range 128).any (fun i => 300 < riseOf hw i 1000000000)

/-- The thermal target of a Spire at T_s, before its clamp, in 64ths (R451). -/
def rawTarget (ts : Int) : Int := if ts < 9500 then 64 else 64 - 6 * ((ts - 9500 + 99) / 100)

/-- A Spire's thermal rate after a sample (R451, R453): lower targets at once, higher ones after 100 ms and not while heating fast. -/
def thermalRate (s : Nat) (w : Work) : Work :=
  let now := w.hw.time.now
  match hottestOf w.hw (spotsOfSpire s) with
  | none => w
  | some (spot, ts) =>
    let low := lowestRate w.hw s
    let target := (max (low : Int) (rawTarget ts)).toNat
    let clamp := rawTarget ts < (low : Int)
    let real := (hottestOf w.hw ((spotsOfSpire s).filter (fun x => (spotOf w.hw x.2).status != 3))).map (fun x => x.2)
    let hot := (match real with | some v => decide (10500 ≤ v) | none => false) && target == low
    let cool := ts < 10000
    let fast := heatingFast w.hw
    let w0 := if (spirePower w.hw s).thermalRate < 64 then bump 7 (11 + s) 100000 w else w
    modSpire s (fun p =>
      let since := if p.target = target then p.targetSince else now
      { p with
        target := target
        targetSince := since
        thermalRate := if target ≤ p.thermalRate then target
          else if since + 100000000 ≤ now && !fast then target else p.thermalRate
        throttling := decide (9500 ≤ ts)
        atClamp := clamp
        hottestSpot := spot
        hottest := ts
        hotSince := if hot then some (p.hotSince.getD now) else none
        coolSince := if cool then some (p.coolSince.getD now) else none }) w0

/-- A thermal emergency ends once every Spire has stayed below 100 C for 100 ms (R441). -/
def endEmergency (w : Work) : Work :=
  let cool (s : Nat) : Bool := match (spirePower w.hw s).coolSince with
    | some t => decide (t + 100000000 ≤ w.hw.time.now)
    | none => false
  if w.hw.lantern.lowest.contains 3 && (List.range 4).all cool then
    forEach (List.range 4) (fun s w => modSpire s (fun p => { p with emergency := false }) w) (endLowest 3 w)
  else w

/-- A thermal emergency's condition on a Spire (R453). -/
def emergencyDue (hw : Hw) (s : Nat) : Bool :=
  let p := spirePower hw s
  let peak := (hottestOf hw ((spotsOfSpire s).filter (fun x => (spotOf hw x.2).status != 3))).map (fun x => x.2)
  (match p.hotSince with | some t => decide (t + 10000000 ≤ hw.time.now) | none => false)
    || (match peak with | some v => decide (10800 ≤ v) | none => false)

/-- A sudden coolant loss's condition (R458). -/
def lossDue (hw : Hw) : Bool :=
  2 ≤ ((List.range 128).filter (fun i => (spotOf hw i).status != 3 && 160 < riseOf hw i 200000000)).length
    || (!hw.lantern.coolantAssumed && 2 ≤ hw.lantern.lowFlowRun)

/-! ## Caps and tokens (R403 to R406, R421 to R429, R440, R452) -/

/-- The lowest power request in force, in 5 W units (R406). -/
def hostTerm (hw : Hw) : Nat := match least (hw.lantern.requests.map (fun e => e.2 / 5)) with
  | some v => v
  | none => 0xFFFF

/-- The token term, in tokens: the holding, or the orphan cap (R403, R429). -/
def tokenTerm (hw : Hw) : Nat :=
  if hw.lantern.orphan then hw.lantern.held * hw.lantern.orphanPercent / 100 else hw.lantern.held

/-- The thermal term, in 5 W units (R451). -/
def thermalTerm (hw : Hw) : Nat :=
  min 560 (estimateW hw ((List.range 4).map (fun s => (spirePower hw s).thermalRate)) 64 64 / 5)

/-- The four terms are formed and the effective cap is the lowest, ties to the lower code (R403, R411). -/
def capTick (w : Work) : Work :=
  let t := tokenTerm w.hw
  let h := hostTerm w.hw
  let th := thermalTerm w.hw
  let c := w.hw.lantern.coolantTerm
  let lowest := min (min t h) (min th c)
  let source := if t = lowest then 0 else if h = lowest then 1 else if th = lowest then 2 else 3
  modLantern (fun l => { l with
    tokenTerm := t
    hostTerm := h
    thermalTerm := th
    effectiveCap := lowest % 1024
    capSource := source
    belowFloor := !w.hw.plans.plans.isEmpty && decide (5 * lowest < floorPower w.hw) }) w

/-- The applied cap C of a tick, in uW (R452). -/
def appliedNext (hw : Hw) : Nat :=
  let cap := 5000000 * hw.lantern.effectiveCap
  let prev := hw.lantern.appliedCap
  if heatingFast hw then min cap prev else min cap (prev + 2 * period hw)

/-- Matrix rates under a common bound r: the Spire's thermal rate, and never below its lowest rate (R440). -/
def ratesAt (hw : Hw) (r s : Nat) : Nat := max (lowestRate hw s) (min r (spirePower hw s).thermalRate)

/-- The highest common bound whose estimate does not exceed the applied cap, in uW (R440). -/
def chooseBound (hw : Hw) (cap : Nat) : Nat → Nat
  | 0 => 4
  | n + 1 =>
    let r := 4 + (n + 1)
    if 1000000 * estimateW hw ((List.range 4).map (ratesAt hw r)) 64 64 ≤ cap then r else chooseBound hw cap n

/-- The module may run: ready, powered, no cause of LOWEST (R437, R441). -/
def mayRun (hw : Hw) : Bool :=
  hw.keep.ready && hw.lantern.lowest.isEmpty && hw.fault.safe.isNone && hw.lantern.powerState < 3 && !hw.power.spireOn.isEmpty

/-- Lantern's rates at a tick: leaving LOWEST, C, and each Spire's matrix rate (R440, R441, R452). -/
def rateTick (w : Work) : Work :=
  if !mayRun w.hw then w
  else
    let leaving := w.hw.lantern.powerState = 2
    let start := max (floorPower w.hw) (estimateW w.hw [4, 4, 4, 4] 64 64)
    let cap := if leaving then 1000000 * min (5 * w.hw.lantern.effectiveCap) start else appliedNext w.hw
    let r := chooseBound w.hw cap 60
    let rates := ratesAt w.hw r
    let full := (List.range 4).all (fun s => rates s == 64)
    let w1 := setRates rates 64 64 (modLantern (fun l => { l with appliedCap := cap, powerState := if full then 0 else 1 }) w)
    publishModule w1

/-- `SLACK` of a `STATUS` (R422): least over the plans whose last frame has ended; no stated value before any has. -/
def slackOf (w : Work) : Nat × Work :=
  if w.hw.plans.plans.isEmpty then (0xFFFF, w)
  else match least (w.hw.lantern.slack.map (fun s => s.2)) with
    | some v => (v, w)
    | none => (freeOf w % 2 ^ 16, freeUsed w)

/-- The tokens that STANDBY and DARK give up (R426). -/
def spareTokens (hw : Hw) : Nat := hw.lantern.held - (if hw.lantern.powerState = 4 then 2 else 12)

/-- `OFFER` (R422, R426): in STANDBY and DARK every spare token, those that the byte cannot name at the next ticks (log 48). -/
def offerOf (hw : Hw) (slack : Nat) : Nat :=
  let l := hw.lantern
  if 3 ≤ l.powerState then
    if l.standbyOffered then 0 else min 255 (spareTokens hw)
  else if l.slackRelease ≤ slack then min l.releaseStep (l.held - max (floorTokens hw) (ceilDiv hw.power.meanPower 5 + 4))
  else 0

/-- `CLAIM` (R422). -/
def claimOf (hw : Hw) (slack : Nat) : Nat :=
  let l := hw.lantern
  if l.powerState < 3 && slack < l.slackClaim && l.tokenTerm ≤ min l.hostTerm (min l.thermalTerm l.coolantTerm) then
    min l.claimStep (ceilDiv (wantPower hw) 5 - l.held)
  else 0

/-- `STATUS` at a tick (R422). An offset beyond 16 bits has no stated value. -/
def statusTick (w : Work) : Work :=
  let (slack, w1) := slackOf w
  let offer := offerOf w1.hw slack
  let claim := claimOf w1.hw slack
  let l := w1.hw.lantern
  let wide := l.marker.isSome && decide (32767 < l.markerOffset.natAbs)
  let off := match l.marker with
    | some _ => if wide then freeOf w1 % 2 ^ 16 else ofSigned 16 l.markerOffset
    | none => 0x8000
  let w1 := if wide then freeUsed w1 else w1
  let payload := leBytes 2 w1.hw.time.tick ++ leBytes 2 l.held ++ leBytes 2 (floorTokens w1.hw) ++ leBytes 2 slack
    ++ leBytes 1 offer ++ leBytes 1 claim ++ leBytes 2 off
  sendBelfry 2 0 payload (modLantern (fun l => { l with
    offer := offer
    claim := claim
    standbyOffered := l.standbyOffered || decide (3 ≤ l.powerState ∧ spareTokens w.hw ≤ 255) }) w1)

/-- Settings, requests and policies that wait for the tick (R406, R407, R429). -/
def settleLantern (w : Work) : Work :=
  modLantern (fun l => { l with
    requests := l.requestsNext.foldl (fun t e => tabSet 0 t e.1 e.2) l.requests
    requestsNext := []
    slackRelease := (l.policyNext.map (fun p => p.1)).getD l.slackRelease
    slackClaim := (l.policyNext.map (fun p => p.2.1)).getD l.slackClaim
    releaseStep := (l.policyNext.map (fun p => p.2.2.1)).getD l.releaseStep
    claimStep := (l.policyNext.map (fun p => p.2.2.2)).getD l.claimStep
    policyNext := none
    orphanPercent := l.orphanNext.getD l.orphanPercent
    orphanNext := none }) w

/-- Lantern's samples of the closing tick: power, energy and powered time (R400, R405, R436, R539, R565). -/
def energyTick (s : TickSample) (w : Work) : Work :=
  let e := s.energyMj.toNat
  let l := w.hw.lantern
  let span := period w.hw
  let allowed := 5 * l.tokenTerm * span / 1000000
  let excess := if l.belowFloor then e - allowed else 0
  let now := w.hw.time.now
  let steady := l.lowest.isEmpty && w.hw.pager.flushes.isEmpty && l.powerState < 2
  let tick : EnergyTick := { instant := now, energy := e, excess := excess, term := 5 * l.tokenTerm, span := span, steady := steady }
  let w1 := w.up fun h =>
    let total := h.power.energyMj + e
    let ms := (now - h.power.poweredAt) / 1000000
    { h with
      power := { h.power with
        meanPower := s.meanW.toNat
        energyMj := total % 1000
        poweredMs := h.power.poweredMs + ms
        poweredAt := h.power.poweredAt + ms * 1000000 }
      light := { h.light with energy := h.light.energy + total / 1000 }
      conserve := { h.conserve with window := tick :: h.conserve.window.filter (fun x => now < x.instant + 200000000) } }
  sample 5 0 s.meanW.toNat (bump 6 4 excess w1)

/-- Lantern's decisions at a tick (R402). -/
def lanternTick (s : TickSample) (w : Work) : Work :=
  let w1 := coolantTick (energyTick s (settleLantern w))
  let w2 := rateTick (capTick w1)
  statusTick (forEach (List.range 4) (fun s w => sample 12 s (spirePower w.hw s).matrixRate w) w2)

/-! ## Transitions of module power -/

/-- Every admitted plan is released (R52, R407). -/
def releaseEvery (w : Work) : Work := forEach (w.hw.plans.plans.map (fun p => p.id)) releasePlan w

/-- The plans' frames in progress are aborted (R53). -/
def abortEvery (w : Work) : Work :=
  forEach (w.hw.plans.plans.map (fun p => p.id)) (fun id w => match findPlan w.hw id with
    | some p => cutFrame p w
    | none => w) w

/-- Change the list of power transitions. -/
def modMoves (f : List PowerMove → List PowerMove) (w : Work) : Work := modPower (fun p => { p with moves := f p.moves }) w

/-- An order or halt accepted before a tick begins at it: plans are released and the orderly flush starts (R407, R457). -/
def beginMove (m : PowerMove) (w : Work) : Work :=
  match m with
  | .accepted off halt instant answer =>
    startFlush (if halt then .halt else if off then .off else .standby) (some (instant + 30000000000)) answer
      (releaseEvery (modMoves (fun l => l.map (fun x => if x == m then .flushing off halt else x)) w))
  | _ => w

/-- The transitions of a tick; the entry into service mode likewise (R380). -/
def movesTick (w : Work) : Work :=
  let w1 := forEach w.hw.power.moves beginMove w
  if w1.hw.keep.entering = 1 then
    startFlush .reset (some (w1.hw.time.now + 30000000000)) none (releaseEvery (modKeep (fun k => { k with entering := 2 }) w1))
  else w1

/-- The module enters STANDBY: the domains are removed and tier 2 is put in self-refresh (R407, R426, R442). -/
def enterStandby (halt : Bool) (w : Work) : Work :=
  let w1 := removeSpires w
  let w2 := modPower (fun p => { p with selfRefresh := true, haltedWake := halt, waking := false, moves := [], coolantMode := if halt then p.coolantMode else 0 }) w1
  let w3 := modKeep (fun k => { k with lpUp := false }) w2
  publishModule (modLantern (fun l => { l with powerState := 3, standbyOffered := false }) w3)

/-- The module enters DARK: only AON stays powered; tiers 1 and 2 are lost (R209, R407, R442). -/
def enterDark (w : Work) : Work :=
  let l := w.hw.lantern
  let failed := w.hw.keep.failed
  let w1 := (clearTiers .lost w).up fun h =>
    let g := afterReset h .lost true true
    { g with
      light := h.light
      ctr := h.ctr
      lantern := { l with powerState := 4, standbyOffered := false, requests := [], requestsNext := [] }
      power := { g.power with lpddrOn := false, selfRefresh := false, flashOn := false }
      keep := { g.keep with failed := failed } }
  publishModule (forEach (List.range 12) (fun k w => publishUnit (5 + k) 0 0 w) (forEach (List.range 4) (fun s w => publishUnit (1 + s) 0 0 w) w1))

/-- All power is removed under the second row of R583: the journal is in tier 3. -/
def cutPower (w : Work) : Work :=
  let fate : JournalFate := .lost
  modPower (fun p => { p with pwrGood := false }) (powerLoss fate w)

/-- Power is removed but for AON, held in reset, and LPDDR6 (R583, first row). -/
def retainTier2 (w : Work) : Work :=
  modPower (fun p => { p with retained := true, pwrGood := false, flashOn := false })
    ((clearTiers .kept w).up fun h => { afterReset h .kept true true with light := h.light })

end Sys2Proof.Machine
end

