-- ==== Sys2Proof/Machine/BringOps.lean ====
section
/-! DEFINITION. Machine/BringOps.lean: the phases of a start, the topology check and readiness (R371 to R399). -/
namespace Sys2Proof.Machine

/-! ## Saved training (R392, R462) -/

/-- Every part with saved training. -/
def trainedParts : List Nat :=
  List.range 12 ++ (List.range 24).map (fun l => 16 + l) ++ (List.range 6).map (fun p => 64 + p) ++ (List.range 4).map (fun e => 72 + e)

/-- Powered hours (R465). -/
def poweredHours (hw : Hw) : Nat := hw.power.poweredMs / 3600000

/-- A full training of a part replaces its saved settings (R392, R462). -/
def fullTrained (part : Nat) (w : Work) : Work :=
  let w1 := modKeep (fun k => { k with
    trained := k.trained.filter (fun e => e.1 != part) ++ [(part, tableVersion w.hw)]
    trainedAt := tabSet 0 k.trainedAt part (poweredHours w.hw) }) w
  modPower (fun p => { p with stale := if bit p.stale (staleBit part) then p.stale - 2 ^ staleBit part else p.stale }) w1

/-- A part has trained: with its saved settings, or in full where it had no valid ones (R392). -/
def saveTraining (part : Nat) (w : Work) : Work := if trainingValid w.hw part then w else fullTrained part w

/-- Memories from a base part have trained; one whose saved settings failed was trained in full at once (R392). -/
def trainParts (base n retrained : Nat) (w : Work) : Work :=
  forEach (List.range n) (fun k w => if bit retrained k then fullTrained (base + k) w else saveTraining (base + k) w) w

/-! ## Phases (R387 to R391, R398) -/

/-- Milliseconds since the start, saturating (R389). -/
def bringupMs (hw : Hw) : Nat :=
  match hw.keep.heldMs, hw.keep.startAt with
  | some v, _ => v
  | none, some t => min (2 ^ 32 - 1) ((hw.time.now - t) / 1000000)
  | none, none => 0

/-- `BRINGUP_STATUS` (R389). -/
def bringupStatus (hw : Hw) : Nat :=
  let k := hw.keep
  k.phase + 16 * k.startType + 64 * b2n k.ready + 128 * b2n k.failed + 256 * k.cause + 65536 * k.detail

/-- The start fails with a cause (R390, R391). -/
def failStart (cause detail : Nat) (w : Work) : Work :=
  let w1 := modKeep (fun k => { k with
    phase := 15
    ready := false
    failed := true
    cause := cause
    detail := detail
    heldMs := some (bringupMs w.hw) }) w
  publishModule (raise 30 0 0 0 (cause + 256 * detail) (modLight (fun l => { l with failed := l.failed + 1 }) w1))

/-- The lowest phase still running, once Turret has started (R388, R389). -/
def phaseOf (k : KeepSt) : Nat :=
  if !k.spiresUp || k.fetched.length < 256 then 4 else if !k.tested then 5 else if !k.linked then 6 else 7

/-- Keep shows the phase that runs. -/
def showPhase (w : Work) : Work := modKeep (fun k => { k with phase := phaseOf k }) w

/-- Limit of a start type in ns (R387); none for recovery. -/
def startLimitOf (type : Nat) : Option Nat :=
  match type with
  | 0 => some 540000000000
  | 1 => some 360000000000
  | 2 => some 75000000000
  | _ => none

/-- A start may begin: AON powered and out of reset, PWR_EN asserted, no trip latched, and no DARK or STANDBY (R386, R444, R454). -/
def mayStartModule (hw : Hw) : Bool :=
  hw.power.aon && !hw.power.retained && hw.keep.phase == 0 && hw.lantern.powerState < 3 && hw.power.pwrEn && !hw.power.tripLatch
    && (!hw.power.resetDue || 4800 < hw.power.inputV)

/-- The stored bundle meets what Keep checks against the fuses at a start (R376). -/
def bundleFits (k : KeepSt) : Bool :=
  match k.bundle with
  | none => false
  | some b => b.minRev ≤ k.revision && k.revision ≤ b.maxRev && !bit k.revoked b.key && k.svn ≤ b.svn

/-- The start type (R387). -/
def startType (hw : Hw) : Nat :=
  if !trainedParts.all (trainingValid hw) then 0
  else if hw.keep.railsRemoved || hw.keep.prevFailed || 49 ≤ hw.keep.fastStarts then 1
  else 2

/-- The ROM recovery path (R377): the Cupola main domain and the LPDDR6 packages, trained in full, only, and channel 17. -/
def enterRecovery (w : Work) : Work :=
  let w1 := modKeep (fun k => { k with phase := 2, startType := 3, bootPath := 1, lpUp := true, running := none }) w
  trainParts 16 24 (2 ^ 24 - 1) (modPower (fun p => { p with cupola := true, lpddrOn := true, selfRefresh := false }) w1)

/-- Keep's ROM leaves reset (R386 to R388, R431, R444, R484). `crcBad` names, as `STALE_MASK` does, the parts whose saved training fails its
CRC (R392). -/
def beginStart (romOk fuseOk storeOk : Bool) (crcBad : Nat) (w : Work) : Work :=
  if !mayStartModule w.hw then w
  else
    let w := modKeep (fun k => { k with running := k.bundle, trained := k.trained.filter (fun e => !bit crcBad (staleBit e.1)) }) w
    let w1 := modKeep (fun k => { k with
      bootCount := k.bootCount + 1
      railsRemoved := false
      prevFailed := false
      startAt := some w.hw.time.now
      heldMs := none
      failed := false
      ready := false
      cause := 0
      detail := 0
      phase := 1
      startType := startType w.hw }) w
    let w2 := modPower (fun p => { p with resetSeen := p.resetDue, resetDue := false, pwrGood := true, tripCupola := false, flashOn := true }) w1
    let w3 := modLantern (fun l => { l with
      powerState := 2
      epoch := (l.epochSaved + 4096) % 2 ^ 32
      epochSaved := (l.epochSaved + 4096) % 2 ^ 32 }) w2
    let w4 := forEach (List.range 6) (fun p w => modPort p (fun q => { q with
      rxSpare := (w.hw.keep.spares[2 * p]?).getD 31
      txSpare := (w.hw.keep.spares[2 * p + 1]?).getD 31 }) w) w3
    let w5 := publishModule w4
    if !romOk then failStart 1 0 w5
    else if !fuseOk then failStart 2 0 w5
    else if !storeOk || !bundleFits w5.hw.keep then enterRecovery w5
    else modKeep (fun k => { k with phase := 3, bootPath := 0 }) w5

/-- Every journal slot is drained to tier 3 (R206, R209). -/
def drainAll (w : Work) : Work := Nat.repeat (drainSlot false) w.hw.pager.journal.length w

/-- Phase 3 (R388): Cupola, Turret, LPDDR6, the journal drain and the tier-3 map. -/
def runCupola (lpFail : Option Nat) (hashOk : Bool) (mapFail : Option Nat) (retrained : Nat) (w : Work) : Work :=
  if w.hw.keep.phase ≠ 3 ∨ w.hw.keep.turretUp then w
  else
    let w1 := modPower (fun p => { p with cupola := true }) w
    if !hashOk then enterRecovery w1
    else match lpFail with
      | some k => failStart 4 k w1
      | none =>
        let w2 := trainParts 16 24 retrained (modPower (fun p => { p with lpddrOn := true, selfRefresh := false }) w1)
        let w3 := modKeep (fun k => { k with turretUp := true, lpUp := true, heartbeat := w.hw.time.now }) w2
        let w4 := modKeep (fun k => { k with drained := true }) ((drainAll w3).up fun h => { h with pager := { h.pager with drainDue := false } })
        match mapFail with
        | some c => failStart 8 c w4
        | none => showPhase (modKeep (fun k => { k with mapBuilt := true }) w4)

/-- Bytes of a section of a bundle, by its type (R375). -/
def sectionBytes (b : BundleInfo) (type : Nat) : List Byte :=
  match (List.range 4).find? (fun i => field b.bytes (0x20 + 80 * i) 1 == type) with
  | some i => slice b.bytes (field b.bytes (0x24 + 80 * i) 4) (field b.bytes (0x28 + 80 * i) 4)
  | none => []

/-- The core runtime, section 3 of the running bundle (R375). -/
def coreRuntime (hw : Hw) : List Byte :=
  match hw.keep.running with
  | some b => sectionBytes b 3
  | none => []

/-- Phase 4 (R388): the hashes of sections 3 and 4, the Spire, through-router and HBM domains, training, self-test; Turret loads the core
runtime and prepares the cores' fetches of it (R375, R394). A supply warning in force holds the phase back (R399). -/
def runSpires (hbmFail testFail badSection : Option Nat) (retrained : Nat) (w : Work) : Work :=
  if !starting w.hw.keep || !w.hw.keep.turretUp || w.hw.keep.spiresUp || w.hw.power.warning then w
  else match badSection with
  | some type => failStart 3 type w
  | none =>
    let w1 := powerSpires w
    match hbmFail with
    | some k => failStart 5 k w1
    | none =>
      let w2 := trainParts 0 12 retrained w1
      match testFail with
      | some s => failStart 6 s w2
      | none =>
        let w3 := forEach (List.range 256) (fun c w => prepareFetch 1 c (coreRuntime w.hw) w) w2
        showPhase (modKeep (fun k => { k with spiresUp := true }) w3)

/-- A core's runtime fetch of phase 4; a fetch that fails is repeated once (R394). -/
def fetchRuntime (core : Nat) (w : Work) : Work :=
  let (st, w1) := fetchCore core w
  let (st, w1) := if st = 1 ∨ st = 2 then fetchCore core (renewFetch core w1) else (st, w1)
  if st ≠ 0 then failStart 9 core w1
  else showPhase (modKeep (fun k => { k with fetched := k.fetched ++ [core] }) w1)

/-- A remap entry of a unit (stack k, or 16 + package) at its lowest free entry; none when the unit has no free entry (R373). -/
def addRemap (unit entry : Nat) (w : Work) : Option Work :=
  let v := 2 ^ 31 + entry % 2 ^ 31
  if unit < 16 then
    (lowestFree ((w.hw.keep.hbmRemap.filter (fun e => e.1 / 4096 == unit)).map (fun e => e.1 % 4096)) 4096 0).map (fun i =>
      modKeep (fun k => { k with hbmRemap := tabSet 0 k.hbmRemap (4096 * unit + i) v }) w)
  else
    (lowestFree ((w.hw.keep.lpRemap.filter (fun e => e.1 / 256 == unit - 16)).map (fun e => e.1 % 256)) 256 0).map (fun i =>
      modKeep (fun k => { k with lpRemap := tabSet 0 k.lpRemap (256 * (unit - 16) + i) v }) w)

/-- Remap entries are added one after the other; a unit without a free entry fails the start with cause 7 (R390, R393). -/
def addRemaps : List (Nat × Nat) → Work → Work
  | [], w => w
  | (unit, entry) :: rest, w =>
    match addRemap unit entry w with
    | some w1 => addRemaps rest w1
    | none => failStart 7 unit w

/-- Unit and entry of a row on the retirement list: its stack, or a package; the place of the row within it has no stated
relation to its address (log 8). -/
def retiredRow (a : Nat) (w : Work) : (Nat × Nat) × Work :=
  let u := memUnit a
  ((if u < 12 then u else u + 4, freeOf w), freeUsed w)

/-- A row is in the sample of a fast start: 2 % of the rows, another 2 % at each of 50 consecutive starts (R393; log 75). -/
def sampledRow (hw : Hw) (entry : Nat) : Bool := hw.keep.startType != 2 || entry % 2 ^ 20 % 50 == hw.keep.bootCount % 50

/-- Phase 5 (R393, R471): retired rows and those that fail the test are remapped, then tiers 1 and 2 are filled with zeros. -/
def runMemoryTest (rows : List (Nat × Nat)) (w : Work) : Work :=
  if !starting w.hw.keep || phaseOf w.hw.keep ≠ 5 || !w.hw.keep.spiresUp || !w.hw.keep.drained || w.hw.power.warning then w
  else
    let (old, w1) := w.hw.fault.retire.foldl (fun (acc : List (Nat × Nat) × Work) a =>
      let r := retiredRow a acc.2
      (acc.1 ++ [r.1], r.2)) ([], w)
    let w2 := addRemaps (old ++ rows.filter (fun r => sampledRow w.hw r.2)) (w1.up fun h => { h with fault := { h.fault with retire := [], retireLost := [] } })
    if w2.hw.keep.failed then w2
    else
      let w3 := clearTiers (if w2.hw.pager.journal.isEmpty then .lost else .kept) w2
      showPhase (modKeep (fun k => { k with tested := true, fastStarts := if k.startType = 2 then k.fastStarts + 1 else 0 }) w3)

/-- Phase 6 (R388): the ports begin training and the time base takes its source (R33). -/
def runLinks (source : TimeSource) (w : Work) : Work :=
  if !starting w.hw.keep || !w.hw.keep.turretUp || w.hw.keep.linked then w
  else
    let w1 := forEach (List.range 6) (fun p w => modPort p (fun q => { q with
      state := if q.enabled then .detect else .disabled
      fullTraining := !trainingValid w.hw (64 + p) }) w) w
    let w2 := forEach (List.range 8) (fun h w => if halfExists w.hw h then modHalf h (fun x => { x with link := 2 }) w else w) w1
    let w3 := w2.up fun h => { h with time := { h.time with
      source := source
      planeOk := h.time.planeOk || source == .plane
      ptpOk := h.time.ptpOk || source == .ptp
      markerOk := h.time.markerOk || source == .marker } }
    showPhase (modKeep (fun k => { k with linked := true, linksAt := some w.hw.time.now }) w3)

/-! ## Topology (R395 to R397) -/

/-- A topology item as Keep finds it: number, state (0 match, 1 waiting, 2 mismatch) and 6 B of found values. -/
structure TopoItem where
  item : Nat
  state : Nat
  found : List Byte
  deriving DecidableEq, Repr

/-- Plane port p against its entry. -/
def planeItem (hw : Hw) (t : List Byte) (p : Nat) : TopoItem :=
  let o := 8 + 8 * p
  let port := portOf hw p
  let mode := field t o 1
  let found := leBytes 2 port.peerPort ++ leBytes 4 port.peerNode
  let active := port.state == .active
  let state :=
    if mode = 2 then 0
    else if mode = 1 then (if hw.keep.wasActive.contains p then 2 else 0)
    else if active then
      (if port.peerRole == 1 && port.peerNode == field t (o + 4) 4 && port.peerPort == field t (o + 2) 2 then 0 else 2)
    else if hw.keep.failedTraining.contains p || hw.keep.wasActive.contains p then 2
    else 1
  ⟨p, state, found⟩

/-- Ethernet port or half h against its entry. -/
def etherItem (hw : Hw) (t : List Byte) (h : Nat) : TopoItem :=
  let o := 0x40 + 72 * h
  let x := halfOf hw h
  let mode := if halfExists hw h then field t o 1 else 2
  let cl := field t (o + 1) 1
  let pl := field t (o + 2) 1
  let now := hw.time.now
  let since := tabGet 0 hw.keep.linkSince h
  let late := (x.link == 1 && since + 35000000000 ≤ now)
    || (x.link != 1 && (match hw.keep.linksAt with | some u => decide (u + 10000000000 ≤ now) | none => false))
  let state :=
    if mode = 2 then 0
    else if mode = 1 then (if x.link == 1 then 2 else 0)
    else match x.lldp with
      | some (c, p) =>
        if c == slice t (o + 8) cl && p == slice t (o + 40) pl then 0 else 2
      | none => if late then 2 else 1
  ⟨8 + h, state, leBytes 1 x.link ++ zeros 5⟩

/-- The endpoint base against the record. -/
def baseItem (hw : Hw) (t : List Byte) (awaited : Bool) : TopoItem :=
  match hw.links.base with
  | some (rack, seat) => ⟨16, if rack == field t 2 2 && seat == field t 4 1 then 0 else 2, leBytes 2 rack ++ leBytes 1 seat ++ zeros 3⟩
  | none => ⟨16, if awaited then 1 else 0, zeros 6⟩

/-- The Belfry seat against the record. -/
def seatItem (hw : Hw) (t : List Byte) : TopoItem :=
  let seat := hw.lantern.seat.getD 0
  ⟨17, if seat == field t 5 1 then 0 else 2, leBytes 1 seat ++ zeros 5⟩

/-- Every item of R396, in order. -/
def topologyItems (hw : Hw) (t : List Byte) : List TopoItem :=
  let planes := (List.range 6).map (planeItem hw t)
  planes ++ (List.range 8).map (etherItem hw t) ++ [baseItem hw t (planes.any (fun i => i.state == 1)), seatItem hw t]

/-- The result of the check: waiting before mismatch. -/
def topologyState (items : List TopoItem) : Nat :=
  if items.any (fun i => i.state == 1) then 1 else if items.any (fun i => i.state == 2) then 2 else 0

/-- The module becomes ready (R379, R389, R397). -/
def setReady (w : Work) : Work :=
  let ms := bringupMs w.hw
  let w1 := modKeep (fun k => { k with
    phase := 8
    ready := true
    cause := 0
    detail := 0
    heldMs := some ms
    svn := match k.running with | some b => max k.svn b.svn | none => k.svn
    excluded := k.excluded + (match k.excludeFrom with | some t => w.hw.time.now - t | none => 0)
    excludeFrom := none }) w
  publishModule w1

/-- Keep waits for a cause of R390: the waiting time is excluded from the limit (R398). -/
def waitStart (cause detail : Nat) (w : Work) : Work :=
  modKeep (fun k => { k with cause := cause, detail := detail, excludeFrom := some (k.excludeFrom.getD w.hw.time.now) }) w

/-- Keep fixes the endpoint base from the record where none has been fixed once no plane item is awaited (R275, R396). -/
def fixBase (t : List Byte) (w : Work) : Work :=
  if w.hw.links.base.isSome || (List.range 6).any (fun p => (planeItem w.hw t p).state == 1) then w
  else w.up fun h => { h with links := { h.links with base := some (field t 2 2, field t 4 1) } }

/-- The topology check of phase 7 (R396, R397). -/
def topologyCheck (w : Work) : Work :=
  if w.hw.keep.phase ≠ 7 then w
  else match w.hw.keep.topology with
    | none => waitStart 32 0 w
    | some t =>
      let w := fixBase t w
      let items := topologyItems w.hw t
      let first (s : Nat) : Nat := ((items.find? (fun i => i.state == s)).map (fun i => i.item)).getD 0
      match topologyState items with
      | 1 => waitStart 33 (first 1) w
      | 2 => waitStart 34 (first 2) w
      | _ => setReady w

/-- After readiness, an item whose port entered `ACTIVE` or whose LLDP partner changed is evaluated again (R396). -/
def recheckItem (item : Nat) (w : Work) : Work :=
  match w.hw.keep.topology with
  | none => w
  | some t =>
    if !w.hw.keep.ready then w
    else if item < 6 then
      if (planeItem w.hw t item).state = 2 then
        raise 20 6 item 0 0 (linkDown item 6 .disabled (modPort item (fun q => { q with enabled := false }) w))
      else w
    else if (etherItem w.hw t (item - 8)).state = 2 then raise 20 7 item 0 0 w
    else w

end Sys2Proof.Machine
end

