-- ==== Sys2Proof/Machine/ObserveOps.lean ====
section
/-! DEFINITION. Machine/ObserveOps.lean: the counter snapshot, the conservation audits, the wait-cycle detectors and the trace export (R44, R486 to R491, R541, R549, R556 to R569). -/
namespace Sys2Proof.Machine

/-! ## The snapshot (R44, R541, R554) -/

/-- The counter bank with the values that are held elsewhere or are current values (R213, R365, R485, R555); indices 21 to 28
of block 2 hold the objects and the free tier-3 pages of each partition for `PAGER_READ` (R189). -/
def snapCtr (hw : Hw) : Tab Nat :=
  let put (b i v : Nat) (t : Tab Nat) : Tab Nat := tabSet 0 t (b * 2 ^ 20 + i) v
  let t1 := put 2 20 (wearUsed hw) (put 2 17 hw.pager.journal.length hw.ctr)
  let t2 := put 8 200 hw.fault.retire.length (hw.fault.count.foldl (fun t e => put 8 e.1 e.2 t) t1)
  let t3 := (hw.host.regions.filter (fun r => r.type == 2)).foldl (fun t r => put 5 (4137 + r.index) r.rejected t) t2
  let t4 := (List.range 4).foldl (fun t p =>
    put 2 (25 + p) (freeTier3 hw p) (put 2 (21 + p) (hw.pager.objects.filter (fun o => o.plan == 0 && o.part == p)).length t)) t3
  let t5 := (List.range 6).foldl (fun t p => put 4 (13 + p) (tabGet 0 t (4 * 2 ^ 20 + 13 + p) + waitingNs hw p) t) t4
  hw.monitors.foldl (fun t e => put 13 (8 + e.1) e.2.samples t) t5

/-- A monitor without its samples (R554). -/
def clearMonitor (m : Monitor) : Monitor := {
  quantity := m.quantity
  logBins := m.logBins
  select := m.select
  base := m.base
  width := m.width }

/-- Every counter block is copied at the tick instant (R44, R541). -/
def takeSnapshot (w : Work) : Work :=
  w.up fun h =>
    let s : Snap := {
      tick := h.time.tick
      instant := h.time.now
      ctr := snapCtr h
      clks := h.clks
      stretch := (List.range 4).map (fun s => (s, stretchNow h s))
      light := h.light
      charged := h.gravers.map (fun e => (e.1, e.2.charged))
      monitors := h.monitors
      interval := h.monitorsSince }
    { h with
      snapPrev := h.snapCur
      snapCur := s
      monitorsSince := h.monitors.map (fun e => (e.1, clearMonitor e.2)) }

/-! ## The conservation audits (R556 to R569) -/

/-- `DISCREPANCY` in 32 bits, saturating (R568). -/
def discrepancy32 (v : Int) : Nat := ofSigned 32 (max (-0x80000000) (min 0x7FFFFFFF v))

/-- A run of the same check of the same unit and index. -/
def sameRun (quantity check unit index : Nat) (r : AuditRun) : Bool :=
  r.quantity == quantity && r.check == check && r.unit == unit && r.index == index

/-- Change the audit state. -/
def modConserve (f : ConserveSt → ConserveSt) (w : Work) : Work := w.up fun h => { h with conserve := f h.conserve }

/-- A check fails with a discrepancy: source 31 is raised at the first tick, and again as R569 states (R568). -/
def auditFails (quantity check unitKind unit index : Nat) (value : Int) (w : Work) : Work :=
  let tick := w.hw.time.tick
  let again := match w.hw.conserve.runs.find? (sameRun quantity check unit index) with
    | none => true
    | some r => decide (r.value < 0) != decide (value < 0) || decide (2 * r.value.natAbs ≤ value.natAbs)
        || decide (1000 ≤ (tick + 2 ^ 48 - r.raised) % 2 ^ 48)
  if !again then w
  else
    let run : AuditRun := { quantity := quantity, check := check, unit := unit, index := index, value := value, raised := tick }
    raise 31 unitKind unit 0 (quantity + 256 * check + 65536 * (index % 65536) + 2 ^ 32 * discrepancy32 value)
      (modConserve (fun c => { c with runs := c.runs.filter (fun r => !sameRun quantity check unit index r) ++ [run] }) w)

/-- A check passes: its run ends (R569). -/
def auditPasses (quantity check unit index : Nat) (w : Work) : Work :=
  modConserve (fun c => { c with runs := c.runs.filter (fun r => !sameRun quantity check unit index r) }) w

/-- One check: it fails with a discrepancy, or passes. -/
def auditCheck (quantity check unitKind unit index : Nat) (fails : Bool) (value : Int) (w : Work) : Work :=
  if fails then auditFails quantity check unitKind unit index value w else auditPasses quantity check unit index w

/-- The credits of a port and VC (R557, R558, R568): O within the advertised buffers, O = A - F, and S - R within the far end's credits. -/
def auditCredit (p vc : Nat) (w : Work) : Work :=
  let port := portOf w.hw p
  let held : Nat := tabGet 0 port.stored vc
  let taken : Nat := tabGet 0 port.received vc
  let freed : Nat := tabGet 0 port.freed vc
  let pool : Int := (held : Int) - ((taken : Int) - (freed : Int))
  let own := (receiveBuffers[vc - 1]?).getD 0
  let beyond := if w.hw.conserve.overruns.contains (8 * p + vc) then max 1 (held - own) else held - own
  let first := tabGet 0 port.creditInit vc
  let inFlight := (tabGet 0 port.sent vc + 2 ^ 16 - tabGet 0 port.freedSeen vc % 2 ^ 16) % 2 ^ 16
  auditCheck 1 3 6 p vc (pool != 0) pool
    (auditCheck 1 2 6 p vc (decide (first < inFlight)) ((inFlight : Int) - first)
      (auditCheck 1 1 6 p vc (decide (0 < beyond)) beyond w))

/-- Quantity 1, on ports that have been `ACTIVE` since before the previous tick (R557, R567). -/
def auditCredits (prev : Nat) (w : Work) : Work :=
  let ports := (List.range 6).filter (fun p => (portOf w.hw p).state == .active && (portOf w.hw p).activeAt ≤ prev)
  let w1 := forEach ports (fun p w => forEach [1, 2, 3, 4, 5, 6, 7] (fun v w => auditCredit p v w) w) w
  modConserve (fun c => { c with overruns := [] }) w1

/-- The far end of a fabric link from a Spire: none for Cupola. -/
def farSpire (s index : Nat) : Option Nat := if index = 1 then some ((s + 1) % 4) else if index = 2 then some ((s + 3) % 4) else none

/-- A Spire's end of a fabric link is powered and not in reset (R567). -/
def fabricEndUp (hw : Hw) (s : Nat) : Bool := hw.power.spireOn.contains s && !spireFenced hw s

/-- Quantity 2: every link and direction whose ends, and the through-routers there, are up (R559, R567). `INDEX` 4 is the direction
from Cupola to the Spire; the direction from a ring neighbour is that neighbour's own link. -/
def auditFabric (w : Work) : Work :=
  forEach (List.range 4) (fun s => forEach [0, 1, 2, 4] (fun index w =>
    let ends := s :: (farSpire s index).toList
    let sum := fabricBalance w.hw (8 * s + index)
    if ends.all (fabricEndUp w.hw) && (index % 4 == 0 || ends.all (routerUp w.hw)) then
      auditCheck 2 1 2 s index (sum != 1024) ((sum : Int) - 1024) w
    else w)) w

/-- Quantity 5: the tallies of each message category (R563), but while a domain is fenced or in reset (R567). -/
def auditMessages (w : Work) : Work :=
  if !w.hw.hang.resets.isEmpty then w
  else forEach [0, 1, 2] (fun cat w =>
    let t := tabGet {} w.hw.conserve.tally cat
    auditCheck 5 1 0 0 cat (t.balance != t.held) (t.balance - t.held) w) w

/-- Quantity 3: W_m of every settled pair of a group and a port is latched for the switch's `AUDIT` record (R560, R561). -/
def latchWindows (w : Work) : Work :=
  let tick := w.hw.time.tickAt
  let pairs := w.hw.coll.groups.flatMap (fun g => (groupPorts g).map (fun p => 8 * g.slot + p))
  let settled (k : Nat) : Bool := tabGet 0 w.hw.conserve.crossed k == 0 || decide (tabGet 0 w.hw.conserve.crossed k + 20000 ≤ tick + 1)
  modConserve (fun c => { c with latched := (pairs.filter settled).map (fun k => (k, tabGet 0 c.granted k)) }) w

/-- Quantity 4, from the `LEASE` of the last tick and the last `TRAY_TOKENS` (R562, R567). -/
def auditTokens (w : Work) : Work :=
  let c := w.hw.conserve
  let l := w.hw.lantern
  let fresh := match l.beatAt with | some t => decide (w.hw.time.now < t + 1000000000) | none => false
  let w1 :=
    if l.masterless || c.newEpoch || !fresh then w
    else
      let w2 := match c.leaseSum with
        | some n => auditCheck 4 1 0 0 0 (decide (c.trayTokens < n)) ((n : Int) - c.trayTokens) w
        | none => w
      auditCheck 4 2 0 0 (l.masterEpoch.getD 0 % 65536) (decide (0 < c.unexplained)) c.unexplained w2
  modConserve (fun c => { c with unexplained := 0, newEpoch := if l.masterless then c.newEpoch else false }) w1

/-- The token term fell between two successive ticks, newest first. -/
def termFell : List EnergyTick → Bool
  | a :: b :: rest => decide (a.term < b.term) || termFell (b :: rest)
  | _ => false

/-- The conditions of R566 held over the 200 ms before the tick. -/
def energyAudited (hw : Hw) : Bool :=
  let ticks := hw.conserve.window
  let whole := ticks.any (fun e => e.instant ≤ hw.time.now + e.span - 200000000 && 200000000 ≤ hw.time.now + e.span)
  whole && ticks.all (fun e => e.steady) && !termFell ticks

/-- `ENERGY_OVER` (R565): by how much the input energy of the last 100 ms exceeds the limit, in mJ. -/
def energyOver (hw : Hw) : Int :=
  let ticks := hw.conserve.window.filter (fun e => hw.time.now < e.instant + 100000000)
  let energy : Nat := ticks.foldl (fun n e => n + e.energy) 0
  let excess : Nat := ticks.foldl (fun n e => n + e.excess) 0
  let whole : Nat := ticks.foldl (fun n e => n + e.term * e.span) 0
  let term := whole / 1000000
  (energy : Int) - excess - (term + term / 200 + 200)

/-- Quantity 6 (R565, R566). -/
def auditCharge (s : TickSample) (idle : Bool) (w : Work) : Work :=
  let d : Int := (s.counterMc.toNat : Int) - s.samplesMc.toNat
  let w1 := auditCheck 6 2 0 0 0 (decide ((s.samplesMc.toNat : Int) < 200 * d.natAbs)) d w
  if idle || !energyAudited w1.hw then w1
  else auditCheck 6 1 0 0 0 (decide (0 < energyOver w1.hw)) (energyOver w1.hw) w1

/-- The audits of a tick (R556, R567). -/
def auditTick (s : TickSample) (prev : Nat) (w : Work) : Work :=
  if !isReady w.hw || isSafe w.hw then w
  else if 3 ≤ w.hw.lantern.powerState then auditCharge s true w
  else auditCharge s false (auditMessages (auditTokens (latchWindows (auditFabric (auditCredits prev w)))))

/-! ## The wait-cycle detectors (R486 to R491) -/

/-- A collective operation's descriptor names a counter: its own, `STREAM_WC` of a streamed result, or its progress counter (R292, R305). -/
def descNames (desc : List Byte) (wc n : Nat) : Bool :=
  wc == n || (dStream desc && field desc 0x30 1 % 32 == n) || (dProgress desc && field desc 0x31 1 % 32 == n)

/-- The pager path on which a hint's next page moves (R46, R200): 0 from tier 3, else 2. -/
def hintPath (hw : Hw) (h : Hint) : Nat :=
  match (List.range h.count).find? (fun i => !h.done.contains i), hintObject hw h.plan h.part h.obj with
  | some i, some o =>
    let page := h.first + i
    let journal := hw.pager.journal.any (fun j => j.part == o.part && j.obj == o.id && j.page == page)
    if o.plan = 0 ∧ (newestCopy hw o page).isNone ∧ !journal then 0 else 2
  | _, _ => 2

/-- Where a core's own operations naming a counter are held (R487). -/
def queuesNaming (hw : Hw) (c n : Nat) : List (Nat × Nat) :=
  let s := coreOf hw c
  (if s.matrixQ.any (fun o => o.wc == n) then [(1, c)] else [])
    ++ (if s.moveQ.any (fun o => o.wc == n) then [(2, c)] else [])
    ++ (if s.msgs.any (fun o => o.wc == n) then [(3, c)] else [])
    ++ (if hw.coll.issued.any (fun e => e.core == c && descNames e.desc e.wc n) then [(4, c)] else [])
    ++ (if hw.coll.ops.any (fun o => o.parts.any (fun q => q.core == c && descNames q.desc q.wc n && !q.ended)) then [(7, spireOf c)] else [])
    ++ (if s.outs.any (fun o => o.graver && o.wc == n) then [(5, c)] else [])
    ++ (if s.outs.any (fun o => !o.graver && o.wc == n) then [(6, c)] else [])
    ++ ((hw.pager.hints.filter (fun h => h.core == c && h.readyWc == n)).map (fun h => (13, hintPath hw h))).eraseDups

/-- The counter that a held bundle waits for. -/
def heldCounter : List Instr → Option Nat
  | [] => none
  | .wait sl :: _ => some sl.d.toNat
  | .waiti sl :: _ => some sl.d.toNat
  | _ :: rest => heldCounter rest

/-- The queue of the core that a slot of the bundle finds full (R80, R97). -/
def fullQueue (hw : Hw) (c : Nat) : List (Nat × Nat) :=
  let infos := (coreOf hw c).bundle.filterMap slotOf
  (if infos.any (fun s => s.place == 2) && 8 ≤ (coreOf hw c).matrixQ.length then [(1, c)] else [])
    ++ (if 32 ≤ (coreOf hw c).moveQ.length then [(2, c)] else [])
    ++ (if msgsFull hw c then [(3, c)] else [])

/-- The issue queue of a core: a bundle held under R80. -/
def watchIssue (hw : Hw) (c : Nat) : List WatchedQueue :=
  let s := coreOf hw c
  if s.hold == .none || s.hold == .rate || s.bundle.isEmpty then []
  else
    let waits := match s.hold with
      | .wait => ((heldCounter s.bundle).map (queuesNaming hw c)).getD []
      | _ => fullQueue hw c
    [{ kind := 0, unit := c, entries := [s.frame * 65536 + s.r.pc], waits := waits, waitKind := if s.hold == .wait then 0 else 1
       owner := s.ctx, cores := [c], run := 0 }]

/-- The queues of a core that hold entries. -/
def watchCore (hw : Hw) (c : Nat) : List WatchedQueue :=
  let s := coreOf hw c
  let base (kind : Nat) (entries : List Nat) (waits : List (Nat × Nat)) (waitKind : Nat) : WatchedQueue := {
    kind := kind
    unit := c
    entries := entries
    waits := waits
    waitKind := waitKind
    owner := s.ctx
    cores := [c]
    run := 0 }
  let frame := s.frame * 65536
  let stream := match s.matrixQ with
    | o :: _ => if o.kind == .mmas && o.begun then queuesNaming hw c o.left.streamWc else []
    | [] => []
  let outs (graver : Bool) : List OutOp := s.outs.filter (fun o => o.graver == graver)
  let engines := match outs true with
    | o :: _ => ((List.range 12).filter (fun k => (graverHeld (graverOf hw k)).any (fun d => d.core == c && d.op == o.id))).map (fun k => (12, k))
    | [] => []
  watchIssue hw c
    ++ (if s.matrixQ.isEmpty then [] else [base 1 (s.matrixQ.map (fun o => frame + o.bundle * 8 + o.tile)) stream 3])
    ++ (if s.moveQ.isEmpty then [] else [base 2 (s.moveQ.map (fun o => frame + o.bundle)) [] 4])
    ++ (if s.msgs.isEmpty then [] else [base 3 (s.msgs.map (fun o => o.id)) [] 4])
    ++ (if hw.coll.issued.any (fun e => e.core == c) then
          [base 4 ((hw.coll.issued.filter (fun e => e.core == c)).map (fun e => e.frame * 65536 + e.bundle)) [(7, spireOf c)] 0] else [])
    ++ (if (outs true).isEmpty then [] else [base 5 ((outs true).map (fun o => o.id)) engines 0])
    ++ (if (outs false).isEmpty then [] else [base 6 ((outs false).map (fun o => o.id)) (((hw.pager.hints.filter (fun h => h.core == c)).map (fun h => (13, hintPath hw h))).eraseDups) 0])

/-- The collective unit of a Spire: an operation that waits for a member of this module waits for that member's core. -/
def watchColl (hw : Hw) (s : Nat) : List WatchedQueue :=
  let parts := hw.coll.ops.flatMap (fun o => (o.parts.filter (fun q => spireOf q.core == s && !q.ended)).map (fun q => (o, q)))
  match parts with
  | [] => []
  | (o, q) :: _ =>
    let waits := match findGroup hw o.group with
      | none => []
      | some g =>
        if isRemote hw g then []
        else ((localMembers hw g).filter (fun m => !o.parts.any (fun x => x.core == m.2))).map (fun m =>
          if hw.coll.issued.any (fun e => e.core == m.2) then (4, m.2) else (0, m.2))
    [{ kind := 7, unit := s, entries := parts.map (fun x => (x.1.frame * 1024 + x.2.core) * 65536 + x.2.bundle), waits := waits
       waitKind := if waits.isEmpty then 4 else 0, owner := (coreOf hw q.core).ctx, cores := (parts.map (fun x => x.2.core)).eraseDups
       run := 0 }]

/-- The input queue of a Graver engine: it advances by itself. -/
def watchGraver (hw : Hw) (k : Nat) : List WatchedQueue :=
  match graverHeld (graverOf hw k) with
  | [] => []
  | d :: ds => [{ kind := 12, unit := k, entries := (d :: ds).map (fun e => (e.core * 65536 + e.op)), waits := [], waitKind := 4
                  owner := d.ctx, cores := ((d :: ds).map (fun e => e.core)).eraseDups, run := 0 }]

/-- The pager's movements on paths 0 and 2: they advance by themselves. Paths 1 and 3 move no page on behalf of a context. -/
def watchPager (hw : Hw) : List WatchedQueue :=
  [0, 2].flatMap (fun path => match hw.pager.hints.filter (fun h => hintPath hw h == path) with
    | [] => []
    | h :: hs => [{ kind := 13, unit := path, entries := (h :: hs).map (fun e => e.acceptedAt * 256 + e.core), waits := [], waitKind := 4
                    owner := (coreOf hw h.core).ctx, cores := ((h :: hs).map (fun e => e.core)).eraseDups, run := 0 }])

/-- A queue of flits, transfers or requests that waits for credits, or acknowledgements, of its far end. -/
def watchPort (hw : Hw) (kind unit waitKind : Nat) (entries : List (Nat × Nat)) : List WatchedQueue :=
  match entries with
  | [] => []
  | (c, _) :: _ => [{ kind := kind, unit := unit, entries := entries.map (fun e => e.1 + 256 * e.2), waits := [], waitKind := waitKind
                      owner := (coreOf hw c).ctx, cores := (entries.map (fun e => e.1)).eraseDups, run := 0 }]

/-- The fabric ports of a Spire (R486): transfers that wait for credits of the link to Cupola, or to a ring neighbour (R281, R559). -/
def watchFabric (hw : Hw) (s : Nat) : List WatchedQueue :=
  [0, 1, 2].flatMap (fun index => watchPort hw (9 + index) s 2
    ((hw.links.fabric.filter (fun m => m.copies.any (fun c => !c.gone && copyLink m c == some (8 * s + index)))).map (fun m => (m.srcCore, m.seq))))

/-- The send queues of the plane ports by VC, of the flits that belong to messages of this module. -/
def watchPlanes (hw : Hw) : List WatchedQueue :=
  (List.range 6).flatMap (fun p => (List.range 8).flatMap (fun v =>
    watchPort hw 14 (8 * p + v) 4 ((tabGet [] (portOf hw p).queues v).filterMap (fun f => f.owner))))

/-- The host transfer queues of the Ethernet ports and halves (R314): requests of a context that are not yet acknowledged. -/
def watchHost (hw : Hw) : List WatchedQueue :=
  (List.range 16).flatMap (fun code => watchPort hw 15 code 4
    ((hw.host.qps.filter (fun q => q.code == code)).flatMap (fun q => q.outstanding.filterMap (fun r => match r.sender with
      | .core core id => some (core, id)
      | _ => none))))

/-- The queues that hold an entry, in ascending Spire, those of fenced domains left out (R486, R489). -/
def watchAll (hw : Hw) : List WatchedQueue :=
  let cores := (hw.cores.map (fun e => e.1)).filter (fun c => coreLive hw c && (coreOf hw c).ctx != 0)
  let spires := (List.range 4).filter (fun s => !spireFenced hw s)
  spires.flatMap (fun s => (cores.filter (fun c => spireOf c == s)).flatMap (watchCore hw) ++ watchColl hw s ++ watchFabric hw s)
    ++ ((List.range 12).filter (fun k => !stackFenced hw k)).flatMap (watchGraver hw) ++ watchPager hw ++ watchPlanes hw ++ watchHost hw

/-- One more evaluation without progress, or progress (R487): the head changed, an entry completed, or the wait changed. -/
def watchOn (old : List WatchedQueue) (q : WatchedQueue) : WatchedQueue :=
  match old.find? (fun x => x.kind == q.kind && x.unit == q.unit) with
  | none => { q with run := 0 }
  | some x =>
    if x.entries.head? == q.entries.head? && x.entries.all q.entries.contains && x.waits == q.waits then { q with run := x.run + 1 }
    else { q with run := 0 }

/-- A path of waiting queues from one that comes back to a start; fuel bounds its length. -/
def cycleFrom (qs : List WatchedQueue) (start : Nat × Nat) : Nat → List (Nat × Nat) → Nat × Nat → Option (List (Nat × Nat))
  | 0, _, _ => none
  | n + 1, path, key =>
    match qs.find? (fun q => (q.kind, q.unit) == key) with
    | none => none
    | some q =>
      if q.waits.contains start then some (path ++ [key])
      else firstSome (fun x => if path.contains x || x == key then none else cycleFrom qs start n (path ++ [key]) x) q.waits

/-- Spire of a queue; none for a queue of Cupola. -/
def queueSpire (key : Nat × Nat) : Option Nat :=
  if key.1 ≤ 6 then some (spireOf key.2) else if key.1 ≤ 11 then some key.2 else if key.1 = 12 then some (key.2 / 3) else none

/-- The 160 B hang record (R491). -/
def hangRecord (hw : Hw) (seq : Nat) (cycle : List WatchedQueue) : List Byte :=
  let lead := least ((cycle.filter (fun q => q.kind ≤ 6)).map (fun q => q.unit))
  let shown :=
    if cycle.length ≤ 16 then cycle
    else
      let i := (cycle.findIdx? (fun q => q.kind ≤ 6 && some q.unit == lead)).getD 0
      ((cycle.drop (i + 1)) ++ cycle.take (i + 1)).take 16
  let run := min 255 ((least (cycle.map (fun q => q.run))).getD 0)
  let cross := ((cycle.map (fun q => queueSpire (q.kind, q.unit))).eraseDups).length != 1
  let rows := shown.flatMap (fun q => leBytes 1 q.kind ++ leBytes 1 q.waitKind ++ leBytes 2 q.unit ++ leBytes 2 q.owner ++ zeros 2)
  let body := leBytes 8 hw.time.now ++ leBytes 8 hw.time.tick ++ leBytes 4 seq ++ leBytes 1 shown.length ++ leBytes 1 run
    ++ leBytes 1 (b2n (decide (16 < cycle.length)) + 2 * b2n cross) ++ zeros 9 ++ rows
  slice body 0 160

/-- A hang is found: its record and source 6, whose block reset names the cores that own an entry (R490, R491). -/
def reportHang (cycle : List WatchedQueue) (w : Work) : Work :=
  let seq := w.hw.hang.seq + 1
  let cores := (cycle.flatMap (fun q => q.cores)).eraseDups
  let ctx := (least (cycle.map (fun q => q.owner))).getD 0
  let spire := (least (cycle.filterMap (fun q => queueSpire (q.kind, q.unit)))).getD 0
  let record := hangRecord w.hw seq cycle
  let w1 := bump 9 0 1 (w.up fun h => { h with hang := { h.hang with
    seq := seq
    records := (if h.hang.records.length < 8 then h.hang.records else h.hang.records.drop 1) ++ [record]
    watched := h.hang.watched.map (fun q => if cycle.any (fun c => c.kind == q.kind && c.unit == q.unit) then { q with run := 0 } else q) } })
  raiseWith (cores.map (fun c => (1, c))) 6 2 spire ctx (seq % 2 ^ 32 + 2 ^ 32 * (min 16 cycle.length)) (stampOf w1.hw (256 + spire)) w1

/-- One start of the search for cycles. -/
def hangAt (key : Nat × Nat) (w : Work) : Work :=
  let ready := w.hw.hang.watched.filter (fun q => w.hw.hang.ticks ≤ q.run)
  match cycleFrom ready key ready.length [] key with
  | none => w
  | some path =>
    if path.length < 2 then w
    else reportHang (path.filterMap (fun k => ready.find? (fun q => (q.kind, q.unit) == k))) w

/-- The evaluation of a tick (R488). -/
def hangTick (w : Work) : Work :=
  let w1 := w.up fun h => { h with hang := { h.hang with watched := (watchAll h).map (watchOn h.hang.watched) } }
  forEach (w1.hw.hang.watched.map (fun q => (q.kind, q.unit))) hangAt w1

/-! ## Trace export (R549) -/

/-- Consecutive records at the head of the export buffer, at most n. -/
def exportRun : Nat → List (Nat × List Byte) → List (Nat × List Byte)
  | 0, _ => []
  | _, [] => []
  | n + 1, e :: rest =>
    match rest with
    | [] => [e]
    | f :: _ => if f.1 = e.1 + 1 then e :: exportRun n rest else [e]

/-- The records of the export buffer leave in `TRACE` flits on VC6. -/
def exportGo : Nat → Work → Work
  | 0, w => w
  | n + 1, w =>
    match exportRun 7 w.hw.burin.exportBuf with
    | [] => w
    | e :: es =>
      let run := e :: es
      let own := endpointOf w.hw 0
      let flit : Flit := {
        vc := 6
        type := 11
        first := true
        last := true
        dest := w.hw.burin.sinkEndpoint
        src := own
        payload := leBytes 4 own ++ leBytes 1 run.length ++ zeros 3 ++ leBytes 8 e.1 ++ run.flatMap (fun x => x.2)
        owner := none }
      exportGo n (routeFlit (w.hw.burin.sinkEndpoint % 256) flit
        (w.up fun h => { h with burin := { h.burin with exportBuf := h.burin.exportBuf.drop run.length } }))

/-- Trace export: the buffer empties into the port. -/
def exportTrace (w : Work) : Work := exportGo w.hw.burin.exportBuf.length w

end Sys2Proof.Machine
end

