-- ==== Sys2Proof/Machine/Tick.lean ====
section
/-! DEFINITION. Machine/Tick.lean: what happens at a tick, in order (R33 to R44, and the settings that wait for a tick). -/
namespace Sys2Proof.Machine

/-- The time base reaches the next tick: its number, and a period whose instant it is (R39, R41). -/
def reachTick (w : Work) : Work :=
  let t := nextTick w.hw
  let w1 := advance w t
  match w1.hw.time.periodNext with
  | some (earliest, code) =>
    if t = changeAt earliest code then
      modTime (fun x => { x with
        periodCode := code
        periodNext := none
        tick := t / (code * 10000) % 2 ^ 48
        tickAt := t
        deadlineDone := false }) w1
    else modTime (fun x => { x with tick := t / period w1.hw % 2 ^ 48, tickAt := t, deadlineDone := false }) w1
  | none => modTime (fun x => { x with tick := t / period w1.hw % 2 ^ 48, tickAt := t, deadlineDone := false }) w1

/-- `TICK_PERIOD_SET` is answered once its period is in force (R41). -/
def answerPeriod (w : Work) : Work :=
  match w.hw.host.periodAnswer, w.hw.time.periodNext with
  | some (c, s), none => answerLater c s stDone (leBytes 8 w.hw.time.tickAt ++ leBytes 8 w.hw.time.tick) (w.up fun h => { h with host := { h.host with periodAnswer := none } })
  | _, _ => w

/-- The slew of a tick: at most 100 ppm of the period (R34). -/
def slewTick (w : Work) : Work :=
  modTime (fun x =>
    let most : Int := (x.periodCode : Int)
    let left := if x.residual < 0 then min 0 (x.residual + most) else max 0 (x.residual - most)
    { x with residual := left, slewing := left != 0 }) w

/-- The cross-check of a tick against the Belfry marker (R36). -/
def crossCheck (w : Work) : Work :=
  let uses := w.hw.time.source == .plane || w.hw.time.source == .ptp
  let beyond := uses && w.hw.time.markerOk && decide (1000 < w.hw.lantern.markerOffset.natAbs)
  modTime (fun x => { x with mismatchRun := if beyond then x.mismatchRun + 1 else 0 }) w

/-- A new partition count: every share has a new owner, so the tiers are filled with zeros and the objects discarded (R27, R28, R179); every pair is
dissolved (R509). -/
def setPartitions (n : Nat) (w : Work) : Work :=
  if n = partCount w.hw then w
  else
    let w1 := ((w.zero 0 tier2Base).zero tier2Base (burinBase w.hw - tier2Base)).zero (2 ^ 60) (2 ^ 83)
    w1.up fun h => { h with
      keep := { h.keep with partitions := n }
      pager := { h.pager with objects := [], resident := [], journal := [], spare := [] }
      mirror := {} }

/-- `PARTITION_SET` takes force at the tick and is answered (R27). -/
def partitionTick (w : Work) : Work :=
  match w.hw.host.partitionNext with
  | none => w
  | some (c, s, n) =>
    answerLater c s stDone (leBytes 8 w.hw.time.tick) (setPartitions n (w.up fun h => { h with host := { h.host with partitionNext := none } }))

/-- An Ethernet port takes its new settings and retrains: its queue pairs fail (R315, R321). -/
def applyEth (e : Nat × EthPort) (w : Work) : Work :=
  let halves := [2 * e.1, 2 * e.1 + 1]
  let w1 := forEach halves (fun h w => linkGone h 0 (halfQpsFail h 3 w)) w
  let w2 := w1.up fun h => { h with host := { h.host with eth := tabSet {} h.host.eth e.1 e.2 } }
  forEach halves (fun h w => if halfExists w.hw h then publishUnit (23 + h) 0 0 (modHalf h (fun x => { x with link := 2 }) w) else w) w2

/-- A trace setting takes force (R178, R543). -/
def applyTrace (s : TraceSetting) (w : Work) : Work :=
  w.up fun h =>
    let b := h.burin
    let grows := s.gib != 0 && s.gib != b.gib && h.plans.plans.isEmpty
    let clears := bit s.tflags 2 || grows
    { h with burin := { b with
      enable := bit s.tflags 0
      stopWhenFull := bit s.tflags 1
      exporting := bit s.tflags 3
      sink := bit s.tflags 4
      gib := if grows then s.gib else b.gib
      next := if clears then 0 else b.next
      oldest := if clears then 0 else b.oldest
      moduleMask := if s.plan = 0 then s.mask else b.moduleMask
      planMask := if s.plan = 0 then b.planMask else tabSet 0 b.planMask s.plan s.mask
      sinkEndpoint := if bit s.tflags 3 then s.sink else b.sinkEndpoint } }

/-- A mirror window setting takes force: an enabled window enters resync (R518, R520). -/
def applyWindow (e : Nat × Option MirrorWindow) (w : Work) : Work :=
  let w1 := w.up fun h => { h with mirror := { h.mirror with
    windows := h.mirror.windows.filter (fun x => x.index != e.1) ++ e.2.toList } }
  if e.2.isSome then enterResync e.1 w1 else w1

/-- A `HANG_SET` takes force (R492). -/
def applyHang (e : Nat × Option (List (Nat × Nat))) (w : Work) : Work :=
  w.up fun h => { h with hang := { h.hang with
    ticks := if e.1 = 0 then h.hang.ticks else e.1
    windows := e.2.getD h.hang.windows } }

/-- A monitor takes its configuration, without samples (R551). -/
def applyMonitor (e : Nat × Monitor) (w : Work) : Work :=
  w.up fun h => { h with
    monitors := tabSet {} h.monitors e.1 (clearMonitor e.2)
    monitorsSince := tabSet {} h.monitorsSince e.1 (clearMonitor e.2) }

/-- The settings that wait for a tick take force, each kind in the order given (R33, R48, R263, R315, R330, R356, R479, R492, R518,
R543, R551). -/
def applySettings (w : Work) : Work :=
  let h := w.hw
  let w0 := w.up fun h => { h with
    time := { h.time with
      rackRef := h.time.roleNext.getD h.time.rackRef
      roleNext := none
      floor := h.time.floorNext.getD h.time.floor
      floorNext := none }
    links := { h.links with
      weights := h.links.weightsNext.foldl (fun t e =>
        (List.range 6).foldl (fun t p => if bit e.1 p then tabSet [] t p e.2 else t) t) h.links.weights
      weightsNext := [] }
    host := { h.host with
      ethNext := []
      cong := h.host.congNext.getD h.host.cong
      congNext := none
      outboxes := h.host.outboxNext.foldl (fun t e => tabSet {} t e.1 e.2) h.host.outboxes
      outboxNext := [] }
    fault := { h.fault with
      reaction := h.fault.reactionNext.foldl (fun l e => l.set e.1 e.2) h.fault.reaction
      reactionNext := [] }
    hang := { h.hang with next := [] }
    mirror := { h.mirror with windowsNext := [] }
    burin := { h.burin with settings := [] }
    monitorsNext := [] }
  let w1 := forEach h.host.ethNext applyEth (forEach h.hang.next applyHang (when h.time.roleNext.isSome chooseSource w0))
  let w2 := forEach h.burin.settings applyTrace (forEach h.mirror.windowsNext applyWindow w1)
  forEach h.monitorsNext applyMonitor w2

/-- `GRAVER_CHARGED` of the frames that have ended is sampled and ends with them (R247, R552). -/
def chargeTick (w : Work) : Work :=
  forEach (List.range 12) (fun k w =>
    let running (e : Nat × Nat × Nat) : Bool := match findPlan w.hw e.1 with
      | some p => (p.frame.map (fun f => f.number)) == some e.2.1
      | none => false
    let ended := (graverOf w.hw k).charged.filter (fun e => !running e)
    forEach ended (fun e w => sample 3 k e.2.2 w) (modGraver k (fun g => { g with charged := g.charged.filter running }) w)) w

/-- What the collector, the links and the light set do at a tick (R263, R474, R539). -/
def countTick (w : Work) : Work :=
  w.up fun h => { h with
    fault := { h.fault with seen := [] }
    links := { h.links with ports := h.links.ports.map (fun e => (e.1, { e.2 with lowUnits := 0, lowIn := 0, unitsOut := 0, unitsIn := 0 })) }
    host := { h.host with halves := h.host.halves.map (fun e => (e.1, { e.2 with bytesOut := 0, bytesIn := 0 })) }
    light := if h.lantern.powerState < 3 then { h.light with ticks := h.light.ticks + 1 } else h.light
    keep := if h.keep.turretUp then { h.keep with heartbeat := h.time.now } else h.keep }

/-- The `TICK` record (R545). -/
def traceTick (w : Work) : Work :=
  if w.hw.burin.enable && bit w.hw.burin.moduleMask 8 then
    traceModule 0x10 0xFFFF (leBytes 8 w.hw.time.tick ++ leBytes 2 w.hw.time.periodCode ++ zeros 6) w
  else w

/-- Turret's scan: seals and mailbox slots; the notices of the frame follow 20 us after the tick (R334 to R336, R341). -/
def scanTick (w : Work) : Work :=
  let frame := (w.hw.time.tick + 1) % 2 ^ 48
  let due := (w.hw.time.tickAt + 20000, frame)
  scanMail ((takeSeals w.hw.time.tickAt frame w).up fun h => { h with host := { h.host with noticeNext := some due } })

/-- The frames of a tick, after the batch responses that fell due (R44, R51 to R54, R201, R337). -/
def frameTickStart (w : Work) : Work :=
  let w1 := startFrames (freePlans (answerDue w))
  let starting := w1.hw.plans.plans.filterMap (fun p => match p.frame with
    | some f => if f.number = w1.hw.time.tick then some (p.id, f.number) else none
    | none => none)
  tickRecency starting w1

/-- One tick (R44): the deadline of the closing window, where it has not passed, falls first. -/
def tickAll (s : TickSample) (w : Work) : Work :=
  if !w.hw.power.aon then reachTick w
  else
    let prev := w.hw.time.tickAt
    let w1 := takeSnapshot (reachTick (frameDeadline (closeNotices w)))
    let w2 := applySettings (partitionTick (answerPeriod (crossCheck (slewTick (chargeTick (countTick w1))))))
    let w3 := topologyCheck (scanTick (frameTickStart (movesTick (liftFences (traceTick w2)))))
    let w4 := if w3.hw.lantern.up then lanternTick s w3 else w3
    let w5 := sample 10 0 w4.hw.pager.journal.length (mirrorTick w4)
    auditTick s prev (hangTick w5)

end Sys2Proof.Machine
end

