-- ==== Sys2Proof/Machine/Run.lean ====
section
/-! DEFINITION. Machine/Run.lean: how a command runs: on the module without its last outputs, followed by what its effects bring about at once. -/
namespace Sys2Proof.Machine

/-- The module and memory on which a command works; what the last command sent is gone (log 7). -/
def beginWork (s : State) : Work := { hw := { s.hw with tx := [] }, base := s.mem, log := [] }

/-- One reaction of the collector (R109, R476, R483, R505). -/
def react (r : Reaction) (w : Work) : Work :=
  match r with
  | .block kind unit cause seq => beginReset kind unit cause seq none w
  | .module => moduleReset .kept false w
  | .endFrame plan => match findPlan w.hw plan with
    | some p => cutFrame p w
    | none => w
  | .safe source => enterSafe source w

/-- The reactions chosen so far, in order, with those they bring about; fuel bounds them. -/
def settleReactions : Nat → Work → Work
  | 0, w => w
  | n + 1, w =>
    match w.hw.fault.due with
    | [] => w
    | r :: rest => settleReactions n (react r (w.up fun h => { h with fault := { h.fault with due := rest } }))

/-- Cores whose `END` has issued complete once nothing is outstanding (R102). -/
def settleEnds (w : Work) : Work :=
  forEach ((w.hw.cores.filter (fun e => e.2.ending)).map (fun e => e.1)) completeCore w

/-- Bundles held by a full queue or by the issue rate are tried again (R80, R97, R161). -/
def settleHolds (w : Work) : Work :=
  forEach (w.hw.cores.filter (fun e => e.2.hold == .queue || e.2.hold == .rate)) (fun e w => retryHeld e.1 e.2.hold w) w

/-- Packets and frames that waited for a paused priority leave once the pause has ended (R326). -/
def settleQps (w : Work) : Work :=
  let w1 := forEach ((w.hw.host.halves.filter (fun e => !e.2.waiting.isEmpty)).map (fun e => e.1)) pushHalf w
  forEach ((w.hw.host.qps.filter (fun q => !q.waiting.isEmpty || q.outstanding.any WorkReq.fresh)).map (fun q => q.index)) pushQp w1

/-- What a command's effects bring about at once. -/
def settle (w : Work) : Work :=
  let w1 := settleEnds (settleReactions 64 (settleNotices w))
  let w2 := settleReactions 64 (settleHolds w1)
  markWaits (markWindows (pumpAll (goAll (settleQps (exportTrace w2)))))

/-- The state after a command: the module, the memory with the command's stores, and the rest of the queue. -/
def finish (s : State) (w : Work) : State :=
  { hw := w.hw, mem := w.log.foldr (fun st m => applyStore m st) s.mem, pending := s.pending }

/-- A command runs. -/
def run (s : State) (f : Work → Work) : Host.Outcome State Fault Refusal := .next (finish s (settle (f (beginWork s))))

end Sys2Proof.Machine
end

