-- ==== Sys2Proof/Machine/CoreCommands.lean ====
section
/-! DEFINITION. Machine/CoreCommands.lean: what the units of a core, the Graver engines, the collective units and the state pager do in their own time (R86 to R89, R156 to R168, R194 to R251, R289). -/
namespace Sys2Proof.Machine

/-- `WAIT_SATISFIED` (R89): the bundle a wait holds is tried again. -/
def execWaitSatisfied (core : BitVec 8) (s : State) : Host.Outcome State Fault Refusal := run s (retryHeld core.toNat .wait)

/-- `MATRIX_OPERATION_BEGIN` (R156). -/
def execMatrixOperationBegin (core : BitVec 8) (op : BitVec 3) (s : State) : Host.Outcome State Fault Refusal :=
  run s (beginMatrix core.toNat op.toNat)

/-- `STREAM_PIECE_BEGIN` (R165, R166). -/
def execStreamPieceBegin (core : BitVec 8) (s : State) : Host.Outcome State Fault Refusal := run s (beginPiece core.toNat)

/-- `MATRIX_OPERATION_COMPLETE` (R159). -/
def execMatrixOperationComplete (core : BitVec 8) (op : BitVec 3) (s : State) : Host.Outcome State Fault Refusal :=
  run s (completeMatrix core.toNat op.toNat)

/-- `MOVE_COMPLETE` (R87). -/
def execMoveComplete (core : BitVec 8) (op : BitVec 5) (s : State) : Host.Outcome State Fault Refusal :=
  run s (completeMove core.toNat op.toNat)

/-- `LAST_FLIT_LEAVES` (R86). -/
def execLastFlitLeaves (core : BitVec 8) (op : BitVec 6) (s : State) : Host.Outcome State Fault Refusal :=
  run s (leaveMsg core.toNat op.toNat)

/-! ## Collective units (R289) -/

/-- `ALL_REDUCE`. -/
def execAllReduce (core : BitVec 8) (s : State) : Host.Outcome State Fault Refusal := run s (runColl 1 core.toNat)
/-- `REDUCE_SCATTER`. -/
def execReduceScatter (core : BitVec 8) (s : State) : Host.Outcome State Fault Refusal := run s (runColl 2 core.toNat)
/-- `ALL_GATHER`. -/
def execAllGather (core : BitVec 8) (s : State) : Host.Outcome State Fault Refusal := run s (runColl 3 core.toNat)
/-- `ALL_TO_ALL` (R303). -/
def execAllToAll (core : BitVec 8) (s : State) : Host.Outcome State Fault Refusal := run s (runColl 4 core.toNat)
/-- `BROADCAST`. -/
def execBroadcast (core : BitVec 8) (s : State) : Host.Outcome State Fault Refusal := run s (runColl 5 core.toNat)

/-! ## Graver engines -/

/-- `GATHER_POOL` (R227). -/
def execGatherPool (k : Fin 12) (s : State) : Host.Outcome State Fault Refusal := run s (graverServe 1 runGather k.val)
/-- `SCORE_SELECT` (R230). -/
def execScoreSelect (k : Fin 12) (s : State) : Host.Outcome State Fault Refusal := run s (graverServe 2 runScore k.val)
/-- `PACK` (R236). -/
def execPack (k : Fin 12) (s : State) : Host.Outcome State Fault Refusal := run s (graverServe 3 runPack k.val)
/-- `ROW_UPDATE` (R238). -/
def execRowUpdate (k : Fin 12) (s : State) : Host.Outcome State Fault Refusal := run s (graverServe 4 runRowUpdate k.val)
/-- `CHECKSUM` (R241). -/
def execChecksum (k : Fin 12) (s : State) : Host.Outcome State Fault Refusal := run s (graverServe 5 runChecksum k.val)
/-- `COPY` (R241). -/
def execCopy (k : Fin 12) (s : State) : Host.Outcome State Fault Refusal := run s (graverServe 6 runCopy k.val)
/-- `FILL` (R241). -/
def execFill (k : Fin 12) (s : State) : Host.Outcome State Fault Refusal := run s (graverServe 7 runFill k.val)

/-! ## The state pager -/

/-- `PHINT_ACCEPT` (R194). -/
def execPhintAccept (core : BitVec 8) (s : State) : Host.Outcome State Fault Refusal :=
  run s (fun w => if pagerLive w.hw then acceptHints core.toNat w else w)

/-- `PLACEMENT` (R199): the next page that can be placed is placed. -/
def execPlacement (t3 : T3Read) (s : State) : Host.Outcome State Fault Refusal :=
  run s (fun w => if pagerLive w.hw && !flushHolds w.hw then serveHints t3 w.hw.pager.hints w else w)

/-- `JOURNAL_DRAIN` (R206, R210). -/
def execJournalDrain (failed : Bool) (s : State) : Host.Outcome State Fault Refusal :=
  run s (fun w => if pagerLive w.hw then drainSlot failed w else w)

/-- A transition of module power whose orderly flush has ended waits 100 ms for the removal of its domains (R407). -/
def movesAfterFlush (off halt : Bool) (w : Work) : Work :=
  let t := w.hw.time.now + 100000000
  modMoves (fun l => l.map (fun m => if m == .flushing off halt then .removal off halt t else m)) w

/-- What the end of a flush brings about (R208, R378, R380, R407, R457, R458, R507, R583). -/
def endFlush (f : Flush) (w : Work) : Work :=
  let w1 := w.up fun h => { h with pager := { h.pager with flushes := h.pager.flushes.filter (fun x => x != f) } }
  let w1 := if journalOnly f.kind then w1 else modLantern (fun l => { l with epochSaved := l.epoch }) w1
  let answered (w : Work) : Work := match f.answer with
    | some (c, s) => answerLater c s stDone (if f.kind == .command then leBytes 8 f.written else []) w
    | none => w
  match f.kind with
  | .command => answered w1
  | .standby => movesAfterFlush false false (answered w1)
  | .dark => movesAfterFlush true false (answered w1)
  | .off => movesAfterFlush true false (answered w1)
  | .halt => movesAfterFlush false true (answered w1)
  | .emergency =>
    let now := w1.hw.time.now
    modMoves (fun l => l ++ [.removal false true now]) (feedJournal (releaseEvery (abortEvery w1)))
  | .warning => if w1.hw.power.moves.contains .cut then cutPower w1 else endWarning (feedJournal w1)
  | .reset =>
    if w1.hw.keep.entering = 2 then
      -- service mode: the Spire domains are removed and Turret stops (R380)
      publishModule (modKeep (fun k => { k with entering := 0, phase := 9, bootPath := 2, turretUp := false, ready := false })
        (removeSpires w1))
    else moduleReset .kept false w1

/-- Whether a transition still waits for frames of released plans, besides its flush (R52, R407). -/
def flushWaits (hw : Hw) (f : Flush) : Bool :=
  match f.kind with
  | .command => false
  | .warning => false
  | .emergency => false
  | .reset => hw.keep.entering == 2 && !hw.plans.plans.isEmpty
  | _ => !hw.plans.plans.isEmpty

/-- The first flush that has written all it must ends. -/
def endFlushes (w : Work) : Work :=
  match w.hw.pager.flushes.find? (fun f => flushDone w.hw f && !flushWaits w.hw f) with
  | some f => endFlush f w
  | none => w

/-- `FLUSH_END` (R208). -/
def execFlushEnd (s : State) : Host.Outcome State Fault Refusal := run s endFlushes

/-- The first orderly flush whose deadline lies in this window meets it. -/
def meetFlushDeadline (w : Work) : Work :=
  match w.hw.pager.flushes.find? (fun f => match f.deadline with | some t => due w.hw t | none => false) with
  | some f => abandonFlush f (advance w (f.deadline.getD 0))
  | none => w

/-- `FLUSH_DEADLINE` (R208). -/
def execFlushDeadline (s : State) : Host.Outcome State Fault Refusal := run s meetFlushDeadline

end Sys2Proof.Machine
end

