-- ==== Sys2Proof/Machine/TimeOps.lean ====
section
/-! DEFINITION. Machine/TimeOps.lean: the sources of the time base, its slew and its one step (R31 to R36). -/
namespace Sys2Proof.Machine

/-- An instant moved with the time base. -/
def moved (d : Int) (n : Nat) : Nat := ((n : Int) + d).toNat

/-- Timers of the plane ports and of the fabric move with a step of the time base. -/
def shiftLinks (d : Int) (l : LinksSt) : LinksSt := { l with
  ports := l.ports.map (fun e => (e.1, { e.2 with
    ackAt := moved d e.2.ackAt
    replayAt := moved d e.2.replayAt
    holdUntil := e.2.holdUntil.map (moved d)
    retryAt := e.2.retryAt.map (moved d)
    activeAt := moved d e.2.activeAt }))
  exchanges := []
  fabric := l.fabric.map (fun m => { m with sentAt := moved d m.sentAt }) }

/-- Timers of Lantern. -/
def shiftLantern (d : Int) (l : LanternSt) : LanternSt := { l with
  heardAt := l.heardAt.map (moved d)
  beatAt := l.beatAt.map (moved d)
  aloneSince := moved d l.aloneSince
  sentBeatAt := l.sentBeatAt.map (moved d)
  marker := l.marker.map (fun m => (moved d m.1, m.2))
  coolant := l.coolant.map (fun c => (moved d c.1, c.2))
  lowFlowSince := l.lowFlowSince.map (moved d)
  hotInletSince := l.hotInletSince.map (moved d) }

/-- Timers of a Spire's power and thermal state. -/
def shiftSpire (d : Int) (s : SpirePower) : SpirePower := { s with
  targetSince := moved d s.targetSince
  hotSince := s.hotSince.map (moved d)
  coolSince := s.coolSince.map (moved d)
  droopSince := s.droopSince.map (moved d)
  droopEnded := s.droopEnded.map (fun e => (e.1, moved d e.2)) }

/-- Timers of a hot spot. -/
def shiftSpot (d : Int) (s : HotSpot) : HotSpot := { s with
  splitSince := s.splitSince.map (moved d)
  absentSince := s.absentSince.map (moved d)
  changedAt := s.changedAt.map (moved d)
  history := s.history.map (fun e => (moved d e.1, e.2)) }

/-- The instant of a power transition. -/
def shiftMove (d : Int) (m : PowerMove) : PowerMove :=
  match m with
  | .accepted off halt t a => .accepted off halt (moved d t) a
  | .removal off halt t => .removal off halt (moved d t)
  | x => x

/-- Timers of the supply, the pins and the temperatures. -/
def shiftPower (d : Int) (p : PowerSt) : PowerSt := { p with
  spires := p.spires.map (fun e => (e.1, shiftSpire d e.2))
  spots := p.spots.map (fun e => (e.1, shiftSpot d e.2))
  vrSince := p.vrSince.map (moved d)
  warnAt := p.warnAt.map (moved d)
  moves := p.moves.map (shiftMove d)
  pwrEnAt := moved d p.pwrEnAt
  tripAt := p.tripAt.map (moved d)
  poweredAt := moved d p.poweredAt }

/-- Timers of Keep and Turret. -/
def shiftKeep (d : Int) (k : KeepSt) : KeepSt := { k with
  startAt := k.startAt.map (moved d)
  excludeFrom := k.excludeFrom.map (moved d)
  heartbeat := moved d k.heartbeat
  linksAt := k.linksAt.map (moved d)
  linkSince := k.linkSince.map (fun e => (e.1, moved d e.2)) }

/-- Timers of the host attachment. -/
def shiftHost (d : Int) (h : HostSt) : HostSt := { h with
  noticeNext := h.noticeNext.map (fun n => (moved d n.1, n.2))
  halves := h.halves.map (fun e => (e.1, { e.2 with
    lldpAt := e.2.lldpAt.map (moved d)
    pausedUntil := e.2.pausedUntil.map (fun x => (x.1, moved d x.2)) }))
  qps := h.qps.map (fun q => { q with
    outstanding := q.outstanding.map (fun r => { r with sentAt := moved d r.sentAt })
    cnpAt := moved d q.cnpAt
    alphaAt := moved d q.alphaAt
    incAt := moved d q.incAt
    cnpSentAt := q.cnpSentAt.map (moved d) }) }

/-- Timers of the domain resets in progress. -/
def shiftHang (d : Int) (h : HangSt) : HangSt := { h with
  resets := h.resets.map (fun r => { r with
    startedAt := moved d r.startedAt
    deadline := moved d r.deadline
    backAt := moved d r.backAt
    answers := r.answers.map (fun a => (a.1, a.2.1, moved d a.2.2)) }) }

/-- The time base steps (R31, R34): intervals already running keep their length, and Burin records the step. -/
def stepTime (d : Int) (w : Work) : Work :=
  let old := w.hw.time.now
  let next := moved d old
  let w1 := w.up fun h =>
    let p := period h
    { h with
      time := { h.time with
        now := next
        stepDue := false
        periodNext := h.time.periodNext.map (fun x => (moved d x.1, x.2))
        tick := next / p % 2 ^ 48
        tickAt := next / p * p
        deadlineDone := true
        holdover := h.time.holdover.map (moved d) }
      clks := h.clks.map (fun e => (e.1, { e.2 with since := moved d e.2.since }))
      links := shiftLinks d h.links
      lantern := shiftLantern d h.lantern
      power := shiftPower d h.power
      keep := shiftKeep d h.keep
      host := shiftHost d h.host
      hang := shiftHang d h.hang
      light := { h.light with aonSince := moved d h.light.aonSince }
      conserve := { h.conserve with
        crossed := h.conserve.crossed.map (fun e => (e.1, moved d e.2))
        window := h.conserve.window.map (fun e => { e with instant := moved d e.instant }) } }
  traceModule 0x11 0xFFFF (leBytes 8 old ++ leBytes 8 next) w1

/-- An offset measured against the source in use (R34, R38): the module's one step where it is due, else a slew. -/
def takeOffset (source : TimeSource) (offset : Int) (w : Work) : Work :=
  if w.hw.time.source != source then w
  else
    let w1 := modTime (fun t => { t with offset := offset }) w
    if w.hw.time.stepDue then stepTime offset w1
    else modTime (fun t => { t with residual := offset, slewing := offset != 0 }) w1

/-- A source by its code in `TIME_STATUS.SOURCE` (R38). -/
def sourceOf (code : Nat) : TimeSource :=
  match code with
  | 1 => .plane
  | 2 => .ptp
  | 3 => .marker
  | 4 => .holdover
  | _ => .freeRun

/-- The code of a source (R38). -/
def TimeSource.code : TimeSource → Nat
  | .freeRun => 0
  | .plane => 1
  | .ptp => 2
  | .marker => 3
  | .holdover => 4

/-- `TIME_STATUS` (R38). -/
def timeStatus (hw : Hw) : Nat :=
  let t := hw.time
  let held := match t.holdover with
    | some x => min 0xFFFF ((t.now - x) / 1000000000)
    | none => 0
  t.source.code + 8 * b2n t.rackRef + 16 * b2n t.mismatch + 32 * b2n t.slewing + 65536 * held

/-- `TICK_CONFIG` (R38). -/
def tickConfig (hw : Hw) : Nat := hw.time.periodCode + 65536 * hw.time.floor

end Sys2Proof.Machine
end

