-- ==== Sys2Proof/Machine/BelfryOps.lean ====
section
/-! DEFINITION. Machine/BelfryOps.lean: frames and markers of the Belfry ring, seats, tokens, coolant readings and the ring's time limits (R33 to R36, R408, R413 to R430, R459, R562). -/
namespace Sys2Proof.Machine

/-! ## What frames say -/

/-- No reserved bit of a payload of a known type is set (R415). -/
def payloadOk (type : Nat) (b : List Byte) : Bool :=
  match type with
  | 1 => if field b 0 1 = 1 then zeroAt b 1 3 && zeroAt b 10 2 else field b 2 1 < 32 && zeroAt b 3 1 && zeroAt b 6 2
  | 2 => true
  | 3 => true
  | 4 => true
  | 5 => field b 8 1 < 8 && zeroAt b 9 3
  | 6 => zeroAt b 1 1 && zeroAt b 10 2
  | 7 => zeroAt b 1 3 && zeroAt b 8 4
  | _ => false

/-- A valid frame from seat 0 ends masterless operation (R427, R430). -/
def heardMaster (w : Work) : Work :=
  let was := w.hw.lantern.masterless
  let w1 := modLantern (fun l => { l with masterless := false, heardAt := some w.hw.time.now }) w
  if was then logPower 19 8 0 0 w1 else w1

/-- `MASTER_EPOCH` as announced in `HEARTBEAT` and `SEAT_ASSIGN` (R430). -/
def noteEpoch (e : Nat) (w : Work) : Work :=
  if w.hw.lantern.masterEpoch = some e then w
  else modConserve (fun c => { c with epochDue := w.hw.lantern.masterEpoch.isSome }) (modLantern (fun l => { l with masterEpoch := some e }) w)

/-- `HEARTBEAT` of seat 0: it ends the orphan cap (R429, R430). -/
def takeHeartbeat (b : List Byte) (w : Work) : Work :=
  let was := w.hw.lantern.orphan
  let w1 := modLantern (fun l => { l with beatAt := some w.hw.time.now, orphan := false }) w
  let w2 := if was then logPower 19 10 0 0 w1 else w1
  if field b 0 1 = 1 then noteEpoch (field b 4 4) (modConserve (fun c => { c with trayTokens := field b 8 2 }) w2) else w2

/-- Tokens that a `LEASE` gives a seat (R415). -/
def leaseOf (b : List Byte) (seat : Nat) : Nat := bits (leNat b) (12 * seat + 11) (12 * seat)

/-- `LEASE` (R425, R430, R562): the holding it gives governs. What the module's own `OFFER`, `CLAIM` and last `HELD` do not explain
is counted; a fall under the first `LEASE` of a new `MASTER_EPOCH` is explained. -/
def takeLease (b : List Byte) (w : Work) : Work :=
  let l := w.hw.lantern
  let c := w.hw.conserve
  let w1 := modConserve (fun c => { c with
    leaseSum := some (((List.range 7).map (fun i => leaseOf b (i + 1))).foldl (· + ·) 0)
    newEpoch := c.newEpoch || c.epochDue
    epochDue := false }) w
  match l.seat with
  | none => w1
  | some seat =>
    let held := leaseOf b seat
    let low := l.held - l.offer
    let fell := if c.epochDue then 0 else low - held
    let rose := held - (low + l.claim)
    let w2 := modLantern (fun x => { x with held := held }) w1
    bump 6 3 (fell + rose) (modConserve (fun c => { c with unexplained := c.unexplained + fell }) w2)

/-- `SEAT_ASSIGN` (R417): byte `HOPS` + 1 is this module's seat. -/
def takeSeats (hops : Nat) (b : List Byte) (w : Work) : Work :=
  let l := w.hw.lantern
  let v := if hops + 1 ≤ 7 then field b (hops + 1) 1 else 0xFF
  let seat := if 1 ≤ v && v ≤ 7 then some v else none
  let named := (List.range 7).map (fun i => field b (i + 1) 1)
  let members := (List.range 7).foldl (fun n i => if named.contains (i + 1) then n + 2 ^ i else n) 0
  let changed := l.seat.isSome && l.seat != seat
  let w1 := modLantern (fun x => { x with
    seat := seat
    members := members
    seatChanges := if changed then x.seatChanges + 1 else x.seatChanges }) w
  publishBelfry (noteEpoch (field b 8 4) w1)

/-- `COOLANT` addressed to this module (R419). -/
def takeCoolant (b : List Byte) (w : Work) : Work :=
  let v := field b 8 1
  let inlet := if bit v 0 then some (toSigned 16 (field b 2 2)) else none
  let flow := if bit v 2 then some (field b 6 2) else none
  modLantern (fun l => { l with
    inlet := inlet.getD l.inlet
    outlet := if bit v 1 then toSigned 16 (field b 4 2) else l.outlet
    flow := flow.getD l.flow
    coolantMiss := if inlet.isSome then 0 else l.coolantMiss
    coolantAssumed := l.coolantAssumed && inlet.isNone
    lowFlowRun := match flow with
      | some q => if q < 500 then l.lowFlowRun + 1 else 0
      | none => l.lowFlowRun
    coolant := (w.hw.time.now, inlet, flow) :: recentCoolant w.hw }) w

/-- `ALERT` from another member is counted and traced (R420). -/
def takeAlert (seat : Nat) (b : List Byte) (w : Work) : Work :=
  traceModule 0x13 0xFFFF (leBytes 1 seat ++ slice b 0 1 ++ zeros 6 ++ slice b 2 8) (bump 6 2 1 w)

/-- `WAKE` (R408 to R410, R459). -/
def takeWake (b : List Byte) (w : Work) : Work :=
  let hw := w.hw
  let state := hw.lantern.powerState
  let cold := state = 3 && hw.power.haltedWake && (flowBelow hw 2000 || inletAbove hw 4500)
  if field b 0 1 ≠ 1 then w
  else if state < 3 || cold then logPower 18 6 0 4 w
  else
    let w1 := logPower 18 6 0 0 w
    if state = 3 then modPower (fun p => { p with waking := true }) w1 else modLantern (fun l => { l with powerState := 2, lowest := l.lowest.filter (fun c => c != 4) }) w1

/-- What a frame that this module consumes brings about; frames whose sender the table of R415 does not name are ignored. -/
def consumeFrame (type : Nat) (f : BFrame) (w : Work) : Work :=
  let b := f.payload.toList
  let src := f.src.toNat
  match type with
  | 1 => if src = 0 then takeHeartbeat b w else w
  | 3 => if src = 0 then takeLease b w else w
  | 4 => if src = 0 then takeSeats f.hops.toNat b w else w
  | 5 => if src = 0 then takeCoolant b w else w
  | 6 => takeAlert src b w
  | 7 => if src = 0 then takeWake b w else w
  | _ => w

/-! ## Frames and markers on the ring (R413 to R418) -/

/-- A frame reaches an open member (R413 to R415): it is removed when it is its own, consumed when it is addressed to it alone, else
forwarded with one more hop. One whose CRC fails is counted and forwarded; one of an unknown type or with a reserved bit set is counted;
neither has another effect here. -/
def belfryArrive (type : Nat) (crcOk : Bool) (f : BFrame) (w : Work) : Work :=
  let l := w.hw.lantern
  let src := f.src.toNat % 8
  let wide := bit f.dst.toNat 3
  let mine := l.seat = some (f.dst.toNat % 8) && !wide
  if !l.bypassOpen || !w.hw.power.aon then w
  else if l.seat = some src then w
  else
    let valid := f.src.toNat < 8 && f.dst.toNat < 16 && payloadOk type f.payload.toList
    let w1 :=
      if !crcOk then bump 6 0 1 w
      else if !valid then bump 6 1 1 w
      else
        let w2 := if src = 0 then heardMaster w else w
        if mine || wide then consumeFrame type f w2 else w2
    if mine && crcOk then w1
    else emit (.belfry (belfryBytes type f.src.toNat f.dst.toNat ((f.hops.toNat + 1) % 256) f.payload.toList)) w1

/-- A tick marker arrives (R35, R418): forwarded with one more hop, and its offset measured; the time base follows it while it is
the source. -/
def takeMarker (count hops : Nat) (w : Work) : Work :=
  if !w.hw.lantern.bypassOpen || !w.hw.power.aon then w
  else
    let t := w.hw.time
    let ref := t.now - 120 * hops
    let ahead : Int := toSigned 16 ((count + 2 ^ 16 - t.tick % 2 ^ 16) % 2 ^ 16)
    let own : Int := (t.tickAt : Int) + ahead * (period w.hw : Int)
    let off : Int := (ref : Int) - own
    let w1 := modLantern (fun l => { l with marker := some (ref, count), markerOffset := off }) w
    emit (.marker count ((hops + 1) % 256)) (takeOffset .marker (-off) (gainSource .marker w1))

/-- Three tick periods without a marker (R418). -/
def loseMarker (w : Work) : Work :=
  match w.hw.lantern.marker with
  | none => w
  | some (t, _) =>
    let limit := t + 3 * period w.hw
    if due w.hw limit then loseSource .marker (modLantern (fun l => { l with marker := none }) (advance w limit)) else w

/-- The cross-check has failed at three ticks in a row (R36). -/
def markerMismatch (w : Work) : Work :=
  if 3 ≤ w.hw.time.mismatchRun && !w.hw.time.mismatch then raise 19 0 0 0 0 (modTime (fun t => { t with mismatch := true }) w) else w

/-! ## Frames sent and limits of the ring (R415, R419, R427, R429) -/

/-- The payload of this module's `HEARTBEAT` (R415). -/
def heartbeatPayload (hw : Hw) : List Byte :=
  let l := hw.lantern
  let state := if l.powerState < 3 && !hw.keep.ready then 5 else l.powerState
  let flags := b2n hw.keep.ready + 2 * b2n l.masterless + 4 * b2n l.orphan + 8 * b2n l.belowFloor + 16 * b2n (faultAsserted hw)
  leBytes 1 0 ++ leBytes 1 state ++ leBytes 1 flags ++ zeros 1 ++ leBytes 2 hw.time.periodCode ++ zeros 2
    ++ leBytes 4 (tabGet {} l.units 0).epoch

/-- The module broadcasts its `HEARTBEAT`, 10 ms after the last one (R415). -/
def sendHeartbeat (w : Work) : Work :=
  let l := w.hw.lantern
  let limit := match l.sentBeatAt with
    | some t => t + 10000000
    | none => 0
  if !l.up || l.seat.isNone || !l.bypassOpen || !due w.hw limit then w
  else
    let w1 := advance w limit
    sendBelfry 1 8 (heartbeatPayload w1.hw) (modLantern (fun x => { x with sentBeatAt := some w1.hw.time.now }) w1)

/-- 50 ms without a valid frame from seat 0 (R427). -/
def becomeMasterless (w : Work) : Work :=
  match w.hw.lantern.heardAt with
  | none => w
  | some t =>
    if w.hw.lantern.masterless || !due w.hw (t + 50000000) then w
    else logPower 19 7 0 0 (bump 6 5 1 (modLantern (fun l => { l with masterless := true }) (advance w (t + 50000000))))

/-- 30 s without a `HEARTBEAT` of seat 0 (R429). -/
def becomeOrphan (w : Work) : Work :=
  let l := w.hw.lantern
  let limit := l.beatAt.getD l.aloneSince + 30000000000
  if !l.up || l.orphan || !due w.hw limit then w
  else logPower 19 9 0 0 (bump 6 6 1 (modLantern (fun x => { x with orphan := true }) (advance w limit)))

/-- Three ticks without a valid inlet reading (R419). -/
def assumeCoolant (w : Work) : Work :=
  if 3 ≤ w.hw.lantern.coolantMiss && w.hw.lantern.up then modLantern (fun l => { l with coolantAssumed := true }) w else w

end Sys2Proof.Machine
end

