-- ==== Sys2Proof/Machine/BelfryCommands.lean ====
section
/-! DEFINITION. Machine/BelfryCommands.lean: the commands of the Belfry ring (R36, R408, R413 to R430). -/
namespace Sys2Proof.Machine

/-- `HEARTBEAT` (R415, R430) arrives with a good CRC. -/
def execHeartbeat (frame : BFrame) (s : State) : Host.Outcome State Fault Refusal := run s (belfryArrive 1 true frame)

/-- `LEASE` (R425) arrives with a good CRC. -/
def execLease (frame : BFrame) (s : State) : Host.Outcome State Fault Refusal := run s (belfryArrive 3 true frame)

/-- `SEAT_ASSIGN` (R417) arrives with a good CRC. -/
def execSeatAssign (frame : BFrame) (s : State) : Host.Outcome State Fault Refusal := run s (belfryArrive 4 true frame)

/-- `COOLANT` (R419) arrives with a good CRC. -/
def execCoolant (frame : BFrame) (s : State) : Host.Outcome State Fault Refusal := run s (belfryArrive 5 true frame)

/-- `ALERT` (R420) arrives with a good CRC. -/
def execAlert (frame : BFrame) (s : State) : Host.Outcome State Fault Refusal := run s (belfryArrive 6 true frame)

/-- `WAKE` (R408) arrives with a good CRC. -/
def execWake (frame : BFrame) (s : State) : Host.Outcome State Fault Refusal := run s (belfryArrive 7 true frame)

/-- `BELFRY_FRAME_FORWARD` (R413, R414): any frame on the ring. -/
def execBelfryFrameForward (type : Byte) (frame : BFrame) (crcOk : Bool) (s : State) : Host.Outcome State Fault Refusal :=
  run s (belfryArrive type.toNat crcOk frame)

/-- `TICK_MARKER` (R418). -/
def execTickMarker (count : BitVec 16) (hops : Byte) (s : State) : Host.Outcome State Fault Refusal :=
  run s (takeMarker count.toNat hops.toNat)

/-- `HEARTBEAT_SEND` (R415). -/
def execHeartbeatSend (s : State) : Host.Outcome State Fault Refusal := run s sendHeartbeat

/-- `MARKER_LOST` (R418). -/
def execMarkerLost (s : State) : Host.Outcome State Fault Refusal := run s loseMarker

/-- `MARKER_MISMATCH` (R36). -/
def execMarkerMismatch (s : State) : Host.Outcome State Fault Refusal := run s markerMismatch

/-- `MASTERLESS` (R427). -/
def execMasterless (s : State) : Host.Outcome State Fault Refusal := run s becomeMasterless

/-- `ORPHAN` (R429). -/
def execOrphan (s : State) : Host.Outcome State Fault Refusal := run s becomeOrphan

/-- `COOLANT_ASSUMED` (R419). -/
def execCoolantAssumed (s : State) : Host.Outcome State Fault Refusal := run s assumeCoolant

end Sys2Proof.Machine
end

