-- ==== Sys2Proof/Machine/LinkOps.lean ====
section
/-! DEFINITION. Machine/LinkOps.lean: training, discovery and time exchanges of the plane ports, and the messages and records they receive (R259 to R282, R297, R550, R560). -/
namespace Sys2Proof.Machine

/-! ## Link control (R260, R264, R278) -/

/-- A `CREDIT` record arrives (R264). -/
def takeCredit (p ack : Nat) (freed : List Nat) (w : Work) : Work :=
  if (portOf w.hw p).state ≠ .active then w
  else modPort p (fun q => { q with freedSeen := (numbered 1 freed).foldl (fun t e => tabSet 0 t e.1 e.2) q.freedSeen }) (acknowledge p ack w)

/-- A `NAK` record arrives (R260). -/
def takeNak (p ack expected : Nat) (w : Work) : Work :=
  if (portOf w.hw p).state ≠ .active then w else replayFrom p expected (acknowledge p ack w)

/-- A link leaves `ACTIVE` for a cause and then enters `DETECT` where it may (R271, R278). -/
def dropLink (p cause : Nat) (w : Work) : Work :=
  if (portOf w.hw p).state = .active then linkDown p cause (afterDown w.hw p) w else w

/-- No acknowledgement advances for 2 us while flits are buffered: the oldest flit on are sent again (R260). -/
def replayTimeout (p : Nat) (w : Work) : Work :=
  let port := portOf w.hw p
  let instant := max port.ackAt port.replayAt + 2000
  match port.replay with
  | [] => w
  | (seq, _, _) :: _ => if port.state = .active ∧ due w.hw instant then replayFrom p seq (advance w instant) else w

/-- Replay is exhausted: one `SEQ` sent nine times, or 20 us without an acknowledgement (R260, R469). -/
def replayExhausted (p : Nat) (w : Work) : Work :=
  let port := portOf w.hw p
  if port.state ≠ .active ∨ port.replay.isEmpty then w
  else if port.replay.any (fun e => 9 ≤ e.2.1) then dropLink p 1 w
  else if due w.hw (port.ackAt + 20000) then dropLink p 1 (advance w (port.ackAt + 20000))
  else w

/-- The hold of R268 ends 10 us after it began. -/
def holdExpires (p : Nat) (w : Work) : Work :=
  match (portOf w.hw p).holdUntil with
  | none => w
  | some t => if due w.hw t then endHold p (advance w t) else w

/-! ## Training (R271 to R273) -/

/-- Lanes of a 17-bit mask. -/
def laneCount (mask : Nat) : Nat := ((List.range 17).filter (bit mask)).length

/-- `DETECT` finds the far end on at least 16 lanes (R271). -/
def detectLanes (p lanes : Nat) (w : Work) : Work :=
  if (portOf w.hw p).state ≠ .detect ∨ !w.hw.power.cupola ∨ laneCount lanes < 16 then w
  else
    let full := (portOf w.hw p).fullTraining || !trainingValid w.hw (64 + p)
    modPort p (fun q => { q with
      state := .train
      fullTraining := full
      saved := !full
      retryAt := none }) w

/-- A training that does not reach `INIT`: `DOWN`, and a new try after 10 s (R273). -/
def failTraining (p cause : Nat) (w : Work) : Work :=
  let w1 := if (portOf w.hw p).fullTraining then
      modKeep (fun k => { k with failedTraining := if k.failedTraining.contains p then k.failedTraining else k.failedTraining ++ [p] }) w
    else w
  modPort p (fun q => { q with
    state := .down
    downCause := cause
    fullTraining := true
    retryAt := some (w.hw.time.now + 10000000000) }) w1

/-- Equalisation ends (R271, R273). -/
def trainEnds (p : Nat) (ok : Bool) (w : Work) : Work :=
  let port := portOf w.hw p
  if port.state ≠ .train then w
  else if ok then modPort p (fun q => { q with state := .align }) w
  else if port.fullTraining then failTraining p 8 w
  else modPort p (fun q => { q with fullTraining := true, saved := false }) w

/-- The lane that a spare byte of the defect map names at a port, 31 for none (R372): byte 0 receive, byte 1 transmit. -/
def defectLane (hw : Hw) (p byte : Nat) : Nat := (hw.keep.spares[2 * p + byte]?).getD 31

/-- The lane left out of the receive direction, and the spare that `PLINK_STATUS` shows: a lane that fails, else the lane that the defect
map names, else some lane, the worst of 17 good ones (R272). -/
def chooseSpare (good named : Nat) (w : Work) : (Nat × Nat) × Work :=
  match (List.range 17).find? (fun i => !bit good i) with
  | some i => ((i, i), w)
  | none => if named < 17 then ((named, named), w) else ((freeOf w % 17, 31), freeUsed w)

/-- Lanes of a mask without one to be excluded (R273). -/
def withoutLane (mask : Nat) : Option Nat → Nat
  | some i => if bit mask i then mask - 2 ^ i else mask
  | none => mask

/-- `ALIGN` ends with the good lanes of both directions: the receiving end of each chooses its mask, the far end reports its own in
`LINK_INIT` (R272 to R274). -/
def alignLanes (p rxGood txGood : Nat) (w : Work) : Work :=
  let port := portOf w.hw p
  let good := withoutLane rxGood port.exclude
  if port.state ≠ .align then w
  else if laneCount good < 16 ∨ laneCount txGood < 16 then failTraining p 3 w
  else
    let r := chooseSpare good (defectLane w.hw p 0) w
    modPort p (fun q => { q with
      state := .init
      exclude := none
      rxSpare := r.1.2
      rxMask := 2 ^ 17 - 1 - 2 ^ r.1.1
      initGot := false
      initSeen := false }) r.2

/-- The retry of a failed training begins (R273). -/
def retryTraining (p : Nat) (w : Work) : Work :=
  let port := portOf w.hw p
  match port.retryAt with
  | none => w
  | some t =>
    if port.state = .down ∧ due w.hw t then
      let w1 := advance w t
      modPort p (fun q => { q with state := afterDown w1.hw p, retryAt := none }) w1
    else w

/-- The corrected-symbol ratio of a lane over 1 s (R273). -/
def reviewLane (p lane corrected symbols : Nat) (w : Work) : Work :=
  let port := portOf w.hw p
  if port.state ≠ .active ∨ !bit port.rxMask lane then w
  else
    let w1 := bump 3 (24 + 17 * p + lane) corrected w
    if corrected * 10000 ≤ symbols then w1
    else if port.rxSpare = 31 then dropLink p 4 (modPort p (fun q => { q with exclude := some lane }) w1)
    else raise 17 6 p 0 0 (modPort p (fun q => { q with laneWear := true }) w1)

/-! ## Discovery (R274, R275) -/

/-- The payload of the module's `LINK_INIT` (R274). -/
def linkInitPayload (hw : Hw) (p : Nat) : List Byte :=
  let port := portOf hw p
  let base := match hw.links.base with | some (rack, seat) => rack * 64 + seat | none => 0
  leBytes 1 0 ++ leBytes 1 (p / 2) ++ leBytes 1 (p % 2) ++ leBytes 1 (b2n port.initGot) ++ leBytes 4 (hw.keep.serial % 2 ^ 32)
    ++ leBytes 2 p ++ leBytes 2 base ++ leBytes 2 1 ++ zeros 2 ++ receiveBuffers.flatMap (leBytes 2) ++ zeros 2
    ++ leBytes 4 port.rxMask ++ zeros 204

/-- The module sends its `LINK_INIT` (R274). -/
def sendInit (p : Nat) (w : Work) : Work :=
  if (portOf w.hw p).state = .init then emitCtrl p 1 0 (endpointOf w.hw 0) (linkInitPayload w.hw p) w else w

/-- A received `LINK_INIT` does not suit the port (R275). -/
def initMismatch (hw : Hw) (p : Nat) (b : List Byte) : Bool :=
  field b 0 1 != 1 || field b 1 1 != p / 2 || field b 2 1 != p % 2 || field b 12 2 != 1 || field b 28 2 != 0
    || (match hw.links.base with
        | some (rack, seat) => field b 10 2 != rack * 64 + seat
        | none => false)

/-- The link enters `ACTIVE` (R268, R275, R287, R396). -/
def enterActive (p base : Nat) (w : Work) : Work :=
  let others := (List.range 6).any (fun q => q != p && (portOf w.hw q).state == .active)
  let now := w.hw.time.now
  let full := (portOf w.hw p).fullTraining
  let w1 := modPort p (fun q => { q with
    state := .active
    activeAt := now
    queues := []
    fullTraining := false
    holdUntil := if others then some (now + 10000) else q.holdUntil }) (sendInit p w)
  let w2 := w1.up fun h => { h with links := { h.links with base := some (h.links.base.getD (base / 64, base % 64)) } }
  let w3 := modKeep (fun k => { k with wasActive := if k.wasActive.contains p then k.wasActive else k.wasActive ++ [p] })
    (if full then fullTrained (64 + p) w2 else w2)
  let w4 := publishUnit (17 + p) 1 0 w3
  let joins := w4.hw.coll.groups.filter (fun g => bit g.mask p && isRemote w4.hw g)
  recheckItem p (forEach joins (fun g w => sendJoin g p w) w4)

/-- The lane that a mask of 16 lanes leaves out; 31 for any other mask (R255, R279). -/
def maskSpare (mask : Nat) : Nat := if laneCount mask = 16 then ((List.range 17).find? (fun i => !bit mask i)).getD 31 else 31

/-- A `LINK_INIT` arrives in `INIT` (R275, R279). -/
def takeInit (p : Nat) (b : List Byte) (w : Work) : Work :=
  if (portOf w.hw p).state ≠ .init then w
  else if initMismatch w.hw p b then linkDown p 7 (afterDown w.hw p) w
  else
    let seen := field b 3 1 % 2 = 1
    let w1 := modPort p (fun q => { q with
      initGot := true
      initSeen := decide seen
      peerNode := field b 4 4
      peerPort := field b 8 2
      peerPlane := field b 1 1 % 4
      peerIndex := field b 2 1 % 2
      peerRole := field b 0 1 % 2
      txMask := field b 32 4 % 2 ^ 17
      txSpare := maskSpare (field b 32 4 % 2 ^ 17)
      creditInit := (List.range 7).foldl (fun t i => tabSet 0 t (i + 1) (field b (16 + 2 * i) 2)) [] }) w
    if seen then enterActive p (field b 10 2) w1 else w1

/-! ## Time exchanges (R276, R277) -/

/-- A `TIME` payload (R276). -/
def timePayload (id kind t1 t2 t3 req rsp : Nat) : List Byte :=
  leBytes 4 id ++ leBytes 1 kind ++ zeros 3 ++ leBytes 8 t1 ++ leBytes 8 t2 ++ leBytes 8 t3 ++ leBytes 4 req ++ leBytes 4 rsp

/-- The acknowledgement that a VC0 flit carries (R259). -/
def takeAckOf (rx : Rx) (w : Work) : Work :=
  if rx.ackValid && (portOf w.hw rx.port.val).state == .active then acknowledge rx.port.val rx.ack.toNat w else w

/-- A `TIME` flit waits for its slot of VC0 (R262, R276). -/
def queueTime (p dest src : Nat) (payload : List Byte) (w : Work) : Work :=
  modPort p (fun q => { q with ctrlQ := q.ctrlQ ++ [{ type := 2, dest := dest, src := src, payload := payload }] }) w

/-- A time request leaves a port, in turn with the plane's other link (R277). The reference's endpoint is not stated: its low 18 bits are
a free value. -/
def sendTimeRequest (p : Nat) (w : Work) : Work :=
  let both := (portOf w.hw (p + 1 - 2 * (p % 2))).state == .active
  let links := w.hw.links
  if (portOf w.hw p).state ≠ .active ∨ w.hw.time.rackRef ∨ (both ∧ tabGet 0 links.lastLink (p / 2) = p % 2 + 1) then w
  else
    let now := w.hw.time.now
    let id := links.exchangeNext
    let w1 := w.up fun h => { h with links := { h.links with
      exchangeNext := (id + 1) % 2 ^ 32
      lastLink := tabSet 0 h.links.lastLink (p / 2) (p % 2 + 1)
      exchanges := h.links.exchanges.filter (fun e => now ≤ e.2.2 + 100000) ++ [(id, p, now)] } }
    queueTime p (freeOf w % 2 ^ 18) (endpointOf w.hw 0) (timePayload id 0 now 0 0 0 0) (freeUsed w1)

/-- A time request arrives: the rack reference answers on the same port (R277). -/
def answerTime (rx : Rx) (b : List Byte) (w : Work) : Work :=
  let p := rx.port.val
  if (portOf w.hw p).state ≠ .active ∨ !w.hw.time.rackRef ∨ field b 4 1 ≠ 0 then takeAckOf rx w
  else
    let now := w.hw.time.now
    queueTime p rx.src.toNat (endpointOf w.hw 0) (timePayload (field b 0 4) 1 (field b 8 8) now now (field b 32 4) 0) (takeAckOf rx w)

/-- The offset of R277 in ns, rounded down, from T1 to T4 and the residences in 1/16 ns. -/
def exchangeOffset (t1 t2 t3 t4 req rsp : Nat) : Int :=
  (((t2 : Int) - t1) * 16 - req - (((t4 : Int) - t3) * 16 - rsp)) / 32

/-- A time response arrives (R277). -/
def takeTimeResponse (rx : Rx) (b : List Byte) (w : Work) : Work :=
  let w1 := takeAckOf rx w
  let id := field b 0 4
  let now := w.hw.time.now
  match w1.hw.links.exchanges.find? (fun e => e.1 == id && e.2.1 == rx.port.val) with
  | none => w1
  | some (_, _, t1) =>
    let w2 := w1.up fun h => { h with links := { h.links with exchanges := h.links.exchanges.filter (fun e => e.1 != id) } }
    if field b 4 1 ≠ 1 ∨ t1 + 100000 < now then w2
    else takeOffset .plane (exchangeOffset t1 (field b 16 8) (field b 24 8) now (field b 32 4) (field b 36 4)) (gainSource .plane w2)

/-! ## Messages (R266, R267, R270) -/

/-- The first flit of a `SEND`: its receive is chosen, or it is refused (R92 to R96, R267). -/
def beginSend (p : Nat) (rx : Rx) (b : List Byte) (w : Work) : Work :=
  let core := coreOfWord rx.dest.toNat
  let bytes := field b 0 4
  let tag := field b 4 1
  let frameTag := field b 5 1
  let ack := field b 6 1 % 2 = 1
  let (w1, armed) := admitSend core rx.src.toNat tag frameTag bytes (tallyArrived 0 w)
  let part : Partial := {
    vc := 4
    src := rx.src.toNat
    core := core
    buffer := armed.map (fun a => (a.addr, a))
    bytes := bytes
    got := 0
    frameTag := frameTag
    ack := decide ack
    seq := field b 12 4
    tag := tag
    early := arrivesEarly w.hw core frameTag }
  let w2 := modPort p (fun q => { q with parts := q.parts.filter (fun x => !(x.vc == 4 && x.src == part.src)) ++ [part] }) w1
  if ack ∧ armed.isNone then sendAnswer core rx.src.toNat part.seq false w2 else w2

/-- Data of a message goes into its buffer; the last flit ends it (R94, R95, R267). -/
def takeSendData (p : Nat) (src : Nat) (data : List Byte) (last : Bool) (w : Work) : Work :=
  match (portOf w.hw p).parts.find? (fun x => x.vc == 4 && x.src == src) with
  | none => w
  | some part =>
    let bytes := data.take (part.bytes - part.got)
    let others (x : Partial) : Bool := !(x.vc == 4 && x.src == src)
    let next : Partial := { part with got := part.got + bytes.length }
    let w1 := modPort p (fun q => { q with
      parts := if last then q.parts.filter others else q.parts.map (fun x => if others x then x else next) }) w
    match part.buffer with
    | none => w1
    | some (addr, a) =>
      let w2 := w1.write (stagingKey (spireOf part.core) (addr + part.got)) bytes
      if !last then w2
      else
        let w3 := finishSend part.core src part.frameTag part.early a w2
        if part.ack then sendAnswer part.core src part.seq true w3 else w3

/-- A `MSG_SEND` flit arrives (R258, R266, R267). -/
def takeMsgSend (rx : Rx) (b : List Byte) (w : Work) : Work :=
  let p := rx.port.val
  acceptFlit rx 4 (fun w =>
    if rx.first then takeSendData p rx.src.toNat (b.drop 16) rx.last (beginSend p rx b w)
    else takeSendData p rx.src.toNat b rx.last w) w

/-- A `MSG_SIGNAL` flit arrives (R266). -/
def takeMsgSignal (rx : Rx) (b : List Byte) (w : Work) : Work :=
  acceptFlit rx 4 (fun w =>
    arriveSignal (coreOfWord rx.dest.toNat) rx.src.toNat (field b 4 1 % 32) (field b 5 1) (field b 8 2) (tallyArrived 0 w)) w

/-- A `MSG_ANSWER` flit arrives (R95, R266). -/
def takeMsgAnswer (rx : Rx) (b : List Byte) (w : Work) : Work :=
  acceptFlit rx 4 (fun w => arriveAnswer (coreOfWord rx.dest.toNat) (field b 12 4) (bit (field b 6 1) 1) (tallyArrived 0 w)) w

/-- Some flit of a message still waits for a slot. -/
def stillQueued (hw : Hw) (core id : Nat) : Bool :=
  hw.links.ports.any (fun e => (queueOf e.2 4 ++ e.2.heldQ).any (fun f => f.owner == some (core, id)))

/-- A `SEND` with `ACK` whose flits left the module has had no answer for 100 us (R270); one to a core of this module leaves nothing. -/
def ackTimeout (core seq : Nat) (w : Work) : Work :=
  match (coreOf w.hw core).msgs.find? (fun m => m.kind == .send && m.ack && m.left && m.seq == seq) with
  | none => w
  | some op =>
    if isOwnEndpoint w.hw op.endpoint || stillQueued w.hw core op.id || !due w.hw (op.leftAt + 100000) then w
    else completeMsg core op.id true (advance w (op.leftAt + 100000))

/-! ## The package fabric (R282, R467) -/

/-- Change transfer i of the fabric. -/
def modFabric (f : List FabricMsg → List FabricMsg) (w : Work) : Work :=
  w.up fun h => { h with links := { h.links with fabric := f h.links.fabric } }

/-- A fabric message is delivered at its core. -/
def deliverFabric (m : FabricMsg) (w : Work) : Work :=
  let src := endpointOf w.hw (spireOf m.srcCore) + m.srcCore % 64 * 2 ^ 18
  if m.type = 4 then arriveSignal m.destCore src m.tag m.frameTag m.count w
  else if m.type = 5 then arriveAnswer m.destCore m.msgSeq m.accepted w
  else
    let (w1, armed) := admitSend m.destCore src m.tag m.frameTag m.bytes w
    match armed with
    | none => if m.ack then sendAnswer m.destCore src m.msgSeq false w1 else w1
    | some a =>
      let w2 := finishSend m.destCore src m.frameTag (arrivesEarly w.hw m.destCore m.frameTag) a (w1.write (stagingKey (spireOf m.destCore) a.addr) m.data)
      if m.ack then sendAnswer m.destCore src m.msgSeq true w2 else w2

/-- A copy of transfer i arrives: the first delivers the oldest of its pair, a later one is a duplicate; its acknowledgement ends the
transfer unless its route was cut (R282). -/
def fabricArrives (i : Nat) (w : Work) : Work :=
  match w.hw.links.fabric[i]? with
  | none => w
  | some m =>
    match m.copies with
    | [] => w
    | c :: rest =>
      if !c.gone || (!m.delivered && heldByPair w.hw i m) then w
      else
        let acked := m.acked || !c.severed
        let left := if acked then rest.filter (fun x => x.gone) else rest
        let keep (l : List FabricMsg) : List FabricMsg :=
          if acked && left.isEmpty then l.eraseIdx i else l.set i { m with delivered := true, acked := acked, copies := left }
        let w1 := freeCopy m c (modFabric keep w)
        if m.delivered then tallyDuplicate 0 w1 else deliverFabric m w1

/-- Transfer i has been unacknowledged for 5 us because a through-router on its route lost power or was reset (R282, R496): it is sent
again by the route R21 then gives, or ends after 8 resends as an uncorrectable read of the unit that issued it (R467). The address of
the read is not stated. -/
def fabricResends (i : Nat) (w : Work) : Work :=
  match w.hw.links.fabric[i]? with
  | none => w
  | some m =>
    let s := spireOf m.srcCore
    let cut := m.copies.all (fun c => c.severed) && !m.acked
    if !cut || !due w.hw (m.sentAt + 5000) then w
    else
      let w1 := advance w (m.sentAt + 5000)
      if m.resends < 8 then bump 8 (196 + s) 1 (resendFabric i m w1)
      else
        let w2 := raise 14 2 s 0 0 (when (!m.delivered) (tallyDropped 0) (modFabric (fun l => l.eraseIdx i) w1))
        coreFaultAt m.srcCore uncorrectableRead 4 m.bundle (freeOf w2 % 2 ^ 64) true (freeUsed w2)

/-! ## Collective, audit and trace flits -/

/-- A collective flit arrives (R296). -/
def takeCollFlit (vc : Nat) (reduce : Bool) (rx : Rx) (b : List Byte) (w : Work) : Work :=
  acceptFlit rx vc (takeColl { reduce := reduce, dest := rx.dest.toNat, rack := none, frame := 0, payload := b }) w

/-- A switch's `AUDIT` record against the window bytes latched at the tick (R560, R561, R568). -/
def takeAudit (p : Nat) (r : List Byte) (w : Work) : Work :=
  match findGroup w.hw (field r 4 4) with
  | none => w
  | some g =>
    let key := 8 * g.slot + p
    match w.hw.conserve.latched.find? (fun e => e.1 == key) with
    | none => w
    | some (_, own) =>
      let theirs := field r 12 4
      let w1 := modConserve (fun c => { c with latched := c.latched.filter (fun e => e.1 != key) }) w
      if own = 0 ∧ theirs ≠ 0 then
        let n := tabGet 0 w.hw.conserve.leaks key + 1
        let w2 := modConserve (fun c => { c with leaks := tabSet 0 c.leaks key n }) w1
        if 3 ≤ n then auditFails 3 2 6 p g.slot theirs w2 else w2
      else
        auditCheck 3 1 6 p g.slot (own != theirs) ((theirs : Int) - own)
          (auditPasses 3 2 p g.slot (modConserve (fun c => { c with leaks := tabSet 0 c.leaks key 0 }) w1))

/-- A window record from a switch, by its kind (R297). -/
def takeWindowRecord (p kind : Nat) (r : List Byte) : Work → Work :=
  match kind with
  | 1 => takeAdvertise p r
  | 5 => takeGrant p r
  | 7 => takeAbort false r
  | 8 => takeAbsent false r
  | 9 => takeFloor false r
  | 10 => takeAudit p r
  | _ => id

/-- A `WINDOW_CTRL` flit arrives whose first record is of a kind: its records in order, up to the record of kind 0 (R297). -/
def takeRecordFlit (rx : Rx) (kind : Nat) (payload : List Byte) (w : Work) : Work :=
  let p := rx.port.val
  let rest := (chunksOf 16 14 (payload.drop 16)).takeWhile (fun r => field r 0 1 != 0)
  acceptFlit rx 2 (fun w => forEach rest (fun r w => takeWindowRecord p (field r 0 1) r w) (takeWindowRecord p kind (payload.take 16) w)) w

/-- The records of a `TRACE` flit, at a sink (R550). -/
def takeTrace (b : List Byte) (w : Work) : Work :=
  if !w.hw.burin.sink then bump 13 7 1 w
  else
    let records := chunksOf 32 (field b 4 1) (slice b 16 (32 * field b 4 1))
    forEach records (ringWrite 4) (drainTrace (traceModule 0x15 0xFFFF (leBytes 4 (field b 0 4 % 2 ^ 18) ++ zeros 4 ++ slice b 8 8) w))

/-! ## Flits that are discarded (R257 to R259) -/

/-- A flit with a failing CRC (R257, R259). The codewords of its slot that the code could not correct are counted; the event does not say
how many they are: a free value (R280; log 36). -/
def crcFailed (p : Nat) (w : Work) : Work :=
  let counted := freeUsed (bump 3 (126 + p) (freeOf w) (bump 3 (12 + p) 1 w))
  match (portOf w.hw p).state with
  | .active => sendNak p counted
  | .init => counted
  | _ => w

/-- The header of a flit is one that R258 discards. -/
def isBadFlit (reserved : Bool) (vc type : Nat) : Bool := reserved || vc == 7 || vcOfType type != some vc

/-- A flit that passes its CRC and is discarded for its header; its `SEQ` and `ACK_SEQ` count (R258, R259). -/
def takeBadFlit (rx : Rx) (reserved : Bool) (vc type : Nat) (w : Work) : Work :=
  let p := rx.port.val
  let port := portOf w.hw p
  if !isBadFlit reserved vc type || !(port.state == .active || port.state == .init) then w
  else
    let w1 := bump 3 (132 + p) 1 w
    if port.state ≠ .active then w1
    else
      let w2 := takeAckOf rx w1
      if vc = 0 then w2
      else if rx.seq.toNat ≠ port.expected then sendNak p w2
      else freeBuffer p vc (modPort p (fun q => { q with
        expected := (q.expected + 1) % 4096
        nakSent := false
        received := tabBump q.received vc 1
        stored := tabBump q.stored vc 1 }) w2)

end Sys2Proof.Machine
end

