-- ==== Sys2Proof/Machine/RdmaOps.lean ====
section
/-! DEFINITION. Machine/RdmaOps.lean: the Ethernet ports, the RoCEv2 engine as responder and requester, PTP, and the management port (R314 to R337, R345, R346). -/
namespace Sys2Proof.Machine

/-! ## Responder (R318 to R323, R332, R333) -/

/-- The code of a NAK kind in the record of outputs. -/
def nakCode : NakKind → Nat
  | .sequence => 0
  | .rnr => 1
  | .invalidRequest => 2
  | .remoteAccess => 3
  | .remoteOperational => 4

/-- A RoCEv2 packet of a queue pair other than a request leaves, or waits while the queue pair's priority is paused (R326). -/
def sendRoce (q : Qp) (op psn address : Nat) (data : List Byte) (w : Work) : Work :=
  if isPaused w.hw (q.code - 8) q.priority then modQp q.index (fun x => { x with waiting := x.waiting ++ [(op, psn, address, data)] }) w
  else sendReply q op psn address data w

/-- A NAK is answered (R318, R319, R323). -/
def sendRdmaNak (q : Qp) (psn : Nat) (kind : NakKind) (w : Work) : Work := sendRoce q 4 psn (nakCode kind) [] w

/-- A request is refused under R318 or R319. -/
def refuseRdma (q : Qp) (psn : Nat) (kind : NakKind) (w : Work) : Work := bump 5 24 1 (sendRdmaNak q psn kind w)

/-- A range lies within another. -/
def within (a n base len : Nat) : Bool := base ≤ a && a + n ≤ base + len

/-- A write of n bytes at a reaches a registered region under its access (R319, R322, R332). -/
def regionTakesWrite (r : Region) (a n : Nat) : Bool :=
  match r.type with
  | 1 => within a n r.base r.length
  | 2 => within a n (r.base + 0x800) (32 * r.slots) || within a n (r.base + 0x1000) (r.slots * r.slotBytes)
  | _ => false

/-- A read of n bytes at a reaches a registered region under its access. -/
def regionTakesRead (r : Region) (a n : Nat) : Bool := r.type < 3 && within a n r.base r.length

/-- A range of the channel areas of the queue pair's channel, named by the channel key (R319, R339, R350). -/
def channelTakes (hw : Hw) (q : Qp) (rkey a n : Nat) : Bool :=
  let c := tabGet {} hw.host.channels q.channel
  c.opened && c.key == rkey && (within a n (requestAddr q.channel 0) 0x80000 || within a n (loadArea q.channel) 0x10000000)

/-- The region that an R_Key names. -/
def regionOfKey (hw : Hw) (rkey : Nat) : Option Region := hw.host.regions.find? (fun r => r.rkey == rkey)

/-- The bytes of a range lie in a stack that is in reset (R498). -/
def rangeInReset (hw : Hw) (a : Nat) : Bool := a < tier2Base && stackInReset hw (a / 2 ^ 36)

/-- What a responder does with a request: a packet marked ECN CE is answered with a CNP, at most one in an interval (R325). -/
def notifyCongestion (i : Nat) (ce : Bool) (w : Work) : Work :=
  match findQp w.hw i with
  | none => w
  | some q =>
    let now := w.hw.time.now
    let free := match q.cnpSentAt with | none => true | some t => decide (t + w.hw.host.cong.cnp * 1000 ≤ now)
    if !ce || !free then w
    else bump 5 (25 + (q.code - 8)) 1 (sendRoce q 5 0 0 [] (modQp i (fun q => { q with cnpSentAt := some now }) w))

/-- Priorities with PFC on a port or half (R355). -/
def pfcOf (hw : Hw) (h : Nat) : Nat := if h % 2 = 0 then (ethPortOf hw (h / 2)).pfc0 else (ethPortOf hw (h / 2)).pfc1

/-- The payload of a PFC frame for one priority k: the priority and whether its sending stops (XOFF) or resumes (XON). -/
def pfcPayload (k : Nat) (stop : Bool) : List Byte := leBytes 1 (2 ^ k) ++ leBytes 2 (if stop then 0xFFFF else 0)

/-- XOFF leaves for a priority whose receive buffer holds more than 192 KiB, XON once it is below 96 KiB (R326). -/
def judgeFill (h k fill : Nat) (w : Work) : Work :=
  let off := bit (halfOf w.hw h).xoff k
  let stop := !off && decide (192 * 1024 < fill)
  let go := off && decide (fill < 96 * 1024)
  let w1 := modHalf h (fun x => { x with rxFill := tabSet 0 x.rxFill k fill, xoff := setBit x.xoff k ((off || stop) && !go) }) w
  if stop || go then bump 5 h 1 (emit (.ether h 3 none (pfcPayload k stop)) w1) else w1

/-- What the receive buffer of a priority with PFC holds after an arrival or at a tick. It depends on how fast the module places
the data: a free value (log 72). -/
def noteFill (h k : Nat) (w : Work) : Work :=
  if bit (pfcOf w.hw h) k then judgeFill h k (freeOf w) (freeUsed w) else w

/-- At a tick the buffers that held something, or for which the far end was stopped, are judged again (R326). -/
def fillTick (w : Work) : Work :=
  forEach (List.range 8) (fun h w =>
    forEach ((List.range 8).filter (fun k => 0 < tabGet 0 (halfOf w.hw h).rxFill k || bit (halfOf w.hw h).xoff k)) (noteFill h) w) w

/-- Frames of a queue pair arrive: they are counted on its port, whatever the queue pair's state (R317, R365). -/
def countReceived (q : Qp) (frames bytes : Nat) (w : Work) : Work :=
  noteFill (q.code - 8) q.priority (bump 5 (8 + (q.code - 8)) frames
    (modHalf (q.code - 8) (fun x => { x with bytesIn := x.bytesIn + bytes }) w))

/-- A request of a number of frames and bytes, which takes n PSNs, in its turn on a `READY` queue pair: one behind the expected PSN is
a repeat and is acknowledged again, one ahead of it is answered with a sequence NAK (log 24). -/
def inTurn (i psn n frames bytes : Nat) (ce : Bool) (act : Qp → Work → Work) (w : Work) : Work :=
  match findQp w.hw i with
  | none => w
  | some q =>
    if !cupolaLive w.hw then w
    else if q.state ≠ 1 then countReceived q frames bytes w
    else
      let w1 := notifyCongestion i ce (countReceived q frames bytes w)
      let d := (psn + 2 ^ 24 - q.rqPsn % 2 ^ 24) % 2 ^ 24
      if d = 0 then act q w1
      else if 2 ^ 23 ≤ d then sendRoce q 3 ((psn + n - 1) % 2 ^ 24) 0 [] w1
      else sendRdmaNak q q.rqPsn .sequence w1

/-- A request is complete: its PSNs are taken and it is acknowledged (R320). -/
def ackRequest (q : Qp) (psn n : Nat) (w : Work) : Work :=
  sendRoce q 3 ((psn + n - 1) % 2 ^ 24) 0 [] (modQp q.index (fun x => { x with rqPsn := (psn + n) % 2 ^ 24 }) w)

/-- A write that covers exactly bytes 0x00 to 0x0F of a seal record is stamped and posted to Turret (R333). -/
def postSeal (r : Region) (a n : Nat) (w : Work) : Work :=
  let o := a - (r.base + 0x800)
  if r.type = 2 ∧ n = 16 ∧ r.base + 0x800 ≤ a ∧ o % 32 = 0 ∧ o / 32 < r.slots then
    let now := w.hw.time.now
    (w.writeNum (a + 16) 8 now).up fun h => { h with host := { h.host with
      seals := h.host.seals ++ [{ region := r.index, record := o / 32, time := now }] } }
  else w

/-- Path MTU of a queue pair. -/
def mtuOf (hw : Hw) (i : Nat) : Nat := ((findQp hw i).map (fun q => q.mtu)).getD 0

/-- An inbound RDMA WRITE (R319, R320, R333). -/
def takeWrite (i psn rkey a : Nat) (data : List Byte) (ce : Bool) (w : Work) : Work :=
  let n := packetsOf (mtuOf w.hw i) data.length
  inTurn i psn n n (wireBytes n data.length) ce (fun q w =>
    match regionOfKey w.hw rkey with
    | some r =>
      if !regionTakesWrite r a data.length then refuseRdma q psn .remoteAccess w
      else if rangeInReset w.hw a then sendRdmaNak q psn .remoteOperational w
      else ackRequest q psn n (postSeal r a data.length (w.write a data))
    | none =>
      if channelTakes w.hw q rkey a data.length then ackRequest q psn n (w.write a data)
      else refuseRdma q psn .remoteAccess w) w

/-- A request that R318 does not support: RDMA WRITE with immediate, an atomic, a memory window. It is declined with a NAK of the kind
invalid request and counted (R11, R318). -/
def takeUnsupported (i psn : Nat) (data : List Byte) (ce : Bool) (w : Work) : Work :=
  let n := packetsOf (mtuOf w.hw i) data.length
  inTurn i psn n n (wireBytes n data.length) ce (fun q w => refuseRdma q psn .invalidRequest w) w

/-- An inbound RDMA READ: one frame, whose answer takes the PSNs (R319, R467). -/
def takeRead (i psn rkey a len : Nat) (ce : Bool) (w : Work) : Work :=
  inTurn i psn (packetsOf (mtuOf w.hw i) len) 1 (wireBytes 1 0) ce (fun q w =>
    let ok := match regionOfKey w.hw rkey with
      | some r => regionTakesRead r a len
      | none => channelTakes w.hw q rkey a len
    if !ok then refuseRdma q psn .remoteAccess w
    else if rangeInReset w.hw a then sendRdmaNak q psn .remoteOperational w
    else if !w.good a len then sendRdmaNak q psn .remoteOperational (uncorrectableAt (w.firstBad a len) w)
    else
      let n := packetsOf q.mtu len
      sendRoce q 6 psn a (w.read a len) (modQp i (fun x => { x with rqPsn := (psn + n) % 2 ^ 24 }) w)) w

/-- An inbound SEND into a receive ring (R323). -/
def takeRingSend (q : Qp) (r : Region) (psn n : Nat) (data : List Byte) (imm : Option Nat) (w : Work) : Work :=
  let entry := r.base + r.nextEntry * r.slotBytes
  let trailer := entry + r.slotBytes - 16
  if r.slotBytes - 16 < data.length then sendRdmaNak q psn .invalidRequest w
  else if bit (w.num (trailer + 8) 1) 0 then sendRdmaNak q psn .rnr w
  else
    let w1 := (w.write entry data).write trailer
      (leBytes 4 data.length ++ leBytes 4 (imm.getD 0) ++ leBytes 1 (1 + 2 * b2n imm.isSome) ++ zeros 7)
    ackRequest q psn n (modRegion r.index (fun x => { x with nextEntry := (x.nextEntry + 1) % max 1 x.slots }) w1)

/-- An inbound SEND: into the receive ring of its queue pair, or to the collective unit that owns it (R294, R323); a queue pair with
neither is not ready to receive (log 24). -/
def takeSend (i psn : Nat) (data : List Byte) (imm : Option Nat) (ce : Bool) (w : Work) : Work :=
  let n := packetsOf (mtuOf w.hw i) data.length
  inTurn i psn n n (wireBytes n data.length) ce (fun q w =>
    match w.hw.host.regions.find? (fun r => r.type == 3 && r.ringQp == i) with
    | some r => takeRingSend q r psn n data imm w
    | none => if isRackQp w.hw i then takeRack i (imm.getD 0) data (ackRequest q psn n w) else sendRdmaNak q psn .rnr w) w

/-! ## Requester (R321, R329) -/

/-- PSN b lies no later than PSN a. -/
def psnUpTo (a b : Nat) : Bool := (a + 2 ^ 24 - b % 2 ^ 24) % 2 ^ 24 < 2 ^ 23

/-- Last PSN of a request. -/
def WorkReq.lastPsn (r : WorkReq) : Nat := (r.psn + r.packets - 1) % 2 ^ 24

/-- Requests whose last PSN is acknowledged complete in order. -/
def ackUpTo (i psn : Nat) : Nat → Work → Work
  | 0, w => w
  | k + 1, w =>
    match findQp w.hw i with
    | none => w
    | some q => match q.outstanding with
      | [] => w
      | r :: rest =>
        if r.sent && psnUpTo psn r.lastPsn then
          ackUpTo i psn k (finishWork r (modQp i (fun x => { x with outstanding := rest }) w))
        else w

/-- The oldest request counts a retry. -/
def countRetry (rnr : Bool) : List WorkReq → List WorkReq
  | [] => []
  | r :: rest => (if rnr then { r with rnrs := r.rnrs + 1 } else { r with retries := r.retries + 1 }) :: rest

/-- The oldest request and those after it are sent again, once the priority is not paused (R321, R326). -/
def resendWork (i : Nat) (rnr : Bool) (w : Work) : Work :=
  pushQp i (modQp i (fun x => { x with
    outstanding := (countRetry rnr x.outstanding).map (fun r => if r.sent then { r with again := true } else r) }) w)

/-- The oldest request of a queue pair that waits for its acknowledgement. -/
def oldestWork (hw : Hw) (i : Nat) : Option (Qp × WorkReq) :=
  (findQp hw i).bind (fun q => (q.outstanding.head?).bind (fun r => if q.state = 1 ∧ r.sent then some (q, r) else none))

/-- An acknowledgement or a NAK of a queue pair (R321, R325, R329). -/
def takeAckRoce (i psn : Nat) (nak : Option NakKind) (ce : Bool) (w : Work) : Work :=
  match findQp w.hw i with
  | none => w
  | some q =>
    if !cupolaLive w.hw then w
    else if q.state ≠ 1 then countReceived q 1 (wireBytes 1 0) w
    else
      let w1 := notifyCongestion i ce (countReceived q 1 (wireBytes 1 0) w)
      match nak with
      | none => ackUpTo i psn q.outstanding.length w1
      | some kind =>
        let w2 := ackUpTo i ((psn + 2 ^ 24 - 1) % 2 ^ 24) q.outstanding.length w1
        match kind, oldestWork w2.hw i with
        | _, none => w2
        | .sequence, some (q, r) => if r.retries < q.retry then resendWork i false w2 else qpFailed i 1 w2
        | .rnr, some (q, r) => if r.rnrs < q.rnr then resendWork i true w2 else qpFailed i 1 w2
        | _, some _ => qpFailed i 2 w2

/-- Instant at which the ACK timeout of the oldest request expires: 4.096 us x 2^t (R321). -/
def ackDue (q : Qp) (r : WorkReq) : Nat := r.sentAt + 4096 * 2 ^ q.ackT

/-- An ACK timeout expires with retries left (R321). -/
def ackTimeoutQp (i : Nat) (w : Work) : Work :=
  match oldestWork w.hw i with
  | none => w
  | some (q, r) =>
    if due w.hw (ackDue q r) && r.retries < q.retry then resendWork i false (advance w (ackDue q r)) else w

/-- An ACK timeout expires with no retry left (R321). -/
def retriesExhausted (i : Nat) (w : Work) : Work :=
  match oldestWork w.hw i with
  | none => w
  | some (q, r) =>
    if due w.hw (ackDue q r) && q.retry ≤ r.retries then qpFailed i 1 (advance w (ackDue q r)) else w

/-! ## Congestion (R324); alpha is kept in units of 2^-32 and rates in bit/s, rounded down (log 25) -/

/-- A CNP arrives for a queue pair: it is counted, and lowers the rate of a queue pair in `READY`. -/
def takeCnp (i : Nat) (w : Work) : Work :=
  match findQp w.hw i with
  | none => w
  | some q =>
    if !cupolaLive w.hw then w
    else
      let c := w.hw.host.cong
      let now := w.hw.time.now
      let w1 := bump 5 (33 + (q.code - 8)) 1 (countReceived q 1 0 w)
      if q.state ≠ 1 then w1
      else modQp i (fun x => { x with
        target := x.rate
        rate := max (c.rMin * 1000000) (x.rate - x.rate * x.alpha / 2 ^ 33)
        alpha := x.alpha - x.alpha / 2 ^ c.gShift + 2 ^ 32 / 2 ^ c.gShift
        stage := 0
        cnpAt := now }) w1

/-- T_ALPHA passes without a CNP. -/
def alphaStep (i : Nat) (w : Work) : Work :=
  match findQp w.hw i with
  | none => w
  | some q =>
    let c := w.hw.host.cong
    let instant := max q.cnpAt q.alphaAt + c.tAlpha * 1000
    if q.state ≠ 1 ∨ !due w.hw instant then w
    else
      let w1 := advance w instant
      modQp i (fun x => { x with alpha := x.alpha - x.alpha / 2 ^ c.gShift, alphaAt := w1.hw.time.now }) w1

/-- T_INC passes without a CNP. -/
def increaseStep (i : Nat) (w : Work) : Work :=
  match findQp w.hw i with
  | none => w
  | some q =>
    let c := w.hw.host.cong
    let instant := max q.cnpAt q.incAt + c.tInc * 1000
    if q.state ≠ 1 ∨ !due w.hw instant then w
    else
      let w1 := advance w instant
      let target := if 5 < q.stage + 1 then min (lineRate w.hw (q.code - 8)) (q.target + c.rAi * 1000000) else q.target
      modQp i (fun x => { x with
        stage := x.stage + 1
        target := target
        rate := (x.rate + target) / 2
        incAt := w1.hw.time.now }) w1

/-! ## Flow control, LLDP, address resolution (R316, R326) -/

/-- A frame reaches a port or half that has link. -/
def onHalf (h : Nat) (act : Work → Work) (w : Work) : Work :=
  if halfExists w.hw h && (halfOf w.hw h).link == 1 && cupolaLive w.hw then act (bump 5 (8 + h) 1 w) else w

/-- A PFC frame: each enabled priority is paused for its quanta of 512 bit times, none of which resumes it (R326). -/
def takePfc (h enables : Nat) (quanta : List Nat) (w : Work) : Work :=
  onHalf h (fun w =>
    let now := w.hw.time.now
    forEach (List.range 8) (fun k w =>
      if bit enables k && bit (pfcOf w.hw h) k then
        let ns := (quanta[k]?).getD 0 * 512 * 1000000000 / lineRate w.hw h
        modHalf h (fun x => { x with pausedUntil := tabSet 0 x.pausedUntil k (now + ns) }) w
      else w) w) w

/-- An LLDP frame arrives (R396). -/
def takeLldp (h : Nat) (chassis port : List Byte) (w : Work) : Work :=
  onHalf h (fun w =>
    let changed := (halfOf w.hw h).lldp != some (chassis, port)
    let w1 := modHalf h (fun x => { x with lldp := some (chassis, port) }) w
    if changed then recheckItem (8 + h) w1 else w1) w

/-- The module's own LLDP leaves every 30 s; its chassis ID is the serial number (R316). -/
def sendLldp (h : Nat) (w : Work) : Work :=
  let x := halfOf w.hw h
  let instant := match x.lldpAt with | some t => t + 30000000000 | none => w.hw.time.now
  if !halfExists w.hw h || x.link != 1 || !cupolaLive w.hw || !due w.hw instant then w
  else
    let w1 := advance w instant
    sendEther h 1 (leBytes 8 w1.hw.keep.serial) (modHalf h (fun x => { x with lldpAt := some w1.hw.time.now }) w1)

/-- An ARP request or a neighbour solicitation: answered for the port's own address, else discarded (R316). -/
def takeArp (h : Nat) (ipv6 : Bool) (address : Nat) (w : Work) : Work :=
  onHalf h (fun w =>
    let x := halfOf w.hw h
    let own := if ipv6 then x.ipv6 else x.ipv4
    if address = own ∧ own ≠ 0 then
      sendEther h 2 (leBytes 16 address ++ leBytes 6 (Config.macAddress w.hw.keep.serial h)) w
    else bump 5 (16 + h) 1 w) w

/-- A frame that is discarded: counted in `ETH_DISCARDED`, a packet to QP1 in `MGMT_DISCARDED` (R316, R318). -/
def discardFrame (h : Nat) (bad : BadFrame) (w : Work) : Work :=
  onHalf h (match bad with
    | .unhandled => bump 5 (16 + h) 1
    | .qp1 => bump 5 4393 1) w

/-! ## PTP (R327) -/

/-- A PTP message is used on this port: its domain is the module's and PTP is accepted here. -/
def ptpAccepted (hw : Hw) (h domain : Nat) : Bool := domain == hw.host.ptpDomain && bit hw.host.ptpPorts h

/-- A message of the master in use, on its port. -/
def ofMaster (hw : Hw) (h domain sender : Nat) : Bool := ptpAccepted hw h domain && hw.host.ptpUsed == some (h, sender)

/-- The offset of the reference from the module, where the path delay is known. -/
def ptpOffset (hw : Hw) (h : Nat) : Option Int :=
  match (halfOf hw h).ptpSync, (halfOf hw h).ptpDelay with
  | some s, some d => some (d + tabGet 0 hw.host.ptpAsym h - s)
  | _, _ => none

/-- A PTP message arrives (R327). Each Sync of the master in use is followed by a Delay_Req of the module, and the offset is taken once
the path delay is known (log 73). A message of no supported kind is discarded and counted (R11). -/
def takePtp (h : Nat) (msg : PtpMsg) (w : Work) : Work :=
  onHalf h (fun w =>
    match msg with
    | .announce domain sender data =>
      if !ptpAccepted w.hw h domain.toNat then w
      else chooseMaster (modHalf h (fun x => { x with
        masters := x.masters.filter (fun e => e.1 != sender.toNat) ++ [(sender.toNat, data.toNat)] }) w)
    | .sync domain sender origin receipt correction =>
      if !ofMaster w.hw h domain.toNat sender.toNat then w
      else
        let d : Int := (receipt.toNat : Int) - origin.toNat - correction.toInt
        let w1 := sendEther h 4 (leBytes 8 w.hw.time.now) (modHalf h (fun x => { x with ptpSync := some d }) w)
        match ptpOffset w1.hw h with
        | some offset => takeOffset .ptp offset (gainSource .ptp w1)
        | none => w1
    | .delayResp domain sender request receipt correction =>
      if !ofMaster w.hw h domain.toNat sender.toNat then w
      else match (halfOf w.hw h).ptpSync with
        | none => w
        | some s =>
          let back : Int := (receipt.toNat : Int) - request.toNat - correction.toInt
          modHalf h (fun x => { x with ptpDelay := some ((s + back) / 2) }) w
    | .management => bump 5 4393 1 w
    | .signalling => bump 5 4393 1 w
    | .peerDelay => bump 5 4393 1 w) w

/-! ## Link of the Ethernet ports (R321, R396, R431, R433, R475) -/

/-- An Ethernet port or half loses link other than by command. -/
def ethDown (h : Nat) (w : Work) : Work :=
  if !halfExists w.hw h || (halfOf w.hw h).link != 1 then w
  else
    raise 18 7 h 0 0 (publishUnit (23 + h) 0 0 (linkGone h 0 (halfQpsFail h 3 w)))

/-- An Ethernet port or half gains link. -/
def ethUp (h : Nat) (w : Work) : Work :=
  if !halfExists w.hw h || (halfOf w.hw h).link == 1 || !w.hw.keep.linked || !cupolaLive w.hw then w
  else
    let now := w.hw.time.now
    let w1 := modHalf h (fun x => { x with link := 1, lldp := none }) w
    let w2 := modKeep (fun k => { k with linkSince := tabSet 0 k.linkSince h now }) (saveTraining (72 + h / 2) w1)
    publishUnit (23 + h) 1 0 w2

/-! ## The management port and its relay (R345, R346) -/

/-- The 16 B frame header (R345). -/
def mgmtHeader (mop channel xseq length target address : Nat) : List Byte :=
  leBytes 1 mop ++ leBytes 1 channel ++ leBytes 2 xseq ++ leBytes 2 length ++ leBytes 3 target ++ zeros 1 ++ leBytes 6 address

/-- The range lies within the areas of channel 16 or 17 (R339). -/
def inMgmtArea (channel a n : Nat) : Bool :=
  (channel == 16 || channel == 17) && (within a n (requestAddr channel 0) 0x80000 || within a n (loadArea channel) 0x10000000)

/-- The answer to a management frame: a refusal, a write acknowledgement after its placement, or read data (R345). On the
recovery path and in service mode only channel 17's slots and writes to channel 16's plan load area are served (R377, R380). -/
def mgmtAnswer (header : List Byte) (data : List Byte) (byRelay : Bool) (w : Work) : List Byte × Work :=
  let mop := field header 0 1
  let channel := field header 1 1
  let length := field header 4 2
  let a := field header 10 6
  let held := w.hw.keep.phase == 2 || w.hw.keep.phase == 9
  let served := !held || (if channel = 17 then within a length (requestAddr 17 0) 0x80000
    else mop == 1 && within a length (loadArea 16) 0x10000000)
  let ok := served && inMgmtArea channel a length && 16 ≤ length && length ≤ 1024 && length % 16 == 0 && !(byRelay && channel == 17)
  if ok && mop == 1 && data.length == length then (patch header 0 [2], w.write a data)
  else if ok && mop == 3 && w.good a length then (patch header 0 [4] ++ w.read a length, w)
  else (patch header 0 [5], w)

/-- A management frame of the port: handled here, or relayed to another module of the rack (R346). The port of a relayed flit is not
stated: it is a free value. -/
def takeMgmtFrame (header data : List Byte) (w : Work) : Work :=
  let target := field header 6 3
  let word := target % 2 ^ 18
  if !w.hw.keep.lpUp then w
  else if !bit target 18 || word == endpointOf w.hw 0 then
    let (answer, w1) := mgmtAnswer header data false w
    emit (.mgmt (field answer 0 1) answer) w1
  else if 224 < data.length || word / 256 != endpointOf w.hw 0 / 256 then bump 5 4393 1 w
  else
    let f : Flit := { vc := 1, type := 9, first := true, last := true, dest := word, src := endpointOf w.hw 0, payload := header ++ data,
                      owner := none }
    routeFlit (freeOf w % 6) f (freeUsed w)

/-- A management frame relayed over VC1: a request is answered by the same port, an answer leaves by the management port (R346). -/
def serveMgmtFlit (rx : Rx) (b : List Byte) (w : Work) : Work :=
  let mop := field b 0 1
  if mop == 2 || mop == 4 || mop == 5 then emit (.mgmt mop b) w
  else if !w.hw.keep.lpUp then w
  else
    let (answer, w1) := mgmtAnswer (slice b 0 16) (b.drop 16) true w
    if 240 < answer.length then bump 5 4393 1 w1
    else enqueue rx.port.val { vc := 1, type := 9, first := true, last := true, dest := rx.src.toNat, src := endpointOf w.hw 0,
                               payload := answer, owner := none } w1

/-- A `MGMT` flit arrives (R263, R346). -/
def takeMgmtFlit (rx : Rx) (b : List Byte) (w : Work) : Work := acceptLow rx 1 b (serveMgmtFlit rx b) w

/-- The flits of VC1 and VC6 that waited for the tick are served, oldest first, up to the limit of the new tick (R263). -/
def serveLow (p : Nat) : Nat → Work → Work
  | 0, w => w
  | n + 1, w =>
    let port := portOf w.hw p
    match port.lowHeld with
    | [] => w
    | (vc, rx, b) :: rest =>
      if lowLimit w.hw p 1 ≤ port.lowIn then w
      else
        let w1 := freeBuffer p vc (modPort p (fun q => { q with lowHeld := rest, lowIn := q.lowIn + 1 }) w)
        serveLow p n (if vc = 1 then serveMgmtFlit rx b w1 else takeTrace b w1)

/-- What every port held for the tick is served. -/
def serveLowAll (w : Work) : Work := forEach (List.range 6) (fun p w => serveLow p (portOf w.hw p).lowHeld.length w) w

/-- The management port gains or loses link (R431, R434). -/
def mgmtLink (up : Bool) (w : Work) : Work := if w.hw.power.aon then publishUnit 31 (b2n up) 0 w else w

end Sys2Proof.Machine
end

