-- ==== Sys2Proof/Machine/FrameCommands.lean ====
section
/-! DEFINITION. Machine/FrameCommands.lean: the tick, the deadline, the completion of a frame and the sources of the time base (R33, R43, R44, R53). -/
namespace Sys2Proof.Machine

/-- `FRAME_TICK` (R44): the next tick, with Lantern's samples of the closing one; then the flits that waited for it (R263), and the receive buffers (R326). -/
def execFrameTick (sample : TickSample) (s : State) : Host.Outcome State Fault Refusal := run s (fun w => fillTick (serveLowAll (tickAll sample w)))

/-- `FRAME_DEADLINE` (R40, R53): the deadline of the frame window, where it has not passed. -/
def execFrameDeadline (s : State) : Host.Outcome State Fault Refusal := run s frameDeadline

/-- A plan's frame completes, where every core has reached `END` and its RDMA WRITEs are acknowledged (R43). -/
def completePlan (plan : Nat) (w : Work) : Work :=
  match findPlan w.hw plan with
  | none => w
  | some p => match p.frame with
    | none => w
    | some f => if frameDone w.hw p f then completeFrame p f w else w

/-- `FRAME_COMPLETE` (R43). -/
def execFrameComplete (plan : W32) (s : State) : Host.Outcome State Fault Refusal := run s (completePlan plan.toNat)

/-- `TIME_SOURCE_LOST` (R33): source 1, 2 or 3 is lost. -/
def execTimeSourceLost (source : BitVec 3) (s : State) : Host.Outcome State Fault Refusal :=
  run s (match sourceOf source.toNat with
    | .ptp => losePtp
    | other => loseSource other)

/-- The holdover ends 60 s after it began (R33). -/
def expireHoldover (w : Work) : Work :=
  match w.hw.time.holdover with
  | none => w
  | some t =>
    if w.hw.time.source == .holdover && due w.hw (t + 60000000000) then
      modTime (fun x => { x with source := .freeRun, holdover := none }) (advance w (t + 60000000000))
    else w

/-- `HOLDOVER_EXPIRY` (R33). -/
def execHoldoverExpiry (s : State) : Host.Outcome State Fault Refusal := run s expireHoldover

end Sys2Proof.Machine
end

