-- ==== Sys2Proof/Machine/HostCommands.lean ====
section
/-! DEFINITION. Machine/HostCommands.lean: what arrives on the Ethernet ports and the management port, and the timers of the queue pairs (R314 to R346). -/
namespace Sys2Proof.Machine

/-! ## RoCEv2 -/

/-- `RDMA_WRITE` (R318, R319, R320, R333). -/
def execRdmaWrite (qp : BitVec 12) (psn : BitVec 24) (rkey : W32) (address : W64) (data : List Byte) (ce : Bool) (s : State) (form : WriteForm := .plain) : Host.Outcome State Fault Refusal :=
  run s (match form with
    | .plain => takeWrite qp.toNat psn.toNat rkey.toNat address.toNat data ce
    | .withImmediate => takeUnsupported qp.toNat psn.toNat data ce
    | .atomic => takeUnsupported qp.toNat psn.toNat data ce
    | .memoryWindow => takeUnsupported qp.toNat psn.toNat data ce)

/-- `RDMA_READ` (R319). -/
def execRdmaRead (qp : BitVec 12) (psn : BitVec 24) (rkey : W32) (address : W64) (length : W32) (ce : Bool) (s : State) : Host.Outcome State Fault Refusal :=
  run s (takeRead qp.toNat psn.toNat rkey.toNat address.toNat length.toNat ce)

/-- `RDMA_SEND` (R323). -/
def execRdmaSend (qp : BitVec 12) (psn : BitVec 24) (data : List Byte) (imm : Option W32) (ce : Bool) (s : State) : Host.Outcome State Fault Refusal :=
  run s (takeSend qp.toNat psn.toNat data (imm.map BitVec.toNat) ce)

/-- `SEAL` (R333): an RDMA WRITE of 16 B; it is a seal where it covers a seal record's first half exactly. -/
def execSeal (qp : BitVec 12) (psn : BitVec 24) (rkey : W32) (address : W64) (bytes : Vector Byte 16) (s : State) (ce : Bool := false) : Host.Outcome State Fault Refusal :=
  run s (takeWrite qp.toNat psn.toNat rkey.toNat address.toNat bytes.toList ce)

/-- `RDMA_ACK` (R321, R329). -/
def execRdmaAck (qp : BitVec 12) (psn : BitVec 24) (nak : Option NakKind) (s : State) (ce : Bool := false) : Host.Outcome State Fault Refusal :=
  run s (takeAckRoce qp.toNat psn.toNat nak ce)

/-- `QP_ACK_TIMEOUT` (R321). -/
def execQpAckTimeout (qp : BitVec 12) (s : State) : Host.Outcome State Fault Refusal := run s (ackTimeoutQp qp.toNat)

/-- `QP_RETRY_EXHAUSTED` (R321). -/
def execQpRetryExhausted (qp : BitVec 12) (s : State) : Host.Outcome State Fault Refusal := run s (retriesExhausted qp.toNat)

/-- `CNP` (R324). -/
def execCnp (qp : BitVec 12) (s : State) : Host.Outcome State Fault Refusal := run s (takeCnp qp.toNat)

/-- `T_ALPHA` (R324). -/
def execTAlpha (qp : BitVec 12) (s : State) : Host.Outcome State Fault Refusal := run s (alphaStep qp.toNat)

/-- `T_INC` (R324). -/
def execTInc (qp : BitVec 12) (s : State) : Host.Outcome State Fault Refusal := run s (increaseStep qp.toNat)

/-! ## Ethernet -/

/-- `PFC_PAUSE` (R326). -/
def execPfcPause (h : Fin 8) (enables : Byte) (quanta : Vector (BitVec 16) 8) (s : State) : Host.Outcome State Fault Refusal :=
  run s (takePfc h.val enables.toNat (quanta.toList.map BitVec.toNat))

/-- `PTP` (R327). -/
def execPtp (h : Fin 8) (msg : PtpMsg) (s : State) : Host.Outcome State Fault Refusal := run s (takePtp h.val msg)

/-- `LLDP` (R396). -/
def execLldp (h : Fin 8) (chassis : List Byte) (port : List Byte) (s : State) : Host.Outcome State Fault Refusal :=
  run s (takeLldp h.val chassis port)

/-- `LLDP_SEND` (R316). -/
def execLldpSend (h : Fin 8) (s : State) : Host.Outcome State Fault Refusal := run s (sendLldp h.val)

/-- `ARP_REQUEST` (R316). -/
def execArpRequest (h : Fin 8) (ipv6 : Bool) (address : W128) (s : State) : Host.Outcome State Fault Refusal :=
  run s (takeArp h.val ipv6 address.toNat)

/-- `ETH_FRAME_DISCARD` (R11, R316, R318). -/
def execEthFrameDiscard (h : Fin 8) (s : State) (bad : BadFrame := .unhandled) : Host.Outcome State Fault Refusal := run s (discardFrame h.val bad)

/-- `ETH_LINK_DOWN` (R321, R475). -/
def execEthLinkDown (h : Fin 8) (s : State) : Host.Outcome State Fault Refusal := run s (ethDown h.val)

/-- `ETH_LINK_UP` (R433). -/
def execEthLinkUp (h : Fin 8) (s : State) : Host.Outcome State Fault Refusal := run s (ethUp h.val)

/-! ## The management port -/

/-- `MGMT_WRITE` (R345, R346). -/
def execMgmtWrite (channel : Byte) (xseq : BitVec 16) (length : BitVec 16) (target : BitVec 24) (address : BitVec 48) (data : List Byte) (s : State) : Host.Outcome State Fault Refusal :=
  run s (takeMgmtFrame (mgmtHeader 1 channel.toNat xseq.toNat length.toNat target.toNat address.toNat) data)

/-- `MGMT_READ` (R345, R346). -/
def execMgmtRead (channel : Byte) (xseq : BitVec 16) (length : BitVec 16) (target : BitVec 24) (address : BitVec 48) (s : State) : Host.Outcome State Fault Refusal :=
  run s (takeMgmtFrame (mgmtHeader 3 channel.toNat xseq.toNat length.toNat target.toNat address.toNat) [])

/-- `MGMT` (R346). -/
def execMgmt (rx : Rx) (payload : List Byte) (s : State) : Host.Outcome State Fault Refusal := run s (takeMgmtFlit rx payload)

/-- `MGMT_PORT_DOWN` (R434). -/
def execMgmtPortDown (s : State) : Host.Outcome State Fault Refusal := run s (mgmtLink false)

/-- `MGMT_PORT_UP` (R431). -/
def execMgmtPortUp (s : State) : Host.Outcome State Fault Refusal := run s (mgmtLink true)

end Sys2Proof.Machine
end

