-- ==== Sys2Proof/Machine/MailHost.lean ====
section
/-! DEFINITION. Machine/MailHost.lean: the mailbox commands of the host attachment, of plans, time, objects, groups and plane ports (R27, R41, R48, R52, R75, R188 to R192, R263, R322, R330, R350 to R364). -/
namespace Sys2Proof.Machine

/-- Change the host attachment. -/
def modHost (f : HostSt → HostSt) (w : Work) : Work := w.up fun h => { h with host := f h.host }

/-- A command is done without a payload. -/
def accepted (w : Work) : Answer := .reply stDone [] w

/-- A command is refused with a status. -/
def refusedWith (status : Nat) (w : Work) : Answer := .reply status [] w

/-- Bits set of a byte. -/
def bitCount (n : Nat) : Nat := ((List.range 8).filter (bit n)).length

/-- A value within a range. -/
def inRange (lo hi n : Nat) : Bool := lo ≤ n && n ≤ hi

/-! ## Channels, outboxes and Ethernet ports (R330, R350, R354 to R357) -/

/-- `NOP`. -/
def doNop (r : Request) (w : Work) : Answer := if r.shape 0 [] then accepted w else malformed w

/-- `CHANNEL_OPEN`: the key is a free value (R350). -/
def doChannelOpen (r : Request) (w : Work) : Answer :=
  let c := r.arg 0 1
  if !r.shape 16 [] || 15 < c || 15 < r.arg 1 1 || 4095 < r.arg 2 2 then malformed w
  else if (tabGet {} w.hw.host.channels c).opened then refusedWith stNoResource w
  else
    let key := freeOf w % 2 ^ 32
    let ch : Channel := {
      opened := true
      mask := r.arg 1 1
      responseQp := r.arg 2 2
      responseRkey := r.arg 4 4
      responseAddr := r.arg 8 8
      key := key }
    .reply stDone (leBytes 4 key) (freeUsed (modHost (fun h => { h with channels := tabSet {} h.channels c ch }) w))

/-- `CHANNEL_CLOSE`: the channel's power request ends with it (R350, R406). -/
def doChannelClose (r : Request) (w : Work) : Answer :=
  let c := r.arg 0 1
  if !r.shape 4 [(1, 3)] || 15 < c then malformed w
  else if w.hw.plans.plans.any (fun p => p.channel == c) then refusedWith stPlanActive w
  else
    accepted (modLantern (fun l => { l with requests := l.requests.filter (fun e => e.1 != c) })
      (modHost (fun h => { h with channels := tabSet {} h.channels c {} }) w))

/-- `OUTBOX_SET`: the window of the channel that owns the queue pair (R330; log 26). -/
def doOutboxSet (r : Request) (w : Work) : Answer :=
  if !r.shape 32 [] || 3 < r.arg 0 1 || 1 < r.arg 1 1 || r.arg 0x10 8 < 16 || r.arg 0x18 4 % 32 != 0 || 65536 < r.arg 0x1C 4 then malformed w
  else match findQp w.hw (r.arg 2 2) with
    | none => refusedWith stNotFound w
    | some q =>
      let o : Outbox := {
        enable := r.arg 1 1 == 1
        qp := r.arg 2 2
        rkey := r.arg 4 4
        address := r.arg 8 8
        length := r.arg 0x10 8
        eventOffset := r.arg 0x18 4
        eventEntries := r.arg 0x1C 4
        ringSeq := 0 }
      accepted (modHost (fun h => { h with outboxNext := h.outboxNext ++ [(4 * q.channel + r.arg 0 1, o)] }) w)

/-- `ETH_PORT_SET` (R315, R355). -/
def doEthPortSet (r : Request) (w : Work) : Answer :=
  let e := r.arg 0 1
  let mode := r.arg 1 1
  if !r.shape 8 [(6, 2)] || 3 < e || 1 < mode || 2 ^ 15 ≤ r.arg 2 2 || 2 < bitCount (r.arg 4 1) || 2 < bitCount (r.arg 5 1)
      || (mode == 0 && r.arg 5 1 != 0) then malformed w
  else if portBusy w.hw 6 e then refusedWith stTargetBusy w
  else if w.hw.plans.plans.any (fun p => p.links.any (fun l => (l.1 == 8 + 2 * e || l.1 == 9 + 2 * e) && l.2.2 != 0)) then
    refusedWith stPlanActive w
  else
    let s : EthPort := { mode := mode, vlan := r.arg 2 2, pfc0 := r.arg 4 1, pfc1 := r.arg 5 1 }
    accepted (modHost (fun h => { h with ethNext := h.ethNext ++ [(e, s)] }) w)

/-- `ETH_ADDR_SET` (R315, R356). -/
def doEthAddrSet (r : Request) (w : Work) : Answer :=
  let c := r.arg 0 1
  if !r.shape 24 [(3, 1)] || c < 8 || !halfExists w.hw (c - 8) || 32 < r.arg 1 1 || 128 < r.arg 2 1 then malformed w
  else if portBusy w.hw 6 ((c - 8) / 2) then refusedWith stTargetBusy w
  else accepted (modHalf (c - 8) (fun x => { x with
    ipv4 := r.arg 4 4
    ipv4Len := r.arg 1 1
    ipv6 := r.arg 8 16
    ipv6Len := r.arg 2 1 }) w)

/-- `ETH_CONG_SET` (R324, R356). -/
def doEthCongSet (r : Request) (w : Work) : Answer :=
  let ok := r.shape 12 [(1, 1)] && inRange 4 10 (r.arg 0 1) && inRange 10 1000 (r.arg 2 2) && inRange 10 1000 (r.arg 4 2)
    && inRange 10 10000 (r.arg 6 2) && inRange 10 10000 (r.arg 8 2) && r.arg 10 2 ≤ 1000
  if !ok then malformed w
  else
    let c : Congestion := {
      gShift := r.arg 0 1
      tAlpha := r.arg 2 2
      tInc := r.arg 4 2
      rAi := r.arg 6 2
      rMin := r.arg 8 2
      cnp := r.arg 10 2 }
    accepted (modHost (fun h => { h with congNext := some c }) w)

/-- `PTP_SET`: masters heard in another domain or on a port no longer accepted are forgotten (R327, R356). -/
def doPtpSet (r : Request) (w : Work) : Answer :=
  let asym (h : Nat) : Int := toSigned 16 (r.arg (4 + 2 * h) 2)
  if !r.shape 20 [(2, 2)] || 127 < r.arg 0 1 || (List.range 8).any (fun h => decide (1000 < (asym h).natAbs)) then malformed w
  else
    let gone (h : Nat) : Bool := r.arg 0 1 != w.hw.host.ptpDomain || !bit (r.arg 1 1) h
    let w1 := forEach ((List.range 8).filter gone) (fun h w =>
      modHalf h (fun x => { x with masters := [], ptpSync := none, ptpDelay := none }) w) w
    accepted (chooseMaster (modHost (fun x => { x with
      ptpDomain := r.arg 0 1
      ptpPorts := r.arg 1 1
      ptpAsym := (List.range 8).foldl (fun t h => tabSet 0 t h (asym h)) [] }) w1))

/-- Entry h of `ETH_STATUS` (R357). -/
def ethEntry (hw : Hw) (h : Nat) : List Byte :=
  let link := if halfExists hw h then (halfOf hw h).link else 3
  let ptp := if !bit hw.host.ptpPorts h then 0 else if (hw.host.ptpUsed.map (fun m => m.1)) == some h && hw.time.source == .ptp then 2 else 1
  leBytes 1 link ++ leBytes 1 (ethPortOf hw (h / 2)).mode ++ leBytes 1 ptp ++ leBytes 1 (pfcOf hw h)
    ++ leBytes 2 (ethPortOf hw (h / 2)).vlan ++ leBytes 6 (Config.macAddress hw.keep.serial h)
    ++ leBytes 4 (hw.host.qps.filter (fun q => q.code == 8 + h)).length

/-- `ETH_STATUS`. -/
def doEthStatus (r : Request) (w : Work) : Answer :=
  if r.shape 0 [] then .reply stDone ((List.range 8).flatMap (ethEntry w.hw)) w else malformed w

/-! ## Queue pairs (R321, R358 to R360) -/

/-- `QP_CREATE`. -/
def doQpCreate (r : Request) (w : Work) : Answer :=
  let i := r.arg 0 2
  let c := r.arg 2 1
  let code := r.arg 3 1
  if !r.shape 4 [] || !(i ≤ 4095 || i == 0xFFFF) || 15 < c || !(tabGet {} w.hw.host.channels c).opened || code < 8
      || !halfExists w.hw (code - 8) then malformed w
  else if portBusy w.hw 6 ((code - 8) / 2) then refusedWith stTargetBusy w
  else
    let used := w.hw.host.qps.map (fun q => q.index)
    match if i = 0xFFFF then lowestFree used 4096 0 else some i with
    | none => refusedWith stNoResource w
    | some n =>
      if used.contains n then refusedWith stQpState w
      else
        let q : Qp := {
          index := n, state := 0, cause := 0, channel := c, code := code, mtu := 0, dscp := 0, priority := 0, ackT := 0, retry := 0, rnr := 0
          peerQpn := 0, sqPsn := 0, rqPsn := 0, gidIndex := 0, peerGid := 0, nextHop := 0, outstanding := [], waiting := [], reads := 0, dropContext := 0
          hostDropped := ctrOf w.hw 5 (41 + n), rate := 0, target := 0, alpha := 0, stage := 0, cnpAt := 0, alphaAt := 0, incAt := 0
          cnpSentAt := none }
        .reply stDone (leBytes 2 n ++ zeros 2 ++ leBytes 4 (0x1000 + n))
          (modHost (fun h => { h with qps := insertBy (fun q => q.index) q h.qps }) w)

/-- `QP_CONNECT`: the queue pair starts from the new values (R321, R324, R359). -/
def doQpConnect (r : Request) (w : Work) : Answer :=
  let i := r.arg 0 2
  let ok := r.shape 0x30 [(0x15, 3), (0x2E, 2)] && inRange 1 5 (r.arg 2 1) && r.arg 3 1 < 64 && r.arg 4 1 < 8 && r.arg 5 1 ≤ 14
    && r.arg 6 1 ≤ 7 && r.arg 7 1 ≤ 7 && r.arg 8 4 < 2 ^ 24 && r.arg 0xC 4 < 2 ^ 24 && r.arg 0x10 4 < 2 ^ 24 && r.arg 0x14 1 ≤ 1
  if !ok then malformed w
  else match findQp w.hw i with
    | none => refusedWith stNotFound w
    | some q =>
      if q.state = 1 ∧ !q.outstanding.isEmpty then refusedWith stQpState w
      else
        let line := lineRate w.hw (q.code - 8)
        let now := w.hw.time.now
        .reply stDone (leBytes 4 (0x1000 + i) ++ zeros 4) (modQp i (fun x => { x with
          state := 1
          cause := 0
          mtu := 128 * 2 ^ r.arg 2 1
          dscp := r.arg 3 1
          priority := r.arg 4 1
          ackT := r.arg 5 1
          retry := r.arg 6 1
          rnr := r.arg 7 1
          peerQpn := r.arg 8 4
          sqPsn := r.arg 0xC 4
          rqPsn := r.arg 0x10 4
          gidIndex := r.arg 0x14 1
          peerGid := r.arg 0x18 16
          nextHop := r.arg 0x28 6
          outstanding := []
          waiting := []
          dropContext := 0
          rate := line
          target := line
          alpha := 2 ^ 32
          stage := 0
          cnpAt := now
          alphaAt := now
          incAt := now
          cnpSentAt := none }) w)

/-- `QP_DESTROY`. -/
def doQpDestroy (r : Request) (w : Work) : Answer :=
  if !r.shape 4 [(2, 2)] then malformed w
  else match findQp w.hw (r.arg 0 2) with
    | none => refusedWith stNotFound w
    | some q =>
      if !q.outstanding.isEmpty then refusedWith stTargetBusy w
      else accepted (modHost (fun h => { h with qps := h.qps.filter (fun x => x.index != q.index) }) w)

/-- `QP_STATUS`. -/
def doQpStatus (r : Request) (w : Work) : Answer :=
  if !r.shape 4 [(2, 2)] then malformed w
  else match findQp w.hw (r.arg 0 2) with
    | none => refusedWith stNotFound w
    | some q => .reply stDone (leBytes 1 q.state ++ leBytes 1 q.cause ++ leBytes 1 q.channel ++ leBytes 1 q.code ++ leBytes 4 (0x1000 + q.index)
        ++ leBytes 4 (q.outstanding.filter (fun x => x.sent)).length ++ leBytes 2 q.dropContext ++ zeros 2 ++ leBytes 8 q.hostDropped) w

/-! ## Regions (R322, R323, R332) -/

/-- A copy between an object and a region is in progress on a region. -/
def regionBusy (hw : Hw) (i : Nat) : Bool := hw.host.copies.any (fun c => c.region == i)

/-- The fields of `REGION_REGISTER` that do not depend on the plan. -/
def regionFieldsOk (r : Request) : Bool :=
  let t := r.arg 6 1
  let slots := r.arg 0x18 2
  let ring := r.arg 0x1A 2
  let bytes := r.arg 0x1C 4
  let len := r.arg 0x10 8
  r.shape 32 [(7, 1)] && r.arg 8 8 % 4096 == 0 && len % 4096 == 0 && (match t with
    | 0 => slots == 0 && ring == 0 && bytes == 0
    | 1 => slots == 0 && ring == 0 && bytes == 0
    | 2 => inRange 1 64 slots && ring == 0 && bytes % 4096 == 0 && bytes != 0 && decide (4096 + slots * bytes ≤ len)
    | 3 => inRange 1 4096 slots && decide (ring ≤ 4095) && bytes % 64 == 0 && inRange 128 65536 bytes && decide (slots * bytes ≤ len)
    | _ => false)

/-- `REGION_REGISTER`: the R_Key is a free value (R322). -/
def doRegionRegister (r : Request) (w : Work) : Answer :=
  if !regionFieldsOk r then malformed w
  else if targetBusy w.hw 5 (r.arg 0 4) then refusedWith stTargetBusy w
  else match findPlan w.hw (r.arg 0 4) with
    | none => refusedWith stNotFound w
    | some p => match p.reservations[r.arg 4 2]? with
      | none => refusedWith stNotFound w
      | some e =>
        if p.channel ≠ r.channel ∨ e.kind ≠ 1 ∨ !bit e.flags 0 then refusedWith stNotPermitted w
        else if e.pages * 65536 < r.arg 8 8 + r.arg 0x10 8 then malformed w
        else match lowestFree (w.hw.host.regions.map (fun x => x.index)) 256 0 with
          | none => refusedWith stNoResource w
          | some i =>
            let key := freeOf w % 2 ^ 32
            let reg : Region := {
              index := i
              plan := p.id
              entry := r.arg 4 2
              channel := r.channel
              type := r.arg 6 1
              base := e.base + r.arg 8 8
              length := r.arg 0x10 8
              slots := r.arg 0x18 2
              ringQp := r.arg 0x1A 2
              slotBytes := r.arg 0x1C 4
              rkey := key
              nextEntry := 0
              expect := 1
              batches := []
              rejected := 0 }
            .reply stDone (leBytes 2 i ++ zeros 2 ++ leBytes 4 key ++ leBytes 8 reg.base)
              (freeUsed (modHost (fun h => { h with regions := insertBy (fun x => x.index) reg h.regions }) w))

/-- A host channel acts on its own regions. -/
def ownRegion (hw : Hw) (r : Request) (i : Nat) : Bool :=
  16 ≤ r.channel || match findRegion hw i with
    | some x => x.channel == r.channel
    | none => true

/-- `REGION_RELEASE`: the batches of an inbox window keep the outcome of their frame (R337, R354; log 40). -/
def doRegionRelease (r : Request) (w : Work) : Answer :=
  let i := r.arg 0 2
  if !r.shape 4 [(2, 2)] then malformed w
  else match findRegion w.hw i with
    | none => refusedWith stNotFound w
    | some reg =>
      if regionBusy w.hw i then refusedWith stTargetBusy w
      else
        accepted (modHost (fun h => { h with
          regions := h.regions.filter (fun x => x.index != i)
          leaving := h.leaving ++ (if reg.batches.isEmpty then [] else [reg])
          seals := h.seals.filter (fun x => x.region != i) }) w)

/-! ## Plans, contexts and overruns (R52, R75, R353, R361, R362) -/

/-- `PLAN_RELEASE`. -/
def doPlanRelease (r : Request) (w : Work) : Answer :=
  let id := r.arg 0 4
  if !r.shape 8 [(4, 4)] then malformed w
  else if targetBusy w.hw 5 id then refusedWith stTargetBusy w
  else match findPlan w.hw id with
    | none => refusedWith stNotFound w
    | some _ =>
      let w1 := releasePlan id w
      let last := ((findPlan w1.hw id).bind (fun p => p.lastFrame)).getD 0
      .reply stDone (leBytes 8 (last % 2 ^ 48)) w1

/-- `PLAN_LIST`: a response on the Keep channel is signed, and holds six entries fewer (R340, R362). -/
def doPlanList (r : Request) (w : Work) : Answer :=
  if !r.shape 4 [(2, 2)] then malformed w
  else
    let all := sortBy (fun p => p.id) (w.hw.plans.plans.filter (fun p => p.firstFrame.isSome && (16 ≤ r.channel || p.channel == r.channel)))
    let part := (all.drop (r.arg 0 2)).take (if r.channel = 17 then 245 else 251)
    .reply stDone (leBytes 2 all.length ++ leBytes 2 part.length ++ zeros 4 ++ part.flatMap (fun p =>
      leBytes 4 p.id ++ leBytes 1 p.part ++ leBytes 1 p.channel ++ leBytes 2 p.cores.length ++ leBytes 8 (p.firstFrame.getD 0 % 2 ^ 48))) w

/-- The plan and core that hold a context ID. -/
def contextHolder (hw : Hw) (ctx : Nat) : Option (Plan × Nat) :=
  hw.plans.plans.findSome? (fun p => (p.cores.find? (fun e => e.ctx == ctx && ctx != 0)).map (fun e => (p, e.core)))

/-- `CTX_STATUS` of a bound context on a core (R75). -/
def ctxStatus (c : CoreSt) : Nat :=
  c.ctx + 2 ^ 12 + 2 ^ 13 * b2n c.running + 2 ^ 14 * b2n c.aborted + 2 ^ 15 * b2n c.faulted + 2 ^ 16 * c.lastFault

/-- A host channel reads the contexts of its own plans. -/
def ownContext (hw : Hw) (r : Request) (ctx : Nat) : Bool :=
  16 ≤ r.channel || match contextHolder hw ctx with
    | some (p, _) => p.channel == r.channel
    | none => true

/-- `CTX_STATUS_READ`. -/
def doCtxStatusRead (r : Request) (w : Work) : Answer :=
  if !r.shape 4 [(2, 2)] || 0xFFF < r.arg 0 2 then malformed w
  else match contextHolder w.hw (r.arg 0 2) with
    | none => refusedWith stNotFound w
    | some (_, core) => .reply stDone (leBytes 4 (ctxStatus (coreOf w.hw core))) w

/-- The 32 B core fault record (R108). -/
def faultRecord (f : CoreFault) : List Byte :=
  leBytes 8 f.time ++ leBytes 2 f.ctx ++ leBytes 2 f.core ++ leBytes 1 f.code ++ leBytes 1 f.unit ++ leBytes 2 f.bundle ++ leBytes 8 f.address
    ++ leBytes 4 f.plan ++ leBytes 2 (b2n f.isAsync + 2 * b2n f.resync + 4 * b2n f.more) ++ zeros 2

/-- A host channel reads the records of its own plans. -/
def ownFault (hw : Hw) (r : Request) (core : Nat) : Bool :=
  16 ≤ r.channel || match (coreOf hw core).fault with
    | some f => match findPlan hw f.plan with
      | some p => p.channel == r.channel
      | none => false
    | none => true

/-- `CORE_FAULT_READ`. -/
def doCoreFaultRead (r : Request) (w : Work) : Answer :=
  let core := r.arg 0 2
  if !r.shape 4 [(2, 2)] || 255 < core then malformed w
  else match (coreOf w.hw core).fault with
    | none => refusedWith stNotFound w
    | some f => .reply stDone (faultRecord f ++ leBytes 8 (coreOf w.hw core).faultFrame) w

/-- `OVERRUN_READ` (R55, R353). -/
def doOverrunRead (r : Request) (w : Work) : Answer :=
  let n := r.arg 0 1
  if !r.shape 4 [(1, 3)] || !inRange 1 60 n then malformed w
  else
    let l := w.hw.host.overruns.take n
    .reply stDone (leBytes 8 w.hw.host.overrunLost ++ leBytes 2 l.length ++ zeros 6 ++ l.flatten)
      (modHost (fun h => { h with overruns := h.overruns.drop n }) w)

/-! ## Time, floor and partitions (R27, R33, R38, R41, R48) -/

/-- `TICK_PERIOD_SET` (R41): the first multiple of the new period at least two old periods after the scan. -/
def doTickPeriodSet (r : Request) (w : Work) : Answer :=
  let code := r.arg 0 2
  if !r.shape 4 [(2, 2)] || !inRange 5 500 code then malformed w
  else if targetBusy w.hw 1 0 then refusedWith stTargetBusy w
  else if !w.hw.plans.plans.isEmpty then refusedWith stPlanActive w
  else
    let earliest := w.hw.time.tickAt + 2 * period w.hw
    .later (some (1, 0)) (modHost (fun h => { h with periodAnswer := some (r.channel, r.slot) })
      (modTime (fun t => { t with periodNext := some (earliest, code) }) w))

/-- `TIME_ROLE_SET`. -/
def doTimeRoleSet (r : Request) (w : Work) : Answer :=
  if !r.shape 4 [(1, 3)] || 1 < r.arg 0 1 then malformed w
  else accepted (modTime (fun t => { t with roleNext := some (r.arg 0 1 == 1) }) w)

/-- `TIME_READ`. -/
def doTimeRead (r : Request) (w : Work) : Answer :=
  if !r.shape 0 [] then malformed w
  else .reply stDone (leBytes 8 r.foundAt ++ leBytes 8 r.tick ++ leBytes 4 (timeStatus w.hw)
    ++ leBytes 4 (ofSigned 32 w.hw.time.offset) ++ leBytes 4 (tickConfig w.hw) ++ zeros 4) w

/-- `FLOOR_SET` (R48, R361, R362). -/
def doFloorSet (r : Request) (w : Work) : Answer :=
  let floor := r.arg 0 1
  if !r.shape 4 [(1, 3)] || !inRange 16 64 floor then .reply stMalformed (zeros 16) w
  else
    match floorConflict w.hw floor with
    | some id => .reply stFloorConflict (zeros 8 ++ leBytes 4 id ++ zeros 4) w
    | none => .reply stDone (leBytes 8 ((w.hw.time.tick + 1) % 2 ^ 48) ++ zeros 8) (modTime (fun t => { t with floorNext := some floor }) w)

/-- `PARTITION_SET` (R27). -/
def doPartitionSet (r : Request) (w : Work) : Answer :=
  let n := r.arg 0 1
  if !r.shape 4 [(1, 3)] || !(n == 1 || n == 2 || n == 4) then malformed w
  else if targetBusy w.hw 2 0 then refusedWith stTargetBusy w
  else if !w.hw.plans.plans.isEmpty then refusedWith stPlanActive w
  else .later (some (2, 0)) (modHost (fun h => { h with partitionNext := some (r.channel, r.slot, n) }) w)

/-! ## Objects and the pager (R188, R189, R191, R192, R208, R352) -/

/-- A copy is in progress on an object. -/
def objectBusy (hw : Hw) (part id : Nat) : Bool := hw.host.copies.any (fun c => c.part == part && c.obj == id)

/-- `OBJECT_CREATE`, with the refusals of R188 in their order; `MX_VARIANT` is 0 unless the lower format is MXF8 or MXF6 (R112). -/
def doObjectCreate (r : Request) (w : Work) : Answer :=
  let part := r.arg 0 1
  let packed := r.arg 1 1 == 1
  let o : PObj := {
    part := part
    id := r.arg 4 4
    plan := 0
    pages := r.arg 8 4
    packed := packed
    upper := r.arg 2 1
    lower := r.arg 3 1
    variant := r.arg 12 1 % 2
    towardZero := bit (r.arg 12 1) 1
    bound := none
    home := 0
    damaged := 0
    durable := 0 }
  let formats := (if packed then packPair o.upper o.lower else o.upper == 0 && o.lower == 0)
    && (o.variant == 0 || o.lower == 0x08 || o.lower == 0x09)
  if !r.shape 16 [(13, 3)] || partCount w.hw ≤ part || 1 < r.arg 1 1 || !formats || o.id == 0 || 2 ^ 31 ≤ o.id || o.pages == 0
      || 3 < r.arg 12 1 then malformed w
  else if !ownPart w.hw r part then refusedWith stNotPermitted w
  else if objectBusy w.hw part o.id then refusedWith stTargetBusy w
  else if (findObject w.hw part o.id).isSome then refusedWith stObjectExists w
  else if 1048576 ≤ (w.hw.pager.objects.filter (fun x => x.plan == 0)).length then refusedWith stNoResource w
  else if freeTier3 w.hw part < storedPages o then refusedWith stNoCapacity w
  else accepted ((freeFlash part o.id w).up fun h => { h with pager := { h.pager with objects := h.pager.objects ++ [o] } })

/-- `OBJECT_DELETE`. -/
def doObjectDelete (r : Request) (w : Work) : Answer :=
  let part := r.arg 0 1
  let id := r.arg 4 4
  if !r.shape 8 [(1, 3)] || partCount w.hw ≤ part then malformed w
  else if objectBusy w.hw part id then refusedWith stTargetBusy w
  else match findObject w.hw part id with
    | none => refusedWith stNotFound w
    | some o =>
      if o.bound.isSome then refusedWith stObjectBusy w
      else accepted ((freeFlash part id w).up fun h => { h with pager := { h.pager with
        objects := h.pager.objects.filter (fun x => !(x.plan == 0 && x.part == part && x.id == id))
        resident := h.pager.resident.filter (fun x => !(x.owner == 0 && x.part == part && x.obj == id))
        journal := h.pager.journal.filter (fun x => !(x.part == part && x.obj == id)) } })

/-- The record of R192. -/
def objectRecord (hw : Hw) (o : PObj) : List Byte :=
  let dirty := ((hw.pager.resident.filter (fun x => x.dirty && x.owner == 0 && x.part == o.part && x.obj == o.id)).map (fun x => x.page)).eraseDups
  leBytes 4 o.id ++ leBytes 4 o.pages ++ leBytes 4 (storedPages o) ++ leBytes 1 (b2n o.packed) ++ leBytes 1 o.upper ++ leBytes 1 o.lower
    ++ leBytes 1 (o.variant + 2 * b2n o.towardZero + 4 * b2n o.bound.isSome) ++ leBytes 4 ((o.bound.map (fun b => b.1)).getD 0)
    ++ leBytes 4 dirty.length ++ leBytes 8 (o.durable % 2 ^ 48) ++ leBytes 4 o.damaged ++ zeros 12

/-- `OBJECT_STATUS`. -/
def doObjectStatus (r : Request) (w : Work) : Answer :=
  let part := r.arg 0 1
  if !r.shape 8 [(1, 3)] || partCount w.hw ≤ part then malformed w
  else if objectBusy w.hw part (r.arg 4 4) then refusedWith stTargetBusy w
  else match findObject w.hw part (r.arg 4 4) with
    | none => refusedWith stNotFound w
    | some o => .reply stDone (objectRecord w.hw o) w

/-- `OBJECT_READ` or `OBJECT_WRITE` begins: the copy is in progress until its last page is done (R191, R352). -/
def doObjectCopy (write : Bool) (r : Request) (w : Work) : Answer :=
  let id := r.arg 0 4
  let first := r.arg 4 4
  let count := r.arg 8 4
  let i := r.arg 12 2
  if !r.shape 28 [(14, 6)] || !inRange 1 16384 count || r.arg 20 8 % 65536 != 0 then malformed w
  else if regionBusy w.hw i then refusedWith stTargetBusy w
  else match findRegion w.hw i with
    | none => refusedWith stNotFound w
    | some reg => match findPlan w.hw reg.plan with
      | none => refusedWith stNotFound w
      | some p =>
        if p.channel ≠ r.channel then refusedWith stNotPermitted w
        else if objectBusy w.hw p.part id then refusedWith stTargetBusy w
        else match findObject w.hw p.part id with
          | none => refusedWith stNotFound w
          | some o =>
            if o.bound.isSome then refusedWith stObjectBusy w
            else if o.pages < first + count ∨ reg.length < r.arg 20 8 + count * 65536 then malformed w
            else
              let c : ObjCopy := {
                channel := r.channel
                slot := r.slot
                write := write
                part := p.part
                obj := id
                first := first
                count := count
                region := i
                offset := r.arg 20 8
                done := 0 }
              .later none (modHost (fun h => { h with copies := h.copies ++ [c] }) w)

/-- One page of a copy: done, waiting for a journal slot, or ended by an uncorrectable read. -/
inductive PageCopy where
  | done (w : Work)
  | waits
  | failed (w : Work)

/-- Page n of a copy (R190, R205, R352). -/
def copyPage (c : ObjCopy) (reg : Region) (o : PObj) (t3 : T3Read) (n : Nat) (w : Work) : PageCopy :=
  let a := reg.base + c.offset + n * 65536
  let page := c.first + n
  if c.write then
    if flushHolds w.hw then .waits
    else if !w.good a 65536 then .failed (uncorrectableAt (w.firstBad a 65536) w)
    else match journalEnter o page o.durable (packPage o (w.read a 65536)) w with
      | none => .waits
      | some w1 => .done (modResidents (fun l => l.filter (fun x => !holds o page x)) w1)
  else match fetchPage o page 0 a t3 w with
    | .error w1 => .failed w1
    | .ok (bytes, w1) => .done (w1.write a bytes)

/-- The pages of a copy from the next one on, at most k: how far it came, and whether a page failed. -/
def copyPages (c : ObjCopy) (reg : Region) (o : PObj) (t3 : T3Read) : Nat → Nat → Work → Nat × Bool × Work
  | 0, n, w => (n, false, w)
  | k + 1, n, w => match copyPage c reg o t3 n w with
    | .done w1 => copyPages c reg o t3 k (n + 1) w1
    | .waits => (n, false, w)
    | .failed w1 => (n, true, w1)

/-- The copy of a channel and slot goes on; its command is answered once the last page is done, or with the pages copied when a page
cannot be read (R352). A region or object that is gone ends it with the pages copied (log 27). -/
def continueCopy (channel slot : Nat) (t3 : T3Read) (w : Work) : Work :=
  match w.hw.host.copies.find? (fun c => c.channel == channel && c.slot == slot) with
  | none => w
  | some c =>
    let mine (x : ObjCopy) : Bool := x.channel == channel && x.slot == slot
    let ends (status : Nat) (payload : List Byte) (w : Work) : Work :=
      answerLater channel slot status payload (modHost (fun h => { h with copies := h.copies.filter (fun x => !mine x) }) w)
    if !pagerLive w.hw then w
    else match findRegion w.hw c.region, findObject w.hw c.part c.obj with
      | some reg, some o =>
        let (n, failed, w1) := copyPages c reg o t3 (c.count - c.done) c.done w
        if failed then ends stUncorrectable (leBytes 4 n) w1
        else if n = c.count then ends stDone [] w1
        else modHost (fun h => { h with copies := h.copies.map (fun x => if mine x then { x with done := n } else x) }) w1
      | _, _ => ends stNotFound (leBytes 4 c.done) w

/-- `JOURNAL_FLUSH` (R208): answered when the flush ends. -/
def doJournalFlush (r : Request) (w : Work) : Answer :=
  if !r.shape 4 [(0, 4)] then malformed w
  else .later none (startFlush .command none (some (r.channel, r.slot)) w)

/-- `PAGER_READ`, from the snapshot of the scan's tick (R189). -/
def doPagerRead (r : Request) (w : Work) : Answer :=
  let p := r.arg 0 1
  let snap := snapOf w.hw r
  let v (i : Nat) : Nat := tabGet 0 snap.ctr (2 * 2 ^ 20 + i)
  if !r.shape 4 [(1, 3)] || partCount w.hw ≤ p then malformed w
  else .reply stDone (leBytes 8 (v p) ++ leBytes 8 (v (4 + p)) ++ leBytes 8 (v (8 + p)) ++ leBytes 8 (v (12 + p)) ++ leBytes 8 (v 16)
    ++ leBytes 8 (v 18) ++ leBytes 8 (v 19) ++ leBytes 2 (v 17) ++ leBytes 2 (v 20) ++ leBytes 4 (v (21 + p)) ++ leBytes 8 (v (25 + p)) ++ zeros 8) w

/-! ## Groups and plane ports (R263, R363, R364) -/

/-- `GROUP_READ`: the header and records as the group table holds them. -/
def doGroupRead (r : Request) (w : Work) : Answer :=
  let part := r.arg 4 1
  if !r.shape 8 [(5, 1)] || 1 < part then malformed w
  else match findGroup w.hw (r.arg 0 4) with
    | none => refusedWith stNotFound w
    | some g =>
      if !ownPlan w.hw r g.plan then refusedWith stNotFound w
      else
        let a := groupTableBase + g.slot * 0x40000
        let total := if part = 0 then g.members.length else g.racks.length
        let size := if part = 0 then 4 else 8
        let base := if part = 0 then a + 32 else a + 32 + 4 * g.members.length
        let first := r.arg 6 2
        let n := min (total - first) (if part = 0 then 992 else 63)
        .reply stDone (leBytes 2 g.slot ++ leBytes 2 n ++ leBytes 4 g.plan ++ w.read a 32 ++ w.read (base + first * size) (n * size)) w

/-- The code of a port state (R271). -/
def PortState.code : PortState → Nat
  | .down => 0
  | .detect => 1
  | .train => 2
  | .align => 3
  | .init => 4
  | .active => 5
  | .disabled => 6

/-- `PLINK_STATUS` (R279). -/
def plinkStatus (p : Port) : Nat :=
  p.state.code + 8 * b2n p.saved + 16 * p.rxSpare + 512 * p.txSpare + 65536 * p.downCause + 2 ^ 24 * b2n p.laneWear

/-- `PLINK_PEER` (R279). -/
def plinkPeer (p : Port) : Nat := p.peerNode + 2 ^ 32 * p.peerPort + 2 ^ 48 * p.peerPlane + 2 ^ 50 * p.peerIndex + 2 ^ 51 * p.peerRole

/-- `PLINK_SET` (R278, R363). -/
def doPlinkSet (r : Request) (w : Work) : Answer :=
  let p := r.arg 0 1
  let port := portOf w.hw p
  if !r.shape 4 [(2, 2)] || 5 < p || 3 < r.arg 1 1 then malformed w
  else if portBusy w.hw 5 p then refusedWith stTargetBusy w
  else match r.arg 1 1 with
    | 0 =>
      if port.state ≠ .disabled then accepted w
      else
        let w1 := modPort p (fun q => { q with enabled := true }) w
        accepted (publishUnit (17 + p) 0 0 (modPort p (fun q => { q with state := afterDown w1.hw p }) w1))
    | 1 =>
      let w1 := linkDown p 6 .disabled (modPort p (fun q => { q with enabled := false, retryAt := none }) w)
      accepted (publishUnit (17 + p) 5 6 w1)
    | action =>
      if port.state ≠ .active then accepted w
      else accepted (modPort p (fun q => { q with fullTraining := action == 3 }) (linkDown p 6 (afterDown w.hw p) w))

/-- `PLINK_ARB_SET` (R263, R363). -/
def doPlinkArbSet (r : Request) (w : Work) : Answer :=
  let weights := (List.range 6).map (fun i => r.arg (2 + i) 1)
  if !r.shape 8 [(1, 1)] || 63 < r.arg 0 1 || weights.contains 0 then malformed w
  else if (List.range 6).any (fun p => bit (r.arg 0 1) p && portBusy w.hw 5 p) then refusedWith stTargetBusy w
  else accepted (w.up fun h => { h with links := { h.links with weightsNext := h.links.weightsNext ++ [(r.arg 0 1, weights)] } })

/-- `PLINK_READ` (R363). -/
def doPlinkRead (r : Request) (w : Work) : Answer :=
  let p := r.arg 0 1
  let port := portOf w.hw p
  if !r.shape 4 [(1, 3)] || 5 < p then malformed w
  else .reply stDone (leBytes 4 (plinkStatus port) ++ leBytes 4 port.rxMask ++ leBytes 4 port.txMask ++ zeros 4 ++ leBytes 8 (plinkPeer port)
    ++ (weightsOf w.hw p).flatMap (leBytes 1) ++ zeros 2) w

end Sys2Proof.Machine
end

