-- ==== Sys2Proof/Machine/KeepOps.lean ====
section
/-! DEFINITION. Machine/KeepOps.lean: Keep's own commands and what Keep and Turret do in a start: bundles, attestation, service mode, keys, topology and state reads (R369 to R399, R435, R505). -/
namespace Sys2Proof.Machine

/-! ## Commanded module resets (R505) -/

/-- A commanded module reset: the orderly flush first, with a deadline of 30 s; none in the safe state or where the pager does not
run (R208, R505). -/
def commandedReset (w : Work) : Work :=
  if isSafe w.hw || !pagerLive w.hw then moduleReset .kept false w
  else startFlush .reset (some (w.hw.time.now + 30000000000)) none (releaseAll w)

/-! ## Firmware bundles (R374 to R378) -/

/-- Largest size of a bundle section, by its type (R375). -/
def sectionLimit (type : Nat) : Nat :=
  match type with
  | 1 => 393216
  | 2 => 48 * 2 ^ 20
  | 3 => 4 * 2 ^ 20
  | _ => 16 * 2 ^ 20

/-- Offset of a section-table entry. -/
def sectionAt (i : Nat) : Nat := 0x20 + 80 * i

/-- A section-table entry meets R375 within a bundle of a size. -/
def sectionOk (b : List Byte) (total i : Nat) : Bool :=
  let o := sectionAt i
  let type := field b o 1
  let off := field b (o + 4) 4
  let len := field b (o + 8) 4
  1 ≤ type && type ≤ 4 && zeroAt b (o + 1) 3 && zeroAt b (o + 12) 4 && off % 4096 == 0 && 0x1000 ≤ off && len ≤ sectionLimit type
    && off + len ≤ total

/-- Two sections of a bundle share no byte. -/
def sectionsApart (b : List Byte) (i j : Nat) : Bool :=
  let s := sectionAt i
  let t := sectionAt j
  field b (s + 4) 4 + field b (s + 8) 4 ≤ field b (t + 4) 4 || field b (t + 4) 4 + field b (t + 8) 4 ≤ field b (s + 4) 4

/-- Check 1 of R376. -/
def bundleShape (b : List Byte) : Bool :=
  let total := b.length
  let types := (List.range 4).map (fun i => field b (sectionAt i) 1)
  512 ≤ total && total ≤ 192 * 2 ^ 20 && field b 0 2 == 1 && field b 2 2 == 4 && field b 4 4 == total && field b 0x14 1 ≤ 64
    && field b 0x15 1 ≤ 3 && zeroAt b 0x16 10 && zeroAt b 0x1A0 96 && (List.range 4).all (sectionOk b total) && noRepeats types
    && (List.range 4).all (fun i => (List.range i).all (sectionsApart b i))

/-- The hash of a section by the table, by its type. -/
def sectionHash (b : List Byte) (type : Nat) : Nat :=
  match (List.range 4).find? (fun i => field b (sectionAt i) 1 == type) with
  | some i => field b (sectionAt i + 16) 64
  | none => 0

/-- Check 5 of R376: the SHA-512 of each section equals its `HASH`. -/
def hashesHold (b : List Byte) : Bool :=
  (List.range 4).all (fun i =>
    let o := sectionAt i
    leNat (sha512 (slice b (field b (o + 4) 4) (field b (o + 8) 4))) == field b (o + 16) 64)

/-- What a bundle that passed its checks leaves in the image store. -/
def bundleOf (b : List Byte) : BundleInfo := {
  version := field b 8 8
  minRev := field b 0x10 2
  maxRev := field b 0x12 2
  svn := field b 0x14 1
  key := field b 0x15 1
  hashes := [1, 2, 3, 4].map (sectionHash b)
  bytes := b }

/-- Checks 1 to 5 of R376 in order, with the status that refuses the bundle (R378). -/
def checkBundle (k : KeepSt) (b : List Byte) : Option Nat :=
  if !bundleShape b then some stMalformed
  else if k.revision < field b 0x10 2 || field b 0x12 2 < k.revision then some stMalformed
  else if bit k.revoked (field b 0x15 1) || !edVerify (Config.firmwareKey (field b 0x15 1)) (slice b 0 0x160) (slice b 0x160 64) then
    some stBadSignature
  else if field b 0x14 1 < k.svn then some stNotPermitted
  else if !hashesHold b then some stMalformed
  else none

/-- `IMAGE_UPDATE` (R378): the store is erased and its write begins; the answer comes once it has been read back. -/
def doImageUpdate (r : Request) (w : Work) : Answer :=
  let a := r.arg 0 8
  let n := r.arg 8 4
  if !r.shape 16 [(13, 3)] || 1 < r.arg 12 1 || a % 4096 != 0 || !within a n (loadArea 16) 0x10000000 || 192 * 2 ^ 20 < n then malformed w
  else if w.hw.keep.imageWrite.isSome then refusedWith stTargetBusy w
  else if !w.good a n then refusedWith stUncorrectable w
  else
    let b := w.read a n
    match checkBundle w.hw.keep b with
    | some status => refusedWith status w
    | none =>
      let x : ImageWrite := {
        channel := r.channel
        slot := r.slot
        bundle := bundleOf b
        activate := r.arg 12 1 == 1 }
      .later none (modKeep (fun k => { k with bundle := none, imageWrite := some x }) w)

/-- The image store is written: it is read back and answered, or written again where the read back differs (R378). -/
def bundleWritten (readBack : Bool) (w : Work) : Work :=
  match w.hw.keep.imageWrite with
  | none => w
  | some x =>
    if !readBack then w
    else
      let w1 := answerLater x.channel x.slot stDone [] (modKeep (fun k => { k with bundle := some x.bundle, imageWrite := none }) w)
      if x.activate then commandedReset w1 else w1

/-! ## Attestation (R372, R384, R385) -/

/-- A map of 4 B entries within the defect map image. -/
def remapBytes (size : Nat) (t : Tab Nat) : List Byte := t.foldl (fun bs e => patch bs (4 * e.1) (leBytes 4 e.2)) (zeros size)

/-- The defect map image (R372). -/
def defectImage (k : KeepSt) : List Byte :=
  k.disabled.flatMap (leBytes 1) ++ k.spares.flatMap (leBytes 1) ++ zeros 4 ++ remapBytes 196608 k.hbmRemap ++ remapBytes 24576 k.lpRemap

/-- The operator key table as bytes: 16 entries in the field order of R381, unused entries zero. -/
def keyTable (k : KeepSt) : List Byte :=
  slice (k.keys.flatMap (fun x => leBytes 8 x.id ++ leBytes 32 x.pub ++ leBytes 1 x.roles)) 0 656

/-- The certificate (R385): `ISSUER_KEY` and the signature are the manufacturer's (log 8). -/
def certificateBytes (k : KeepSt) : List Byte :=
  leBytes 8 k.serial ++ leBytes 1 k.ordering ++ zeros 1 ++ leBytes 2 k.revision ++ slice (Config.certificate 0) 0 4
    ++ leBytes 32 (edPublic k.seed) ++ zeros 24 ++ slice (Config.certificate 1) 0 64

/-- Measure i of the running bundle; zero on the ROM recovery path. -/
def measureOf (k : KeepSt) (i : Nat) : List Byte :=
  match k.running with
  | some b => leBytes 64 ((b.hashes[i]?).getD 0)
  | none => zeros 64

/-- The attestation report (R2, R385). -/
def attestReport (hw : Hw) (nonce : List Byte) : List Byte :=
  let k := hw.keep
  leBytes 2 1 ++ leBytes 2 k.revision ++ leBytes 1 k.ordering ++ leBytes 1 k.svn ++ leBytes 1 k.bootPath
    ++ leBytes 1 (b2n k.ready + 2 * b2n (!k.keys.isEmpty)) ++ leBytes 8 k.serial ++ leBytes 8 (tier3Pages hw)
    ++ leBytes 8 ((k.running.map (fun b => b.version)).getD 0) ++ leBytes 8 hw.time.now ++ leBytes 4 k.bootCount ++ zeros 4 ++ nonce
    ++ leBytes 32 (edPublic k.seed) ++ measureOf k 0 ++ measureOf k 1 ++ measureOf k 2 ++ measureOf k 3 ++ sha512 (defectImage k)
    ++ sha512 (keyTable k)

/-- `ATTEST` (R385). -/
def doAttest (r : Request) (w : Work) : Answer :=
  if !r.shape 48 [(1, 15)] || 1 < r.arg 0 1 then malformed w
  else .reply stDone (if r.arg 0 1 = 1 then certificateBytes w.hw.keep else attestReport w.hw (slice r.payload 16 32)) w

/-! ## Service mode (R380) -/

/-- Turret's settings return to their values of a first bring-up, and the topology record goes (R380). -/
def clearSettings (w : Work) : Work :=
  let fresh : TimeSt := {}
  let w1 := setPartitions 1 (modKeep (fun k => { k with topology := none }) w)
  let w2 := w1.up fun h => { h with
    links := { h.links with weights := [] }
    host := { h.host with eth := [] } }
  modTime (fun t =>
    let p := fresh.periodCode * 10000
    { t with
      rackRef := fresh.rackRef
      periodCode := fresh.periodCode
      periodNext := none
      tick := t.now / p % 2 ^ 48
      tickAt := t.now / p * p
      deadlineDone := true }) w2

/-- `SERVICE_MODE` (R380). -/
def doServiceMode (r : Request) (w : Work) : Answer :=
  let action := r.arg 0 1
  let page := r.arg 1 2
  let inside := w.hw.keep.phase = 9
  if !r.shape 4 [(3, 1)] || action == 0 || 5 < action || (action == 5 && 57 < page) then malformed w
  else if action = 5 then .reply stDone (slice (defectImage w.hw.keep) (3840 * page) 3840) w
  else if action = 1 then
    if inside then refusedWith stNotPermitted w else accepted (releaseAll (modKeep (fun k => { k with entering := max k.entering 1 }) w))
  else if !inside then refusedWith stNotPermitted w
  else if action = 2 then .later none (commandedReset (respond r stDone [] w))
  else if action = 3 then accepted (modKeep (fun k => { k with trained := [] }) w)
  else accepted (clearSettings w)

/-! ## Operator keys (R381, R382) -/

/-- `KEY_ENROL` (R382). -/
def doKeyEnrol (r : Request) (w : Work) : Answer :=
  let action := r.arg 0 1
  let roles := r.arg 1 1
  let id := r.arg 8 8
  let pub := r.arg 16 32
  let keys := w.hw.keep.keys
  let present := keys.any (fun k => k.id == id)
  let rest := keys.filter (fun k => k.id != id)
  if !r.shape 48 [(2, 6)] || !(action == 1 || action == 2) || 7 < roles || (action == 1 && id == 0) || (action == 2 && pub != 0) then malformed w
  else if action = 1 then
    if present || 16 ≤ keys.length then refusedWith stNotPermitted w
    else
      -- the counter of a first enrolment is that of its own request (R382, R383)
      let counter := if field r.bytes 0xFA0 8 = id then field r.bytes 0xFA8 8 else 0
      accepted (modKeep (fun k => { k with keys := k.keys ++ [⟨id, pub, roles, counter⟩] }) w)
  else if !present || !rest.any (fun k => bit k.roles 2) then refusedWith stNotPermitted w
  else accepted (modKeep (fun k => { k with keys := rest }) w)

/-! ## The expected topology (R395, R396) -/

/-- An Ethernet entry of the record meets R395. -/
def etherEntryOk (t : List Byte) (o : Nat) : Bool :=
  let cl := field t (o + 1) 1
  let pl := field t (o + 2) 1
  field t o 1 ≤ 2 && inRange 1 32 cl && inRange 1 32 pl && zeroAt t (o + 3) 5 && zeroAt t (o + 8 + cl) (32 - cl) && zeroAt t (o + 40 + pl) (32 - pl)

/-- The expected-topology record meets R395; the entry of half 1 of a port in mode 0 is ignored. -/
def topologyOk (hw : Hw) (t : List Byte) : Bool :=
  t.length == 640 && field t 0 2 == 1 && field t 2 2 ≤ 1023 && field t 4 1 ≤ 63 && field t 5 1 ≤ 7 && zeroAt t 6 2 && zeroAt t 0x38 8
    && (List.range 6).all (fun p => field t (8 + 8 * p) 1 ≤ 2 && zeroAt t (9 + 8 * p) 1)
    && (List.range 8).all (fun h => !halfExists hw h || etherEntryOk t (0x40 + 72 * h))

/-- The result of R396 as a response: the state, and one 8 B entry for each item. -/
def topologyReport (hw : Hw) (t : List Byte) : List Byte :=
  let items := topologyItems hw t
  leBytes 8 (topologyState items) ++ items.flatMap (fun i => leBytes 1 i.item ++ leBytes 1 i.state ++ slice i.found 0 6)

/-- `TOPOLOGY_SET` (R395). -/
def doTopologySet (r : Request) (w : Work) : Answer :=
  let t := r.payload
  if !r.shape 640 [] || !topologyOk w.hw t then malformed w
  else
    let w1 := topologyCheck (modKeep (fun k => { k with topology := some t }) w)
    .reply stDone (topologyReport w1.hw t) w1

/-! ## State reads (R389, R411, R435) -/

/-- A marker arrived within the last three tick periods. -/
def markerPresent (hw : Hw) : Bool :=
  match hw.lantern.marker with
  | some (t, _) => hw.time.now < t + 3 * period hw
  | none => false

/-- `BELFRY_STATUS` (R435). -/
def belfryStatus (hw : Hw) : Nat :=
  let l := hw.lantern
  let heard := match l.heardAt with
    | some t => decide (hw.time.now < t + 50000000)
    | none => false
  l.seat.getD 0 + 8 * b2n l.seat.isSome + 16 * b2n l.bypassOpen + 32 * b2n (markerPresent hw) + 64 * (2 * l.members + b2n heard)

/-- The unit record of a unit (R431, R435). -/
def unitBytes (hw : Hw) (u : Nat) : List Byte :=
  let x := tabGet {} hw.lantern.units u
  leBytes 2 u ++ leBytes 1 x.state ++ leBytes 1 x.cause ++ leBytes 4 x.epoch ++ leBytes 8 x.time

/-- `STATE_READ` (R435). Where `COUNT` has no stated value it is a free value. -/
def doStateRead (r : Request) (w : Work) : Answer :=
  let what := r.arg 0 1
  let hw := w.hw
  if !r.shape 4 [(1, 3)] || 3 < what then malformed w
  else
    let count := if what = 0 then 33 else if what = 1 then hw.lantern.log.length else freeOf w % 256
    let header := leBytes 8 hw.keep.serial ++ leBytes 1 what ++ leBytes 1 count ++ zeros 2 ++ leBytes 4 hw.lantern.epoch
    let body := match what with
      | 0 => (List.range 33).flatMap (unitBytes hw)
      | 1 => hw.lantern.log.flatten
      | 2 => leBytes 4 (bringupStatus hw) ++ leBytes 4 (bringupMs hw)
      | _ => leBytes 4 (capStatus hw) ++ zeros 4 ++ leBytes 8 (capTerms hw) ++ leBytes 8 (tokenPolicy hw) ++ leBytes 4 (belfryStatus hw) ++ zeros 4
    .reply stDone (header ++ body) (if 2 ≤ what then freeUsed w else w)

/-! ## The phases and watchdogs of a start -/

/-- A core's fetch: its runtime in phase 4 of a start, else the program of a plan being admitted (R388, R394, R502). -/
def runFetch (core : Nat) (w : Work) : Work :=
  let k := w.hw.keep
  if starting k && k.spiresUp then (if k.fetched.contains core then w else fetchRuntime core w)
  else if !isReady w.hw || isSafe w.hw then w
  else match w.hw.plans.plans.find? (fun p => p.fetching.contains core) with
    | some p => fetchPlanCore p core w
    | none => w

/-- The start limit passes (R387, R398): not while time is being excluded from it. -/
def meetStartLimit (w : Work) : Work :=
  let k := w.hw.keep
  match startLimitOf k.startType, k.startAt with
  | some limit, some t =>
    let at_ := t + limit + k.excluded
    if starting k && k.excludeFrom.isNone && due w.hw at_ then failStart 10 k.phase (advance w at_) else w
  | _, _ => w

/-- Keep sees no heartbeat of Turret for 500 ms (R369). -/
def turretSilent (w : Work) : Work :=
  if w.hw.keep.turretUp && w.hw.power.cupola && w.hw.fault.safe != some 1 then raise 2 8 0 0 0 w else w

/-- A check of the collector fails (source 0), or Keep's cores differ (source 1): the safe state (R370, R483). -/
def checkFails (source : Nat) (w : Work) : Work :=
  if w.hw.power.aon && !w.hw.power.retained then raise source 8 0 0 0 w else w

/-- Lantern becomes ready and opens the bypass (R401, R416). -/
def lanternReadyNow (w : Work) : Work :=
  if !w.hw.power.aon || w.hw.power.retained || w.hw.lantern.up then w
  else publishBelfry (modLantern (fun l => { l with up := true, bypassOpen := true, aloneSince := w.hw.time.now }) w)

end Sys2Proof.Machine
end

