-- ==== Sys2Proof/Machine/KeepCommands.lean ====
section
/-! DEFINITION. Machine/KeepCommands.lean: the phases of a start, the watchdogs, and the commands of Keep (R369, R370, R378 to R398, R435, R483). -/
namespace Sys2Proof.Machine

/-! ## The phases of a start -/

/-- `START` (R386 to R388): the results of the ROM self-test, of the fuse read, of the check of the image store and of the CRC check of the
saved training. -/
def execStart (romOk : Bool) (fuseOk : Bool) (storeOk : Bool) (s : State) (crcBad : BitVec 46 := 0) : Host.Outcome State Fault Refusal :=
  run s (beginStart romOk fuseOk storeOk crcBad.toNat)

/-- `CUPOLA` (R388, phase 3): `retrained` names the packages whose saved settings failed and that trained in full. -/
def execCupola (lpFail : Option Byte) (hashOk : Bool) (mapFail : Option Byte) (s : State) (retrained : BitVec 24 := 0) : Host.Outcome State Fault Refusal :=
  run s (runCupola (lpFail.map (fun b => b.toNat)) hashOk (mapFail.map (fun b => b.toNat)) retrained.toNat)

/-- `SPIRES` (R388, phase 4): `hashFail` is section 4 (true) or section 3 where its hash does not match, and `retrained` names the stacks whose
saved settings failed and that trained in full. -/
def execSpires (hbmFail : Option Byte) (testFail : Option Byte) (hashFail : Option Bool) (s : State) (retrained : BitVec 12 := 0) : Host.Outcome State Fault Refusal :=
  run s (runSpires (hbmFail.map (fun b => b.toNat)) (testFail.map (fun b => b.toNat)) (hashFail.map (fun b => 3 + b2n b)) retrained.toNat)

/-- `CORE_FETCH` (R394). -/
def execCoreFetch (core : BitVec 8) (s : State) : Host.Outcome State Fault Refusal := run s (runFetch core.toNat)

/-- `MEMORY_TEST` (R393): the rows that fail, each a unit (stack, or 16 + package) and its remap entry. -/
def execMemoryTest (rows : List (W64)) (s : State) : Host.Outcome State Fault Refusal :=
  run s (runMemoryTest (rows.map (fun v => (v.toNat / 2 ^ 32, v.toNat % 2 ^ 32))))

/-- `LINKS` (R388, phase 6): the source the time base acquires. -/
def execLinks (source : BitVec 3) (s : State) : Host.Outcome State Fault Refusal := run s (runLinks (sourceOf source.toNat))

/-- `START_LIMIT` (R398). -/
def execStartLimit (s : State) : Host.Outcome State Fault Refusal := run s meetStartLimit

/-- `BUNDLE_WRITE_DONE` (R378). -/
def execBundleWriteDone (readBack : Bool) (s : State) : Host.Outcome State Fault Refusal := run s (bundleWritten readBack)

/-! ## Watchdogs and checks -/

/-- `LANTERN_READY` (R401, R416). -/
def execLanternReady (s : State) : Host.Outcome State Fault Refusal := run s lanternReadyNow

/-- `TURRET_WATCHDOG` (R369). -/
def execTurretWatchdog (s : State) : Host.Outcome State Fault Refusal := run s turretSilent

/-- `KEEP_LOCKSTEP` (R370). -/
def execKeepLockstep (s : State) : Host.Outcome State Fault Refusal := run s (checkFails 1)

/-- `COLLECTOR_CHECK` (R483). -/
def execCollectorCheck (s : State) : Host.Outcome State Fault Refusal := run s (checkFails 0)

/-! ## Mailbox commands of Keep -/

/-- `ATTEST` (R385). -/
def execAttest (channel : Fin 18) (slot : Fin 64) (s : State) : Host.Outcome State Fault Refusal :=
  run s (serve 0x90 anyOwner doAttest channel.val slot.val)

/-- `IMAGE_UPDATE` (R378). -/
def execImageUpdate (channel : Fin 18) (slot : Fin 64) (s : State) : Host.Outcome State Fault Refusal :=
  run s (serve 0x91 anyOwner doImageUpdate channel.val slot.val)

/-- `SERVICE_MODE` (R380). -/
def execServiceMode (channel : Fin 18) (slot : Fin 64) (s : State) : Host.Outcome State Fault Refusal :=
  run s (serve 0x92 anyOwner doServiceMode channel.val slot.val)

/-- `KEY_ENROL` (R382). -/
def execKeyEnrol (channel : Fin 18) (slot : Fin 64) (s : State) : Host.Outcome State Fault Refusal :=
  run s (serve 0x93 anyOwner doKeyEnrol channel.val slot.val)

/-- `TOPOLOGY_SET` (R395). -/
def execTopologySet (channel : Fin 18) (slot : Fin 64) (s : State) : Host.Outcome State Fault Refusal :=
  run s (serve 0x94 anyOwner doTopologySet channel.val slot.val)

/-- `STATE_READ` (R435). -/
def execStateRead (channel : Fin 18) (slot : Fin 64) (s : State) : Host.Outcome State Fault Refusal :=
  run s (serve 0x95 anyOwner doStateRead channel.val slot.val)

end Sys2Proof.Machine
end

