-- ==== Sys2Proof/Machine/LinkCommands.lean ====
section
/-! DEFINITION. Machine/LinkCommands.lean: the events of the plane links, what arrives on them, and the package fabric (R252 to R282, R297, R550, R560). -/
namespace Sys2Proof.Machine

/-- `CREDIT` (R264). -/
def execCredit (port : Fin 6) (ack : BitVec 12) (freed : Vector (BitVec 16) 7) (s : State) : Host.Outcome State Fault Refusal :=
  run s (takeCredit port.val ack.toNat (freed.toList.map BitVec.toNat))

/-- `NAK` (R260). -/
def execNak (port : Fin 6) (ack expected : BitVec 12) (s : State) : Host.Outcome State Fault Refusal :=
  run s (takeNak port.val ack.toNat expected.toNat)

/-- `DOWN_REQUEST` (R278): the far end's own cause is not used. -/
def execDownRequest (port : Fin 6) (_cause : Byte) (s : State) : Host.Outcome State Fault Refusal :=
  run s (dropLink port.val 5)

/-- `REPLAY_TIMEOUT` (R260). -/
def execReplayTimeout (port : Fin 6) (s : State) : Host.Outcome State Fault Refusal :=
  run s (replayTimeout port.val)

/-- `REPLAY_EXHAUSTED` (R260, R469). -/
def execReplayExhausted (port : Fin 6) (s : State) : Host.Outcome State Fault Refusal :=
  run s (replayExhausted port.val)

/-- `LOCK_LOST` (R278). -/
def execLockLost (port : Fin 6) (s : State) : Host.Outcome State Fault Refusal :=
  run s (dropLink port.val 2)

/-- `DETECT` (R271). -/
def execDetect (port : Fin 6) (lanes : BitVec 17) (s : State) : Host.Outcome State Fault Refusal :=
  run s (detectLanes port.val lanes.toNat)

/-- `TRAIN` (R271, R273). -/
def execTrain (port : Fin 6) (ok : Bool) (s : State) : Host.Outcome State Fault Refusal :=
  run s (trainEnds port.val ok)

/-- `ALIGN` (R272, R273). -/
def execAlign (port : Fin 6) (rxGood txGood : BitVec 17) (s : State) : Host.Outcome State Fault Refusal :=
  run s (alignLanes port.val rxGood.toNat txGood.toNat)

/-- `LINK_INIT` (R275). -/
def execLinkInit (port : Fin 6) (payload : List Byte) (s : State) : Host.Outcome State Fault Refusal :=
  run s (takeInit port.val payload)

/-- `LINK_INIT_SEND` (R274). -/
def execLinkInitSend (port : Fin 6) (s : State) : Host.Outcome State Fault Refusal :=
  run s (sendInit port.val)

/-- `TRAINING_RETRY` (R273). -/
def execTrainingRetry (port : Fin 6) (s : State) : Host.Outcome State Fault Refusal :=
  run s (retryTraining port.val)

/-- `LANE_RETRAIN` (R273). -/
def execLaneRetrain (port : Fin 6) (lane : Fin 17) (corrected symbols : BitVec 48) (s : State) : Host.Outcome State Fault Refusal :=
  run s (reviewLane port.val lane.val corrected.toNat symbols.toNat)

/-- `PORT_HOLD_EXPIRY` (R268). -/
def execPortHoldExpiry (port : Fin 6) (s : State) : Host.Outcome State Fault Refusal :=
  run s (holdExpires port.val)

/-- `TIME_EXCHANGE` (R277). -/
def execTimeExchange (port : Fin 6) (s : State) : Host.Outcome State Fault Refusal :=
  run s (sendTimeRequest port.val)

/-- `TIME_REQUEST` (R277). -/
def execTimeRequest (rx : Rx) (payload : List Byte) (s : State) : Host.Outcome State Fault Refusal :=
  run s (answerTime rx payload)

/-- `TIME_RESPONSE` (R277). -/
def execTimeResponse (rx : Rx) (payload : List Byte) (s : State) : Host.Outcome State Fault Refusal :=
  run s (takeTimeResponse rx payload)

/-- `MSG_SEND` (R266, R267). -/
def execMsgSend (rx : Rx) (payload : List Byte) (s : State) : Host.Outcome State Fault Refusal :=
  run s (takeMsgSend rx payload)

/-- `MSG_SIGNAL` (R266). -/
def execMsgSignal (rx : Rx) (payload : List Byte) (s : State) : Host.Outcome State Fault Refusal :=
  run s (takeMsgSignal rx payload)

/-- `MSG_ANSWER` (R95, R266). -/
def execMsgAnswer (rx : Rx) (payload : List Byte) (s : State) : Host.Outcome State Fault Refusal :=
  run s (takeMsgAnswer rx payload)

/-- `ACK_TIMEOUT` (R270). -/
def execAckTimeout (core : BitVec 8) (seq : W32) (s : State) : Host.Outcome State Fault Refusal :=
  run s (ackTimeout core.toNat seq.toNat)

/-- `PACKAGE_FABRIC_TRANSFER` (R282). -/
def execPackageFabricTransfer (transfer : BitVec 16) (s : State) : Host.Outcome State Fault Refusal :=
  run s (fabricArrives transfer.toNat)

/-- `FABRIC_RESEND` (R282, R467). -/
def execFabricResend (transfer : BitVec 16) (s : State) : Host.Outcome State Fault Refusal :=
  run s (fabricResends transfer.toNat)

/-- `COLL_REDUCE` (R296). -/
def execCollReduce (rx : Rx) (payload : List Byte) (s : State) : Host.Outcome State Fault Refusal :=
  run s (takeCollFlit 2 true rx payload)

/-- `COLL_GATHER` (R296). -/
def execCollGather (rx : Rx) (payload : List Byte) (s : State) : Host.Outcome State Fault Refusal :=
  run s (takeCollFlit 3 false rx payload)

/-- `ADVERTISE` (R297). -/
def execAdvertise (rx : Rx) (record : List Byte) (s : State) : Host.Outcome State Fault Refusal :=
  run s (takeRecordFlit rx 1 record)

/-- `GRANT` (R297, R298). -/
def execGrant (rx : Rx) (record : List Byte) (s : State) : Host.Outcome State Fault Refusal :=
  run s (takeRecordFlit rx 5 record)

/-- `ABORT` (R297, R307). -/
def execAbort (rx : Rx) (record : List Byte) (s : State) : Host.Outcome State Fault Refusal :=
  run s (takeRecordFlit rx 7 record)

/-- `ABSENT` (R297). -/
def execAbsent (rx : Rx) (record : List Byte) (s : State) : Host.Outcome State Fault Refusal :=
  run s (takeRecordFlit rx 8 record)

/-- `FLOOR_NOTICE` (R297). -/
def execFloorNotice (rx : Rx) (record : List Byte) (s : State) : Host.Outcome State Fault Refusal :=
  run s (takeRecordFlit rx 9 record)

/-- `AUDIT` (R560). -/
def execAudit (rx : Rx) (record : List Byte) (s : State) : Host.Outcome State Fault Refusal :=
  run s (takeRecordFlit rx 10 record)

/-- `TRACE` (R550). -/
def execTrace (rx : Rx) (payload : List Byte) (s : State) : Host.Outcome State Fault Refusal :=
  run s (acceptLow rx 6 payload (takeTrace payload))

/-- `FLIT_CRC_FAILED` (R257, R259). -/
def execFlitCrcFailed (port : Fin 6) (s : State) : Host.Outcome State Fault Refusal :=
  run s (crcFailed port.val)

/-- `BAD_FLITS` (R258). -/
def execBadFlits (rx : Rx) (reserved : Bool) (vc type : Byte) (s : State) : Host.Outcome State Fault Refusal :=
  run s (takeBadFlit rx reserved vc.toNat type.toNat)

end Sys2Proof.Machine
end

