-- ==== Sys2Proof/Machine/MailCommands.lean ====
section
/-! DEFINITION. Machine/MailCommands.lean: the mailbox commands of the host attachment, of plans, time, objects, groups and plane ports (R349). -/
namespace Sys2Proof.Machine

/-! ## Channels, outboxes and Ethernet ports -/

/-- `NOP`. -/
def execNop (channel : Fin 18) (slot : Fin 64) (s : State) : Host.Outcome State Fault Refusal :=
  run s (serve 0x01 anyOwner doNop channel.val slot.val)

/-- `CHANNEL_OPEN` (R350). -/
def execChannelOpen (channel : Fin 18) (slot : Fin 64) (s : State) : Host.Outcome State Fault Refusal :=
  run s (serve 0x02 anyOwner doChannelOpen channel.val slot.val)

/-- `CHANNEL_CLOSE` (R350). -/
def execChannelClose (channel : Fin 18) (slot : Fin 64) (s : State) : Host.Outcome State Fault Refusal :=
  run s (serve 0x03 anyOwner doChannelClose channel.val slot.val)

/-- `OUTBOX_SET` (R330). -/
def execOutboxSet (channel : Fin 18) (slot : Fin 64) (s : State) : Host.Outcome State Fault Refusal :=
  run s (serve 0x04 (fun hw r => ownQp hw r (r.arg 2 2)) doOutboxSet channel.val slot.val)

/-- `ETH_PORT_SET` (R315). -/
def execEthPortSet (channel : Fin 18) (slot : Fin 64) (s : State) : Host.Outcome State Fault Refusal :=
  run s (serve 0x08 anyOwner doEthPortSet channel.val slot.val)

/-- `ETH_ADDR_SET` (R356). -/
def execEthAddrSet (channel : Fin 18) (slot : Fin 64) (s : State) : Host.Outcome State Fault Refusal :=
  run s (serve 0x09 anyOwner doEthAddrSet channel.val slot.val)

/-- `ETH_CONG_SET` (R356). -/
def execEthCongSet (channel : Fin 18) (slot : Fin 64) (s : State) : Host.Outcome State Fault Refusal :=
  run s (serve 0x0A anyOwner doEthCongSet channel.val slot.val)

/-- `PTP_SET` (R327). -/
def execPtpSet (channel : Fin 18) (slot : Fin 64) (s : State) : Host.Outcome State Fault Refusal :=
  run s (serve 0x0B anyOwner doPtpSet channel.val slot.val)

/-- `ETH_STATUS` (R357). -/
def execEthStatus (channel : Fin 18) (slot : Fin 64) (s : State) : Host.Outcome State Fault Refusal :=
  run s (serve 0x0C anyOwner doEthStatus channel.val slot.val)

/-! ## Queue pairs and regions -/

/-- `QP_CREATE` (R358). -/
def execQpCreate (channel : Fin 18) (slot : Fin 64) (s : State) : Host.Outcome State Fault Refusal :=
  run s (serve 0x10 anyOwner doQpCreate channel.val slot.val)

/-- `QP_CONNECT` (R359). -/
def execQpConnect (channel : Fin 18) (slot : Fin 64) (s : State) : Host.Outcome State Fault Refusal :=
  run s (serve 0x11 (fun hw r => ownQp hw r (r.arg 0 2)) doQpConnect channel.val slot.val)

/-- `QP_DESTROY` (R321). -/
def execQpDestroy (channel : Fin 18) (slot : Fin 64) (s : State) : Host.Outcome State Fault Refusal :=
  run s (serve 0x12 anyOwner doQpDestroy channel.val slot.val)

/-- `QP_STATUS` (R360). -/
def execQpStatus (channel : Fin 18) (slot : Fin 64) (s : State) : Host.Outcome State Fault Refusal :=
  run s (serve 0x13 (fun hw r => ownQp hw r (r.arg 0 2)) doQpStatus channel.val slot.val)

/-- `REGION_REGISTER` (R322). -/
def execRegionRegister (channel : Fin 18) (slot : Fin 64) (s : State) : Host.Outcome State Fault Refusal :=
  run s (serve 0x14 (fun hw r => ownPlan hw r (r.arg 0 4) && (r.arg 6 1 != 3 || ownQp hw r (r.arg 0x1A 2))) doRegionRegister channel.val slot.val)

/-- `REGION_RELEASE` (R354). -/
def execRegionRelease (channel : Fin 18) (slot : Fin 64) (s : State) : Host.Outcome State Fault Refusal :=
  run s (serve 0x15 (fun hw r => ownRegion hw r (r.arg 0 2)) doRegionRelease channel.val slot.val)

/-! ## Plans, contexts, time and partitions -/

/-- `PLAN_ADMIT` (R49, R351): every response carries the payload of R351. -/
def execPlanAdmit (channel : Fin 18) (slot : Fin 64) (s : State) : Host.Outcome State Fault Refusal :=
  run s (serveWith 0x20 (fun status r w => respond r status (admitRefusal 0 ⟨0, 0, 0, 0⟩) w) anyOwner admitRequest channel.val slot.val)

/-- `PLAN_RELEASE` (R52). -/
def execPlanRelease (channel : Fin 18) (slot : Fin 64) (s : State) : Host.Outcome State Fault Refusal :=
  run s (serve 0x21 (fun hw r => ownPlan hw r (r.arg 0 4)) doPlanRelease channel.val slot.val)

/-- `PLAN_LIST` (R362). -/
def execPlanList (channel : Fin 18) (slot : Fin 64) (s : State) : Host.Outcome State Fault Refusal :=
  run s (serve 0x22 anyOwner doPlanList channel.val slot.val)

/-- `CTX_STATUS_READ` (R353). -/
def execCtxStatusRead (channel : Fin 18) (slot : Fin 64) (s : State) : Host.Outcome State Fault Refusal :=
  run s (serve 0x23 (fun hw r => ownContext hw r (r.arg 0 2)) doCtxStatusRead channel.val slot.val)

/-- `CORE_FAULT_READ` (R353). -/
def execCoreFaultRead (channel : Fin 18) (slot : Fin 64) (s : State) : Host.Outcome State Fault Refusal :=
  run s (serve 0x24 (fun hw r => ownFault hw r (r.arg 0 2)) doCoreFaultRead channel.val slot.val)

/-- `OVERRUN_READ` (R353). -/
def execOverrunRead (channel : Fin 18) (slot : Fin 64) (s : State) : Host.Outcome State Fault Refusal :=
  run s (serve 0x25 anyOwner doOverrunRead channel.val slot.val)

/-- `TICK_PERIOD_SET` (R41). -/
def execTickPeriodSet (channel : Fin 18) (slot : Fin 64) (s : State) : Host.Outcome State Fault Refusal :=
  run s (serve 0x26 anyOwner doTickPeriodSet channel.val slot.val)

/-- `TIME_ROLE_SET` (R33). -/
def execTimeRoleSet (channel : Fin 18) (slot : Fin 64) (s : State) : Host.Outcome State Fault Refusal :=
  run s (serve 0x27 anyOwner doTimeRoleSet channel.val slot.val)

/-- `TIME_READ` (R362). -/
def execTimeRead (channel : Fin 18) (slot : Fin 64) (s : State) : Host.Outcome State Fault Refusal :=
  run s (serve 0x28 anyOwner doTimeRead channel.val slot.val)

/-- `FLOOR_SET` (R48): every response carries the payload of R362. -/
def execFloorSet (channel : Fin 18) (slot : Fin 64) (s : State) : Host.Outcome State Fault Refusal :=
  run s (serveWith 0x29 (fun status r w => respond r status (zeros 16) w) anyOwner doFloorSet channel.val slot.val)

/-- `PARTITION_SET` (R27). -/
def execPartitionSet (channel : Fin 18) (slot : Fin 64) (s : State) : Host.Outcome State Fault Refusal :=
  run s (serve 0x2A anyOwner doPartitionSet channel.val slot.val)

/-! ## Objects and the pager -/

/-- `OBJECT_CREATE` (R188). -/
def execObjectCreate (channel : Fin 18) (slot : Fin 64) (s : State) : Host.Outcome State Fault Refusal :=
  run s (serve 0x30 anyOwner doObjectCreate channel.val slot.val)

/-- `OBJECT_DELETE` (R189). -/
def execObjectDelete (channel : Fin 18) (slot : Fin 64) (s : State) : Host.Outcome State Fault Refusal :=
  run s (serve 0x31 (fun hw r => ownPart hw r (r.arg 0 1)) doObjectDelete channel.val slot.val)

/-- `OBJECT_READ` (R352). -/
def execObjectRead (channel : Fin 18) (slot : Fin 64) (s : State) : Host.Outcome State Fault Refusal :=
  run s (serve 0x32 (fun hw r => ownRegion hw r (r.arg 12 2)) (doObjectCopy false) channel.val slot.val)

/-- `OBJECT_WRITE` (R352). -/
def execObjectWrite (channel : Fin 18) (slot : Fin 64) (s : State) : Host.Outcome State Fault Refusal :=
  run s (serve 0x33 (fun hw r => ownRegion hw r (r.arg 12 2)) (doObjectCopy true) channel.val slot.val)

/-- `OBJECT_COPY_DONE` (R352). -/
def execObjectCopyDone (channel : Fin 18) (slot : Fin 64) (t3 : T3Read) (s : State) : Host.Outcome State Fault Refusal :=
  run s (continueCopy channel.val slot.val t3)

/-- `OBJECT_STATUS` (R192). -/
def execObjectStatus (channel : Fin 18) (slot : Fin 64) (s : State) : Host.Outcome State Fault Refusal :=
  run s (serve 0x34 (fun hw r => ownPart hw r (r.arg 0 1)) doObjectStatus channel.val slot.val)

/-- `JOURNAL_FLUSH` (R208). -/
def execJournalFlush (channel : Fin 18) (slot : Fin 64) (s : State) : Host.Outcome State Fault Refusal :=
  run s (serve 0x35 anyOwner doJournalFlush channel.val slot.val)

/-- `PAGER_READ` (R189). -/
def execPagerRead (channel : Fin 18) (slot : Fin 64) (s : State) : Host.Outcome State Fault Refusal :=
  run s (serve 0x36 (fun hw r => ownPart hw r (r.arg 0 1)) doPagerRead channel.val slot.val)

/-! ## Groups and plane ports -/

/-- `GROUP_READ` (R364). -/
def execGroupRead (channel : Fin 18) (slot : Fin 64) (s : State) : Host.Outcome State Fault Refusal :=
  run s (serve 0x40 anyOwner doGroupRead channel.val slot.val)

/-- `PLINK_SET` (R363). -/
def execPlinkSet (channel : Fin 18) (slot : Fin 64) (s : State) : Host.Outcome State Fault Refusal :=
  run s (serve 0x41 anyOwner doPlinkSet channel.val slot.val)

/-- `PLINK_ARB_SET` (R263). -/
def execPlinkArbSet (channel : Fin 18) (slot : Fin 64) (s : State) : Host.Outcome State Fault Refusal :=
  run s (serve 0x42 anyOwner doPlinkArbSet channel.val slot.val)

/-- `PLINK_READ` (R363). -/
def execPlinkRead (channel : Fin 18) (slot : Fin 64) (s : State) : Host.Outcome State Fault Refusal :=
  run s (serve 0x43 anyOwner doPlinkRead channel.val slot.val)

end Sys2Proof.Machine
end

