-- ==== Sys2Proof/Machine/MirrorHost.lean ====
section
/-! DEFINITION. Machine/MirrorHost.lean: the timed events of mirror pairs and their mailbox commands (R509 to R513, R518, R524, R529, R533). -/
namespace Sys2Proof.Machine

/-! ## Timed events -/

/-- No `ACK` of a stream has advanced for 300 us: its records are sent again from the oldest unacknowledged one (R524). -/
def resendOverdue (part stream : Nat) (w : Work) : Work :=
  let s := streamOf w.hw part stream
  let limit := s.ackAt + 300000
  match findPair w.hw part, s.unacked with
  | some p, r :: _ => if cupolaLive w.hw && due w.hw limit then resendFrom p stream r.seq (advance w limit) else w
  | _, _ => w

/-- No valid `HELLO` has arrived for 3 ticks: the partner is lost, and every window enters resync (R511, R520). -/
def losePartner (part : Nat) (w : Work) : Work :=
  match findPair w.hw part with
  | none => w
  | some p =>
    let silent := match p.helloTick with
      | some t => decide (t + 3 ≤ w.hw.time.tick)
      | none => false
    if p.state != .paired || !silent || !cupolaLive w.hw then w
    else
      let w1 := modPair part (fun p => { p with state := .partnerLost }) (leavePaired part w)
      mirrorFault 1 (forEach (windowsOf w1.hw part) (fun x w => enterResync x.index w) w1)

/-- The time base reaches a holder's `EXPIRES`: it becomes standby (R515). -/
def leaseExpires (part : Nat) (w : Work) : Work :=
  match findPair w.hw part with
  | none => w
  | some p => if p.role == .holder && cupolaLive w.hw && due w.hw p.expires then becomeStandby part (advance w p.expires) else w

/-- A command of the mirror unit runs only while Cupola serves. -/
def whileLive (f : Work → Work) (w : Work) : Work := if cupolaLive w.hw then f w else w

/-! ## Mailbox commands -/

/-- The `PAIR_READ` payload of a partition; of an unpaired one every field is zero (R511, R533). -/
def reportOf (hw : Hw) (part : Nat) : List Byte :=
  match findPair hw part with
  | some p => pairReport hw p
  | none => zeros 576

/-- `PAIR_SET` names a partner that R510 refuses. -/
def pairRefused (hw : Hw) (r : Request) : Bool :=
  r.arg 4 4 == 0 || hw.links.base.map (fun b => b.1) != some (r.arg 0x10 2 / 64) || r.arg 8 8 == hw.keep.serial
    || (match findPair hw (r.arg 1 1) with | some p => p.id != r.arg 4 4 | none => false)

/-- A pair leaves the module: its holder releases its lease, and its streams end (R515, R530). -/
def dissolvePair (part : Nat) (w : Work) : Work :=
  (releaseLease part w).up fun h => { h with mirror := { h.mirror with
    pairs := h.mirror.pairs.filter (fun p => p.part != part)
    streams := h.mirror.streams.filter (fun e => e.1 / 256 != part) } }

/-- A pair as `PAIR_SET` forms it: a standby that seeks its partner. -/
def freshPair (r : Request) : Pair := {
  part := r.arg 1 1
  partnerPart := r.arg 2 1
  id := r.arg 4 4
  serial := r.arg 8 8
  base := r.arg 0x10 2
  state := .seeking
  role := .standby
  epoch := 0
  expires := 0
  partnerExpires := 0
  reported := 0
  helloTick := none
  peerRole := 0
  peerFlags := 0
  peerEpoch := 0
  peerEnded := 0
  peerCommitted := 0
  ended := 0
  committed := 0
  behind := false
  staleTakeover := false
  released := none
  releaseNext := false
  switching := none
  ends := []
  heldRecs := []
  answered := []
  rerun := false
  copies := [] }

/-- `PAIR_SET` (R510). -/
def doPairSet (r : Request) (w : Work) : Answer :=
  let part := r.arg 1 1
  if !r.shape 32 [(3, 1), (0x12, 14)] || 1 < r.arg 0 1 || 3 < r.arg 2 1 || partCount w.hw ≤ part || pairRefused w.hw r then malformed w
  else if w.hw.plans.plans.any (fun p => p.part == part) then refusedWith stPlanActive w
  else
    let w1 := dissolvePair part w
    if r.arg 0 1 = 0 then accepted w1
    else accepted (w1.up fun h => { h with mirror := { h.mirror with pairs := h.mirror.pairs ++ [freshPair r] } })

/-- A grant takes force (R513): of mode 2 it ends the lease and the holder sends `RELEASE` at the next tick (R530). -/
def grantLease (p : Pair) (r : Request) (w : Work) : Work :=
  let mode := r.arg 1 1
  let epoch := r.arg 8 8
  if mode = 2 then
    let w1 := modPair p.part (fun q => { q with epoch := epoch, expires := 0, releaseNext := q.releaseNext || q.role == .holder }) w
    if p.role == .holder then becomeStandby p.part w1 else w1
  else modPair p.part (fun q => { q with
    epoch := epoch
    expires := r.arg 0x10 8
    partnerExpires := if mode = 1 || q.role == .standby then r.arg 0x18 8 else q.partnerExpires }) w

/-- `LEASE_GRANT` (R513). -/
def doLeaseGrant (r : Request) (w : Work) : Answer :=
  let part := r.arg 0 1
  let expires := r.arg 0x10 8
  let now := w.hw.time.now
  match findPair w.hw part with
  | none => malformed w
  | some p =>
    if !r.shape 32 [(2, 6)] || 2 < r.arg 1 1 || expires ≤ now || now + 2000000000 < expires || r.arg 8 8 ≤ p.epoch
        || (r.arg 1 1 != 1 && r.arg 0x18 8 != 0) then malformed w
    else
      let w1 := grantLease p r w
      .reply stDone (reportOf w1.hw part) w1

/-- `SWITCH_OVER` (R529): on a holder the response waits for the standby. -/
def doSwitchOver (r : Request) (w : Work) : Answer :=
  let part := r.arg 0 1
  if !r.shape 4 [(1, 3)] || partCount w.hw ≤ part then malformed w
  else
    let notHolder (last : Nat) : Answer := .reply stDone (leBytes 1 2 ++ zeros 7 ++ leBytes 8 last ++ reportOf w.hw part) w
    match findPair w.hw part with
    | none => notHolder 0
    | some p =>
      if p.role != .holder then notHolder (lastSent p)
      else if p.switching.isSome then refusedWith stTargetBusy w
      else .later none (modPair part (fun q => { q with switching := some (r.channel, r.slot, w.hw.time.now) }) w)

/-- The windows as the settings that wait for the tick leave them. -/
def windowsAhead (hw : Hw) : List MirrorWindow :=
  hw.mirror.windowsNext.foldl (fun l e => l.filter (fun x => x.index != e.1) ++ e.2.toList) hw.mirror.windows

/-- Two windows share a byte or an object (R518). -/
def windowsOverlap (x y : MirrorWindow) : Bool :=
  match x.object, y.object with
  | some a, some b => x.plan == y.plan && a == b
  | none, none => x.address < y.address + y.length && y.address < x.address + x.length
  | _, _ => false

/-- The window that `MIRROR_WINDOW_SET` describes in a plan, its buffer not yet placed; none where R518 calls it malformed. -/
def windowOf (r : Request) (p : Plan) : Option MirrorWindow :=
  match p.reservations[r.arg 2 2]? with
  | none => none
  | some e =>
    let region := e.kind ≤ 1
    let x : MirrorWindow := {
      index := r.arg 0 1
      entry := r.arg 2 2
      plan := p.id
      part := p.part
      address := if region then e.base + r.arg 8 8 else 0
      object := if region then none else some e.object
      offset := r.arg 8 8
      length := r.arg 0x10 8
      maxUnits := r.arg 0x18 4
      buffer := 0
      written := []
      resync := 0
      stale := false }
    if region then
      if x.offset % 4096 == 0 && x.length % 4096 == 0 && 0 < x.length && x.offset + x.length ≤ e.pages * 65536 then some x else none
    else if (e.kind == 5 || e.kind == 6) && x.offset == 0 && x.length == 0 then some x
    else none

/-- A window is set or removed at the next tick. -/
def queueWindow (i : Nat) (x : Option MirrorWindow) (w : Work) : Work :=
  w.up fun h => { h with mirror := { h.mirror with windowsNext := h.mirror.windowsNext ++ [(i, x)] } }

/-- `MIRROR_WINDOW_SET` (R518). -/
def doMirrorWindowSet (r : Request) (w : Work) : Answer :=
  let i := r.arg 0 1
  let ahead := windowsAhead w.hw
  let others := ahead.filter (fun x => x.index != i)
  let held := ahead.any (fun x => x.index == i && x.plan != r.arg 4 4)
  if !r.shape 32 [(0x1C, 4)] || 63 < i || 1 < r.arg 1 1 || !inRange 1 65536 (r.arg 0x18 4) then malformed w
  else match findPlan w.hw (r.arg 4 4) with
    | none => malformed w
    | some p =>
      match windowOf r p with
      | none => malformed w
      | some x =>
        if (findPair w.hw p.part).isNone then malformed w
        else if r.arg 1 1 = 0 then
          if held then malformed w else accepted (queueWindow i none w)
        else if others.any (windowsOverlap x) then malformed w
        else if held then refusedWith stNoResource w
        else
          let free : Hw := { w.hw with mirror := { w.hw.mirror with windows := others, windowsNext := [] } }
          let pl : Place := .share p.part
          match placeRun free pl (usedRuns free pl) (3 * x.maxUnits * (if x.object.isSome then 65536 else 4096)) with
          | .error _ => refusedWith stNoResource w
          | .ok a => accepted (queueWindow i (some { x with buffer := a }) w)

/-- `PAIR_READ` (R533). -/
def doPairRead (r : Request) (w : Work) : Answer :=
  let part := r.arg 0 1
  if !r.shape 4 [(1, 3)] || partCount w.hw ≤ part then malformed w else .reply stDone (reportOf w.hw part) w

end Sys2Proof.Machine
end

