-- ==== Sys2Proof/Machine/MirrorCommands.lean ====
section
/-! DEFINITION. Machine/MirrorCommands.lean: the records, events and mailbox commands of mirror pairs (16_mirror_pair). -/
namespace Sys2Proof.Machine

/-! ## Records -/

/-- `HELLO` (R511): a flit of the record, of kind 1 in R523. -/
def execHello (rx : Rx) (payload : List Byte) (s : State) : Host.Outcome State Fault Refusal :=
  run s (takeMirrorFlit 1 rx payload)

/-- `GRANULE` (R519): a flit of the record, of kind 2 in R523. -/
def execGranule (rx : Rx) (payload : List Byte) (s : State) : Host.Outcome State Fault Refusal :=
  run s (takeMirrorFlit 2 rx payload)

/-- `PAGE` (R519): a flit of the record, of kind 3 in R523. -/
def execPage (rx : Rx) (payload : List Byte) (s : State) : Host.Outcome State Fault Refusal := run s (takeMirrorFlit 3 rx payload)

/-- `FRAME_END` (R519): a flit of the record, of kind 4 in R523. -/
def execFrameEnd (rx : Rx) (payload : List Byte) (s : State) : Host.Outcome State Fault Refusal :=
  run s (takeMirrorFlit 4 rx payload)

/-- `ACK` (R524): a flit of the record, of kind 5 in R523. -/
def execAck (rx : Rx) (payload : List Byte) (s : State) : Host.Outcome State Fault Refusal := run s (takeMirrorFlit 5 rx payload)

/-- `RESEND` (R524): a flit of the record, of kind 6 in R523. -/
def execResend (rx : Rx) (payload : List Byte) (s : State) : Host.Outcome State Fault Refusal :=
  run s (takeMirrorFlit 6 rx payload)

/-- `RELEASE` (R530): a flit of the record, of kind 7 in R523. -/
def execRelease (rx : Rx) (payload : List Byte) (s : State) : Host.Outcome State Fault Refusal :=
  run s (takeMirrorFlit 7 rx payload)

/-! ## Events -/

/-- `COMMIT` (R519). -/
def execCommit (part : Fin 4) (s : State) : Host.Outcome State Fault Refusal := run s (whileLive (commitFrame part.val))

/-- `MIRROR_COPY_COMPLETE` (R519). -/
def execMirrorCopyComplete (part : Fin 4) (s : State) : Host.Outcome State Fault Refusal := run s (whileLive (sendCopy part.val))

/-- `MIRROR_RESEND_TIMEOUT` (R524). -/
def execMirrorResendTimeout (part : Fin 4) (stream : Byte) (s : State) : Host.Outcome State Fault Refusal :=
  run s (resendOverdue part.val stream.toNat)

/-- `PARTNER_LOST` (R511). -/
def execPartnerLost (part : Fin 4) (s : State) : Host.Outcome State Fault Refusal := run s (losePartner part.val)

/-- `LEASE_EXPIRY` (R515). -/
def execLeaseExpiry (part : Fin 4) (s : State) : Host.Outcome State Fault Refusal := run s (leaseExpires part.val)

/-- `TAKEOVER` (R515, R528). -/
def execTakeover (part : Fin 4) (s : State) : Host.Outcome State Fault Refusal := run s (whileLive (takeOver part.val))

/-! ## Mailbox commands -/

/-- `PAIR_SET` (R510). -/
def execPairSet (channel : Fin 18) (slot : Fin 64) (s : State) : Host.Outcome State Fault Refusal :=
  run s (serve 0x80 anyOwner doPairSet channel.val slot.val)

/-- `LEASE_GRANT` (R513). -/
def execLeaseGrant (channel : Fin 18) (slot : Fin 64) (s : State) : Host.Outcome State Fault Refusal :=
  run s (serve 0x81 anyOwner doLeaseGrant channel.val slot.val)

/-- `SWITCH_OVER` (R529). -/
def execSwitchOver (channel : Fin 18) (slot : Fin 64) (s : State) : Host.Outcome State Fault Refusal :=
  run s (serve 0x82 anyOwner doSwitchOver channel.val slot.val)

/-- `MIRROR_WINDOW_SET` (R518). -/
def execMirrorWindowSet (channel : Fin 18) (slot : Fin 64) (s : State) : Host.Outcome State Fault Refusal :=
  run s (serve 0x83 (fun hw r => ownPlan hw r (r.arg 4 4)) doMirrorWindowSet channel.val slot.val)

/-- `PAIR_READ` (R533). -/
def execPairRead (channel : Fin 18) (slot : Fin 64) (s : State) : Host.Outcome State Fault Refusal :=
  run s (serve 0x84 anyOwner doPairRead channel.val slot.val)

end Sys2Proof.Machine
end

