-- ==== Sys2Proof/Machine/ObserveHost.lean ====
section
/-! DEFINITION. Machine/ObserveHost.lean: the mailbox commands of observability: counter blocks, trace settings and reads, monitors (R536 to R555). -/
namespace Sys2Proof.Machine

/-! ## Counter blocks (R540, R541) -/

/-- Values of a counter block; 0 for a block outside the table. -/
def blockSize (block : Nat) : Nat :=
  match block with
  | 1 => 552
  | 2 => 21
  | 3 => 149
  | 4 => 19
  | 5 => 4394
  | 6 => 7
  | 7 => 21
  | 8 => 201
  | 9 => 13
  | 10 => 92
  | 11 => 29564
  | 12 => 12
  | 13 => 72
  | _ => 0

/-- A value is a counter of 32 bits, or of 16, and not of 64 (R213, R280, R365, R436, R466, R485, R508, R535, R539). -/
def counterWidth (block i : Nat) : Nat :=
  match block with
  | 2 => if i = 17 ∨ i = 20 then 16 else 64
  | 3 => if 138 ≤ i ∧ i < 144 then 32 else 64
  | 5 => if 4137 ≤ i ∧ i < 4393 then 32 else 64
  | 6 => if 5 ≤ i then 32 else 64
  | 7 => if i = 1 ∨ (3 ≤ i ∧ i < 7) ∨ (11 ≤ i ∧ i < 15) then 64 else 32
  | 8 => if i < 64 ∨ (144 ≤ i ∧ i < 180) then 32 else if i = 200 then 16 else 64
  | 9 => if 8 ≤ i ∧ i < 12 then 64 else 32
  | 10 => if 20 ≤ i ∧ i < 88 then 32 else 64
  | 12 => if i = 8 then 16 else if i = 9 ∨ i = 10 then 32 else 64
  | _ => 64

/-- A value is a current value, which a delta read returns as it stands (R541). -/
def isCurrent (block i : Nat) : Bool :=
  (block == 2 && (i == 17 || i == 20)) || (block == 8 && i == 200) || (block == 12 && i == 8)

/-- Partition of a per-partition value, or port code offset of a per-half value, that may be absent (R540). -/
def isAbsent (hw : Hw) (block i : Nat) : Bool :=
  match block with
  | 2 => decide (i < 16) && decide (partCount hw ≤ i % 4)
  | 4 => (decide (i < 8) && decide (partCount hw ≤ i % 4)) || (decide (9 ≤ i) && decide (i < 13) && decide (partCount hw ≤ i - 9))
  | 5 => (decide (i < 24) && !halfExists hw (i % 8)) || (decide (25 ≤ i) && decide (i < 41) && !halfExists hw ((i - 25) % 8))
  | 10 => (decide (i < 20) || decide (84 ≤ i)) && decide (partCount hw ≤ i % 4)
  | _ => false

/-- The module with the clocks, time and stretch of a snapshot, from which block 1 is read (R63). -/
def snapHw (x : Snap) : Hw :=
  let h : Hw := {}
  { h with
    clks := x.clks
    time := { h.time with now := x.instant }
    power := { h.power with spires := x.stretch.map (fun e => (e.1, { ({} : SpirePower) with stretch := e.2 })) } }

/-- Region of a Graver engine or Spire by the order of the time counters of block 1. -/
def timeRegion (i : Nat) : Nat := if i < 4 then 256 + i else 264 + (i - 4)

/-- A value of block 1 (R63, R540). -/
def clockValue (x : Snap) (i : Nat) : Nat :=
  let h := snapHw x
  if i < 256 then cyclesNow h i
  else if i < 260 then stretchNow h (i - 256)
  else if i < 536 then stoppedNow h (i - 260)
  else (stampOf h (timeRegion (i - 536))).1

/-- The cycles an engine of block 11 has counted: cores' engines in their core's clock, collective units and Graver engines in
theirs, pager paths in ns. -/
def engineCycles (x : Snap) (engine : Nat) : Nat :=
  let h := snapHw x
  if engine < 1536 then cyclesNow h (engine / 6)
  else if engine < 1540 then cyclesNow h (256 + (engine - 1536))
  else if engine < 1552 then cyclesNow h (264 + (engine - 1540))
  else x.instant

/-- Of the first n cycles of an engine's clock, those that it counts under a code: exactly one code in each (R537, R538). -/
def engineCount (engine resets code : Nat) : Nat → Nat
  | 0 => 0
  | n + 1 => engineCount engine resets code n + b2n (Config.engineCycle engine resets n % 18 == code)

/-- A value of block 11: `BUSY`, `STALL`, `IDLE` and the 16 reasons of an engine (R537, R538). -/
def engineValue (x : Snap) (i : Nat) : Nat :=
  let engine := i / 19
  let count (code : Nat) : Nat := engineCount engine x.light.resets code (engineCycles x engine)
  match i % 19 with
  | 0 => count 1
  | 1 => (List.range 16).foldl (fun n r => n + count (2 + r)) 0
  | 2 => count 0
  | k => count (k - 1)

/-- A value of block 12, the light counter set (R539). -/
def lightValue (x : Snap) (i : Nat) : Nat :=
  let l := x.light
  ([(x.instant - l.aonSince) / 1000000000, l.ticks, l.started, l.completed, l.overrun, l.skipped, l.aborted, l.energy, l.peak, l.resets,
    l.failed, l.admitted][i]?).getD 0

/-- A value of a block in a snapshot. -/
def snapValue (hw : Hw) (x : Snap) (block i : Nat) : Nat :=
  let v := match block with
    | 1 => clockValue x i
    | 11 => engineValue x i
    | 12 => lightValue x i
    | _ => if isAbsent hw block i then 0 else tabGet 0 x.ctr (block * 2 ^ 20 + i)
  v % 2 ^ counterWidth block i

/-- A value as `COUNTER_READ` returns it, from a snapshot; in delta mode from the two that are kept, the latest and the one before. -/
def readValue (hw : Hw) (x : Snap) (delta : Bool) (block i : Nat) : Nat :=
  let v := snapValue hw x block i
  if delta && !isCurrent block i then (v + 2 ^ 64 - snapValue hw hw.snapPrev block i) % 2 ^ 64 else v

/-- `COUNTER_READ` (R541). -/
def doCounterRead (r : Request) (w : Work) : Answer :=
  let block := r.arg 0 1
  let first := r.arg 4 4
  let count := r.arg 8 2
  let size := blockSize block
  let delta := r.arg 1 1 == 1
  let snap := if delta then w.hw.snapCur else snapOf w.hw r
  if !r.shape 12 [(2, 2), (10, 2)] || size == 0 || 1 < r.arg 1 1 || !inRange 1 500 count || size < first + count then malformed w
  else .reply stDone (leBytes 8 snap.tick ++ leBytes 4 size ++ zeros 4
    ++ (List.range count).flatMap (fun i => leBytes 8 (readValue w.hw snap delta block (first + i)))) w

/-! ## Traces (R543, R547) -/

/-- Burin's settings as those that wait for the tick leave them. -/
def burinAhead (hw : Hw) : BurinSt :=
  hw.burin.settings.foldl (fun b s => { b with
    exporting := bit s.tflags 3
    sink := bit s.tflags 4
    gib := if s.gib = 0 then b.gib else s.gib
    sinkEndpoint := if bit s.tflags 3 then s.sink else b.sinkEndpoint }) hw.burin

/-- A host channel names plans it admitted only, and changes neither the region, nor export, nor the sink (R543). -/
def mayTrace (hw : Hw) (r : Request) : Bool :=
  let b := burinAhead hw
  let flags := r.arg 0 1
  16 ≤ r.channel || (ownPlan hw r (r.arg 4 4) && (r.arg 1 1 == 0 || r.arg 1 1 == b.gib) && bit flags 3 == b.exporting
    && bit flags 4 == b.sink && (!bit flags 3 || r.arg 0x0C 4 == b.sinkEndpoint))

/-- `TRACE_SET` (R543). -/
def doTraceSet (r : Request) (w : Work) : Answer :=
  let gib := r.arg 1 1
  let plan := r.arg 4 4
  let mask := r.arg 8 4
  let maskOk := if plan = 0 then mask == 0 || mask == 256 else mask < 64 && (findPlan w.hw plan).isSome
  if !r.shape 32 [(2, 2), (0x10, 16)] || 31 < r.arg 0 1 || !(gib == 0 || inRange 4 64 gib) || !maskOk || 2 ^ 18 ≤ r.arg 0x0C 4 then malformed w
  else if gib != 0 && gib != (burinAhead w.hw).gib && !w.hw.plans.plans.isEmpty then refusedWith stPlanActive w
  else
    let s : TraceSetting := { tflags := r.arg 0 1, gib := gib, plan := plan, mask := mask, sink := r.arg 0x0C 4 }
    accepted (w.up fun h => { h with burin := { h.burin with settings := h.burin.settings ++ [s] } })

/-- `TRACE_READ` (R547). -/
def doTraceRead (r : Request) (w : Work) : Answer :=
  let b := w.hw.burin
  let first := max (r.arg 0 8) b.oldest
  let n := min (r.arg 8 2) (b.next - first)
  let bad := (List.range n).find? (fun i => !w.good (ringAddr w.hw (first + i)) 32)
  if !r.shape 16 [(10, 6)] || !inRange 1 125 (r.arg 8 2) then malformed w
  else match bad with
    | some i => refusedWith stUncorrectable (uncorrectableAt (ringAddr w.hw (first + i)) w)
    | none => .reply stDone (leBytes 8 b.next ++ leBytes 8 b.oldest ++ leBytes 2 n ++ zeros 14
        ++ (List.range n).flatMap (fun i => w.read (ringAddr w.hw (first + i)) 32)) w

/-! ## Monitors (R551 to R554) -/

/-- Offset of configuration i in the operands of `STIPPLE_SET`. -/
def monitorAt (i : Nat) : Nat := 4 + 16 * i

/-- A monitor configuration meets R551. -/
def monitorOk (r : Request) (i : Nat) : Bool :=
  let o := monitorAt i
  let log := r.arg (o + 1) 1 == 1
  r.arg o 1 ≤ 12 && r.arg (o + 1) 1 ≤ 1 && r.arg (o + 2) 2 == 0
    && (if log then r.arg (o + 12) 4 == 0 else r.arg (o + 12) 4 != 0)

/-- A host channel names its own plans only (R551). -/
def mayMonitor (hw : Hw) (r : Request) : Bool :=
  16 ≤ r.channel || (List.range (r.arg 1 1)).all (fun i =>
    r.arg (monitorAt i) 1 != 1 || (match findPlan hw (r.arg (monitorAt i + 4) 4) with
      | some p => p.channel == r.channel
      | none => false))

/-- The monitor that a configuration describes. -/
def monitorOf (r : Request) (i : Nat) : Monitor := {
  quantity := r.arg (monitorAt i) 1
  logBins := r.arg (monitorAt i + 1) 1 == 1
  select := r.arg (monitorAt i + 4) 4
  base := toSigned 32 (r.arg (monitorAt i + 8) 4)
  width := r.arg (monitorAt i + 12) 4 }

/-- `STIPPLE_SET` (R551). -/
def doStippleSet (r : Request) (w : Work) : Answer :=
  let first := r.arg 0 1
  let n := r.arg 1 1
  if !inRange 1 64 n || !r.shape (4 + 16 * n) [(2, 2)] || 64 < first + n || !(List.range n).all (monitorOk r) then malformed w
  else
    let new := (List.range n).map (fun i => (first + i, monitorOf r i))
    accepted (w.up fun h => { h with monitorsNext := h.monitorsNext ++ new })

/-- A monitor's 168 B in `STIPPLE_READ` (R554). -/
def monitorBytes (m : Monitor) : List Byte :=
  leBytes 1 m.quantity ++ leBytes 1 (b2n m.logBins) ++ zeros 2 ++ leBytes 4 m.select ++ leBytes 4 (ofSigned 32 m.base) ++ leBytes 4 m.width
    ++ leBytes 8 (ofSigned 64 m.min) ++ leBytes 8 (ofSigned 64 m.max) ++ zeros 8
    ++ (List.range 32).flatMap (fun b => leBytes 4 (tabGet 0 m.bins b))

/-- Two monitors of one configuration taken together: the samples of both (R553). -/
def mergeMonitor (m n : Monitor) : Monitor :=
  { m with
    min := if n.min < m.min then n.min else m.min
    max := if m.max < n.max then n.max else m.max
    bins := n.bins.foldl (fun t e => tabMod 0 t e.1 (fun b => satAdd 32 b e.2)) m.bins
    samples := m.samples + n.samples }

/-- A monitor goes on from a snapshot as if cleared at it (R554): with the samples since the latest one, and, from the one before, with those
in between, which are then all that the latest snapshot holds. -/
def clearAtSnapshot (older : Bool) (i : Nat) (w : Work) : Work :=
  w.up fun h =>
    let since := tabGet {} h.monitorsSince i
    let between := tabGet {} h.snapCur.interval i
    if older then { h with
      monitors := tabSet {} h.monitors i (mergeMonitor between since)
      snapCur := { h.snapCur with monitors := tabSet {} h.snapCur.monitors i between } }
    else { h with monitors := tabSet {} h.monitors i since }

/-- `STIPPLE_READ` (R554). -/
def doStippleRead (r : Request) (w : Work) : Answer :=
  let first := r.arg 0 1
  let n := r.arg 1 1
  if !r.shape 4 [(3, 1)] || !inRange 1 23 n || 64 < first + n || 1 < r.arg 2 1 then malformed w
  else
    let all := (List.range n).map (fun i => first + i)
    let snap := snapOf w.hw r
    let w1 := if r.arg 2 1 = 1 then forEach all (clearAtSnapshot (snap.tick != w.hw.snapCur.tick)) w else w
    .reply stDone (leBytes 8 snap.tick ++ zeros 8 ++ all.flatMap (fun i => monitorBytes (tabGet {} snap.monitors i))) w1

end Sys2Proof.Machine
end

