-- ==== Sys2Proof/Machine/ObserveCommands.lean ====
section
/-! DEFINITION. Machine/ObserveCommands.lean: the mailbox commands of observability (17_observability). -/
namespace Sys2Proof.Machine

/-- `COUNTER_READ` (R541). -/
def execCounterRead (channel : Fin 18) (slot : Fin 64) (s : State) : Host.Outcome State Fault Refusal :=
  run s (serve 0x50 anyOwner doCounterRead channel.val slot.val)

/-- `TRACE_SET` (R543). -/
def execTraceSet (channel : Fin 18) (slot : Fin 64) (s : State) : Host.Outcome State Fault Refusal :=
  run s (serve 0x51 mayTrace doTraceSet channel.val slot.val)

/-- `TRACE_READ` (R547). -/
def execTraceRead (channel : Fin 18) (slot : Fin 64) (s : State) : Host.Outcome State Fault Refusal :=
  run s (serve 0x52 anyOwner doTraceRead channel.val slot.val)

/-- `STIPPLE_SET` (R551). -/
def execStippleSet (channel : Fin 18) (slot : Fin 64) (s : State) : Host.Outcome State Fault Refusal :=
  run s (serve 0x53 mayMonitor doStippleSet channel.val slot.val)

/-- `STIPPLE_READ` (R554). -/
def execStippleRead (channel : Fin 18) (slot : Fin 64) (s : State) : Host.Outcome State Fault Refusal :=
  run s (serve 0x54 anyOwner doStippleRead channel.val slot.val)

end Sys2Proof.Machine
end

