-- ==== Sys2Proof/Machine/SupplyOps.lean ====
section
/-! DEFINITION. Machine/SupplyOps.lean: the supply, the pins, droop, temperatures, coolant, the removal and return of domains and the margin review (R408, R441 to R462, R576 to R583). -/
namespace Sys2Proof.Machine

/-- Lantern runs: AON is powered and it is ready (R401). -/
def lanternRuns (hw : Hw) : Bool := hw.power.aon && !hw.power.retained && hw.lantern.up

/-- Lantern's sample of the input voltage, in 0.01 V (R400, R463, R552). -/
def takeVolts (volts : Nat) (w : Work) : Work := sample 6 0 volts (modPower (fun p => { p with inputV := volts }) w)

/-! ## Supply events (R443 to R446) -/

/-- A supply warning (R443, R446): a warning flush that already runs is not begun again. -/
def supplyWarn (volts : Nat) (w : Work) : Work :=
  if !lanternRuns w.hw || 4700 ≤ volts then w
  else
    let w1 := bump 7 0 1 (takeVolts volts w)
    let w2 := modPower (fun p => { p with
      warning := true
      warningSeen := true
      warnClear := false
      warnAt := some (p.warnAt.getD w.hw.time.now) }) w1
    let w3 := sendAlert 1 (raise 21 0 0 0 0 (forceLowest 2 w2))
    if pagerLive w3.hw && !warningFlush w3.hw then startFlush .warning none none w3 else w3

/-- A dip too short for a warning (R443); the 5 ms of a recovery begin again. -/
def supplyDip (volts : Nat) (w : Work) : Work :=
  if !lanternRuns w.hw || 4700 ≤ volts then w else bump 7 1 1 (modPower (fun p => { p with warnClear := false }) (takeVolts volts w))

/-- The input has stayed above 48 V for 5 ms: a warning ends now, or once its flush has ended (R443, R446). -/
def supplyRecover (volts : Nat) (w : Work) : Work :=
  if !w.hw.power.aon || volts ≤ 4800 then w
  else
    let w1 := takeVolts volts w
    if !w1.hw.power.warning then w1 else endWarning (modPower (fun p => { p with warnClear := true }) w1)

/-- A module reset by the supply: PWR_GOOD falls, and a start waits for the input (R444, R577). -/
def supplyModuleReset (fate : JournalFate) (w : Work) : Work :=
  modPower (fun p => { p with pwrGood := false, resetDue := true }) (moduleReset fate true w)

/-- A supply reset below 43 V (R209, R444): with the hold-up requirement met the journal is in tier 3. -/
def supplyResetNow (volts : Nat) (holdup : Bool) (w : Work) : Work :=
  if !w.hw.power.aon || w.hw.power.retained || 4300 ≤ volts then w
  else
    let w1 := takeVolts volts w
    supplyModuleReset .lost (if holdup then drainAll w1 else w1)

/-- An over-voltage reset above 59.5 V (R209, R444). -/
def overVoltage (volts : Nat) (w : Work) : Work :=
  if !w.hw.power.aon || w.hw.power.retained || volts ≤ 5950 then w else supplyModuleReset .kept (takeVolts volts w)

/-- The input falls below 36 V: the AON domain is unpowered (R209, R416, R444). -/
def aonLost (w : Work) : Work :=
  if !w.hw.power.aon then w else modPower (fun p => { p with pwrGood := false }) (powerLoss .lost w)

/-! ## PWR_EN and the input supervisor (R576, R582, R583) -/

/-- An assertion of PWR_EN counts. -/
def pwrEnHigh (w : Work) : Work :=
  if w.hw.power.pwrEn then w else modPower (fun p => { p with pwrEn := true, pwrEnAt := w.hw.time.now }) w

/-- The supervisor powers the AON domain: PWR_EN asserted and the input above 48 V for 100 ms; a sample it has not given is a free
value above 48 V. -/
def aonPowered (w : Work) : Work :=
  let p := w.hw.power
  if !p.pwrEn || (p.aon && !p.retained) then w
  else
    let volts := if 4800 < p.inputV then p.inputV else 4801 + freeOf w % (2 ^ 16 - 4801)
    let w1 := if 4800 < p.inputV then w else freeUsed w
    let w2 := if p.aon then w1 else modLight (fun l => { l with aonSince := w.hw.time.now }) w1
    modPower (fun q => { q with aon := true, retained := false, pwrGood := true, inputV := volts }) w2

/-- A deassertion of PWR_EN counts, 20 ms after it began: power is removed in one of two ways (R583). -/
def pwrEnLow (w : Work) : Work :=
  if !w.hw.power.pwrEn then w
  else
    let w1 := modPower (fun p => { p with pwrEn := false, pwrEnAt := w.hw.time.now - 20000000 }) w
    let k := w.hw.keep
    if !w.hw.power.aon || w.hw.power.retained then w1
    else if isSafe w.hw || w.hw.power.tripCupola || (k.failed && !k.drained && w.hw.lantern.powerState != 4) then retainTier2 w1
    else if !pagerLive w1.hw then cutPower (drainAll w1)
    else
      let w2 := modMoves (fun l => if l.contains .cut then l else l ++ [.cut]) (forceLowest 6 w1)
      if warningFlush w2.hw then w2 else startFlush .warning none none w2

/-! ## Regulator alert and droop (R441, R447, R448) -/

/-- VR_ALERT_N is asserted. -/
def vrAsserted (own : Bool) (w : Work) : Work :=
  if !lanternRuns w.hw then w
  else if w.hw.power.vrAlert then modPower (fun p => { p with vrOwn := own }) w
  else
    let w1 := modPower (fun p => { p with vrAlert := true, vrOwn := own, vrSince := some w.hw.time.now, vrReported := false }) w
    bump 7 2 1 (sendAlert 2 (forceLowest 1 w1))

/-- VR_ALERT_N has been deasserted for 1 ms. -/
def vrReleased (w : Work) : Work :=
  endLowest 1 (modPower (fun p => { p with vrAlert := false, vrOwn := false, vrSince := none, vrReported := false }) w)

/-- VR_ALERT_N stays asserted for more than 10 s. -/
def vrTooLong (w : Work) : Work :=
  match w.hw.power.vrSince with
  | none => w
  | some t =>
    let limit := t + 10000000000
    if !lanternRuns w.hw || w.hw.power.vrReported || !due w.hw limit then w
    else raise 22 0 0 0 0 (modPower (fun p => { p with vrReported := true }) (advance w limit))

/-- A detector sees a Spire's supply droop, no earlier than 1 us after its last event ended: by how much the event lengthens the cycles,
at most 12 %, is a free value (R448). What another detector sees meanwhile is part of the event in progress (log 77). -/
def beginDroop (s detector : Nat) (w : Work) : Work :=
  let p := spirePower w.hw s
  let early := match p.droopEnded.find? (fun e => e.1 == detector) with
    | some e => decide (w.hw.time.now < e.2 + 1000)
    | none => false
  if !w.hw.power.spireOn.contains s || p.droopSince.isSome || early then w
  else
    let rate := freeOf w % 12001
    bump 7 (3 + s) 1 (modSpire s (fun q => { q with droopSince := some w.hw.time.now, droopBy := detector, droopLong := false, droopRate := rate }) (freeUsed w))

/-- Stretching ends after a time, and the event's lengthening joins `STRETCH_TIME` (R59, R448). -/
def endStretch (s since lasted : Nat) (long : Bool) (w : Work) : Work :=
  modSpire s (fun q => { q with
    stretch := q.stretch + droopGrowth q.droopRate lasted
    droopSince := none
    droopEnded := tabSet 0 q.droopEnded q.droopBy (since + lasted)
    droopLong := long }) (advance w (since + lasted))

/-- The supply of a Spire recovers before 200 ns. -/
def endDroop (s lasted : Nat) (w : Work) : Work :=
  match (spirePower w.hw s).droopSince with
  | none => w
  | some t => if 200 ≤ lasted || !due w.hw (t + lasted) then w else endStretch s t lasted false w

/-- A droop event reaches 200 ns. -/
def longDroop (s : Nat) (w : Work) : Work :=
  match (spirePower w.hw s).droopSince with
  | none => w
  | some t => if !due w.hw (t + 200) then w else raise 23 2 s 0 0 (bump 7 (7 + s) 1 (endStretch s t 200 true w))

/-! ## Temperatures (R449 to R454) -/

/-- A lower thermal rate applies at once (R451). -/
def applyThermal (s : Nat) (w : Work) : Work :=
  let p := spirePower w.hw s
  if p.matrixRate ≤ p.thermalRate || 1 < w.hw.lantern.powerState then w
  else publishModule (modLantern (fun l => { l with powerState := 1 }) (setMatrixRate s (max p.thermalRate (lowestRate w.hw s)) w))

/-- A thermal sample of the module (R450, R451, R453). -/
def thermalSampleNow (spots : List (Nat × Int × Int)) (w : Work) : Work :=
  if !lanternRuns w.hw then w
  else
    let w1 := forEach spots (fun x w => samplePair x.1 x.2.1 x.2.2 w) w
    endEmergency (forEach [0, 1, 2, 3] (fun s w => applyThermal s (thermalRate s w)) w1)

/-- A thermal emergency begins on a Spire (R453). -/
def beginEmergency (s : Nat) (w : Work) : Work :=
  let w1 := match (spirePower w.hw s).hotSince with
    | some t => if due w.hw (t + 10000000) then advance w (t + 10000000) else w
    | none => w
  if !lanternRuns w.hw || (spirePower w.hw s).emergency || !emergencyDue w1.hw s then w
  else raise 25 2 s 0 0 (bump 7 19 1 (forceLowest 3 (modSpire s (fun p => { p with emergency := true }) w1)))

/-- The domains of the four Spires are removed by a thermal trip: what ran there ends, and the module is not ready. -/
def tripSpires (w : Work) : Work :=
  let w1 := removeSpires (releaseEvery (abortEvery w))
  publishModule (modKeep (fun k => { k with ready := false }) (modLight (fun l => { l with resets := l.resets + 1 }) w1))

/-- A hot spot's comparator trips (R454), but for one in pair status 3 (R450): independent of Lantern. On Cupola the Cupola main domain is removed as well, and during the flush of a
counted deassertion tier 2 is retained (R584). -/
def thermalTripNow (spot : Nat) (w : Work) : Work :=
  let cupola := 120 ≤ spot
  if !w.hw.power.aon || w.hw.power.retained || (spotOf w.hw spot).status = 3 || (w.hw.power.tripLatch && (!cupola || w.hw.power.tripCupola)) then w
  else
    let w1 := modPower (fun p => { p with tripLatch := true, tripAt := some w.hw.time.now }) w
    let w2 := sendAlert 4 (raise 26 9 spot 0 0 w1)
    if !cupola then tripSpires w2
    else
      let w3 := (clearTiers .kept w2).up fun h => afterReset h .kept true true
      let w4 := publishBelfry (publishModule (modPower (fun p => { p with tripCupola := true })
        (modLight (fun l => { l with resets := l.resets + 1 }) w3)))
      if w.hw.power.moves.contains .cut then retainTier2 w4 else w4

/-- The trip latch is cleared: PWR_EN has been deasserted for 100 ms since the later of the trip and the deassertion (R576). -/
def releaseTrip (w : Work) : Work :=
  let p := w.hw.power
  let limit := max p.pwrEnAt (p.tripAt.getD 0) + 100000000
  if !p.tripLatch || p.pwrEn || !due w.hw limit then w
  else modPower (fun q => { q with tripLatch := false, tripAt := none }) (advance w limit)

/-! ## Coolant (R457, R458) -/

/-- An orderly halt begins: flow below 1.2 L/min, or the inlet above 52 C, for 1 s (R457). -/
def beginHalt (w : Work) : Work :=
  let limit := least ((w.hw.lantern.lowFlowSince.toList ++ w.hw.lantern.hotInletSince.toList).map (fun t => t + 1000000000))
  match limit with
  | none => w
  | some t =>
    if !lanternRuns w.hw || haltRuns w.hw || 3 ≤ w.hw.lantern.powerState || !due w.hw t then w
    else
      let w1 := modPower (fun p => { p with coolantMode := 2 }) (releaseAll (advance w t))
      let w2 := sendAlert 6 (modMoves (fun l => l ++ [.accepted false true w1.hw.time.now none]) w1)
      logPower 19 2 0 0 (raise 27 0 0 0 0 (bump 7 20 1 w2))

/-- A sudden coolant loss (R458): it overrides a halt in progress. -/
def coolantLoss (w : Work) : Work :=
  if !lanternRuns w.hw || w.hw.power.coolantMode = 3 || 3 ≤ w.hw.lantern.powerState || !lossDue w.hw then w
  else
    let w1 := modPower (fun p => { p with coolantMode := 3, moves := p.moves.filter (fun m => m == .cut) }) (releaseAll w)
    let w2 := raise 28 0 0 0 0 (bump 7 20 1 (sendAlert 3 (forceLowest 4 w1)))
    let w3 := w2.up fun h => { h with pager := { h.pager with flushes := h.pager.flushes.filter (fun f => f.kind != .halt) } }
    if pagerLive w3.hw then startFlush .emergency none none w3
    else modMoves (fun l => l ++ [.removal false true w3.hw.time.now]) (releaseEvery (abortEvery w3))

/-! ## Removal and return of domains (R407, R408, R461) -/

/-- A transition of module power at its last instant. -/
def removeAt (m : PowerMove) (w : Work) : Work :=
  match m with
  | .removal off halt t => if off then enterDark (advance w t) else enterStandby halt (advance w t)
  | _ => w

/-- The domains are removed, 100 ms after the flush of an order or halt ended (R407, R457, R458). -/
def removeDomains (w : Work) : Work :=
  match w.hw.power.moves.find? (fun m => match m with
    | .removal _ _ t => due w.hw t
    | _ => false) with
  | some m => removeAt m w
  | none => w

/-- The module returns from STANDBY (R408, R426), or fails its start steps. -/
def resumeStandby (failure : Option (Nat × Nat)) (w : Work) : Work :=
  if !w.hw.power.waking || w.hw.lantern.powerState ≠ 3 then w
  else
    let w1 := modLantern (fun l => { l with powerState := 2, standbyOffered := false })
      (modPower (fun p => { p with waking := false, haltedWake := false, coolantMode := 0, selfRefresh := false }) w)
    match failure with
    | some (cause, detail) => failStart cause detail w1
    | none =>
      let w2 := modKeep (fun k => { k with lpUp := true }) (modLantern (fun l => { l with lowest := l.lowest.filter (fun c => c != 4) }) w1)
      publishModule ((powerSpires w2).zero 0 tier2Base)

/-- A Spire's part of a margin review (R461): a voltage step joins the setpoint in force when the Spire is next powered. -/
def reviewSpire (hours s slack : Nat) (w : Work) : Work :=
  let steps := (spirePower w.hw s).voltSteps
  let outcome := if 40 ≤ slack then 0 else if 25 ≤ slack && steps < 8 then 1 else 2
  let w1 := modSpire s (fun p => { p with
    worstSlack := slack
    outcome := outcome
    lastReview := hours
    voltSteps := if outcome = 1 then p.voltSteps + 1 else p.voltSteps }) w
  if outcome = 2 then raise 29 2 s 0 0 w1 else w1

/-- Parts whose last full training lies 8,760 powered hours back (R462). -/
def agedParts (hw : Hw) : List Nat := trainedParts.filter (fun p => hw.keep.trained.any (fun e => e.1 == p) && tabGet 0 hw.keep.trainedAt p + 8760 ≤ poweredHours hw)

/-- A margin review (R461, R462): the lowest slack of each Spire and the parts whose margin has fallen below 80 %, by their bits of
`STALE_MASK`. -/
def review (slack : List Nat) (margins : Nat) (w : Work) : Work :=
  let hours := poweredHours w.hw
  if !isReady w.hw || 3 ≤ w.hw.lantern.powerState || hours < w.hw.power.nextReview then w
  else
    let w1 := forEach (numbered 0 slack) (fun x w => reviewSpire hours x.1 x.2 w) w
    let aged := (agedParts w.hw).map staleBit
    modPower (fun p => { p with
      nextReview := p.nextReview + 720
      stale := (List.range 46).foldl (fun n i => if bit p.stale i || bit margins i || aged.contains i then n + 2 ^ i else n) 0 }) w1

end Sys2Proof.Machine
end

