-- ==== Sys2Proof/Machine/PowerHost.lean ====
section
/-! DEFINITION. Machine/PowerHost.lean: the mailbox commands of power and ageing (R406, R407, R409, R410, R429, R463 to R465). -/
namespace Sys2Proof.Machine

/-! ## Requests and orders -/

/-- A refused request or order is entered in the power order log (R410). -/
def refusePower (order value : Request → Nat) (status : Nat) (r : Request) (w : Work) : Work :=
  respond r status [] (logPower r.channel (order r) (value r) 3 w)

/-- A request or order is malformed. -/
def malformedPower (r : Request) (order value : Nat) (w : Work) : Answer := malformed (logPower r.channel order value 3 w)

/-- `CAP_W` has no effect above the other terms, and is clamped below P_F (R404, R405, R410). -/
def requestOutcome (hw : Hw) (channel cap : Nat) : Nat :=
  let l := hw.lantern
  let others := (least ((l.requests.filter (fun e => e.1 != channel)).map (fun e => e.2 / 5))).getD 0xFFFF
  if cap = 0 then 0
  else if cap < floorPower hw && !hw.plans.plans.isEmpty then 2
  else if min (min l.tokenTerm others) (min l.thermalTerm l.coolantTerm) < cap / 5 then 1
  else 0

/-- `POWER_REQUEST` (R406). -/
def doPowerRequest (r : Request) (w : Work) : Answer :=
  let cap := r.arg 0 2
  if !r.shape 4 [(2, 2)] || !(cap == 0 || (inRange 650 2800 cap && cap % 5 == 0)) then malformedPower r 1 cap w
  else
    let w1 := logPower r.channel 1 cap (requestOutcome w.hw r.channel cap)
      (modLantern (fun l => { l with requestsNext := l.requestsNext ++ [(r.channel, cap)] }) w)
    .reply stDone (leBytes 4 (capStatus w1.hw) ++ leBytes 8 (capTerms w1.hw)) w1

/-- `ORDER` of a `POWER_ORDER` as the log codes it (R410); an order outside the list has no stated code. -/
def orderCode (r : Request) : Nat := if inRange 1 3 (r.arg 0 1) then r.arg 0 1 + 1 else 0xFF

/-- The policy of a `POWER_ORDER` lies within its ranges (R407, R411). -/
def policyOk (r : Request) : Bool :=
  inRange 1024 32768 (r.arg 2 2) && r.arg 4 2 ≤ 16384 && inRange 1 64 (r.arg 6 1) && inRange 1 64 (r.arg 7 1) && r.arg 4 2 < r.arg 2 2

/-- `STANDBY` or `OFF` in a module whose start has failed (R391): only `OFF`, once the journal has been drained. -/
def orderFailed (r : Request) (w : Work) : Answer :=
  if r.arg 0 1 = 2 && w.hw.keep.drained then
    accepted (modMoves (fun l => l ++ [.removal true false (w.hw.time.now + 100000000)]) (logPower r.channel 3 0 0 w))
  else .reply stNotPermitted [] (logPower r.channel (orderCode r) 0 3 w)

/-- `STANDBY` or `OFF` is accepted: holders release their leases, and the transition begins at the next tick (R407, R530). -/
def orderAccepted (r : Request) (w : Work) : Answer :=
  let move : PowerMove := .accepted (r.arg 0 1 == 2) false w.hw.time.now (some (r.channel, r.slot))
  .later none (logPower r.channel (orderCode r) 0 0 (modMoves (fun l => l ++ [move]) (releaseAll w)))

/-- `POWER_ORDER` (R407, R409). -/
def doPowerOrder (r : Request) (w : Work) : Answer :=
  let order := r.arg 0 1
  if !r.shape 8 [(1, 1)] || !inRange 1 3 order || (order == 3 && !policyOk r) || (order != 3 && r.arg 2 6 != 0) then
    malformedPower r (orderCode r) 0 w
  else if w.hw.keep.phase = 15 ∧ order ≠ 3 then orderFailed r w
  else if order = 3 then
    accepted (logPower r.channel 4 0 0 (modLantern (fun l => { l with
      policyNext := some (r.arg 2 2, r.arg 4 2, r.arg 6 1, r.arg 7 1) }) w))
  else if !w.hw.power.moves.isEmpty then .reply stTargetBusy [] (logPower r.channel (orderCode r) 0 3 w)
  else orderAccepted r w

/-- `ORPHAN_CAP_SET` (R429). -/
def doOrphanCapSet (r : Request) (w : Work) : Answer :=
  let percent := r.arg 0 1
  if !r.shape 4 [(1, 3)] || !inRange 25 100 percent then malformedPower r 5 percent w
  else accepted (logPower r.channel 5 percent 0 (modLantern (fun l => { l with orphanNext := some percent }) w))

/-! ## Reads -/

/-- `SUPPLY_STATUS` (R463). -/
def supplyStatus (hw : Hw) : Nat :=
  let p := hw.power
  b2n p.warning + 2 * b2n (warningFlush hw) + 4 * b2n p.vrAlert + 8 * b2n p.vrOwn + 16 * b2n p.warningSeen + 32 * b2n p.resetSeen
    + 65536 * p.inputV

/-- `COOLANT_STATUS` (R463). -/
def coolantStatus (hw : Hw) : Nat :=
  let p := hw.power
  p.coolantMode + 4 * b2n p.flowUnknown + 8 * b2n p.inletHigh + 65536 * p.coolantFactor

/-- `THERMAL_STATUS` of a Spire (R463). -/
def thermalStatus (hw : Hw) (s : Nat) : Nat :=
  let p := spirePower hw s
  p.thermalRate + 128 * b2n p.throttling + 256 * b2n p.emergency + 512 * b2n p.atClamp + 1024 * p.hottestSpot
    + 65536 * ofSigned 16 p.hottest

/-- `HOTSPOT_STATUS` of a Spire (R463). -/
def hotspotStatus (hw : Hw) (s : Nat) : Nat :=
  (List.range 30).foldl (fun n h => n + 4 ^ h * (spotOf hw (30 * s + h)).status) 0

/-- `POWER_READ` (R464). -/
def doPowerRead (r : Request) (w : Work) : Answer :=
  let hw := w.hw
  let l := hw.lantern
  let spires := List.range 4
  let cupola : Nat := (List.range 8).foldl (fun n c => n + 4 ^ c * (spotOf hw (120 + c)).status) 0
  if !r.shape 0 [] then malformed w
  else .reply stDone (leBytes 4 (capStatus hw) ++ leBytes 4 (supplyStatus hw) ++ leBytes 4 (coolantStatus hw) ++ leBytes 2 (l.appliedCap / 5000000)
    ++ leBytes 2 hw.power.meanPower ++ leBytes 8 (capTerms hw) ++ spires.flatMap (fun s => leBytes 4 (thermalStatus hw s))
    ++ spires.flatMap (fun s => leBytes 8 (hotspotStatus hw s)) ++ spires.flatMap (fun s => leBytes 1 (spirePower hw s).matrixRate)
    ++ leBytes 2 cupola ++ leBytes 2 (ofSigned 16 l.inlet) ++ leBytes 2 (ofSigned 16 l.outlet) ++ leBytes 2 l.flow ++ zeros 12) w

/-- `AGEING_READ` (R465). -/
def doAgeingRead (r : Request) (w : Work) : Answer :=
  let hw := w.hw
  let spire (s : Nat) : List Byte :=
    let p := spirePower hw s
    leBytes 2 p.worstSlack ++ leBytes 2 p.baseline ++ leBytes 1 p.voltSteps ++ leBytes 1 p.outcome ++ zeros 2 ++ leBytes 4 p.lastReview ++ zeros 4
  if !r.shape 0 [] then malformed w
  else .reply stDone (leBytes 4 (poweredHours hw) ++ leBytes 4 hw.power.nextReview ++ leBytes 8 hw.power.stale
    ++ (List.range 4).flatMap spire) w

end Sys2Proof.Machine
end

