-- ==== Sys2Proof/Machine/PowerCommands.lean ====
section
/-! DEFINITION. Machine/PowerCommands.lean: the mailbox commands of power and ageing (12_lantern_and_belfry, 13_power_thermal_ageing). -/
namespace Sys2Proof.Machine

/-- `POWER_REQUEST` (R406). -/
def execPowerRequest (channel : Fin 18) (slot : Fin 64) (s : State) : Host.Outcome State Fault Refusal :=
  run s (serveWith 0x70 (refusePower (fun _ => 1) (fun r => r.arg 0 2)) anyOwner doPowerRequest channel.val slot.val)

/-- `POWER_ORDER` (R407). -/
def execPowerOrder (channel : Fin 18) (slot : Fin 64) (s : State) : Host.Outcome State Fault Refusal :=
  run s (serveWith 0x71 (refusePower orderCode (fun _ => 0)) anyOwner doPowerOrder channel.val slot.val)

/-- `ORPHAN_CAP_SET` (R429). -/
def execOrphanCapSet (channel : Fin 18) (slot : Fin 64) (s : State) : Host.Outcome State Fault Refusal :=
  run s (serveWith 0x72 (refusePower (fun _ => 5) (fun r => r.arg 0 1)) anyOwner doOrphanCapSet channel.val slot.val)

/-- `POWER_READ` (R464). -/
def execPowerRead (channel : Fin 18) (slot : Fin 64) (s : State) : Host.Outcome State Fault Refusal :=
  run s (serve 0x73 anyOwner doPowerRead channel.val slot.val)

/-- `AGEING_READ` (R465). -/
def execAgeingRead (channel : Fin 18) (slot : Fin 64) (s : State) : Host.Outcome State Fault Refusal :=
  run s (serve 0x74 anyOwner doAgeingRead channel.val slot.val)

end Sys2Proof.Machine
end

