-- ==== Sys2Proof/Machine/RecoverOps.lean ====
section
/-! DEFINITION. Machine/RecoverOps.lean: scrubbing, the return and deadline of a domain, register writes, and the mailbox commands of fault collection and recovery (R10, R470, R471, R479 to R484, R492 to R497, R506, R507). -/
namespace Sys2Proof.Machine

/-! ## Scrubbing (R470, R471, R485) -/

/-- A stack or LPDDR6 package is powered and out of reset, so that its controller scrubs it. -/
def scrubbed (hw : Hw) (u : Nat) : Bool :=
  if u < 12 then hw.power.hbmOn.contains (u / 3) && !stackInReset hw u else hw.keep.lpUp

/-- The separate passes of the last 72 h in which scrubbing corrected a row. -/
def rowPasses (f : FaultSt) (row : Nat) : List Nat := ((f.scrubHits.filter (fun x => x.1 == row)).map (fun x => x.2.1)).eraseDups

/-- A corrected error of a unit: more than 256 within 1 s raise `MEM_CORRECTED`, no more than once per hour (R470). -/
def noteCorrected (u a : Nat) (w : Work) : Work :=
  let now := w.hw.time.now
  let w1 := (bump 8 (64 + u) 1 w).up fun h => { h with fault := { h.fault with
    ceWindow := h.fault.ceWindow.filter (fun x => now < x.2 + 1000000000) ++ [(u, now)] } }
  let many := decide (256 < (w1.hw.fault.ceWindow.filter (fun x => x.1 == u)).length)
  let lately := w.hw.fault.ceRaised.any (fun x => x.1 == u && decide (now < x.2 + 3600000000000))
  if many && !lately then
    raise 8 (memUnitKind u).1 (memUnitKind u).2 0 a (w1.up fun h => { h with fault := { h.fault with
      ceRaised := h.fault.ceRaised.filter (fun x => x.1 != u) ++ [(u, now)] } })
  else w1

/-- Scrubbing corrects an error: after three separate passes within 72 h the row is retired (R471). -/
def scrubCorrects (a : Nat) (w : Work) : Work :=
  let u := memUnit a
  let row := a / 32 * 32
  let now := w.hw.time.now
  let pass := w.hw.keep.bootCount * 2 ^ 32 + ctrOf w.hw 8 (144 + u)
  let w1 := (noteCorrected u a w).up fun h => { h with fault := { h.fault with
    scrubHits := h.fault.scrubHits.filter (fun x => now < x.2.2 + 259200000000000) ++ [(row, pass, now)] } }
  if 3 ≤ (rowPasses w1.hw.fault row).length then
    retireRow a (w1.up fun h => { h with fault := { h.fault with scrubHits := h.fault.scrubHits.filter (fun x => x.1 != row) } })
  else w1

/-- A scrub read meets an uncorrectable error: the data and its check stay, so that later reads fail again (R470, R594). -/
def scrubFails (a : Nat) (w : Work) : Work :=
  let u := memUnit a
  let row := a / 32 * 32
  let w1 := w.up fun h => { h with bad := if h.bad.contains row then h.bad else h.bad ++ [row] }
  raise 9 (memUnitKind u).1 (memUnitKind u).2 0 a (uncorrectableAt a w1)

/-- What a scrub read of tier 1 or tier 2 met. -/
def scrubRead (a : Nat) (outcome : ScrubOutcome) (w : Work) : Work :=
  if !inTiers a 1 || !scrubbed w.hw (memUnit a) then w
  else match outcome with
    | .clean => w
    | .corrected => scrubCorrects a w
    | .uncorrectable => scrubFails a w
    | .passEnd => bump 8 (144 + memUnit a) 1 w

/-! ## Domain resets (R493 to R497, R506) -/

/-- A domain's reset in its reset step. -/
def resetOf (hw : Hw) (kind unit : Nat) : Option DomainReset :=
  hw.hang.resets.find? (fun r => r.kind == kind && r.unit == unit && r.step == .reset)

/-- A reset domain is back; one that failed its own check is not (R494), nor one whose step must be repeated after a supply
warning (R495). -/
def domainBack (kind unit : Nat) (ok : Bool) (w : Work) : Work :=
  match resetOf w.hw kind unit with
  | none => w
  | some r => if !ok || w.hw.power.warning || r.deadline < w.hw.time.now then w else returnDomain kind unit w

/-- A domain reset misses its deadline: source 7, whose locked reaction resets the module (R493). -/
def domainMisses (kind unit : Nat) (w : Work) : Work :=
  match resetOf w.hw kind unit with
  | none => w
  | some r =>
    if w.hw.power.warning || !due w.hw r.deadline then w
    else
      let u := resetUnit w.hw kind unit
      raise 7 u.1 u.2 0 0 (bump 9 7 1 (advance w r.deadline))

/-- The unit exists among the kinds of R480 that have configuration registers. -/
def parityUnit (kind unit : Nat) : Bool :=
  match kind with
  | 1 => unit < 256
  | 2 => unit < 4
  | 3 => unit < 12
  | 4 => unit < 24
  | 5 => unit < 16
  | 6 => unit < 6
  | 7 => inRange 8 15 unit
  | 8 => unit = 0
  | 10 => unit < 4
  | _ => false

/-- A parity error in a configuration register of a unit (R475). -/
def parityError (kind unit : Nat) (w : Work) : Work :=
  if parityUnit kind unit && w.hw.power.aon && !w.hw.power.retained then raise 15 kind unit 0 0 w else w

/-! ## Register writes (R10, R367) -/

/-- The register has KL fields. -/
def isKeepLocked : Reg → Bool
  | .tickConfig => true
  | .tokenPolicy => true
  | .faultReaction _ => true
  | .keepOnly _ _ => true
  | _ => false

/-- The reads of Keep's items that R366 permits a master other than Keep. -/
def readPermitted (master : Master) : Reg → Bool
  | .keepOnly item read => read && (match item with
    | .fuses => true
    | .limitTables => true
    | .leases => true
    | .imageStore => master == .turret
    | _ => false)
  | _ => false

/-- A write by Keep to a register with KL fields sets them. -/
def writeLocked (reg : Reg) (v : Nat) (w : Work) : Work :=
  match reg with
  | .tickConfig =>
    let floor := bits v 22 16
    if inRange 16 64 floor && (floorConflict w.hw floor).isNone then
      w.up fun h => { h with time := { h.time with floorNext := some floor } }
    else w
  | .tokenPolicy => modLantern (fun l => { l with
      slackRelease := bits v 15 0
      slackClaim := bits v 31 16
      releaseStep := bits v 39 32
      claimStep := bits v 47 40
      orphanPercent := bits v 54 48 }) w
  | .faultReaction s => w.up fun h => { h with fault := { h.fault with reaction := h.fault.reaction.set s.toNat (bits v 4 0) } }
  | _ => w

/-- A write to a register without KL fields: RW fields are set, W1C bits are cleared, RO fields keep their values. -/
def writeOpen (reg : Reg) (v : Nat) (w : Work) : Work :=
  match reg with
  | .timeStatus => w.up fun h => { h with time := { h.time with mismatch := h.time.mismatch && !bit v 4 } }
  | .plinkStatus p => modPort p.val (fun q => { q with laneWear := q.laneWear && !bit v 24 }) w
  | .ctxStatus c => match contextHolder w.hw c.toNat with
    | some (_, core) => modCore core (fun x => { x with aborted := x.aborted && !bit v 14, faulted := x.faulted && !bit v 15 }) w
    | none => w
  | .supplyStatus => modPower (fun p => { p with warningSeen := p.warningSeen && !bit v 4, resetSeen := p.resetSeen && !bit v 5 }) w
  | .pairStatus p => modPair p.val (fun q => { q with staleTakeover := q.staleTakeover && !bit v 8 }) w
  | .hangConfig => w.up fun h => { h with hang := { h.hang with
      ticks := bits v 7 0
      windows := (List.range (bits v 10 8)).map (fun i => (h.hang.windows[i]?).getD (0, 0)) } }
  | _ => w

/-- A write to a register. A KL register keeps its value when the writer is not Keep, and source 3 is raised (R10, R366). -/
def writeRegister (master : Master) (reg : Reg) (v : Nat) (w : Work) : Work :=
  if !w.hw.power.aon then w
  else if !isKeepLocked reg then writeOpen reg v w
  else if master = .keep then writeLocked reg v w
  else if readPermitted master reg then w
  else raise 3 8 0 0 0 w

/-! ## Fault collection (R479 to R484) -/

/-- `FAULT_STATUS` (R484). -/
def faultStatus (hw : Hw) : Nat :=
  let f := hw.fault
  b2n f.safe.isSome + 2 * b2n (faultAsserted hw) + 4 * b2n f.pinHeld + 8 * b2n hw.keep.failed + 16 * f.pinSource

/-- A history entry (R480). -/
def histBytes (e : HistEntry) : List Byte :=
  leBytes 8 e.time ++ leBytes 4 e.seq ++ leBytes 1 e.source ++ leBytes 1 (e.reactions + 32 * b2n e.suppressed) ++ leBytes 2 e.ctx
    ++ leBytes 1 e.unitKind ++ leBytes 1 e.unit ++ leBytes 1 (b2n e.resync) ++ zeros 1 ++ leBytes 4 e.boot ++ leBytes 8 e.detail

/-- The payload of `FAULT_HISTORY_READ` (R481). -/
def historyReport (hw : Hw) : List Byte :=
  let f := hw.fault
  leBytes 4 (faultStatus hw) ++ leBytes 4 (if f.history.isEmpty then 0 else f.seq) ++ zeros 8
    ++ (List.range 64).flatMap (fun i => leBytes 1 ((f.reaction[i]?).getD 0))
    ++ (List.range 64).flatMap (fun i => leBytes 4 (tabGet 0 f.count i))
    ++ slice (f.history.flatMap histBytes) 0 1024

/-- `ACK_PIN` is not set on a host channel (R481). -/
def mayAcknowledge (_ : Hw) (r : Request) : Bool := 16 ≤ r.channel || !bit (r.arg 0 1) 0

/-- `FAULT_HISTORY_READ` (R481, R484). -/
def doFaultHistoryRead (r : Request) (w : Work) : Answer :=
  if !r.shape 4 [(1, 3)] || 1 < r.arg 0 1 then malformed w
  else
    let w1 := if r.arg 0 1 = 1 then w.up fun h => { h with fault := { h.fault with pinHeld := false } } else w
    .reply stDone (historyReport w1.hw) w1

/-- An entry of `FAULT_REACTION_SET` clears a locked reaction, sets a BLK that is not permitted, or names source 0 or 1. -/
def reactionRefused (e : Nat × Nat) : Bool :=
  e.1 < 2 || lockedReactions e.1 &&& e.2 != lockedReactions e.1 || (bit e.2 2 && !blockPermitted e.1)

/-- `FAULT_REACTION_SET` (R479). -/
def doFaultReactionSet (r : Request) (w : Work) : Answer :=
  let n := r.arg 0 1
  let es := (List.range n).map (fun i => (r.arg (4 + 2 * i) 1, r.arg (5 + 2 * i) 1))
  if !inRange 1 64 n || !r.shape (4 + 2 * n) [(1, 3)] || es.any (fun e => 32 < e.1 || 31 < e.2) || !noRepeats (es.map (fun e => e.1)) then malformed w
  else if es.any reactionRefused then refusedWith stNotPermitted w
  else accepted (w.up fun h => { h with fault := { h.fault with reactionNext := h.fault.reactionNext ++ es } })

/-! ## Recovery (R492, R506, R507) -/

/-- The instant of the scan that found a request. -/
def scanInstant (hw : Hw) (r : Request) : Nat := hw.time.tickAt - (hw.time.tick - r.tick) * period hw

/-- Units of a domain kind of R506. -/
def domainCount (hw : Hw) (kind : Nat) : Nat :=
  match kind with
  | 1 => 256
  | 2 => 4
  | 3 => partCount hw
  | 4 => 12
  | 5 => 6
  | _ => 4

/-- `DOMAIN_RESET` (R506): answered when the domain is back. -/
def doDomainReset (r : Request) (w : Work) : Answer :=
  let kind := r.arg 0 1
  let unit := r.arg 1 1
  if !r.shape 4 [(2, 2)] || !inRange 1 6 kind then malformed w
  else if domainCount w.hw kind ≤ unit then refusedWith stNotFound w
  else .later none (beginReset kind unit 4 0 (some (r.channel, r.slot, scanInstant w.hw r)) w)

/-- `MODULE_RESET` (R507): no response is written. -/
def doModuleReset (r : Request) (w : Work) : Answer :=
  if r.shape 4 [(0, 4)] then .later none (commandedReset w) else malformed w

/-- The payload of every `HANG_SET` response (R492). -/
def hangReport (hw : Hw) : List Byte :=
  let h := hw.hang
  leBytes 4 (h.ticks + 256 * h.windows.length)
    ++ (List.range 4).flatMap (fun i => let x := (h.windows[i]?).getD (0, 0); leBytes 4 x.1 ++ leBytes 4 x.2)
    ++ zeros 12 ++ h.records.flatten

/-- A sample window of `HANG_SET` lies in the scratchpad on 16 B bounds. -/
def windowOk (x : Nat × Nat) : Bool := x.1 % 16 == 0 && x.2 % 16 == 0 && x.1 + x.2 ≤ scratchBytes

/-- `HANG_SET` (R492). -/
def doHangSet (r : Request) (w : Work) : Answer :=
  let ticks := r.arg 0 1
  let n := r.arg 1 1
  let wins := (List.range n).map (fun i => (r.arg (4 + 8 * i) 4, r.arg (8 + 8 * i) 4))
  let total : Nat := (wins.map (fun x => x.2)).foldl (· + ·) 65536
  let unused (n : Nat) : Bool := (List.range (4 - n)).all (fun i => r.arg (8 + 8 * (n + i)) 4 == 0)
  if !r.shape 36 [(2, 2)] || ticks == 1 || (4 < n && n != 255) || (n ≤ 4 && (!wins.all windowOk || 262144 < total || !unused n)) then
    .reply stMalformed (hangReport w.hw) w
  else
    let e := (ticks, if n = 255 then none else some wins)
    .reply stDone (hangReport w.hw) (w.up fun h => { h with hang := { h.hang with next := h.hang.next ++ [e] } })

end Sys2Proof.Machine
end

