-- ==== Sys2Proof/Machine/RecoverCommands.lean ====
section
/-! DEFINITION. Machine/RecoverCommands.lean: scrubbing, the end of domain resets, register writes, and the mailbox commands of fault collection and recovery (14_integrity_and_faults, 15_hang_and_recovery). -/
namespace Sys2Proof.Machine

/-! ## Events -/

/-- `SCRUB` (R470, R471). -/
def execScrub (address : W64) (outcome : ScrubOutcome) (s : State) : Host.Outcome State Fault Refusal :=
  run s (scrubRead address.toNat outcome)

/-- `DOMAIN_RETURN` (R497): `ok` is whether the domain passed its own check. -/
def execDomainReturn (kind : Byte) (unit : Byte) (ok : Bool) (s : State) : Host.Outcome State Fault Refusal :=
  run s (domainBack kind.toNat unit.toNat ok)

/-- `DOMAIN_DEADLINE` (R493). -/
def execDomainDeadline (kind : Byte) (unit : Byte) (s : State) : Host.Outcome State Fault Refusal :=
  run s (domainMisses kind.toNat unit.toNat)

/-- `REGISTER_PARITY` (R475). -/
def execRegisterParity (kind : Byte) (unit : Byte) (s : State) : Host.Outcome State Fault Refusal :=
  run s (parityError kind.toNat unit.toNat)

/-- `REGISTER_WRITE` (R10). -/
def execRegisterWrite (master : Master) (reg : Reg) (value : W64) (s : State) : Host.Outcome State Fault Refusal :=
  run s (writeRegister master reg value.toNat)

/-! ## Mailbox commands -/

/-- `FAULT_HISTORY_READ` (R481). -/
def execFaultHistoryRead (channel : Fin 18) (slot : Fin 64) (s : State) : Host.Outcome State Fault Refusal :=
  run s (serve 0x60 mayAcknowledge doFaultHistoryRead channel.val slot.val)

/-- `FAULT_REACTION_SET` (R479). -/
def execFaultReactionSet (channel : Fin 18) (slot : Fin 64) (s : State) : Host.Outcome State Fault Refusal :=
  run s (serve 0x61 anyOwner doFaultReactionSet channel.val slot.val)

/-- `DOMAIN_RESET` (R506). -/
def execDomainReset (channel : Fin 18) (slot : Fin 64) (s : State) : Host.Outcome State Fault Refusal :=
  run s (serve 0x62 anyOwner doDomainReset channel.val slot.val)

/-- `MODULE_RESET` (R507). -/
def execModuleReset (channel : Fin 18) (slot : Fin 64) (s : State) : Host.Outcome State Fault Refusal :=
  run s (serve 0x63 anyOwner doModuleReset channel.val slot.val)

/-- `HANG_SET` (R492): every response carries its payload. -/
def execHangSet (channel : Fin 18) (slot : Fin 64) (s : State) : Host.Outcome State Fault Refusal :=
  run s (serveWith 0x64 (fun status r w => respond r status (hangReport w.hw) w) anyOwner doHangSet channel.val slot.val)

end Sys2Proof.Machine
end

