-- ==== Sys2Proof/Machine/SlotCommands.lean ====
section
/-! DEFINITION. Machine/SlotCommands.lean: the commands that give a core one slot of a bundle (R77 to R101, R136, R146 to R156). What a slot
does is its own definition in CoreScalar, CoreControl, CoreVector, CoreMatrix or CoreMove. -/
namespace Sys2Proof.Machine

/-- `ADD` (R82): Scalar 64-bit add, in one slot of a bundle. -/
def execAdd (sl : Slot) (s : State) : Host.Outcome State Fault Refusal := run s (giveSlot (.add sl))

/-- `SUB` (R82): Scalar 64-bit subtract, in one slot of a bundle. -/
def execSub (sl : Slot) (s : State) : Host.Outcome State Fault Refusal := run s (giveSlot (.sub sl))

/-- `MUL` (R82): Scalar 64-bit multiply, in one slot of a bundle. -/
def execMul (sl : Slot) (s : State) : Host.Outcome State Fault Refusal := run s (giveSlot (.mul sl))

/-- `AND` (R82): Scalar bitwise and, in one slot of a bundle. -/
def execAnd (sl : Slot) (s : State) : Host.Outcome State Fault Refusal := run s (giveSlot (.and sl))

/-- `OR` (R82): Scalar bitwise or, in one slot of a bundle. -/
def execOr (sl : Slot) (s : State) : Host.Outcome State Fault Refusal := run s (giveSlot (.or sl))

/-- `XOR` (R82): Scalar bitwise exclusive or, in one slot of a bundle. -/
def execXor (sl : Slot) (s : State) : Host.Outcome State Fault Refusal := run s (giveSlot (.xor sl))

/-- `SHL` (R82): Scalar shift left by B[5:0], in one slot of a bundle. -/
def execShl (sl : Slot) (s : State) : Host.Outcome State Fault Refusal := run s (giveSlot (.shl sl))

/-- `SHR` (R82): Scalar logical shift right, in one slot of a bundle. -/
def execShr (sl : Slot) (s : State) : Host.Outcome State Fault Refusal := run s (giveSlot (.shr sl))

/-- `SRA` (R82): Scalar arithmetic shift right, in one slot of a bundle. -/
def execSra (sl : Slot) (s : State) : Host.Outcome State Fault Refusal := run s (giveSlot (.sra sl))

/-- `MIN` (R82): Scalar signed minimum, in one slot of a bundle. -/
def execMin (sl : Slot) (s : State) : Host.Outcome State Fault Refusal := run s (giveSlot (.min sl))

/-- `MAX` (R82): Scalar signed maximum, in one slot of a bundle. -/
def execMax (sl : Slot) (s : State) : Host.Outcome State Fault Refusal := run s (giveSlot (.max sl))

/-- `SLT` (R82): Scalar signed set-less-than, in one slot of a bundle. -/
def execSlt (sl : Slot) (s : State) : Host.Outcome State Fault Refusal := run s (giveSlot (.slt sl))

/-- `SLTU` (R82): Scalar unsigned set-less-than, in one slot of a bundle. -/
def execSltu (sl : Slot) (s : State) : Host.Outcome State Fault Refusal := run s (giveSlot (.sltu sl))

/-- `ADDI` (R82): Scalar add of signed immediate, in one slot of a bundle. -/
def execAddi (sl : Slot) (s : State) : Host.Outcome State Fault Refusal := run s (giveSlot (.addi sl))

/-- `ANDI` (R82): Scalar and with immediate, in one slot of a bundle. -/
def execAndi (sl : Slot) (s : State) : Host.Outcome State Fault Refusal := run s (giveSlot (.andi sl))

/-- `ORI` (R82): Scalar or with immediate, in one slot of a bundle. -/
def execOri (sl : Slot) (s : State) : Host.Outcome State Fault Refusal := run s (giveSlot (.ori sl))

/-- `XORI` (R82): Scalar exclusive or with immediate, in one slot of a bundle. -/
def execXori (sl : Slot) (s : State) : Host.Outcome State Fault Refusal := run s (giveSlot (.xori sl))

/-- `SHLI` (R82): Scalar shift left by immediate, in one slot of a bundle. -/
def execShli (sl : Slot) (s : State) : Host.Outcome State Fault Refusal := run s (giveSlot (.shli sl))

/-- `SHRI` (R82): Scalar logical shift right by immediate, in one slot of a bundle. -/
def execShri (sl : Slot) (s : State) : Host.Outcome State Fault Refusal := run s (giveSlot (.shri sl))

/-- `SRAI` (R82): Scalar arithmetic shift right by immediate, in one slot of a bundle. -/
def execSrai (sl : Slot) (s : State) : Host.Outcome State Fault Refusal := run s (giveSlot (.srai sl))

/-- `SLTI` (R82): Scalar signed compare with immediate, in one slot of a bundle. -/
def execSlti (sl : Slot) (s : State) : Host.Outcome State Fault Refusal := run s (giveSlot (.slti sl))

/-- `LI` (R82): Load a sign-extended 60-bit long immediate, in one slot of a bundle. -/
def execLi (sl : Slot) (imm : BitVec 60) (s : State) : Host.Outcome State Fault Refusal := run s (giveSlot (.li sl imm))

/-- `LD8` (R82): Scratchpad 8-bit load, in one slot of a bundle. -/
def execLd8 (sl : Slot) (s : State) : Host.Outcome State Fault Refusal := run s (giveSlot (.ld8 sl))

/-- `LD16` (R82): Scratchpad 16-bit load, in one slot of a bundle. -/
def execLd16 (sl : Slot) (s : State) : Host.Outcome State Fault Refusal := run s (giveSlot (.ld16 sl))

/-- `LD32` (R82): Scratchpad 32-bit load, in one slot of a bundle. -/
def execLd32 (sl : Slot) (s : State) : Host.Outcome State Fault Refusal := run s (giveSlot (.ld32 sl))

/-- `LD64` (R82): Scratchpad 64-bit load, in one slot of a bundle. -/
def execLd64 (sl : Slot) (s : State) : Host.Outcome State Fault Refusal := run s (giveSlot (.ld64 sl))

/-- `ST8` (R82): Scratchpad 8-bit store, in one slot of a bundle. -/
def execSt8 (sl : Slot) (s : State) : Host.Outcome State Fault Refusal := run s (giveSlot (.st8 sl))

/-- `ST16` (R82): Scratchpad 16-bit store, in one slot of a bundle. -/
def execSt16 (sl : Slot) (s : State) : Host.Outcome State Fault Refusal := run s (giveSlot (.st16 sl))

/-- `ST32` (R82): Scratchpad 32-bit store, in one slot of a bundle. -/
def execSt32 (sl : Slot) (s : State) : Host.Outcome State Fault Refusal := run s (giveSlot (.st32 sl))

/-- `ST64` (R82): Scratchpad 64-bit store, in one slot of a bundle. -/
def execSt64 (sl : Slot) (s : State) : Host.Outcome State Fault Refusal := run s (giveSlot (.st64 sl))

/-- `BR` (R81): Unconditional branch by a 24-bit offset, in one slot of a bundle. -/
def execBr (sl : Slot) (s : State) : Host.Outcome State Fault Refusal := run s (giveSlot (.br sl))

/-- `CALL` (R81): Call, pushing the return stack, in one slot of a bundle. -/
def execCall (sl : Slot) (s : State) : Host.Outcome State Fault Refusal := run s (giveSlot (.call sl))

/-- `RET` (R81): Return from the return stack, in one slot of a bundle. -/
def execRet (sl : Slot) (s : State) : Host.Outcome State Fault Refusal := run s (giveSlot (.ret sl))

/-- `BEQ` (R81): Branch if A equals B, in one slot of a bundle. -/
def execBeq (sl : Slot) (s : State) : Host.Outcome State Fault Refusal := run s (giveSlot (.beq sl))

/-- `BNE` (R81): Branch if A differs from B, in one slot of a bundle. -/
def execBne (sl : Slot) (s : State) : Host.Outcome State Fault Refusal := run s (giveSlot (.bne sl))

/-- `BLT` (R81): Branch if A is less than B, in one slot of a bundle. -/
def execBlt (sl : Slot) (s : State) : Host.Outcome State Fault Refusal := run s (giveSlot (.blt sl))

/-- `BGE` (R81): Branch if A is at least B, in one slot of a bundle. -/
def execBge (sl : Slot) (s : State) : Host.Outcome State Fault Refusal := run s (giveSlot (.bge sl))

/-- `LOOP` (R81): Hardware loop over a body a register-given number of times, in one slot of a bundle. -/
def execLoop (sl : Slot) (s : State) : Host.Outcome State Fault Refusal := run s (giveSlot (.loop sl))

/-- `WAIT` (R89): Hold issue until a wait counter reaches a register value, in one slot of a bundle. -/
def execWait (sl : Slot) (s : State) : Host.Outcome State Fault Refusal := run s (giveSlot (.wait sl))

/-- `WAITI` (R89): Hold issue until a wait counter reaches an immediate, in one slot of a bundle. -/
def execWaiti (sl : Slot) (s : State) : Host.Outcome State Fault Refusal := run s (giveSlot (.waiti sl))

/-- `WCADD` (R88): Add an immediate to a wait counter, in one slot of a bundle. -/
def execWcadd (sl : Slot) (s : State) : Host.Outcome State Fault Refusal := run s (giveSlot (.wcadd sl))

/-- `WCREAD` (R82): Read a wait counter into a register, in one slot of a bundle. -/
def execWcread (sl : Slot) (s : State) : Host.Outcome State Fault Refusal := run s (giveSlot (.wcread sl))

/-- `TIME` (R57): Read the Spire time counter, in one slot of a bundle. -/
def execTime (sl : Slot) (s : State) : Host.Outcome State Fault Refusal := run s (giveSlot (.time sl))

/-- `CYC` (R59): Read the core cycle counter, in one slot of a bundle. -/
def execCyc (sl : Slot) (s : State) : Host.Outcome State Fault Refusal := run s (giveSlot (.cyc sl))

/-- `TICK` (R82): Read the current tick number, in one slot of a bundle. -/
def execTick (sl : Slot) (s : State) : Host.Outcome State Fault Refusal := run s (giveSlot (.tick sl))

/-- `CSRR` (R73): Read a control register, in one slot of a bundle. -/
def execCsrr (sl : Slot) (s : State) : Host.Outcome State Fault Refusal := run s (giveSlot (.csrr sl))

/-- `CSRW` (R74): Write a control register, checking CORE_MODE values, in one slot of a bundle. -/
def execCsrw (sl : Slot) (s : State) : Host.Outcome State Fault Refusal := run s (giveSlot (.csrw sl))

/-- `MARKB` (R548): Push a range marker and write a begin record, in one slot of a bundle. -/
def execMarkb (sl : Slot) (s : State) : Host.Outcome State Fault Refusal := run s (giveSlot (.markb sl))

/-- `MARKE` (R548): Pop a range marker and write an end record, in one slot of a bundle. -/
def execMarke (sl : Slot) (s : State) : Host.Outcome State Fault Refusal := run s (giveSlot (.marke sl))

/-- `MARKP` (R548): Write a point marker record, in one slot of a bundle. -/
def execMarkp (sl : Slot) (s : State) : Host.Outcome State Fault Refusal := run s (giveSlot (.markp sl))

/-- `END` (R102): Wait for all frame operations, mark the core complete and stop issue, in one slot of a bundle. -/
def execEndFrame (sl : Slot) (s : State) : Host.Outcome State Fault Refusal := run s (giveSlot (.endFrame sl))

/-- `VADD` (R83): Vector F32 add, in one slot of a bundle. -/
def execVadd (sl : Slot) (s : State) : Host.Outcome State Fault Refusal := run s (giveSlot (.vadd sl))

/-- `VSUB` (R83): Vector F32 subtract, in one slot of a bundle. -/
def execVsub (sl : Slot) (s : State) : Host.Outcome State Fault Refusal := run s (giveSlot (.vsub sl))

/-- `VMUL` (R83): Vector F32 multiply, in one slot of a bundle. -/
def execVmul (sl : Slot) (s : State) : Host.Outcome State Fault Refusal := run s (giveSlot (.vmul sl))

/-- `VFMA` (R83): Vector F32 fused multiply-add, in one slot of a bundle. -/
def execVfma (sl : Slot) (s : State) : Host.Outcome State Fault Refusal := run s (giveSlot (.vfma sl))

/-- `VMIN` (R83): Vector F32 minimum, in one slot of a bundle. -/
def execVmin (sl : Slot) (s : State) : Host.Outcome State Fault Refusal := run s (giveSlot (.vmin sl))

/-- `VMAX` (R83): Vector F32 maximum, in one slot of a bundle. -/
def execVmax (sl : Slot) (s : State) : Host.Outcome State Fault Refusal := run s (giveSlot (.vmax sl))

/-- `VABS` (R83): Vector F32 absolute value, in one slot of a bundle. -/
def execVabs (sl : Slot) (s : State) : Host.Outcome State Fault Refusal := run s (giveSlot (.vabs sl))

/-- `VNEG` (R83): Vector F32 negate, in one slot of a bundle. -/
def execVneg (sl : Slot) (s : State) : Host.Outcome State Fault Refusal := run s (giveSlot (.vneg sl))

/-- `VEXP2` (R83): Vector correctly rounded 2^A, in one slot of a bundle. -/
def execVexp2 (sl : Slot) (s : State) : Host.Outcome State Fault Refusal := run s (giveSlot (.vexp2 sl))

/-- `VLOG2` (R83): Vector correctly rounded log2 A, in one slot of a bundle. -/
def execVlog2 (sl : Slot) (s : State) : Host.Outcome State Fault Refusal := run s (giveSlot (.vlog2 sl))

/-- `VRCP` (R83): Vector correctly rounded reciprocal, in one slot of a bundle. -/
def execVrcp (sl : Slot) (s : State) : Host.Outcome State Fault Refusal := run s (giveSlot (.vrcp sl))

/-- `VRSQRT` (R83): Vector correctly rounded reciprocal square root, in one slot of a bundle. -/
def execVrsqrt (sl : Slot) (s : State) : Host.Outcome State Fault Refusal := run s (giveSlot (.vrsqrt sl))

/-- `VIADD` (R83): Vector I32 add, in one slot of a bundle. -/
def execViadd (sl : Slot) (s : State) : Host.Outcome State Fault Refusal := run s (giveSlot (.viadd sl))

/-- `VISUB` (R83): Vector I32 subtract, in one slot of a bundle. -/
def execVisub (sl : Slot) (s : State) : Host.Outcome State Fault Refusal := run s (giveSlot (.visub sl))

/-- `VIMUL` (R83): Vector I32 multiply, in one slot of a bundle. -/
def execVimul (sl : Slot) (s : State) : Host.Outcome State Fault Refusal := run s (giveSlot (.vimul sl))

/-- `VAND` (R83): Vector bitwise and, in one slot of a bundle. -/
def execVand (sl : Slot) (s : State) : Host.Outcome State Fault Refusal := run s (giveSlot (.vand sl))

/-- `VOR` (R83): Vector bitwise or, in one slot of a bundle. -/
def execVor (sl : Slot) (s : State) : Host.Outcome State Fault Refusal := run s (giveSlot (.vor sl))

/-- `VXOR` (R83): Vector bitwise exclusive or, in one slot of a bundle. -/
def execVxor (sl : Slot) (s : State) : Host.Outcome State Fault Refusal := run s (giveSlot (.vxor sl))

/-- `VSHL` (R83): Vector per-lane shift left, in one slot of a bundle. -/
def execVshl (sl : Slot) (s : State) : Host.Outcome State Fault Refusal := run s (giveSlot (.vshl sl))

/-- `VSHR` (R83): Vector per-lane logical shift right, in one slot of a bundle. -/
def execVshr (sl : Slot) (s : State) : Host.Outcome State Fault Refusal := run s (giveSlot (.vshr sl))

/-- `VSRA` (R83): Vector per-lane arithmetic shift right, in one slot of a bundle. -/
def execVsra (sl : Slot) (s : State) : Host.Outcome State Fault Refusal := run s (giveSlot (.vsra sl))

/-- `VCMPEQ` (R83): Vector compare equal into a predicate, in one slot of a bundle. -/
def execVcmpeq (sl : Slot) (s : State) : Host.Outcome State Fault Refusal := run s (giveSlot (.vcmpeq sl))

/-- `VCMPLT` (R83): Vector compare less-than into a predicate, in one slot of a bundle. -/
def execVcmplt (sl : Slot) (s : State) : Host.Outcome State Fault Refusal := run s (giveSlot (.vcmplt sl))

/-- `VCMPLE` (R83): Vector compare less-or-equal into a predicate, in one slot of a bundle. -/
def execVcmple (sl : Slot) (s : State) : Host.Outcome State Fault Refusal := run s (giveSlot (.vcmple sl))

/-- `VSEL` (R83): Vector select by predicate, in one slot of a bundle. -/
def execVsel (sl : Slot) (s : State) : Host.Outcome State Fault Refusal := run s (giveSlot (.vsel sl))

/-- `VBCAST` (R83): Broadcast a scalar into every lane, in one slot of a bundle. -/
def execVbcast (sl : Slot) (s : State) : Host.Outcome State Fault Refusal := run s (giveSlot (.vbcast sl))

/-- `VPERM` (R83): Vector lane permutation, in one slot of a bundle. -/
def execVperm (sl : Slot) (s : State) : Host.Outcome State Fault Refusal := run s (giveSlot (.vperm sl))

/-- `VSHIFTL` (R83): Move lanes down by an immediate with zero fill, in one slot of a bundle. -/
def execVshiftl (sl : Slot) (s : State) : Host.Outcome State Fault Refusal := run s (giveSlot (.vshiftl sl))

/-- `VREDADD` (R83): Vector halving-order F32 sum into lane 0, in one slot of a bundle. -/
def execVredadd (sl : Slot) (s : State) : Host.Outcome State Fault Refusal := run s (giveSlot (.vredadd sl))

/-- `VREDMAX` (R83): Vector halving-order maximum into lane 0, in one slot of a bundle. -/
def execVredmax (sl : Slot) (s : State) : Host.Outcome State Fault Refusal := run s (giveSlot (.vredmax sl))

/-- `VCVT` (R136): Convert 128 elements between formats under CORE_MODE.ROUND, in one slot of a bundle. -/
def execVcvt (sl : Slot) (s : State) : Host.Outcome State Fault Refusal := run s (giveSlot (.vcvt sl))

/-- `VCVTMX` (R136): Pack or unpack four microscaling blocks, in one slot of a bundle. -/
def execVcvtmx (sl : Slot) (s : State) : Host.Outcome State Fault Refusal := run s (giveSlot (.vcvtmx sl))

/-- `VLD` (R83): Vector load of 512 B from scratchpad, in one slot of a bundle. -/
def execVld (sl : Slot) (s : State) : Host.Outcome State Fault Refusal := run s (giveSlot (.vld sl))

/-- `VST` (R83): Vector store of 512 B to scratchpad, in one slot of a bundle. -/
def execVst (sl : Slot) (s : State) : Host.Outcome State Fault Refusal := run s (giveSlot (.vst sl))

/-- `VSTP` (R83): Vector store of predicated lanes, in one slot of a bundle. -/
def execVstp (sl : Slot) (s : State) : Host.Outcome State Fault Refusal := run s (giveSlot (.vstp sl))

/-- `VGATHER` (R83): Vector gather of 4 B per lane, in one slot of a bundle. -/
def execVgather (sl : Slot) (s : State) : Host.Outcome State Fault Refusal := run s (giveSlot (.vgather sl))

/-- `MDSET` (R148): Load and check a matrix descriptor from scratchpad, in one slot of a bundle. -/
def execMdset (sl : Slot) (s : State) : Host.Outcome State Fault Refusal := run s (giveSlot (.mdset sl))

/-- `MZERO` (R154): Queue zeroing of an accumulator tile, in one slot of a bundle. -/
def execMzero (sl : Slot) (s : State) : Host.Outcome State Fault Refusal := run s (giveSlot (.mzero sl))

/-- `MMA` (R151): Queue a matrix multiply-accumulate into a tile, in one slot of a bundle. -/
def execMma (sl : Slot) (s : State) : Host.Outcome State Fault Refusal := run s (giveSlot (.mma sl))

/-- `MMAS` (R165): Queue a multiply-accumulate whose left operand is stream-consumed, in one slot of a bundle. -/
def execMmas (sl : Slot) (s : State) : Host.Outcome State Fault Refusal := run s (giveSlot (.mmas sl))

/-- `MLOAD` (R154): Queue a tile load from scratchpad, in one slot of a bundle. -/
def execMload (sl : Slot) (s : State) : Host.Outcome State Fault Refusal := run s (giveSlot (.mload sl))

/-- `MSTORE` (R154): Queue a converted tile store to scratchpad, in one slot of a bundle. -/
def execMstore (sl : Slot) (s : State) : Host.Outcome State Fault Refusal := run s (giveSlot (.mstore sl))

/-- `MOV` (R86): Queue a copy of 16 B to 16 MiB, in one slot of a bundle. -/
def execMov (sl : Slot) (s : State) : Host.Outcome State Fault Refusal := run s (giveSlot (.mov sl))

/-- `MOV2D` (R593): Queue a strided copy with a shape read at execution, in one slot of a bundle. -/
def execMov2d (sl : Slot) (s : State) : Host.Outcome State Fault Refusal := run s (giveSlot (.mov2d sl))

/-- `MFILL` (R86): Queue a fill with a 64-bit pattern, in one slot of a bundle. -/
def execMfill (sl : Slot) (s : State) : Host.Outcome State Fault Refusal := run s (giveSlot (.mfill sl))

/-- `SEND` (R90): Queue a message from staging to a destination core, in one slot of a bundle. -/
def execSend (sl : Slot) (s : State) : Host.Outcome State Fault Refusal := run s (giveSlot (.send sl))

/-- `SIGNAL` (R90): Send an add to a remote wait counter, in one slot of a bundle. -/
def execSignal (sl : Slot) (s : State) : Host.Outcome State Fault Refusal := run s (giveSlot (.signal sl))

/-- `RECV` (R94): Arm a receive for a tag into staging, in one slot of a bundle. -/
def execRecv (sl : Slot) (s : State) : Host.Outcome State Fault Refusal := run s (giveSlot (.recv sl))

/-- `HWRITE` (R329): Queue an RDMA WRITE into an outbox window, in one slot of a bundle. -/
def execHwrite (sl : Slot) (s : State) : Host.Outcome State Fault Refusal := run s (giveSlot (.hwrite sl))

/-- `HSEND` (R329): Queue a RoCEv2 SEND to the host, in one slot of a bundle. -/
def execHsend (sl : Slot) (s : State) : Host.Outcome State Fault Refusal := run s (giveSlot (.hsend sl))

/-- `COLL` (R288): Start a collective operation from a staging descriptor, in one slot of a bundle. -/
def execColl (sl : Slot) (s : State) : Host.Outcome State Fault Refusal := run s (giveSlot (.coll sl))

/-- `GISSUE` (R99): Send a Graver descriptor to an engine of the partition, in one slot of a bundle. -/
def execGissue (sl : Slot) (s : State) : Host.Outcome State Fault Refusal := run s (giveSlot (.gissue sl))

/-- `PHINT` (R193): Pass hint entries to the state pager, in one slot of a bundle. -/
def execPhint (sl : Slot) (s : State) : Host.Outcome State Fault Refusal := run s (giveSlot (.phint sl))

end Sys2Proof.Machine
end

