-- ==== Sys2Proof/Machine/SupplyCommands.lean ====
section
/-! DEFINITION. Machine/SupplyCommands.lean: the commands of the supply, the pins, droop, temperatures, coolant and the margin review (R408, R441 to R462, R576 to R583). -/
namespace Sys2Proof.Machine

/-! ## The supply -/

/-- `SUPPLY_WARNING` (R443): the sample, in 0.01 V. -/
def execSupplyWarning (volts : BitVec 16) (s : State) : Host.Outcome State Fault Refusal := run s (supplyWarn volts.toNat)

/-- `SUPPLY_GLITCH` (R443). -/
def execSupplyGlitch (volts : BitVec 16) (s : State) : Host.Outcome State Fault Refusal := run s (supplyDip volts.toNat)

/-- `SUPPLY_RECOVERY` (R443). -/
def execSupplyRecovery (volts : BitVec 16) (s : State) : Host.Outcome State Fault Refusal := run s (supplyRecover volts.toNat)

/-- `SUPPLY_RESET` (R209, R444). -/
def execSupplyReset (volts : BitVec 16) (holdup : Bool) (s : State) : Host.Outcome State Fault Refusal :=
  run s (supplyResetNow volts.toNat holdup)

/-- `AON_POWER_LOSS` (R444). -/
def execAonPowerLoss (s : State) : Host.Outcome State Fault Refusal := run s aonLost

/-- `PWR_EN_ASSERT` (R576). -/
def execPwrEnAssert (s : State) : Host.Outcome State Fault Refusal := run s pwrEnHigh

/-- `AON_POWER_ON` (R576, R582). -/
def execAonPowerOn (s : State) : Host.Outcome State Fault Refusal := run s aonPowered

/-- `PWR_EN_DEASSERT` (R583). -/
def execPwrEnDeassert (s : State) : Host.Outcome State Fault Refusal := run s pwrEnLow

/-! ## Regulator alert and droop -/

/-- `VR_ALERT_N` (R447). -/
def execVrAlertN (own : Bool) (s : State) : Host.Outcome State Fault Refusal := run s (vrAsserted own)

/-- `VR_ALERT_END` (R441). -/
def execVrAlertEnd (s : State) : Host.Outcome State Fault Refusal := run s vrReleased

/-- `REGULATOR_ALERT` (R447). -/
def execRegulatorAlert (s : State) : Host.Outcome State Fault Refusal := run s vrTooLong

/-- `DROOP` (R448). -/
def execDroop (spire : Fin 4) (s : State) (detector : Fin 8 := 0) : Host.Outcome State Fault Refusal := run s (beginDroop spire.val detector.val)

/-- `DROOP_END` (R448): the time it lasted, in ns. -/
def execDroopEnd (spire : Fin 4) (lasted : Byte) (s : State) : Host.Outcome State Fault Refusal :=
  run s (endDroop spire.val lasted.toNat)

/-- `DROOP_LONG` (R448). -/
def execDroopLong (spire : Fin 4) (s : State) : Host.Outcome State Fault Refusal := run s (longDroop spire.val)

/-! ## Temperatures and coolant -/

/-- `THERMAL_SAMPLE` (R450, R451): the readings of the two diodes of each hot spot, in 0.01 C. -/
def execThermalSample (spots : List SpotSample) (s : State) : Host.Outcome State Fault Refusal :=
  run s (thermalSampleNow (spots.map (fun x => (x.spot.val, x.a.toInt, x.b.toInt))))

/-- `SENSOR_PAIR` (R450). -/
def execSensorPair (spot : Fin 128) (s : State) : Host.Outcome State Fault Refusal := run s (changePair spot.val)

/-- `THERMAL_EMERGENCY` (R453). -/
def execThermalEmergency (spire : Fin 4) (s : State) : Host.Outcome State Fault Refusal := run s (beginEmergency spire.val)

/-- `THERMAL_TRIP` (R454). -/
def execThermalTrip (spot : Fin 128) (s : State) : Host.Outcome State Fault Refusal := run s (thermalTripNow spot.val)

/-- `THERMAL_TRIP_RELEASE` (R576). -/
def execThermalTripRelease (s : State) : Host.Outcome State Fault Refusal := run s releaseTrip

/-- `ORDERLY_HALT` (R457). -/
def execOrderlyHalt (s : State) : Host.Outcome State Fault Refusal := run s beginHalt

/-- `SUDDEN_COOLANT_LOSS` (R458). -/
def execSuddenCoolantLoss (s : State) : Host.Outcome State Fault Refusal := run s coolantLoss

/-! ## Domains and ageing -/

/-- `DOMAIN_REMOVAL` (R407). -/
def execDomainRemoval (s : State) : Host.Outcome State Fault Refusal := run s removeDomains

/-- `STANDBY_RESUME` (R408): a failure gives its cause and detail of R390. -/
def execStandbyResume (failure : Option (Byte × W32)) (s : State) : Host.Outcome State Fault Refusal :=
  run s (resumeStandby (failure.map (fun f => (f.1.toNat, f.2.toNat % 256))))

/-- `MARGIN_REVIEW` (R461, R462). -/
def execMarginReview (slack : Vector (BitVec 16) 4) (margins : W64) (s : State) : Host.Outcome State Fault Refusal :=
  run s (review (slack.toList.map (fun v => v.toNat)) margins.toNat)

/-- `OVER_VOLTAGE_RESET` (R444): above the absolute maximum of 60 V the spec states nothing about the module (R6, R587). -/
def execOverVoltageReset (volts : BitVec 16) (s : State) : Host.Outcome State Fault Refusal :=
  if 6000 < volts.toNat then .fault .beyondRatings else run s (overVoltage volts.toNat)

end Sys2Proof.Machine
end

