-- ==== Sys2Proof/Machine/Dispatch.lean ====
section
/-! DEFINITION. Machine/Dispatch.lean: which meaning each command has. -/
namespace Sys2Proof.Machine

open Sys2Proof

/-- The meaning of each command: one direct call per row of the table. -/
def exec (i : Instr) (s : State) : Host.Outcome State Fault Refusal :=
  match i with
  | .frameTick sample => Sys2Proof.Machine.execFrameTick sample s
  | .frameDeadline => Sys2Proof.Machine.execFrameDeadline s
  | .frameComplete plan => Sys2Proof.Machine.execFrameComplete plan s
  | .timeSourceLost source => Sys2Proof.Machine.execTimeSourceLost source s
  | .holdoverExpiry => Sys2Proof.Machine.execHoldoverExpiry s
  | .add sl => Sys2Proof.Machine.execAdd sl s
  | .sub sl => Sys2Proof.Machine.execSub sl s
  | .mul sl => Sys2Proof.Machine.execMul sl s
  | .and sl => Sys2Proof.Machine.execAnd sl s
  | .or sl => Sys2Proof.Machine.execOr sl s
  | .xor sl => Sys2Proof.Machine.execXor sl s
  | .shl sl => Sys2Proof.Machine.execShl sl s
  | .shr sl => Sys2Proof.Machine.execShr sl s
  | .sra sl => Sys2Proof.Machine.execSra sl s
  | .min sl => Sys2Proof.Machine.execMin sl s
  | .max sl => Sys2Proof.Machine.execMax sl s
  | .slt sl => Sys2Proof.Machine.execSlt sl s
  | .sltu sl => Sys2Proof.Machine.execSltu sl s
  | .addi sl => Sys2Proof.Machine.execAddi sl s
  | .andi sl => Sys2Proof.Machine.execAndi sl s
  | .ori sl => Sys2Proof.Machine.execOri sl s
  | .xori sl => Sys2Proof.Machine.execXori sl s
  | .shli sl => Sys2Proof.Machine.execShli sl s
  | .shri sl => Sys2Proof.Machine.execShri sl s
  | .srai sl => Sys2Proof.Machine.execSrai sl s
  | .slti sl => Sys2Proof.Machine.execSlti sl s
  | .li sl imm => Sys2Proof.Machine.execLi sl imm s
  | .ld8 sl => Sys2Proof.Machine.execLd8 sl s
  | .ld16 sl => Sys2Proof.Machine.execLd16 sl s
  | .ld32 sl => Sys2Proof.Machine.execLd32 sl s
  | .ld64 sl => Sys2Proof.Machine.execLd64 sl s
  | .st8 sl => Sys2Proof.Machine.execSt8 sl s
  | .st16 sl => Sys2Proof.Machine.execSt16 sl s
  | .st32 sl => Sys2Proof.Machine.execSt32 sl s
  | .st64 sl => Sys2Proof.Machine.execSt64 sl s
  | .br sl => Sys2Proof.Machine.execBr sl s
  | .call sl => Sys2Proof.Machine.execCall sl s
  | .ret sl => Sys2Proof.Machine.execRet sl s
  | .beq sl => Sys2Proof.Machine.execBeq sl s
  | .bne sl => Sys2Proof.Machine.execBne sl s
  | .blt sl => Sys2Proof.Machine.execBlt sl s
  | .bge sl => Sys2Proof.Machine.execBge sl s
  | .loop sl => Sys2Proof.Machine.execLoop sl s
  | .wait sl => Sys2Proof.Machine.execWait sl s
  | .waiti sl => Sys2Proof.Machine.execWaiti sl s
  | .waitSatisfied core => Sys2Proof.Machine.execWaitSatisfied core s
  | .wcadd sl => Sys2Proof.Machine.execWcadd sl s
  | .wcread sl => Sys2Proof.Machine.execWcread sl s
  | .time sl => Sys2Proof.Machine.execTime sl s
  | .cyc sl => Sys2Proof.Machine.execCyc sl s
  | .tick sl => Sys2Proof.Machine.execTick sl s
  | .csrr sl => Sys2Proof.Machine.execCsrr sl s
  | .csrw sl => Sys2Proof.Machine.execCsrw sl s
  | .markb sl => Sys2Proof.Machine.execMarkb sl s
  | .marke sl => Sys2Proof.Machine.execMarke sl s
  | .markp sl => Sys2Proof.Machine.execMarkp sl s
  | .endFrame sl => Sys2Proof.Machine.execEndFrame sl s
  | .vadd sl => Sys2Proof.Machine.execVadd sl s
  | .vsub sl => Sys2Proof.Machine.execVsub sl s
  | .vmul sl => Sys2Proof.Machine.execVmul sl s
  | .vfma sl => Sys2Proof.Machine.execVfma sl s
  | .vmin sl => Sys2Proof.Machine.execVmin sl s
  | .vmax sl => Sys2Proof.Machine.execVmax sl s
  | .vabs sl => Sys2Proof.Machine.execVabs sl s
  | .vneg sl => Sys2Proof.Machine.execVneg sl s
  | .vexp2 sl => Sys2Proof.Machine.execVexp2 sl s
  | .vlog2 sl => Sys2Proof.Machine.execVlog2 sl s
  | .vrcp sl => Sys2Proof.Machine.execVrcp sl s
  | .vrsqrt sl => Sys2Proof.Machine.execVrsqrt sl s
  | .viadd sl => Sys2Proof.Machine.execViadd sl s
  | .visub sl => Sys2Proof.Machine.execVisub sl s
  | .vimul sl => Sys2Proof.Machine.execVimul sl s
  | .vand sl => Sys2Proof.Machine.execVand sl s
  | .vor sl => Sys2Proof.Machine.execVor sl s
  | .vxor sl => Sys2Proof.Machine.execVxor sl s
  | .vshl sl => Sys2Proof.Machine.execVshl sl s
  | .vshr sl => Sys2Proof.Machine.execVshr sl s
  | .vsra sl => Sys2Proof.Machine.execVsra sl s
  | .vcmpeq sl => Sys2Proof.Machine.execVcmpeq sl s
  | .vcmplt sl => Sys2Proof.Machine.execVcmplt sl s
  | .vcmple sl => Sys2Proof.Machine.execVcmple sl s
  | .vsel sl => Sys2Proof.Machine.execVsel sl s
  | .vbcast sl => Sys2Proof.Machine.execVbcast sl s
  | .vperm sl => Sys2Proof.Machine.execVperm sl s
  | .vshiftl sl => Sys2Proof.Machine.execVshiftl sl s
  | .vredadd sl => Sys2Proof.Machine.execVredadd sl s
  | .vredmax sl => Sys2Proof.Machine.execVredmax sl s
  | .vcvt sl => Sys2Proof.Machine.execVcvt sl s
  | .vcvtmx sl => Sys2Proof.Machine.execVcvtmx sl s
  | .vld sl => Sys2Proof.Machine.execVld sl s
  | .vst sl => Sys2Proof.Machine.execVst sl s
  | .vstp sl => Sys2Proof.Machine.execVstp sl s
  | .vgather sl => Sys2Proof.Machine.execVgather sl s
  | .mdset sl => Sys2Proof.Machine.execMdset sl s
  | .mzero sl => Sys2Proof.Machine.execMzero sl s
  | .mma sl => Sys2Proof.Machine.execMma sl s
  | .mmas sl => Sys2Proof.Machine.execMmas sl s
  | .mload sl => Sys2Proof.Machine.execMload sl s
  | .mstore sl => Sys2Proof.Machine.execMstore sl s
  | .matrixOperationBegin core op => Sys2Proof.Machine.execMatrixOperationBegin core op s
  | .streamPieceBegin core => Sys2Proof.Machine.execStreamPieceBegin core s
  | .matrixOperationComplete core op => Sys2Proof.Machine.execMatrixOperationComplete core op s
  | .mov sl => Sys2Proof.Machine.execMov sl s
  | .mov2d sl => Sys2Proof.Machine.execMov2d sl s
  | .mfill sl => Sys2Proof.Machine.execMfill sl s
  | .moveComplete core op => Sys2Proof.Machine.execMoveComplete core op s
  | .send sl => Sys2Proof.Machine.execSend sl s
  | .signal sl => Sys2Proof.Machine.execSignal sl s
  | .recv sl => Sys2Proof.Machine.execRecv sl s
  | .hwrite sl => Sys2Proof.Machine.execHwrite sl s
  | .hsend sl => Sys2Proof.Machine.execHsend sl s
  | .coll sl => Sys2Proof.Machine.execColl sl s
  | .allReduce core => Sys2Proof.Machine.execAllReduce core s
  | .reduceScatter core => Sys2Proof.Machine.execReduceScatter core s
  | .allGather core => Sys2Proof.Machine.execAllGather core s
  | .allToAll core => Sys2Proof.Machine.execAllToAll core s
  | .broadcast core => Sys2Proof.Machine.execBroadcast core s
  | .gissue sl => Sys2Proof.Machine.execGissue sl s
  | .phint sl => Sys2Proof.Machine.execPhint sl s
  | .phintAccept core => Sys2Proof.Machine.execPhintAccept core s
  | .placement t3 => Sys2Proof.Machine.execPlacement t3 s
  | .journalDrain failed => Sys2Proof.Machine.execJournalDrain failed s
  | .flushEnd => Sys2Proof.Machine.execFlushEnd s
  | .flushDeadline => Sys2Proof.Machine.execFlushDeadline s
  | .gatherPool k => Sys2Proof.Machine.execGatherPool k s
  | .scoreSelect k => Sys2Proof.Machine.execScoreSelect k s
  | .pack k => Sys2Proof.Machine.execPack k s
  | .rowUpdate k => Sys2Proof.Machine.execRowUpdate k s
  | .checksum k => Sys2Proof.Machine.execChecksum k s
  | .copy k => Sys2Proof.Machine.execCopy k s
  | .fill k => Sys2Proof.Machine.execFill k s
  | .credit port ack freed => Sys2Proof.Machine.execCredit port ack freed s
  | .nak port ack expected => Sys2Proof.Machine.execNak port ack expected s
  | .downRequest port cause => Sys2Proof.Machine.execDownRequest port cause s
  | .replayTimeout port => Sys2Proof.Machine.execReplayTimeout port s
  | .replayExhausted port => Sys2Proof.Machine.execReplayExhausted port s
  | .lockLost port => Sys2Proof.Machine.execLockLost port s
  | .detect port lanes => Sys2Proof.Machine.execDetect port lanes s
  | .train port ok => Sys2Proof.Machine.execTrain port ok s
  | .align port rxGood txGood => Sys2Proof.Machine.execAlign port rxGood txGood s
  | .linkInit port payload => Sys2Proof.Machine.execLinkInit port payload s
  | .trainingRetry port => Sys2Proof.Machine.execTrainingRetry port s
  | .laneRetrain port lane corrected symbols => Sys2Proof.Machine.execLaneRetrain port lane corrected symbols s
  | .portHoldExpiry port => Sys2Proof.Machine.execPortHoldExpiry port s
  | .timeExchange port => Sys2Proof.Machine.execTimeExchange port s
  | .timeRequest rx payload => Sys2Proof.Machine.execTimeRequest rx payload s
  | .timeResponse rx payload => Sys2Proof.Machine.execTimeResponse rx payload s
  | .msgSend rx payload => Sys2Proof.Machine.execMsgSend rx payload s
  | .msgSignal rx payload => Sys2Proof.Machine.execMsgSignal rx payload s
  | .msgAnswer rx payload => Sys2Proof.Machine.execMsgAnswer rx payload s
  | .ackTimeout core seq => Sys2Proof.Machine.execAckTimeout core seq s
  | .packageFabricTransfer transfer => Sys2Proof.Machine.execPackageFabricTransfer transfer s
  | .fabricResend transfer => Sys2Proof.Machine.execFabricResend transfer s
  | .collReduce rx payload => Sys2Proof.Machine.execCollReduce rx payload s
  | .collGather rx payload => Sys2Proof.Machine.execCollGather rx payload s
  | .advertise rx record => Sys2Proof.Machine.execAdvertise rx record s
  | .grant rx record => Sys2Proof.Machine.execGrant rx record s
  | .abort rx record => Sys2Proof.Machine.execAbort rx record s
  | .absent rx record => Sys2Proof.Machine.execAbsent rx record s
  | .floorNotice rx record => Sys2Proof.Machine.execFloorNotice rx record s
  | .audit rx record => Sys2Proof.Machine.execAudit rx record s
  | .mgmt rx payload => Sys2Proof.Machine.execMgmt rx payload s
  | .trace rx payload => Sys2Proof.Machine.execTrace rx payload s
  | .hello rx payload => Sys2Proof.Machine.execHello rx payload s
  | .granule rx payload => Sys2Proof.Machine.execGranule rx payload s
  | .page rx payload => Sys2Proof.Machine.execPage rx payload s
  | .frameEnd rx payload => Sys2Proof.Machine.execFrameEnd rx payload s
  | .commit part => Sys2Proof.Machine.execCommit part s
  | .ack rx payload => Sys2Proof.Machine.execAck rx payload s
  | .resend rx payload => Sys2Proof.Machine.execResend rx payload s
  | .mirrorResendTimeout part stream => Sys2Proof.Machine.execMirrorResendTimeout part stream s
  | .release rx payload => Sys2Proof.Machine.execRelease rx payload s
  | .partnerLost part => Sys2Proof.Machine.execPartnerLost part s
  | .leaseExpiry part => Sys2Proof.Machine.execLeaseExpiry part s
  | .takeover part => Sys2Proof.Machine.execTakeover part s
  | .rdmaWrite qp psn rkey address data ce form => Sys2Proof.Machine.execRdmaWrite qp psn rkey address data ce s form
  | .rdmaRead qp psn rkey address length ce => Sys2Proof.Machine.execRdmaRead qp psn rkey address length ce s
  | .rdmaSend qp psn data imm ce => Sys2Proof.Machine.execRdmaSend qp psn data imm ce s
  | .seal qp psn rkey address bytes ce => Sys2Proof.Machine.execSeal qp psn rkey address bytes s ce
  | .rdmaAck qp psn nak ce => Sys2Proof.Machine.execRdmaAck qp psn nak s ce
  | .qpRetryExhausted qp => Sys2Proof.Machine.execQpRetryExhausted qp s
  | .cnp qp => Sys2Proof.Machine.execCnp qp s
  | .tAlpha qp => Sys2Proof.Machine.execTAlpha qp s
  | .tInc qp => Sys2Proof.Machine.execTInc qp s
  | .pfcPause h enables quanta => Sys2Proof.Machine.execPfcPause h enables quanta s
  | .ptp h msg => Sys2Proof.Machine.execPtp h msg s
  | .lldp h chassis port => Sys2Proof.Machine.execLldp h chassis port s
  | .lldpSend h => Sys2Proof.Machine.execLldpSend h s
  | .arpRequest h ipv6 address => Sys2Proof.Machine.execArpRequest h ipv6 address s
  | .ethFrameDiscard h bad => Sys2Proof.Machine.execEthFrameDiscard h s bad
  | .ethLinkDown h => Sys2Proof.Machine.execEthLinkDown h s
  | .mgmtWrite channel xseq length target address data => Sys2Proof.Machine.execMgmtWrite channel xseq length target address data s
  | .mgmtRead channel xseq length target address => Sys2Proof.Machine.execMgmtRead channel xseq length target address s
  | .heartbeat frame => Sys2Proof.Machine.execHeartbeat frame s
  | .heartbeatSend => Sys2Proof.Machine.execHeartbeatSend s
  | .lease frame => Sys2Proof.Machine.execLease frame s
  | .seatAssign frame => Sys2Proof.Machine.execSeatAssign frame s
  | .coolant frame => Sys2Proof.Machine.execCoolant frame s
  | .alert frame => Sys2Proof.Machine.execAlert frame s
  | .wake frame => Sys2Proof.Machine.execWake frame s
  | .tickMarker count hops => Sys2Proof.Machine.execTickMarker count hops s
  | .belfryFrameForward type frame crcOk => Sys2Proof.Machine.execBelfryFrameForward type frame crcOk s
  | .markerLost => Sys2Proof.Machine.execMarkerLost s
  | .markerMismatch => Sys2Proof.Machine.execMarkerMismatch s
  | .masterless => Sys2Proof.Machine.execMasterless s
  | .orphan => Sys2Proof.Machine.execOrphan s
  | .coolantAssumed => Sys2Proof.Machine.execCoolantAssumed s
  | .vrAlertN own => Sys2Proof.Machine.execVrAlertN own s
  | .vrAlertEnd => Sys2Proof.Machine.execVrAlertEnd s
  | .regulatorAlert => Sys2Proof.Machine.execRegulatorAlert s
  | .supplyWarning volts => Sys2Proof.Machine.execSupplyWarning volts s
  | .supplyGlitch volts => Sys2Proof.Machine.execSupplyGlitch volts s
  | .supplyRecovery volts => Sys2Proof.Machine.execSupplyRecovery volts s
  | .supplyReset volts holdup => Sys2Proof.Machine.execSupplyReset volts holdup s
  | .overVoltageReset volts => Sys2Proof.Machine.execOverVoltageReset volts s
  | .droop spire detector => Sys2Proof.Machine.execDroop spire s detector
  | .droopLong spire => Sys2Proof.Machine.execDroopLong spire s
  | .thermalSample spots => Sys2Proof.Machine.execThermalSample spots s
  | .sensorPair spot => Sys2Proof.Machine.execSensorPair spot s
  | .thermalEmergency spire => Sys2Proof.Machine.execThermalEmergency spire s
  | .thermalTrip spot => Sys2Proof.Machine.execThermalTrip spot s
  | .orderlyHalt => Sys2Proof.Machine.execOrderlyHalt s
  | .suddenCoolantLoss => Sys2Proof.Machine.execSuddenCoolantLoss s
  | .domainRemoval => Sys2Proof.Machine.execDomainRemoval s
  | .pwrEnAssert => Sys2Proof.Machine.execPwrEnAssert s
  | .aonPowerOn => Sys2Proof.Machine.execAonPowerOn s
  | .pwrEnDeassert => Sys2Proof.Machine.execPwrEnDeassert s
  | .aonPowerLoss => Sys2Proof.Machine.execAonPowerLoss s
  | .lanternReady => Sys2Proof.Machine.execLanternReady s
  | .turretWatchdog => Sys2Proof.Machine.execTurretWatchdog s
  | .keepLockstep => Sys2Proof.Machine.execKeepLockstep s
  | .collectorCheck => Sys2Proof.Machine.execCollectorCheck s
  | .marginReview slack margins => Sys2Proof.Machine.execMarginReview slack margins s
  | .scrub address outcome => Sys2Proof.Machine.execScrub address outcome s
  | .domainReturn kind unit ok => Sys2Proof.Machine.execDomainReturn kind unit ok s
  | .domainDeadline kind unit => Sys2Proof.Machine.execDomainDeadline kind unit s
  | .start romOk fuseOk storeOk crcBad => Sys2Proof.Machine.execStart romOk fuseOk storeOk s crcBad
  | .cupola lpFail hashOk mapFail retrained => Sys2Proof.Machine.execCupola lpFail hashOk mapFail s retrained
  | .spires hbmFail testFail hashFail retrained => Sys2Proof.Machine.execSpires hbmFail testFail hashFail s retrained
  | .coreFetch core => Sys2Proof.Machine.execCoreFetch core s
  | .memoryTest rows => Sys2Proof.Machine.execMemoryTest rows s
  | .links source => Sys2Proof.Machine.execLinks source s
  | .startLimit => Sys2Proof.Machine.execStartLimit s
  | .registerWrite master reg value => Sys2Proof.Machine.execRegisterWrite master reg value s
  | .nop channel slot => Sys2Proof.Machine.execNop channel slot s
  | .channelOpen channel slot => Sys2Proof.Machine.execChannelOpen channel slot s
  | .channelClose channel slot => Sys2Proof.Machine.execChannelClose channel slot s
  | .outboxSet channel slot => Sys2Proof.Machine.execOutboxSet channel slot s
  | .ethPortSet channel slot => Sys2Proof.Machine.execEthPortSet channel slot s
  | .ethAddrSet channel slot => Sys2Proof.Machine.execEthAddrSet channel slot s
  | .ethCongSet channel slot => Sys2Proof.Machine.execEthCongSet channel slot s
  | .ptpSet channel slot => Sys2Proof.Machine.execPtpSet channel slot s
  | .ethStatus channel slot => Sys2Proof.Machine.execEthStatus channel slot s
  | .qpCreate channel slot => Sys2Proof.Machine.execQpCreate channel slot s
  | .qpConnect channel slot => Sys2Proof.Machine.execQpConnect channel slot s
  | .qpDestroy channel slot => Sys2Proof.Machine.execQpDestroy channel slot s
  | .qpStatus channel slot => Sys2Proof.Machine.execQpStatus channel slot s
  | .regionRegister channel slot => Sys2Proof.Machine.execRegionRegister channel slot s
  | .regionRelease channel slot => Sys2Proof.Machine.execRegionRelease channel slot s
  | .planAdmit channel slot => Sys2Proof.Machine.execPlanAdmit channel slot s
  | .planRelease channel slot => Sys2Proof.Machine.execPlanRelease channel slot s
  | .planList channel slot => Sys2Proof.Machine.execPlanList channel slot s
  | .ctxStatusRead channel slot => Sys2Proof.Machine.execCtxStatusRead channel slot s
  | .coreFaultRead channel slot => Sys2Proof.Machine.execCoreFaultRead channel slot s
  | .overrunRead channel slot => Sys2Proof.Machine.execOverrunRead channel slot s
  | .tickPeriodSet channel slot => Sys2Proof.Machine.execTickPeriodSet channel slot s
  | .timeRoleSet channel slot => Sys2Proof.Machine.execTimeRoleSet channel slot s
  | .timeRead channel slot => Sys2Proof.Machine.execTimeRead channel slot s
  | .floorSet channel slot => Sys2Proof.Machine.execFloorSet channel slot s
  | .partitionSet channel slot => Sys2Proof.Machine.execPartitionSet channel slot s
  | .objectCreate channel slot => Sys2Proof.Machine.execObjectCreate channel slot s
  | .objectDelete channel slot => Sys2Proof.Machine.execObjectDelete channel slot s
  | .objectRead channel slot => Sys2Proof.Machine.execObjectRead channel slot s
  | .objectWrite channel slot => Sys2Proof.Machine.execObjectWrite channel slot s
  | .objectStatus channel slot => Sys2Proof.Machine.execObjectStatus channel slot s
  | .journalFlush channel slot => Sys2Proof.Machine.execJournalFlush channel slot s
  | .pagerRead channel slot => Sys2Proof.Machine.execPagerRead channel slot s
  | .groupRead channel slot => Sys2Proof.Machine.execGroupRead channel slot s
  | .plinkSet channel slot => Sys2Proof.Machine.execPlinkSet channel slot s
  | .plinkArbSet channel slot => Sys2Proof.Machine.execPlinkArbSet channel slot s
  | .plinkRead channel slot => Sys2Proof.Machine.execPlinkRead channel slot s
  | .counterRead channel slot => Sys2Proof.Machine.execCounterRead channel slot s
  | .traceSet channel slot => Sys2Proof.Machine.execTraceSet channel slot s
  | .traceRead channel slot => Sys2Proof.Machine.execTraceRead channel slot s
  | .stippleSet channel slot => Sys2Proof.Machine.execStippleSet channel slot s
  | .stippleRead channel slot => Sys2Proof.Machine.execStippleRead channel slot s
  | .faultHistoryRead channel slot => Sys2Proof.Machine.execFaultHistoryRead channel slot s
  | .faultReactionSet channel slot => Sys2Proof.Machine.execFaultReactionSet channel slot s
  | .domainReset channel slot => Sys2Proof.Machine.execDomainReset channel slot s
  | .moduleReset channel slot => Sys2Proof.Machine.execModuleReset channel slot s
  | .hangSet channel slot => Sys2Proof.Machine.execHangSet channel slot s
  | .powerRequest channel slot => Sys2Proof.Machine.execPowerRequest channel slot s
  | .powerOrder channel slot => Sys2Proof.Machine.execPowerOrder channel slot s
  | .orphanCapSet channel slot => Sys2Proof.Machine.execOrphanCapSet channel slot s
  | .powerRead channel slot => Sys2Proof.Machine.execPowerRead channel slot s
  | .ageingRead channel slot => Sys2Proof.Machine.execAgeingRead channel slot s
  | .pairSet channel slot => Sys2Proof.Machine.execPairSet channel slot s
  | .leaseGrant channel slot => Sys2Proof.Machine.execLeaseGrant channel slot s
  | .switchOver channel slot => Sys2Proof.Machine.execSwitchOver channel slot s
  | .mirrorWindowSet channel slot => Sys2Proof.Machine.execMirrorWindowSet channel slot s
  | .pairRead channel slot => Sys2Proof.Machine.execPairRead channel slot s
  | .attest channel slot => Sys2Proof.Machine.execAttest channel slot s
  | .imageUpdate channel slot => Sys2Proof.Machine.execImageUpdate channel slot s
  | .serviceMode channel slot => Sys2Proof.Machine.execServiceMode channel slot s
  | .keyEnrol channel slot => Sys2Proof.Machine.execKeyEnrol channel slot s
  | .topologySet channel slot => Sys2Proof.Machine.execTopologySet channel slot s
  | .stateRead channel slot => Sys2Proof.Machine.execStateRead channel slot s
  | .flitCrcFailed port => Sys2Proof.Machine.execFlitCrcFailed port s
  | .badFlits rx reserved vc type => Sys2Proof.Machine.execBadFlits rx reserved vc type s
  | .linkInitSend port => Sys2Proof.Machine.execLinkInitSend port s
  | .lastFlitLeaves core op => Sys2Proof.Machine.execLastFlitLeaves core op s
  | .ethLinkUp h => Sys2Proof.Machine.execEthLinkUp h s
  | .qpAckTimeout qp => Sys2Proof.Machine.execQpAckTimeout qp s
  | .mgmtPortDown => Sys2Proof.Machine.execMgmtPortDown s
  | .mgmtPortUp => Sys2Proof.Machine.execMgmtPortUp s
  | .droopEnd spire lasted => Sys2Proof.Machine.execDroopEnd spire lasted s
  | .thermalTripRelease => Sys2Proof.Machine.execThermalTripRelease s
  | .standbyResume failure => Sys2Proof.Machine.execStandbyResume failure s
  | .registerParity kind unit => Sys2Proof.Machine.execRegisterParity kind unit s
  | .mirrorCopyComplete part => Sys2Proof.Machine.execMirrorCopyComplete part s
  | .objectCopyDone channel slot t3 => Sys2Proof.Machine.execObjectCopyDone channel slot t3 s
  | .bundleWriteDone readBack => Sys2Proof.Machine.execBundleWriteDone readBack s

end Sys2Proof.Machine
end

