-- ==== Sys2Proof/Machine/Step.lean ====
section
/-! DEFINITION. Machine/Step.lean: one step of the block: the command at the front of the queue, or the passing of time on an empty queue. -/
namespace Sys2Proof.Machine

/-- One step: the command at the front of the queue acts on the module with the rest of the queue; on an empty queue 1 ns
passes (log 5), notices whose instant has come are written (R336), and every core that executes a frame issues the next bundle of its program (log 68). -/
def step (s : State) : Host.Outcome State Fault Refusal :=
  match s.pending with
  | [] =>
    let s' := { s with hw := idle s.hw }
    if coresAct s'.hw || noticesDue s'.hw then run s' (fun w => issueAll (settleNotices w)) else .next s'
  | c :: rest => exec c { s with pending := rest }

/-- The state with the command that a table word spells put at the front of its queue; unchanged where the word spells none. -/
def State.withFetchWord (s : State) (nbits w : Nat) : State :=
  match Sys2Proof.decodeTableWord nbits w with
  | some c => { s with pending := c :: s.pending }
  | none => s

end Sys2Proof.Machine
end

