-- ==== Sys2Proof/Safety.lean ====
section
/-! DEFINITION. Safety.lean: what counts as a safe run, and the words the statements are made of: a state at rest, a command that answers, a request that passes its checks, a core that issues. -/
namespace Sys2Proof

open Sys2Proof.Machine

/-- A state is sound when its memory has the canonical form. -/
def Sound (s : State) : Prop := Mem.wf s.mem = true

/-- A run is safe when no step of it ends in a fault. -/
def SafeFrom : Nat → State → Prop
  | 0, _ => True
  | k + 1, s =>
    match step s with
    | .next t => SafeFrom k t
    | .fault _ => False
    | .refused _ => True

/-- The module is at rest: no reaction of the collector is due and no frame notice, no core waits to complete or holds a bundle for a
full queue or the issue rate, every posted request and every reply has left, no Ethernet frame waits for a paused priority, no trace
record waits for export, no copy of a fabric transfer waits to leave, no plane port may send a flit or has a control flit to send, no
mirror window is marked, and the wait of every port for a grant is known. What a command's effects bring about at once (`settle`) then
changes nothing. -/
structure AtRest (h : Hw) : Prop where
  reactions : h.fault.due = []
  notices : noticesDue h = false
  ends : ∀ e ∈ h.cores, e.2.ending = false
  holds : ∀ e ∈ h.cores, e.2.hold ≠ .queue ∧ e.2.hold ≠ .rate
  requests : ∀ q ∈ h.host.qps, q.waiting = [] ∧ ∀ r ∈ q.outstanding, r.fresh = false
  frames : ∀ e ∈ h.host.halves, e.2.waiting = []
  exports : h.burin.exportBuf = []
  fabric : ∀ m ∈ h.links.fabric, ∀ c ∈ m.copies, c.gone = true
  ports : ∀ p vc, eligible h p vc = false
  control : ∀ p, ctrlWaits (portOf h p) = false
  windows : h.mirror.windows = []
  grants : ∀ p, ungranted h p = true ↔ tabGet 0 h.coll.waitSince p ≠ 0

/-- A command answers with a next state: its own effect leaves `w`, of which `P` holds; what that brings about at once follows
(`settle`); where it brings nothing about, the next state is `w` itself with the rest of the queue. -/
def Answers (c : Instr) (s : State) (P : Work → Prop) : Prop :=
  ∃ w t, exec c s = .next t ∧ P w ∧ t = finish s (settle w) ∧ (AtRest w.hw → t = finish s w)

/-- A command answers, and its own effect leaves exactly `v`: every field of the module that `v` does not change, and every byte of
memory outside the stores of `v`, stays as it was. -/
def AnswersWith (c : Instr) (s : State) (v : Work) : Prop := Answers c s (fun w => w = v)

/-! ## Slots -/

/-- The slot is the one slot of a bundle of a core that takes slots: the core is live, executes a frame, has not issued `END` and
holds no bundle (R79, R80). -/
structure Sole (h : Hw) (sl : Slot) : Prop where
  takes : issues h sl.core.toNat = true
  last : sl.more = false
  first : (coreOf h sl.core.toNat).bundle = []

/-- The slot may issue now: it is no vector slot, or the cycle is vector-enabled (R439). -/
def SlotEnabled (h : Hw) (info : SlotInfo) : Prop := info.place ≠ 1 ∨ vectorEnables h info.sl.core.toNat = true

/-- The registers of the core of a slot. -/
def rOf (s : State) (sl : Slot) : CoreRegs := (coreOf s.hw sl.core.toNat).r

/-- The bundle from which issue goes on where this bundle does not branch lies in the program (R81). -/
def GoesOn (s : State) (sl : Slot) : Prop :=
  (afterBundle (rOf s sl).pc (rOf s sl).loops).1 < (coreOf s.hw sl.core.toNat).bundles

/-- The fault of a list of fault codes with their addresses that a bundle records: the first of those with the lowest code (R107). -/
def LowestFirst (codes : List (Nat × Nat)) (f : Nat × Nat) : Prop :=
  ∃ pre post, codes = pre ++ f :: post ∧ (∀ x ∈ pre, f.1 < x.1) ∧ ∀ x ∈ post, f.1 ≤ x.1

/-- The core as the effect of a bundle meets it: the bundle's slots are gone. -/
def cleared (core : Nat) (w : Work) : Work := modCore core (fun c => { c with bundle := [], hold := .none }) w

/-- Issue goes on: the program counter and the loop stack are those after a bundle without a branch (R81). -/
def goOn (core : Nat) (w : Work) : Work :=
  modCore core (fun c =>
    let n := afterBundle c.r.pc c.r.loops
    { c with r := { c.r with pc := n.1, loops := n.2 } }) w

/-- A bundle has issued: its slots are gone, its effect is `g`, and issue goes on. -/
def issued (core : Nat) (g : Work → Work) (w : Work) : Work := goOn core (g (cleared core w))

/-- A bundle has issued that branches to a bundle index: its slots are gone, its effect is `g`. -/
def branched (core target : Nat) (g : Work → Work) (w : Work) : Work :=
  modCore core (fun c => { c with r := { c.r with pc := target } }) (g (cleared core w))

/-- The one slot of a bundle raises synchronous faults of a unit: the bundle is a fault, and none of it takes effect (R105, R107). -/
def SlotFaults (i : Instr) (s : State) (core unit : Nat) (codes : List (Nat × Nat)) : Prop :=
  ∀ f, LowestFirst codes f →
    AnswersWith i s (coreFault core f.1 unit (coreOf s.hw core).r.pc f.2 false (cleared core (beginWork s)))

/-- A bundle of one slot is held. -/
def SlotHeld (i : Instr) (s : State) (core : Nat) (h : Hold) : Prop :=
  AnswersWith i s (modCore core (fun x => { x with bundle := [i], hold := h }) (beginWork s))

/-- The registers of a core are changed, and nothing else. -/
def setRegs (core : Nat) (f : CoreRegs → CoreRegs) : Work → Work := modCore core (fun c => { c with r := f c.r })

/-! ## Plane ports -/

/-- A numbered flit that the link layer accepts: its port is `ACTIVE`, its `SEQ` is the one expected, and a receive buffer of its VC is
free (R259, R264). -/
structure InOrder (h : Hw) (rx : Rx) (vc : Nat) : Prop where
  active : (portOf h rx.port.val).state = .active
  next : rx.seq.toNat = (portOf h rx.port.val).expected
  room : tabGet 0 (portOf h rx.port.val).stored vc < (receiveBuffers[vc - 1]?).getD 0

/-- The acknowledgement that a flit carries has been taken. -/
def ackTaken (rx : Rx) (w : Work) : Work := if rx.ackValid then acknowledge rx.port.val rx.ack.toNat w else w

/-- A flit has been taken into its buffer: the next `SEQ` is expected, and it is counted (R259, R264, R280). -/
def flitStored (rx : Rx) (vc : Nat) (w : Work) : Work :=
  bump 3 (6 + rx.port.val) 1 (modPort rx.port.val (fun q => { q with
    expected := (q.expected + 1) % 4096
    nakSent := false
    received := tabBump q.received vc 1
    stored := tabBump q.stored vc 1
    unitsIn := q.unitsIn + 1 }) (ackTaken rx w))

/-- A flit has been accepted: its buffer is free again, and its credit is due to the far end (R264, R557). -/
def flitTaken (rx : Rx) (vc : Nat) (w : Work) : Work :=
  modPort rx.port.val (fun q => { q with
    freed := tabBump q.freed vc 1
    stored := tabMod 0 q.stored vc (fun n => n - 1)
    creditDue := true }) (flitStored rx vc w)

/-! ## The mailbox -/

/-- A request passes every check of R348: it is the next to start at its channel and slot, the module's state serves it, its channel is
listed and it owns what it names, and its signature is accepted; `w` is the work with the accepted counter. -/
structure Passes (s : State) (code : Nat) (permit : Hw → Request → Bool) (channel slot : Nat) (r : Request) (w : Work) : Prop where
  next : takesRequest s.hw code channel slot = some r
  safe : isSafe s.hw = true → servedSafe r = true
  failed : s.hw.keep.phase = 15 → servedFailed code = true
  recovery : s.hw.keep.phase = 2 → servedRecovery code = true
  ready : channel < 17 → isReady s.hw = false → servedEarly code = true
  listed : channelListed channel code = true
  owns : permit (beginWork s).hw r = true
  signature : checkSignature r (beginWork s) = (none, w)

/-- A mailbox command whose request passes its checks is answered now with a status and a payload, after its effect. -/
def Replies (i : Instr) (s : State) (r : Request) (status : Nat) (payload : List Byte) (v : Work) : Prop :=
  AnswersWith i s (respond r status payload v)

/-- A mailbox command whose request passes its checks goes on in its slot, holding a target, until what it began is done (R342). -/
def Pends (i : Instr) (s : State) (r : Request) (target : Option (Nat × Nat)) (v : Work) : Prop :=
  AnswersWith i s (v.up fun h => { h with host := { h.host with
    requests := h.host.requests.map (fun q =>
      if q.channel == r.channel && q.slot == r.slot then { q with started := true, target := target } else q) } })

/-- What a mailbox command does with a request that passes its checks: operands that are not legal are answered `MALFORMED` (R348), and
legal ones as `good` says, in terms of the command's reply and of its going on. -/
def Serves (s : State) (c : Fin 18) (sl : Fin 64) (i : Instr) (code : Nat) (permit : Hw → Request → Bool) (legal : Request → Work → Bool)
    (good : Request → Work → (Nat → List Byte → Work → Prop) → (Option (Nat × Nat) → Work → Prop) → Prop) : Prop :=
  ∀ (r : Request) (w : Work), Passes s code permit c.val sl.val r w →
    (legal r w = false → Replies i s r stMalformed [] w) ∧ (legal r w = true → good r w (Replies i s r) (Pends i s r))

end Sys2Proof
end

