-- ==== Sys2Proof/Certificates/Slice0/Obligations.lean ====
section
/-! DEFINITION. Certificates/Slice0/Obligations.lean: the statements for the provers. -/

open Sys2Proof Sys2Proof.Machine


/-! ## The machine -/

/-- A command at the front of the queue is executed on the state with the queue's rest. -/
def Obligations.StepRunsFrontCommand : Prop :=
  ∀ (c : Instr) (s : State) (rest : List Instr), s.pending = c :: rest → step s = exec c { s with pending := rest }

/-- A command that answers leaves the rest of the queue as it stood. On an empty queue the module idles: 1 ns passes, and no more than to the
next instant that time alone brings (the model's choice, log 5); where no core issues and no notice is due, nothing else changes.
R76, R77: a bundle word with one slot in use gives the instruction of the slot's `OP` with D, A, B and `IMM` at their bits, and the long-immediate
form gives `LI` with its 60 bits.
R78: a bundle word with a reserved bit set, with an opcode that is not assigned, or with a bit set in a slot it does not use gives no bundle.
R78, R79: on an empty queue a core that executes a frame issues the bundle at its program counter, as the slot's command does; a word that gives
no bundle is an `ILLEGAL_BUNDLE` fault (that a core issues at every idle step is the model's choice, log 68). -/
def Obligations.QueueAndIdleStep : Prop :=
  (∀ (c : Instr) (s t : State), exec c s = .next t → t.pending = s.pending)
  ∧ (∀ s : State, s.pending = [] →
      let now := max s.hw.time.now (min (s.hw.time.now + 1) (horizon s.hw))
      let later : State := { s with hw := { s.hw with time := { s.hw.time with now := now } } }
      coresAct later.hw = false → noticesDue later.hw = false → step s = .next later)
  ∧ (∀ (core : BitVec 8) (d a b : BitVec 5) (imm : BitVec 9) (op : Fin 64),
      let sl : Slot := ⟨core, false, d, a, b, imm⟩
      let x := op.val + 2 ^ 6 * d.toNat + 2 ^ 11 * a.toNat + 2 ^ 16 * b.toNat + 2 ^ 21 * imm.toNat
      decodeBundle core.toNat (1 + 2 ^ 8 * x) = (scalarCode sl op.val).map (fun i => [i])
      ∧ decodeBundle core.toNat (2 + 2 ^ 38 * x) = (vectorCode sl op.val).map (fun i => [i])
      ∧ decodeBundle core.toNat (4 + 2 ^ 68 * x) = (matrixCode sl op.val).map (fun i => [i])
      ∧ decodeBundle core.toNat (8 + 2 ^ 98 * x) = (moveCode sl op.val).map (fun i => [i])
      ∧ (∀ long : BitVec 60,
          decodeBundle core.toNat (1 + 2 ^ 4 + 2 ^ 8 * (0x18 + 2 ^ 6 * d.toNat) + 2 ^ 68 * long.toNat)
            = some [.li ⟨core, false, d, 0, 0, 0⟩ long]))
  ∧ (∀ core v : Nat,
      (v / 2 ^ 5 % 8 ≠ 0 → decodeBundle core v = none)
      ∧ (v % 2 = 0 → v / 2 ^ 4 % 2 = 0 → v / 2 ^ 8 % 2 ^ 30 ≠ 0 → decodeBundle core v = none)
      ∧ (v % 2 = 1 → v / 2 ^ 4 % 2 = 0 → (∀ sl, scalarCode sl (v / 2 ^ 8 % 64) = none) → decodeBundle core v = none))
  ∧ (∀ (s : State) (core : Nat), s.pending = [] →
      let later : State := { s with hw := idle s.hw }
      let key := bundleKey later.hw core
      noticesDue later.hw = false → issuingCores later.hw = [core] → (beginWork later).good key 16 →
      (decodeBundle core ((beginWork later).num key 16) = none →
        step s = run later (coreFault core 0x01 0 (coreOf later.hw core).r.pc 0 false))
      ∧ (∀ i x, decodeBundle core ((beginWork later).num key 16) = some [i] → slotOf i = some x → x.sl.core.toNat = core →
          Sole later.hw x.sl → step s = exec i later))

/-- Memory keeps its canonical form under every step: addresses strictly rise and no cell holds the zero that an unlisted address reads as (the
form and that zero are the model's, log 3). -/
def Obligations.StepKeepsMemoryCanonical : Prop :=
  ∀ s t : State, Sound s → step s = .next t → Sound t

/-- The state after reset: memory lists nothing, so that the canonical form holds, no command waits, the tick period is the 1 ms of R39,
the admission floor is 32/64 (R47), every core is unbound and its scalar registers read 0, no plan is admitted, no region or queue pair exists,
the module is not ready and its plane port 0 may send nothing. Values that the spec does not give are those of log 1. -/
def Obligations.ResetState : Prop :=
  Sound State.reset ∧ State.reset.mem = [] ∧ State.reset.pending = [] ∧ period State.reset.hw = 1000000 ∧ State.reset.hw.time.floor = 32
  ∧ State.reset.hw.plans.plans = [] ∧ State.reset.hw.host.regions = [] ∧ State.reset.hw.host.qps = [] ∧ isReady State.reset.hw = false
  ∧ (∀ core, (coreOf State.reset.hw core).ctx = 0) ∧ (∀ core i, sreg (coreOf State.reset.hw core).r i = 0)
  ∧ (∀ vc, eligible State.reset.hw 0 vc = false) ∧ (∀ a, memByte State.reset.mem a = 0)

/-- R6, R444, R587: every command but one answers a next state from every state; only an over-voltage above the absolute maximum of 60 V, for which the
spec states nothing, ends in a fault, and no command is refused.
Where the rules leave a corner open, the clauses state the model's choice (log 51). -/
def Obligations.OnlyBeyondRatingsStops : Prop :=
  ∀ (c : Instr) (s : State),
    (∃ t, exec c s = .next t) ∨ (∃ volts, c = .overVoltageReset volts ∧ 6000 < volts.toNat ∧ exec c s = .fault .beyondRatings)

/-! ## Scalar slots (R70, R82) -/

/-- R82: the two-register operations write D with the value of A op B, 64 bits, and issue goes on; nothing else changes.
R82, R77: the immediate operations write D with the value of A op `IMM`, the immediate signed; shifts take a count below 64; `LI`
writes its 60-bit immediate, sign-extended.
R78, R105: an immediate shift whose `IMM` is 64 or more, that is, with a bit set that the instruction does not use, is an
`ILLEGAL_OPERAND` fault of the scalar unit, and D is not written.
R78, R105: the one slot of a bundle, of any instruction, with a non-zero bit in a field that the instruction does not use is an
`ILLEGAL_BUNDLE` fault, and nothing is executed.
R105, R107: the one slot of a bundle, of any instruction, that raises synchronous faults records the lowest code, and nothing is executed.
R79: a slot that another slot of its bundle follows waits for it; two slots of one bundle both read the state before either writes; a slot for
a core that takes none is not taken (the model's choice, log 4).
R70: scalar register s0 reads zero whatever is written to it, a write to it changes no register, and a write to any other
register is read back there and leaves the others.
Where the rules leave a corner open, the clauses state the model's choice (log 29). -/
def Obligations.ScalarOperations : Prop :=
  (∀ (s : State) (sl : Slot), Sole s.hw sl → sl.imm = 0 → GoesOn s sl →
     let a := sreg (rOf s sl) sl.a.toNat
     let b := sreg (rOf s sl) sl.b.toNat
     let gives (i : Instr) (v : Nat) : Prop :=
       AnswersWith i s (issued sl.core.toNat (setRegs sl.core.toNat (fun r => setS r sl.d.toNat v)) (beginWork s))
     gives (.add sl) ((a + b) % 2 ^ 64) ∧ gives (.sub sl) ((a + 2 ^ 64 - b) % 2 ^ 64) ∧ gives (.mul sl) ((a * b) % 2 ^ 64)
     ∧ gives (.and sl) (a &&& b) ∧ gives (.or sl) (a ||| b) ∧ gives (.xor sl) (a ^^^ b)
     ∧ gives (.shl sl) ((a <<< (b % 64)) % 2 ^ 64) ∧ gives (.shr sl) (a >>> (b % 64))
     ∧ gives (.sra sl) (ofSigned 64 (toSigned 64 a / ((2 ^ (b % 64) : Nat) : Int)))
     ∧ gives (.min sl) (if toSigned 64 a ≤ toSigned 64 b then a else b)
     ∧ gives (.max sl) (if toSigned 64 a ≤ toSigned 64 b then b else a)
     ∧ gives (.slt sl) (if toSigned 64 a < toSigned 64 b then 1 else 0)
     ∧ gives (.sltu sl) (if a < b then 1 else 0))
  ∧ (∀ (s : State) (sl : Slot), Sole s.hw sl → GoesOn s sl →
       let a := sreg (rOf s sl) sl.a.toNat
       let m := ofSigned 64 (toSigned 9 sl.imm.toNat)
       let n := sl.imm.toNat
       let gives (i : Instr) (v : Nat) : Prop :=
         AnswersWith i s (issued sl.core.toNat (setRegs sl.core.toNat (fun r => setS r sl.d.toNat v)) (beginWork s))
       (sl.b = 0 →
         gives (.addi sl) ((a + m) % 2 ^ 64) ∧ gives (.andi sl) (a &&& m) ∧ gives (.ori sl) (a ||| m) ∧ gives (.xori sl) (a ^^^ m)
         ∧ gives (.slti sl) (if toSigned 64 a < toSigned 64 m then 1 else 0)
         ∧ (n < 64 → gives (.shli sl) ((a <<< n) % 2 ^ 64) ∧ gives (.shri sl) (a >>> n)
             ∧ gives (.srai sl) (ofSigned 64 (toSigned 64 a / ((2 ^ n : Nat) : Int)))))
       ∧ (sl.a = 0 → sl.b = 0 → sl.imm = 0 → ∀ imm : BitVec 60, gives (.li sl imm) (ofSigned 64 (toSigned 60 imm.toNat))))
  ∧ (∀ (s : State) (sl : Slot), Sole s.hw sl → sl.b = 0 → 64 ≤ sl.imm.toNat →
       let w := coreFault sl.core.toNat 0x02 0 (rOf s sl).pc 0 false (cleared sl.core.toNat (beginWork s))
       AnswersWith (.shli sl) s w ∧ AnswersWith (.shri sl) s w ∧ AnswersWith (.srai sl) s w)
  ∧ (∀ (s : State) (i : Instr) (x : SlotInfo), slotOf i = some x → Sole s.hw x.sl → fieldsClean x = false →
       AnswersWith i s (coreFault x.sl.core.toNat 0x01 0 (rOf s x.sl).pc 0 false (cleared x.sl.core.toNat (beginWork s))))
  ∧ (∀ (s : State) (i : Instr) (x : SlotInfo), slotOf i = some x → Sole s.hw x.sl → bundleLegal [i] = true → SlotEnabled s.hw x →
       let w := modCore x.sl.core.toNat (fun c => { c with bundle := [i] }) (beginWork s)
       (x.act w x.sl).hold = .none → SlotFaults i s x.sl.core.toNat x.unit (x.act w x.sl).faults)
  ∧ (∀ (s : State) (i : Instr) (x : SlotInfo), slotOf i = some x →
       (issues s.hw x.sl.core.toNat = false → AnswersWith i s (beginWork s))
       ∧ (issues s.hw x.sl.core.toNat = true → x.sl.more = true →
           AnswersWith i s (modCore x.sl.core.toNat (fun c => { c with bundle := c.bundle ++ [i] }) (beginWork s))))
  ∧ (∀ (s : State) (i j : Instr) (x y : SlotInfo) (f g : Work → Work), slotOf i = some x → slotOf j = some y →
       x.sl.core = y.sl.core → y.sl.more = false → x.place < y.place → issues s.hw x.sl.core.toNat = true →
       (coreOf s.hw x.sl.core.toNat).bundle = [i] → bundleLegal [i, j] = true → SlotEnabled s.hw x → SlotEnabled s.hw y →
       let w := modCore x.sl.core.toNat (fun c => { c with bundle := [i, j] }) (beginWork s)
       x.act w x.sl = { effect := f } → y.act w y.sl = { effect := g } →
       AnswersWith j s (nextBundle x.sl.core.toNat none none (g (f (cleared x.sl.core.toNat (beginWork s))))))
  ∧ (∀ sl : Slot, (slotOf (.add sl)).map (fun x => fieldsClean x) = some (sl.imm == 0)
       ∧ (slotOf (.addi sl)).map (fun x => fieldsClean x) = some (sl.b == 0)
       ∧ (slotOf (.st64 sl)).map (fun x => fieldsClean x) = some (sl.d == 0))
  ∧ (∀ (r : CoreRegs) (i j v : Nat),
       sreg (setS r 0 v) 0 = 0 ∧ setS r 0 v = r
       ∧ (i ≠ 0 → sreg (setS r i v) j = if j = i then v % 2 ^ 64 else sreg r j))

/-- R82, R65: a load reads 1, 2, 4 or 8 bytes of the core's own scratchpad at A + `IMM` x size, an aligned offset within it, and
writes them zero-extended to D; nothing else changes.
R82, R65: a store writes the low 1, 2, 4 or 8 bytes of B to the core's own scratchpad at A + `IMM` x size, least-significant
byte first; every byte outside them, and every register, stays as it was.
R67, R68, R105, R107: a scalar access that is misaligned, that leaves the scratchpad, or both, is a fault of the scalar unit with
the offset as its address, and neither a register nor memory is written; the lower code is recorded where both hold.
Where the rules leave a corner open, the clauses state the model's choice (log 29). -/
def Obligations.ScalarMemory : Prop :=
  (∀ (s : State) (sl : Slot), Sole s.hw sl → sl.b = 0 → GoesOn s sl →
     let off (n : Nat) : Nat := ofSigned 64 ((sreg (rOf s sl) sl.a.toNat : Int) + toSigned 9 sl.imm.toNat * n)
     let key (n : Nat) : Nat := scratchKey sl.core.toNat (off n)
     let gives (i : Instr) (n : Nat) : Prop :=
       off n % n = 0 → off n + n ≤ 0x300000 → (beginWork s).good (key n) n →
         AnswersWith i s (issued sl.core.toNat
           (setRegs sl.core.toNat (fun r => setS r sl.d.toNat (leNat (memGet s.mem (key n) n)))) (beginWork s))
     gives (.ld8 sl) 1 ∧ gives (.ld16 sl) 2 ∧ gives (.ld32 sl) 4 ∧ gives (.ld64 sl) 8)
  ∧ (∀ (s : State) (sl : Slot), Sole s.hw sl → sl.d = 0 → GoesOn s sl →
       let off (n : Nat) : Nat := ofSigned 64 ((sreg (rOf s sl) sl.a.toNat : Int) + toSigned 9 sl.imm.toNat * n)
       let key (n : Nat) : Nat := scratchKey sl.core.toNat (off n)
       let v := sreg (rOf s sl) sl.b.toNat
       let gives (i : Instr) (n : Nat) : Prop :=
         off n % n = 0 → off n + n ≤ 0x300000 → (beginWork s).good (key n) n →
           Answers i s (fun w =>
             w = issued sl.core.toNat (fun x => { x with log := [.put (key n) (leBytes n v)] }) (beginWork s)
             ∧ ∀ x, memByte (finish s w).mem x =
                 if key n ≤ x ∧ x < key n + n then BitVec.ofNat 8 (v / 256 ^ (x - key n)) else memByte s.mem x)
       gives (.st8 sl) 1 ∧ gives (.st16 sl) 2 ∧ gives (.st32 sl) 4 ∧ gives (.st64 sl) 8)
  ∧ (∀ (s : State) (sl : Slot), Sole s.hw sl →
       let off (n : Nat) : Nat := ofSigned 64 ((sreg (rOf s sl) sl.a.toNat : Int) + toSigned 9 sl.imm.toNat * n)
       let faults (i : Instr) (n : Nat) : Prop :=
         (off n % n ≠ 0 ∨ 0x300000 < off n + n) →
           AnswersWith i s (coreFault sl.core.toNat (if off n % n ≠ 0 then 0x03 else 0x04) 0 (rOf s sl).pc (off n) false
             (cleared sl.core.toNat (beginWork s)))
       (sl.b = 0 → faults (.ld8 sl) 1 ∧ faults (.ld16 sl) 2 ∧ faults (.ld32 sl) 4 ∧ faults (.ld64 sl) 8)
       ∧ (sl.d = 0 → faults (.st8 sl) 1 ∧ faults (.st16 sl) 2 ∧ faults (.st32 sl) 4 ∧ faults (.st64 sl) 8))

/-! ## Control (R73, R81, R88, R89, R101) -/

/-- R81: a branch goes to the bundle at its offset from its own where that bundle lies in the program; a compare-and-branch whose
condition fails goes on.
R81, R105: a branch to a bundle outside the program is a `BRANCH_RANGE` fault of the scalar unit, and the core does not branch.
R81: `CALL` pushes the index of the bundle after it and branches; `RET` pops the innermost entry and branches there; a push on a
full stack of 16 and a pop of an empty one are faults 0x0D, whatever the target; a push or a pop to outside the program is `BRANCH_RANGE`.
R81: `LOOP` with a count above 0 makes the body from the next bundle to the bundle at its offset the innermost loop, with that many
passes; with a count of 0 issue goes on after the body; a fifth loop is fault 0x0E whatever its count and its offset, and an offset below 1 or
a body that ends outside the program is `BRANCH_RANGE`.
R81: the last bundle of a program takes effect, and issue past it is a `BRANCH_RANGE` fault that gives `BUNDLE_COUNT` as its bundle: so for the
one slot of a bundle that sets registers, and for a branch that is not taken.
Where the rules leave a corner open, the clauses state the model's choice (log 29, 33 and 64). -/
def Obligations.ControlFlow : Prop :=
  (∀ (s : State) (sl : Slot), Sole s.hw sl →
     let c := sl.core.toNat
     let pc : Int := (rOf s sl).pc
     let n : Int := (coreOf s.hw c).bundles
     let a := sreg (rOf s sl) sl.a.toNat
     let b := sreg (rOf s sl) sl.b.toNat
     let near := pc + offset14 sl
     let far := pc + offset24 sl
     let taken (i : Instr) : Prop := AnswersWith i s (branched c near.toNat id (beginWork s))
     let past (i : Instr) : Prop := AnswersWith i s (issued c id (beginWork s))
     let either (i : Instr) (p : Prop) : Prop := (p → 0 ≤ near → near < n → taken i) ∧ (¬p → GoesOn s sl → past i)
     (0 ≤ far → far < n → AnswersWith (.br sl) s (branched c far.toNat id (beginWork s)))
     ∧ either (.beq sl) (a = b) ∧ either (.bne sl) (a ≠ b)
     ∧ either (.blt sl) (toSigned 64 a < toSigned 64 b) ∧ either (.bge sl) (toSigned 64 b ≤ toSigned 64 a))
  ∧ (∀ (s : State) (sl : Slot), Sole s.hw sl →
       let pc : Int := (rOf s sl).pc
       let n : Int := (coreOf s.hw sl.core.toNat).bundles
       let a := sreg (rOf s sl) sl.a.toNat
       let b := sreg (rOf s sl) sl.b.toNat
       let far := pc + offset24 sl
       let near := pc + offset14 sl
       let fault := coreFault sl.core.toNat 0x0F 0 (rOf s sl).pc 0 false (cleared sl.core.toNat (beginWork s))
       ((far < 0 ∨ n ≤ far) → AnswersWith (.br sl) s fault)
       ∧ ((near < 0 ∨ n ≤ near) →
           (a = b → AnswersWith (.beq sl) s fault) ∧ (a ≠ b → AnswersWith (.bne sl) s fault)
           ∧ (toSigned 64 a < toSigned 64 b → AnswersWith (.blt sl) s fault)
           ∧ (toSigned 64 b ≤ toSigned 64 a → AnswersWith (.bge sl) s fault)))
  ∧ (∀ (s : State) (sl : Slot), Sole s.hw sl →
       let c := sl.core.toNat
       let r := rOf s sl
       let n : Int := (coreOf s.hw c).bundles
       let far := (r.pc : Int) + offset24 sl
       let fault (code : Nat) := coreFault c code 0 r.pc 0 false (cleared c (beginWork s))
       (0 ≤ far → far < n → r.returns.length < 16 →
         AnswersWith (.call sl) s (branched c far.toNat (setRegs c (fun q => { q with returns := (r.pc + 1) :: q.returns })) (beginWork s)))
       ∧ ((far < 0 ∨ n ≤ far) → r.returns.length < 16 → AnswersWith (.call sl) s (fault 0x0F))
       ∧ (16 ≤ r.returns.length → AnswersWith (.call sl) s (fault 0x0D))
       ∧ (sl.d = 0 → sl.a = 0 → sl.b = 0 → sl.imm = 0 →
           (∀ t rest, r.returns = t :: rest → (t : Int) < n →
             AnswersWith (.ret sl) s (branched c t (setRegs c (fun q => { q with returns := rest })) (beginWork s)))
           ∧ (∀ t rest, r.returns = t :: rest → n ≤ (t : Int) → AnswersWith (.ret sl) s (fault 0x0F))
           ∧ (r.returns = [] → AnswersWith (.ret sl) s (fault 0x0D))))
  ∧ (∀ (s : State) (sl : Slot), Sole s.hw sl → sl.b = 0 →
       let c := sl.core.toNat
       let r := rOf s sl
       let n : Int := (coreOf s.hw c).bundles
       let count := sreg r sl.a.toNat
       let last := (r.pc : Int) + offset14 sl
       let skip := afterBundle last.toNat r.loops
       let skipped := setRegs c (fun q => { q with pc := skip.1, loops := skip.2 }) (cleared c (beginWork s))
       (1 ≤ offset14 sl → last < n → r.loops.length < 4 → 0 < count →
         AnswersWith (.loop sl) s (issued c (setRegs c (fun q => { q with loops := ⟨r.pc + 1, last.toNat, count⟩ :: q.loops })) (beginWork s)))
       ∧ (1 ≤ offset14 sl → last < n → r.loops.length < 4 → count = 0 →
         (skip.1 < (coreOf s.hw c).bundles → AnswersWith (.loop sl) s skipped)
         ∧ ((coreOf s.hw c).bundles ≤ skip.1 → AnswersWith (.loop sl) s (coreFault c 0x0F 0 (coreOf s.hw c).bundles 0 false skipped)))
       ∧ ((offset14 sl < 1 ∨ n ≤ last) → r.loops.length < 4 →
         AnswersWith (.loop sl) s (coreFault c 0x0F 0 r.pc 0 false (cleared c (beginWork s))))
       ∧ (4 ≤ r.loops.length → AnswersWith (.loop sl) s (coreFault c 0x0E 0 r.pc 0 false (cleared c (beginWork s)))))
  ∧ (∀ (s : State) (sl : Slot), Sole s.hw sl → ¬ GoesOn s sl →
       let c := sl.core.toNat
       let a := sreg (rOf s sl) sl.a.toNat
       let b := sreg (rOf s sl) sl.b.toNat
       let pastEnd (f : CoreRegs → CoreRegs) : Work :=
         coreFault c 0x0F 0 (coreOf s.hw c).bundles 0 false (issued c (setRegs c f) (beginWork s))
       (sl.imm = 0 → AnswersWith (.add sl) s (pastEnd (fun r => setS r sl.d.toNat ((a + b) % 2 ^ 64))))
       ∧ (a ≠ b → AnswersWith (.beq sl) s (pastEnd id)) ∧ (a = b → AnswersWith (.bne sl) s (pastEnd id))
       ∧ (toSigned 64 b ≤ toSigned 64 a → AnswersWith (.blt sl) s (pastEnd id))
       ∧ (toSigned 64 a < toSigned 64 b → AnswersWith (.bge sl) s (pastEnd id)))
  ∧ (∀ (s : State) (i : Instr) (x : SlotInfo) (f : CoreRegs → CoreRegs), slotOf i = some x → Sole s.hw x.sl → bundleLegal [i] = true →
       SlotEnabled s.hw x → ¬ GoesOn s x.sl → (∀ r, (f r).pc = r.pc ∧ (f r).loops = r.loops) →
       let c := x.sl.core.toNat
       x.act (modCore c (fun k => { k with bundle := [i] }) (beginWork s)) x.sl = { effect := setRegs c f } →
       AnswersWith i s (coreFault c 0x0F 0 (coreOf s.hw c).bundles 0 false (issued c (setRegs c f) (beginWork s))))

/-- R80, R89: `WAIT` and `WAITI` let the bundle go on once wait counter D has reached A or `IMM`, unsigned; until then the core holds the bundle.
R89: at `WAIT_SATISFIED` a held bundle of one `WAIT` or `WAITI` goes on where the counter has reached the value, and stays held where it has not;
a core that holds no bundle for a wait is left as it was.
R88, R89, R105: `WCADD` adds `IMM`, 1 to 511, to wait counter D; a sum beyond 0xFFFF_FFFF is a `WAIT_OVERFLOW` fault naming the counter, and an
`IMM` of 0 an `ILLEGAL_OPERAND` fault, and in both cases the counter keeps its value; `WCREAD` writes a counter to a scalar register.
R89: a raise of a counter adds to it; a raise beyond 0xFFFF_FFFF leaves 0xFFFF_FFFF and is a `WAIT_OVERFLOW` fault.
Where the rules leave a corner open, the clauses state the model's choice (log 29). -/
def Obligations.Waits : Prop :=
  (∀ (s : State) (sl : Slot), Sole s.hw sl → sl.b = 0 → sl.imm = 0 →
     let n := sreg (rOf s sl) sl.a.toNat
     (n ≤ wcOf (rOf s sl) sl.d.toNat → GoesOn s sl → AnswersWith (.wait sl) s (issued sl.core.toNat id (beginWork s)))
     ∧ (wcOf (rOf s sl) sl.d.toNat < n →
         AnswersWith (.wait sl) s (modCore sl.core.toNat (fun x => { x with bundle := [.wait sl], hold := .wait }) (beginWork s))))
  ∧ (∀ (s : State) (sl : Slot), Sole s.hw sl → sl.a = 0 → sl.b = 0 →
     (sl.imm.toNat ≤ wcOf (rOf s sl) sl.d.toNat → GoesOn s sl → AnswersWith (.waiti sl) s (issued sl.core.toNat id (beginWork s)))
     ∧ (wcOf (rOf s sl) sl.d.toNat < sl.imm.toNat →
         AnswersWith (.waiti sl) s (modCore sl.core.toNat (fun x => { x with bundle := [.waiti sl], hold := .wait }) (beginWork s))))
  ∧ (∀ (s : State) (core : BitVec 8) (sl : Slot) (n : Nat), sl.core = core →
       coreLive s.hw core.toNat = true → (coreOf s.hw core.toNat).running = true → (coreOf s.hw core.toNat).hold = .wait →
       ((coreOf s.hw core.toNat).bundle = [.wait sl] ∧ sl.b = 0 ∧ sl.imm = 0 ∧ n = sreg (rOf s sl) sl.a.toNat
         ∨ (coreOf s.hw core.toNat).bundle = [.waiti sl] ∧ sl.a = 0 ∧ sl.b = 0 ∧ n = sl.imm.toNat) →
       (n ≤ wcOf (rOf s sl) sl.d.toNat → GoesOn s sl → AnswersWith (.waitSatisfied core) s (issued core.toNat id (beginWork s)))
       ∧ (wcOf (rOf s sl) sl.d.toNat < n →
         AnswersWith (.waitSatisfied core) s (modCore core.toNat (fun x => { x with hold := .wait }) (beginWork s))))
  ∧ (∀ (s : State) (core : BitVec 8),
       (coreLive s.hw core.toNat = false ∨ (coreOf s.hw core.toNat).running = false ∨ (coreOf s.hw core.toNat).hold ≠ .wait) →
       AnswersWith (.waitSatisfied core) s (beginWork s))
  ∧ (∀ (s : State) (sl : Slot), Sole s.hw sl → sl.a = 0 → sl.b = 0 →
       let c := sl.core.toNat
       let r := rOf s sl
       let sum := wcOf r sl.d.toNat + sl.imm.toNat
       (1 ≤ sl.imm.toNat → sum < 2 ^ 32 → GoesOn s sl →
         AnswersWith (.wcadd sl) s (issued c (setRegs c (fun q => { q with wc := tabSet 0 q.wc sl.d.toNat sum })) (beginWork s)))
       ∧ (1 ≤ sl.imm.toNat → 2 ^ 32 ≤ sum →
         AnswersWith (.wcadd sl) s (coreFault c 0x0C 0 r.pc sl.d.toNat false (cleared c (beginWork s))))
       ∧ (sl.imm = 0 → AnswersWith (.wcadd sl) s (coreFault c 0x02 0 r.pc 0 false (cleared c (beginWork s)))))
  ∧ (∀ (s : State) (sl : Slot), Sole s.hw sl → sl.b = 0 → sl.imm = 0 → GoesOn s sl →
       AnswersWith (.wcread sl) s (issued sl.core.toNat
         (setRegs sl.core.toNat (fun q => setS q sl.d.toNat (wcOf (rOf s sl) sl.a.toNat))) (beginWork s)))
  ∧ (∀ (w : Work) (c counter n bundle unit : Nat),
       let sum := wcOf (coreOf w.hw c).r counter + n
       (sum < 2 ^ 32 → raiseWc c counter n bundle unit w = setRegs c (fun q => { q with wc := tabSet 0 q.wc counter sum }) w)
       ∧ (2 ^ 32 ≤ sum → raiseWc c counter n bundle unit w
           = coreFault c 0x0C unit bundle counter true (setRegs c (fun q => { q with wc := tabSet 0 q.wc counter 0xFFFFFFFF }) w)))

/-- R57, R59, R73: `TIME`, `CYC` and `TICK` write the Spire's time counter, the core's cycle counter and the tick number; `CSRR` writes
the control register that `IMM` names: mode, context, core, endpoint, partition, matrix rate, floor, counts and frame.
R73, R74: `CSRW` writes `CORE_MODE`; a value of `ROUND` 3, or with a reserved bit, is an `ILLEGAL_OPERAND` fault; a write to any other
control register is discarded; an unlisted number reads zero.
R101, R548, R551: `MARKB` pushes its identifier and time on the marker stack, of at most 8, and writes its record with the new depth; `MARKE` pops the
entry of its identifier and samples its time, and leaves another entry and sets the mismatch flag; `MARKP` changes no stack; while Burin is disabled
no record is written.
R102: `END` makes the core stop issuing and wait for its outstanding operations.
Where the rules leave a corner open, the clauses state the model's choice (log 29 and 64). -/
def Obligations.ControlRegisters : Prop :=
  (∀ (s : State) (sl : Slot), Sole s.hw sl → sl.a = 0 → sl.b = 0 → GoesOn s sl →
     let c := sl.core.toNat
     let k := coreOf s.hw c
     let gives (i : Instr) (v : Nat) : Prop :=
       AnswersWith i s (issued c (setRegs c (fun q => setS q sl.d.toNat v)) (beginWork s))
     (sl.imm = 0 → gives (.time sl) (stampOf s.hw (coreRegion c)).1 ∧ gives (.cyc sl) (cyclesNow s.hw c)
       ∧ gives (.tick sl) s.hw.time.tick)
     ∧ (sl.imm.toNat = 0 → gives (.csrr sl) k.r.mode) ∧ (sl.imm.toNat = 1 → gives (.csrr sl) k.ctx)
     ∧ (sl.imm.toNat = 2 → gives (.csrr sl) c) ∧ (sl.imm.toNat = 3 → gives (.csrr sl) (endpointOf s.hw (spireOf c)))
     ∧ (sl.imm.toNat = 4 → gives (.csrr sl) (partCount s.hw + 8 * partOfCore s.hw c))
     ∧ (sl.imm.toNat = 5 → gives (.csrr sl) (issueRate s.hw c))
     ∧ (sl.imm.toNat = 6 → gives (.csrr sl) s.hw.time.floor)
     ∧ (sl.imm.toNat = 7 → gives (.csrr sl) (k.lateDropped + k.noBuffer * 2 ^ 16 + k.oversize * 2 ^ 32 + k.ackRefused * 2 ^ 48))
     ∧ (sl.imm.toNat = 8 → gives (.csrr sl) k.graverErrors) ∧ (sl.imm.toNat = 9 → gives (.csrr sl) k.frame)
     ∧ (10 ≤ sl.imm.toNat → gives (.csrr sl) 0))
  ∧ (∀ (s : State) (sl : Slot), Sole s.hw sl → sl.d = 0 → sl.b = 0 →
       let c := sl.core.toNat
       let v := sreg (rOf s sl) sl.a.toNat
       (sl.imm.toNat = 0 → v < 3 → GoesOn s sl → AnswersWith (.csrw sl) s (issued c (setRegs c (fun q => { q with mode := v })) (beginWork s)))
       ∧ (sl.imm.toNat = 0 → 3 ≤ v → AnswersWith (.csrw sl) s (coreFault c 0x02 0 (rOf s sl).pc 0 false (cleared c (beginWork s))))
       ∧ (sl.imm.toNat ≠ 0 → GoesOn s sl → AnswersWith (.csrw sl) s (issued c id (beginWork s))))
  ∧ (∀ (s : State) (sl : Slot), Sole s.hw sl → sl.d = 0 → sl.b = 0 → sl.imm = 0 →
       let c := sl.core.toNat
       let r := rOf s sl
       let id32 := sreg r sl.a.toNat % 2 ^ 32
       let now := (stampOf s.hw (coreRegion c)).1
       (GoesOn s sl → r.marks.length < 8 →
         AnswersWith (.markb sl) s (issued c (fun w => markRecord c 1 id32 (r.marks.length + 1) false
           (setRegs c (fun q => { q with marks := (id32, now) :: q.marks }) w)) (beginWork s)))
       ∧ (GoesOn s sl → 8 ≤ r.marks.length → AnswersWith (.markb sl) s (issued c (markRecord c 1 id32 8 true) (beginWork s)))
       ∧ (GoesOn s sl → ∀ t rest, r.marks = (id32, t) :: rest →
         AnswersWith (.marke sl) s (issued c (fun w => sample 11 id32 ((now : Int) - t) (markRecord c 2 id32 r.marks.length false
           (setRegs c (fun q => { q with marks := rest }) w))) (beginWork s)))
       ∧ (GoesOn s sl → (∀ t rest, r.marks ≠ (id32, t) :: rest) →
         AnswersWith (.marke sl) s (issued c (markRecord c 2 id32 r.marks.length true) (beginWork s)))
       ∧ (GoesOn s sl → AnswersWith (.markp sl) s (issued c (markRecord c 3 id32 r.marks.length false) (beginWork s)))
       ∧ (sl.a = 0 → AnswersWith (.endFrame sl) s (issued c (modCore c (fun x => { x with ending := true })) (beginWork s))))
  ∧ (∀ (w : Work) (core kind id32 depth : Nat) (mismatch : Bool), w.hw.burin.enable = false → markRecord core kind id32 depth mismatch w = w)


/-! ## Vector slots (R83, R136) -/

/-- R83, R115: the F32 lane operations write each lane of D with the exact result of the lanes of A, B and, for `VFMA`, D, rounded once to
nearest-even; nothing else changes.
R83: the special cases of `VEXP2`, `VLOG2`, `VRCP` and `VRSQRT` on zeros, infinities, negative numbers and NaN, and log2 of 1.0.
R83: the I32 lane operations wrap at 32 bits, and the shifts move a lane of A by the low five bits of the lane of B.
R83, R78: a compare writes predicate D[2:0], one bit a lane; `VSEL` takes lanes of A where its predicate is 1 and of B elsewhere; a
predicate number of 8 or more is an `ILLEGAL_OPERAND` fault of the vector unit.
R439: a legal vector slot that nothing else holds issues in a vector-enabled cycle; in any other cycle the core holds the bundle.
Where the rules leave a corner open, the clauses state the model's choice (log 14, 33 and 69). -/
def Obligations.VectorArithmetic : Prop :=
  (∀ (s : State) (i : Instr) (x : SlotInfo), slotOf i = some x → x.place = 1 → Sole s.hw x.sl → bundleLegal [i] = true →
     vectorEnables s.hw x.sl.core.toNat = false →
     AnswersWith i s (modCore x.sl.core.toNat (fun k => { k with bundle := [i], hold := .rate }) (beginWork s)))
  ∧ (∀ (s : State) (sl : Slot), Sole s.hw sl → vectorEnables s.hw sl.core.toNat = true → sl.imm = 0 → GoesOn s sl →
     let c := sl.core.toNat
     let a (i : Nat) : Nat := lane (vreg (rOf s sl) sl.a.toNat) i
     let b (i : Nat) : Nat := lane (vreg (rOf s sl) sl.b.toNat) i
     let d (i : Nat) : Nat := lane (vreg (rOf s sl) sl.d.toNat) i
     let gives (i : Instr) (f : Nat → Nat) : Prop :=
       AnswersWith i s (issued c (setRegs c (fun q => setV q sl.d.toNat (mapLanes f))) (beginWork s))
     gives (.vadd sl) (fun i => f32Of (vAdd (f32Val (a i)) (f32Val (b i))))
     ∧ gives (.vsub sl) (fun i => f32Of (vAdd (f32Val (a i)) (vNegate (f32Val (b i)))))
     ∧ gives (.vmul sl) (fun i => f32Of (vMul (f32Val (a i)) (f32Val (b i))))
     ∧ gives (.vfma sl) (fun i => f32Of (vAdd (vMul (f32Val (a i)) (f32Val (b i))) (f32Val (d i))))
     ∧ gives (.vmin sl) (fun i => f32Min (a i) (b i)) ∧ gives (.vmax sl) (fun i => f32Max (a i) (b i))
     ∧ (sl.b = 0 → gives (.vabs sl) (fun i => f32Of (vWithSign false (f32Val (a i))))
       ∧ gives (.vneg sl) (fun i => f32Of (vNegate (f32Val (a i))))
       ∧ gives (.vexp2 sl) (fun i => f32Exp2 (a i)) ∧ gives (.vlog2 sl) (fun i => f32Log2 (a i))
       ∧ gives (.vrcp sl) (fun i => f32Rcp (a i)) ∧ gives (.vrsqrt sl) (fun i => f32Rsqrt (a i))))
  ∧ (let nan := 0x7FC00000
     let inf := 0x7F800000
     let ninf := 0xFF800000
     let one := 0x3F800000
     (f32Exp2 0 = one ∧ f32Exp2 0x80000000 = one ∧ f32Exp2 inf = inf ∧ f32Exp2 ninf = 0)
     ∧ (f32Log2 0 = ninf ∧ f32Log2 0x80000000 = ninf ∧ f32Log2 inf = inf ∧ f32Log2 ninf = nan ∧ f32Log2 one = 0)
     ∧ (f32Rcp 0 = inf ∧ f32Rcp 0x80000000 = ninf ∧ f32Rcp inf = 0 ∧ f32Rcp ninf = 0x80000000)
     ∧ (f32Rsqrt 0 = inf ∧ f32Rsqrt 0x80000000 = ninf ∧ f32Rsqrt inf = 0 ∧ f32Rsqrt ninf = nan)
     ∧ ∀ m : Nat, 0 < m → m < 2 ^ 23 → ∀ n : Nat, n < 2 →
         f32Exp2 (n * 2 ^ 31 + inf + m) = nan ∧ f32Log2 (n * 2 ^ 31 + inf + m) = nan
         ∧ f32Rcp (n * 2 ^ 31 + inf + m) = nan ∧ f32Rsqrt (n * 2 ^ 31 + inf + m) = nan)
  ∧ (∀ (s : State) (sl : Slot), Sole s.hw sl → vectorEnables s.hw sl.core.toNat = true → sl.imm = 0 → GoesOn s sl →
       let c := sl.core.toNat
       let a (i : Nat) : Nat := lane (vreg (rOf s sl) sl.a.toNat) i
       let b (i : Nat) : Nat := lane (vreg (rOf s sl) sl.b.toNat) i
       let gives (i : Instr) (f : Nat → Nat) : Prop :=
         AnswersWith i s (issued c (setRegs c (fun q => setV q sl.d.toNat (mapLanes f))) (beginWork s))
       gives (.viadd sl) (fun i => (a i + b i) % 2 ^ 32) ∧ gives (.visub sl) (fun i => (a i + 2 ^ 32 - b i) % 2 ^ 32)
       ∧ gives (.vimul sl) (fun i => (a i * b i) % 2 ^ 32)
       ∧ gives (.vand sl) (fun i => a i &&& b i) ∧ gives (.vor sl) (fun i => a i ||| b i) ∧ gives (.vxor sl) (fun i => a i ^^^ b i)
       ∧ gives (.vshl sl) (fun i => (a i <<< (b i % 32)) % 2 ^ 32) ∧ gives (.vshr sl) (fun i => a i >>> (b i % 32))
       ∧ gives (.vsra sl) (fun i => ofSigned 32 (toSigned 32 (a i) / ((2 ^ (b i % 32) : Nat) : Int))))
  ∧ (∀ (s : State) (sl : Slot), Sole s.hw sl → vectorEnables s.hw sl.core.toNat = true →
       let c := sl.core.toNat
       let a (i : Nat) : Nat := lane (vreg (rOf s sl) sl.a.toNat) i
       let b (i : Nat) : Nat := lane (vreg (rOf s sl) sl.b.toNat) i
       let fault := coreFault c 0x02 1 (rOf s sl).pc 0 false (cleared c (beginWork s))
       let compares (i : Instr) (p : Val → Val → Bool) : Prop :=
         (sl.imm = 0 → sl.d.toNat < 8 → GoesOn s sl → AnswersWith i s (issued c
           (setRegs c (fun q => setP q sl.d.toNat (packElems 1 ((List.range 128).map (fun k => if p (f32Val (a k)) (f32Val (b k)) then 1 else 0)))))
           (beginWork s)))
         ∧ (sl.imm = 0 → 8 ≤ sl.d.toNat → AnswersWith i s fault)
       compares (.vcmpeq sl) (fun x y => vLe false x y && vLe false y x)
       ∧ compares (.vcmplt sl) (fun x y => vLe false x y && !(vLe false y x))
       ∧ compares (.vcmple sl) (fun x y => vLe false x y)
       ∧ (sl.imm.toNat < 8 → GoesOn s sl → AnswersWith (.vsel sl) s (issued c
           (setRegs c (fun q => setV q sl.d.toNat (mapLanes (fun i => if bit (preg (rOf s sl) sl.imm.toNat) i then a i else b i)))) (beginWork s)))
       ∧ (8 ≤ sl.imm.toNat → AnswersWith (.vsel sl) s fault))

/-- R83: `VBCAST` writes the low 32 bits of a scalar register to every lane, `VPERM` lane i with lane B[i] mod 128 of A, `VSHIFTL` moves the
lanes down by `IMM` with zeros entering, and the reductions leave the sum or maximum in halving order in lane 0 and zero elsewhere.
R136, R111, R134: `VCVT` converts the 128 elements of A from the format `IMM`[3:0] to the format `IMM`[7:4] under the core's rounding
mode, packed from element 0 up, and takes 32 words of the generator where that mode is stochastic; a microscaling format or `IMM`[8] is an
`ILLEGAL_OPERAND` fault of the vector unit.
R136, R120, R121: `VCVTMX` unpacks four microscaling blocks, with their scale bytes at bytes 496 to 499 of A, to F32 or F16, or packs 128
F32 or F16 elements of A into four blocks and their scales; any other pair of formats, and a variant of a format that has none, is an
`ILLEGAL_OPERAND` fault.
Where the rules leave a corner open, the clauses state the model's choice (log 31). -/
def Obligations.VectorMovesAndConversions : Prop :=
  (∀ (s : State) (sl : Slot), Sole s.hw sl → vectorEnables s.hw sl.core.toNat = true → GoesOn s sl →
     let c := sl.core.toNat
     let r := rOf s sl
     let a (i : Nat) : Nat := lane (vreg r sl.a.toNat) i
     let b (i : Nat) : Nat := lane (vreg r sl.b.toNat) i
     let gives (i : Instr) (v : Nat) : Prop :=
       AnswersWith i s (issued c (setRegs c (fun q => setV q sl.d.toNat v)) (beginWork s))
     let level (f : Nat → Nat → Nat) (n : Nat) (t : List Nat) : List Nat :=
       (List.range n).map (fun i => f (t.getD i 0) (t.getD (i + n) 0))
     let reduced (f : Nat → Nat → Nat) : Nat :=
       ((level f 1 (level f 2 (level f 4 (level f 8 (level f 16 (level f 32 (level f 64 ((List.range 128).map a)))))))).getD 0 0)
     (sl.b = 0 → sl.imm = 0 → gives (.vbcast sl) (mapLanes (fun _ => sreg r sl.a.toNat % 2 ^ 32)))
     ∧ (sl.imm = 0 → gives (.vperm sl) (mapLanes (fun i => a (b i % 128))))
     ∧ (sl.b = 0 → gives (.vshiftl sl) (vreg r sl.a.toNat / 2 ^ (32 * sl.imm.toNat)))
     ∧ (sl.b = 0 → sl.imm = 0 → gives (.vredadd sl) (reduced f32Add) ∧ gives (.vredmax sl) (reduced f32Max)))
  ∧ (∀ (s : State) (sl : Slot), Sole s.hw sl → vectorEnables s.hw sl.core.toNat = true → sl.b = 0 →
       let c := sl.core.toNat
       let r := rOf s sl
       let src := sl.imm.toNat % 16
       let dst := sl.imm.toNat / 16 % 16
       let draws (q : CoreRegs) : CoreRegs := if q.mode = 2 then { q with srWord := (q.srWord + 32) % 2 ^ 64 } else q
       let elems := (List.range 128).map (fun e =>
         convertElem src dst (roundFor r.mode r.srKey r.srWord e) (elemAt (fmtWidth src) (vreg r sl.a.toNat) e))
       (isMx src = false → isMx dst = false → sl.imm.toNat < 256 → GoesOn s sl →
         AnswersWith (.vcvt sl) s (issued c (setRegs c (fun q => draws (setV q sl.d.toNat (packElems (fmtWidth dst) elems)))) (beginWork s)))
       ∧ ((isMx src = true ∨ isMx dst = true ∨ 256 ≤ sl.imm.toNat) →
         AnswersWith (.vcvt sl) s (coreFault c 0x02 1 r.pc 0 false (cleared c (beginWork s)))))
  ∧ (∀ (s : State) (sl : Slot), Sole s.hw sl → vectorEnables s.hw sl.core.toNat = true → sl.b = 0 →
       let c := sl.core.toNat
       let r := rOf s sl
       let x := vreg r sl.a.toNat
       let src := sl.imm.toNat % 16
       let dst := sl.imm.toNat / 16 % 16
       let variant := sl.imm.toNat / 256
       let round (e : Nat) : Round := roundFor r.mode r.srKey r.srWord e
       let draws (q : CoreRegs) : CoreRegs := if q.mode = 2 then { q with srWord := (q.srWord + 32) % 2 ^ 64 } else q
       let gives (v : Nat) : Prop :=
         AnswersWith (.vcvtmx sl) s (issued c (setRegs c (fun q => draws (setV q sl.d.toNat v))) (beginWork s))
       let block (b : Nat) : Nat × List Nat :=
         mxPack dst variant ((List.range 32).map (fun i => round (32 * b + i)))
           ((List.range 32).map (fun i => decodeElem src (elemAt (fmtWidth src) x (32 * b + i))))
       (GoesOn s sl → isMx src = true → (dst = 0 ∨ dst = 2) → (variant = 0 ∨ src = 8 ∨ src = 9) →
         gives (packElems (fmtWidth dst) ((List.range 128).map (fun e =>
           encodeElem dst (round e) (mxVal src variant (elemAt 8 x (496 + e / 32)) (elemAt (fmtWidth src) x e))))))
       ∧ (GoesOn s sl → isMx dst = true → (src = 0 ∨ src = 2) → (variant = 0 ∨ dst = 8 ∨ dst = 9) →
         gives (packElems (fmtWidth dst) ((List.range 4).flatMap (fun b => (block b).2))
           + packElems 8 ((List.range 4).map (fun b => (block b).1)) * 2 ^ 3968))
       ∧ (¬(isMx src = true ∧ (dst = 0 ∨ dst = 2) ∧ (variant = 0 ∨ src = 8 ∨ src = 9)) →
          ¬(isMx dst = true ∧ (src = 0 ∨ src = 2) ∧ (variant = 0 ∨ dst = 8 ∨ dst = 9)) →
          AnswersWith (.vcvtmx sl) s (coreFault c 0x02 1 r.pc 0 false (cleared c (beginWork s)))))

/-- R83, R68: `VLD` loads 512 bytes of the core's scratchpad at A + `IMM` x 64 into D, `VST` stores D there, `VSTP` only the lanes whose
predicate bit is 1, and `VGATHER` loads lane i from A + B[i]; every byte outside the stored lanes stays as it was.
R67, R68, R78, R105, R107, R468: an access that is misaligned or leaves the scratchpad is a fault of the vector unit with the offset as its address,
the lower code where both hold, for `VGATHER` that of the first lane with it; a predicate of 8 or more an `ILLEGAL_OPERAND` fault; a load from
memory that cannot be read an `UNCORRECTABLE_READ` fault; and neither a register nor memory is written.
Where the rules leave a corner open, the clauses state the model's choice (log 15 and 29). -/
def Obligations.VectorMemory : Prop :=
  (∀ (s : State) (sl : Slot), Sole s.hw sl → vectorEnables s.hw sl.core.toNat = true → GoesOn s sl →
    let c := sl.core.toNat
    let r := rOf s sl
    let off := ofSigned 64 ((sreg r sl.a.toNat : Int) + toSigned 9 sl.imm.toNat * 64)
    let key := scratchKey c off
    let v := vreg r sl.d.toNat
    let at_ (i : Nat) : Nat := (sreg r sl.a.toNat + lane (vreg r sl.b.toNat) i) % 2 ^ 64
    let stores (i : Instr) (p : Nat → Bool) : Prop :=
      Answers i s (fun w => w.hw = (issued c id (beginWork s)).hw ∧ ∀ x, memByte (finish s w).mem x =
        if key ≤ x ∧ x < key + 512 ∧ p ((x - key) / 4) then BitVec.ofNat 8 (v / 256 ^ (x - key)) else memByte s.mem x)
    (off % 64 = 0 → off + 512 ≤ 0x300000 → (beginWork s).good key 512 →
      (sl.b = 0 → AnswersWith (.vld sl) s (issued c (setRegs c (fun q => setV q sl.d.toNat (leNat (memGet s.mem key 512)))) (beginWork s)))
      ∧ (sl.b = 0 → stores (.vst sl) (fun _ => true))
      ∧ (sl.b.toNat < 8 → stores (.vstp sl) (bit (preg r sl.b.toNat))))
    ∧ (sl.imm = 0 → (∀ i, i < 128 → at_ i % 4 = 0 ∧ at_ i + 4 ≤ 0x300000 ∧ (beginWork s).good (scratchKey c (at_ i)) 4) →
      AnswersWith (.vgather sl) s (issued c (setRegs c (fun q => setV q sl.d.toNat
        (ofLanes ((List.range 128).map (fun i => leNat (memGet s.mem (scratchKey c (at_ i)) 4)))))) (beginWork s))))
  ∧ (∀ (s : State) (sl : Slot), Sole s.hw sl → vectorEnables s.hw sl.core.toNat = true →
    let c := sl.core.toNat
    let r := rOf s sl
    let off := ofSigned 64 ((sreg r sl.a.toNat : Int) + toSigned 9 sl.imm.toNat * 64)
    let at_ (i : Nat) : Nat := (sreg r sl.a.toNat + lane (vreg r sl.b.toNat) i) % 2 ^ 64
    let good (i : Nat) : Bool := (beginWork s).good (scratchKey c (at_ i)) 4
    let fault (code address : Nat) : Work := coreFault c code 1 r.pc address false (cleared c (beginWork s))
    let firstAt (p : Nat → Prop) (i : Nat) : Prop := i < 128 ∧ p i ∧ ∀ j, j < i → ¬p j
    ((off % 64 ≠ 0 ∨ 0x300000 < off + 512) →
      let w := fault (if off % 64 ≠ 0 then 0x03 else 0x04) off
      (sl.b = 0 → AnswersWith (.vld sl) s w ∧ AnswersWith (.vst sl) s w) ∧ (sl.b.toNat < 8 → AnswersWith (.vstp sl) s w))
    ∧ (8 ≤ sl.b.toNat → AnswersWith (.vstp sl) s (fault 0x02 0))
    ∧ (sl.b = 0 → off % 64 = 0 → off + 512 ≤ 0x300000 → (beginWork s).good (scratchKey c off) 512 = false →
        AnswersWith (.vld sl) s (fault 0x0B ((beginWork s).firstBad (scratchKey c off) 512 - scratchKey c 0)))
    ∧ (sl.imm = 0 → ∀ i,
        (firstAt (fun k => at_ k % 4 ≠ 0) i → AnswersWith (.vgather sl) s (fault 0x03 (at_ i)))
        ∧ ((∀ k, k < 128 → at_ k % 4 = 0) → firstAt (fun k => 0x300000 < at_ k + 4) i → AnswersWith (.vgather sl) s (fault 0x04 (at_ i)))
        ∧ ((∀ k, k < 128 → at_ k % 4 = 0 ∧ at_ k + 4 ≤ 0x300000) → firstAt (fun k => good k = false) i →
            AnswersWith (.vgather sl) s (fault 0x0B (at_ i)))))

/-! ## The matrix engine (R146 to R171) -/

/-- R147, R148: `MDSET` loads the 32-byte descriptor at scratchpad offset A into register D; a descriptor that breaks R147 is a
`DESCRIPTOR_INVALID` fault naming the bundle, and one that cannot be read an `UNCORRECTABLE_READ` fault, and the register keeps its value. A
descriptor that is accepted has `ROWS` 1 to 128, `LENGTH` 1 to 16,384, aligned offsets and strides, and no streamed field unless it is streamed.
R149, R151 to R154, R165, R97: a matrix instruction whose operands meet R152 to R154 joins the core's queue of 8 with the copies of its
descriptors and of the core's rounding state, in issue order; where the queue is full the core holds the bundle.
R160, R161: `MMA` and `MMAS` issue in an enabled cycle only; in any other the core holds the bundle.
R152, R153, R105: operands that break R152 or R154 are an `ILLEGAL_OPERAND` fault of the matrix unit, and rows that leave the scratchpad or the
grant a fault with the first offending range as its address; nothing is queued.
Where the rules leave a corner open, the clauses state the model's choice (log 16, 17, 29 and 69). -/
def Obligations.MatrixIssue : Prop :=
  (∀ (s : State) (sl : Slot), Sole s.hw sl → sl.b = 0 → sl.imm = 0 →
     let c := sl.core.toNat
     let off := sreg (rOf s sl) sl.a.toNat
     let key := scratchKey c off
     let fault (code address : Nat) : Work := coreFault c code 2 (rOf s sl).pc address false (cleared c (beginWork s))
     (GoesOn s sl → sl.d.toNat < 16 → off % 32 = 0 → off + 32 ≤ 0x300000 →
       ((beginWork s).good key 32 → ∀ d, parseMDesc (memGet s.mem key 32) = some d →
         AnswersWith (.mdset sl) s (issued c (setRegs c (fun q => { q with m := tabSet {} q.m sl.d.toNat d })) (beginWork s)))
       ∧ ((beginWork s).good key 32 → parseMDesc (memGet s.mem key 32) = none →
         AnswersWith (.mdset sl) s (issued c (coreFault c 0x0A 2 (rOf s sl).pc off true) (beginWork s)))
       ∧ ((beginWork s).good key 32 = false →
         AnswersWith (.mdset sl) s (issued c (coreFault c 0x0B 2 (rOf s sl).pc off true) (beginWork s))))
     ∧ (16 ≤ sl.d.toNat → AnswersWith (.mdset sl) s (fault 0x02 0))
     ∧ (sl.d.toNat < 16 → off % 32 ≠ 0 → AnswersWith (.mdset sl) s (fault 0x03 off))
     ∧ (sl.d.toNat < 16 → off % 32 = 0 → 0x300000 < off + 32 → AnswersWith (.mdset sl) s (fault 0x04 off)))
  ∧ (∀ (bs : List Byte) (d : MDesc), parseMDesc bs = some d →
       d.format = field bs 0 1 % 32 ∧ d.format ≤ 15 ∧ d.rows = field bs 2 2 ∧ 1 ≤ d.rows ∧ d.rows ≤ 128
       ∧ d.length = field bs 4 2 ∧ 1 ≤ d.length ∧ d.length ≤ 16384 ∧ d.base = field bs 8 4 ∧ d.base % 16 = 0
       ∧ d.rowStride = field bs 12 4 ∧ d.rowStride % 16 = 0 ∧ d.pieceChunks ≤ 64 ∧ field bs 26 2 = 0
       ∧ (d.variant ≠ 0 → d.format = 8 ∨ d.format = 9)
       ∧ (d.pieceChunks = 0 → d.pieceStride = 0 ∧ d.mapOrBase = 0) ∧ (isMx d.format = false → d.scaleBase = 0 ∧ d.scaleStride = 0))
  ∧ (∀ (s : State) (sl : Slot), Sole s.hw sl →
       let c := sl.core.toNat
       let r := rOf s sl
       let a := tabGet {} r.m sl.a.toNat
       let b := tabGet {} r.m sl.b.toNat
       let ma := descFaults s.hw c a
       let mb := descFaults s.hw c b
       let pair := a.length = b.length ∧ (macPair a.format b.format).isSome ∧ a.tileInt = false ∧ b.tileInt = false ∧ b.staging = false
         ∧ b.pieceChunks = 0 ∧ ((isMx a.format ∨ isMx b.format) → a.length % 32 = 0)
       let stream := a.staging = true ∧ a.pieceChunks ≠ 0 ∧ pieceCount a ≤ 128 ∧ (a.mapMode = 0 → a.clearMap = false)
       let named := sl.d.toNat < 8 ∧ sl.a.toNat < 16 ∧ sl.b.toNat < 16
       let mapIn := a.mapMode = 1 → inGrant s.hw c a.mapOrBase 16 = true
       let enabled := rateEnables s.hw c = true
       let room := (coreOf s.hw c).matrixQ.length < 8
       let op (kind : MatrixKind) (l q : MDesc) : MatrixOp :=
         { kind := kind, tile := sl.d.toNat, left := l, right := q, wc := sl.imm.toNat, bundle := r.pc, mode := r.mode, key := r.srKey,
           word := r.srWord, begun := false, pieces := 0 }
       let held (i : Instr) (h : Hold) : Prop := AnswersWith i s (modCore c (fun x => { x with bundle := [i], hold := h }) (beginWork s))
       let joins (i : Instr) (o : MatrixOp) (n : Nat) : Prop :=
         (room → GoesOn s sl → AnswersWith i s (issued c (modCore c (fun x => { x with
           matrixQ := x.matrixQ ++ [o]
           r := if x.r.mode = 2 then { x.r with srWord := (x.r.srWord + (n + 3) / 4) % 2 ^ 64 } else x.r })) (beginWork s)))
         ∧ (¬room → held i .queue)
       let fault (i : Instr) (code address : Nat) : Prop :=
         room → AnswersWith i s (coreFault c code 2 r.pc address false (cleared c (beginWork s)))
       (sl.a = 0 → sl.b = 0 →
         (sl.d.toNat < 8 → sl.imm.toNat < 32 → joins (.mzero sl) (op .mzero {} {}) 0)
         ∧ ((8 ≤ sl.d.toNat ∨ 32 ≤ sl.imm.toNat) → fault (.mzero sl) 0x02 0))
       ∧ (rateEnables s.hw c = false → held (.mma sl) .rate ∧ held (.mmas sl) .rate)
       ∧ (enabled → named → sl.imm.toNat < 32 → pair → ma = [] → mb = [] →
           (a.pieceChunks = 0 → joins (.mma sl) (op .mma a b) 0)
           ∧ (stream → mapIn → joins (.mmas sl) (op .mmas a b) 0)
           ∧ (stream → ¬mapIn → fault (.mmas sl) 0x05 (2 ^ 61 + a.mapOrBase)))
       ∧ (enabled →
           ((¬named ∨ ¬pair ∨ a.pieceChunks ≠ 0 ∨ 32 ≤ sl.imm.toNat) → fault (.mma sl) 0x02 0)
           ∧ ((¬named ∨ ¬pair ∨ ¬stream ∨ 32 ≤ sl.imm.toNat) → fault (.mmas sl) 0x02 0))
       ∧ (enabled → named → sl.imm.toNat < 32 → pair → ∀ f fs,
           (mb = f :: fs → (a.staging = true ∨ ma = []) →
             (a.pieceChunks = 0 → fault (.mma sl) f.1 f.2) ∧ (stream → fault (.mmas sl) f.1 f.2))
           ∧ (ma = f :: fs → (a.staging = false ∨ mb = []) →
             (a.pieceChunks = 0 → fault (.mma sl) f.1 f.2) ∧ (stream → fault (.mmas sl) f.1 f.2)))
       ∧ (sl.b = 0 →
           let fits := sl.d.toNat < 8 ∧ sl.a.toNat < 16 ∧ a.length ≤ 128 ∧ a.pieceChunks = 0
           let loads := fits ∧ transferFormat true a.tileInt a.format = true
           let stores := fits ∧ transferFormat false a.tileInt a.format = true ∧ (isMx a.format → a.length % 32 = 0)
           (loads → sl.imm.toNat < 32 →
             (ma = [] → joins (.mload sl) (op .mload a {}) 0) ∧ (∀ f fs, ma = f :: fs → fault (.mload sl) f.1 f.2))
           ∧ (stores → sl.imm.toNat < 32 →
             (ma = [] → joins (.mstore sl) (op .mstore a {}) (a.rows * a.length)) ∧ (∀ f fs, ma = f :: fs → fault (.mstore sl) f.1 f.2))
           ∧ ((¬loads ∨ 32 ≤ sl.imm.toNat) → fault (.mload sl) 0x02 0)
           ∧ ((¬stores ∨ 32 ≤ sl.imm.toNat) → fault (.mstore sl) 0x02 0)))

/-- R156: a queued operation begins where no operation occupies its stream, no earlier one waits for its stream, and every earlier one on its
tile has completed; otherwise, and where the core has no such operation, nothing changes.
R165, R166: the next piece of the streamed operation in progress is added into its tile once it is ready: its stream counter has reached the
base plus the piece's number plus 1, or its bit of the ready map is set; until then, and after the last piece, nothing changes.
R159, R168, R171: a begun operation that finishes leaves the queue and raises its counter by 1: `MZERO` leaves its tile all zero, `MMA` adds
its product, a streamed operation ends after its last piece and clears its ready map where asked, `MLOAD` and `MSTORE` carry the tile's rows.
R106, R171: where a range that it reads cannot be read it ends instead in an `UNCORRECTABLE_READ` fault of its bundle, and writes nothing.
Where the rules leave a corner open, the clauses state the model's choice (log 16). -/
def Obligations.MatrixEngine : Prop :=
  (∀ (s : State) (core : BitVec 8) (i : BitVec 3),
     let c := core.toNat
     let q := (coreOf s.hw c).matrixQ
     let mac (o : MatrixOp) : Bool := o.kind == .mma || o.kind == .mmas
     (q[i.toNat]? = none → AnswersWith (.matrixOperationBegin core i) s (beginWork s))
     ∧ (∀ op : MatrixOp, q[i.toNat]? = some op →
       let may := op.begun = false ∧ (∀ o ∈ q, o.begun = true → mac o ≠ mac op)
         ∧ (∀ o ∈ q.take i.toNat, mac o ≠ mac op) ∧ (∀ o ∈ q.take i.toNat, o.tile ≠ op.tile)
       (may → AnswersWith (.matrixOperationBegin core i) s
         (modCore c (fun x => { x with matrixQ := x.matrixQ.set i.toNat { op with begun := true } }) (beginWork s)))
       ∧ (¬may → AnswersWith (.matrixOperationBegin core i) s (beginWork s))))
  ∧ (∀ (s : State) (core : BitVec 8), (∀ o ∈ (coreOf s.hw core.toNat).matrixQ, o.kind = .mmas → o.begun = false) →
       AnswersWith (.streamPieceBegin core) s (beginWork s))
  ∧ (∀ (s : State) (core : BitVec 8) (i : Nat) (op : MatrixOp),
       let c := core.toNat
       let q := (coreOf s.hw c).matrixQ
       let w := beginWork s
       let mapKey := stagingKey (spireOf c) op.left.mapOrBase
       let ready := if op.left.mapMode = 0 then op.left.mapOrBase + op.pieces + 1 ≤ wcOf (coreOf s.hw c).r op.left.streamWc
         else bit (leNat (memGet s.mem mapKey 16)) op.pieces
       let mapGood := op.left.mapMode = 1 → w.good mapKey 16
       let fault (address : Nat) : Work := coreFault c 0x0B 2 op.bundle address true w
       q.findIdx? (fun o => o.begun && o.kind == .mmas) = some i → q[i]? = some op →
       (pieceCount op.left ≤ op.pieces → AnswersWith (.streamPieceBegin core) s w)
       ∧ (op.pieces < pieceCount op.left → mapGood →
         (ready → (∀ x ∈ productRanges op op.pieces, w.good (descKey c x.1 x.2.1) x.2.2) →
           (∀ j, j < op.left.rows → w.good (tileKey c op.tile j 0) (4 * op.right.rows)) →
           AnswersWith (.streamPieceBegin core) s
             (modCore c (fun x => { x with matrixQ := x.matrixQ.set i { op with pieces := op.pieces + 1 } }) (addPiece c op op.pieces w)))
         ∧ (ready → ∀ a, firstBadRange w c (productRanges op op.pieces) = some a → AnswersWith (.streamPieceBegin core) s (fault a))
         ∧ (¬ready → AnswersWith (.streamPieceBegin core) s w))
       ∧ (op.pieces < pieceCount op.left → ¬mapGood →
           AnswersWith (.streamPieceBegin core) s (fault (descWord op.left op.left.mapOrBase))))
  ∧ (∀ (s : State) (core : BitVec 8) (i : BitVec 3),
       let c := core.toNat
       let w := beginWork s
       let finishes (v : Work) : Prop := AnswersWith (.matrixOperationComplete core i) s v
       ((coreOf s.hw c).matrixQ[i.toNat]? = none → finishes w)
       ∧ (∀ op, (coreOf s.hw c).matrixQ[i.toNat]? = some op →
         let done (x : Work) : Work :=
           raiseWc c op.wc 1 op.bundle 2 (modCore c (fun y => { y with matrixQ := y.matrixQ.eraseIdx i.toNat }) x)
         let fault (address : Nat) : Work := coreFault c 0x0B 2 op.bundle address true w
         let tileReads (cols : Nat) : Prop := ∀ j, j < op.left.rows → w.good (tileKey c op.tile j 0) (4 * cols)
         let loads := rowRanges op.left 0 0 op.left.length
         (op.begun = false → finishes w)
         ∧ (op.begun = true → op.kind = .mzero → finishes (done (w.zero (tileKey c op.tile 0 0) 65536)))
         ∧ (op.begun = true → op.kind = .mma →
           ((∀ x ∈ productRanges op 0, w.good (descKey c x.1 x.2.1) x.2.2) → tileReads op.right.rows → finishes (done (addPiece c op 0 w)))
           ∧ (∀ a, firstBadRange w c (productRanges op 0) = some a → finishes (fault a)))
         ∧ (op.begun = true → op.kind = .mmas →
           (pieceCount op.left ≤ op.pieces →
             finishes (done (if op.left.clearMap then w.zero (stagingKey (spireOf c) op.left.mapOrBase) 16 else w)))
           ∧ (op.pieces < pieceCount op.left → finishes w))
         ∧ (op.begun = true → op.kind = .mload →
           ((∀ x ∈ loads, w.good (descKey c x.1 x.2.1) x.2.2) →
             finishes (done (forEach (List.range op.left.rows) (fun k v => setTileRow c op.tile k (loadRow v c op.left k) v) w)))
           ∧ (∀ a, firstBadRange w c loads = some a → finishes (fault a)))
         ∧ (op.begun = true → op.kind = .mstore →
           (tileReads op.left.length → finishes (done (forEach (List.range op.left.rows) (storeRow c op) w)))
           ∧ (¬tileReads op.left.length → finishes (fault 0)))))


/-! ## Moves and messages (R86 to R100, R328, R329, R593) -/

/-- R86, R87, R97, R593: `MOV`, `MFILL` and `MOV2D` join the core's queue of 32 moves where their operands pass R66 to R68; a full queue holds
the bundle.
R66 to R68, R87, R105, R107: operands that do not pass are a fault of the move unit with the lowest code met, the destination before the source:
`ILLEGAL_OPERAND` for a length that is not 16 bytes to 16 MiB, and the codes of R67 and R68 for an address word; nothing is queued. A word of an
unknown space, or with a stray bit, gives `ADDRESS_INVALID`; a range that leaves the scratchpad or the grants `SCRATCHPAD_BOUNDS` or
`STAGING_BOUNDS`; in spaces 0 and 3 a misaligned address or length `ALIGNMENT`.
R86, R87, R593: a move that completes leaves the queue, has carried its bytes and raises its counter by 1: `MOV` copies `len` bytes, `MFILL`
repeats its 64-bit pattern, `MOV2D` copies its rows in order; every byte outside the destination of `MOV` and `MFILL` stays as it was.
R106, R593: a move that meets a fenced target or a unit that cannot be read, and a `MOV2D` whose shape is not legal, leaves the queue in a fault.
Where the rules leave a corner open, the clauses state the model's choice (log 29 and 34). -/
def Obligations.MoveOperations : Prop :=
  (∀ (s : State) (sl : Slot), Sole s.hw sl →
     let c := sl.core.toNat
     let r := rOf s sl
     let d := sreg r sl.d.toNat
     let a := sreg r sl.a.toNat
     let b := sreg r sl.b.toNat
     let room := (coreOf s.hw c).moveQ.length < 32
     let joins (i : Instr) (kind : MoveKind) : Prop :=
       (room → GoesOn s sl → AnswersWith i s (issued c (modCore c (fun x => { x with
         moveQ := x.moveQ ++ [{ kind := kind, src := a, dst := d, len := b, wc := sl.imm.toNat, bundle := r.pc }] })) (beginWork s)))
       ∧ (¬room → SlotHeld i s c .queue)
     let named : List (Nat × Nat) := if sl.imm.toNat < 32 then [] else [(0x02, 0)]
     let length : List (Nat × Nat) := if 16 ≤ b ∧ b ≤ 2 ^ 24 then [] else [(0x02, 0)]
     let md := withAddress d (addrFaults s.hw c d b)
     let ma := withAddress a (addrFaults s.hw c a b)
     let shape := withAddress b ((if b % 16 = 0 then [] else [0x03]) ++ (if b + 32 ≤ 0x300000 then [] else [0x04]))
     let words : List (Nat × Nat) := (if wordClean a then [] else [(0x06, a)]) ++ (if wordClean d then [] else [(0x06, d)])
     (named ++ length ++ md ++ ma = [] → joins (.mov sl) .mov)
     ∧ (named ++ length ++ md = [] → joins (.mfill sl) .mfill)
     ∧ (named ++ shape ++ words = [] → joins (.mov2d sl) .mov2d)
     ∧ (room → SlotFaults (.mov sl) s c 3 (named ++ length ++ md ++ ma) ∧ SlotFaults (.mfill sl) s c 3 (named ++ length ++ md)
         ∧ SlotFaults (.mov2d sl) s c 3 (named ++ shape ++ words)))
  ∧ (∀ (hw : Hw) (c word len : Nat),
       (4 ≤ word / 2 ^ 60 → addrFaults hw c word len = [0x06])
       ∧ (word / 2 ^ 60 = 1 → addrFaults hw c word len
           = (if word % 2 ^ 60 < 2 ^ 22 then [] else [0x06]) ++ (if word % 2 ^ 22 + len ≤ 0x300000 then [] else [0x04]))
       ∧ (word / 2 ^ 60 = 2 → addrFaults hw c word len
           = (if word % 2 ^ 60 < 2 ^ 26 then [] else [0x06]) ++ (if inGrant hw c (word % 2 ^ 26) len then [] else [0x05]))
       ∧ ((word / 2 ^ 60 = 0 ∨ word / 2 ^ 60 = 3) → (0x03 ∈ addrFaults hw c word len ↔ (word % 16 ≠ 0 ∨ len % 16 ≠ 0)))
       ∧ (word / 2 ^ 60 = 0 → (0x06 ∈ addrFaults hw c word len ↔ (2 ^ 48 ≤ word ∨ inTiers (word % 2 ^ 48) len = false))))
  ∧ (∀ (s : State) (core : BitVec 8) (i : BitVec 5),
       let c := core.toNat
       ((coreOf s.hw c).moveQ[i.toNat]? = none → AnswersWith (.moveComplete core i) s (beginWork s))
       ∧ (∀ op, (coreOf s.hw c).moveQ[i.toNat]? = some op →
         let w := beginWork s
         let sk := addrKey c op.src
         let dk := addrKey c op.dst
         let gone (x : Work) : Work := modCore c (fun y => { y with moveQ := y.moveQ.eraseIdx i.toNat }) x
         let raised (x : Work) : Work := raiseWc c op.wc 1 op.bundle 3 (gone x)
         let leaves (f : Nat → Byte) : Prop := Answers (.moveComplete core i) s (fun v => v.hw = (raised w).hw ∧
           ∀ x, memByte (finish s v).mem x = if dk ≤ x ∧ x < dk + op.len then f (x - dk) else memByte s.mem x)
         let meets (word : Nat) : Prop :=
           AnswersWith (.moveComplete core i) s (coreFaultAt c 0x0B 3 op.bundle word true (gone w))
         (op.kind = .mov → hitsFence s.hw c op.src = false → hitsFence s.hw c op.dst = false → w.good sk op.len → w.good dk op.len →
           leaves (fun n => memByte s.mem (sk + n)))
         ∧ (op.kind = .mov → hitsFence s.hw c op.src = true → meets op.src)
         ∧ (op.kind = .mov → hitsFence s.hw c op.src = false → hitsFence s.hw c op.dst = true → meets op.dst)
         ∧ (op.kind = .mov → hitsFence s.hw c op.src = false → hitsFence s.hw c op.dst = false → w.good sk op.len = false →
           let bad := w.firstBad sk op.len
           AnswersWith (.moveComplete core i) s (moveUncorrectable c 3 op.bundle op.src sk bad
             ((gone w).write dk (w.read sk ((bad - sk) / 16 * 16)))))
         ∧ (op.kind = .mfill → hitsFence s.hw c op.dst = false → w.good dk op.len →
           leaves (fun n => BitVec.ofNat 8 (op.src / 256 ^ (n % 8))))
         ∧ (op.kind = .mfill → hitsFence s.hw c op.dst = true → meets op.dst)
         ∧ (op.kind = .mov2d →
           let shape := memGet s.mem (scratchKey c op.len) 32
           let rows := field shape 0 4
           let rb := field shape 4 4
           let src (k : Nat) : Nat := op.src + k * field shape 8 4
           let dst (k : Nat) : Nat := op.dst + k * field shape 12 4
           let legal := 1 ≤ rows ∧ 16 ≤ rb ∧ rb ≤ 2 ^ 24 ∧ rb % 16 = 0 ∧ zeroAt shape 16 16 = true
           w.good (scratchKey c op.len) 32 →
           (legal →
             (∀ k, k < rows → rangeCodes s.hw c op.src (k * field shape 8 4) rb = [] ∧ rangeCodes s.hw c op.dst (k * field shape 12 4) rb = []
               ∧ hitsFence s.hw c (src k) = false ∧ hitsFence s.hw c (dst k) = false ∧ w.good (addrKey c (src k)) rb) →
             AnswersWith (.moveComplete core i) s (raised (forEach (List.range rows)
               (fun k v => v.write (addrKey c (dst k)) (v.read (addrKey c (src k)) rb)) w)))
           ∧ (¬legal → AnswersWith (.moveComplete core i) s (coreFault c 0x0A 3 op.bundle op.len true (gone w))))))

/-- R90, R94, R97: `SEND` and `SIGNAL` join the core's message queue of 64 tagged with the frame, `RECV` arms a receive, of at most 256, for its
tag; where the queue is full the core holds the bundle.
R66 to R68, R86, R105: operands that are out of range are an `ILLEGAL_OPERAND` fault of the message unit, and a buffer outside the core's staging
grants a `STAGING_BOUNDS` fault with its address word; nothing is queued.
R86, R90, R91, R266, R282: the last flit of the oldest message to its destination leaves: its data is read, it takes the core's next
`MSG_SEQ`, and goes on the package fabric to a core of this module or in flits of at most 240 bytes on the planes to another; without `ACK`
its counter rises at once.
R97, R268: a message that has left, that is not the oldest to its destination, or whose pair waits in a hold stays in the queue.
Where the rules leave a corner open, the clauses state the model's choice (log 11 and 34). -/
def Obligations.Messages : Prop :=
  (∀ (s : State) (sl : Slot), Sole s.hw sl →
     let c := sl.core.toNat
     let r := rOf s sl
     let k := coreOf s.hw c
     let d := sreg r sl.d.toNat
     let a := sreg r sl.a.toNat
     let b := sreg r sl.b.toNat
     let n := sl.imm.toNat
     let room := k.msgs.length < 64
     let joins (i : Instr) (op : MsgOp) : Prop :=
       GoesOn s sl → AnswersWith i s (issued c (modCore c (fun x => { x with
         msgs := x.msgs ++ [{ op with id := x.nextId, frameTag := x.frame % 256 }]
         nextId := x.nextId + 1 })) (beginWork s))
     let msg (kind : MsgKind) : MsgOp :=
       ⟨0, kind, 0, 0, d % 2 ^ 18, bits d 23 18, 0, 0, false, 0, n % 32, r.pc, 0, 0, false⟩
     let unless_ (p : Prop) [Decidable p] : List (Nat × Nat) := if p then [] else [(0x02, 0)]
     let buffer (len : Nat) := withAddress a (stagingFaults s.hw c a len)
     let sends := unless_ (n < 64) ++ unless_ (16 ≤ b ∧ b ≤ 262144 ∧ d < 2 ^ 32) ++ buffer b
     let signals := unless_ (n < 32) ++ unless_ (a % 65536 ≠ 0 ∧ d < 2 ^ 29)
     let receives := unless_ (n < 32) ++ buffer b
     (room → sends = [] → joins (.send sl) { msg .send with src := a % 2 ^ 60, len := b, tag := bits d 31 24, ack := bit n 5 })
     ∧ (room → SlotFaults (.send sl) s c 4 sends) ∧ (¬room → SlotHeld (.send sl) s c .queue)
     ∧ (sl.b = 0 →
         (room → signals = [] → joins (.signal sl) { msg .signal with tag := bits d 28 24, count := a % 65536 })
         ∧ (room → SlotFaults (.signal sl) s c 4 signals) ∧ (¬room → SlotHeld (.signal sl) s c .queue))
     ∧ (k.armed.length < 256 → receives = [] → GoesOn s sl → AnswersWith (.recv sl) s (issued c (modCore c (fun x => { x with
         armed := x.armed ++ [{ seq := x.nextId, tag := d % 256, addr := a % 2 ^ 60, len := b, wc := n, bundle := r.pc }]
         nextId := x.nextId + 1 })) (beginWork s)))
     ∧ (k.armed.length < 256 → SlotFaults (.recv sl) s c 4 receives) ∧ (256 ≤ k.armed.length → SlotHeld (.recv sl) s c .queue))
  ∧ (∀ (hw : Hw) (c word len : Nat),
       ((word / 2 ^ 60 = 0 ∨ word / 2 ^ 60 = 1 ∨ word / 2 ^ 60 = 3) → stagingFaults hw c word len = [0x05])
       ∧ ((word / 2 ^ 60 = 2 ∨ 4 ≤ word / 2 ^ 60) → stagingFaults hw c word len = addrFaults hw c word len))
  ∧ (∀ (s : State) (core : BitVec 8) (i : BitVec 6),
       let c := core.toNat
       let w := beginWork s
       let k := coreOf s.hw c
       let oldest (op : MsgOp) : Prop := op.left = false ∧ (op.kind = .send ∨ op.kind = .signal) ∧ k.msgs.find? (fun m =>
         !m.left && m.endpoint == op.endpoint && m.core == op.core && (m.kind == .send || m.kind == .signal)) = some op
       (k.msgs[i.toNat]? = none → AnswersWith (.lastFlitLeaves core i) s w)
       ∧ (∀ op, k.msgs[i.toNat]? = some op →
         let seq := tabGet 0 s.hw.links.msgSeq c
         let sk := stagingKey (spireOf c) op.src
         let data := if op.kind = .send then memGet s.mem sk op.len else []
         let type := if op.kind = .send then 3 else 4
         let dest := op.endpoint + op.core * 2 ^ 18
         let mayLeave := oldest op ∧ pairHeld s.hw c dest = false
         let readable := op.kind = .send → w.good sk op.len
         let numbered_ := w.up (fun h => { h with links := { h.links with msgSeq := tabSet 0 h.links.msgSeq c ((seq + 1) % 2 ^ 32) } })
         let marked := tallyIssued 0 (modCore c (fun x => { x with
           msgs := x.msgs.map (fun m => if m.id == op.id then { m with left := true, seq := seq, leftAt := s.hw.time.now } else m) }) numbered_)
         let ends (x : Work) : Work := if op.ack then x else completeMsg c op.id false x
         let transfer : FabricMsg := {
           seq := 0
           srcCore := c
           destCore := coreOfWord dest
           type := type
           bytes := op.len
           tag := op.tag
           frameTag := op.frameTag
           ack := op.ack
           accepted := false
           count := op.count
           msgSeq := seq
           data := data
           sentAt := s.hw.time.now
           resends := 0
           delivered := false
           bundle := op.bundle }
         (mayLeave → readable → isOwnEndpoint s.hw op.endpoint = true → AnswersWith (.lastFlitLeaves core i) s (ends (sendFabric transfer marked)))
         ∧ (mayLeave → readable → isOwnEndpoint s.hw op.endpoint = false → AnswersWith (.lastFlitLeaves core i) s (ends (sendPlane type c dest
             (msgHeader op.len op.tag op.frameTag (b2n op.ack) op.count seq ++ data) (some (c, op.id)) marked)))
         ∧ (mayLeave → op.kind = .send → w.good sk op.len = false → AnswersWith (.lastFlitLeaves core i) s
             (moveUncorrectable c 4 op.bundle (2 ^ 61 + op.src) sk (w.firstBad sk op.len) w))
         ∧ ((op.left = true ∨ pairHeld s.hw c dest = true ∨ (∀ m ∈ k.msgs, m.id = op.id → ¬oldest m)) →
             AnswersWith (.lastFlitLeaves core i) s w)))

/-- R328, R329: `HWRITE` posts an RDMA WRITE at the descriptor's offset of the channel's outbox window, and `HSEND` a SEND, with immediate data
where asked, on the queue pair it names; the operation stays outstanding until the request is acknowledged. On a queue pair in `ERROR` the
operation is dropped and counted instead; a descriptor, source, window or queue pair that does not meet R328 is a `DESCRIPTOR_INVALID` fault.
R99, R193, R217, R288: `COLL` hands its 64-byte descriptor to the collective unit, `GISSUE` its descriptor to the engine `IMM`[3:0] of its
partition, which queues it, or ends it `ENGINE_RESET` while it takes none, and `PHINT` waits in a queue of 4 with its hint entries; a full queue
holds the bundle.
R66 to R68, R105, R193, R217, R288: operands that are out of range, an engine of another partition and a descriptor outside the core's staging
grants are faults, and nothing is queued; a descriptor that cannot be read is an `UNCORRECTABLE_READ` fault.
Where the rules leave a corner open, the clauses state the model's choice (log 29 and 67). -/
def Obligations.Submissions : Prop :=
  (∀ (s : State) (sl : Slot) (isWrite : Bool), Sole s.hw sl → sl.d = 0 → sl.b = 0 →
     let c := sl.core.toNat
     let r := rOf s sl
     let w := beginWork s
     let a := sreg r sl.a.toNat
     let dk := stagingKey (spireOf c) (a % 2 ^ 60)
     let desc := memGet s.mem dk 32
     let len := field desc 4 4
     let src := field desc 8 8
     let off := field desc 0x10 8
     let op : MsgOp := ⟨0, if isWrite then .hwrite else .hsend, a % 2 ^ 60, 0, 0, 0, 0, 0, false, 0, sl.imm.toNat, r.pc, 0, 0, true⟩
     let i : Instr := if isWrite then .hwrite sl else .hsend sl
     let id := (coreOf s.hw c).nextId
     let data := memGet s.mem (addrKey c src) len
     let room := (coreOf s.hw c).msgs.length < 64
     let codes : List (Nat × Nat) := (if sl.imm.toNat < 32 then [] else [(0x02, 0)]) ++ withAddress a (stagingFaults s.hw c a 32)
     let does (g : Work → Work) : Prop := AnswersWith i s (issued c (fun x => g (pushMsg c op x)) w)
     let plain := transferOk isWrite desc = true ∧ addrFaults s.hw c src len = []
     (¬room → SlotHeld i s c .queue) ∧ (room → SlotFaults i s c 4 codes)
     ∧ (room → codes = [] → GoesOn s sl →
       (w.good dk 32 = false → does (moveUncorrectable c 4 r.pc a dk (w.firstBad dk 32)))
       ∧ (w.good dk 32 → (planOfCore s.hw c = none ∨ ¬plain) → does (coreFault c 0x0A 4 r.pc a true))
       ∧ (w.good dk 32 → plain → ∀ p, planOfCore s.hw c = some p →
         let o := outboxOf s.hw p.channel (field desc 3 1)
         let qi := if isWrite then o.qp else field desc 0 2
         let window := isWrite = true → o.enable = true ∧ off + len ≤ o.length
         (findQp s.hw qi = none → does (coreFault c 0x0A 4 r.pc a true))
         ∧ (∀ q, findQp s.hw qi = some q →
           let served := window ∧ q.channel = p.channel ∧ (q.state = 1 ∨ q.state = 2)
           (¬served → does (coreFault c 0x0A 4 r.pc a true))
           ∧ (served → q.state = 2 → does (dropHost qi c id))
           ∧ (served → q.state = 1 → hitsFence s.hw c src = true → does (coreFaultAt c 0x0B 4 r.pc src true))
           ∧ (served → q.state = 1 → hitsFence s.hw c src = false → w.good (addrKey c src) len = false →
               does (moveUncorrectable c 4 r.pc src (addrKey c src) (w.firstBad (addrKey c src) len)))
           ∧ (served → q.state = 1 → hitsFence s.hw c src = false → w.good (addrKey c src) len →
               does (if isWrite then postWork qi (.core c id) 0 (o.address + off) o.rkey 0 data p.id (coreOf s.hw c).frame
                 else postWork qi (.core c id) (if bit (field desc 2 1) 0 then 2 else 1) 0 0 (field desc 0x18 4) data p.id
                   (coreOf s.hw c).frame))))))
  ∧ (∀ (s : State) (sl : Slot), Sole s.hw sl → sl.d = 0 →
       let c := sl.core.toNat
       let r := rOf s sl
       let k := coreOf s.hw c
       let w := beginWork s
       let a := sreg r sl.a.toNat
       let b := sreg r sl.b.toNat
       let n := sl.imm.toNat
       let dk := stagingKey (spireOf c) (a % 2 ^ 60)
       let bytes := memGet s.mem dk 64
       let readable := w.good dk 64 = true
       let at_ (word len : Nat) := withAddress word (stagingFaults s.hw c word len)
       let named : List (Nat × Nat) := if n < 32 then [] else [(0x02, 0)]
       let engine : List (Nat × Nat) := if 12 ≤ n % 16 then [(0x02, 0)]
         else if partOfSpire s.hw (n % 16 / 3) ≠ partOfCore s.hw c then [(0x07, 0)] else []
       let colls := named ++ at_ a 64
       let gravers := engine ++ at_ a 64 ++ at_ b 32
       let hints := named ++ at_ a (16 * b)
       let gfull := 64 ≤ (k.outs.filter (fun o => o.graver)).length
       let hfull := 4 ≤ (k.outs.filter (fun o => !o.graver)).length
       let desc : GDesc := ⟨k.ctx, c, k.plan, k.frame, bytes, b % 2 ^ 60, n / 16, r.pc, k.nextId⟩
       let goes (x : Work) : Work :=
         modCore c (fun y => { y with outs := y.outs ++ [⟨k.nextId, true, n / 16, r.pc, 0, 0⟩], nextId := y.nextId + 1 }) x
       (sl.b = 0 →
         (8 ≤ collOutstanding s.hw c → SlotHeld (.coll sl) s c .queue)
         ∧ (collOutstanding s.hw c < 8 → SlotFaults (.coll sl) s c 4 colls)
         ∧ (collOutstanding s.hw c < 8 → colls = [] → GoesOn s sl →
           (readable → AnswersWith (.coll sl) s (issued c (fun x => x.up fun h => { h with coll := { h.coll with
             issued := h.coll.issued ++ [{ core := c, desc := bytes, wc := n, bundle := r.pc, issuedAt := s.hw.time.now, frame := k.frame }] } }) w))
           ∧ (¬readable → AnswersWith (.coll sl) s (issued c (moveUncorrectable c 4 r.pc a dk (w.firstBad dk 64)) w))))
       ∧ (gfull → SlotHeld (.gissue sl) s c .queue) ∧ (¬gfull → SlotFaults (.gissue sl) s c 5 gravers)
       ∧ (¬gfull → gravers = [] → GoesOn s sl →
         (readable → graverOpen s.hw (n % 16) = true → AnswersWith (.gissue sl) s (issued c (fun x =>
           modGraver (n % 16) (fun g => { g with queue := g.queue ++ [desc] }) (goes x)) w))
         ∧ (readable → graverOpen s.hw (n % 16) = false → AnswersWith (.gissue sl) s (issued c (fun x =>
             graverDone (n % 16) desc 9 0 16 0 (goes x)) w))
         ∧ (¬readable → AnswersWith (.gissue sl) s (issued c (moveUncorrectable c 5 r.pc a dk (w.firstBad dk 64)) w)))
       ∧ (hfull → SlotHeld (.phint sl) s c .queue) ∧ (¬hfull → SlotFaults (.phint sl) s c 3 hints)
       ∧ (¬hfull → hints = [] → GoesOn s sl → AnswersWith (.phint sl) s (issued c
           (modCore c (fun y => { y with outs := y.outs ++ [⟨y.nextId, false, n, r.pc, a % 2 ^ 60, b⟩], nextId := y.nextId + 1 })) w)))


/-! ## Collective units (R288 to R293, R303) -/

/-- R288 to R291, R303: the oldest descriptor of a core is executed by the row of its `OP`: the member takes the next ordinal of its group and
frame and joins the operation with its input read, and the operation goes as far as it can; an all-to-all also counts its records and writes
the counts of those it drops; while the module is below its floor the group is told first. A row without a descriptor of its own does nothing.
R290, R293: a descriptor that fails a check completes at once: with status 1 or 2 where no group is found, and where its group is found with the
status of the check that failed, after the group has been told of the end of the operation.
R307, R469: a member that joins an operation that has stopped, or a frame that a member is absent from, ends with that status; input that cannot
be read is status 0x0A, and a port of the operation that is down or too narrow status 6 or 5, of which the group is told.
Where the rules leave a corner open, the clauses state the model's choice (log 19, 30 and 39). -/
def Obligations.CollectiveOperations : Prop :=
  ∀ (s : State) (core : BitVec 8),
    let c := core.toNat
    let w := beginWork s
    let executes (i : Instr) (op : Nat) : Prop :=
      (s.hw.coll.issued.find? (fun x => x.core == c) = none → AnswersWith i s w)
      ∧ (∀ e, s.hw.coll.issued.find? (fun x => x.core == c) = some e →
        let d := e.desc
        let w0 := w.up (fun h => { h with coll := { h.coll with issued := removeFirst (fun x => x == e) h.coll.issued } })
        let mine := dOp d = op ∨ dOp d = 0 ∨ 5 < dOp d
        let status := collStatus w0 e
        let completes (ordinal : Nat) (floor : Option Nat) (x : Work) : Work := completeColl c d e.wc e.bundle e.issuedAt 0 0 (partOfCore s.hw c)
          ordinal status (floor.getD 0xFFFF) floor.isSome (recordOk s.hw c d) x
        (¬mine → AnswersWith i s w)
        ∧ (mine → findGroup s.hw (field d 4 4) = none →
            status = (if collMalformed d then 1 else 2) ∧ AnswersWith i s (completes 0 none w0))
        ∧ (mine → ∀ g : Group, findGroup s.hw (field d 4 4) = some g →
          (((localMembers s.hw g).find? (fun l => l.2 == c) = none ∨ g.plan ≠ (coreOf s.hw c).plan) → AnswersWith i s (completes 0 none w0))
          ∧ (∀ index : Nat, (localMembers s.hw g).find? (fun l => l.2 == c) = some (index, c) → g.plan = (coreOf s.hw c).plan →
            let ordinal := ordinalOf s.hw g.id c e.frame
            let w1 := takeOrdinal g.id c e.frame w0
            let o := (findOp s.hw g.id e.frame ordinal).getD (freshOp g e.frame ordinal)
            let counts := if dOp d = 4 then sendCounts w c d g.members.length else []
            let dropped := (counts.map (fun n => n - dCount d)).foldl (· + ·) 0
            let read := readInput w c d (collSizes d g.members.length index (counts.foldl (· + ·) 0)).1
            let countsGood := dOp d = 4 → w.good (stagingKey (spireOf c) (field d 0x20 4)) (4 * g.members.length) = true
            let part : CollPart := ⟨c, index, d, e.wc, e.bundle, e.issuedAt, read.getD [], counts, [], 0, [], dropped, false⟩
            let with_ : CollOp := { o with parts := o.parts ++ [part] }
            let joined := putOp with_ w1
            let counted := if dOp d = 4 then
                tally 1 (fun t => { t with issued := t.issued + counts.foldl (· + ·) 0, dropped := t.dropped + dropped })
                  (bumpSat 4 (9 + partOfCore s.hw c) dropped (joined.write
                    (stagingKey (spireOf c) (field d 0x20 4) + 2 * countArray g.members.length) (counts.flatMap (fun n => leBytes 4 (n - dCount d)))))
              else joined
            let told := if s.hw.lantern.lowest = [] then counted else sendFloor g ((findOp counted.hw g.id e.frame ordinal).getD with_) index counted
            let absent := s.hw.coll.absent.find? (fun a => a.1 == g.id && a.2.1 == e.frame)
            let ports := portStatus s.hw g with_
            (status = 0x0C → AnswersWith i s (sendAbort g (freshOp g e.frame 256) status index (completes 0 none w0)))
            ∧ (status ≠ 0 → status ≠ 0x0C → o.stop ≠ none → AnswersWith i s (completes ordinal o.floor w1))
            ∧ (status ≠ 0 → status ≠ 0x0C → o.stop = none → AnswersWith i s (reserveNext g.id (stopOp g { o with reserves := [] } 8 index
                (sendAbort g o status index (cancelReserves g o (putOp o (completes ordinal o.floor w1)))))))
            ∧ (status = 0 → ∀ st cause, o.stop = some (st, cause) → AnswersWith i s (endPart with_ part st cause joined))
            ∧ (status = 0 → o.stop = none → ∀ x y member, absent = some (x, y, member) → AnswersWith i s (endPart with_ part 9 member joined))
            ∧ (status = 0 → o.stop = none → absent = none → (read = none ∨ ¬countsGood) → AnswersWith i s (failOp g with_ index 0x0A joined))
            ∧ (status = 0 → o.stop = none → absent = none → read ≠ none → countsGood → ports ≠ 0 →
                AnswersWith i s (failOp g with_ index ports joined))
            ∧ (status = 0 → o.stop = none → absent = none → read ≠ none → countsGood → ports = 0 →
                AnswersWith i s (takeEarly g e.frame ordinal (driveOp g.id e.frame ordinal told))))))
    executes (.allReduce core) 1 ∧ executes (.reduceScatter core) 2 ∧ executes (.allGather core) 3 ∧ executes (.allToAll core) 4
    ∧ executes (.broadcast core) 5

/-! ## Graver engines (R217 to R251) -/

/-- R218, R221, R222, R223: an engine that accepts descriptors executes one at a time: with none running it takes the next one in the turn of its
contexts, and a command of the row of its `OPCODE` is its start or its next item (the model's choice, log 55); while it goes on, what it has done
is kept in the engine; when it is over, its status, items and charge go into the completion record and the issuing core's counter rises. A
descriptor with an unassigned code completes with `MALFORMED` after 16 cycles without effect; a row of another code, and an engine that is closed
or has no descriptor, does nothing.
R215, R223, R241, R245: `FILL` and `COPY` on a descriptor that passes its checks write every row, in order, a row for an item, report the rows
done, and charge 16 cycles and, a row, 2 and one for each 2,048 or 1,024 bytes; a descriptor that fails a check has no effect and is charged 16
cycles; a row of `COPY` that cannot be read ends it with status 8, and the rows before it stay written.
R241: the CRC-32C of the nine ASCII bytes "123456789" is 0xE306_9283.
Where the rules leave a corner open, the clauses state the model's choice (log 55). -/
def Obligations.GraverOperations : Prop :=
  (∀ (s : State) (k : Fin 12),
     let w := beginWork s
     let g := graverOf s.hw k.val
     let comesTo (i : Instr) (d : GDesc) (st : GStep) : Prop :=
       (∀ out, st = .over out → AnswersWith i s (graverDone k.val d out.status out.items out.charged out.detail
         (modGraver k.val (fun x => { x with running := none }) out.work)))
       ∧ (∀ r x, st = .goes r x → AnswersWith i s (modGraver k.val (fun y => { y with running := some r }) x))
     let serves (i : Instr) (code : Nat) (op : GOp) : Prop :=
       (graverOpen s.hw k.val = false → AnswersWith i s w)
       ∧ (graverOpen s.hw k.val = true → ∀ r, g.running = some r →
         (field r.d.desc 0 1 = code → comesTo i r.d (op.next k.val r w))
         ∧ (field r.d.desc 0 1 ≠ code → AnswersWith i s w))
       ∧ (graverOpen s.hw k.val = true → g.running = none → graverNext g = none → AnswersWith i s w)
       ∧ (graverOpen s.hw k.val = true → g.running = none → ∀ d, graverNext g = some d →
         let taken := modGraver k.val (fun x => { x with
           queue := removeFirst (fun y => y.ctx == d.ctx && y.core == d.core && y.op == d.op) x.queue
           lastCtx := d.ctx }) w
         (field d.desc 0 1 = code → comesTo i d (op.start k.val d taken))
         ∧ ((field d.desc 0 1 = 0 ∨ 8 ≤ field d.desc 0 1) →
             AnswersWith i s (graverDone k.val d 1 0 16 0 (modGraver k.val (fun x => { x with running := none }) taken)))
         ∧ (field d.desc 0 1 ≠ code → 1 ≤ field d.desc 0 1 → field d.desc 0 1 < 8 → AnswersWith i s w))
     serves (.gatherPool k) 1 runGather ∧ serves (.scoreSelect k) 2 runScore ∧ serves (.pack k) 3 runPack
     ∧ serves (.rowUpdate k) 4 runRowUpdate ∧ serves (.checksum k) 5 runChecksum ∧ serves (.copy k) 6 runCopy ∧ serves (.fill k) 7 runFill)
  ∧ (∀ (k : Nat) (d : GDesc) (w : Work),
       let a := field d.desc 0x08 8
       let b := field d.desc 0x10 8
       let rows := field d.desc 0x18 4
       let n := field d.desc 0x1C 4
       let st := field d.desc 0x20 4
       let dt := field d.desc 0x24 4
       let shaped := field d.desc 1 1 < 2 ∧ field d.desc 2 2 = 0 ∧ 1 ≤ rows ∧ rows ≤ 65536 ∧ 16 ≤ n ∧ n ≤ 16777216 ∧ n % 16 = 0 ∧ st % 16 = 0
         ∧ zeroAt d.desc 0x28 24 = true
       (shaped → dt = 0 → tier1Status w.hw d k a ((rows - 1) * st + n) = [] → runFill.start k d w = .goes ⟨d, 0, 16, 0, [], []⟩ w)
       ∧ (shaped → dt % 16 = 0 → tier1Status w.hw d k a ((rows - 1) * st + n) = [] → tier1Status w.hw d k b ((rows - 1) * dt + n) = [] →
         (a + ((rows - 1) * st + n) ≤ b ∨ b + ((rows - 1) * dt + n) ≤ a) → runCopy.start k d w = .goes ⟨d, 0, 16, 0, [], []⟩ w)
       ∧ (shaped → dt % 16 = 0 → tier1Status w.hw d k a ((rows - 1) * st + n) = [] → tier1Status w.hw d k b ((rows - 1) * dt + n) = [] →
         a < b + ((rows - 1) * dt + n) → b < a + ((rows - 1) * st + n) → runCopy.start k d w = .over ⟨6, 0, 16, 0, w⟩)
       ∧ ((n < 16 ∨ 16777216 < n ∨ rows = 0 ∨ 65536 < rows ∨ n % 16 ≠ 0 ∨ st % 16 ≠ 0 ∨ field d.desc 2 2 ≠ 0) →
           runFill.start k d w = .over ⟨1, 0, 16, 0, w⟩ ∧ runCopy.start k d w = .over ⟨1, 0, 16, 0, w⟩)
       ∧ (∀ r : GRun, r.d = d →
         let i := r.done
         let filled := w.write (a + i * st) ((List.range n).map (fun j => BitVec.ofNat 8 (b / 256 ^ (j % 8))))
         let copied := w.write (b + i * dt) (w.read (a + i * st) n)
         let fillNow := r.charged + (2 + (n + 2047) / 2048)
         let copyNow := r.charged + (2 + (n + 1023) / 1024)
         (i + 1 < rows → runFill.next k r w = .goes { r with done := i + 1, charged := fillNow } filled)
         ∧ (rows ≤ i + 1 → runFill.next k r w = .over ⟨0, i + 1, fillNow, r.detail, filled⟩)
         ∧ (w.good (a + i * st) n = true → i + 1 < rows → runCopy.next k r w = .goes { r with done := i + 1, charged := copyNow } copied)
         ∧ (w.good (a + i * st) n = true → rows ≤ i + 1 → runCopy.next k r w = .over ⟨0, i + 1, copyNow, r.detail, copied⟩)
         ∧ (w.good (a + i * st) n = false → runCopy.next k r w
             = .over ⟨8, i, r.charged + 16, r.detail, gUncorrectable k d (w.firstBad (a + i * st) n) w⟩)))
  ∧ (crc32c [0x31, 0x32, 0x33, 0x34, 0x35, 0x36, 0x37, 0x38, 0x39] = 0xE3069283)

/-! ## The state pager (R193 to R210) -/

/-- R193 to R196: the pager accepts the oldest `PHINT` of a core: it leaves the core's queue, its entries, all obeying R194, join the hints for
the next frame in order, and its counter rises by 1; an entry that breaks R194, or a count that is not 1 to 1,024, is a `DESCRIPTOR_INVALID`
fault of the move unit, entries that cannot be read an `UNCORRECTABLE_READ` fault, and no entry is taken.
R198 to R200: a placement serves the first unserved page of the oldest hint: a page that no object of the plan has is result 2; a page already
pinned for the frame keeps its address; a page already in the pool is pinned there for the frame; a page placed nowhere is brought, with a free
slot in the pool, into the lowest such slot, result 3 where it cannot be read, and beyond `PIN_LIMIT` in tier 2 is result 5; a page of a read-only binding that is hinted for writing is result 4. The result is
written, and the entry's counter rises with its last page. A pager that is not live or in a warning or emergency flush serves nothing.
Where the rules leave a corner open, the clauses state the model's choice (log 20, 21 and 67). -/
def Obligations.PagerHints : Prop :=
  (∀ (s : State) (core : BitVec 8),
     let c := core.toNat
     let k := coreOf s.hw c
     let w := beginWork s
     ((pagerLive s.hw = false ∨ k.outs.find? (fun o => !o.graver) = none) → AnswersWith (.phintAccept core) s w)
     ∧ (pagerLive s.hw = true → ∀ op, k.outs.find? (fun o => !o.graver) = some op →
       let key := stagingKey (spireOf c) op.src
       let entries := chunksOf 16 op.count (memGet s.mem key (16 * op.count))
       let taken := modCore c (fun x => { x with outs := x.outs.filter (fun o => o.id != op.id) }) w
       let invalid := coreFault c 0x0A 3 op.bundle (2 * 2 ^ 60 + op.src) true taken
       let bad := w.firstBad key (16 * op.count)
       (planOfCore s.hw c = none → AnswersWith (.phintAccept core) s taken)
       ∧ (∀ p, planOfCore s.hw c = some p →
         let hint (e : List Byte) : Hint := ⟨c, p.id, p.part, k.frame + 1, field e 0 4, field e 4 4, field e 8 2 % 2048, field e 8 2 / 2048,
           field e 10 2, field e 12 4 % 2 ^ 26, bit (field e 12 4) 26, bit (field e 12 4) 27, op.bundle, s.hw.time.now, [], []⟩
         let counted := 1 ≤ op.count ∧ op.count ≤ 1024
         (¬counted → AnswersWith (.phintAccept core) s invalid)
         ∧ (counted → w.good key (16 * op.count) = false → AnswersWith (.phintAccept core) s
             (coreFaultAt c 0x0B 3 op.bundle (2 * 2 ^ 60 + op.src + (bad - key)) true (uncorrectableAt bad taken)))
         ∧ (counted → w.good key (16 * op.count) = true → entries.all (hintOk s.hw c p) = false → AnswersWith (.phintAccept core) s invalid)
         ∧ (counted → w.good key (16 * op.count) = true → entries.all (hintOk s.hw c p) = true → AnswersWith (.phintAccept core) s
             (raiseWc c op.wc 1 op.bundle 3
               (taken.up fun h => { h with pager := { h.pager with hints := h.pager.hints ++ entries.map hint } }))))))
  ∧ (∀ (s : State) (t3 : T3Read),
       (pagerLive s.hw = false ∨ flushHolds s.hw = true ∨ s.hw.pager.hints = []) → AnswersWith (.placement t3) s (beginWork s))
  ∧ (∀ (s : State) (t3 : T3Read) (h : Hint) (rest : List Hint) (p : Plan) (i : Nat) (more : List Nat),
       let w := beginWork s
       let page := h.first + i
       let does (res : PlaceResult) (w1 : Work) : Prop := AnswersWith (.placement t3) s (finishPage h i res w1)
       pagerLive s.hw = true → flushHolds s.hw = false → s.hw.pager.hints = h :: rest → findPlan s.hw h.plan = some p →
       (List.range h.count).filter (fun j => !h.done.contains j) = i :: more →
         (hintObject s.hw p.id p.part h.obj = none → does ⟨0, 2, 0⟩ w)
         ∧ (∀ o, hintObject s.hw p.id p.part h.obj = some o →
           (o.pages ≤ page → does ⟨0, 2, 0⟩ w)
           ∧ (page < o.pages → poolEntry p h.pool = none → does ⟨0, 2, 0⟩ w)
           ∧ (∀ entry, page < o.pages → poolEntry p h.pool = some entry →
             let readOnly := o.bound.map (fun b => b.2) == some true
             let write := h.write && !readOnly
             let status (n : Nat) : Nat := if h.write && readOnly then 4 else n
             let pool : PoolRef := .pool p.id h.pool
             let mine := s.hw.pager.resident.filter (holds o page)
             let late := if h.waited.contains i || hintLate s.hw h then 1 else 0
             let past := hintOver p s.hw.time.tick h
             let base (r : Resident) : Nat := match r.pool with | .spill _ => 1 | .pool _ _ => 0
             let stays (r : Resident) : Bool := r.pins.any (fun q => q.1 + 1 == h.frame && q.2.1)
             let pinned (r : Resident) (flags : Nat) : Prop :=
               does ⟨r.addr, status (base r), flags⟩ (modResidents (fun l => l.map (fun x => if sameSlot x r then pinFor past h write x else x)) w)
             let placed := (s.hw.pager.resident.filter (fun r => r.pool == pool && r.pins.any (fun q => q.1 == h.frame))).length
             let free := mine.find? (fun r => r.pins.any (fun q => q.1 == h.frame)) = none
             (∀ r, mine.find? (fun x => x.pins.any (fun q => q.1 == h.frame)) = some r → pinned r (late + 2 * b2n (stays r)))
             ∧ (free → ∀ r, mine.find? stays = some r → pinned r (late + 2))
             ∧ (free → mine.find? stays = none → ∀ r, mine.find? (fun x => x.pool == pool) = some r → pinned r late)
             ∧ (free → mine.find? stays = none → mine.find? (fun x => x.pool == pool) = none →
               (placed < entry.pinLimit → ∀ slot, freeSlot s.hw p pool = some slot →
                 let a := (poolPlace p pool).2 + slot * 65536
                 (∀ bytes w1, fetchPage o page p.id a t3 w = .ok (bytes, w1) →
                   does ⟨a, status 0, late⟩ (putResident (pinFor past h write ⟨pool, slot, a, o.part, o.id, o.plan, page, false, [], 0, false, 0⟩)
                     (w1.write a bytes)))
                 ∧ (∀ w1, fetchPage o page p.id a t3 w = .error w1 → does ⟨0, 3, late⟩ w1))
               ∧ (entry.pinLimit ≤ placed → entry.kind ≠ 3 → does ⟨0, 5, late⟩ w)))))

/-- R205, R206, R210: the oldest journal slot drains: its bytes, where their checksum holds, are written to tier 3 and counted, and the slot is
free for a page that waits; a write that fails loses the update, which `DAMAGED_PAGES` and a fault record report.
R206: a page is written to a location of tier 3 that holds no page, under the next write sequence number, before its older copy is dropped.
R208, R407: a flush that has written all it must ends: `JOURNAL_FLUSH` is answered with the pages written, an orderly flush for a change of
power state lets the removal of its domains follow after 100 ms, a warning flush lets waiting pages enter the journal and the warning end, or,
before the module's power is removed, removes it, and a flush for service mode stops the module there. At its deadline an orderly flush
abandons the dirty pages it has not journalled. Where no flush is done, or at its deadline, nothing changes.
Where the rules leave a corner open, the clauses state the model's choice (log 44 and 70). -/
def Obligations.JournalAndFlushes : Prop :=
  (∀ (s : State) (failed : Bool),
     let w := beginWork s
     (pagerLive s.hw = false → AnswersWith (.journalDrain failed) s w)
     ∧ (pagerLive s.hw = true → s.hw.pager.journal = [] → AnswersWith (.journalDrain failed) s (feedJournal w))
     ∧ (pagerLive s.hw = true → ∀ e rest, s.hw.pager.journal = e :: rest →
       let a := journalBase + e.slot * 65536
       let stored := memGet s.mem a e.bytes
       let freed := w.up (fun h => { h with pager := { h.pager with journal := rest } })
       let holds_ := w.good a e.bytes = true ∧ crc32c stored = e.crc
       (findObject s.hw e.part e.obj = none → AnswersWith (.journalDrain failed) s (feedJournal freed))
       ∧ (∀ o, findObject s.hw e.part e.obj = some o →
         let plan := match o.bound with | some (p, _) => p | none => 0
         (failed = false → holds_ → AnswersWith (.journalDrain failed) s
           (feedJournal ((storeTier3 o e.page stored (countMove plan 1 (sectorsOf o) freed)).up fun h =>
             { h with pager := { h.pager with flushes := h.pager.flushes.map (fun f => { f with written := f.written + 1 }) } })))
         ∧ ((failed = true ∨ ¬holds_) → AnswersWith (.journalDrain failed) s
           (feedJournal (raise 11 0 0 0 o.id (modObject o (fun x => { x with damaged := satAdd 32 x.damaged 1 }) (pagerError a e.bytes freed))))))))
  ∧ (∀ (o : PObj) (page : Nat) (stored : List Byte) (w : Work),
       let v := storeTier3 o page stored w
       let seq := w.hw.pager.writeSeq
       ∃ loc, (∀ f ∈ w.hw.pager.spare, f.loc ≠ loc)
         ∧ v.hw.pager.spare = (w.hw.pager.spare ++ [(⟨o.part, o.id, page, seq, loc⟩ : FlashPage)]).filter
             (fun f => !(f.part == o.part && f.obj == o.id && f.page == page && f.seq < seq))
         ∧ v.hw.pager.writeSeq = seq + 1 ∧ v.log = (w.write (flashKey loc) stored).log)
  ∧ (∀ (s : State),
       let w := beginWork s
       (s.hw.pager.flushes.find? (fun f => flushDone s.hw f && !flushWaits s.hw f) = none → AnswersWith .flushEnd s w)
       ∧ (∀ f, s.hw.pager.flushes.find? (fun f => flushDone s.hw f && !flushWaits s.hw f) = some f →
         let ended := w.up (fun h => { h with pager := { h.pager with flushes := h.pager.flushes.filter (fun x => x != f) } })
         let saved := modLantern (fun l => { l with epochSaved := l.epoch }) ended
         let answered (payload : List Byte) (x : Work) : Work := match f.answer with
           | some (c, k) => answerLater c k stDone payload x
           | none => x
         (f.kind = .command → AnswersWith .flushEnd s (answered (leBytes 8 f.written) saved))
         ∧ (f.kind = .warning → .cut ∉ s.hw.power.moves → AnswersWith .flushEnd s (endWarning (feedJournal ended)))
         ∧ (f.kind = .warning → .cut ∈ s.hw.power.moves → AnswersWith .flushEnd s (cutPower ended))
         ∧ (f.kind = .standby → AnswersWith .flushEnd s (movesAfterFlush false false (answered [] saved)))
         ∧ (f.kind = .dark ∨ f.kind = .off → AnswersWith .flushEnd s (movesAfterFlush true false (answered [] saved)))
         ∧ (f.kind = .halt → AnswersWith .flushEnd s (movesAfterFlush false true (answered [] saved)))
         ∧ (f.kind = .emergency → AnswersWith .flushEnd s
             (modMoves (fun l => l ++ [.removal false true s.hw.time.now]) (feedJournal (releaseEvery (abortEvery ended)))))
         ∧ (f.kind = .reset → s.hw.keep.entering ≠ 2 → AnswersWith .flushEnd s (moduleReset .kept false saved))
         ∧ (f.kind = .reset → s.hw.keep.entering = 2 → AnswersWith .flushEnd s (publishModule (modKeep (fun k => { k with
             entering := 0
             phase := 9
             bootPath := 2
             turretUp := false
             ready := false }) (removeSpires saved)))))
       ∧ (let late (f : Flush) : Bool := match f.deadline with | some t => due s.hw t | none => false
          (s.hw.pager.flushes.find? late = none → AnswersWith .flushDeadline s w)
          ∧ (∀ f t, s.hw.pager.flushes.find? late = some f → f.deadline = some t → AnswersWith .flushDeadline s (abandonFlush f (advance w t)))))


/-! ## Plane links (R256 to R282) -/

/-- R257 to R259, R558: a flit out of sequence is discarded with one `NAK` a gap, whatever it carries, one that finds every buffer of its channel
occupied is discarded with a `NAK` and noted, and one on a port that is not `ACTIVE` does nothing; a flit that fails its CRC is counted, with
its uncorrected symbols, with a `NAK`; a flit with a bad header is counted in `BAD_FLITS`, takes its place in the sequence, and is discarded.
Where the rules leave a corner open, the clauses state the model's choice (log 4, 8 and 36). -/
def Obligations.FlitsDiscarded : Prop :=
  (∀ (s : State) (rx : Rx) (b : List Byte),
    let port := portOf s.hw rx.port.val
    let w := beginWork s
    let discards (i : Instr) (vc : Nat) : Prop :=
      (port.state = .active → rx.seq.toNat ≠ port.expected → AnswersWith i s (sendNak rx.port.val (ackTaken rx w)))
      ∧ (port.state = .active → rx.seq.toNat = port.expected → (receiveBuffers[vc - 1]?).getD 0 ≤ tabGet 0 port.stored vc →
          AnswersWith i s (sendNak rx.port.val ((ackTaken rx w).up fun h => { h with
            conserve := { h.conserve with overruns := h.conserve.overruns ++ [8 * rx.port.val + vc] } })))
      ∧ (port.state ≠ .active → AnswersWith i s w)
    discards (.msgSend rx b) 4 ∧ discards (.msgSignal rx b) 4 ∧ discards (.msgAnswer rx b) 4 ∧ discards (.collReduce rx b) 2
    ∧ discards (.collGather rx b) 3 ∧ discards (.advertise rx b) 2 ∧ discards (.grant rx b) 2 ∧ discards (.abort rx b) 2
    ∧ discards (.absent rx b) 2 ∧ discards (.floorNotice rx b) 2 ∧ discards (.audit rx b) 2 ∧ discards (.trace rx b) 6 ∧ discards (.mgmt rx b) 1
    ∧ (field b 4 1 = 1 → discards (.hello rx b) 5) ∧ (field b 4 1 = 2 → discards (.granule rx b) 5) ∧ (field b 4 1 = 3 → discards (.page rx b) 5)
    ∧ (field b 4 1 = 4 → discards (.frameEnd rx b) 5) ∧ (field b 4 1 = 5 → discards (.ack rx b) 5) ∧ (field b 4 1 = 6 → discards (.resend rx b) 5)
    ∧ (field b 4 1 = 7 → discards (.release rx b) 5))
  ∧ (∀ (s : State) (p : Fin 6),
    let w := beginWork s
    let counted := freeUsed (bump 3 (126 + p.val) (freeOf w) (bump 3 (12 + p.val) 1 w))
    ((portOf s.hw p.val).state = .active → AnswersWith (.flitCrcFailed p) s (sendNak p.val counted))
    ∧ ((portOf s.hw p.val).state = .init → AnswersWith (.flitCrcFailed p) s counted)
    ∧ ((portOf s.hw p.val).state ≠ .active → (portOf s.hw p.val).state ≠ .init → AnswersWith (.flitCrcFailed p) s w))
  ∧ (∀ (s : State) (rx : Rx) (reserved : Bool) (vc type : Byte),
    let p := rx.port.val
    let port := portOf s.hw p
    let w := beginWork s
    let counted := bump 3 (132 + p) 1 w
    let bad := reserved = true ∨ vc = 7 ∨ vcOfType type.toNat ≠ some vc.toNat
    (¬bad → AnswersWith (.badFlits rx reserved vc type) s w)
    ∧ (port.state ≠ .init → port.state ≠ .active → AnswersWith (.badFlits rx reserved vc type) s w)
    ∧ (bad → port.state = .init → AnswersWith (.badFlits rx reserved vc type) s counted)
    ∧ (bad → port.state = .active → vc = 0 → AnswersWith (.badFlits rx reserved vc type) s (ackTaken rx counted))
    ∧ (bad → port.state = .active → vc ≠ 0 → rx.seq.toNat ≠ port.expected →
        AnswersWith (.badFlits rx reserved vc type) s (sendNak p (ackTaken rx counted)))
    ∧ (bad → port.state = .active → vc ≠ 0 → rx.seq.toNat = port.expected → AnswersWith (.badFlits rx reserved vc type) s
        (freeBuffer p vc.toNat (modPort p (fun q => { q with
          expected := (q.expected + 1) % 4096
          nakSent := false
          received := tabBump q.received vc.toNat 1
          stored := tabBump q.stored vc.toNat 1 }) (ackTaken rx counted)))))

/-- R92 to R96, R266, R267: an accepted `MSG_SEND` begins or goes on with the message of its source, an accepted `MSG_SIGNAL` raises the counter
it names in its frame, or waits for the next, and an accepted `MSG_ANSWER` completes the `SEND` of its number; each is counted as arrived. A
signal for a fenced core, a core without a context or another frame is discarded and counted, and so is an answer to no `SEND`.
R92, R94, R267: the first flit of a `SEND` takes the first armed receive of its tag that is long enough and in its frame, or none: late, without
a buffer or oversize, it is discarded and counted, and a refusal is answered where an acknowledgement was asked. At its last flit the counter of
the receive is raised in the message's frame.
Where the rules leave a corner open, the clauses state the model's choice (log 11). -/
def Obligations.MessagesReceived : Prop :=
  (∀ (s : State) (rx : Rx) (b : List Byte), InOrder s.hw rx 4 →
     let w := flitTaken rx 4 (beginWork s)
     let p := rx.port.val
     let core := coreOfWord rx.dest.toNat
     let counter := field b 4 1 % 32
     let arrived := tallyArrived 0 w
     let d := (field b 5 1 + 256 - (coreOf s.hw core).frame % 256) % 256
     AnswersWith (.msgSend rx b) s
       (if rx.first then takeSendData p rx.src.toNat (b.drop 16) rx.last (beginSend p rx b w) else takeSendData p rx.src.toNat b rx.last w)
     ∧ (coreFenced s.hw core = true → AnswersWith (.msgSignal rx b) s (dropMessage core rx.src.toNat counter 0 .fence arrived))
     ∧ (coreFenced s.hw core = false → (coreOf s.hw core).ctx = 0 → AnswersWith (.msgSignal rx b) s (tallyDropped 0 (bump 3 148 1 arrived)))
     ∧ (coreFenced s.hw core = false → (coreOf s.hw core).ctx ≠ 0 →
         let counted := tallyDelivered 0 arrived
         (d = 0 → AnswersWith (.msgSignal rx b) s (raiseWc core counter (field b 8 2) 0xFFFF 4 counted))
         ∧ (d = 1 → AnswersWith (.msgSignal rx b) s (modCore core (fun c => { c with
             held := c.held ++ [⟨field b 5 1, counter, field b 8 2, none, 0xFFFF, 4⟩] }) counted))
         ∧ (2 ≤ d → AnswersWith (.msgSignal rx b) s (dropMessage core rx.src.toNat counter 0 .late arrived)))
     ∧ (∀ op, (coreOf s.hw core).msgs.find? (fun m => m.kind == .send && m.ack && m.left && m.seq == field b 12 4) = some op →
         AnswersWith (.msgAnswer rx b) s (completeMsg core op.id (!(bit (field b 6 1) 1)) (tallyDelivered 0 arrived)))
     ∧ ((coreOf s.hw core).msgs.find? (fun m => m.kind == .send && m.ack && m.left && m.seq == field b 12 4) = none →
         AnswersWith (.msgAnswer rx b) s (tallyDropped 0 (bump 3 147 1 arrived))))
  ∧ (∀ (core src tag frameTag bytes : Nat) (w : Work),
       let c := coreOf w.hw core
       let d := (frameTag + 256 - c.frame % 256) % 256
       (coreFenced w.hw core = true → admitSend core src tag frameTag bytes w = (dropMessage core src tag bytes .fence w, none))
       ∧ (coreFenced w.hw core = false → c.ctx = 0 → admitSend core src tag frameTag bytes w = (tallyDropped 0 (bump 3 148 1 w), none))
       ∧ (coreFenced w.hw core = false → c.ctx ≠ 0 →
         (2 ≤ d → admitSend core src tag frameTag bytes w = (dropMessage core src tag bytes .late w, none))
         ∧ (d < 2 → c.armed.find? (fun a => a.tag == tag) = none →
             admitSend core src tag frameTag bytes w = (dropMessage core src tag bytes .noBuffer w, none))
         ∧ (d < 2 → ∀ a, c.armed.find? (fun a => a.tag == tag) = some a →
             (a.len < bytes → admitSend core src tag frameTag bytes w = (dropMessage core src tag bytes .oversize w, none))
             ∧ (bytes ≤ a.len → admitSend core src tag frameTag bytes w
                 = (modCore core (fun x => { x with armed := x.armed.filter (fun b => b.seq != a.seq) }) w, some a)))))
  ∧ (∀ (core src frameTag : Nat) (a : Armed) (w : Work),
       let d := (frameTag + 256 - (coreOf w.hw core).frame % 256) % 256
       let counted := tallyDelivered 0 w
       (finishSend core src frameTag false a w = raiseWc core a.wc 1 a.bundle 4 counted)
       ∧ (d = 0 → finishSend core src frameTag true a w = raiseWc core a.wc 1 a.bundle 4 counted)
       ∧ (d = 1 → finishSend core src frameTag true a w
           = modCore core (fun c => { c with held := c.held ++ [⟨frameTag, a.wc, 1, some a, a.bundle, 4⟩] }) counted)
       ∧ (2 ≤ d → finishSend core src frameTag true a w = noteDrop core src a.tag 0 .late (rearm core a counted)))

/-- R260, R264, R278, R469: a `CREDIT` record sets the credits seen and frees what it acknowledges; a `NAK` sends the buffered flits again from the
one named; a `DOWN` record and a lost lock take the link down with their causes; 2 us without an acknowledgement sends the oldest flits again,
and nine sendings of one `SEQ`, or 20 us, exhaust replay. With nothing to send again, and on a port that is not `ACTIVE`, nothing changes.
Where the rules leave a corner open, the clauses state the model's choice (log 35 and 36). -/
def Obligations.LinkControl : Prop :=
  ∀ (s : State) (p : Fin 6) (ack expected : BitVec 12) (freed : Vector (BitVec 16) 7) (cause : Byte),
    let port := portOf s.hw p.val
    let w := beginWork s
    let down (n : Nat) (x : Work) : Work := linkDown p.val n (afterDown s.hw p.val) x
    let sendAt := max port.ackAt port.replayAt + 2000
    (port.state = .active →
      AnswersWith (.credit p ack freed) s (modPort p.val (fun q => { q with
        freedSeen := (numbered 1 freed.toList).foldl (fun t e => tabSet 0 t e.1 e.2.toNat) q.freedSeen }) (acknowledge p.val ack.toNat w))
      ∧ AnswersWith (.nak p ack expected) s (replayFrom p.val expected.toNat (acknowledge p.val ack.toNat w))
      ∧ AnswersWith (.downRequest p cause) s (down 5 w) ∧ AnswersWith (.lockLost p) s (down 2 w)
      ∧ (port.replay = [] → AnswersWith (.replayTimeout p) s w ∧ AnswersWith (.replayExhausted p) s w)
      ∧ (∀ seq n f rest, port.replay = (seq, n, f) :: rest →
          (sendAt ≤ horizon s.hw → AnswersWith (.replayTimeout p) s (replayFrom p.val seq (advance w sendAt)))
          ∧ (horizon s.hw < sendAt → AnswersWith (.replayTimeout p) s w)
          ∧ ((∃ e ∈ port.replay, 9 ≤ e.2.1) → AnswersWith (.replayExhausted p) s (down 1 w))
          ∧ ((∀ e ∈ port.replay, e.2.1 < 9) → port.ackAt + 20000 ≤ horizon s.hw →
              AnswersWith (.replayExhausted p) s (down 1 (advance w (port.ackAt + 20000))))
          ∧ ((∀ e ∈ port.replay, e.2.1 < 9) → horizon s.hw < port.ackAt + 20000 → AnswersWith (.replayExhausted p) s w)))
    ∧ (port.state ≠ .active → AnswersWith (.credit p ack freed) s w ∧ AnswersWith (.nak p ack expected) s w
        ∧ AnswersWith (.downRequest p cause) s w ∧ AnswersWith (.lockLost p) s w ∧ AnswersWith (.replayTimeout p) s w
        ∧ AnswersWith (.replayExhausted p) s w)

/-- R271 to R273: training goes from `DETECT`, with the far end on at least 16 lanes, through `TRAIN` and `ALIGN`, with at least 16 good lanes in each
direction, to `INIT`; one that fails ends `DOWN` with its cause and is tried again, in full, after 10 s.
R272: the receiver leaves one of its 17 lanes out: the first that is not good, else the lane that the defect map names, else one of its choice.
R268, R273 to R275: in `INIT` the module sends its `LINK_INIT`, and a received one that suits the port sets the peer and the credits and, where
the far end has seen the module's own, makes the link `ACTIVE`; one that does not suit takes the link down with cause 7. A lane with too many
corrected symbols is excluded, or marked worn where one already is; a hold ends after its 10 us. A command that does not suit the state of the
port changes nothing.
Where the rules leave a corner open, the clauses state the model's choice (log 4, 12 and 36). -/
def Obligations.LinkBringUp : Prop :=
  (∀ (s : State) (p : Fin 6) (lanes rxGood txGood : BitVec 17),
     let q := portOf s.hw p.val
     let w := beginWork s
     let full := q.fullTraining || !(trainingValid s.hw (64 + p.val))
     let good := withoutLane rxGood.toNat q.exclude
     let named := defectLane s.hw p.val 0
     let aligned (lane spare : Nat) (x : Work) : Work := modPort p.val (fun x => { x with
       state := .init
       exclude := none
       rxSpare := spare
       rxMask := 2 ^ 17 - 1 - 2 ^ lane
       initGot := false
       initSeen := false }) x
     (q.state = .detect → s.hw.power.cupola = true → 16 ≤ laneCount lanes.toNat → AnswersWith (.detect p lanes) s
       (modPort p.val (fun x => { x with state := .train, fullTraining := full, saved := !full, retryAt := none }) w))
     ∧ ((q.state ≠ .detect ∨ s.hw.power.cupola = false ∨ laneCount lanes.toNat < 16) → AnswersWith (.detect p lanes) s w)
     ∧ (q.state = .train → AnswersWith (.train p true) s (modPort p.val (fun x => { x with state := .align }) w)
       ∧ (q.fullTraining = true → AnswersWith (.train p false) s (failTraining p.val 8 w))
       ∧ (q.fullTraining = false → AnswersWith (.train p false) s (modPort p.val (fun x => { x with fullTraining := true, saved := false }) w)))
     ∧ (q.state ≠ .train → AnswersWith (.train p true) s w ∧ AnswersWith (.train p false) s w)
     ∧ (q.state = .align → (laneCount good < 16 ∨ laneCount txGood.toNat < 16) → AnswersWith (.align p rxGood txGood) s (failTraining p.val 3 w))
     ∧ (q.state = .align → 16 ≤ laneCount good → 16 ≤ laneCount txGood.toNat →
         (∀ i, (List.range 17).find? (fun k => !(bit good k)) = some i → AnswersWith (.align p rxGood txGood) s (aligned i i w))
         ∧ ((List.range 17).find? (fun k => !(bit good k)) = none →
           (named < 17 → AnswersWith (.align p rxGood txGood) s (aligned named named w))
           ∧ (17 ≤ named → AnswersWith (.align p rxGood txGood) s (aligned (freeOf w % 17) 31 (freeUsed w)))))
     ∧ (q.state ≠ .align → AnswersWith (.align p rxGood txGood) s w)
     ∧ (∀ t, q.retryAt = some t → q.state = .down → t ≤ horizon s.hw → AnswersWith (.trainingRetry p) s
         (modPort p.val (fun x => { x with state := afterDown s.hw p.val, retryAt := none }) (advance w t)))
     ∧ ((q.retryAt = none ∨ q.state ≠ .down) → AnswersWith (.trainingRetry p) s w)
     ∧ (∀ cause, failTraining p.val cause w = modPort p.val (fun x => { x with
         state := .down
         downCause := cause
         fullTraining := true
         retryAt := some (s.hw.time.now + 10000000000) })
       (if q.fullTraining then modKeep (fun k => { k with
         failedTraining := if k.failedTraining.contains p.val then k.failedTraining else k.failedTraining ++ [p.val] }) w else w)))
  ∧ (∀ (s : State) (p : Fin 6) (b : List Byte) (lane : Fin 17) (corrected symbols : BitVec 48),
       let q := portOf s.hw p.val
       let w := beginWork s
       let mask := field b 32 4 % 2 ^ 17
       let peer := modPort p.val (fun x => { x with
         initGot := true
         initSeen := field b 3 1 % 2 == 1
         peerNode := field b 4 4
         peerPort := field b 8 2
         peerPlane := field b 1 1 % 4
         peerIndex := field b 2 1 % 2
         peerRole := field b 0 1 % 2
         txMask := mask
         txSpare := maskSpare mask
         creditInit := (List.range 7).foldl (fun t i => tabSet 0 t (i + 1) (field b (16 + 2 * i) 2)) [] }) w
       let noted := bump 3 (24 + 17 * p.val + lane.val) corrected.toNat w
       let worn := symbols.toNat < corrected.toNat * 10000
       (q.state = .init → AnswersWith (.linkInitSend p) s (emitCtrl p.val 1 0 (endpointOf s.hw 0) (linkInitPayload s.hw p.val) w)
         ∧ (initMismatch s.hw p.val b = true → AnswersWith (.linkInit p b) s (linkDown p.val 7 (afterDown s.hw p.val) w))
         ∧ (initMismatch s.hw p.val b = false → field b 3 1 % 2 = 0 → AnswersWith (.linkInit p b) s peer)
         ∧ (initMismatch s.hw p.val b = false → field b 3 1 % 2 = 1 → AnswersWith (.linkInit p b) s (enterActive p.val (field b 10 2) peer)))
       ∧ (q.state ≠ .init → AnswersWith (.linkInitSend p) s w ∧ AnswersWith (.linkInit p b) s w)
       ∧ (q.state = .active → bit q.rxMask lane.val = true →
           (¬worn → AnswersWith (.laneRetrain p lane corrected symbols) s noted)
           ∧ (worn → q.rxSpare = 31 → AnswersWith (.laneRetrain p lane corrected symbols) s
               (linkDown p.val 4 (afterDown s.hw p.val) (modPort p.val (fun x => { x with exclude := some lane.val }) noted)))
           ∧ (worn → q.rxSpare ≠ 31 → AnswersWith (.laneRetrain p lane corrected symbols) s
               (raise 17 6 p.val 0 0 (modPort p.val (fun x => { x with laneWear := true }) noted))))
       ∧ ((q.state ≠ .active ∨ bit q.rxMask lane.val = false) → AnswersWith (.laneRetrain p lane corrected symbols) s w)
       ∧ (∀ t, q.holdUntil = some t → t ≤ horizon s.hw → AnswersWith (.portHoldExpiry p) s (endHold p.val (advance w t)))
       ∧ (q.holdUntil = none → AnswersWith (.portHoldExpiry p) s w))

/-- R262, R276, R277: a time request waits on a port for its slot with the module's time and a fresh number, the rack reference answers one on the
same port with its own time, and a response to an outstanding request gives the offset of R277; the reference's endpoint is a free value. A
request that is not due, that no rack reference receives, or a response to no request or after 100 us changes no more than its acknowledgement.
Where the rules leave a corner open, the clauses state the model's choice (log 37). -/
def Obligations.TimeExchanges : Prop :=
  ∀ (s : State) (p : Fin 6) (rx : Rx) (b : List Byte),
    let w := beginWork s
    let l := s.hw.links
    let now := s.hw.time.now
    let acked := if (portOf s.hw rx.port.val).state = .active then ackTaken rx w else w
    let waits (port dest : Nat) (payload : List Byte) (x : Work) : Work :=
      modPort port (fun q => { q with ctrlQ := q.ctrlQ ++ [⟨2, dest, endpointOf s.hw 0, payload⟩] }) x
    let asks := (portOf s.hw p.val).state = .active ∧ s.hw.time.rackRef = false
      ∧ ((portOf s.hw (p.val + 1 - 2 * (p.val % 2))).state = .active → tabGet 0 l.lastLink (p.val / 2) ≠ p.val % 2 + 1)
    let answers := (portOf s.hw rx.port.val).state = .active ∧ s.hw.time.rackRef = true ∧ field b 4 1 = 0
    let asked := l.exchanges.find? (fun e => e.1 == field b 0 4 && e.2.1 == rx.port.val)
    let forgets (x : Work) : Work := x.up fun h => { h with links := { h.links with exchanges := h.links.exchanges.filter (fun e => e.1 != field b 0 4) } }
    (asks → AnswersWith (.timeExchange p) s (waits p.val (freeOf w % 2 ^ 18) (timePayload l.exchangeNext 0 now 0 0 0 0)
        (w.up fun h => { h with
          links := { h.links with
            exchangeNext := (l.exchangeNext + 1) % 2 ^ 32
            lastLink := tabSet 0 l.lastLink (p.val / 2) (p.val % 2 + 1)
            exchanges := l.exchanges.filter (fun e => now ≤ e.2.2 + 100000) ++ [(l.exchangeNext, p.val, now)] }
          freeCtr := h.freeCtr + 1 })))
    ∧ (¬asks → AnswersWith (.timeExchange p) s w)
    ∧ (answers → AnswersWith (.timeRequest rx b) s (waits rx.port.val rx.src.toNat
          (timePayload (field b 0 4) 1 (field b 8 8) now now (field b 32 4) 0) acked))
    ∧ (¬answers → AnswersWith (.timeRequest rx b) s acked)
    ∧ (asked = none → AnswersWith (.timeResponse rx b) s acked)
    ∧ (∀ id port t1, asked = some (id, port, t1) →
        (field b 4 1 = 1 → now ≤ t1 + 100000 → AnswersWith (.timeResponse rx b) s
          (takeOffset .plane ((((field b 16 8 : Int) - t1) * 16 - field b 32 4 - (((now : Int) - field b 24 8) * 16 - field b 36 4)) / 32)
            (gainSource .plane (forgets acked))))
        ∧ ((field b 4 1 ≠ 1 ∨ t1 + 100000 < now) → AnswersWith (.timeResponse rx b) s (forgets acked)))

/-- R270, R282, R467: a transfer of the package fabric whose copy has left is delivered in the order of its pair of cores, and a second copy counted
as a duplicate; one whose acknowledgement was lost is sent again after 5 us, up to eight times, and then ends as an uncorrectable read of its
issuer; a `SEND` to another module without an answer for 100 us completes as refused.
R21: the route from a Spire to the one opposite goes through the next Spire of the ring, else through the one before it, else by the Cupola.
R559: a copy that leaves takes its credits from the sender of its first link, and its arrival gives them back.
Where the rules leave a corner open, the clauses state the model's choice (log 36 and 58). -/
def Obligations.FabricTransfers : Prop :=
  (∀ (s : State) (i : BitVec 16) (m : FabricMsg),
    let w := beginWork s
    let l := s.hw.links.fabric
    let n := i.toNat
    let earlier := ∃ x ∈ l.take n, x.srcCore = m.srcCore ∧ x.destCore = m.destCore ∧ (x.delivered = false ∨ (0 < x.resends ∧ x.acked = false))
    let lost := (∀ c ∈ m.copies, c.severed = true) ∧ m.acked = false
    let later := advance w (m.sentAt + 5000)
    (l[n]? = none → AnswersWith (.packageFabricTransfer i) s w ∧ AnswersWith (.fabricResend i) s w)
    ∧ (l[n]? = some m → m.copies = [] → AnswersWith (.packageFabricTransfer i) s w)
    ∧ (l[n]? = some m → ∀ c rest, m.copies = c :: rest →
      let acked := m.acked || !c.severed
      let left := if acked then rest.filter (fun x => x.gone) else rest
      let done := freeCopy m c (modFabric (fun l =>
        if acked && left.isEmpty then l.eraseIdx n else l.set n { m with delivered := true, acked := acked, copies := left }) w)
      (c.gone = false → AnswersWith (.packageFabricTransfer i) s w)
      ∧ (m.delivered = false → earlier → AnswersWith (.packageFabricTransfer i) s w)
      ∧ (c.gone = true → m.delivered = false → ¬earlier → AnswersWith (.packageFabricTransfer i) s (deliverFabric m done))
      ∧ (c.gone = true → m.delivered = true → AnswersWith (.packageFabricTransfer i) s (tallyDuplicate 0 done)))
    ∧ (l[n]? = some m → (¬lost ∨ horizon s.hw < m.sentAt + 5000) → AnswersWith (.fabricResend i) s w)
    ∧ (l[n]? = some m → lost → m.sentAt + 5000 ≤ horizon s.hw →
      (m.resends < 8 → AnswersWith (.fabricResend i) s (bump 8 (196 + spireOf m.srcCore) 1 (resendFabric n m later)))
      ∧ (8 ≤ m.resends →
          let gone := modFabric (fun l => l.eraseIdx n) later
          let ended := raise 14 2 (spireOf m.srcCore) 0 0 (if m.delivered then gone else tallyDropped 0 gone)
          AnswersWith (.fabricResend i) s (coreFaultAt m.srcCore 0x0B 4 m.bundle (freeOf ended % 2 ^ 64) true (freeUsed ended)))))
  ∧ (∀ (s : State) (core : BitVec 8) (seq : W32),
      let w := beginWork s
      let asked := (coreOf s.hw core.toNat).msgs.find? (fun x => x.kind == .send && x.ack && x.left && x.seq == seq.toNat)
      (asked = none → AnswersWith (.ackTimeout core seq) s w)
      ∧ (∀ op, asked = some op →
        let late := isOwnEndpoint s.hw op.endpoint = false ∧ stillQueued s.hw core.toNat op.id = false ∧ op.leftAt + 100000 ≤ horizon s.hw
        (late → AnswersWith (.ackTimeout core seq) s (completeMsg core.toNat op.id true (advance w (op.leftAt + 100000))))
        ∧ (¬late → AnswersWith (.ackTimeout core seq) s w)))
  ∧ (∀ (hw : Hw) (a b : Fin 4),
      let next := (a.val + 1) % 4
      let before := (a.val + 3) % 4
      (a = b → fabricRoute hw a.val b.val = .inside)
      ∧ ((b.val = next ∨ b.val = before) → fabricRoute hw a.val b.val = .ring)
      ∧ (b.val = (a.val + 2) % 4 →
        (routerUp hw next = true → fabricRoute hw a.val b.val = .through next)
        ∧ (routerUp hw next = false → routerUp hw before = true → fabricRoute hw a.val b.val = .through before)
        ∧ (routerUp hw next = false → routerUp hw before = false → fabricRoute hw a.val b.val = .viaCupola)))
  ∧ (∀ (w : Work) (i : Nat) (m : FabricMsg) (c : FabricCopy) (rest : List FabricCopy) (link : Nat), w.hw.links.fabric[i]? = some m →
      m.copies = c :: rest → c.gone = false →
      let sent : FabricCopy := { c with route := fabricRoute w.hw (spireOf m.srcCore) (spireOf m.destCore), gone := true }
      copyLink m sent = some link →
      (copyMayGo w.hw m sent = true → heldCredits (goFabric i w).hw link = heldCredits w.hw link - fabricUnits m)
      ∧ (copyMayGo w.hw m sent = false → goFabric i w = w)
      ∧ (c.severed = false → heldCredits (freeCopy m sent w).hw link = heldCredits w.hw link + fabricUnits m))

/-- R296 to R298, R306 to R308, R311, R550, R560: an accepted collective flit goes to its operation; an accepted record sets the window offered,
lets a reservation's piece leave, stops an operation with the carried status, ends a frame's operations, notes a member below the floor, or
compares the switch's window bytes, and the other records of its flit follow; a record of no group or frame of the module, or of an operation
that is over, is counted. A trace flit of an accepted batch is written at a sink and counted elsewhere; beyond the port's share for it the flit
waits in its buffer.
Where the rules leave a corner open, the clauses state the model's choice (log 18, 39 and 54). -/
def Obligations.CollectiveRecords : Prop :=
  ∀ (s : State) (rx : Rx) (b : List Byte),
    let p := rx.port.val
    let w (vc : Nat) : Work := flitTaken rx vc (beginWork s)
    let r := b.take 16
    let rest := (chunksOf 16 14 (b.drop 16)).takeWhile (fun r => field r 0 1 != 0)
    let takes (i : Instr) (x : Work) : Prop := AnswersWith i s (forEach rest (fun r v => takeWindowRecord p (field r 0 1) r v) x)
    let unknown := bump 4 8 1 (w 2)
    (InOrder s.hw rx 2 →
      AnswersWith (.collReduce rx b) s (takeColl { reduce := true, dest := rx.dest.toNat, rack := none, frame := 0, payload := b } (w 2))
      ∧ takes (.advertise rx b) ((w 2).up fun h => { h with coll := { h.coll with window := tabSet 0 h.coll.window p (field r 12 4) } })
      ∧ (findGroup s.hw (field r 4 4) = none → takes (.grant rx b) unknown ∧ takes (.abort rx b) unknown ∧ takes (.absent rx b) unknown
          ∧ takes (.floorNotice rx b) unknown ∧ takes (.audit rx b) (w 2))
      ∧ (∀ g, findGroup s.hw (field r 4 4) = some g →
        let relayed (o : CollOp) (x : Work) : Work := if isLeader s.hw g && spansRacks s.hw g then sendRackRecord g o (slice r 0 16) x else x
        (tagFrame s.hw g (field r 1 1) = none → takes (.grant rx b) unknown ∧ takes (.abort rx b) unknown ∧ takes (.absent rx b) unknown
          ∧ takes (.floorNotice rx b) unknown)
        ∧ (∀ frame, tagFrame s.hw g (field r 1 1) = some frame →
          let o := getOp s.hw g frame (field r 2 1)
          let reserved := o.reserves.find? (fun y => y.port == p && y.piece == field r 8 4 && y.bytes == field r 12 4 && !y.granted)
          let marked := (w 2).up fun h => { h with coll := { h.coll with absent := h.coll.absent ++ [(g.id, frame, field r 12 2)] } }
          let told := relayed (freshOp g frame 0) marked
          ((findOp s.hw g.id frame (field r 2 1) = none ∨ reserved = none) → takes (.grant rx b) unknown)
          ∧ (findOp s.hw g.id frame (field r 2 1) = some o → ∀ x, reserved = some x →
            let counted := sample 9 p (s.hw.time.now - x.since : Nat) (noteCrossing g p (w 2))
            let granted : CollOp := { o with reserves := o.reserves.map (fun y => if y == x then { y with granted := true } else y) }
            (field r 12 4 = 0 → takes (.grant rx b) (driveOp o.group o.frame o.ordinal (putOp { o with
                opened := o.opened ++ [p]
                reserves := removeFirst (fun y => y == x) o.reserves } counted)))
            ∧ (field r 12 4 ≠ 0 → takes (.grant rx b) (driveOp o.group o.frame o.ordinal
                (sendUnit g granted p 2 6 (redOp o) (4 * redArith o) (field r 8 4 * pieceFlits g (redExact o)) 0 0 0
                  (flitValues (redExact o) * valueBytes (redExact o)) (modulePartial g granted (field r 8 4))
                  (addGranted g p (field r 12 4) (putOp granted counted))))))
          ∧ (opOver s.hw g o = true → takes (.abort rx b) unknown ∧ takes (.floorNotice rx b) unknown)
          ∧ (opOver s.hw g o = false → takes (.abort rx b)
              (reserveNext g.id (stopOp g o (carriedStatus (field r 3 1)) (field r 12 2) (putOp o (relayed o (w 2))))))
          ∧ (opOver s.hw g o = false → takes (.floorNotice rx b) (putOp { o with
              floor := some (match o.floor with | some x => min x (field r 12 2) | none => field r 12 2) } (relayed o (w 2))))
          ∧ takes (.absent rx b) (forEach (told.hw.coll.ops.filter (fun o => o.group == g.id && o.frame == frame)) (fun o x =>
              stopOp g ((findOp x.hw o.group o.frame o.ordinal).getD o) 9 (field r 12 2) x) told))
        ∧ (s.hw.conserve.latched.find? (fun e => e.1 == 8 * g.slot + p) = none → takes (.audit rx b) (w 2))
        ∧ (∀ key own, s.hw.conserve.latched.find? (fun e => e.1 == 8 * g.slot + p) = some (key, own) →
          let theirs := field r 12 4
          let leaks := tabGet 0 s.hw.conserve.leaks (8 * g.slot + p)
          let compared := modConserve (fun c => { c with latched := c.latched.filter (fun e => e.1 != 8 * g.slot + p) }) (w 2)
          let set (n : Nat) (x : Work) : Work := modConserve (fun c => { c with leaks := tabSet 0 c.leaks (8 * g.slot + p) n }) x
          (own = 0 → theirs ≠ 0 → leaks < 2 → takes (.audit rx b) (set (leaks + 1) compared))
          ∧ (own = 0 → theirs ≠ 0 → 2 ≤ leaks → takes (.audit rx b) (auditFails 3 2 6 p g.slot theirs (set (leaks + 1) compared)))
          ∧ ((own ≠ 0 ∨ theirs = 0) → takes (.audit rx b)
              (auditCheck 3 1 6 p g.slot (own != theirs) ((theirs : Int) - own) (auditPasses 3 2 p g.slot (set 0 compared)))))))
    ∧ (InOrder s.hw rx 3 →
      AnswersWith (.collGather rx b) s (takeColl { reduce := false, dest := rx.dest.toNat, rack := none, frame := 0, payload := b } (w 3)))
    ∧ (InOrder s.hw rx 6 →
      let counted := modPort p (fun q => { q with lowIn := q.lowIn + 1 }) (w 6)
      let room := (portOf s.hw p).lowIn < lowLimit s.hw p 1
      (room → s.hw.burin.sink = false → AnswersWith (.trace rx b) s (bump 13 7 1 counted))
      ∧ (room → s.hw.burin.sink = true → AnswersWith (.trace rx b) s
          (forEach (chunksOf 32 (field b 4 1) (slice b 16 (32 * field b 4 1))) (ringWrite 4)
            (drainTrace (traceModule 0x15 0xFFFF (leBytes 4 (field b 0 4 % 2 ^ 18) ++ zeros 4 ++ slice b 8 8) counted))))
      ∧ (¬room → AnswersWith (.trace rx b) s
          (modPort p (fun q => { q with lowHeld := q.lowHeld ++ [(6, rx, b)] }) (flitStored rx 6 (beginWork s)))))


/-! ## Mirror pairs (R509 to R530) -/

/-- R522, R523: an accepted flit of a mirror record joins the record that its first flit began; the record acts with its last flit where it has the
data of its kind, and is dropped where it has not, or where its first flit never came. A row takes only flits of its own kind: on another's it
changes nothing.
Where the rules leave a corner open, the clauses state the model's choice (log 53). -/
def Obligations.MirrorFlits : Prop :=
  ∀ (s : State) (rx : Rx) (b : List Byte) (i : Instr) (kind : Nat),
    (i, kind) ∈ [(.hello rx b, 1), (.granule rx b, 2), (.page rx b, 3), (.frameEnd rx b, 4), (.ack rx b, 5), (.resend rx b, 6), (.release rx b, 7)] →
    let p := rx.port.val
    let mine (x : Nat × Nat × MirrorRec) : Bool := x.1 == p && x.2.2.stream == field b 5 1 && x.2.1 == field b 0 4
    let w := (flitTaken rx 5 (beginWork s)).up fun h => { h with mirror := { h.mirror with
      partials := h.mirror.partials.filter (fun x => !(mine x)) } }
    let begun : Option MirrorRec :=
      if rx.first then some ⟨kind, field b 5 1, bit (field b 6 1) 0, field b 8 4, field b 12 4, []⟩
      else (s.hw.mirror.partials.find? mine).map (fun x => x.2.2)
    (field b 4 1 ≠ kind → AnswersWith i s (beginWork s))
    ∧ (field b 4 1 = kind → InOrder s.hw rx 5 →
        (begun = none → AnswersWith i s w)
        ∧ (∀ r, begun = some r →
            let grown := { r with data := r.data ++ b.drop 16 }
            (rx.last = true → recordWhole grown = true → AnswersWith i s (takeRecord (field b 0 4) rx.src.toNat grown w))
            ∧ (rx.last = true → recordWhole grown = false → AnswersWith i s w)
            ∧ (rx.last = false → AnswersWith i s (w.up fun h => { h with mirror := { h.mirror with
                partials := h.mirror.partials ++ [(p, field b 0 4, grown)] } }))))

/-- R511, R516, R517, R519, R520, R523, R524, R528, R530: what a whole record does. On a standby a numbered record in sequence is accepted: a
granule or page is held for its frame, a `FRAME_END` queues a commit and a `RELEASE` is noted, with an `ACK` where none went for 100 us; one of
the 4,096 below is counted as a duplicate, one ahead is answered with `RESEND`, and a holder counts and ignores them. A resync record is written
into its window at once, and held where it must wait. An `ACK` releases the records below its number, and a `RESEND` sends them again from its
number.
R511, R515, R517, R520: a `HELLO` sets the pair state by the fields that R512 compares, the fault source telling of a first mismatch; of two
holders the one with the lower epoch, or the higher serial number, releases; and a holder answers a valid one by sending its windows in resync.
A record of no pair, or with another `PAIR_ID`, does nothing.
Where the rules leave a corner open, the clauses state the model's choice (log 53). -/
def Obligations.MirrorRecordEffects : Prop :=
  (∀ (w : Work) (id src : Nat) (r : MirrorRec), pairOfRecord w.hw id src = none → takeRecord id src r w = w)
  ∧ (∀ (w : Work) (p : Pair) (r : MirrorRec) (id src : Nat), pairOfRecord w.hw id src = some p →
      let stream := streamOf w.hw p.part r.stream
      let below := (stream.expect + 2 ^ 32 - r.seq) % 2 ^ 32
      let acts (v : Work) : Prop := takeRecord id src r w = v
      let heard := tallyDelivered 2 (tallyArrived 2 w)
      let taken := modStream p.part r.stream (fun s => { s with expect := (s.expect + 1) % 2 ^ 32 })
        (tallyDelivered 2 (tallyArrived 2 (bump 10 (4 + p.part) 1 w)))
      let answered (v : Work) : Work := if stream.ackedAt + 100000 ≤ w.hw.time.now then sendAck p r.stream v else v
      let holding := modPair p.part (fun q => { q with heldRecs := q.heldRecs ++ [r] }) taken
      (r.kind ≠ 1 → id ≠ p.id → acts w)
      ∧ (r.kind ∈ [2, 3, 4, 7] → id = p.id →
          (p.role ≠ .standby → acts (tallyDropped 2 (tallyArrived 2 (bump 10 (16 + p.part) 1 w))))
          ∧ (p.role = .standby → 1 ≤ below → below ≤ 4096 → acts (tallyDuplicate 2 (tallyArrived 2 (bump 10 (8 + p.part) 1 w))))
          ∧ (p.role = .standby → 4096 < below → acts (sendPlain p 6 r.stream (leBytes 4 stream.expect) w))
          ∧ (p.role = .standby → below = 0 →
            (r.kind = 4 → acts (answered (modPair p.part (fun q => { q with ends := q.ends ++ [parseFrameEnd r] }) taken)))
            ∧ (r.kind = 7 → acts (answered (modPair p.part (fun q => { q with released := some (w.hw.time.now, field r.data 0 8) }) taken)))
            ∧ ((r.kind = 2 ∨ r.kind = 3) → r.resync = false → acts (answered holding))
            ∧ ((r.kind = 2 ∨ r.kind = 3) → r.resync = true → p.state = .mismatch → acts (answered taken))
            ∧ ((r.kind = 2 ∨ r.kind = 3) → r.resync = true → p.state ≠ .mismatch →
                ((∃ q ∈ p.heldRecs, q.resync = true ∧ q.stream = r.stream) → acts (answered holding))
                ∧ ((∀ q ∈ p.heldRecs, q.resync = true → q.stream ≠ r.stream) →
                    (writeRecord r taken = none → acts (answered holding))
                    ∧ (∀ v, writeRecord r taken = some v →
                        let unit := if r.kind = 2 then field r.data 0 8 / 4096 else field r.data 4 4
                        acts (answered (modWindow r.stream (fun x => { x with
                          stale := true
                          resync := if unit + 1 = unitCount taken.hw x then 3 else 2 }) v)))))))
      ∧ (r.kind = 5 → id = p.id →
          (stream.unacked = [] → acts (modStream p.part r.stream (fun s => s) heard))
          ∧ (∀ first rest, stream.unacked = first :: rest →
              let n := (field r.data 0 4 + 2 ^ 32 - first.seq) % 2 ^ 32
              (1 ≤ n → n ≤ stream.unacked.length → acts (modStream p.part r.stream (fun s => { s with
                unacked := s.unacked.drop n
                ackAt := w.hw.time.now }) heard))
              ∧ ((n = 0 ∨ stream.unacked.length < n) → acts (modStream p.part r.stream (fun s => s) heard))))
      ∧ (r.kind = 6 → id = p.id → acts (resendFrom p r.stream (field r.data 0 4) heard))
      ∧ (r.kind = 1 → findPair w.hw p.part = some p →
          let f (off n : Nat) : Nat := field r.data off n
          let same := id = p.id ∧ f 8 8 = p.serial ∧ f 2 1 = 4 / max 1 (partCount w.hw) ∧ f 32 8 = planDigest w.hw p.part
            ∧ f 40 4 = windowDigest w.hw p.part
          let lower := p.epoch < f 16 8 ∨ (p.epoch = f 16 8 ∧ w.hw.keep.serial < f 8 8)
          let told (st : PairState) (q : Pair) : Pair := { q with
            state := st
            helloTick := some w.hw.time.tick
            peerRole := f 0 1
            peerFlags := f 1 1
            peerEpoch := f 16 8
            reported := max q.reported (f 24 8)
            peerEnded := f 48 8
            peerCommitted := f 56 8 }
          let agrees := modPair p.part (told .paired) heard
          let differs := modPair p.part (told .mismatch) (if p.state = .paired then leavePaired p.part heard else heard)
          let refused := if p.state = .mismatch then differs else raise 32 0 0 0 2 differs
          (same → p.role ≠ .holder → acts agrees)
          ∧ (¬same → (p.role ≠ .holder ∨ f 0 1 ≠ 1) → acts refused)
          ∧ (p.role = .holder → f 0 1 = 1 → lower → acts (raise 32 0 0 0 7
              (modPair p.part (fun q => { q with expires := 0, releaseNext := true }) (becomeStandby p.part (if same then agrees else refused)))))
          ∧ (¬same → p.role = .holder → f 0 1 = 1 → ¬lower → acts (raise 32 0 0 0 7 refused))
          ∧ (same → p.role = .holder → (f 0 1 ≠ 1 ∨ ¬lower) →
              let sent := forEach ((windowsOf w.hw p.part).filter (fun x => x.resync == 1)) (fun x v => sendResync (told .paired p) x v)
                (if f 0 1 = 1 then raise 32 0 0 0 7 agrees else agrees)
              acts (forEach (windowsOf sent.hw p.part) (fun x v =>
                if 3 ≤ x.resync && x.resync - 3 ≤ f 56 8 then modWindow x.index (fun y => { y with resync := 0 }) v else v) sent))))

/-- R511, R515, R519, R520, R524, R526, R528: the events of a pair. The oldest frame copied is sent, its records first and then its `FRAME_END`; the
standby commits the oldest `FRAME_END` whose records it holds, answers the batches it names and acknowledges; records overdue for 300 us are sent
again; a partner silent for 3 ticks is lost, and the windows enter resync; a holder whose grant expires becomes standby; and a standby whose lease
conditions hold takes over. An event whose time has not come, or that does not suit the pair, changes nothing.
R515: a standby may take over only from the later of the partner's expiry it was given and the one reported to it, or from a release, and only
before its own grant expires; a holder, or a partition in another pair state, may not.
Where the rules leave a corner open, the clauses state the model's choice (log 53). -/
def Obligations.MirrorEvents : Prop :=
  (∀ (s : State) (part : Fin 4) (stream : Byte), (findPair s.hw part.val = none ∨ cupolaLive s.hw = false) →
     let w := beginWork s
     AnswersWith (.mirrorCopyComplete part) s w ∧ AnswersWith (.commit part) s w ∧ AnswersWith (.mirrorResendTimeout part stream) s w
     ∧ AnswersWith (.partnerLost part) s w ∧ AnswersWith (.leaseExpiry part) s w ∧ AnswersWith (.takeover part) s w)
  ∧ (∀ (s : State) (part : Fin 4) (p : Pair), findPair s.hw part.val = some p → cupolaLive s.hw = true →
     let w := beginWork s
     let k := part.val
     (p.role ≠ .holder ∨ p.state = .mismatch ∨ p.copies = [] → AnswersWith (.mirrorCopyComplete part) s w)
     ∧ (∀ c rest, p.copies = c :: rest → p.role = .holder → p.state ≠ .mismatch →
         ((∃ pl f, pairedPlan s.hw k = some pl ∧ pl.frame = some f ∧ f.number < c.frame) → AnswersWith (.mirrorCopyComplete part) s w)
         ∧ ((∀ pl f, pairedPlan s.hw k = some pl → pl.frame = some f → c.frame ≤ f.number) →
             let units := forEach (c.units.filter (fun u =>
                 s.hw.mirror.windows.any (fun x => x.index == u.window && x.part == k && x.resync != 1))) (fun u v =>
               sendNumbered p (unitData v.hw u.window u.unit u.data).1 u.window false c.frame (unitData v.hw u.window u.unit u.data).2 v)
               (endWaits k [c] (modPair k (fun q => { q with copies := rest }) w))
             let ended := sendNumbered p 4 255 false c.frame
               (leBytes 1 c.status ++ leBytes 1 (windowsOf units.hw k).length ++ leBytes 1 c.inboxes.length ++ [0]
                 ++ (windowsOf units.hw k).flatMap (fun x => leBytes 1 x.index ++ zeros 3 ++ leBytes 4 (streamOf units.hw k x.index).sendNext)
                 ++ c.inboxes.flatMap (fun b => leBytes 2 b.1 ++ leBytes 1 b.2.1 ++ [0] ++ leBytes 4 b.2.2)) units
             AnswersWith (.mirrorCopyComplete part) s (forEach (windowsOf units.hw k)
               (fun x v => if x.resync = 2 then modWindow x.index (fun y => { y with resync := 3 + c.frame }) v else v) ended))))
  ∧ (∀ (s : State) (part : Fin 4) (p : Pair), findPair s.hw part.val = some p → cupolaLive s.hw = true →
     let w := beginWork s
     let k := part.val
     (p.role ≠ .standby ∨ p.state = .mismatch ∨ p.ends = [] → AnswersWith (.commit part) s w)
     ∧ (∀ e rest, p.ends = e :: rest → p.role = .standby → p.state ≠ .mismatch →
         let own (r : MirrorRec) : Bool := r.frame == e.frame && !r.resync
         let written := (writeWaiting k (p.heldRecs.filter (fun r => r.resync)) w).bind (writeRecords (p.heldRecs.filter own))
         (endReady s.hw k e = false → AnswersWith (.commit part) s w)
         ∧ (endReady s.hw k e = true → written = none → AnswersWith (.commit part) s w)
         ∧ (endReady s.hw k e = true → ∀ v, written = some v →
             let committed := modPair k (fun q => { q with
               ends := rest
               heldRecs := q.heldRecs.filter (fun r => !own r)
               committed := fullFrame q.committed e.frame }) v
             let whole := forEach (windowsOf committed.hw k) (fun x v =>
               if x.resync = 3 then modWindow x.index (fun y => { y with resync := 0 }) v else v) committed
             let named := forEach e.inboxes (fun b v =>
               forEach (List.range b.2.1) (fun i v => answerNamed k b.1 (b.2.2 + i) (endOutcome e.status) v) v) whole
             AnswersWith (.commit part) s (forEach (255 :: e.streams.map (fun x => x.1)) (fun x v => sendAck p x v) named))))
  ∧ (∀ (s : State) (part : Fin 4) (stream : Byte) (p : Pair), findPair s.hw part.val = some p → cupolaLive s.hw = true →
     let w := beginWork s
     let k := part.val
     let st := streamOf s.hw k stream.toNat
     (st.unacked = [] → AnswersWith (.mirrorResendTimeout part stream) s w)
     ∧ (∀ r rest, st.unacked = r :: rest →
         (st.ackAt + 300000 ≤ horizon s.hw →
           AnswersWith (.mirrorResendTimeout part stream) s (resendFrom p stream.toNat r.seq (advance w (st.ackAt + 300000))))
         ∧ (horizon s.hw < st.ackAt + 300000 → AnswersWith (.mirrorResendTimeout part stream) s w)))
  ∧ (∀ (s : State) (part : Fin 4) (p : Pair), findPair s.hw part.val = some p → cupolaLive s.hw = true →
     let w := beginWork s
     let k := part.val
     (p.state = .paired → (∃ t, p.helloTick = some t ∧ t + 3 ≤ s.hw.time.tick) → AnswersWith (.partnerLost part) s
       (let left := modPair k (fun q => { q with state := .partnerLost }) (leavePaired k w)
        raise 32 0 0 0 1 (forEach (windowsOf left.hw k) (fun x v => enterResync x.index v) left)))
     ∧ ((p.state ≠ .paired ∨ ∀ t, p.helloTick = some t → s.hw.time.tick < t + 3) → AnswersWith (.partnerLost part) s w)
     ∧ (p.role = .holder → p.expires ≤ horizon s.hw → AnswersWith (.leaseExpiry part) s (becomeStandby k (advance w p.expires)))
     ∧ ((p.role ≠ .holder ∨ horizon s.hw < p.expires) → AnswersWith (.leaseExpiry part) s w)
     ∧ (takeoverAt s.hw p = none → AnswersWith (.takeover part) s w)
     ∧ (∀ t, takeoverAt s.hw p = some t →
         let stale := (windowsOf s.hw k).any (fun x => x.stale)
         let held := raise 32 0 0 0 (if stale then 6 else 5) (bump 10 (84 + k) 1 (modPair k (fun q => { q with
           role := .holder
           ends := []
           heldRecs := []
           answered := []
           released := none
           rerun := true
           behind := false
           ended := q.committed
           staleTakeover := q.staleTakeover || stale }) (advance w t)))
         (horizon s.hw < t → AnswersWith (.takeover part) s w)
         ∧ (t ≤ horizon s.hw → pairedPlan s.hw k = none → AnswersWith (.takeover part) s held)
         ∧ (t ≤ horizon s.hw → ∀ pl, pairedPlan s.hw k = some pl →
             AnswersWith (.takeover part) s (reassign pl.id (s.hw.time.tick + 1) held))))
  ∧ (∀ (hw : Hw) (p : Pair) (t : Nat), takeoverAt hw p = some t →
       p.role = .standby ∧ (p.state = .paired ∨ p.state = .seeking ∨ p.state = .partnerLost) ∧ hw.time.now ≤ t ∧ t < p.expires
       ∧ (p.released = none → p.partnerExpires ≤ t ∧ p.reported ≤ t)
       ∧ (∀ at_ last, p.released = some (at_, last) → max p.partnerExpires p.reported ≤ t ∨ (last ≤ p.committed ∧ at_ ≤ t) ∨ at_ + 20000000 ≤ t))


/-! ## The host attachment (R314 to R346) -/

/-- R318 to R320, R322, R323, R325, R332, R333: a request in its turn on a `READY` queue pair is placed whole and acknowledged, or answered with its
data, or refused with a NAK: a WRITE or READ reaches a registered region under its access or the channel areas of its queue pair, a SEND the next
entry of its ring, or the collective unit; a WRITE of a seal record's first half is stamped and posted. A request that the module does not
support is refused. One behind the expected PSN is acknowledged again and one ahead gets a sequence NAK (log 24). On a queue pair that is not
`READY` it is counted only, and without its queue pair it does nothing.
R325, R326: a packet marked CE is answered with a CNP, at most one in an interval, and an answer of a paused priority waits.
Where the rules leave a corner open, the clauses state the model's choice (log 24, 40 and 72). -/
def Obligations.RdmaRequests : Prop :=
  (∀ (s : State) (qp : BitVec 12) (psn : BitVec 24) (rkey : W32) (address : W64) (data : List Byte) (length : W32) (ce : Bool)
     (imm : Option W32) (bytes : Vector Byte 16),
    let w0 := beginWork s
    let a := address.toNat
    ((findQp s.hw qp.toNat = none ∨ cupolaLive s.hw = false) → ∀ i ∈ [Instr.rdmaWrite qp psn rkey address data ce .plain,
        .rdmaWrite qp psn rkey address data ce .withImmediate, .rdmaWrite qp psn rkey address data ce .atomic,
        .rdmaWrite qp psn rkey address data ce .memoryWindow, .seal qp psn rkey address bytes ce, .rdmaSend qp psn data imm ce,
        .rdmaRead qp psn rkey address length ce], AnswersWith i s w0)
    ∧ (∀ q, findQp s.hw qp.toNat = some q → cupolaLive s.hw = true →
      let pk (n : Nat) : Nat := packetsOf q.mtu n
      let ahead := (psn.toNat + 2 ^ 24 - q.rqPsn % 2 ^ 24) % 2 ^ 24
      let got (frames size : Nat) : Work := notifyCongestion qp.toNat ce (countReceived q frames size w0)
      let w (n : Nat) : Work := got (pk n) (wireBytes (pk n) n)
      let r1 : Work := got 1 (wireBytes 1 0)
      (∀ (i : Instr) (n frames size : Nat), (i, n, frames, size) ∈ [
          (Instr.rdmaWrite qp psn rkey address data ce .plain, pk data.length, pk data.length, wireBytes (pk data.length) data.length),
          (.rdmaWrite qp psn rkey address data ce .withImmediate, pk data.length, pk data.length, wireBytes (pk data.length) data.length),
          (.rdmaWrite qp psn rkey address data ce .atomic, pk data.length, pk data.length, wireBytes (pk data.length) data.length),
          (.rdmaWrite qp psn rkey address data ce .memoryWindow, pk data.length, pk data.length, wireBytes (pk data.length) data.length),
          (.seal qp psn rkey address bytes ce, pk 16, pk 16, wireBytes (pk 16) 16),
          (.rdmaSend qp psn data imm ce, pk data.length, pk data.length, wireBytes (pk data.length) data.length),
          (.rdmaRead qp psn rkey address length ce, pk length.toNat, 1, wireBytes 1 0)] →
        (q.state ≠ 1 → AnswersWith i s (countReceived q frames size w0))
        ∧ (q.state = 1 → 2 ^ 23 ≤ ahead → AnswersWith i s (sendRoce q 3 ((psn.toNat + n - 1) % 2 ^ 24) 0 [] (got frames size)))
        ∧ (q.state = 1 → 0 < ahead → ahead < 2 ^ 23 → AnswersWith i s (sendRdmaNak q q.rqPsn .sequence (got frames size))))
      ∧ (q.state = 1 → ahead = 0 →
        (∀ form ∈ [WriteForm.withImmediate, .atomic, .memoryWindow],
          AnswersWith (.rdmaWrite qp psn rkey address data ce form) s (refuseRdma q psn.toNat .invalidRequest (w data.length)))
        ∧ (∀ (i : Instr) (bs : List Byte), (i, bs) ∈ [(Instr.rdmaWrite qp psn rkey address data ce .plain, data),
              (.seal qp psn rkey address bytes ce, bytes.toList)] →
            let n := bs.length
            (∀ r, regionOfKey s.hw rkey.toNat = some r →
              (regionTakesWrite r a n = false → AnswersWith i s (refuseRdma q psn.toNat .remoteAccess (w n)))
              ∧ (regionTakesWrite r a n = true → rangeInReset s.hw a = true → AnswersWith i s (sendRdmaNak q psn.toNat .remoteOperational (w n)))
              ∧ (regionTakesWrite r a n = true → rangeInReset s.hw a = false →
                  ((∀ k, r.type = 2 → k < r.slots → a = r.base + 0x800 + 32 * k → n ≠ 16) →
                    AnswersWith i s (ackRequest q psn.toNat (pk n) ((w n).write a bs)))
                  ∧ (∀ k, r.type = 2 → k < r.slots → a = r.base + 0x800 + 32 * k → n = 16 → AnswersWith i s
                      (ackRequest q psn.toNat (pk n) ((((w n).write a bs).writeNum (a + 16) 8 s.hw.time.now).up fun h =>
                        { h with host := { h.host with seals := h.host.seals ++ [{ region := r.index, record := k, time := s.hw.time.now }] } })))))
            ∧ (regionOfKey s.hw rkey.toNat = none →
              (channelTakes s.hw q rkey.toNat a n = true → AnswersWith i s (ackRequest q psn.toNat (pk n) ((w n).write a bs)))
              ∧ (channelTakes s.hw q rkey.toNat a n = false → AnswersWith i s (refuseRdma q psn.toNat .remoteAccess (w n)))))
        ∧ (let reaches : Bool := match regionOfKey s.hw rkey.toNat with
            | some r => regionTakesRead r a length.toNat
            | none => channelTakes s.hw q rkey.toNat a length.toNat
          let i := Instr.rdmaRead qp psn rkey address length ce
          (reaches = false → AnswersWith i s (refuseRdma q psn.toNat .remoteAccess r1))
          ∧ (reaches = true → rangeInReset s.hw a = true → AnswersWith i s (sendRdmaNak q psn.toNat .remoteOperational r1))
          ∧ (reaches = true → rangeInReset s.hw a = false → r1.good a length.toNat = false → AnswersWith i s
              (sendRdmaNak q psn.toNat .remoteOperational (uncorrectableAt (r1.firstBad a length.toNat) r1)))
          ∧ (reaches = true → rangeInReset s.hw a = false → r1.good a length.toNat = true → AnswersWith i s
              (sendRoce q 6 psn.toNat a (r1.read a length.toNat)
                (modQp qp.toNat (fun x => { x with rqPsn := (psn.toNat + pk length.toNat) % 2 ^ 24 }) r1))))
        ∧ (∀ r, s.hw.host.regions.find? (fun r => r.type == 3 && r.ringQp == qp.toNat) = some r →
          let entry := r.base + r.nextEntry * r.slotBytes
          let v := w data.length
          let valid := bit (v.num (entry + r.slotBytes - 16 + 8) 1) 0
          (r.slotBytes - 16 < data.length → AnswersWith (.rdmaSend qp psn data imm ce) s (sendRdmaNak q psn.toNat .invalidRequest v))
          ∧ (data.length ≤ r.slotBytes - 16 → valid = true → AnswersWith (.rdmaSend qp psn data imm ce) s (sendRdmaNak q psn.toNat .rnr v))
          ∧ (data.length ≤ r.slotBytes - 16 → valid = false → AnswersWith (.rdmaSend qp psn data imm ce) s
              (ackRequest q psn.toNat (pk data.length) (modRegion r.index (fun x => { x with nextEntry := (x.nextEntry + 1) % max 1 x.slots })
                ((v.write entry data).write (entry + r.slotBytes - 16)
                  (leBytes 4 data.length ++ leBytes 4 ((imm.map BitVec.toNat).getD 0) ++ leBytes 1 (1 + 2 * b2n imm.isSome) ++ zeros 7))))))
        ∧ (s.hw.host.regions.find? (fun r => r.type == 3 && r.ringQp == qp.toNat) = none →
          (isRackQp s.hw qp.toNat = true → AnswersWith (.rdmaSend qp psn data imm ce) s
            (takeRack qp.toNat ((imm.map BitVec.toNat).getD 0) data (ackRequest q psn.toNat (pk data.length) (w data.length))))
          ∧ (isRackQp s.hw qp.toNat = false → AnswersWith (.rdmaSend qp psn data imm ce) s
            (sendRdmaNak q psn.toNat .rnr (w data.length))))))
  ∧ (∀ (w : Work) (i : Nat) (q : Qp) (op psn address : Nat) (data : List Byte), findQp w.hw i = some q →
      (isPaused w.hw (q.code - 8) q.priority = true →
        sendRoce q op psn address data w = modQp q.index (fun x => { x with waiting := x.waiting ++ [(op, psn, address, data)] }) w)
      ∧ (isPaused w.hw (q.code - 8) q.priority = false → sendRoce q op psn address data w = sendReply q op psn address data w)
      ∧ notifyCongestion i false w = w
      ∧ (∀ t, q.cnpSentAt = some t → w.hw.time.now < t + w.hw.host.cong.cnp * 1000 → notifyCongestion i true w = w)
      ∧ ((∀ t, q.cnpSentAt = some t → t + w.hw.host.cong.cnp * 1000 ≤ w.hw.time.now) →
          notifyCongestion i true w = bump 5 (25 + (q.code - 8)) 1
            (sendRoce q 5 0 0 [] (modQp i (fun x => { x with cnpSentAt := some w.hw.time.now }) w)))))

/-- R321, R324 to R326, R329: an acknowledgement completes the requests up to its PSN in order; a sequence or RNR NAK, and an expired timeout, send
the oldest requests again while a retry is left, and put the queue pair into `ERROR` where none is; a fatal NAK does so at once. A CNP lowers the
rate, and each T_ALPHA and T_INC without one lowers alpha and raises the rate (fixed point: log 25). What does not suit the state of the queue
pair is counted at most, and a timer that has not expired does nothing. Requests of a paused priority wait, and the others are sent.
Where the rules leave a corner open, the clauses state the model's choice (log 24 and 40). -/
def Obligations.QueuePairs : Prop :=
  (∀ (s : State) (qp : BitVec 12) (psn : BitVec 24) (nak : Option NakKind) (ce : Bool), findQp s.hw qp.toNat = none →
    ∀ i ∈ [Instr.rdmaAck qp psn nak ce, .qpAckTimeout qp, .qpRetryExhausted qp, .cnp qp, .tAlpha qp, .tInc qp], AnswersWith i s (beginWork s))
  ∧ (∀ (s : State) (qp : BitVec 12) (psn : BitVec 24) (nak : Option NakKind) (ce : Bool) (q : Qp), findQp s.hw qp.toNat = some q →
    let i := qp.toNat
    let c := s.hw.host.cong
    let w := beginWork s
    let acked := countReceived q 1 (wireBytes 1 0) w
    let heard := bump 5 (33 + (q.code - 8)) 1 (countReceived q 1 0 w)
    (cupolaLive s.hw = false → AnswersWith (.rdmaAck qp psn nak ce) s w ∧ AnswersWith (.cnp qp) s w)
    ∧ (cupolaLive s.hw = true → q.state ≠ 1 → AnswersWith (.rdmaAck qp psn nak ce) s acked ∧ AnswersWith (.cnp qp) s heard)
    ∧ (q.state ≠ 1 → ∀ i ∈ [Instr.qpAckTimeout qp, .qpRetryExhausted qp, .tAlpha qp, .tInc qp], AnswersWith i s w)
    ∧ (cupolaLive s.hw = true → q.state = 1 →
      let counted := notifyCongestion i ce acked
      let before := ackUpTo i ((psn.toNat + 2 ^ 24 - 1) % 2 ^ 24) q.outstanding.length counted
      AnswersWith (.rdmaAck qp psn none ce) s (ackUpTo i psn.toNat q.outstanding.length counted)
      ∧ (∀ kind, oldestWork before.hw i = none → AnswersWith (.rdmaAck qp psn (some kind) ce) s before)
      ∧ (∀ p r, oldestWork before.hw i = some (p, r) →
          (r.retries < p.retry → AnswersWith (.rdmaAck qp psn (some .sequence) ce) s (resendWork i false before))
          ∧ (p.retry ≤ r.retries → AnswersWith (.rdmaAck qp psn (some .sequence) ce) s (qpFailed i 1 before))
          ∧ (r.rnrs < p.rnr → AnswersWith (.rdmaAck qp psn (some .rnr) ce) s (resendWork i true before))
          ∧ (p.rnr ≤ r.rnrs → AnswersWith (.rdmaAck qp psn (some .rnr) ce) s (qpFailed i 1 before))
          ∧ ∀ kind ∈ [NakKind.invalidRequest, .remoteAccess, .remoteOperational],
              AnswersWith (.rdmaAck qp psn (some kind) ce) s (qpFailed i 2 before))
      ∧ AnswersWith (.cnp qp) s (modQp i (fun x => { x with
          target := x.rate
          rate := max (c.rMin * 1000000) (x.rate - x.rate * x.alpha / 2 ^ 33)
          alpha := x.alpha - x.alpha / 2 ^ c.gShift + 2 ^ 32 / 2 ^ c.gShift
          stage := 0
          cnpAt := s.hw.time.now }) heard))
    ∧ (q.state = 1 →
      let alphaAt := max q.cnpAt q.alphaAt + c.tAlpha * 1000
      let incAt := max q.cnpAt q.incAt + c.tInc * 1000
      let target := if 5 < q.stage + 1 then min (lineRate s.hw (q.code - 8)) (q.target + c.rAi * 1000000) else q.target
      ((q.outstanding = [] ∨ ∃ r rest, q.outstanding = r :: rest ∧ r.sent = false) →
        AnswersWith (.qpAckTimeout qp) s w ∧ AnswersWith (.qpRetryExhausted qp) s w)
      ∧ (∀ r rest, q.outstanding = r :: rest → r.sent = true →
        let end_ := r.sentAt + 4096 * 2 ^ q.ackT
        (horizon s.hw < end_ → AnswersWith (.qpAckTimeout qp) s w ∧ AnswersWith (.qpRetryExhausted qp) s w)
        ∧ (end_ ≤ horizon s.hw → r.retries < q.retry →
            AnswersWith (.qpAckTimeout qp) s (resendWork i false (advance w end_)) ∧ AnswersWith (.qpRetryExhausted qp) s w)
        ∧ (end_ ≤ horizon s.hw → q.retry ≤ r.retries →
            AnswersWith (.qpRetryExhausted qp) s (qpFailed i 1 (advance w end_)) ∧ AnswersWith (.qpAckTimeout qp) s w))
      ∧ (alphaAt ≤ horizon s.hw → AnswersWith (.tAlpha qp) s (modQp i (fun x => { x with
          alpha := x.alpha - x.alpha / 2 ^ c.gShift
          alphaAt := max s.hw.time.now alphaAt }) (advance w alphaAt)))
      ∧ (horizon s.hw < alphaAt → AnswersWith (.tAlpha qp) s w)
      ∧ (incAt ≤ horizon s.hw → AnswersWith (.tInc qp) s (modQp i (fun x => { x with
          stage := x.stage + 1
          target := target
          rate := (x.rate + target) / 2
          incAt := max s.hw.time.now incAt }) (advance w incAt)))
      ∧ (horizon s.hw < incAt → AnswersWith (.tInc qp) s w)))
  ∧ (∀ (w : Work) (i psn n : Nat) (q : Qp), findQp w.hw i = some q →
      (∀ r rest, q.outstanding = r :: rest → r.sent = true → psnUpTo psn r.lastPsn = true →
        ackUpTo i psn (n + 1) w = ackUpTo i psn n (finishWork r (modQp i (fun x => { x with outstanding := rest }) w)))
      ∧ (∀ r rest, q.outstanding = r :: rest → (r.sent = false ∨ psnUpTo psn r.lastPsn = false) → ackUpTo i psn n w = w)
      ∧ ((q.state ≠ 1 ∨ isPaused w.hw (q.code - 8) q.priority = true ∨ isSafe w.hw = true) → pushQp i w = w)
      ∧ (q.state = 1 → isPaused w.hw (q.code - 8) q.priority = false → isSafe w.hw = false →
          pushQp i w = forEach (q.outstanding.filter (fun r => !r.sent || r.again)) (sendWork q)
            (forEach q.waiting (fun a v => sendReply q a.1 a.2.1 a.2.2.1 a.2.2.2 v) (modQp i (fun x => { x with
              waiting := []
              outstanding := x.outstanding.map (fun r =>
                if !r.sent || r.again then { r with sent := true, again := false, sentAt := w.hw.time.now } else r) }) w)))
      ∧ (∀ r, r.stopped = true → sendWork q r w = w))

/-- R11, R316, R318, R326, R327, R355, R396, R433, R475: what frames do on a port or half that has link: a PFC frame pauses its enabled priorities
for their quanta; a PTP announce of an accepted domain enters the selection of the master, a sync or delay response of the master in use
measures, each sync being answered with a delay request, and every other PTP message is counted and discarded; an LLDP frame is kept and its
neighbour checked again where it changed; a request for the port's own address is answered, and another frame discarded; the module's LLDP
leaves every 30 s; and the link is lost and gained. Without link nothing arrives and nothing leaves.
R326: a buffer that holds more than 192 KiB sends XOFF once, and one below 96 KiB then sends XON; a frame of a paused priority waits.
Where the rules leave a corner open, the clauses state the model's choice (log 37, 72 and 73). -/
def Obligations.EthernetPorts : Prop :=
  (∀ (s : State) (half : Fin 8) (enables : Byte) (quanta : Vector (BitVec 16) 8) (chassis port : List Byte) (v6 : Bool) (address : W128)
     (msg : PtpMsg) (bad : BadFrame),
    let h := half.val
    let x := halfOf s.hw h
    let w := beginWork s
    ((halfExists s.hw h = false ∨ x.link ≠ 1 ∨ cupolaLive s.hw = false) →
      ∀ i ∈ [Instr.pfcPause half enables quanta, .ptp half msg, .lldp half chassis port, .arpRequest half v6 address, .ethFrameDiscard half bad,
        .lldpSend half], AnswersWith i s w)
    ∧ ((halfExists s.hw h = false ∨ x.link ≠ 1) → AnswersWith (.ethLinkDown half) s w)
    ∧ (halfExists s.hw h = true → x.link = 1 → AnswersWith (.ethLinkDown half) s (raise 18 7 h 0 0 (publishUnit (23 + h) 0 0
        (chooseMaster (modHalf h (fun y => { y with
          link := 0
          lldp := none
          masters := []
          ptpSync := none
          ptpDelay := none
          pausedUntil := []
          xoff := 0
          rxFill := []
          waiting := [] }) (halfQpsFail h 3 w))))))
    ∧ ((halfExists s.hw h = false ∨ x.link = 1 ∨ s.hw.keep.linked = false ∨ cupolaLive s.hw = false) → AnswersWith (.ethLinkUp half) s w)
    ∧ (halfExists s.hw h = true → x.link ≠ 1 → s.hw.keep.linked = true → cupolaLive s.hw = true → AnswersWith (.ethLinkUp half) s
        (publishUnit (23 + h) 1 0 (modKeep (fun k => { k with linkSince := tabSet 0 k.linkSince h s.hw.time.now })
          (saveTraining (72 + h / 2) (modHalf h (fun y => { y with link := 1, lldp := none }) w))))))
  ∧ (∀ (s : State) (half : Fin 8) (enables : Byte) (quanta : Vector (BitVec 16) 8) (chassis port : List Byte) (v6 : Bool) (address : W128),
    let h := half.val
    let x := halfOf s.hw h
    let w := beginWork s
    let arrived := bump 5 (8 + h) 1 w
    let own := if v6 then x.ipv6 else x.ipv4
    let until_ (k : Nat) : Nat := s.hw.time.now + ((quanta.toList.map BitVec.toNat)[k]?).getD 0 * 512 * 1000000000 / lineRate s.hw h
    halfExists s.hw h = true → x.link = 1 → cupolaLive s.hw = true →
      AnswersWith (.pfcPause half enables quanta) s (forEach ((List.range 8).filter (fun k => bit enables.toNat k && bit (pfcOf s.hw h) k)) (fun k v =>
        modHalf h (fun y => { y with pausedUntil := tabSet 0 y.pausedUntil k (until_ k) }) v) arrived)
      ∧ (x.lldp = some (chassis, port) → AnswersWith (.lldp half chassis port) s
          (modHalf h (fun y => { y with lldp := some (chassis, port) }) arrived))
      ∧ (x.lldp ≠ some (chassis, port) → AnswersWith (.lldp half chassis port) s
          (recheckItem (8 + h) (modHalf h (fun y => { y with lldp := some (chassis, port) }) arrived)))
      ∧ (address.toNat = own → own ≠ 0 → AnswersWith (.arpRequest half v6 address) s
          (sendEther h 2 (leBytes 16 address.toNat ++ leBytes 6 (Config.macAddress s.hw.keep.serial h)) arrived))
      ∧ ((address.toNat ≠ own ∨ own = 0) → AnswersWith (.arpRequest half v6 address) s (bump 5 (16 + h) 1 arrived))
      ∧ AnswersWith (.ethFrameDiscard half .unhandled) s (bump 5 (16 + h) 1 arrived)
      ∧ AnswersWith (.ethFrameDiscard half .qp1) s (bump 5 4393 1 arrived)
      ∧ (∀ instant, (match x.lldpAt with | some t => t + 30000000000 | none => s.hw.time.now) = instant →
          (instant ≤ horizon s.hw → AnswersWith (.lldpSend half) s (sendEther h 1 (leBytes 8 s.hw.keep.serial)
            (modHalf h (fun y => { y with lldpAt := some (max s.hw.time.now instant) }) (advance w instant))))
          ∧ (horizon s.hw < instant → AnswersWith (.lldpSend half) s w)))
  ∧ (∀ (s : State) (half : Fin 8) (domain : Byte) (sender data origin receipt correction : BitVec 64),
    let h := half.val
    let x := halfOf s.hw h
    let arrived := bump 5 (8 + h) 1 (beginWork s)
    let measured : Int := (receipt.toNat : Int) - origin.toNat - correction.toInt
    let synced := sendEther h 4 (leBytes 8 s.hw.time.now) (modHalf h (fun y => { y with ptpSync := some measured }) arrived)
    let sync := Instr.ptp half (.sync domain sender origin receipt correction)
    let delay := Instr.ptp half (.delayResp domain sender origin receipt correction)
    let master := ptpAccepted s.hw h domain.toNat = true ∧ s.hw.host.ptpUsed = some (h, sender.toNat)
    halfExists s.hw h = true → x.link = 1 → cupolaLive s.hw = true →
      (ptpAccepted s.hw h domain.toNat = true → AnswersWith (.ptp half (.announce domain sender data)) s
        (chooseMaster (modHalf h (fun y => { y with
          masters := y.masters.filter (fun e => e.1 != sender.toNat) ++ [(sender.toNat, data.toNat)] }) arrived)))
      ∧ (ptpAccepted s.hw h domain.toNat = false → AnswersWith (.ptp half (.announce domain sender data)) s arrived)
      ∧ (¬master → AnswersWith sync s arrived ∧ AnswersWith delay s arrived)
      ∧ (master →
          (x.ptpDelay = none → AnswersWith sync s synced)
          ∧ (∀ d, x.ptpDelay = some d → AnswersWith sync s
              (takeOffset .ptp (d + tabGet 0 s.hw.host.ptpAsym h - measured) (gainSource .ptp synced)))
          ∧ (x.ptpSync = none → AnswersWith delay s arrived)
          ∧ (∀ v, x.ptpSync = some v → AnswersWith delay s (modHalf h (fun y => { y with ptpDelay := some ((v + measured) / 2) }) arrived)))
      ∧ (∀ msg ∈ [PtpMsg.management, .signalling, .peerDelay], AnswersWith (.ptp half msg) s (bump 5 4393 1 arrived)))
  ∧ (∀ (w : Work) (h k fill kind : Nat) (payload : List Byte),
    let priority := (ethPortOf w.hw (h / 2)).vlan / 2 ^ 12 % 8
    let off := bit (halfOf w.hw h).xoff k
    let kept (mask : Nat → Nat) : Work := modHalf h (fun x => { x with rxFill := tabSet 0 x.rxFill k fill, xoff := mask x.xoff }) w
    let pfc (quanta : Nat) : List Byte := leBytes 1 (2 ^ k) ++ leBytes 2 quanta
    (isPaused w.hw h priority = true →
      sendEther h kind payload w = modHalf h (fun x => { x with waiting := x.waiting ++ [(kind, payload)] }) w)
    ∧ (isPaused w.hw h priority = false →
      sendEther h kind payload w = bump 5 h 1 (emit (.ether h kind (tagOf w.hw h priority) payload) w))
    ∧ (off = false → 192 * 1024 < fill →
        judgeFill h k fill w = bump 5 h 1 (emit (.ether h 3 none (pfc 0xFFFF)) (kept (fun m => setBit m k true))))
    ∧ (off = true → fill < 96 * 1024 →
        judgeFill h k fill w = bump 5 h 1 (emit (.ether h 3 none (pfc 0)) (kept (fun m => setBit m k false))))
    ∧ (off = false → fill ≤ 192 * 1024 → judgeFill h k fill w = kept (fun m => setBit m k false))
    ∧ (off = true → 96 * 1024 ≤ fill → judgeFill h k fill w = kept (fun m => setBit m k true)))

/-- R345, R346, R377, R431, R434: a management frame for this module is placed and acknowledged, or answered with its data, where its range lies within
the areas of channel 16 or 17 and its length is legal, and refused otherwise; one for another module of the rack is relayed to it, and one of
more than 224 B, or for another rack, is discarded and counted; a relayed request is answered by the port it came on, but for channel 17, and a
relayed answer leaves by the management port, whose link is published. Beyond the port's share for VC1 a flit waits for the tick.
Where the rules leave a corner open, the clauses state the model's choice (log 38). -/
def Obligations.ManagementPort : Prop :=
  (∀ (s : State) (channel : Byte) (xseq length : BitVec 16) (target : BitVec 24) (address : BitVec 48) (data : List Byte),
    let a := address.toNat
    let n := length.toNat
    let w := beginWork s
    let own := endpointOf s.hw 0
    let word := target.toNat % 2 ^ 18
    let header (mop : Nat) := mgmtHeader mop channel.toNat xseq.toNat n target.toNat a
    let legal := inMgmtArea channel.toNat a n && 16 ≤ n && n ≤ 1024 && n % 16 == 0
    let held := s.hw.keep.phase = 2 ∨ s.hw.keep.phase = 9
    let open_ (mop : Nat) : Prop := held → (channel = 17 ∧ within a n (requestAddr 17 0) 0x80000 = true)
      ∨ (channel ≠ 17 ∧ mop = 1 ∧ within a n (loadArea 16) 0x10000000 = true)
    let mine := bit target.toNat 18 = false ∨ word = own
    let write := Instr.mgmtWrite channel xseq length target address data
    let read := Instr.mgmtRead channel xseq length target address
    let relayed (bytes : List Byte) : Work := routeFlit (freeOf w % 6) ⟨1, 9, true, true, word, own, bytes, none⟩ (freeUsed w)
    (s.hw.keep.lpUp = false → AnswersWith write s w ∧ AnswersWith read s w)
    ∧ (s.hw.keep.lpUp = true → mine →
      (legal = true → open_ 1 → data.length = n → AnswersWith write s (emit (.mgmt 2 (patch (header 1) 0 [2])) (w.write a data)))
      ∧ ((legal = false ∨ ¬open_ 1 ∨ data.length ≠ n) → AnswersWith write s (emit (.mgmt 5 (patch (header 1) 0 [5])) w))
      ∧ (legal = true → open_ 3 → w.good a n = true → AnswersWith read s (emit (.mgmt 4 (patch (header 3) 0 [4] ++ w.read a n)) w))
      ∧ ((legal = false ∨ ¬open_ 3 ∨ w.good a n = false) → AnswersWith read s (emit (.mgmt 5 (patch (header 3) 0 [5])) w)))
    ∧ (s.hw.keep.lpUp = true → ¬mine →
      ((224 < data.length ∨ word / 256 ≠ own / 256) → AnswersWith write s (bump 5 4393 1 w))
      ∧ (data.length ≤ 224 → word / 256 = own / 256 → AnswersWith write s (relayed (header 1 ++ data)))
      ∧ (word / 256 ≠ own / 256 → AnswersWith read s (bump 5 4393 1 w))
      ∧ (word / 256 = own / 256 → AnswersWith read s (relayed (header 3)))))
  ∧ (∀ (s : State) (rx : Rx) (b : List Byte), InOrder s.hw rx 1 →
    let p := rx.port.val
    let w := beginWork s
    let room := (portOf s.hw p).lowIn < lowLimit s.hw p 1
    let taken := modPort p (fun q => { q with lowIn := q.lowIn + 1 }) (flitTaken rx 1 w)
    let answer := mgmtAnswer (slice b 0 16) (b.drop 16) true taken
    let request := field b 0 1 ∉ [2, 4, 5]
    (¬room → AnswersWith (.mgmt rx b) s (modPort p (fun q => { q with lowHeld := q.lowHeld ++ [(1, rx, b)] }) (flitStored rx 1 w)))
    ∧ (room → ¬request → AnswersWith (.mgmt rx b) s (emit (.mgmt (field b 0 1) b) taken))
    ∧ (room → request → s.hw.keep.lpUp = false → AnswersWith (.mgmt rx b) s taken)
    ∧ (room → request → s.hw.keep.lpUp = true → answer.1.length ≤ 240 → AnswersWith (.mgmt rx b) s
        (enqueue p ⟨1, 9, true, true, rx.src.toNat, endpointOf s.hw 0, answer.1, none⟩ answer.2))
    ∧ (room → request → s.hw.keep.lpUp = true → 240 < answer.1.length → AnswersWith (.mgmt rx b) s (bump 5 4393 1 answer.2))
    ∧ (field b 1 1 = 17 → answer = (patch (slice b 0 16) 0 [5], taken)))
  ∧ (∀ s : State, (s.hw.power.aon = true → AnswersWith .mgmtPortDown s (publishUnit 31 0 0 (beginWork s))
        ∧ AnswersWith .mgmtPortUp s (publishUnit 31 1 0 (beginWork s)))
      ∧ (s.hw.power.aon = false → AnswersWith .mgmtPortDown s (beginWork s) ∧ AnswersWith .mgmtPortUp s (beginWork s)))


/-! ## The Belfry ring (R413 to R430) -/

/-- R413 to R417, R419, R420, R425, R427, R430, R562: an open member removes its own frame, consumes one addressed to it alone, and forwards every
other with one more hop and a new CRC, having acted on a broadcast; one whose CRC fails is counted and still forwarded, and one of an unknown
type or with a reserved bit set is counted. A frame of seat 0 ends masterless operation; a `LEASE` sets the holding, `SEAT_ASSIGN` the seat,
`COOLANT` the readings, `HEARTBEAT` ends the orphan cap, `WAKE` wakes, and an `ALERT` is counted and traced.
Where the rules leave a corner open, the clauses state the model's choice (log 37 and 48). -/
def Obligations.BelfryFrames : Prop :=
  (∀ (s : State) (f : BFrame) (type : Byte) (crcOk : Bool) (i : Instr) (t : Nat) (ok : Bool),
    (i, t, ok) ∈ [(Instr.heartbeat f, 1, true), (.lease f, 3, true), (.seatAssign f, 4, true), (.coolant f, 5, true), (.alert f, 6, true),
      (.wake f, 7, true), (.belfryFrameForward type f crcOk, type.toNat, crcOk)] →
    let w := beginWork s
    let b := f.payload.toList
    let own := s.hw.lantern.seat = some (f.src.toNat % 8)
    let wide := bit f.dst.toNat 3 = true
    let mine := s.hw.lantern.seat = some (f.dst.toNat % 8) ∧ ¬wide
    let valid := f.src.toNat < 8 ∧ f.dst.toNat < 16 ∧ payloadOk t b = true
    let heard := if f.src.toNat = 0 then heardMaster w else w
    let onward (x : Work) : Work := emit (.belfry (belfryBytes t f.src.toNat f.dst.toNat ((f.hops.toNat + 1) % 256) b)) x
    ((s.hw.lantern.bypassOpen = false ∨ s.hw.power.aon = false ∨ own) → AnswersWith i s w)
    ∧ (s.hw.lantern.bypassOpen = true → s.hw.power.aon = true → ¬own →
      (ok = false → AnswersWith i s (onward (bump 6 0 1 w)))
      ∧ (ok = true → ¬valid → ¬mine → AnswersWith i s (onward (bump 6 1 1 w)))
      ∧ (ok = true → ¬valid → mine → AnswersWith i s (bump 6 1 1 w))
      ∧ (ok = true → valid → mine → AnswersWith i s (consumeFrame t f heard))
      ∧ (ok = true → valid → wide → AnswersWith i s (onward (consumeFrame t f heard)))
      ∧ (ok = true → valid → ¬mine → ¬wide → AnswersWith i s (onward heard))))
  ∧ (∀ (f : BFrame) (x : Work),
    let b := f.payload.toList
    let v := field b 8 1
    let kept (y : Work) : Work := modConserve (fun c => { c with
      leaseSum := some (((List.range 7).map (fun i => leaseOf b (i + 1))).foldl (· + ·) 0)
      newEpoch := c.newEpoch || c.epochDue
      epochDue := false }) y
    (f.src.toNat ≠ 0 → ∀ t ∈ [1, 3, 4, 5, 7], consumeFrame t f x = x)
    ∧ consumeFrame 2 f x = x
    ∧ consumeFrame 6 f x
        = traceModule 0x13 0xFFFF (leBytes 1 f.src.toNat ++ slice b 0 1 ++ zeros 6 ++ slice b 2 8) (bump 6 2 1 x)
    ∧ (f.src.toNat = 0 →
      (field b 0 1 ≠ 1 → x.hw.lantern.orphan = false →
        consumeFrame 1 f x = modLantern (fun l => { l with beatAt := some x.hw.time.now, orphan := false }) x)
      ∧ (field b 0 1 ≠ 1 → x.hw.lantern.orphan = true →
        consumeFrame 1 f x = logPower 19 10 0 0 (modLantern (fun l => { l with beatAt := some x.hw.time.now, orphan := false }) x))
      ∧ (field b 0 1 = 1 → (consumeFrame 1 f x).hw.conserve.trayTokens = field b 8 2
          ∧ (consumeFrame 1 f x).hw.lantern.masterEpoch = some (field b 4 4) ∧ (consumeFrame 1 f x).hw.lantern.orphan = false)
      ∧ (x.hw.lantern.seat = none → consumeFrame 3 f x = kept x)
      ∧ (∀ seat, x.hw.lantern.seat = some seat →
          let low := x.hw.lantern.held - x.hw.lantern.offer
          let fell := if x.hw.conserve.epochDue then 0 else low - leaseOf b seat
          let rose := leaseOf b seat - (low + x.hw.lantern.claim)
          consumeFrame 3 f x = bump 6 3 (fell + rose) (modConserve (fun c => { c with unexplained := c.unexplained + fell })
            (modLantern (fun l => { l with held := bits (leNat b) (12 * seat + 11) (12 * seat) }) (kept x))))
      ∧ (∀ n, field b (f.hops.toNat + 1) 1 = n →
          (f.hops.toNat ≤ 6 → 1 ≤ n → n ≤ 7 → (consumeFrame 4 f x).hw.lantern.seat = some n)
          ∧ ((6 < f.hops.toNat ∨ n = 0 ∨ 7 < n) → (consumeFrame 4 f x).hw.lantern.seat = none)
          ∧ (consumeFrame 4 f x).hw.lantern.masterEpoch = some (field b 8 4)
          ∧ ((consumeFrame 4 f x).hw.lantern.seat ≠ x.hw.lantern.seat → x.hw.lantern.seat ≠ none →
              (consumeFrame 4 f x).hw.lantern.seatChanges = x.hw.lantern.seatChanges + 1))
      ∧ consumeFrame 5 f x = modLantern (fun l => { l with
          inlet := if bit v 0 then toSigned 16 (field b 2 2) else l.inlet
          outlet := if bit v 1 then toSigned 16 (field b 4 2) else l.outlet
          flow := if bit v 2 then field b 6 2 else l.flow
          coolantMiss := if bit v 0 then 0 else l.coolantMiss
          coolantAssumed := l.coolantAssumed && !bit v 0
          lowFlowRun := if bit v 2 then (if field b 6 2 < 500 then l.lowFlowRun + 1 else 0) else l.lowFlowRun
          coolant := (x.hw.time.now, if bit v 0 then some (toSigned 16 (field b 2 2)) else none,
            if bit v 2 then some (field b 6 2) else none) :: recentCoolant x.hw }) x
      ∧ (field b 0 1 ≠ 1 → consumeFrame 7 f x = x)
      ∧ (field b 0 1 = 1 →
          let tooHot := x.hw.power.haltedWake = true ∧ (flowBelow x.hw 2000 = true ∨ inletAbove x.hw 4500 = true)
          (x.hw.lantern.powerState < 3 → consumeFrame 7 f x = logPower 18 6 0 4 x)
          ∧ (x.hw.lantern.powerState = 3 → tooHot → consumeFrame 7 f x = logPower 18 6 0 4 x)
          ∧ (x.hw.lantern.powerState = 3 → ¬tooHot →
              consumeFrame 7 f x = modPower (fun p => { p with waking := true }) (logPower 18 6 0 0 x))
          ∧ (3 < x.hw.lantern.powerState → consumeFrame 7 f x
              = modLantern (fun l => { l with powerState := 2, lowest := l.lowest.filter (fun c => c != 4) }) (logPower 18 6 0 0 x)))))

/-- R35, R36, R415, R418, R419, R427, R429: a tick marker is forwarded and its offset, 120 ns a hop, steers the time base while the marker is its source;
three tick periods without one lose that source, a cross-check that fails at three ticks is a mismatch, 50 ms without a frame of seat 0 begin
masterless operation, 30 s without its `HEARTBEAT` begin the orphan cap, three ticks without an inlet reading assume the coolant, and the
module's own `HEARTBEAT` leaves 10 ms after the last. What is not due, or has happened, changes nothing.
Where the rules leave a corner open, the clauses state the model's choice (log 37 and 48). -/
def Obligations.BelfryTimers : Prop :=
  ∀ (s : State) (count : BitVec 16) (hops : Byte),
    let w := beginWork s
    let t := s.hw.time
    let l := s.hw.lantern
    let ref := t.now - 120 * hops.toNat
    let ahead : Int := toSigned 16 ((count.toNat + 2 ^ 16 - t.tick % 2 ^ 16) % 2 ^ 16)
    let off : Int := (ref : Int) - ((t.tickAt : Int) + ahead * (period s.hw : Int))
    let beatAt := match l.sentBeatAt with
      | some u => u + 10000000
      | none => 0
    let orphanAt := l.beatAt.getD l.aloneSince + 30000000000
    (l.bypassOpen = true → s.hw.power.aon = true → AnswersWith (.tickMarker count hops) s
      (emit (.marker count.toNat ((hops.toNat + 1) % 256)) (takeOffset .marker (-off) (gainSource .marker
        (modLantern (fun x => { x with marker := some (ref, count.toNat), markerOffset := off }) w)))))
    ∧ ((l.bypassOpen = false ∨ s.hw.power.aon = false) → AnswersWith (.tickMarker count hops) s w)
    ∧ (∀ u c, l.marker = some (u, c) → u + 3 * period s.hw ≤ horizon s.hw → AnswersWith .markerLost s
        (loseSource .marker (modLantern (fun x => { x with marker := none }) (advance w (u + 3 * period s.hw)))))
    ∧ ((∀ u c, l.marker = some (u, c) → horizon s.hw < u + 3 * period s.hw) → AnswersWith .markerLost s w)
    ∧ (3 ≤ t.mismatchRun → t.mismatch = false → AnswersWith .markerMismatch s (raise 19 0 0 0 0 (modTime (fun x => { x with mismatch := true }) w)))
    ∧ ((t.mismatchRun < 3 ∨ t.mismatch = true) → AnswersWith .markerMismatch s w)
    ∧ (∀ u, l.heardAt = some u → l.masterless = false → u + 50000000 ≤ horizon s.hw → AnswersWith .masterless s
        (logPower 19 7 0 0 (bump 6 5 1 (modLantern (fun x => { x with masterless := true }) (advance w (u + 50000000))))))
    ∧ ((l.masterless = true ∨ ∀ u, l.heardAt = some u → horizon s.hw < u + 50000000) → AnswersWith .masterless s w)
    ∧ (l.up = true → l.orphan = false → orphanAt ≤ horizon s.hw → AnswersWith .orphan s
        (logPower 19 9 0 0 (bump 6 6 1 (modLantern (fun x => { x with orphan := true }) (advance w orphanAt)))))
    ∧ ((l.up = false ∨ l.orphan = true ∨ horizon s.hw < orphanAt) → AnswersWith .orphan s w)
    ∧ (l.up = true → 3 ≤ l.coolantMiss → AnswersWith .coolantAssumed s (modLantern (fun x => { x with coolantAssumed := true }) w))
    ∧ ((l.up = false ∨ l.coolantMiss < 3) → AnswersWith .coolantAssumed s w)
    ∧ (l.up = true → l.bypassOpen = true → s.hw.power.aon = true → ∀ seat, l.seat = some seat → beatAt ≤ horizon s.hw →
        let at_ := advance w beatAt
        AnswersWith .heartbeatSend s (emit (.belfry (belfryBytes 1 seat 8 0 (heartbeatPayload at_.hw)))
          (modLantern (fun x => { x with sentBeatAt := some (max t.now beatAt) }) at_)))
    ∧ ((l.up = false ∨ l.bypassOpen = false ∨ l.seat = none ∨ horizon s.hw < beatAt) → AnswersWith .heartbeatSend s w)


/-! ## Supply, power and temperature (R400 to R464, R576 to R583) -/

/-- R209, R443, R444, R446, R587: below 47 V a warning forces LOWEST, raises source 21 and starts the warning flush, and a dip too short is only counted;
5 ms above 48 V end the warning, at once or with its flush. Below 43 V, and above 59.5 V, the module resets by the supply, keeping its journal
where it is kept; below 36 V the AON domain is lost; above the absolute maximum of 60 V the spec states nothing and the model stops with a
fault. A sample that meets no bound, and one without Lantern, changes nothing.
Where the rules leave a corner open, the clauses state the model's choice (log 50). -/
def Obligations.SupplyEvents : Prop :=
  ∀ (s : State) (volts : BitVec 16) (holdup : Bool),
    let v := volts.toNat
    let w := beginWork s
    let p := s.hw.power
    let sampled := sample 6 0 v (modPower (fun q => { q with inputV := v }) w)
    let warned := sendAlert 1 (raise 21 0 0 0 0 (forceLowest 2 (modPower (fun q => { q with
      warning := true
      warningSeen := true
      warnClear := false
      warnAt := some (q.warnAt.getD s.hw.time.now) }) (bump 7 0 1 sampled))))
    let cleared_ := modPower (fun q => { q with warnClear := true }) sampled
    let resets (fate : JournalFate) (x : Work) : Work := modPower (fun q => { q with pwrGood := false, resetDue := true }) (moduleReset fate true x)
    (lanternRuns s.hw = true → v < 4700 →
        (pagerLive warned.hw = true → warningFlush warned.hw = false →
          AnswersWith (.supplyWarning volts) s (startFlush .warning none none warned))
        ∧ ((pagerLive warned.hw = false ∨ warningFlush warned.hw = true) → AnswersWith (.supplyWarning volts) s warned)
        ∧ AnswersWith (.supplyGlitch volts) s (bump 7 1 1 (modPower (fun q => { q with warnClear := false }) sampled)))
    ∧ ((lanternRuns s.hw = false ∨ 4700 ≤ v) → AnswersWith (.supplyWarning volts) s w ∧ AnswersWith (.supplyGlitch volts) s w)
    ∧ (p.aon = true → p.retained = false →
        (v < 4300 → AnswersWith (.supplyReset volts false) s (resets .lost sampled)
          ∧ AnswersWith (.supplyReset volts true) s (resets .lost (drainAll sampled)))
        ∧ (5950 < v → v ≤ 6000 → AnswersWith (.overVoltageReset volts) s (resets .kept sampled)))
    ∧ ((p.aon = false ∨ p.retained = true ∨ 4300 ≤ v) → AnswersWith (.supplyReset volts holdup) s w)
    ∧ (v ≤ 6000 → (p.aon = false ∨ p.retained = true ∨ v ≤ 5950) → AnswersWith (.overVoltageReset volts) s w)
    ∧ (6000 < v → exec (.overVoltageReset volts) s = .fault .beyondRatings)
    ∧ (p.aon = true → 4800 < v →
        (p.warning = false → AnswersWith (.supplyRecovery volts) s sampled)
        ∧ (p.warning = true → warningFlush s.hw = true → AnswersWith (.supplyRecovery volts) s cleared_)
        ∧ (p.warning = true → warningFlush s.hw = false →
            let ended := endLowest 2 (modPower (fun q => { q with warning := false, warnClear := false }) cleared_)
            (p.warnAt = none → AnswersWith (.supplyRecovery volts) s ended)
            ∧ (∀ t, p.warnAt = some t → AnswersWith (.supplyRecovery volts) s (resumeFrom t ended))))
    ∧ ((p.aon = false ∨ v ≤ 4800) → AnswersWith (.supplyRecovery volts) s w)
    ∧ (p.aon = true → AnswersWith .aonPowerLoss s (modPower (fun q => { q with pwrGood := false }) (powerLoss .lost w)))
    ∧ (p.aon = false → AnswersWith .aonPowerLoss s w)

/-- R59, R441, R447, R448: VR_ALERT_N forces LOWEST, is counted and announced, and raises source 22 after 10 s; its end ends that cause. A droop is
counted where the detector's last one ended at least 1 us before and none is in progress; it ends before 200 ns, or at 200 ns raises source 23,
and its lengthening joins `STRETCH_TIME`: at a rate that is a free value of at most 12 %.
Where the rules leave a corner open, the clauses state the model's choice (log 49 and 77). -/
def Obligations.RegulatorAndDroop : Prop :=
  ∀ (s : State) (spire : Fin 4) (detector : Fin 8) (own : Bool) (lasted : Byte),
    let w := beginWork s
    let p := s.hw.power
    let k := spire.val
    let sp := spirePower s.hw k
    let ended (since n : Nat) (long : Bool) : Work :=
      modSpire k (fun q => { q with
        stretch := q.stretch + droopGrowth q.droopRate n
        droopSince := none
        droopEnded := tabSet 0 q.droopEnded q.droopBy (since + n)
        droopLong := long }) (advance w (since + n))
    let early := ∃ e, sp.droopEnded.find? (fun e => e.1 == detector.val) = some e ∧ s.hw.time.now < e.2 + 1000
    (lanternRuns s.hw = true →
      (p.vrAlert = true → AnswersWith (.vrAlertN own) s (modPower (fun q => { q with vrOwn := own }) w))
      ∧ (p.vrAlert = false → AnswersWith (.vrAlertN own) s (bump 7 2 1 (sendAlert 2 (forceLowest 1 (modPower (fun q => { q with
          vrAlert := true
          vrOwn := own
          vrSince := some s.hw.time.now
          vrReported := false }) w)))))
      ∧ (∀ t, p.vrSince = some t → p.vrReported = false → t + 10000000000 ≤ horizon s.hw → AnswersWith .regulatorAlert s
          (raise 22 0 0 0 0 (modPower (fun q => { q with vrReported := true }) (advance w (t + 10000000000))))))
    ∧ (lanternRuns s.hw = false → AnswersWith (.vrAlertN own) s w)
    ∧ ((lanternRuns s.hw = false ∨ p.vrReported = true ∨ ∀ t, p.vrSince = some t → horizon s.hw < t + 10000000000) →
        AnswersWith .regulatorAlert s w)
    ∧ AnswersWith .vrAlertEnd s (endLowest 1 (modPower (fun q => { q with
        vrAlert := false
        vrOwn := false
        vrSince := none
        vrReported := false }) w))
    ∧ (p.spireOn.contains k = true → sp.droopSince = none → ¬early →
        AnswersWith (.droop spire detector) s (bump 7 (3 + k) 1 (modSpire k (fun q => { q with
          droopSince := some s.hw.time.now
          droopBy := detector.val
          droopLong := false
          droopRate := freeOf w % 12001 }) (freeUsed w))))
    ∧ ((p.spireOn.contains k = false ∨ sp.droopSince ≠ none ∨ early) → AnswersWith (.droop spire detector) s w)
    ∧ (∀ t, sp.droopSince = some t →
        (lasted.toNat < 200 → t + lasted.toNat ≤ horizon s.hw → AnswersWith (.droopEnd spire lasted) s (ended t lasted.toNat false))
        ∧ ((200 ≤ lasted.toNat ∨ horizon s.hw < t + lasted.toNat) → AnswersWith (.droopEnd spire lasted) s w)
        ∧ (t + 200 ≤ horizon s.hw → AnswersWith (.droopLong spire) s (raise 23 2 k 0 0 (bump 7 (7 + k) 1 (ended t 200 true))))
        ∧ (horizon s.hw < t + 200 → AnswersWith (.droopLong spire) s w))
    ∧ (sp.droopSince = none → AnswersWith (.droopEnd spire lasted) s w ∧ AnswersWith (.droopLong spire) s w)
    ∧ (∀ rate n, rate ≤ 12000 → 112 * droopGrowth rate n ≤ 12 * n)

/-- R449 to R454, R461, R462, R576, R584: a sample resolves each sensor pair and applies lower thermal rates at once; a pair changes status at once, and
back only after 1 s; an emergency is raised and forces LOWEST; the trip of a hot spot that is not in pair status 3 latches and removes the Spires,
and on Cupola its domain too (after a counted deassertion tier 2 is then retained), until PWR_EN has been deasserted for 100 ms; a margin review
notes the slack of each Spire and the stale parts. Outside these conditions nothing changes.
Where the rules leave a corner open, the clauses state the model's choice (log 50). -/
def Obligations.TemperaturesAndMargins : Prop :=
  ∀ (s : State) (samples : List SpotSample) (spot : Fin 128) (spire : Fin 4) (slack : Vector (BitVec 16) 4) (margins : W64),
    let w := beginWork s
    let p := s.hw.power
    let x := spotOf s.hw spot.val
    let k := spire.val
    let sp := spirePower s.hw k
    let cupola := 120 ≤ spot.val
    let latched := sendAlert 4 (raise 26 9 spot.val 0 0 (modPower (fun q => { q with tripLatch := true, tripAt := some s.hw.time.now }) w))
    let mayTrip := p.aon = true ∧ p.retained = false ∧ x.status ≠ 3 ∧ (p.tripLatch = false ∨ (cupola ∧ p.tripCupola = false))
    let opens := max p.pwrEnAt (p.tripAt.getD 0) + 100000000
    let hours := poweredHours s.hw
    let atHot := match sp.hotSince with
      | some t => if t + 10000000 ≤ horizon s.hw then advance w (t + 10000000) else w
      | none => w
    let hot := lanternRuns s.hw = true ∧ sp.emergency = false ∧ emergencyDue atHot.hw k = true
    let reviews := isReady s.hw = true ∧ s.hw.lantern.powerState < 3 ∧ p.nextReview ≤ hours
    (lanternRuns s.hw = true → AnswersWith (.thermalSample samples) s (endEmergency (forEach [0, 1, 2, 3] (fun i v => applyThermal i (thermalRate i v))
        (forEach samples (fun y v => samplePair y.spot.val y.a.toInt y.b.toInt v) w))))
    ∧ (lanternRuns s.hw = false → AnswersWith (.thermalSample samples) s w)
    ∧ (x.latest = x.status → AnswersWith (.sensorPair spot) s w)
    ∧ (x.latest ≠ x.status → x.latest ≠ 0 → AnswersWith (.sensorPair spot) s (raise 24 9 spot.val 0 x.latest
        (forEach (if spot.val < 120 then [spot.val / 30] else [0, 1, 2, 3]) (fun i v => bump 7 (15 + i) 1 v) (modSpot spot.val (fun q => { q with
          status := x.latest
          changedAt := some s.hw.time.now
          absentSince := none }) w))))
    ∧ (∀ t, x.latest = 0 → x.status ≠ 0 → x.absentSince = some t → t + 1000000000 ≤ s.hw.time.now → AnswersWith (.sensorPair spot) s
        (modSpot spot.val (fun q => { q with status := 0, changedAt := some s.hw.time.now }) w))
    ∧ (x.latest = 0 → x.status ≠ 0 → (∀ t, x.absentSince = some t → s.hw.time.now < t + 1000000000) → AnswersWith (.sensorPair spot) s w)
    ∧ (hot → AnswersWith (.thermalEmergency spire) s
        (raise 25 2 k 0 0 (bump 7 19 1 (forceLowest 3 (modSpire k (fun q => { q with emergency := true }) atHot)))))
    ∧ (¬hot → AnswersWith (.thermalEmergency spire) s w)
    ∧ (mayTrip → ¬cupola → AnswersWith (.thermalTrip spot) s (tripSpires latched))
    ∧ (mayTrip → cupola →
        let fallen := publishBelfry (publishModule (modPower (fun q => { q with tripCupola := true })
          (modLight (fun l => { l with resets := l.resets + 1 }) ((clearTiers .kept latched).up fun h => afterReset h .kept true true))))
        AnswersWith (.thermalTrip spot) s (if p.moves.contains .cut then retainTier2 fallen else fallen))
    ∧ (¬mayTrip → AnswersWith (.thermalTrip spot) s w)
    ∧ (p.tripLatch = true → p.pwrEn = false → opens ≤ horizon s.hw → AnswersWith .thermalTripRelease s
        (modPower (fun q => { q with tripLatch := false, tripAt := none }) (advance w opens)))
    ∧ ((p.tripLatch = false ∨ p.pwrEn = true ∨ horizon s.hw < opens) → AnswersWith .thermalTripRelease s w)
    ∧ (reviews → AnswersWith (.marginReview slack margins) s
        (modPower (fun q => { q with
          nextReview := q.nextReview + 720
          stale := (List.range 46).foldl (fun n i =>
            if bit q.stale i || bit margins.toNat i || ((agedParts s.hw).map staleBit).contains i then n + 2 ^ i else n) 0 })
          (forEach (numbered 0 (slack.toList.map (fun v => v.toNat))) (fun y v => reviewSpire hours y.1 y.2 v) w)))
    ∧ (¬reviews → AnswersWith (.marginReview slack margins) s w)

/-- R401, R407, R408, R416, R426, R442, R457, R458, R576, R582, R583: an assertion of PWR_EN counts, the supervisor powers AON, and Lantern becomes ready
and opens the bypass; a deassertion removes power by one of the two rows of R583; low flow or a hot inlet for 1 s begins an orderly halt, a sudden
coolant loss the emergency flush; the domains go 100 ms after the flush, and a return from STANDBY powers the Spires or fails. Outside these
conditions nothing changes.
Where the rules leave a corner open, the clauses state the model's choice (log 46 and 50). -/
def Obligations.PowerSequence : Prop :=
  ∀ (s : State) (cause : Byte) (detail : W32) (failure : Option (Byte × W32)),
    let w := beginWork s
    let p := s.hw.power
    let l := s.hw.lantern
    let off := modPower (fun q => { q with pwrEn := false, pwrEnAt := s.hw.time.now - 20000000 }) w
    let safeRow := isSafe s.hw || p.tripCupola || (s.hw.keep.failed && !s.hw.keep.drained && l.powerState != 4)
    let cut := modMoves (fun m => if m.contains .cut then m else m ++ [.cut]) (forceLowest 6 off)
    let supplied (volts : Nat) (x : Work) : Work := modPower (fun q => { q with
      aon := true
      retained := false
      pwrGood := true
      inputV := volts }) (if p.aon then x else modLight (fun y => { y with aonSince := s.hw.time.now }) x)
    let limit := least ((l.lowFlowSince.toList ++ l.hotInletSince.toList).map (fun t => t + 1000000000))
    let mayHalt := lanternRuns s.hw = true ∧ haltRuns s.hw = false ∧ l.powerState < 3
    let mayLose := lanternRuns s.hw = true ∧ p.coolantMode ≠ 3 ∧ l.powerState < 3 ∧ lossDue s.hw = true
    let lossy := raise 28 0 0 0 0 (bump 7 20 1 (sendAlert 3 (forceLowest 4 (modPower (fun q => { q with
      coolantMode := 3
      moves := q.moves.filter (fun m => m == .cut) }) (releaseAll w)))))
    let unhalted := lossy.up fun h => { h with pager := { h.pager with flushes := h.pager.flushes.filter (fun f => f.kind != .halt) } }
    let removalDue (m : PowerMove) : Bool := match m with | .removal _ _ u => due s.hw u | _ => false
    let woken := modLantern (fun x => { x with powerState := 2, standbyOffered := false }) (modPower (fun q => { q with
      waking := false
      haltedWake := false
      coolantMode := 0
      selfRefresh := false }) w)
    (p.pwrEn = false → AnswersWith .pwrEnAssert s (modPower (fun q => { q with pwrEn := true, pwrEnAt := s.hw.time.now }) w)
      ∧ AnswersWith .pwrEnDeassert s w ∧ AnswersWith .aonPowerOn s w)
    ∧ (p.pwrEn = true → AnswersWith .pwrEnAssert s w
      ∧ ((p.aon = false ∨ p.retained = true) → AnswersWith .pwrEnDeassert s off
        ∧ (4800 < p.inputV → AnswersWith .aonPowerOn s (supplied p.inputV w))
        ∧ (p.inputV ≤ 4800 → AnswersWith .aonPowerOn s (supplied (4801 + freeOf w % (2 ^ 16 - 4801)) (freeUsed w))))
      ∧ (p.aon = true → p.retained = false →
        AnswersWith .aonPowerOn s w
        ∧ (safeRow = true → AnswersWith .pwrEnDeassert s (retainTier2 off))
        ∧ (safeRow = false → pagerLive s.hw = false → AnswersWith .pwrEnDeassert s (cutPower (drainAll off)))
        ∧ (safeRow = false → pagerLive s.hw = true → warningFlush cut.hw = false →
            AnswersWith .pwrEnDeassert s (startFlush .warning none none cut))
        ∧ (safeRow = false → pagerLive s.hw = true → warningFlush cut.hw = true → AnswersWith .pwrEnDeassert s cut)))
    ∧ (p.aon = true → p.retained = false → l.up = false → AnswersWith .lanternReady s (publishBelfry (modLantern (fun x => { x with
        up := true
        bypassOpen := true
        aloneSince := s.hw.time.now }) w)))
    ∧ ((p.aon = false ∨ p.retained = true ∨ l.up = true) → AnswersWith .lanternReady s w)
    ∧ (∀ t, limit = some t → mayHalt → t ≤ horizon s.hw →
        let halting := modPower (fun q => { q with coolantMode := 2 }) (releaseAll (advance w t))
        AnswersWith .orderlyHalt s (logPower 19 2 0 0 (raise 27 0 0 0 0 (bump 7 20 1 (sendAlert 6
          (modMoves (fun m => m ++ [.accepted false true halting.hw.time.now none]) halting))))))
    ∧ ((¬mayHalt ∨ ∀ t, limit = some t → horizon s.hw < t) → AnswersWith .orderlyHalt s w)
    ∧ (mayLose →
        (pagerLive unhalted.hw = true → AnswersWith .suddenCoolantLoss s (startFlush .emergency none none unhalted))
        ∧ (pagerLive unhalted.hw = false → AnswersWith .suddenCoolantLoss s
            (modMoves (fun m => m ++ [.removal false true unhalted.hw.time.now]) (releaseEvery (abortEvery unhalted)))))
    ∧ (¬mayLose → AnswersWith .suddenCoolantLoss s w)
    ∧ (∀ dark halt t, p.moves.find? removalDue = some (.removal dark halt t) →
        (dark = true → AnswersWith .domainRemoval s (enterDark (advance w t)))
        ∧ (dark = false → AnswersWith .domainRemoval s (enterStandby halt (advance w t))))
    ∧ (p.moves.find? removalDue = none → AnswersWith .domainRemoval s w)
    ∧ (p.waking = true → l.powerState = 3 →
        AnswersWith (.standbyResume (some (cause, detail))) s (failStart cause.toNat (detail.toNat % 256) woken)
        ∧ AnswersWith (.standbyResume none) s (publishModule ((powerSpires (modKeep (fun k => { k with lpUp := true })
            (modLantern (fun x => { x with lowest := x.lowest.filter (fun c => c != 4) }) woken))).zero 0 tier2Base)))
    ∧ ((p.waking = false ∨ l.powerState ≠ 3) → AnswersWith (.standbyResume failure) s w)


/-! ## Keep: checks, recovery, starts (R369 to R399, R470 to R507) -/

/-- R10, R366, R367, R369, R370, R470, R471, R475, R483: a silent Turret raises source 2, a failed check of Keep's cores or of the collector source 1
or 0, a parity error source 15; a register takes a write by its field kinds, and a Keep-locked one, or an item that Keep alone holds, keeps its
value under another master and raises source 3; a scrub read corrects and counts, retires a row corrected in three passes, or records the
uncorrectable error. What has no unit, no power or no memory changes nothing.
Where the rules leave a corner open, the clauses state the model's choice (log 45, 46 and 76). -/
def Obligations.KeepChecks : Prop :=
  (∀ (s : State) (kind unit : Byte),
    let w := beginWork s
    let k := s.hw.keep
    let on := s.hw.power.aon = true ∧ s.hw.power.retained = false
    let watched := k.turretUp = true ∧ s.hw.power.cupola = true ∧ s.hw.fault.safe ≠ some 1
    (watched → AnswersWith .turretWatchdog s (raise 2 8 0 0 0 w))
    ∧ (¬watched → AnswersWith .turretWatchdog s w)
    ∧ (on → AnswersWith .keepLockstep s (raise 1 8 0 0 0 w) ∧ AnswersWith .collectorCheck s (raise 0 8 0 0 0 w))
    ∧ (¬on → AnswersWith .keepLockstep s w ∧ AnswersWith .collectorCheck s w)
    ∧ (on → parityUnit kind.toNat unit.toNat = true →
        AnswersWith (.registerParity kind unit) s (raise 15 kind.toNat unit.toNat 0 0 w))
    ∧ ((¬on ∨ parityUnit kind.toNat unit.toNat = false) → AnswersWith (.registerParity kind unit) s w))
  ∧ (∀ (s : State) (master : Master) (value : W64) (p : Fin 6) (ctx : BitVec 12) (source : BitVec 6) (part : Fin 4) (item : KeepItem) (read : Bool),
    let w := beginWork s
    let v := value.toNat
    let written (r : Reg) (x : Work) : Prop := AnswersWith (.registerWrite master r value) s x
    let floor := bits v 22 16
    (s.hw.power.aon = false → ∀ r, written r w)
    ∧ (s.hw.power.aon = true →
      (∀ r ∈ [Reg.timeNow, .timeOffset, .plinkPeer p, .bringupStatus, .bringupTime, .capStatus, .capTerms, .belfryStatus, .coolantStatus,
          .thermalStatus part, .hotspotStatus part, .faultStatus], written r w)
      ∧ written .timeStatus (w.up fun h => { h with time := { h.time with mismatch := h.time.mismatch && !bit v 4 } })
      ∧ written (.plinkStatus p) (modPort p.val (fun q => { q with laneWear := q.laneWear && !bit v 24 }) w)
      ∧ (contextHolder s.hw ctx.toNat = none → written (.ctxStatus ctx) w)
      ∧ (∀ x core, contextHolder s.hw ctx.toNat = some (x, core) → written (.ctxStatus ctx) (modCore core (fun y => { y with
          aborted := y.aborted && !bit v 14
          faulted := y.faulted && !bit v 15 }) w))
      ∧ written .supplyStatus (modPower (fun q => { q with
          warningSeen := q.warningSeen && !bit v 4
          resetSeen := q.resetSeen && !bit v 5 }) w)
      ∧ written (.pairStatus part) (modPair part.val (fun q => { q with staleTakeover := q.staleTakeover && !bit v 8 }) w)
      ∧ written .hangConfig (w.up fun h => { h with hang := { h.hang with
          ticks := bits v 7 0
          windows := (List.range (bits v 10 8)).map (fun i => (h.hang.windows[i]?).getD (0, 0)) } })
      ∧ (master = .keep →
        (16 ≤ floor → floor ≤ 64 → floorConflict s.hw floor = none →
          written .tickConfig (w.up fun h => { h with time := { h.time with floorNext := some floor } }))
        ∧ ((floor < 16 ∨ 64 < floor ∨ floorConflict s.hw floor ≠ none) → written .tickConfig w)
        ∧ written .tokenPolicy (modLantern (fun l => { l with
            slackRelease := bits v 15 0
            slackClaim := bits v 31 16
            releaseStep := bits v 39 32
            claimStep := bits v 47 40
            orphanPercent := bits v 54 48 }) w)
        ∧ written (.faultReaction source) (w.up fun h => { h with fault := { h.fault with
            reaction := h.fault.reaction.set source.toNat (bits v 4 0) } })
        ∧ written (.keepOnly item read) w)
      ∧ (master ≠ .keep → (∀ r ∈ [Reg.tickConfig, .tokenPolicy, .faultReaction source], written r (raise 3 8 0 0 0 w))
        ∧ (read = true → (item ∈ [KeepItem.fuses, .limitTables, .leases] ∨ (item = .imageStore ∧ master = .turret)) →
            written (.keepOnly item read) w)
        ∧ ((read = false ∨ item ∈ [KeepItem.identity, .romAndSram, .keyTable, .topologyRecord] ∨ (item = .imageStore ∧ master ≠ .turret)) →
            written (.keepOnly item read) (raise 3 8 0 0 0 w)))))
  ∧ (∀ (s : State) (a : W64) (outcome : ScrubOutcome),
    let w := beginWork s
    let addr := a.toNat
    let u := memUnit addr
    let row := addr / 32 * 32
    let now := s.hw.time.now
    let read := inTiers addr 1 = true ∧ scrubbed s.hw u = true
    let hit := (row, s.hw.keep.bootCount * 2 ^ 32 + ctrOf s.hw 8 (144 + u), now)
    let corrected := (noteCorrected u addr w).up fun h => { h with fault := { h.fault with
      scrubHits := h.fault.scrubHits.filter (fun x => now < x.2.2 + 259200000000000) ++ [hit] } }
    (¬read → AnswersWith (.scrub a outcome) s w)
    ∧ (read → AnswersWith (.scrub a .clean) s w
      ∧ AnswersWith (.scrub a .passEnd) s (bump 8 (144 + u) 1 w)
      ∧ AnswersWith (.scrub a .uncorrectable) s (raise 9 (memUnitKind u).1 (memUnitKind u).2 0 addr (uncorrectableAt addr
          (w.up fun h => { h with bad := if h.bad.contains row then h.bad else h.bad ++ [row] })))
      ∧ ((rowPasses corrected.hw.fault row).length < 3 → AnswersWith (.scrub a .corrected) s corrected)
      ∧ (3 ≤ (rowPasses corrected.hw.fault row).length → AnswersWith (.scrub a .corrected) s
          (retireRow addr (corrected.up fun h => { h with fault := { h.fault with scrubHits := h.fault.scrubHits.filter (fun x => x.1 != row) } })))))

/-- R378, R398, R399, R493 to R495, R497: a domain in its reset step returns once it passes its own check before its deadline, and at the deadline
raises source 7; a supply warning holds both back. A start that meets its limit, less the time it had to wait, fails with cause 10 and its phase;
a written image store read back right is answered and holds the bundle, and resets the module where that was asked, and one read back wrong is
written again.
Where the rules leave a corner open, the clauses state the model's choice (log 46 and 50). -/
def Obligations.DomainsAndLimits : Prop :=
  ∀ (s : State) (kind unit : Byte) (ok : Bool),
    let w := beginWork s
    let k := s.hw.keep
    let x := resetUnit s.hw kind.toNat unit.toNat
    (∀ r, resetOf s.hw kind.toNat unit.toNat = some r →
      (s.hw.power.warning = false → s.hw.time.now ≤ r.deadline →
        AnswersWith (.domainReturn kind unit true) s (returnDomain kind.toNat unit.toNat w))
      ∧ ((ok = false ∨ s.hw.power.warning = true ∨ r.deadline < s.hw.time.now) → AnswersWith (.domainReturn kind unit ok) s w)
      ∧ (s.hw.power.warning = false → r.deadline ≤ horizon s.hw →
        AnswersWith (.domainDeadline kind unit) s (raise 7 x.1 x.2 0 0 (bump 9 7 1 (advance w r.deadline))))
      ∧ ((s.hw.power.warning = true ∨ horizon s.hw < r.deadline) → AnswersWith (.domainDeadline kind unit) s w))
    ∧ (resetOf s.hw kind.toNat unit.toNat = none → AnswersWith (.domainReturn kind unit ok) s w ∧ AnswersWith (.domainDeadline kind unit) s w)
    ∧ (∀ limit t, startLimitOf k.startType = some limit → k.startAt = some t →
        let end_ := t + limit + k.excluded
        (starting k = true → k.excludeFrom = none → end_ ≤ horizon s.hw → AnswersWith .startLimit s (failStart 10 k.phase (advance w end_)))
        ∧ ((starting k = false ∨ k.excludeFrom ≠ none ∨ horizon s.hw < end_) → AnswersWith .startLimit s w))
    ∧ ((startLimitOf k.startType = none ∨ k.startAt = none) → AnswersWith .startLimit s w)
    ∧ startLimitOf 0 = some 540000000000 ∧ startLimitOf 1 = some 360000000000 ∧ startLimitOf 2 = some 75000000000 ∧ startLimitOf 3 = none
    ∧ (∀ x, k.imageWrite = some x →
        let stored := answerLater x.channel x.slot stDone [] (modKeep (fun q => { q with bundle := some x.bundle, imageWrite := none }) w)
        (x.activate = false → AnswersWith (.bundleWriteDone true) s stored)
        ∧ (x.activate = true → AnswersWith (.bundleWriteDone true) s (commandedReset stored))
        ∧ AnswersWith (.bundleWriteDone false) s w)
    ∧ (k.imageWrite = none → AnswersWith (.bundleWriteDone ok) s w)

/-- R33, R373, R375 to R377, R386 to R394, R398, R399, R431, R471: the phases of a start. Keep counts the boot, drops the saved training that fails its
CRC, chooses the start type and advances `LANTERN_EPOCH`; Cupola, Turret and LPDDR6 come up with the journal drained; the Spires and stacks,
trained and tested, with the runtime prepared and fetched for each core; the memory test remaps rows, all that failed or those of a fast start's
sample, and fills the tiers with zeros; the ports begin training and the time base takes its source; each failure fails the start with its cause,
and a bundle that does not check starts the recovery path. A phase in another state of the start changes nothing.
Where the rules leave a corner open, the clauses state the model's choice (log 13, 46 and 75). -/
def Obligations.StartPhases : Prop :=
  (∀ (s : State) (romOk fuseOk storeOk : Bool) (crcBad : BitVec 46),
    let w := beginWork s
    let epoch := (s.hw.lantern.epochSaved + 4096) % 2 ^ 32
    let chosen := modKeep (fun k => { k with
      running := k.bundle
      trained := k.trained.filter (fun e => !bit crcBad.toNat (staleBit e.1)) }) w
    let counted := modKeep (fun k => { k with
      bootCount := k.bootCount + 1
      railsRemoved := false
      prevFailed := false
      startAt := some s.hw.time.now
      heldMs := none
      failed := false
      ready := false
      cause := 0
      detail := 0
      phase := 1
      startType := startType chosen.hw }) chosen
    let epochs := modLantern (fun l => { l with
      powerState := 2
      epoch := epoch
      epochSaved := epoch }) (modPower (fun p => { p with
      resetSeen := p.resetDue
      resetDue := false
      pwrGood := true
      tripCupola := false
      flashOn := true }) counted)
    let begun := publishModule (forEach (List.range 6) (fun p v => modPort p (fun q => { q with
      rxSpare := (v.hw.keep.spares[2 * p]?).getD 31
      txSpare := (v.hw.keep.spares[2 * p + 1]?).getD 31 }) v) epochs)
    (mayStartModule s.hw = true →
      AnswersWith (.start false fuseOk storeOk crcBad) s (failStart 1 0 begun)
      ∧ AnswersWith (.start true false storeOk crcBad) s (failStart 2 0 begun)
      ∧ ((storeOk = false ∨ bundleFits s.hw.keep = false) → AnswersWith (.start true true storeOk crcBad) s (enterRecovery begun))
      ∧ (bundleFits s.hw.keep = true → AnswersWith (.start true true true crcBad) s (modKeep (fun k => { k with
          phase := 3
          bootPath := 0 }) begun)))
    ∧ (mayStartModule s.hw = false → AnswersWith (.start romOk fuseOk storeOk crcBad) s w))
  ∧ (∀ (s : State) (lpFail mapFail : Option Byte) (hashOk : Bool) (fail : Byte) (retrained : BitVec 24),
    let w := beginWork s
    let k := s.hw.keep
    let cupola := modPower (fun p => { p with cupola := true }) w
    let packages := modKeep (fun k => { k with turretUp := true, lpUp := true, heartbeat := s.hw.time.now })
      (trainParts 16 24 retrained.toNat (modPower (fun p => { p with lpddrOn := true, selfRefresh := false }) cupola))
    let drained := modKeep (fun k => { k with drained := true })
      ((drainAll packages).up fun h => { h with pager := { h.pager with drainDue := false } })
    (k.phase = 3 → k.turretUp = false →
      AnswersWith (.cupola lpFail false mapFail retrained) s (enterRecovery cupola)
      ∧ AnswersWith (.cupola (some fail) true mapFail retrained) s (failStart 4 fail.toNat cupola)
      ∧ AnswersWith (.cupola none true (some fail) retrained) s (failStart 8 fail.toNat drained)
      ∧ AnswersWith (.cupola none true none retrained) s (showPhase (modKeep (fun k => { k with mapBuilt := true }) drained)))
    ∧ ((k.phase ≠ 3 ∨ k.turretUp = true) → AnswersWith (.cupola lpFail hashOk mapFail retrained) s w))
  ∧ (∀ (s : State) (hbmFail testFail : Option Byte) (hashFail : Option Bool) (section4 : Bool) (fail : Byte) (retrained : BitVec 12),
    let w := beginWork s
    let k := s.hw.keep
    let trained := trainParts 0 12 retrained.toNat (powerSpires w)
    let runs := starting k = true ∧ k.turretUp = true ∧ k.spiresUp = false ∧ s.hw.power.warning = false
    (runs →
      AnswersWith (.spires hbmFail testFail (some section4) retrained) s (failStart 3 (if section4 then 4 else 3) w)
      ∧ AnswersWith (.spires (some fail) testFail none retrained) s (failStart 5 fail.toNat (powerSpires w))
      ∧ AnswersWith (.spires none (some fail) none retrained) s (failStart 6 fail.toNat trained)
      ∧ AnswersWith (.spires none none none retrained) s (showPhase (modKeep (fun k => { k with spiresUp := true })
          (forEach (List.range 256) (fun c v => prepareFetch 1 c (coreRuntime v.hw) v) trained))))
    ∧ (¬runs → AnswersWith (.spires hbmFail testFail hashFail retrained) s w))
  ∧ (∀ (s : State) (core : BitVec 8),
    let w := beginWork s
    let k := s.hw.keep
    let c := core.toNat
    let inStart := starting k = true ∧ k.spiresUp = true
    let serves := isReady s.hw = true ∧ isSafe s.hw = false
    let first := fetchCore c w
    let last := if first.1 = 1 ∨ first.1 = 2 then fetchCore c (renewFetch c first.2) else first
    (inStart → k.fetched.contains c = false → last.1 = 0 →
      AnswersWith (.coreFetch core) s (showPhase (modKeep (fun k => { k with fetched := k.fetched ++ [c] }) last.2)))
    ∧ (inStart → k.fetched.contains c = false → last.1 ≠ 0 → AnswersWith (.coreFetch core) s (failStart 9 c last.2))
    ∧ (inStart → k.fetched.contains c = true → AnswersWith (.coreFetch core) s w)
    ∧ (¬inStart → serves → ∀ p, s.hw.plans.plans.find? (fun p => p.fetching.contains c) = some p →
        AnswersWith (.coreFetch core) s (fetchPlanCore p c w))
    ∧ (¬inStart → (¬serves ∨ s.hw.plans.plans.find? (fun p => p.fetching.contains c) = none) → AnswersWith (.coreFetch core) s w))
  ∧ (∀ (s : State) (rows : List W64),
    let w := beginWork s
    let k := s.hw.keep
    let found := (rows.map (fun v => (v.toNat / 2 ^ 32, v.toNat % 2 ^ 32))).filter (fun r =>
      k.startType != 2 || r.2 % 2 ^ 20 % 50 == k.bootCount % 50)
    let old := s.hw.fault.retire.foldl (fun (acc : List (Nat × Nat) × Work) a => ((acc.1 ++ [(retiredRow a acc.2).1]), (retiredRow a acc.2).2)) ([], w)
    let remapped := addRemaps (old.1 ++ found) (old.2.up fun h => { h with fault := { h.fault with retire := [], retireLost := [] } })
    let runs := starting k = true ∧ phaseOf k = 5 ∧ k.spiresUp = true ∧ k.drained = true ∧ s.hw.power.warning = false
    (runs → remapped.hw.keep.failed = true → AnswersWith (.memoryTest rows) s remapped)
    ∧ (runs → remapped.hw.keep.failed = false → AnswersWith (.memoryTest rows) s (showPhase (modKeep (fun k => { k with
        tested := true
        fastStarts := if k.startType = 2 then k.fastStarts + 1 else 0 })
        (clearTiers (if remapped.hw.pager.journal = [] then .lost else .kept) remapped))))
    ∧ (¬runs → AnswersWith (.memoryTest rows) s w))
  ∧ (∀ (s : State) (source : BitVec 3),
    let w := beginWork s
    let k := s.hw.keep
    let src := sourceOf source.toNat
    let ported := forEach (List.range 8) (fun h v => if halfExists v.hw h then modHalf h (fun x => { x with link := 2 }) v else v)
      (forEach (List.range 6) (fun p v => modPort p (fun q => { q with
        state := if q.enabled then .detect else .disabled
        fullTraining := !(trainingValid v.hw (64 + p)) }) v) w)
    let runs := starting k = true ∧ k.turretUp = true ∧ k.linked = false
    (runs → AnswersWith (.links source) s (showPhase (modKeep (fun k => { k with linked := true, linksAt := some s.hw.time.now })
      (modTime (fun t => { t with
        source := src
        planeOk := t.planeOk || src == .plane
        ptpOk := t.ptpOk || src == .ptp
        markerOk := t.markerOk || src == .marker }) ported))))
    ∧ (¬runs → AnswersWith (.links source) s w))


/-! ## Time and frames (R31 to R56) -/

/-- R33, R39 to R41, R43, R44, R51, R53, R54, R263, R326: a tick passes the deadline of the closing window where that has not passed, reaches the next
multiple of the period, which is another where a new period has come into force, and does in order what falls at a tick. The deadline ends each
plan's frame in progress by its own rule; a plan's frame completes once every core has ended and its writes are acknowledged; a lost source gives
way to the next, and 60 s of holdover end in free run. A command with nothing to do changes nothing.
Where the rules leave a corner open, the clauses state the model's choice (log 37, 42 and 73). -/
def Obligations.TicksAndFrames : Prop :=
  ∀ (s : State) (sample_ : TickSample) (plan : W32) (source : BitVec 3),
    let w := beginWork s
    let t := s.hw.time
    let code := sourceOf source.toNat
    let closing := modTime (fun x => { x with deadlineDone := true }) (advance w (deadlineAt s.hw))
    let reached (code : Nat) (next : Option (Nat × Nat)) : Work := modTime (fun x => { x with
      periodCode := code
      periodNext := next
      tick := nextTick s.hw / (code * 10000) % 2 ^ 48
      tickAt := nextTick s.hw
      deadlineDone := false }) (advance w (nextTick s.hw))
    let opened := takeSnapshot (reachTick (frameDeadline (closeNotices w)))
    let settled := applySettings (partitionTick (answerPeriod (crossCheck (slewTick (chargeTick (countTick opened))))))
    let framed := topologyCheck (scanTick (frameTickStart (movesTick (liftFences (traceTick settled)))))
    let decided := if framed.hw.lantern.up then lanternTick sample_ framed else framed
    (s.hw.power.aon = true → AnswersWith (.frameTick sample_) s (fillTick (serveLowAll
      (auditTick sample_ t.tickAt (hangTick (sample 10 0 decided.hw.pager.journal.length (mirrorTick decided)))))))
    ∧ (s.hw.power.aon = false → AnswersWith (.frameTick sample_) s (fillTick (serveLowAll (reachTick w))))
    ∧ (t.periodNext = none → reachTick w = reached t.periodCode none)
    ∧ (∀ at_ next, t.periodNext = some (at_, next) →
        (nextTick s.hw = changeAt at_ next → reachTick w = reached next none)
        ∧ (nextTick s.hw ≠ changeAt at_ next → reachTick w = reached t.periodCode (some (at_, next))))
    ∧ (t.deadlineDone = false → AnswersWith .frameDeadline s (forEach (s.hw.plans.plans.map (fun p => p.id)) planDeadline closing))
    ∧ (t.deadlineDone = true → AnswersWith .frameDeadline s w)
    ∧ (∀ p f, findPlan s.hw plan.toNat = some p → p.frame = some f →
        (frameDone s.hw p f = true → AnswersWith (.frameComplete plan) s (completeFrame p f w))
        ∧ (frameDone s.hw p f = false → AnswersWith (.frameComplete plan) s w))
    ∧ (∀ p, findPlan s.hw plan.toNat = some p → p.frame = none → AnswersWith (.frameComplete plan) s w)
    ∧ (findPlan s.hw plan.toNat = none → AnswersWith (.frameComplete plan) s w)
    ∧ (code = .plane → AnswersWith (.timeSourceLost source) s (chooseSource (modTime (fun x => { x with planeOk := false }) w)))
    ∧ (code = .marker → AnswersWith (.timeSourceLost source) s (chooseSource (modTime (fun x => { x with markerOk := false }) w)))
    ∧ ((code = .freeRun ∨ code = .holdover) → AnswersWith (.timeSourceLost source) s (chooseSource w))
    ∧ (code = .ptp → s.hw.host.ptpUsed = none →
        AnswersWith (.timeSourceLost source) s (chooseSource (modTime (fun x => { x with ptpOk := false }) w)))
    ∧ (∀ h sender, code = .ptp → s.hw.host.ptpUsed = some (h, sender) → AnswersWith (.timeSourceLost source) s
        (chooseSource (modTime (fun x => { x with ptpOk := false })
          (chooseMaster (modHalf h (fun x => { x with masters := x.masters.filter (fun e => e.1 != sender) }) w)))))
    ∧ (∀ u, t.holdover = some u → t.source = .holdover → u + 60000000000 ≤ horizon s.hw → AnswersWith .holdoverExpiry s
        (modTime (fun x => { x with source := .freeRun, holdover := none }) (advance w (u + 60000000000))))
    ∧ ((t.source ≠ .holdover ∨ ∀ u, t.holdover = some u → horizon s.hw < u + 60000000000) → AnswersWith .holdoverExpiry s w)

/-- R43, R51 to R56, R502: what a plan does at a deadline and at a tick: a frame that is done completes, on time with its slack, and after a slip with
its overrun record; one that is not is an overrun, aborted where the plan asks for that or on its second deadline and slipped on its first; a due
frame starts on every core of the plan, is skipped while the last one runs, where it follows a slip or a core is fenced, and does not start before
the plan's first frame or after its last, or where its pair does not hold the lease.
Where the rules leave a corner open, the clauses state the model's choice (log 42, 60 and 61). -/
def Obligations.FrameOutcomes : Prop :=
  ∀ (w : Work) (p : Plan), findPlan w.hw p.id = some p →
    let tick := w.hw.time.tick
    let now := w.hw.time.now
    let fenced := p.coreList.any (fun c => coreFenced w.hw c) = true
    let due := frameDue p tick = true ∧ mayStart w.hw p.part w.hw.time.tickAt = true
    (∀ f, p.frame = some f →
      let late := overrunRecord w.hw p f
      let raised := modLight (fun l => { l with overrun := l.overrun + 1 }) (raise 5 1 late.2.2 late.2.1 0 w)
      let sampled (x : Work) : Work := sample 1 p.id ((now : Int) - f.startAt) x
      (frameDone w.hw p f = true → f.overrun = none →
        let ended (slack : Nat) : Work :=
          closeFrame p f 0 stBatchDone (noteSlack p.id slack (modLight (fun l => { l with completed := l.completed + 1 }) (sampled w)))
        (f.number = tick → planDeadline p.id w = ended (min 0xFFFE ((deadlineAt w.hw - now) * 65536 / max 1 (period w.hw - 4000))))
        ∧ (f.number ≠ tick → planDeadline p.id w = ended 0))
      ∧ (∀ first, frameDone w.hw p f = true → f.overrun = some first → planDeadline p.id w
          = closeFrame p f 0 stBatchDone (noteSlack p.id 0 (sampled (queueOverrun (finishOverrun first 1 now) w))))
      ∧ (frameDone w.hw p f = false → p.abort = true → planDeadline p.id w = abortFrame p (queueOverrun (finishOverrun late.1 2 0) raised))
      ∧ (frameDone w.hw p f = false → p.abort = false → f.overrun = none →
          planDeadline p.id w = modPlan p.id (fun q => { q with
            frame := some { f with overrun := some late.1, slipped := true }
            slipTick := some ((tick + 1) % 2 ^ 48) }) raised)
      ∧ (∀ first, frameDone w.hw p f = false → p.abort = false → f.overrun = some first → planDeadline p.id w
          = abortFrame p (queueOverrun (finishOverrun late.1 6 0) (queueOverrun (finishOverrun first 1 0) raised))))
    ∧ (p.frame = none → planDeadline p.id w = w)
    ∧ (¬due → planTick tick p.id w = w)
    ∧ (due → fenced → planTick tick p.id w = skipFrame p tick (modPlan p.id (fun q => { q with fenced := true }) w))
    ∧ (due → ¬fenced → (p.frame ≠ none ∨ p.slipTick = some tick) → planTick tick p.id w = skipFrame p tick w)
    ∧ (due → ¬fenced → p.frame = none → p.slipTick ≠ some tick →
        (p.coreList.all (fun c => coreLive w.hw c) = true →
          planTick tick p.id w = beginFrame p tick (modPlan p.id (fun q => { q with fenced := false }) w))
        ∧ (p.coreList.all (fun c => coreLive w.hw c) = false → planTick tick p.id w = w))
    ∧ (p.fetching ≠ [] → frameDue p tick = false)
    ∧ (∀ first, p.firstFrame = some first → tick < first → frameDue p tick = false)
    ∧ (∀ last, p.lastFrame = some last → last < tick → frameDue p tick = false)


/-! ## The mailbox (R338 to R365) -/

/-- R342, R344, R348, R391, R397, R483: a mailbox row acts on the next request to start where that is its own, and does nothing otherwise or in the
safe state where the request is not served there; a request on a channel that its command does not list, that names what its channel does not
own, or not served before readiness, on the recovery path or after a failed start, is answered `NOT_PERMITTED`, and one whose signature is
refused with that status. A refusal carries no payload, but for the commands whose every response has one (R351, R362, R492), and a refused power
request or order is logged (R410).
Where the rules leave a corner open, the clauses state the model's choice (log 41). -/
def Obligations.MailboxRefusals : Prop :=
  ∀ (s : State) (c : Fin 18) (sl : Fin 64) (i : Instr) (code : Nat) (permit : Hw → Request → Bool) (refuse : Nat → Request → Work → Work),
    let plain (status : Nat) (r : Request) (v : Work) : Work := respond r status [] v
    (i, code, permit, refuse) ∈ [(Instr.nop c sl, 0x01, anyOwner, plain), (.channelOpen c sl, 0x02, anyOwner, plain),
      (.channelClose c sl, 0x03, anyOwner, plain), (.outboxSet c sl, 0x04, (fun hw r => ownQp hw r (r.arg 2 2)), plain),
      (.ethPortSet c sl, 0x08, anyOwner, plain), (.ethAddrSet c sl, 0x09, anyOwner, plain), (.ethCongSet c sl, 0x0A, anyOwner, plain),
      (.ptpSet c sl, 0x0B, anyOwner, plain), (.ethStatus c sl, 0x0C, anyOwner, plain), (.qpCreate c sl, 0x10, anyOwner, plain),
      (.qpConnect c sl, 0x11, (fun hw r => ownQp hw r (r.arg 0 2)), plain), (.qpDestroy c sl, 0x12, anyOwner, plain),
      (.qpStatus c sl, 0x13, (fun hw r => ownQp hw r (r.arg 0 2)), plain),
      (.regionRegister c sl, 0x14, (fun hw r => ownPlan hw r (r.arg 0 4) && (r.arg 6 1 != 3 || ownQp hw r (r.arg 0x1A 2))), plain),
      (.regionRelease c sl, 0x15, (fun hw r => ownRegion hw r (r.arg 0 2)), plain),
      (.planAdmit c sl, 0x20, anyOwner, (fun status r v => respond r status (zeros 48) v)),
      (.planRelease c sl, 0x21, (fun hw r => ownPlan hw r (r.arg 0 4)), plain), (.planList c sl, 0x22, anyOwner, plain),
      (.ctxStatusRead c sl, 0x23, (fun hw r => ownContext hw r (r.arg 0 2)), plain),
      (.coreFaultRead c sl, 0x24, (fun hw r => ownFault hw r (r.arg 0 2)), plain), (.overrunRead c sl, 0x25, anyOwner, plain),
      (.tickPeriodSet c sl, 0x26, anyOwner, plain), (.timeRoleSet c sl, 0x27, anyOwner, plain), (.timeRead c sl, 0x28, anyOwner, plain),
      (.floorSet c sl, 0x29, anyOwner, (fun status r v => respond r status (zeros 16) v)), (.partitionSet c sl, 0x2A, anyOwner, plain),
      (.objectCreate c sl, 0x30, anyOwner, plain), (.objectDelete c sl, 0x31, (fun hw r => ownPart hw r (r.arg 0 1)), plain),
      (.objectRead c sl, 0x32, (fun hw r => ownRegion hw r (r.arg 12 2)), plain),
      (.objectWrite c sl, 0x33, (fun hw r => ownRegion hw r (r.arg 12 2)), plain),
      (.objectStatus c sl, 0x34, (fun hw r => ownPart hw r (r.arg 0 1)), plain), (.journalFlush c sl, 0x35, anyOwner, plain),
      (.pagerRead c sl, 0x36, (fun hw r => ownPart hw r (r.arg 0 1)), plain), (.groupRead c sl, 0x40, anyOwner, plain),
      (.plinkSet c sl, 0x41, anyOwner, plain), (.plinkArbSet c sl, 0x42, anyOwner, plain), (.plinkRead c sl, 0x43, anyOwner, plain),
      (.counterRead c sl, 0x50, anyOwner, plain), (.traceSet c sl, 0x51, mayTrace, plain), (.traceRead c sl, 0x52, anyOwner, plain),
      (.stippleSet c sl, 0x53, mayMonitor, plain), (.stippleRead c sl, 0x54, anyOwner, plain),
      (.faultHistoryRead c sl, 0x60, mayAcknowledge, plain), (.faultReactionSet c sl, 0x61, anyOwner, plain),
      (.domainReset c sl, 0x62, anyOwner, plain), (.moduleReset c sl, 0x63, anyOwner, plain),
      (.hangSet c sl, 0x64, anyOwner, (fun status r v => respond r status (hangReport v.hw) v)),
      (.powerRequest c sl, 0x70, anyOwner, (fun status r v => respond r status [] (logPower r.channel 1 (r.arg 0 2) 3 v))),
      (.powerOrder c sl, 0x71, anyOwner, (fun status r v => respond r status [] (logPower r.channel (orderCode r) 0 3 v))),
      (.orphanCapSet c sl, 0x72, anyOwner, (fun status r v => respond r status [] (logPower r.channel 5 (r.arg 0 1) 3 v))),
      (.powerRead c sl, 0x73, anyOwner, plain), (.ageingRead c sl, 0x74, anyOwner, plain), (.pairSet c sl, 0x80, anyOwner, plain),
      (.leaseGrant c sl, 0x81, anyOwner, plain), (.switchOver c sl, 0x82, anyOwner, plain),
      (.mirrorWindowSet c sl, 0x83, (fun hw r => ownPlan hw r (r.arg 4 4)), plain), (.pairRead c sl, 0x84, anyOwner, plain),
      (.attest c sl, 0x90, anyOwner, plain), (.imageUpdate c sl, 0x91, anyOwner, plain), (.serviceMode c sl, 0x92, anyOwner, plain),
      (.keyEnrol c sl, 0x93, anyOwner, plain), (.topologySet c sl, 0x94, anyOwner, plain), (.stateRead c sl, 0x95, anyOwner, plain)] →
    let w := beginWork s
    let served := (s.hw.keep.phase = 15 → servedFailed code = true) ∧ (s.hw.keep.phase = 2 → servedRecovery code = true)
      ∧ (c.val < 17 → isReady s.hw = false → servedEarly code = true) ∧ channelListed c.val code = true
    (takesRequest s.hw code c.val sl.val = none → AnswersWith i s w)
    ∧ ∀ r, takesRequest s.hw code c.val sl.val = some r →
        let sleeps := isSafe s.hw = true ∧ servedSafe r = false
        (sleeps → AnswersWith i s w)
        ∧ (¬sleeps → (¬served ∨ permit w.hw r = false) → AnswersWith i s (refuse stNotPermitted r w))
        ∧ (¬sleeps → served → permit w.hw r = true → ∀ status v, checkSignature r w = (some status, v) → AnswersWith i s (refuse status r v))

/-- R340, R343: a response carries its request's `SEQ`, code and tag, the payload's length, the status and the tick of the scan, then the payload; it
stands at its slot's address, the slot is no longer in progress, and a channel without a response address sends no copy.
Where the rules leave a corner open, the clauses state the model's choice (log 41). -/
def Obligations.ResponseWritten : Prop :=
  ∀ (r : Request) (status : Nat) (payload : List Byte) (w : Work),
    r.channel < 17 → keepOwned r.code = false → r.bytes.length = 4096 → payload.length ≤ 4032 → status < 2 ^ 16 → r.tick < 2 ^ 64 →
    w.good (responseAddr r.channel r.slot) 4096 = true →
    (tabGet {} w.hw.host.channels r.channel).responseAddr = 0 →
    let v := respond r status payload w
    let a := responseAddr r.channel r.slot
    v.num a 4 = field r.bytes 0 4 ∧ v.num (a + 4) 2 = r.code ∧ v.num (a + 8) 4 = payload.length ∧ v.num (a + 12) 2 = status
    ∧ v.num (a + 24) 8 = r.tick ∧ v.read (a + 64) payload.length = payload
    ∧ v.hw.host.requests = w.hw.host.requests.filter (fun q => !(q.channel == r.channel && q.slot == r.slot))
    ∧ v.hw.tx = w.hw.tx
    ∧ ∀ b n, (b + n ≤ a ∨ a + 4096 ≤ b) → v.read b n = w.read b n

/-- R315, R324, R330, R350, R354 to R357: the commands of channels, outboxes and Ethernet ports: `CHANNEL_OPEN` opens a closed channel with a key (a free
value), `CHANNEL_CLOSE` closes one without plans, and the settings of outboxes, ports, addresses, congestion and PTP are taken, those of ports
and outboxes at the next tick.
Where the rules leave a corner open, the clauses state the model's choice (log 26, 40 and 41). -/
def Obligations.ChannelCommands : Prop :=
  ∀ (s : State) (c : Fin 18) (sl : Fin 64),
    Serves s c sl (.nop c sl) 0x01 anyOwner (fun r _ => r.shape 0 []) (fun _ w reply _ => reply stDone [] w)
    ∧ Serves s c sl (.channelOpen c sl) 0x02 anyOwner (fun r _ => r.shape 16 [] && r.arg 0 1 ≤ 15 && r.arg 1 1 ≤ 15 && r.arg 2 2 ≤ 4095)
        (fun r w reply _ =>
          ((tabGet {} w.hw.host.channels (r.arg 0 1)).opened = true → reply stNoResource [] w)
          ∧ ((tabGet {} w.hw.host.channels (r.arg 0 1)).opened = false →
            let key := freeOf w % 2 ^ 32
            reply stDone (leBytes 4 key) (freeUsed (modHost (fun h => { h with
              channels := tabSet {} h.channels (r.arg 0 1) ⟨true, r.arg 1 1, r.arg 2 2, r.arg 4 4, r.arg 8 8, key⟩ }) w))))
    ∧ Serves s c sl (.channelClose c sl) 0x03 anyOwner (fun r _ => r.shape 4 [(1, 3)] && r.arg 0 1 ≤ 15) (fun r w reply _ =>
        (w.hw.plans.plans.any (fun p => p.channel == r.arg 0 1) = true → reply stPlanActive [] w)
        ∧ (w.hw.plans.plans.any (fun p => p.channel == r.arg 0 1) = false → reply stDone []
            (modLantern (fun l => { l with requests := l.requests.filter (fun e => e.1 != r.arg 0 1) })
              (modHost (fun h => { h with channels := tabSet {} h.channels (r.arg 0 1) {} }) w))))
    ∧ Serves s c sl (.outboxSet c sl) 0x04 (fun hw r => ownQp hw r (r.arg 2 2)) (fun r _ => r.shape 32 [] && r.arg 0 1 ≤ 3 && r.arg 1 1 ≤ 1
          && 16 ≤ r.arg 0x10 8 && r.arg 0x18 4 % 32 == 0 && r.arg 0x1C 4 ≤ 65536) (fun r w reply _ =>
        (findQp w.hw (r.arg 2 2) = none → reply stNotFound [] w)
        ∧ (∀ q, findQp w.hw (r.arg 2 2) = some q → reply stDone [] (modHost (fun h => { h with outboxNext := h.outboxNext ++ [(4 * q.channel + r.arg 0 1,
            ⟨r.arg 1 1 == 1, r.arg 2 2, r.arg 4 4, r.arg 8 8, r.arg 0x10 8, r.arg 0x18 4, r.arg 0x1C 4, 0⟩)] }) w)))
    ∧ Serves s c sl (.ethPortSet c sl) 0x08 anyOwner (fun r _ => r.shape 8 [(6, 2)] && r.arg 0 1 ≤ 3 && r.arg 1 1 ≤ 1 && r.arg 2 2 < 2 ^ 15
          && bitCount (r.arg 4 1) ≤ 2 && bitCount (r.arg 5 1) ≤ 2 && !(r.arg 1 1 == 0 && r.arg 5 1 != 0)) (fun r w reply _ =>
        let e := r.arg 0 1
        let used := w.hw.plans.plans.any (fun p => p.links.any (fun l => (l.1 == 8 + 2 * e || l.1 == 9 + 2 * e) && l.2.2 != 0))
        (portBusy w.hw 6 e = true → reply stTargetBusy [] w)
        ∧ (portBusy w.hw 6 e = false → used = true → reply stPlanActive [] w)
        ∧ (portBusy w.hw 6 e = false → used = false → reply stDone [] (modHost (fun h => { h with
            ethNext := h.ethNext ++ [(e, ⟨r.arg 1 1, r.arg 2 2, r.arg 4 1, r.arg 5 1⟩)] }) w)))
    ∧ Serves s c sl (.ethAddrSet c sl) 0x09 anyOwner (fun r w => r.shape 24 [(3, 1)] && 8 ≤ r.arg 0 1 && halfExists w.hw (r.arg 0 1 - 8)
          && r.arg 1 1 ≤ 32 && r.arg 2 1 ≤ 128) (fun r w reply _ =>
        (portBusy w.hw 6 ((r.arg 0 1 - 8) / 2) = true → reply stTargetBusy [] w)
        ∧ (portBusy w.hw 6 ((r.arg 0 1 - 8) / 2) = false → reply stDone [] (modHalf (r.arg 0 1 - 8) (fun x => { x with
          ipv4 := r.arg 4 4
          ipv4Len := r.arg 1 1
          ipv6 := r.arg 8 16
          ipv6Len := r.arg 2 1 }) w)))
    ∧ Serves s c sl (.ethCongSet c sl) 0x0A anyOwner (fun r _ => r.shape 12 [(1, 1)] && inRange 4 10 (r.arg 0 1) && inRange 10 1000 (r.arg 2 2)
          && inRange 10 1000 (r.arg 4 2) && inRange 10 10000 (r.arg 6 2) && inRange 10 10000 (r.arg 8 2) && r.arg 10 2 ≤ 1000)
        (fun r w reply _ => reply stDone [] (modHost (fun h => { h with
          congNext := some ⟨r.arg 0 1, r.arg 2 2, r.arg 4 2, r.arg 6 2, r.arg 8 2, r.arg 10 2⟩ }) w))
    ∧ Serves s c sl (.ptpSet c sl) 0x0B anyOwner (fun r _ => r.shape 20 [(2, 2)] && r.arg 0 1 ≤ 127
          && (List.range 8).all (fun h => decide ((toSigned 16 (r.arg (4 + 2 * h) 2)).natAbs ≤ 1000))) (fun r w reply _ =>
        reply stDone [] (chooseMaster (modHost (fun x => { x with
          ptpDomain := r.arg 0 1
          ptpPorts := r.arg 1 1
          ptpAsym := (List.range 8).foldl (fun t h => tabSet 0 t h (toSigned 16 (r.arg (4 + 2 * h) 2))) [] })
          (forEach ((List.range 8).filter (fun h => r.arg 0 1 != w.hw.host.ptpDomain || !(bit (r.arg 1 1) h))) (fun h w =>
            modHalf h (fun x => { x with masters := [], ptpSync := none, ptpDelay := none }) w) w))))
    ∧ Serves s c sl (.ethStatus c sl) 0x0C anyOwner (fun r _ => r.shape 0 [])
        (fun _ w reply _ => reply stDone ((List.range 8).flatMap (ethEntry w.hw)) w)

/-- R321 to R323, R332, R337, R354, R358 to R360: the commands of queue pairs and regions: a queue pair is created at a free index, connected from the
values given, destroyed without outstanding work, and reported; a region is registered within a placed reservation of the channel's own plan and
answered with its key (a free value) and base; its release leaves its batches to the
outcome of their frames.
Where the rules leave a corner open, the clauses state the model's choice (log 40). -/
def Obligations.QueuePairCommands : Prop :=
  ∀ (s : State) (c : Fin 18) (sl : Fin 64),
    Serves s c sl (.qpCreate c sl) 0x10 anyOwner (fun r w => r.shape 4 [] && (r.arg 0 2 ≤ 4095 || r.arg 0 2 == 0xFFFF) && r.arg 2 1 ≤ 15
          && (tabGet {} w.hw.host.channels (r.arg 2 1)).opened && 8 ≤ r.arg 3 1 && halfExists w.hw (r.arg 3 1 - 8)) (fun r w reply _ =>
        let used := w.hw.host.qps.map (fun q => q.index)
        let n := if r.arg 0 2 = 0xFFFF then lowestFree used 4096 0 else some (r.arg 0 2)
        let fresh (i : Nat) : Qp := ⟨i, 0, 0, r.arg 2 1, r.arg 3 1, 0, 0, 0, 0, 0, 0, 0, 0, 0, 0, 0, 0, [], [], 0, 0, ctrOf w.hw 5 (41 + i),
          0, 0, 0, 0, 0, 0, 0, none⟩
        let busy := portBusy w.hw 6 ((r.arg 3 1 - 8) / 2)
        (busy = true → reply stTargetBusy [] w)
        ∧ (busy = false → n = none → reply stNoResource [] w)
        ∧ (∀ i, busy = false → n = some i → used.contains i = true → reply stQpState [] w)
        ∧ (∀ i, busy = false → n = some i → used.contains i = false → reply stDone (leBytes 2 i ++ zeros 2 ++ leBytes 4 (0x1000 + i))
            (modHost (fun h => { h with qps := insertBy (fun q => q.index) (fresh i) h.qps }) w)))
    ∧ Serves s c sl (.qpConnect c sl) 0x11 (fun hw r => ownQp hw r (r.arg 0 2)) (fun r _ => r.shape 0x30 [(0x15, 3), (0x2E, 2)]
          && inRange 1 5 (r.arg 2 1) && r.arg 3 1 < 64 && r.arg 4 1 < 8 && r.arg 5 1 ≤ 14 && r.arg 6 1 ≤ 7 && r.arg 7 1 ≤ 7
          && r.arg 8 4 < 2 ^ 24 && r.arg 0xC 4 < 2 ^ 24 && r.arg 0x10 4 < 2 ^ 24 && r.arg 0x14 1 ≤ 1) (fun r w reply _ =>
        let i := r.arg 0 2
        let now := w.hw.time.now
        (findQp w.hw i = none → reply stNotFound [] w)
        ∧ (∀ q, findQp w.hw i = some q → q.state = 1 → q.outstanding ≠ [] → reply stQpState [] w)
        ∧ (∀ q, findQp w.hw i = some q → (q.state ≠ 1 ∨ q.outstanding = []) →
            let line := lineRate w.hw (q.code - 8)
            reply stDone (leBytes 4 (0x1000 + i) ++ zeros 4) (modQp i (fun x => { x with
              state := 1
              cause := 0
              mtu := 128 * 2 ^ r.arg 2 1
              dscp := r.arg 3 1
              priority := r.arg 4 1
              ackT := r.arg 5 1
              retry := r.arg 6 1
              rnr := r.arg 7 1
              peerQpn := r.arg 8 4
              sqPsn := r.arg 0xC 4
              rqPsn := r.arg 0x10 4
              gidIndex := r.arg 0x14 1
              peerGid := r.arg 0x18 16
              nextHop := r.arg 0x28 6
              outstanding := []
              waiting := []
              dropContext := 0
              rate := line
              target := line
              alpha := 2 ^ 32
              stage := 0
              cnpAt := now
              alphaAt := now
              incAt := now
              cnpSentAt := none }) w)))
    ∧ Serves s c sl (.qpDestroy c sl) 0x12 anyOwner (fun r _ => r.shape 4 [(2, 2)]) (fun r w reply _ =>
        (findQp w.hw (r.arg 0 2) = none → reply stNotFound [] w)
        ∧ (∀ q, findQp w.hw (r.arg 0 2) = some q →
          (q.outstanding ≠ [] → reply stTargetBusy [] w)
          ∧ (q.outstanding = [] → reply stDone [] (modHost (fun h => { h with qps := h.qps.filter (fun x => x.index != q.index) }) w))))
    ∧ Serves s c sl (.qpStatus c sl) 0x13 (fun hw r => ownQp hw r (r.arg 0 2)) (fun r _ => r.shape 4 [(2, 2)]) (fun r w reply _ =>
        (findQp w.hw (r.arg 0 2) = none → reply stNotFound [] w)
        ∧ (∀ q, findQp w.hw (r.arg 0 2) = some q → reply stDone (leBytes 1 q.state ++ leBytes 1 q.cause ++ leBytes 1 q.channel ++ leBytes 1 q.code
            ++ leBytes 4 (0x1000 + q.index) ++ leBytes 4 (q.outstanding.filter (fun x => x.sent)).length ++ leBytes 2 q.dropContext ++ zeros 2
            ++ leBytes 8 q.hostDropped) w))
    ∧ Serves s c sl (.regionRegister c sl) 0x14 (fun hw r => ownPlan hw r (r.arg 0 4) && (r.arg 6 1 != 3 || ownQp hw r (r.arg 0x1A 2)))
        (fun r w => regionFieldsOk r
          && (targetBusy w.hw 5 (r.arg 0 4) || (match findPlan w.hw (r.arg 0 4) with
            | some p => (match p.reservations[r.arg 4 2]? with
              | some e => p.channel != r.channel || e.kind != 1 || !(bit e.flags 0) || decide (r.arg 8 8 + r.arg 0x10 8 ≤ e.pages * 65536)
              | none => true)
            | none => true))) (fun r w reply _ =>
        (targetBusy w.hw 5 (r.arg 0 4) = true → reply stTargetBusy [] w)
        ∧ (targetBusy w.hw 5 (r.arg 0 4) = false →
          (findPlan w.hw (r.arg 0 4) = none → reply stNotFound [] w)
          ∧ (∀ p, findPlan w.hw (r.arg 0 4) = some p →
            (p.reservations[r.arg 4 2]? = none → reply stNotFound [] w)
            ∧ (∀ e, p.reservations[r.arg 4 2]? = some e →
              ((p.channel ≠ r.channel ∨ e.kind ≠ 1 ∨ bit e.flags 0 = false) → reply stNotPermitted [] w)
              ∧ (p.channel = r.channel → e.kind = 1 → bit e.flags 0 = true →
                let n := lowestFree (w.hw.host.regions.map (fun x => x.index)) 256 0
                let key := freeOf w % 2 ^ 32
                let new (i : Nat) : Region := ⟨i, p.id, r.arg 4 2, r.channel, r.arg 6 1, e.base + r.arg 8 8, r.arg 0x10 8, r.arg 0x18 2, r.arg 0x1A 2,
                  r.arg 0x1C 4, key, 0, 1, [], 0⟩
                (n = none → reply stNoResource [] w)
                ∧ (∀ i, n = some i → reply stDone (leBytes 2 i ++ zeros 2 ++ leBytes 4 key ++ leBytes 8 (e.base + r.arg 8 8))
                    (freeUsed (modHost (fun h => { h with regions := insertBy (fun x => x.index) (new i) h.regions }) w))))))))
    ∧ Serves s c sl (.regionRelease c sl) 0x15 (fun hw r => ownRegion hw r (r.arg 0 2)) (fun r _ => r.shape 4 [(2, 2)]) (fun r w reply _ =>
        let i := r.arg 0 2
        (findRegion w.hw i = none → reply stNotFound [] w)
        ∧ (∀ x, findRegion w.hw i = some x →
          (regionBusy w.hw i = true → reply stTargetBusy [] w)
          ∧ (regionBusy w.hw i = false → reply stDone [] (modHost (fun h => { h with
              regions := h.regions.filter (fun y => y.index != i)
              leaving := h.leaving ++ (if x.batches = [] then [] else [x])
              seals := h.seals.filter (fun y => y.region != i) }) w))))


/-- R33, R38, R41, R48, R49, R51, R52, R55, R75, R108, R351, R353, R362: the commands of plans, contexts, time, the floor and partitions: a plan that passes every
check is admitted and answered once its cores have fetched; release, list, context, fault and overrun reads answer what the module holds; a new
period or partition count waits for its tick, and is refused while plans are admitted; the floor is refused where a plan's core time would not
fit.
Where the rules leave a corner open, the clauses state the model's choice (log 42, 43, 62, 66 and 71). -/
def Obligations.PlanCommands : Prop :=
  ∀ (s : State) (c : Fin 18) (sl : Fin 64),
    (∀ (r : Request) (w : Work), Passes s 0x20 anyOwner c.val sl.val r w →
      let addr := r.arg 0 8
      let len := r.arg 8 4
      let b := w.read addr len
      let part := field b 0x0D 1
      let busy := targetBusy w.hw 1 0 || targetBusy w.hw 2 0
      let legal := r.shape 16 [(12, 4)] && addr % 16 == 0 && loadArea r.channel ≤ addr && addr + len ≤ loadArea r.channel + 0x10000000
      let refused (id : Nat) (f : PlanFail) : Prop := Replies (.planAdmit c sl) s r f.status (admitRefusal id f) w
      (busy = true → refused 0 ⟨stTargetBusy, 0, 0, 0⟩)
      ∧ (busy = false → legal = false → refused 0 ⟨stMalformed, 0, 0, 0⟩)
      ∧ (busy = false → legal = true → w.good addr len = false → refused 0 ⟨stUncorrectable, 0, 0, 0⟩)
      ∧ (busy = false → legal = true → w.good addr len = true →
        let id := if len < 8 then 0 else field b 4 4
        (∀ e, planShape b = .error e → refused id ⟨stMalformed, e, 0, 0⟩)
        ∧ (∀ sh, planShape b = .ok sh →
          let held := targetBusy w.hw 5 id || bindsBusy w.hw b sh
          let fresh := held = false ∧ findPlan w.hw id = none
          (held = true → refused id ⟨stTargetBusy, 0, 0, 0⟩)
          ∧ (held = false → findPlan w.hw id ≠ none → refused id ⟨stMalformed, 4, 0, 0⟩)
          ∧ (∀ e, fresh → least (planFaults w.hw b sh) = some e → refused id ⟨stMalformed, e, 0, 0⟩)
          ∧ (fresh → least (planFaults w.hw b sh) = none → ownPart w.hw r part = false → refused id ⟨stNotPermitted, 0, 0, 0⟩)
          ∧ (fresh → least (planFaults w.hw b sh) = none → ownPart w.hw r part = true →
            (∀ f, capacityChecks w.hw b sh = some f → refused id f)
            ∧ (capacityChecks w.hw b sh = none →
              let table := placeTable w.hw part (sh.reservations.map (readReservation b))
              (∀ f, table = .error f → refused id f)
              ∧ (∀ placed taken, table = .ok (placed, taken) →
                let need := spillPagesOf placed
                let used := usedRuns w.hw (.share part) ++ (taken.filter (fun t => t.1 == .share part)).map (fun t => t.2)
                let spill : Except Nat Nat := if need = 0 then .ok 0 else placeRun w.hw (.share part) used (need * 65536)
                (∀ n, spill = .error n → refused id ⟨stNoCapacity, 2, need, n⟩)
                ∧ (∀ a, spill = .ok a →
                  (∀ f, groupSlots w.hw b sh = .error f → refused id f)
                  ∧ (∀ groups, groupSlots w.hw b sh = .ok groups →
                    Pends (.planAdmit c sl) s r (some (5, id)) (admitPlan r b sh placed a groups w)))))))))
    ∧ Serves s c sl (.planRelease c sl) 0x21 (fun hw r => ownPlan hw r (r.arg 0 4)) (fun r _ => r.shape 8 [(4, 4)]) (fun r w reply _ =>
        let id := r.arg 0 4
        (targetBusy w.hw 5 id = true → reply stTargetBusy [] w)
        ∧ (targetBusy w.hw 5 id = false → findPlan w.hw id = none → reply stNotFound [] w)
        ∧ (targetBusy w.hw 5 id = false → findPlan w.hw id ≠ none → reply stDone
            (leBytes 8 (((findPlan (releasePlan id w).hw id).bind (fun p => p.lastFrame)).getD 0 % 2 ^ 48)) (releasePlan id w)))
    ∧ Serves s c sl (.planList c sl) 0x22 anyOwner (fun r _ => r.shape 4 [(2, 2)]) (fun r w reply _ =>
        let all := sortBy (fun p => p.id) (w.hw.plans.plans.filter (fun p => p.firstFrame.isSome && (16 ≤ r.channel || p.channel == r.channel)))
        let part := (all.drop (r.arg 0 2)).take (if r.channel = 17 then 245 else 251)
        reply stDone (leBytes 2 all.length ++ leBytes 2 part.length ++ zeros 4 ++ part.flatMap (fun p =>
          leBytes 4 p.id ++ leBytes 1 p.part ++ leBytes 1 p.channel ++ leBytes 2 p.cores.length ++ leBytes 8 (p.firstFrame.getD 0 % 2 ^ 48))) w)
    ∧ Serves s c sl (.ctxStatusRead c sl) 0x23 (fun hw r => ownContext hw r (r.arg 0 2)) (fun r _ => r.shape 4 [(2, 2)] && r.arg 0 2 ≤ 0xFFF)
        (fun r w reply _ =>
          (contextHolder w.hw (r.arg 0 2) = none → reply stNotFound [] w)
          ∧ (∀ p core, contextHolder w.hw (r.arg 0 2) = some (p, core) →
            let x := coreOf w.hw core
            reply stDone (leBytes 4 (x.ctx + 2 ^ 12 + 2 ^ 13 * b2n x.running + 2 ^ 14 * b2n x.aborted + 2 ^ 15 * b2n x.faulted
              + 2 ^ 16 * x.lastFault)) w))
    ∧ Serves s c sl (.coreFaultRead c sl) 0x24 (fun hw r => ownFault hw r (r.arg 0 2)) (fun r _ => r.shape 4 [(2, 2)] && r.arg 0 2 ≤ 255)
        (fun r w reply _ =>
          ((coreOf w.hw (r.arg 0 2)).fault = none → reply stNotFound [] w)
          ∧ (∀ f, (coreOf w.hw (r.arg 0 2)).fault = some f →
            reply stDone (faultRecord f ++ leBytes 8 (coreOf w.hw (r.arg 0 2)).faultFrame) w))
    ∧ Serves s c sl (.overrunRead c sl) 0x25 anyOwner (fun r _ => r.shape 4 [(1, 3)] && inRange 1 60 (r.arg 0 1)) (fun r w reply _ =>
        let l := w.hw.host.overruns.take (r.arg 0 1)
        reply stDone (leBytes 8 w.hw.host.overrunLost ++ leBytes 2 l.length ++ zeros 6 ++ l.flatten)
          (modHost (fun h => { h with overruns := h.overruns.drop (r.arg 0 1) }) w))
    ∧ Serves s c sl (.tickPeriodSet c sl) 0x26 anyOwner (fun r _ => r.shape 4 [(2, 2)] && inRange 5 500 (r.arg 0 2)) (fun r w reply later =>
        (targetBusy w.hw 1 0 = true → reply stTargetBusy [] w)
        ∧ (targetBusy w.hw 1 0 = false → w.hw.plans.plans ≠ [] → reply stPlanActive [] w)
        ∧ (targetBusy w.hw 1 0 = false → w.hw.plans.plans = [] → later (some (1, 0)) (modHost (fun h => { h with
            periodAnswer := some (r.channel, r.slot) }) (modTime (fun t => { t with periodNext := some (w.hw.time.tickAt + 2 * period w.hw, r.arg 0 2) }) w))))
    ∧ Serves s c sl (.timeRoleSet c sl) 0x27 anyOwner (fun r _ => r.shape 4 [(1, 3)] && r.arg 0 1 ≤ 1) (fun r w reply _ =>
        reply stDone [] (modTime (fun t => { t with roleNext := some (r.arg 0 1 == 1) }) w))
    ∧ Serves s c sl (.timeRead c sl) 0x28 anyOwner (fun r _ => r.shape 0 []) (fun r w reply _ =>
        reply stDone (leBytes 8 r.foundAt ++ leBytes 8 r.tick ++ leBytes 4 (timeStatus w.hw)
          ++ leBytes 4 (ofSigned 32 w.hw.time.offset) ++ leBytes 4 (tickConfig w.hw) ++ zeros 4) w)
    ∧ (∀ (r : Request) (w : Work), Passes s 0x29 anyOwner c.val sl.val r w →
        let floor := r.arg 0 1
        let legal := r.shape 4 [(1, 3)] && inRange 16 64 floor
        let conflict := if floor < w.hw.time.floor then least ((w.hw.plans.plans.filter (failsAtFloor w.hw floor)).map (fun p => p.id)) else none
        (legal = false → Replies (.floorSet c sl) s r stMalformed (zeros 16) w)
        ∧ (∀ id, legal = true → conflict = some id → Replies (.floorSet c sl) s r stFloorConflict (zeros 8 ++ leBytes 4 id ++ zeros 4) w)
        ∧ (legal = true → conflict = none → Replies (.floorSet c sl) s r stDone (leBytes 8 ((w.hw.time.tick + 1) % 2 ^ 48) ++ zeros 8)
            (modTime (fun t => { t with floorNext := some floor }) w)))
    ∧ Serves s c sl (.partitionSet c sl) 0x2A anyOwner (fun r _ => r.shape 4 [(1, 3)] && (r.arg 0 1 == 1 || r.arg 0 1 == 2 || r.arg 0 1 == 4))
        (fun r w reply later =>
          (targetBusy w.hw 2 0 = true → reply stTargetBusy [] w)
          ∧ (targetBusy w.hw 2 0 = false → w.hw.plans.plans ≠ [] → reply stPlanActive [] w)
          ∧ (targetBusy w.hw 2 0 = false → w.hw.plans.plans = [] → later (some (2, 0))
              (modHost (fun h => { h with partitionNext := some (r.channel, r.slot, r.arg 0 1) }) w)))

/-- R188 to R192, R205, R208, R352: the commands of objects and the pager: an object is created with zeros where it is new and fits, deleted where no plan
binds it, copied to or from a registered region page by page while its command goes on, and reported; a flush is answered when it ends; the pager's
counters come from the snapshot of the tick of the scan.
Where the rules leave a corner open, the clauses state the model's choice (log 27 and 44). -/
def Obligations.ObjectCommands : Prop :=
  ∀ (s : State) (c : Fin 18) (sl : Fin 64),
    let copies (i : Instr) (code : Nat) (write : Bool) : Prop :=
      ∀ (r : Request) (w : Work), Passes s code (fun hw r => ownRegion hw r (r.arg 12 2)) c.val sl.val r w →
        let legal := r.shape 28 [(14, 6)] && inRange 1 16384 (r.arg 8 4) && r.arg 20 8 % 65536 == 0
        (legal = false → Replies i s r stMalformed [] w)
        ∧ (legal = true → regionBusy w.hw (r.arg 12 2) = true → Replies i s r stTargetBusy [] w)
        ∧ (legal = true → regionBusy w.hw (r.arg 12 2) = false → findRegion w.hw (r.arg 12 2) = none → Replies i s r stNotFound [] w)
        ∧ (∀ x, legal = true → regionBusy w.hw (r.arg 12 2) = false → findRegion w.hw (r.arg 12 2) = some x →
          (findPlan w.hw x.plan = none → Replies i s r stNotFound [] w)
          ∧ (∀ p, findPlan w.hw x.plan = some p →
            (p.channel ≠ r.channel → Replies i s r stNotPermitted [] w)
            ∧ (p.channel = r.channel → objectBusy w.hw p.part (r.arg 0 4) = true → Replies i s r stTargetBusy [] w)
            ∧ (p.channel = r.channel → objectBusy w.hw p.part (r.arg 0 4) = false → findObject w.hw p.part (r.arg 0 4) = none →
              Replies i s r stNotFound [] w)))
        ∧ (∀ x p o, legal = true → regionBusy w.hw (r.arg 12 2) = false → findRegion w.hw (r.arg 12 2) = some x → findPlan w.hw x.plan = some p →
          p.channel = r.channel → objectBusy w.hw p.part (r.arg 0 4) = false → findObject w.hw p.part (r.arg 0 4) = some o →
          (o.bound ≠ none → Replies i s r stObjectBusy [] w)
          ∧ (o.bound = none → (o.pages < r.arg 4 4 + r.arg 8 4 ∨ x.length < r.arg 20 8 + r.arg 8 4 * 65536) → Replies i s r stMalformed [] w)
          ∧ (o.bound = none → r.arg 4 4 + r.arg 8 4 ≤ o.pages → r.arg 20 8 + r.arg 8 4 * 65536 ≤ x.length →
            Pends i s r none (modHost (fun h => { h with copies := h.copies ++
              [⟨r.channel, r.slot, write, p.part, r.arg 0 4, r.arg 4 4, r.arg 8 4, r.arg 12 2, r.arg 20 8, 0⟩] }) w)))
    Serves s c sl (.objectCreate c sl) 0x30 anyOwner (fun r w =>
        let packed := r.arg 1 1 == 1
        let formats := (if packed then packPair (r.arg 2 1) (r.arg 3 1) else r.arg 2 1 == 0 && r.arg 3 1 == 0)
          && (r.arg 12 1 % 2 == 0 || r.arg 3 1 == 0x08 || r.arg 3 1 == 0x09)
        r.shape 16 [(13, 3)] && r.arg 0 1 < partCount w.hw && r.arg 1 1 ≤ 1 && formats && r.arg 4 4 != 0 && r.arg 4 4 < 2 ^ 31 && r.arg 8 4 != 0
          && r.arg 12 1 ≤ 3) (fun r w reply _ =>
        let part := r.arg 0 1
        let o : PObj := ⟨part, r.arg 4 4, 0, r.arg 8 4, r.arg 1 1 == 1, r.arg 2 1, r.arg 3 1, r.arg 12 1 % 2, bit (r.arg 12 1) 1, none, 0, 0, 0, 0,
          none⟩
        let full := 1048576 ≤ (w.hw.pager.objects.filter (fun x => x.plan == 0)).length
        (ownPart w.hw r part = false → reply stNotPermitted [] w)
        ∧ (ownPart w.hw r part = true → objectBusy w.hw part o.id = true → reply stTargetBusy [] w)
        ∧ (ownPart w.hw r part = true → objectBusy w.hw part o.id = false →
          ((findObject w.hw part o.id).isSome = true → reply stObjectExists [] w)
          ∧ (findObject w.hw part o.id = none → full → reply stNoResource [] w)
          ∧ (findObject w.hw part o.id = none → ¬full → freeTier3 w.hw part < storedPages o → reply stNoCapacity [] w)
          ∧ (findObject w.hw part o.id = none → ¬full → storedPages o ≤ freeTier3 w.hw part → reply stDone [] ((freeFlash part o.id w).up fun h =>
              { h with pager := { h.pager with objects := h.pager.objects ++ [o] } }))))
    ∧ Serves s c sl (.objectDelete c sl) 0x31 (fun hw r => ownPart hw r (r.arg 0 1)) (fun r w => r.shape 8 [(1, 3)] && r.arg 0 1 < partCount w.hw)
        (fun r w reply _ =>
          let part := r.arg 0 1
          let id := r.arg 4 4
          (objectBusy w.hw part id = true → reply stTargetBusy [] w)
          ∧ (objectBusy w.hw part id = false → findObject w.hw part id = none → reply stNotFound [] w)
          ∧ (∀ o, objectBusy w.hw part id = false → findObject w.hw part id = some o →
            (o.bound ≠ none → reply stObjectBusy [] w)
            ∧ (o.bound = none → reply stDone [] ((freeFlash part id w).up fun h => { h with pager := { h.pager with
                objects := h.pager.objects.filter (fun x => !(x.plan == 0 && x.part == part && x.id == id))
                resident := h.pager.resident.filter (fun x => !(x.owner == 0 && x.part == part && x.obj == id))
                journal := h.pager.journal.filter (fun x => !(x.part == part && x.obj == id)) } }))))
    ∧ copies (.objectRead c sl) 0x32 false ∧ copies (.objectWrite c sl) 0x33 true
    ∧ (∀ t3, s.hw.host.copies.find? (fun y => y.channel == c.val && y.slot == sl.val) = none →
        AnswersWith (.objectCopyDone c sl t3) s (beginWork s))
    ∧ (∀ (x : ObjCopy) (t3 : T3Read), s.hw.host.copies.find? (fun y => y.channel == c.val && y.slot == sl.val) = some x →
        let mine (y : ObjCopy) : Bool := y.channel == c.val && y.slot == sl.val
        let ended (status : Nat) (payload : List Byte) (w : Work) : Work := answerLater c.val sl.val status payload
          (modHost (fun h => { h with copies := h.copies.filter (fun y => !(mine y)) }) w)
        (pagerLive s.hw = false → AnswersWith (.objectCopyDone c sl t3) s (beginWork s))
        ∧ (pagerLive s.hw = true → (findRegion s.hw x.region = none ∨ findObject s.hw x.part x.obj = none) →
          AnswersWith (.objectCopyDone c sl t3) s (ended stNotFound (leBytes 4 x.done) (beginWork s)))
        ∧ (∀ reg o, pagerLive s.hw = true → findRegion s.hw x.region = some reg → findObject s.hw x.part x.obj = some o →
          let out := copyPages x reg o t3 (x.count - x.done) x.done (beginWork s)
          (out.2.1 = true → AnswersWith (.objectCopyDone c sl t3) s (ended stUncorrectable (leBytes 4 out.1) out.2.2))
          ∧ (out.2.1 = false → out.1 = x.count → AnswersWith (.objectCopyDone c sl t3) s (ended stDone [] out.2.2))
          ∧ (out.2.1 = false → out.1 ≠ x.count → AnswersWith (.objectCopyDone c sl t3) s (modHost (fun h => { h with
              copies := h.copies.map (fun y => if mine y then { y with done := out.1 } else y) }) out.2.2))))
    ∧ Serves s c sl (.objectStatus c sl) 0x34 (fun hw r => ownPart hw r (r.arg 0 1)) (fun r w => r.shape 8 [(1, 3)] && r.arg 0 1 < partCount w.hw)
        (fun r w reply _ =>
          (objectBusy w.hw (r.arg 0 1) (r.arg 4 4) = true → reply stTargetBusy [] w)
          ∧ (objectBusy w.hw (r.arg 0 1) (r.arg 4 4) = false → findObject w.hw (r.arg 0 1) (r.arg 4 4) = none → reply stNotFound [] w)
          ∧ (∀ o, objectBusy w.hw (r.arg 0 1) (r.arg 4 4) = false → findObject w.hw (r.arg 0 1) (r.arg 4 4) = some o →
            reply stDone (objectRecord w.hw o) w))
    ∧ Serves s c sl (.journalFlush c sl) 0x35 anyOwner (fun r _ => r.shape 4 [(0, 4)]) (fun r w _ later =>
        later none (feedJournal (w.up fun h => { h with pager := { h.pager with
          flushes := h.pager.flushes ++ [⟨.command, none, 0, some (r.channel, r.slot)⟩] } })))
    ∧ Serves s c sl (.pagerRead c sl) 0x36 (fun hw r => ownPart hw r (r.arg 0 1)) (fun r w => r.shape 4 [(1, 3)] && r.arg 0 1 < partCount w.hw)
        (fun r w reply _ =>
          let p := r.arg 0 1
          let v (i : Nat) : Nat := tabGet 0 (snapOf w.hw r).ctr (2 * 2 ^ 20 + i)
          reply stDone (leBytes 8 (v p) ++ leBytes 8 (v (4 + p)) ++ leBytes 8 (v (8 + p)) ++ leBytes 8 (v (12 + p)) ++ leBytes 8 (v 16)
            ++ leBytes 8 (v 18) ++ leBytes 8 (v 19) ++ leBytes 2 (v 17) ++ leBytes 2 (v 20) ++ leBytes 4 (v (21 + p)) ++ leBytes 8 (v (25 + p))
            ++ zeros 8) w)

/-- R263, R278, R363, R364, R540, R541, R543, R547, R551, R554: the commands of groups, plane ports and observability: a group's records are read from the
table; a port is enabled, disabled or retrained, and its weights are taken at the next tick; counters and monitors are read from the
snapshot of the tick of the scan, where it is kept, a monitor being cleared at it where asked; trace and monitor settings are taken at the next tick, and the trace ring is read.
Where the rules leave a corner open, the clauses state the model's choice (log 36 and 54). -/
def Obligations.PortAndObservationCommands : Prop :=
  ∀ (s : State) (c : Fin 18) (sl : Fin 64),
    Serves s c sl (.groupRead c sl) 0x40 anyOwner (fun r _ => r.shape 8 [(5, 1)] && r.arg 4 1 ≤ 1) (fun r w reply _ =>
        (findGroup w.hw (r.arg 0 4) = none → reply stNotFound [] w)
        ∧ (∀ g, findGroup w.hw (r.arg 0 4) = some g →
          (ownPlan w.hw r g.plan = false → reply stNotFound [] w)
          ∧ (ownPlan w.hw r g.plan = true →
            let a := groupTableBase + g.slot * 0x40000
            let first := r.arg 6 2
            (r.arg 4 1 = 0 → let n := min (g.members.length - first) 992
              reply stDone (leBytes 2 g.slot ++ leBytes 2 n ++ leBytes 4 g.plan ++ w.read a 32 ++ w.read (a + 32 + first * 4) (n * 4)) w)
            ∧ (r.arg 4 1 = 1 → let n := min (g.racks.length - first) 63
              reply stDone (leBytes 2 g.slot ++ leBytes 2 n ++ leBytes 4 g.plan ++ w.read a 32
                ++ w.read (a + 32 + 4 * g.members.length + first * 8) (n * 8)) w))))
    ∧ Serves s c sl (.plinkSet c sl) 0x41 anyOwner (fun r _ => r.shape 4 [(2, 2)] && r.arg 0 1 ≤ 5 && r.arg 1 1 ≤ 3) (fun r w reply _ =>
        let p := r.arg 0 1
        let port := portOf w.hw p
        let enabled := modPort p (fun q => { q with enabled := true }) w
        (portBusy w.hw 5 p = true → reply stTargetBusy [] w)
        ∧ (portBusy w.hw 5 p = false → r.arg 1 1 = 0 → port.state ≠ .disabled → reply stDone [] w)
        ∧ (portBusy w.hw 5 p = false → r.arg 1 1 = 0 → port.state = .disabled → reply stDone []
            (publishUnit (17 + p) 0 0 (modPort p (fun q => { q with state := afterDown enabled.hw p }) enabled)))
        ∧ (portBusy w.hw 5 p = false → r.arg 1 1 = 1 → reply stDone [] (publishUnit (17 + p) 5 6 (linkDown p 6 .disabled (modPort p (fun q => { q with
            enabled := false
            retryAt := none }) w))))
        ∧ (portBusy w.hw 5 p = false → 2 ≤ r.arg 1 1 → port.state ≠ .active → reply stDone [] w)
        ∧ (portBusy w.hw 5 p = false → 2 ≤ r.arg 1 1 → port.state = .active → reply stDone [] (modPort p (fun q => { q with fullTraining := r.arg 1 1 == 3 })
            (linkDown p 6 (afterDown w.hw p) w))))
    ∧ Serves s c sl (.plinkArbSet c sl) 0x42 anyOwner (fun r _ => r.shape 8 [(1, 1)] && r.arg 0 1 ≤ 63
          && !(((List.range 6).map (fun i => r.arg (2 + i) 1)).contains 0)) (fun r w reply _ =>
        let busy := (List.range 6).any (fun p => bit (r.arg 0 1) p && portBusy w.hw 5 p)
        (busy = true → reply stTargetBusy [] w)
        ∧ (busy = false → reply stDone [] (w.up fun h => { h with links := { h.links with
          weightsNext := h.links.weightsNext ++ [(r.arg 0 1, (List.range 6).map (fun i => r.arg (2 + i) 1))] } })))
    ∧ Serves s c sl (.plinkRead c sl) 0x43 anyOwner (fun r _ => r.shape 4 [(1, 3)] && r.arg 0 1 ≤ 5) (fun r w reply _ =>
        let port := portOf w.hw (r.arg 0 1)
        reply stDone (leBytes 4 (plinkStatus port) ++ leBytes 4 port.rxMask ++ leBytes 4 port.txMask ++ zeros 4 ++ leBytes 8 (plinkPeer port)
          ++ (weightsOf w.hw (r.arg 0 1)).flatMap (leBytes 1) ++ zeros 2) w)
    ∧ Serves s c sl (.counterRead c sl) 0x50 anyOwner (fun r _ => r.shape 12 [(2, 2), (10, 2)] && blockSize (r.arg 0 1) != 0 && r.arg 1 1 ≤ 1
          && inRange 1 500 (r.arg 8 2) && r.arg 4 4 + r.arg 8 2 ≤ blockSize (r.arg 0 1)) (fun r w reply _ =>
        let delta := r.arg 1 1 == 1
        let snap := if delta then w.hw.snapCur else snapOf w.hw r
        let value (i : Nat) : Nat :=
          let v := snapValue w.hw snap (r.arg 0 1) i
          if delta && !(isCurrent (r.arg 0 1) i) then (v + 2 ^ 64 - snapValue w.hw w.hw.snapPrev (r.arg 0 1) i) % 2 ^ 64 else v
        reply stDone (leBytes 8 snap.tick ++ leBytes 4 (blockSize (r.arg 0 1)) ++ zeros 4 ++ (List.range (r.arg 8 2)).flatMap (fun i =>
          leBytes 8 (value (r.arg 4 4 + i)))) w)
    ∧ Serves s c sl (.traceSet c sl) 0x51 mayTrace (fun r w => r.shape 32 [(2, 2), (0x10, 16)] && r.arg 0 1 ≤ 31
          && (r.arg 1 1 == 0 || inRange 4 64 (r.arg 1 1)) && (if r.arg 4 4 = 0 then r.arg 8 4 == 0 || r.arg 8 4 == 256
            else r.arg 8 4 < 64 && (findPlan w.hw (r.arg 4 4)).isSome) && r.arg 0x0C 4 < 2 ^ 18) (fun r w reply _ =>
        let grows := r.arg 1 1 != 0 && r.arg 1 1 != (burinAhead w.hw).gib
        (grows = true → w.hw.plans.plans ≠ [] → reply stPlanActive [] w)
        ∧ ((grows = false ∨ w.hw.plans.plans = []) → reply stDone [] (w.up fun h => { h with burin := { h.burin with
            settings := h.burin.settings ++ [⟨r.arg 0 1, r.arg 1 1, r.arg 4 4, r.arg 8 4, r.arg 0x0C 4⟩] } })))
    ∧ Serves s c sl (.traceRead c sl) 0x52 anyOwner (fun r _ => r.shape 16 [(10, 6)] && inRange 1 125 (r.arg 8 2)) (fun r w reply _ =>
        let b := w.hw.burin
        let first := max (r.arg 0 8) b.oldest
        let n := min (r.arg 8 2) (b.next - first)
        (∀ i, (List.range n).find? (fun i => !(w.good (ringAddr w.hw (first + i)) 32)) = some i →
          reply stUncorrectable [] (uncorrectableAt (ringAddr w.hw (first + i)) w))
        ∧ ((List.range n).all (fun i => w.good (ringAddr w.hw (first + i)) 32) = true → reply stDone (leBytes 8 b.next ++ leBytes 8 b.oldest
            ++ leBytes 2 n ++ zeros 14 ++ (List.range n).flatMap (fun i => w.read (ringAddr w.hw (first + i)) 32)) w))
    ∧ Serves s c sl (.stippleSet c sl) 0x53 mayMonitor (fun r _ => inRange 1 64 (r.arg 1 1) && r.shape (4 + 16 * r.arg 1 1) [(2, 2)]
          && r.arg 0 1 + r.arg 1 1 ≤ 64 && (List.range (r.arg 1 1)).all (monitorOk r)) (fun r w reply _ =>
        reply stDone [] (w.up fun h => { h with
          monitorsNext := h.monitorsNext ++ (List.range (r.arg 1 1)).map (fun i => (r.arg 0 1 + i, monitorOf r i)) }))
    ∧ Serves s c sl (.stippleRead c sl) 0x54 anyOwner (fun r _ => r.shape 4 [(3, 1)] && inRange 1 23 (r.arg 1 1) && r.arg 0 1 + r.arg 1 1 ≤ 64
          && r.arg 2 1 ≤ 1) (fun r w reply _ =>
        let all := (List.range (r.arg 1 1)).map (fun i => r.arg 0 1 + i)
        let snap := snapOf w.hw r
        let payload := leBytes 8 snap.tick ++ zeros 8 ++ all.flatMap (fun i => monitorBytes (tabGet {} snap.monitors i))
        (r.arg 2 1 = 0 → reply stDone payload w)
        ∧ (r.arg 2 1 = 1 → reply stDone payload (forEach all (clearAtSnapshot (snap.tick != w.hw.snapCur.tick)) w)))


/-- R479, R481, R484, R492, R505 to R507: the commands of fault collection and recovery: the history is reported and the pin released where asked, reactions
and the hang detector are set at the next tick where they are permitted, a domain reset is answered when the domain is back, and a module reset
follows its orderly flush.
Where the rules leave a corner open, the clauses state the model's choice (log 45 and 52). -/
def Obligations.RecoveryCommands : Prop :=
  ∀ (s : State) (c : Fin 18) (sl : Fin 64),
    Serves s c sl (.faultHistoryRead c sl) 0x60 mayAcknowledge (fun r _ => r.shape 4 [(1, 3)] && r.arg 0 1 ≤ 1) (fun r w reply _ =>
        let released := w.up fun h => { h with fault := { h.fault with pinHeld := false } }
        (r.arg 0 1 = 1 → reply stDone (historyReport released.hw) released) ∧ (r.arg 0 1 = 0 → reply stDone (historyReport w.hw) w))
    ∧ Serves s c sl (.faultReactionSet c sl) 0x61 anyOwner (fun r _ =>
        let es := (List.range (r.arg 0 1)).map (fun i => (r.arg (4 + 2 * i) 1, r.arg (5 + 2 * i) 1))
        inRange 1 64 (r.arg 0 1) && r.shape (4 + 2 * r.arg 0 1) [(1, 3)] && es.all (fun e => e.1 ≤ 32 && e.2 ≤ 31)
          && noRepeats (es.map (fun e => e.1))) (fun r w reply _ =>
        let es := (List.range (r.arg 0 1)).map (fun i => (r.arg (4 + 2 * i) 1, r.arg (5 + 2 * i) 1))
        (es.any reactionRefused = true → reply stNotPermitted [] w)
        ∧ (es.any reactionRefused = false → reply stDone [] (w.up fun h => { h with fault := { h.fault with
            reactionNext := h.fault.reactionNext ++ es } })))
    ∧ Serves s c sl (.domainReset c sl) 0x62 anyOwner (fun r _ => r.shape 4 [(2, 2)] && inRange 1 6 (r.arg 0 1)) (fun r w reply later =>
        (domainCount w.hw (r.arg 0 1) ≤ r.arg 1 1 → reply stNotFound [] w)
        ∧ (r.arg 1 1 < domainCount w.hw (r.arg 0 1) → later none (beginReset (r.arg 0 1) (r.arg 1 1) 4 0
            (some (r.channel, r.slot, w.hw.time.tickAt - (w.hw.time.tick - r.tick) * period w.hw)) w)))
    ∧ Serves s c sl (.moduleReset c sl) 0x63 anyOwner (fun r _ => r.shape 4 [(0, 4)]) (fun _ w _ later =>
        ((isSafe w.hw = true ∨ pagerLive w.hw = false) → later none (moduleReset .kept false w))
        ∧ (isSafe w.hw = false → pagerLive w.hw = true →
            later none (startFlush .reset (some (w.hw.time.now + 30000000000)) none (releaseAll w))))
    ∧ (∀ (r : Request) (w : Work), Passes s 0x64 anyOwner c.val sl.val r w →
        let n := r.arg 1 1
        let wins := (List.range n).map (fun i => (r.arg (4 + 8 * i) 4, r.arg (8 + 8 * i) 4))
        let fits := wins.all (fun x => x.1 % 16 == 0 && x.2 % 16 == 0 && x.1 + x.2 ≤ scratchBytes)
          && decide ((wins.map (fun x => x.2)).foldl (· + ·) 65536 ≤ 262144)
        let unused := (List.range (4 - n)).all (fun i => r.arg (8 + 8 * (n + i)) 4 == 0)
        let legal := r.shape 36 [(2, 2)] && r.arg 0 1 != 1 && (n == 255 || (n ≤ 4 && fits && unused))
        let taken (x : Option (List (Nat × Nat))) : Work := w.up fun h => { h with hang := { h.hang with next := h.hang.next ++ [(r.arg 0 1, x)] } }
        (legal = false → Replies (.hangSet c sl) s r stMalformed (hangReport w.hw) w)
        ∧ (legal = true → n = 255 → Replies (.hangSet c sl) s r stDone (hangReport w.hw) (taken none))
        ∧ (legal = true → n ≠ 255 → Replies (.hangSet c sl) s r stDone (hangReport w.hw) (taken (some wins))))

/-- R391, R404 to R407, R409, R410, R429, R463 to R465: the commands of power: a request is logged with its outcome and takes force at the next tick, an order
for STANDBY or OFF goes on until its transition ends, a policy and an orphan cap are taken at the next tick; a failed module takes of these two only OFF, once its
journal is drained; the power and ageing reads answer the registers.
Where the rules leave a corner open, the clauses state the model's choice (log 49). -/
def Obligations.PowerCommands : Prop :=
  ∀ (s : State) (c : Fin 18) (sl : Fin 64) (r : Request) (w : Work),
    let order := r.arg 0 1
    let code := if inRange 1 3 order then order + 1 else 0xFF
    let cap := r.arg 0 2
    let orderLegal := r.shape 8 [(1, 1)] && inRange 1 3 order && (if order = 3 then policyOk r else r.arg 2 6 == 0)
    let capLegal := r.shape 4 [(2, 2)] && (cap == 0 || (inRange 650 2800 cap && cap % 5 == 0))
    let asked := logPower r.channel 1 cap (requestOutcome w.hw r.channel cap)
      (modLantern (fun l => { l with requestsNext := l.requestsNext ++ [(r.channel, cap)] }) w)
    let refused := logPower r.channel code 0 3 w
    (Passes s 0x70 anyOwner c.val sl.val r w →
      (capLegal = false → Replies (.powerRequest c sl) s r stMalformed [] (logPower r.channel 1 cap 3 w))
      ∧ (capLegal = true → Replies (.powerRequest c sl) s r stDone (leBytes 4 (capStatus asked.hw) ++ leBytes 8 (capTerms asked.hw)) asked))
    ∧ (Passes s 0x71 anyOwner c.val sl.val r w →
      (orderLegal = false → Replies (.powerOrder c sl) s r stMalformed [] refused)
      ∧ (orderLegal = true → w.hw.keep.phase = 15 → order = 2 → w.hw.keep.drained = true → Replies (.powerOrder c sl) s r stDone []
          (modMoves (fun l => l ++ [.removal true false (w.hw.time.now + 100000000)]) (logPower r.channel 3 0 0 w)))
      ∧ (orderLegal = true → w.hw.keep.phase = 15 → order ≠ 3 → (order ≠ 2 ∨ w.hw.keep.drained = false) → Replies (.powerOrder c sl) s r stNotPermitted [] refused)
      ∧ (orderLegal = true → order = 3 → Replies (.powerOrder c sl) s r stDone [] (logPower r.channel 4 0 0
          (modLantern (fun l => { l with policyNext := some (r.arg 2 2, r.arg 4 2, r.arg 6 1, r.arg 7 1) }) w)))
      ∧ (orderLegal = true → w.hw.keep.phase ≠ 15 → order ≠ 3 → w.hw.power.moves ≠ [] → Replies (.powerOrder c sl) s r stTargetBusy [] refused)
      ∧ (orderLegal = true → w.hw.keep.phase ≠ 15 → order ≠ 3 → w.hw.power.moves = [] → Pends (.powerOrder c sl) s r none (logPower r.channel code 0 0
          (modMoves (fun l => l ++ [.accepted (order == 2) false w.hw.time.now (some (r.channel, r.slot))]) (releaseAll w)))))
    ∧ (Passes s 0x72 anyOwner c.val sl.val r w →
      let legal := r.shape 4 [(1, 3)] && inRange 25 100 order
      (legal = false → Replies (.orphanCapSet c sl) s r stMalformed [] (logPower r.channel 5 order 3 w))
      ∧ (legal = true → Replies (.orphanCapSet c sl) s r stDone [] (logPower r.channel 5 order 0
          (modLantern (fun l => { l with orphanNext := some order }) w))))
    ∧ Serves s c sl (.powerRead c sl) 0x73 anyOwner (fun r _ => r.shape 0 []) (fun _ w reply _ =>
        let cupola := (List.range 8).foldl (fun n k => n + 4 ^ k * (spotOf w.hw (120 + k)).status) 0
        reply stDone (leBytes 4 (capStatus w.hw) ++ leBytes 4 (supplyStatus w.hw) ++ leBytes 4 (coolantStatus w.hw)
          ++ leBytes 2 (w.hw.lantern.appliedCap / 5000000) ++ leBytes 2 w.hw.power.meanPower ++ leBytes 8 (capTerms w.hw)
          ++ (List.range 4).flatMap (fun k => leBytes 4 (thermalStatus w.hw k)) ++ (List.range 4).flatMap (fun k => leBytes 8 (hotspotStatus w.hw k))
          ++ (List.range 4).flatMap (fun k => leBytes 1 (spirePower w.hw k).matrixRate) ++ leBytes 2 cupola
          ++ leBytes 2 (ofSigned 16 w.hw.lantern.inlet) ++ leBytes 2 (ofSigned 16 w.hw.lantern.outlet) ++ leBytes 2 w.hw.lantern.flow ++ zeros 12) w)
    ∧ Serves s c sl (.ageingRead c sl) 0x74 anyOwner (fun r _ => r.shape 0 []) (fun _ w reply _ =>
        reply stDone (leBytes 4 (poweredHours w.hw) ++ leBytes 4 w.hw.power.nextReview ++ leBytes 8 w.hw.power.stale
          ++ (List.range 4).flatMap (fun k => let p := spirePower w.hw k
            leBytes 2 p.worstSlack ++ leBytes 2 p.baseline ++ leBytes 1 p.voltSteps ++ leBytes 1 p.outcome ++ zeros 2 ++ leBytes 4 p.lastReview
              ++ zeros 4)) w)

/-- R509 to R513, R515, R518, R529, R530, R533: the commands of mirror pairs: a pair is formed as a standby that seeks its partner, or dissolved with its
lease released; a grant with a newer epoch sets the lease or ends it; a switch-over waits for the standby on a holder; a window is set in a placed
part of its plan at the next tick; a pair is reported.
Where the rules leave a corner open, the clauses state the model's choice (log 53). -/
def Obligations.MirrorCommands : Prop :=
  ∀ (s : State) (c : Fin 18) (sl : Fin 64),
    Serves s c sl (.pairSet c sl) 0x80 anyOwner (fun r w => r.shape 32 [(3, 1), (0x12, 14)] && r.arg 0 1 ≤ 1 && r.arg 2 1 ≤ 3
          && r.arg 1 1 < partCount w.hw && !(pairRefused w.hw r)) (fun r w reply _ =>
        let part := r.arg 1 1
        (w.hw.plans.plans.any (fun p => p.part == part) = true → reply stPlanActive [] w)
        ∧ (w.hw.plans.plans.any (fun p => p.part == part) = false →
          (r.arg 0 1 = 0 → reply stDone [] (dissolvePair part w))
          ∧ (r.arg 0 1 = 1 → reply stDone [] ((dissolvePair part w).up fun h => { h with mirror := { h.mirror with
              pairs := h.mirror.pairs ++ [freshPair r] } }))))
    ∧ (∀ (r : Request) (w : Work), Passes s 0x81 anyOwner c.val sl.val r w →
        (findPair w.hw (r.arg 0 1) = none → Replies (.leaseGrant c sl) s r stMalformed [] w)
        ∧ (∀ p, findPair w.hw (r.arg 0 1) = some p →
          let mode := r.arg 1 1
          let expires := r.arg 0x10 8
          let ending := modPair p.part (fun q => { q with
            epoch := r.arg 8 8
            expires := 0
            releaseNext := q.releaseNext || q.role == .holder }) w
          let granted := if mode = 2 then (if p.role == .holder then becomeStandby p.part ending else ending)
            else modPair p.part (fun q => { q with
              epoch := r.arg 8 8
              expires := expires
              partnerExpires := if mode = 1 || q.role == .standby then r.arg 0x18 8 else q.partnerExpires }) w
          let legal := r.shape 32 [(2, 6)] && mode ≤ 2 && decide (w.hw.time.now < expires) && decide (expires ≤ w.hw.time.now + 2000000000)
            && decide (p.epoch < r.arg 8 8) && (mode == 1 || r.arg 0x18 8 == 0)
          (legal = false → Replies (.leaseGrant c sl) s r stMalformed [] w)
          ∧ (legal = true → Replies (.leaseGrant c sl) s r stDone (reportOf granted.hw (r.arg 0 1)) granted)))
    ∧ Serves s c sl (.switchOver c sl) 0x82 anyOwner (fun r w => r.shape 4 [(1, 3)] && r.arg 0 1 < partCount w.hw) (fun r w reply later =>
        let part := r.arg 0 1
        (findPair w.hw part = none → reply stDone (leBytes 1 2 ++ zeros 7 ++ leBytes 8 0 ++ reportOf w.hw part) w)
        ∧ (∀ p, findPair w.hw part = some p →
          (p.role ≠ .holder → reply stDone (leBytes 1 2 ++ zeros 7 ++ leBytes 8 (lastSent p) ++ reportOf w.hw part) w)
          ∧ (p.role = .holder → p.switching ≠ none → reply stTargetBusy [] w)
          ∧ (p.role = .holder → p.switching = none → later none (modPair part (fun q => { q with
              switching := some (r.channel, r.slot, w.hw.time.now) }) w))))
    ∧ (∀ (r : Request) (w : Work), Passes s 0x83 (fun hw r => ownPlan hw r (r.arg 4 4)) c.val sl.val r w →
        let i := r.arg 0 1
        let ahead := windowsAhead w.hw
        let others := ahead.filter (fun x => x.index != i)
        let held := ahead.any (fun x => x.index == i && x.plan != r.arg 4 4)
        let legal := r.shape 32 [(0x1C, 4)] && i ≤ 63 && r.arg 1 1 ≤ 1 && inRange 1 65536 (r.arg 0x18 4)
        let free : Hw := { w.hw with mirror := { w.hw.mirror with windows := others, windowsNext := [] } }
        (legal = false → Replies (.mirrorWindowSet c sl) s r stMalformed [] w)
        ∧ (legal = true → findPlan w.hw (r.arg 4 4) = none → Replies (.mirrorWindowSet c sl) s r stMalformed [] w)
        ∧ (∀ p, legal = true → findPlan w.hw (r.arg 4 4) = some p → (windowOf r p = none ∨ findPair w.hw p.part = none) →
          Replies (.mirrorWindowSet c sl) s r stMalformed [] w)
        ∧ (∀ p x, legal = true → findPlan w.hw (r.arg 4 4) = some p → windowOf r p = some x → findPair w.hw p.part ≠ none →
          let size := 3 * x.maxUnits * (if x.object.isSome then 65536 else 4096)
          (r.arg 1 1 = 0 → held = false → Replies (.mirrorWindowSet c sl) s r stDone [] (queueWindow i none w))
          ∧ (r.arg 1 1 = 0 → held = true → Replies (.mirrorWindowSet c sl) s r stMalformed [] w)
          ∧ (r.arg 1 1 = 1 → others.any (windowsOverlap x) = true → Replies (.mirrorWindowSet c sl) s r stMalformed [] w)
          ∧ (r.arg 1 1 = 1 → others.any (windowsOverlap x) = false → held = true → Replies (.mirrorWindowSet c sl) s r stNoResource [] w)
          ∧ (∀ n, r.arg 1 1 = 1 → others.any (windowsOverlap x) = false → held = false →
            placeRun free (.share p.part) (usedRuns free (.share p.part)) size = .error n →
            Replies (.mirrorWindowSet c sl) s r stNoResource [] w)
          ∧ (∀ a, r.arg 1 1 = 1 → others.any (windowsOverlap x) = false → held = false →
            placeRun free (.share p.part) (usedRuns free (.share p.part)) size = .ok a →
            Replies (.mirrorWindowSet c sl) s r stDone [] (queueWindow i (some { x with buffer := a }) w))))
    ∧ Serves s c sl (.pairRead c sl) 0x84 anyOwner (fun r w => r.shape 4 [(1, 3)] && r.arg 0 1 < partCount w.hw)
        (fun r w reply _ => reply stDone (reportOf w.hw (r.arg 0 1)) w)

/-- R378, R380 to R382, R385, R389, R395 to R397, R411, R435, R505: the commands of Keep: an attestation answers the certificate or the report, a bundle
that passes its checks begins its write and answers after the read back, service mode is entered and left, settings cleared and keys enrolled or
withdrawn where a key that may enrol stays, a topology is checked, and the states are read.
Where the rules leave a corner open, the clauses state the model's choice (log 2, 6 and 47). -/
def Obligations.KeepCommands : Prop :=
  ∀ (s : State) (c : Fin 18) (sl : Fin 64),
    Serves s c sl (.attest c sl) 0x90 anyOwner (fun r _ => r.shape 48 [(1, 15)] && r.arg 0 1 ≤ 1) (fun r w reply _ =>
        (r.arg 0 1 = 1 → reply stDone (certificateBytes w.hw.keep) w)
        ∧ (r.arg 0 1 = 0 → reply stDone (attestReport w.hw (slice r.payload 16 32)) w))
    ∧ Serves s c sl (.imageUpdate c sl) 0x91 anyOwner (fun r _ => r.shape 16 [(13, 3)] && r.arg 12 1 ≤ 1 && r.arg 0 8 % 4096 == 0
          && within (r.arg 0 8) (r.arg 8 4) (loadArea 16) 0x10000000 && r.arg 8 4 ≤ 192 * 2 ^ 20) (fun r w reply later =>
        let b := w.read (r.arg 0 8) (r.arg 8 4)
        (w.hw.keep.imageWrite ≠ none → reply stTargetBusy [] w)
        ∧ (w.hw.keep.imageWrite = none → w.good (r.arg 0 8) (r.arg 8 4) = false → reply stUncorrectable [] w)
        ∧ (w.hw.keep.imageWrite = none → w.good (r.arg 0 8) (r.arg 8 4) = true →
          (∀ status, checkBundle w.hw.keep b = some status → reply status [] w)
          ∧ (checkBundle w.hw.keep b = none → later none (modKeep (fun k => { k with
              bundle := none
              imageWrite := some ⟨r.channel, r.slot, bundleOf b, r.arg 12 1 == 1⟩ }) w))))
    ∧ Serves s c sl (.serviceMode c sl) 0x92 anyOwner (fun r _ => r.shape 4 [(3, 1)] && inRange 1 5 (r.arg 0 1)
          && !(r.arg 0 1 == 5 && decide (57 < r.arg 1 2))) (fun r w reply later =>
        let inside := w.hw.keep.phase = 9
        (r.arg 0 1 = 5 → reply stDone (slice (defectImage w.hw.keep) (3840 * r.arg 1 2) 3840) w)
        ∧ (r.arg 0 1 = 1 → inside → reply stNotPermitted [] w)
        ∧ (r.arg 0 1 = 1 → ¬ inside → reply stDone [] (releaseAll (modKeep (fun k => { k with entering := max k.entering 1 }) w)))
        ∧ (inRange 2 4 (r.arg 0 1) = true → ¬ inside → reply stNotPermitted [] w)
        ∧ (r.arg 0 1 = 2 → inside → later none (commandedReset (respond r stDone [] w)))
        ∧ (r.arg 0 1 = 3 → inside → reply stDone [] (modKeep (fun k => { k with trained := [] }) w))
        ∧ (r.arg 0 1 = 4 → inside → reply stDone [] (clearSettings w)))
    ∧ Serves s c sl (.keyEnrol c sl) 0x93 anyOwner (fun r _ => r.shape 48 [(2, 6)] && inRange 1 2 (r.arg 0 1) && r.arg 1 1 ≤ 7
          && !(r.arg 0 1 == 1 && r.arg 8 8 == 0) && !(r.arg 0 1 == 2 && r.arg 16 32 != 0)) (fun r w reply _ =>
        let id := r.arg 8 8
        let keys := w.hw.keep.keys
        let present := keys.any (fun k => k.id == id)
        let rest := keys.filter (fun k => k.id != id)
        let counter := if field r.bytes 0xFA0 8 = id then field r.bytes 0xFA8 8 else 0
        (r.arg 0 1 = 1 → (present = true ∨ 16 ≤ keys.length) → reply stNotPermitted [] w)
        ∧ (r.arg 0 1 = 1 → present = false → keys.length < 16 → reply stDone [] (modKeep (fun k => { k with
            keys := k.keys ++ [⟨id, r.arg 16 32, r.arg 1 1, counter⟩] }) w))
        ∧ (r.arg 0 1 = 2 → (present = false ∨ rest.any (fun k => bit k.roles 2) = false) → reply stNotPermitted [] w)
        ∧ (r.arg 0 1 = 2 → present = true → rest.any (fun k => bit k.roles 2) = true → reply stDone [] (modKeep (fun k => { k with keys := rest }) w)))
    ∧ Serves s c sl (.topologySet c sl) 0x94 anyOwner (fun r w => r.shape 640 [] && topologyOk w.hw r.payload) (fun r w reply _ =>
        let checked := topologyCheck (modKeep (fun k => { k with topology := some r.payload }) w)
        reply stDone (topologyReport checked.hw r.payload) checked)
    ∧ Serves s c sl (.stateRead c sl) 0x95 anyOwner (fun r _ => r.shape 4 [(1, 3)] && r.arg 0 1 ≤ 3) (fun r w reply _ =>
        let what := r.arg 0 1
        let header (n : Nat) : List Byte := leBytes 8 w.hw.keep.serial ++ leBytes 1 what ++ leBytes 1 n ++ zeros 2 ++ leBytes 4 w.hw.lantern.epoch
        (what = 0 → reply stDone (header 33 ++ (List.range 33).flatMap (unitBytes w.hw)) w)
        ∧ (what = 1 → reply stDone (header w.hw.lantern.log.length ++ w.hw.lantern.log.flatten) w)
        ∧ (what = 2 → reply stDone (header (freeOf w % 256) ++ leBytes 4 (bringupStatus w.hw) ++ leBytes 4 (bringupMs w.hw)) (freeUsed w))
        ∧ (what = 3 → reply stDone (header (freeOf w % 256) ++ leBytes 4 (capStatus w.hw) ++ zeros 4 ++ leBytes 8 (capTerms w.hw)
            ++ leBytes 8 (tokenPolicy w.hw) ++ leBytes 4 (belfryStatus w.hw) ++ zeros 4) (freeUsed w)))


/-! ## Numbers and caps -/

/-- R123: the sign of an LG8 product is the exclusive OR of the two signs and its code m1 + m2 - 64 limited to 1 to 127; an invalid operand makes it
invalid, whatever the other, and otherwise a zero operand makes it zero; the product is then converted to a linear value. -/
def Obligations.LogProducts : Prop :=
  ∀ a b : Byte,
    let m1 := a.toNat % 128
    let m2 := b.toNat % 128
    let sign := (a.toNat / 128 + b.toNat / 128) % 2
    ((a = 0x80 ∨ b = 0x80) → lgProduct a.toNat b.toNat = decodeLg 0x80)
    ∧ (a ≠ 0x80 → b ≠ 0x80 → (a = 0 ∨ b = 0) → lgProduct a.toNat b.toNat = decodeLg 0)
    ∧ (m1 ≠ 0 → m2 ≠ 0 → lgProduct a.toNat b.toNat = decodeLg (128 * sign + min 127 (max 1 (m1 + m2 - 64))))

/-- R404: a host request lowers the effective cap only, and one above the other terms has no effect; whatever the requests and the tokens, the cap
stays at or below the thermal term and the coolant term. -/
def Obligations.CapTerms : Prop :=
  ∀ (w : Work) (channel cap : Nat),
    let asked := modLantern (fun l => { l with requests := (channel, cap) :: l.requests }) w
    let before := (capTick w).hw.lantern
    let after := (capTick asked).hw.lantern
    after.effectiveCap ≤ before.effectiveCap
    ∧ (before.effectiveCap ≤ cap / 5 → after.effectiveCap = before.effectiveCap)
    ∧ before.effectiveCap ≤ before.thermalTerm ∧ before.effectiveCap ≤ before.coolantTerm
end

