-- ==== Sys2Proof/Laws/Exec.lean ====
section
/-! SUPPORT. Laws/Exec.lean: for each command, the function that is its own effect. -/
namespace Sys2Proof.Machine

open Sys2Proof

@[simp] theorem exec_frameTick (sample : TickSample) (s : State) : exec (.frameTick sample) s = run s (fun w => fillTick (serveLowAll (tickAll sample w))) := rfl
@[simp] theorem exec_frameDeadline (s : State) : exec .frameDeadline s = run s frameDeadline := rfl
@[simp] theorem exec_frameComplete (plan : W32) (s : State) : exec (.frameComplete plan) s = run s (completePlan plan.toNat) := rfl
@[simp] theorem exec_timeSourceLost (source : BitVec 3) (s : State) : exec (.timeSourceLost source) s = run s (match sourceOf source.toNat with | .ptp => losePtp | other => loseSource other) := rfl
@[simp] theorem exec_holdoverExpiry (s : State) : exec .holdoverExpiry s = run s expireHoldover := rfl
@[simp] theorem exec_add (sl : Slot) (s : State) : exec (.add sl) s = run s (giveSlot (.add sl)) := rfl
@[simp] theorem exec_sub (sl : Slot) (s : State) : exec (.sub sl) s = run s (giveSlot (.sub sl)) := rfl
@[simp] theorem exec_mul (sl : Slot) (s : State) : exec (.mul sl) s = run s (giveSlot (.mul sl)) := rfl
@[simp] theorem exec_and (sl : Slot) (s : State) : exec (.and sl) s = run s (giveSlot (.and sl)) := rfl
@[simp] theorem exec_or (sl : Slot) (s : State) : exec (.or sl) s = run s (giveSlot (.or sl)) := rfl
@[simp] theorem exec_xor (sl : Slot) (s : State) : exec (.xor sl) s = run s (giveSlot (.xor sl)) := rfl
@[simp] theorem exec_shl (sl : Slot) (s : State) : exec (.shl sl) s = run s (giveSlot (.shl sl)) := rfl
@[simp] theorem exec_shr (sl : Slot) (s : State) : exec (.shr sl) s = run s (giveSlot (.shr sl)) := rfl
@[simp] theorem exec_sra (sl : Slot) (s : State) : exec (.sra sl) s = run s (giveSlot (.sra sl)) := rfl
@[simp] theorem exec_min (sl : Slot) (s : State) : exec (.min sl) s = run s (giveSlot (.min sl)) := rfl
@[simp] theorem exec_max (sl : Slot) (s : State) : exec (.max sl) s = run s (giveSlot (.max sl)) := rfl
@[simp] theorem exec_slt (sl : Slot) (s : State) : exec (.slt sl) s = run s (giveSlot (.slt sl)) := rfl
@[simp] theorem exec_sltu (sl : Slot) (s : State) : exec (.sltu sl) s = run s (giveSlot (.sltu sl)) := rfl
@[simp] theorem exec_addi (sl : Slot) (s : State) : exec (.addi sl) s = run s (giveSlot (.addi sl)) := rfl
@[simp] theorem exec_andi (sl : Slot) (s : State) : exec (.andi sl) s = run s (giveSlot (.andi sl)) := rfl
@[simp] theorem exec_ori (sl : Slot) (s : State) : exec (.ori sl) s = run s (giveSlot (.ori sl)) := rfl
@[simp] theorem exec_xori (sl : Slot) (s : State) : exec (.xori sl) s = run s (giveSlot (.xori sl)) := rfl
@[simp] theorem exec_shli (sl : Slot) (s : State) : exec (.shli sl) s = run s (giveSlot (.shli sl)) := rfl
@[simp] theorem exec_shri (sl : Slot) (s : State) : exec (.shri sl) s = run s (giveSlot (.shri sl)) := rfl
@[simp] theorem exec_srai (sl : Slot) (s : State) : exec (.srai sl) s = run s (giveSlot (.srai sl)) := rfl
@[simp] theorem exec_slti (sl : Slot) (s : State) : exec (.slti sl) s = run s (giveSlot (.slti sl)) := rfl
@[simp] theorem exec_li (sl : Slot) (imm : BitVec 60) (s : State) : exec (.li sl imm) s = run s (giveSlot (.li sl imm)) := rfl
@[simp] theorem exec_ld8 (sl : Slot) (s : State) : exec (.ld8 sl) s = run s (giveSlot (.ld8 sl)) := rfl
@[simp] theorem exec_ld16 (sl : Slot) (s : State) : exec (.ld16 sl) s = run s (giveSlot (.ld16 sl)) := rfl
@[simp] theorem exec_ld32 (sl : Slot) (s : State) : exec (.ld32 sl) s = run s (giveSlot (.ld32 sl)) := rfl
@[simp] theorem exec_ld64 (sl : Slot) (s : State) : exec (.ld64 sl) s = run s (giveSlot (.ld64 sl)) := rfl
@[simp] theorem exec_st8 (sl : Slot) (s : State) : exec (.st8 sl) s = run s (giveSlot (.st8 sl)) := rfl
@[simp] theorem exec_st16 (sl : Slot) (s : State) : exec (.st16 sl) s = run s (giveSlot (.st16 sl)) := rfl
@[simp] theorem exec_st32 (sl : Slot) (s : State) : exec (.st32 sl) s = run s (giveSlot (.st32 sl)) := rfl
@[simp] theorem exec_st64 (sl : Slot) (s : State) : exec (.st64 sl) s = run s (giveSlot (.st64 sl)) := rfl
@[simp] theorem exec_br (sl : Slot) (s : State) : exec (.br sl) s = run s (giveSlot (.br sl)) := rfl
@[simp] theorem exec_call (sl : Slot) (s : State) : exec (.call sl) s = run s (giveSlot (.call sl)) := rfl
@[simp] theorem exec_ret (sl : Slot) (s : State) : exec (.ret sl) s = run s (giveSlot (.ret sl)) := rfl
@[simp] theorem exec_beq (sl : Slot) (s : State) : exec (.beq sl) s = run s (giveSlot (.beq sl)) := rfl
@[simp] theorem exec_bne (sl : Slot) (s : State) : exec (.bne sl) s = run s (giveSlot (.bne sl)) := rfl
@[simp] theorem exec_blt (sl : Slot) (s : State) : exec (.blt sl) s = run s (giveSlot (.blt sl)) := rfl
@[simp] theorem exec_bge (sl : Slot) (s : State) : exec (.bge sl) s = run s (giveSlot (.bge sl)) := rfl
@[simp] theorem exec_loop (sl : Slot) (s : State) : exec (.loop sl) s = run s (giveSlot (.loop sl)) := rfl
@[simp] theorem exec_wait (sl : Slot) (s : State) : exec (.wait sl) s = run s (giveSlot (.wait sl)) := rfl
@[simp] theorem exec_waiti (sl : Slot) (s : State) : exec (.waiti sl) s = run s (giveSlot (.waiti sl)) := rfl
@[simp] theorem exec_waitSatisfied (core : BitVec 8) (s : State) : exec (.waitSatisfied core) s = run s (retryHeld core.toNat .wait) := rfl
@[simp] theorem exec_wcadd (sl : Slot) (s : State) : exec (.wcadd sl) s = run s (giveSlot (.wcadd sl)) := rfl
@[simp] theorem exec_wcread (sl : Slot) (s : State) : exec (.wcread sl) s = run s (giveSlot (.wcread sl)) := rfl
@[simp] theorem exec_time (sl : Slot) (s : State) : exec (.time sl) s = run s (giveSlot (.time sl)) := rfl
@[simp] theorem exec_cyc (sl : Slot) (s : State) : exec (.cyc sl) s = run s (giveSlot (.cyc sl)) := rfl
@[simp] theorem exec_tick (sl : Slot) (s : State) : exec (.tick sl) s = run s (giveSlot (.tick sl)) := rfl
@[simp] theorem exec_csrr (sl : Slot) (s : State) : exec (.csrr sl) s = run s (giveSlot (.csrr sl)) := rfl
@[simp] theorem exec_csrw (sl : Slot) (s : State) : exec (.csrw sl) s = run s (giveSlot (.csrw sl)) := rfl
@[simp] theorem exec_markb (sl : Slot) (s : State) : exec (.markb sl) s = run s (giveSlot (.markb sl)) := rfl
@[simp] theorem exec_marke (sl : Slot) (s : State) : exec (.marke sl) s = run s (giveSlot (.marke sl)) := rfl
@[simp] theorem exec_markp (sl : Slot) (s : State) : exec (.markp sl) s = run s (giveSlot (.markp sl)) := rfl
@[simp] theorem exec_endFrame (sl : Slot) (s : State) : exec (.endFrame sl) s = run s (giveSlot (.endFrame sl)) := rfl
@[simp] theorem exec_vadd (sl : Slot) (s : State) : exec (.vadd sl) s = run s (giveSlot (.vadd sl)) := rfl
@[simp] theorem exec_vsub (sl : Slot) (s : State) : exec (.vsub sl) s = run s (giveSlot (.vsub sl)) := rfl
@[simp] theorem exec_vmul (sl : Slot) (s : State) : exec (.vmul sl) s = run s (giveSlot (.vmul sl)) := rfl
@[simp] theorem exec_vfma (sl : Slot) (s : State) : exec (.vfma sl) s = run s (giveSlot (.vfma sl)) := rfl
@[simp] theorem exec_vmin (sl : Slot) (s : State) : exec (.vmin sl) s = run s (giveSlot (.vmin sl)) := rfl
@[simp] theorem exec_vmax (sl : Slot) (s : State) : exec (.vmax sl) s = run s (giveSlot (.vmax sl)) := rfl
@[simp] theorem exec_vabs (sl : Slot) (s : State) : exec (.vabs sl) s = run s (giveSlot (.vabs sl)) := rfl
@[simp] theorem exec_vneg (sl : Slot) (s : State) : exec (.vneg sl) s = run s (giveSlot (.vneg sl)) := rfl
@[simp] theorem exec_vexp2 (sl : Slot) (s : State) : exec (.vexp2 sl) s = run s (giveSlot (.vexp2 sl)) := rfl
@[simp] theorem exec_vlog2 (sl : Slot) (s : State) : exec (.vlog2 sl) s = run s (giveSlot (.vlog2 sl)) := rfl
@[simp] theorem exec_vrcp (sl : Slot) (s : State) : exec (.vrcp sl) s = run s (giveSlot (.vrcp sl)) := rfl
@[simp] theorem exec_vrsqrt (sl : Slot) (s : State) : exec (.vrsqrt sl) s = run s (giveSlot (.vrsqrt sl)) := rfl
@[simp] theorem exec_viadd (sl : Slot) (s : State) : exec (.viadd sl) s = run s (giveSlot (.viadd sl)) := rfl
@[simp] theorem exec_visub (sl : Slot) (s : State) : exec (.visub sl) s = run s (giveSlot (.visub sl)) := rfl
@[simp] theorem exec_vimul (sl : Slot) (s : State) : exec (.vimul sl) s = run s (giveSlot (.vimul sl)) := rfl
@[simp] theorem exec_vand (sl : Slot) (s : State) : exec (.vand sl) s = run s (giveSlot (.vand sl)) := rfl
@[simp] theorem exec_vor (sl : Slot) (s : State) : exec (.vor sl) s = run s (giveSlot (.vor sl)) := rfl
@[simp] theorem exec_vxor (sl : Slot) (s : State) : exec (.vxor sl) s = run s (giveSlot (.vxor sl)) := rfl
@[simp] theorem exec_vshl (sl : Slot) (s : State) : exec (.vshl sl) s = run s (giveSlot (.vshl sl)) := rfl
@[simp] theorem exec_vshr (sl : Slot) (s : State) : exec (.vshr sl) s = run s (giveSlot (.vshr sl)) := rfl
@[simp] theorem exec_vsra (sl : Slot) (s : State) : exec (.vsra sl) s = run s (giveSlot (.vsra sl)) := rfl
@[simp] theorem exec_vcmpeq (sl : Slot) (s : State) : exec (.vcmpeq sl) s = run s (giveSlot (.vcmpeq sl)) := rfl
@[simp] theorem exec_vcmplt (sl : Slot) (s : State) : exec (.vcmplt sl) s = run s (giveSlot (.vcmplt sl)) := rfl
@[simp] theorem exec_vcmple (sl : Slot) (s : State) : exec (.vcmple sl) s = run s (giveSlot (.vcmple sl)) := rfl
@[simp] theorem exec_vsel (sl : Slot) (s : State) : exec (.vsel sl) s = run s (giveSlot (.vsel sl)) := rfl
@[simp] theorem exec_vbcast (sl : Slot) (s : State) : exec (.vbcast sl) s = run s (giveSlot (.vbcast sl)) := rfl
@[simp] theorem exec_vperm (sl : Slot) (s : State) : exec (.vperm sl) s = run s (giveSlot (.vperm sl)) := rfl
@[simp] theorem exec_vshiftl (sl : Slot) (s : State) : exec (.vshiftl sl) s = run s (giveSlot (.vshiftl sl)) := rfl
@[simp] theorem exec_vredadd (sl : Slot) (s : State) : exec (.vredadd sl) s = run s (giveSlot (.vredadd sl)) := rfl
@[simp] theorem exec_vredmax (sl : Slot) (s : State) : exec (.vredmax sl) s = run s (giveSlot (.vredmax sl)) := rfl
@[simp] theorem exec_vcvt (sl : Slot) (s : State) : exec (.vcvt sl) s = run s (giveSlot (.vcvt sl)) := rfl
@[simp] theorem exec_vcvtmx (sl : Slot) (s : State) : exec (.vcvtmx sl) s = run s (giveSlot (.vcvtmx sl)) := rfl
@[simp] theorem exec_vld (sl : Slot) (s : State) : exec (.vld sl) s = run s (giveSlot (.vld sl)) := rfl
@[simp] theorem exec_vst (sl : Slot) (s : State) : exec (.vst sl) s = run s (giveSlot (.vst sl)) := rfl
@[simp] theorem exec_vstp (sl : Slot) (s : State) : exec (.vstp sl) s = run s (giveSlot (.vstp sl)) := rfl
@[simp] theorem exec_vgather (sl : Slot) (s : State) : exec (.vgather sl) s = run s (giveSlot (.vgather sl)) := rfl
@[simp] theorem exec_mdset (sl : Slot) (s : State) : exec (.mdset sl) s = run s (giveSlot (.mdset sl)) := rfl
@[simp] theorem exec_mzero (sl : Slot) (s : State) : exec (.mzero sl) s = run s (giveSlot (.mzero sl)) := rfl
@[simp] theorem exec_mma (sl : Slot) (s : State) : exec (.mma sl) s = run s (giveSlot (.mma sl)) := rfl
@[simp] theorem exec_mmas (sl : Slot) (s : State) : exec (.mmas sl) s = run s (giveSlot (.mmas sl)) := rfl
@[simp] theorem exec_mload (sl : Slot) (s : State) : exec (.mload sl) s = run s (giveSlot (.mload sl)) := rfl
@[simp] theorem exec_mstore (sl : Slot) (s : State) : exec (.mstore sl) s = run s (giveSlot (.mstore sl)) := rfl
@[simp] theorem exec_matrixOperationBegin (core : BitVec 8) (op : BitVec 3) (s : State) : exec (.matrixOperationBegin core op) s = run s (beginMatrix core.toNat op.toNat) := rfl
@[simp] theorem exec_streamPieceBegin (core : BitVec 8) (s : State) : exec (.streamPieceBegin core) s = run s (beginPiece core.toNat) := rfl
@[simp] theorem exec_matrixOperationComplete (core : BitVec 8) (op : BitVec 3) (s : State) : exec (.matrixOperationComplete core op) s = run s (completeMatrix core.toNat op.toNat) := rfl
@[simp] theorem exec_mov (sl : Slot) (s : State) : exec (.mov sl) s = run s (giveSlot (.mov sl)) := rfl
@[simp] theorem exec_mov2d (sl : Slot) (s : State) : exec (.mov2d sl) s = run s (giveSlot (.mov2d sl)) := rfl
@[simp] theorem exec_mfill (sl : Slot) (s : State) : exec (.mfill sl) s = run s (giveSlot (.mfill sl)) := rfl
@[simp] theorem exec_moveComplete (core : BitVec 8) (op : BitVec 5) (s : State) : exec (.moveComplete core op) s = run s (completeMove core.toNat op.toNat) := rfl
@[simp] theorem exec_send (sl : Slot) (s : State) : exec (.send sl) s = run s (giveSlot (.send sl)) := rfl
@[simp] theorem exec_signal (sl : Slot) (s : State) : exec (.signal sl) s = run s (giveSlot (.signal sl)) := rfl
@[simp] theorem exec_recv (sl : Slot) (s : State) : exec (.recv sl) s = run s (giveSlot (.recv sl)) := rfl
@[simp] theorem exec_hwrite (sl : Slot) (s : State) : exec (.hwrite sl) s = run s (giveSlot (.hwrite sl)) := rfl
@[simp] theorem exec_hsend (sl : Slot) (s : State) : exec (.hsend sl) s = run s (giveSlot (.hsend sl)) := rfl
@[simp] theorem exec_coll (sl : Slot) (s : State) : exec (.coll sl) s = run s (giveSlot (.coll sl)) := rfl
@[simp] theorem exec_allReduce (core : BitVec 8) (s : State) : exec (.allReduce core) s = run s (runColl 1 core.toNat) := rfl
@[simp] theorem exec_reduceScatter (core : BitVec 8) (s : State) : exec (.reduceScatter core) s = run s (runColl 2 core.toNat) := rfl
@[simp] theorem exec_allGather (core : BitVec 8) (s : State) : exec (.allGather core) s = run s (runColl 3 core.toNat) := rfl
@[simp] theorem exec_allToAll (core : BitVec 8) (s : State) : exec (.allToAll core) s = run s (runColl 4 core.toNat) := rfl
@[simp] theorem exec_broadcast (core : BitVec 8) (s : State) : exec (.broadcast core) s = run s (runColl 5 core.toNat) := rfl
@[simp] theorem exec_gissue (sl : Slot) (s : State) : exec (.gissue sl) s = run s (giveSlot (.gissue sl)) := rfl
@[simp] theorem exec_phint (sl : Slot) (s : State) : exec (.phint sl) s = run s (giveSlot (.phint sl)) := rfl
@[simp] theorem exec_phintAccept (core : BitVec 8) (s : State) : exec (.phintAccept core) s = run s (fun w => if pagerLive w.hw then acceptHints core.toNat w else w) := rfl
@[simp] theorem exec_placement (t3 : T3Read) (s : State) : exec (.placement t3) s = run s (fun w => if pagerLive w.hw && !flushHolds w.hw then serveHints t3 w.hw.pager.hints w else w) := rfl
@[simp] theorem exec_journalDrain (failed : Bool) (s : State) : exec (.journalDrain failed) s = run s (fun w => if pagerLive w.hw then drainSlot failed w else w) := rfl
@[simp] theorem exec_flushEnd (s : State) : exec .flushEnd s = run s endFlushes := rfl
@[simp] theorem exec_flushDeadline (s : State) : exec .flushDeadline s = run s meetFlushDeadline := rfl
@[simp] theorem exec_gatherPool (k : Fin 12) (s : State) : exec (.gatherPool k) s = run s (graverServe 1 runGather k.val) := rfl
@[simp] theorem exec_scoreSelect (k : Fin 12) (s : State) : exec (.scoreSelect k) s = run s (graverServe 2 runScore k.val) := rfl
@[simp] theorem exec_pack (k : Fin 12) (s : State) : exec (.pack k) s = run s (graverServe 3 runPack k.val) := rfl
@[simp] theorem exec_rowUpdate (k : Fin 12) (s : State) : exec (.rowUpdate k) s = run s (graverServe 4 runRowUpdate k.val) := rfl
@[simp] theorem exec_checksum (k : Fin 12) (s : State) : exec (.checksum k) s = run s (graverServe 5 runChecksum k.val) := rfl
@[simp] theorem exec_copy (k : Fin 12) (s : State) : exec (.copy k) s = run s (graverServe 6 runCopy k.val) := rfl
@[simp] theorem exec_fill (k : Fin 12) (s : State) : exec (.fill k) s = run s (graverServe 7 runFill k.val) := rfl
@[simp] theorem exec_credit (port : Fin 6) (ack : BitVec 12) (freed : Vector (BitVec 16) 7) (s : State) : exec (.credit port ack freed) s = run s (takeCredit port.val ack.toNat (freed.toList.map BitVec.toNat)) := rfl
@[simp] theorem exec_nak (port : Fin 6) (ack expected : BitVec 12) (s : State) : exec (.nak port ack expected) s = run s (takeNak port.val ack.toNat expected.toNat) := rfl
@[simp] theorem exec_downRequest (port : Fin 6) (_cause : Byte) (s : State) : exec (.downRequest port _cause) s = run s (dropLink port.val 5) := rfl
@[simp] theorem exec_replayTimeout (port : Fin 6) (s : State) : exec (.replayTimeout port) s = run s (replayTimeout port.val) := rfl
@[simp] theorem exec_replayExhausted (port : Fin 6) (s : State) : exec (.replayExhausted port) s = run s (replayExhausted port.val) := rfl
@[simp] theorem exec_lockLost (port : Fin 6) (s : State) : exec (.lockLost port) s = run s (dropLink port.val 2) := rfl
@[simp] theorem exec_detect (port : Fin 6) (lanes : BitVec 17) (s : State) : exec (.detect port lanes) s = run s (detectLanes port.val lanes.toNat) := rfl
@[simp] theorem exec_train (port : Fin 6) (ok : Bool) (s : State) : exec (.train port ok) s = run s (trainEnds port.val ok) := rfl
@[simp] theorem exec_align (port : Fin 6) (rxGood txGood : BitVec 17) (s : State) : exec (.align port rxGood txGood) s = run s (alignLanes port.val rxGood.toNat txGood.toNat) := rfl
@[simp] theorem exec_linkInit (port : Fin 6) (payload : List Byte) (s : State) : exec (.linkInit port payload) s = run s (takeInit port.val payload) := rfl
@[simp] theorem exec_trainingRetry (port : Fin 6) (s : State) : exec (.trainingRetry port) s = run s (retryTraining port.val) := rfl
@[simp] theorem exec_laneRetrain (port : Fin 6) (lane : Fin 17) (corrected symbols : BitVec 48) (s : State) : exec (.laneRetrain port lane corrected symbols) s = run s (reviewLane port.val lane.val corrected.toNat symbols.toNat) := rfl
@[simp] theorem exec_portHoldExpiry (port : Fin 6) (s : State) : exec (.portHoldExpiry port) s = run s (holdExpires port.val) := rfl
@[simp] theorem exec_timeExchange (port : Fin 6) (s : State) : exec (.timeExchange port) s = run s (sendTimeRequest port.val) := rfl
@[simp] theorem exec_timeRequest (rx : Rx) (payload : List Byte) (s : State) : exec (.timeRequest rx payload) s = run s (answerTime rx payload) := rfl
@[simp] theorem exec_timeResponse (rx : Rx) (payload : List Byte) (s : State) : exec (.timeResponse rx payload) s = run s (takeTimeResponse rx payload) := rfl
@[simp] theorem exec_msgSend (rx : Rx) (payload : List Byte) (s : State) : exec (.msgSend rx payload) s = run s (takeMsgSend rx payload) := rfl
@[simp] theorem exec_msgSignal (rx : Rx) (payload : List Byte) (s : State) : exec (.msgSignal rx payload) s = run s (takeMsgSignal rx payload) := rfl
@[simp] theorem exec_msgAnswer (rx : Rx) (payload : List Byte) (s : State) : exec (.msgAnswer rx payload) s = run s (takeMsgAnswer rx payload) := rfl
@[simp] theorem exec_ackTimeout (core : BitVec 8) (seq : W32) (s : State) : exec (.ackTimeout core seq) s = run s (ackTimeout core.toNat seq.toNat) := rfl
@[simp] theorem exec_packageFabricTransfer (transfer : BitVec 16) (s : State) : exec (.packageFabricTransfer transfer) s = run s (fabricArrives transfer.toNat) := rfl
@[simp] theorem exec_fabricResend (transfer : BitVec 16) (s : State) : exec (.fabricResend transfer) s = run s (fabricResends transfer.toNat) := rfl
@[simp] theorem exec_collReduce (rx : Rx) (payload : List Byte) (s : State) : exec (.collReduce rx payload) s = run s (takeCollFlit 2 true rx payload) := rfl
@[simp] theorem exec_collGather (rx : Rx) (payload : List Byte) (s : State) : exec (.collGather rx payload) s = run s (takeCollFlit 3 false rx payload) := rfl
@[simp] theorem exec_advertise (rx : Rx) (record : List Byte) (s : State) : exec (.advertise rx record) s = run s (takeRecordFlit rx 1 record) := rfl
@[simp] theorem exec_grant (rx : Rx) (record : List Byte) (s : State) : exec (.grant rx record) s = run s (takeRecordFlit rx 5 record) := rfl
@[simp] theorem exec_abort (rx : Rx) (record : List Byte) (s : State) : exec (.abort rx record) s = run s (takeRecordFlit rx 7 record) := rfl
@[simp] theorem exec_absent (rx : Rx) (record : List Byte) (s : State) : exec (.absent rx record) s = run s (takeRecordFlit rx 8 record) := rfl
@[simp] theorem exec_floorNotice (rx : Rx) (record : List Byte) (s : State) : exec (.floorNotice rx record) s = run s (takeRecordFlit rx 9 record) := rfl
@[simp] theorem exec_audit (rx : Rx) (record : List Byte) (s : State) : exec (.audit rx record) s = run s (takeRecordFlit rx 10 record) := rfl
@[simp] theorem exec_mgmt (rx : Rx) (payload : List Byte) (s : State) : exec (.mgmt rx payload) s = run s (takeMgmtFlit rx payload) := rfl
@[simp] theorem exec_trace (rx : Rx) (payload : List Byte) (s : State) : exec (.trace rx payload) s = run s (acceptLow rx 6 payload (takeTrace payload)) := rfl
@[simp] theorem exec_hello (rx : Rx) (payload : List Byte) (s : State) : exec (.hello rx payload) s = run s (takeMirrorFlit 1 rx payload) := rfl
@[simp] theorem exec_granule (rx : Rx) (payload : List Byte) (s : State) : exec (.granule rx payload) s = run s (takeMirrorFlit 2 rx payload) := rfl
@[simp] theorem exec_page (rx : Rx) (payload : List Byte) (s : State) : exec (.page rx payload) s = run s (takeMirrorFlit 3 rx payload) := rfl
@[simp] theorem exec_frameEnd (rx : Rx) (payload : List Byte) (s : State) : exec (.frameEnd rx payload) s = run s (takeMirrorFlit 4 rx payload) := rfl
@[simp] theorem exec_commit (part : Fin 4) (s : State) : exec (.commit part) s = run s (whileLive (commitFrame part.val)) := rfl
@[simp] theorem exec_ack (rx : Rx) (payload : List Byte) (s : State) : exec (.ack rx payload) s = run s (takeMirrorFlit 5 rx payload) := rfl
@[simp] theorem exec_resend (rx : Rx) (payload : List Byte) (s : State) : exec (.resend rx payload) s = run s (takeMirrorFlit 6 rx payload) := rfl
@[simp] theorem exec_mirrorResendTimeout (part : Fin 4) (stream : Byte) (s : State) : exec (.mirrorResendTimeout part stream) s = run s (resendOverdue part.val stream.toNat) := rfl
@[simp] theorem exec_release (rx : Rx) (payload : List Byte) (s : State) : exec (.release rx payload) s = run s (takeMirrorFlit 7 rx payload) := rfl
@[simp] theorem exec_partnerLost (part : Fin 4) (s : State) : exec (.partnerLost part) s = run s (losePartner part.val) := rfl
@[simp] theorem exec_leaseExpiry (part : Fin 4) (s : State) : exec (.leaseExpiry part) s = run s (leaseExpires part.val) := rfl
@[simp] theorem exec_takeover (part : Fin 4) (s : State) : exec (.takeover part) s = run s (whileLive (takeOver part.val)) := rfl
@[simp] theorem exec_rdmaWrite (qp : BitVec 12) (psn : BitVec 24) (rkey : W32) (address : W64) (data : List Byte) (ce : Bool) (form : WriteForm) (s : State) : exec (.rdmaWrite qp psn rkey address data ce form) s = run s (match form with | .plain => takeWrite qp.toNat psn.toNat rkey.toNat address.toNat data ce | .withImmediate => takeUnsupported qp.toNat psn.toNat data ce | .atomic => takeUnsupported qp.toNat psn.toNat data ce | .memoryWindow => takeUnsupported qp.toNat psn.toNat data ce) := rfl
@[simp] theorem exec_rdmaRead (qp : BitVec 12) (psn : BitVec 24) (rkey : W32) (address : W64) (length : W32) (ce : Bool) (s : State) : exec (.rdmaRead qp psn rkey address length ce) s = run s (takeRead qp.toNat psn.toNat rkey.toNat address.toNat length.toNat ce) := rfl
@[simp] theorem exec_rdmaSend (qp : BitVec 12) (psn : BitVec 24) (data : List Byte) (imm : Option W32) (ce : Bool) (s : State) : exec (.rdmaSend qp psn data imm ce) s = run s (takeSend qp.toNat psn.toNat data (imm.map BitVec.toNat) ce) := rfl
@[simp] theorem exec_seal (qp : BitVec 12) (psn : BitVec 24) (rkey : W32) (address : W64) (bytes : Vector Byte 16) (ce : Bool) (s : State) : exec (.seal qp psn rkey address bytes ce) s = run s (takeWrite qp.toNat psn.toNat rkey.toNat address.toNat bytes.toList ce) := rfl
@[simp] theorem exec_rdmaAck (qp : BitVec 12) (psn : BitVec 24) (nak : Option NakKind) (ce : Bool) (s : State) : exec (.rdmaAck qp psn nak ce) s = run s (takeAckRoce qp.toNat psn.toNat nak ce) := rfl
@[simp] theorem exec_qpRetryExhausted (qp : BitVec 12) (s : State) : exec (.qpRetryExhausted qp) s = run s (retriesExhausted qp.toNat) := rfl
@[simp] theorem exec_cnp (qp : BitVec 12) (s : State) : exec (.cnp qp) s = run s (takeCnp qp.toNat) := rfl
@[simp] theorem exec_tAlpha (qp : BitVec 12) (s : State) : exec (.tAlpha qp) s = run s (alphaStep qp.toNat) := rfl
@[simp] theorem exec_tInc (qp : BitVec 12) (s : State) : exec (.tInc qp) s = run s (increaseStep qp.toNat) := rfl
@[simp] theorem exec_pfcPause (h : Fin 8) (enables : Byte) (quanta : Vector (BitVec 16) 8) (s : State) : exec (.pfcPause h enables quanta) s = run s (takePfc h.val enables.toNat (quanta.toList.map BitVec.toNat)) := rfl
@[simp] theorem exec_ptp (h : Fin 8) (msg : PtpMsg) (s : State) : exec (.ptp h msg) s = run s (takePtp h.val msg) := rfl
@[simp] theorem exec_lldp (h : Fin 8) (chassis : List Byte) (port : List Byte) (s : State) : exec (.lldp h chassis port) s = run s (takeLldp h.val chassis port) := rfl
@[simp] theorem exec_lldpSend (h : Fin 8) (s : State) : exec (.lldpSend h) s = run s (sendLldp h.val) := rfl
@[simp] theorem exec_arpRequest (h : Fin 8) (ipv6 : Bool) (address : W128) (s : State) : exec (.arpRequest h ipv6 address) s = run s (takeArp h.val ipv6 address.toNat) := rfl
@[simp] theorem exec_ethFrameDiscard (h : Fin 8) (bad : BadFrame) (s : State) : exec (.ethFrameDiscard h bad) s = run s (discardFrame h.val bad) := rfl
@[simp] theorem exec_ethLinkDown (h : Fin 8) (s : State) : exec (.ethLinkDown h) s = run s (ethDown h.val) := rfl
@[simp] theorem exec_mgmtWrite (channel : Byte) (xseq : BitVec 16) (length : BitVec 16) (target : BitVec 24) (address : BitVec 48) (data : List Byte) (s : State) : exec (.mgmtWrite channel xseq length target address data) s = run s (takeMgmtFrame (mgmtHeader 1 channel.toNat xseq.toNat length.toNat target.toNat address.toNat) data) := rfl
@[simp] theorem exec_mgmtRead (channel : Byte) (xseq : BitVec 16) (length : BitVec 16) (target : BitVec 24) (address : BitVec 48) (s : State) : exec (.mgmtRead channel xseq length target address) s = run s (takeMgmtFrame (mgmtHeader 3 channel.toNat xseq.toNat length.toNat target.toNat address.toNat) []) := rfl
@[simp] theorem exec_heartbeat (frame : BFrame) (s : State) : exec (.heartbeat frame) s = run s (belfryArrive 1 true frame) := rfl
@[simp] theorem exec_heartbeatSend (s : State) : exec .heartbeatSend s = run s sendHeartbeat := rfl
@[simp] theorem exec_lease (frame : BFrame) (s : State) : exec (.lease frame) s = run s (belfryArrive 3 true frame) := rfl
@[simp] theorem exec_seatAssign (frame : BFrame) (s : State) : exec (.seatAssign frame) s = run s (belfryArrive 4 true frame) := rfl
@[simp] theorem exec_coolant (frame : BFrame) (s : State) : exec (.coolant frame) s = run s (belfryArrive 5 true frame) := rfl
@[simp] theorem exec_alert (frame : BFrame) (s : State) : exec (.alert frame) s = run s (belfryArrive 6 true frame) := rfl
@[simp] theorem exec_wake (frame : BFrame) (s : State) : exec (.wake frame) s = run s (belfryArrive 7 true frame) := rfl
@[simp] theorem exec_tickMarker (count : BitVec 16) (hops : Byte) (s : State) : exec (.tickMarker count hops) s = run s (takeMarker count.toNat hops.toNat) := rfl
@[simp] theorem exec_belfryFrameForward (type : Byte) (frame : BFrame) (crcOk : Bool) (s : State) : exec (.belfryFrameForward type frame crcOk) s = run s (belfryArrive type.toNat crcOk frame) := rfl
@[simp] theorem exec_markerLost (s : State) : exec .markerLost s = run s loseMarker := rfl
@[simp] theorem exec_markerMismatch (s : State) : exec .markerMismatch s = run s markerMismatch := rfl
@[simp] theorem exec_masterless (s : State) : exec .masterless s = run s becomeMasterless := rfl
@[simp] theorem exec_orphan (s : State) : exec .orphan s = run s becomeOrphan := rfl
@[simp] theorem exec_coolantAssumed (s : State) : exec .coolantAssumed s = run s assumeCoolant := rfl
@[simp] theorem exec_vrAlertN (own : Bool) (s : State) : exec (.vrAlertN own) s = run s (vrAsserted own) := rfl
@[simp] theorem exec_vrAlertEnd (s : State) : exec .vrAlertEnd s = run s vrReleased := rfl
@[simp] theorem exec_regulatorAlert (s : State) : exec .regulatorAlert s = run s vrTooLong := rfl
@[simp] theorem exec_supplyWarning (volts : BitVec 16) (s : State) : exec (.supplyWarning volts) s = run s (supplyWarn volts.toNat) := rfl
@[simp] theorem exec_supplyGlitch (volts : BitVec 16) (s : State) : exec (.supplyGlitch volts) s = run s (supplyDip volts.toNat) := rfl
@[simp] theorem exec_supplyRecovery (volts : BitVec 16) (s : State) : exec (.supplyRecovery volts) s = run s (supplyRecover volts.toNat) := rfl
@[simp] theorem exec_supplyReset (volts : BitVec 16) (holdup : Bool) (s : State) : exec (.supplyReset volts holdup) s = run s (supplyResetNow volts.toNat holdup) := rfl
@[simp] theorem exec_droop (spire : Fin 4) (detector : Fin 8) (s : State) : exec (.droop spire detector) s = run s (beginDroop spire.val detector.val) := rfl
@[simp] theorem exec_droopLong (spire : Fin 4) (s : State) : exec (.droopLong spire) s = run s (longDroop spire.val) := rfl
@[simp] theorem exec_thermalSample (spots : List SpotSample) (s : State) : exec (.thermalSample spots) s = run s (thermalSampleNow (spots.map (fun x => (x.spot.val, x.a.toInt, x.b.toInt)))) := rfl
@[simp] theorem exec_sensorPair (spot : Fin 128) (s : State) : exec (.sensorPair spot) s = run s (changePair spot.val) := rfl
@[simp] theorem exec_thermalEmergency (spire : Fin 4) (s : State) : exec (.thermalEmergency spire) s = run s (beginEmergency spire.val) := rfl
@[simp] theorem exec_thermalTrip (spot : Fin 128) (s : State) : exec (.thermalTrip spot) s = run s (thermalTripNow spot.val) := rfl
@[simp] theorem exec_orderlyHalt (s : State) : exec .orderlyHalt s = run s beginHalt := rfl
@[simp] theorem exec_suddenCoolantLoss (s : State) : exec .suddenCoolantLoss s = run s coolantLoss := rfl
@[simp] theorem exec_domainRemoval (s : State) : exec .domainRemoval s = run s removeDomains := rfl
@[simp] theorem exec_pwrEnAssert (s : State) : exec .pwrEnAssert s = run s pwrEnHigh := rfl
@[simp] theorem exec_aonPowerOn (s : State) : exec .aonPowerOn s = run s aonPowered := rfl
@[simp] theorem exec_pwrEnDeassert (s : State) : exec .pwrEnDeassert s = run s pwrEnLow := rfl
@[simp] theorem exec_aonPowerLoss (s : State) : exec .aonPowerLoss s = run s aonLost := rfl
@[simp] theorem exec_lanternReady (s : State) : exec .lanternReady s = run s lanternReadyNow := rfl
@[simp] theorem exec_turretWatchdog (s : State) : exec .turretWatchdog s = run s turretSilent := rfl
@[simp] theorem exec_keepLockstep (s : State) : exec .keepLockstep s = run s (checkFails 1) := rfl
@[simp] theorem exec_collectorCheck (s : State) : exec .collectorCheck s = run s (checkFails 0) := rfl
@[simp] theorem exec_marginReview (slack : Vector (BitVec 16) 4) (margins : W64) (s : State) : exec (.marginReview slack margins) s = run s (review (slack.toList.map (fun v => v.toNat)) margins.toNat) := rfl
@[simp] theorem exec_scrub (address : W64) (outcome : ScrubOutcome) (s : State) : exec (.scrub address outcome) s = run s (scrubRead address.toNat outcome) := rfl
@[simp] theorem exec_domainReturn (kind : Byte) (unit : Byte) (ok : Bool) (s : State) : exec (.domainReturn kind unit ok) s = run s (domainBack kind.toNat unit.toNat ok) := rfl
@[simp] theorem exec_domainDeadline (kind : Byte) (unit : Byte) (s : State) : exec (.domainDeadline kind unit) s = run s (domainMisses kind.toNat unit.toNat) := rfl
@[simp] theorem exec_start (romOk : Bool) (fuseOk : Bool) (storeOk : Bool) (crcBad : BitVec 46) (s : State) : exec (.start romOk fuseOk storeOk crcBad) s = run s (beginStart romOk fuseOk storeOk crcBad.toNat) := rfl
@[simp] theorem exec_cupola (lpFail : Option Byte) (hashOk : Bool) (mapFail : Option Byte) (retrained : BitVec 24) (s : State) : exec (.cupola lpFail hashOk mapFail retrained) s = run s (runCupola (lpFail.map (fun b => b.toNat)) hashOk (mapFail.map (fun b => b.toNat)) retrained.toNat) := rfl
@[simp] theorem exec_spires (hbmFail : Option Byte) (testFail : Option Byte) (hashFail : Option Bool) (retrained : BitVec 12) (s : State) : exec (.spires hbmFail testFail hashFail retrained) s = run s (runSpires (hbmFail.map (fun b => b.toNat)) (testFail.map (fun b => b.toNat)) (hashFail.map (fun b => 3 + b2n b)) retrained.toNat) := rfl
@[simp] theorem exec_coreFetch (core : BitVec 8) (s : State) : exec (.coreFetch core) s = run s (runFetch core.toNat) := rfl
@[simp] theorem exec_memoryTest (rows : List (W64)) (s : State) : exec (.memoryTest rows) s = run s (runMemoryTest (rows.map (fun v => (v.toNat / 2 ^ 32, v.toNat % 2 ^ 32)))) := rfl
@[simp] theorem exec_links (source : BitVec 3) (s : State) : exec (.links source) s = run s (runLinks (sourceOf source.toNat)) := rfl
@[simp] theorem exec_startLimit (s : State) : exec .startLimit s = run s meetStartLimit := rfl
@[simp] theorem exec_registerWrite (master : Master) (reg : Reg) (value : W64) (s : State) : exec (.registerWrite master reg value) s = run s (writeRegister master reg value.toNat) := rfl
@[simp] theorem exec_nop (channel : Fin 18) (slot : Fin 64) (s : State) : exec (.nop channel slot) s = run s (serve 0x01 anyOwner doNop channel.val slot.val) := rfl
@[simp] theorem exec_channelOpen (channel : Fin 18) (slot : Fin 64) (s : State) : exec (.channelOpen channel slot) s = run s (serve 0x02 anyOwner doChannelOpen channel.val slot.val) := rfl
@[simp] theorem exec_channelClose (channel : Fin 18) (slot : Fin 64) (s : State) : exec (.channelClose channel slot) s = run s (serve 0x03 anyOwner doChannelClose channel.val slot.val) := rfl
@[simp] theorem exec_outboxSet (channel : Fin 18) (slot : Fin 64) (s : State) : exec (.outboxSet channel slot) s = run s (serve 0x04 (fun hw r => ownQp hw r (r.arg 2 2)) doOutboxSet channel.val slot.val) := rfl
@[simp] theorem exec_ethPortSet (channel : Fin 18) (slot : Fin 64) (s : State) : exec (.ethPortSet channel slot) s = run s (serve 0x08 anyOwner doEthPortSet channel.val slot.val) := rfl
@[simp] theorem exec_ethAddrSet (channel : Fin 18) (slot : Fin 64) (s : State) : exec (.ethAddrSet channel slot) s = run s (serve 0x09 anyOwner doEthAddrSet channel.val slot.val) := rfl
@[simp] theorem exec_ethCongSet (channel : Fin 18) (slot : Fin 64) (s : State) : exec (.ethCongSet channel slot) s = run s (serve 0x0A anyOwner doEthCongSet channel.val slot.val) := rfl
@[simp] theorem exec_ptpSet (channel : Fin 18) (slot : Fin 64) (s : State) : exec (.ptpSet channel slot) s = run s (serve 0x0B anyOwner doPtpSet channel.val slot.val) := rfl
@[simp] theorem exec_ethStatus (channel : Fin 18) (slot : Fin 64) (s : State) : exec (.ethStatus channel slot) s = run s (serve 0x0C anyOwner doEthStatus channel.val slot.val) := rfl
@[simp] theorem exec_qpCreate (channel : Fin 18) (slot : Fin 64) (s : State) : exec (.qpCreate channel slot) s = run s (serve 0x10 anyOwner doQpCreate channel.val slot.val) := rfl
@[simp] theorem exec_qpConnect (channel : Fin 18) (slot : Fin 64) (s : State) : exec (.qpConnect channel slot) s = run s (serve 0x11 (fun hw r => ownQp hw r (r.arg 0 2)) doQpConnect channel.val slot.val) := rfl
@[simp] theorem exec_qpDestroy (channel : Fin 18) (slot : Fin 64) (s : State) : exec (.qpDestroy channel slot) s = run s (serve 0x12 anyOwner doQpDestroy channel.val slot.val) := rfl
@[simp] theorem exec_qpStatus (channel : Fin 18) (slot : Fin 64) (s : State) : exec (.qpStatus channel slot) s = run s (serve 0x13 (fun hw r => ownQp hw r (r.arg 0 2)) doQpStatus channel.val slot.val) := rfl
@[simp] theorem exec_regionRegister (channel : Fin 18) (slot : Fin 64) (s : State) : exec (.regionRegister channel slot) s = run s (serve 0x14 (fun hw r => ownPlan hw r (r.arg 0 4) && (r.arg 6 1 != 3 || ownQp hw r (r.arg 0x1A 2))) doRegionRegister channel.val slot.val) := rfl
@[simp] theorem exec_regionRelease (channel : Fin 18) (slot : Fin 64) (s : State) : exec (.regionRelease channel slot) s = run s (serve 0x15 (fun hw r => ownRegion hw r (r.arg 0 2)) doRegionRelease channel.val slot.val) := rfl
@[simp] theorem exec_planAdmit (channel : Fin 18) (slot : Fin 64) (s : State) : exec (.planAdmit channel slot) s = run s (serveWith 0x20 (fun status r w => respond r status (admitRefusal 0 ⟨0, 0, 0, 0⟩) w) anyOwner admitRequest channel.val slot.val) := rfl
@[simp] theorem exec_planRelease (channel : Fin 18) (slot : Fin 64) (s : State) : exec (.planRelease channel slot) s = run s (serve 0x21 (fun hw r => ownPlan hw r (r.arg 0 4)) doPlanRelease channel.val slot.val) := rfl
@[simp] theorem exec_planList (channel : Fin 18) (slot : Fin 64) (s : State) : exec (.planList channel slot) s = run s (serve 0x22 anyOwner doPlanList channel.val slot.val) := rfl
@[simp] theorem exec_ctxStatusRead (channel : Fin 18) (slot : Fin 64) (s : State) : exec (.ctxStatusRead channel slot) s = run s (serve 0x23 (fun hw r => ownContext hw r (r.arg 0 2)) doCtxStatusRead channel.val slot.val) := rfl
@[simp] theorem exec_coreFaultRead (channel : Fin 18) (slot : Fin 64) (s : State) : exec (.coreFaultRead channel slot) s = run s (serve 0x24 (fun hw r => ownFault hw r (r.arg 0 2)) doCoreFaultRead channel.val slot.val) := rfl
@[simp] theorem exec_overrunRead (channel : Fin 18) (slot : Fin 64) (s : State) : exec (.overrunRead channel slot) s = run s (serve 0x25 anyOwner doOverrunRead channel.val slot.val) := rfl
@[simp] theorem exec_tickPeriodSet (channel : Fin 18) (slot : Fin 64) (s : State) : exec (.tickPeriodSet channel slot) s = run s (serve 0x26 anyOwner doTickPeriodSet channel.val slot.val) := rfl
@[simp] theorem exec_timeRoleSet (channel : Fin 18) (slot : Fin 64) (s : State) : exec (.timeRoleSet channel slot) s = run s (serve 0x27 anyOwner doTimeRoleSet channel.val slot.val) := rfl
@[simp] theorem exec_timeRead (channel : Fin 18) (slot : Fin 64) (s : State) : exec (.timeRead channel slot) s = run s (serve 0x28 anyOwner doTimeRead channel.val slot.val) := rfl
@[simp] theorem exec_floorSet (channel : Fin 18) (slot : Fin 64) (s : State) : exec (.floorSet channel slot) s = run s (serveWith 0x29 (fun status r w => respond r status (zeros 16) w) anyOwner doFloorSet channel.val slot.val) := rfl
@[simp] theorem exec_partitionSet (channel : Fin 18) (slot : Fin 64) (s : State) : exec (.partitionSet channel slot) s = run s (serve 0x2A anyOwner doPartitionSet channel.val slot.val) := rfl
@[simp] theorem exec_objectCreate (channel : Fin 18) (slot : Fin 64) (s : State) : exec (.objectCreate channel slot) s = run s (serve 0x30 anyOwner doObjectCreate channel.val slot.val) := rfl
@[simp] theorem exec_objectDelete (channel : Fin 18) (slot : Fin 64) (s : State) : exec (.objectDelete channel slot) s = run s (serve 0x31 (fun hw r => ownPart hw r (r.arg 0 1)) doObjectDelete channel.val slot.val) := rfl
@[simp] theorem exec_objectRead (channel : Fin 18) (slot : Fin 64) (s : State) : exec (.objectRead channel slot) s = run s (serve 0x32 (fun hw r => ownRegion hw r (r.arg 12 2)) (doObjectCopy false) channel.val slot.val) := rfl
@[simp] theorem exec_objectWrite (channel : Fin 18) (slot : Fin 64) (s : State) : exec (.objectWrite channel slot) s = run s (serve 0x33 (fun hw r => ownRegion hw r (r.arg 12 2)) (doObjectCopy true) channel.val slot.val) := rfl
@[simp] theorem exec_objectStatus (channel : Fin 18) (slot : Fin 64) (s : State) : exec (.objectStatus channel slot) s = run s (serve 0x34 (fun hw r => ownPart hw r (r.arg 0 1)) doObjectStatus channel.val slot.val) := rfl
@[simp] theorem exec_journalFlush (channel : Fin 18) (slot : Fin 64) (s : State) : exec (.journalFlush channel slot) s = run s (serve 0x35 anyOwner doJournalFlush channel.val slot.val) := rfl
@[simp] theorem exec_pagerRead (channel : Fin 18) (slot : Fin 64) (s : State) : exec (.pagerRead channel slot) s = run s (serve 0x36 (fun hw r => ownPart hw r (r.arg 0 1)) doPagerRead channel.val slot.val) := rfl
@[simp] theorem exec_groupRead (channel : Fin 18) (slot : Fin 64) (s : State) : exec (.groupRead channel slot) s = run s (serve 0x40 anyOwner doGroupRead channel.val slot.val) := rfl
@[simp] theorem exec_plinkSet (channel : Fin 18) (slot : Fin 64) (s : State) : exec (.plinkSet channel slot) s = run s (serve 0x41 anyOwner doPlinkSet channel.val slot.val) := rfl
@[simp] theorem exec_plinkArbSet (channel : Fin 18) (slot : Fin 64) (s : State) : exec (.plinkArbSet channel slot) s = run s (serve 0x42 anyOwner doPlinkArbSet channel.val slot.val) := rfl
@[simp] theorem exec_plinkRead (channel : Fin 18) (slot : Fin 64) (s : State) : exec (.plinkRead channel slot) s = run s (serve 0x43 anyOwner doPlinkRead channel.val slot.val) := rfl
@[simp] theorem exec_counterRead (channel : Fin 18) (slot : Fin 64) (s : State) : exec (.counterRead channel slot) s = run s (serve 0x50 anyOwner doCounterRead channel.val slot.val) := rfl
@[simp] theorem exec_traceSet (channel : Fin 18) (slot : Fin 64) (s : State) : exec (.traceSet channel slot) s = run s (serve 0x51 mayTrace doTraceSet channel.val slot.val) := rfl
@[simp] theorem exec_traceRead (channel : Fin 18) (slot : Fin 64) (s : State) : exec (.traceRead channel slot) s = run s (serve 0x52 anyOwner doTraceRead channel.val slot.val) := rfl
@[simp] theorem exec_stippleSet (channel : Fin 18) (slot : Fin 64) (s : State) : exec (.stippleSet channel slot) s = run s (serve 0x53 mayMonitor doStippleSet channel.val slot.val) := rfl
@[simp] theorem exec_stippleRead (channel : Fin 18) (slot : Fin 64) (s : State) : exec (.stippleRead channel slot) s = run s (serve 0x54 anyOwner doStippleRead channel.val slot.val) := rfl
@[simp] theorem exec_faultHistoryRead (channel : Fin 18) (slot : Fin 64) (s : State) : exec (.faultHistoryRead channel slot) s = run s (serve 0x60 mayAcknowledge doFaultHistoryRead channel.val slot.val) := rfl
@[simp] theorem exec_faultReactionSet (channel : Fin 18) (slot : Fin 64) (s : State) : exec (.faultReactionSet channel slot) s = run s (serve 0x61 anyOwner doFaultReactionSet channel.val slot.val) := rfl
@[simp] theorem exec_domainReset (channel : Fin 18) (slot : Fin 64) (s : State) : exec (.domainReset channel slot) s = run s (serve 0x62 anyOwner doDomainReset channel.val slot.val) := rfl
@[simp] theorem exec_moduleReset (channel : Fin 18) (slot : Fin 64) (s : State) : exec (.moduleReset channel slot) s = run s (serve 0x63 anyOwner doModuleReset channel.val slot.val) := rfl
@[simp] theorem exec_hangSet (channel : Fin 18) (slot : Fin 64) (s : State) : exec (.hangSet channel slot) s = run s (serveWith 0x64 (fun status r w => respond r status (hangReport w.hw) w) anyOwner doHangSet channel.val slot.val) := rfl
@[simp] theorem exec_powerRequest (channel : Fin 18) (slot : Fin 64) (s : State) : exec (.powerRequest channel slot) s = run s (serveWith 0x70 (refusePower (fun _ => 1) (fun r => r.arg 0 2)) anyOwner doPowerRequest channel.val slot.val) := rfl
@[simp] theorem exec_powerOrder (channel : Fin 18) (slot : Fin 64) (s : State) : exec (.powerOrder channel slot) s = run s (serveWith 0x71 (refusePower orderCode (fun _ => 0)) anyOwner doPowerOrder channel.val slot.val) := rfl
@[simp] theorem exec_orphanCapSet (channel : Fin 18) (slot : Fin 64) (s : State) : exec (.orphanCapSet channel slot) s = run s (serveWith 0x72 (refusePower (fun _ => 5) (fun r => r.arg 0 1)) anyOwner doOrphanCapSet channel.val slot.val) := rfl
@[simp] theorem exec_powerRead (channel : Fin 18) (slot : Fin 64) (s : State) : exec (.powerRead channel slot) s = run s (serve 0x73 anyOwner doPowerRead channel.val slot.val) := rfl
@[simp] theorem exec_ageingRead (channel : Fin 18) (slot : Fin 64) (s : State) : exec (.ageingRead channel slot) s = run s (serve 0x74 anyOwner doAgeingRead channel.val slot.val) := rfl
@[simp] theorem exec_pairSet (channel : Fin 18) (slot : Fin 64) (s : State) : exec (.pairSet channel slot) s = run s (serve 0x80 anyOwner doPairSet channel.val slot.val) := rfl
@[simp] theorem exec_leaseGrant (channel : Fin 18) (slot : Fin 64) (s : State) : exec (.leaseGrant channel slot) s = run s (serve 0x81 anyOwner doLeaseGrant channel.val slot.val) := rfl
@[simp] theorem exec_switchOver (channel : Fin 18) (slot : Fin 64) (s : State) : exec (.switchOver channel slot) s = run s (serve 0x82 anyOwner doSwitchOver channel.val slot.val) := rfl
@[simp] theorem exec_mirrorWindowSet (channel : Fin 18) (slot : Fin 64) (s : State) : exec (.mirrorWindowSet channel slot) s = run s (serve 0x83 (fun hw r => ownPlan hw r (r.arg 4 4)) doMirrorWindowSet channel.val slot.val) := rfl
@[simp] theorem exec_pairRead (channel : Fin 18) (slot : Fin 64) (s : State) : exec (.pairRead channel slot) s = run s (serve 0x84 anyOwner doPairRead channel.val slot.val) := rfl
@[simp] theorem exec_attest (channel : Fin 18) (slot : Fin 64) (s : State) : exec (.attest channel slot) s = run s (serve 0x90 anyOwner doAttest channel.val slot.val) := rfl
@[simp] theorem exec_imageUpdate (channel : Fin 18) (slot : Fin 64) (s : State) : exec (.imageUpdate channel slot) s = run s (serve 0x91 anyOwner doImageUpdate channel.val slot.val) := rfl
@[simp] theorem exec_serviceMode (channel : Fin 18) (slot : Fin 64) (s : State) : exec (.serviceMode channel slot) s = run s (serve 0x92 anyOwner doServiceMode channel.val slot.val) := rfl
@[simp] theorem exec_keyEnrol (channel : Fin 18) (slot : Fin 64) (s : State) : exec (.keyEnrol channel slot) s = run s (serve 0x93 anyOwner doKeyEnrol channel.val slot.val) := rfl
@[simp] theorem exec_topologySet (channel : Fin 18) (slot : Fin 64) (s : State) : exec (.topologySet channel slot) s = run s (serve 0x94 anyOwner doTopologySet channel.val slot.val) := rfl
@[simp] theorem exec_stateRead (channel : Fin 18) (slot : Fin 64) (s : State) : exec (.stateRead channel slot) s = run s (serve 0x95 anyOwner doStateRead channel.val slot.val) := rfl
@[simp] theorem exec_flitCrcFailed (port : Fin 6) (s : State) : exec (.flitCrcFailed port) s = run s (crcFailed port.val) := rfl
@[simp] theorem exec_badFlits (rx : Rx) (reserved : Bool) (vc type : Byte) (s : State) : exec (.badFlits rx reserved vc type) s = run s (takeBadFlit rx reserved vc.toNat type.toNat) := rfl
@[simp] theorem exec_linkInitSend (port : Fin 6) (s : State) : exec (.linkInitSend port) s = run s (sendInit port.val) := rfl
@[simp] theorem exec_lastFlitLeaves (core : BitVec 8) (op : BitVec 6) (s : State) : exec (.lastFlitLeaves core op) s = run s (leaveMsg core.toNat op.toNat) := rfl
@[simp] theorem exec_ethLinkUp (h : Fin 8) (s : State) : exec (.ethLinkUp h) s = run s (ethUp h.val) := rfl
@[simp] theorem exec_qpAckTimeout (qp : BitVec 12) (s : State) : exec (.qpAckTimeout qp) s = run s (ackTimeoutQp qp.toNat) := rfl
@[simp] theorem exec_mgmtPortDown (s : State) : exec .mgmtPortDown s = run s (mgmtLink false) := rfl
@[simp] theorem exec_mgmtPortUp (s : State) : exec .mgmtPortUp s = run s (mgmtLink true) := rfl
@[simp] theorem exec_droopEnd (spire : Fin 4) (lasted : Byte) (s : State) : exec (.droopEnd spire lasted) s = run s (endDroop spire.val lasted.toNat) := rfl
@[simp] theorem exec_thermalTripRelease (s : State) : exec .thermalTripRelease s = run s releaseTrip := rfl
@[simp] theorem exec_standbyResume (failure : Option (Byte × W32)) (s : State) : exec (.standbyResume failure) s = run s (resumeStandby (failure.map (fun f => (f.1.toNat, f.2.toNat % 256)))) := rfl
@[simp] theorem exec_registerParity (kind : Byte) (unit : Byte) (s : State) : exec (.registerParity kind unit) s = run s (parityError kind.toNat unit.toNat) := rfl
@[simp] theorem exec_mirrorCopyComplete (part : Fin 4) (s : State) : exec (.mirrorCopyComplete part) s = run s (whileLive (sendCopy part.val)) := rfl
@[simp] theorem exec_objectCopyDone (channel : Fin 18) (slot : Fin 64) (t3 : T3Read) (s : State) : exec (.objectCopyDone channel slot t3) s = run s (continueCopy channel.val slot.val t3) := rfl
@[simp] theorem exec_bundleWriteDone (readBack : Bool) (s : State) : exec (.bundleWriteDone readBack) s = run s (bundleWritten readBack) := rfl

/-- Every command runs, but for the over-voltage reset above the absolute maximum, which is a fault (R6, R587). -/
theorem exec_runs (c : Instr) (s : State) : (∃ f : Work → Work, exec c s = run s f) ∨ exec c s = .fault .beyondRatings :=
  match c with
  | .frameTick sample => .inl ⟨_, exec_frameTick sample s⟩
  | .frameDeadline => .inl ⟨_, exec_frameDeadline s⟩
  | .frameComplete plan => .inl ⟨_, exec_frameComplete plan s⟩
  | .timeSourceLost source => .inl ⟨_, exec_timeSourceLost source s⟩
  | .holdoverExpiry => .inl ⟨_, exec_holdoverExpiry s⟩
  | .add sl => .inl ⟨_, exec_add sl s⟩
  | .sub sl => .inl ⟨_, exec_sub sl s⟩
  | .mul sl => .inl ⟨_, exec_mul sl s⟩
  | .and sl => .inl ⟨_, exec_and sl s⟩
  | .or sl => .inl ⟨_, exec_or sl s⟩
  | .xor sl => .inl ⟨_, exec_xor sl s⟩
  | .shl sl => .inl ⟨_, exec_shl sl s⟩
  | .shr sl => .inl ⟨_, exec_shr sl s⟩
  | .sra sl => .inl ⟨_, exec_sra sl s⟩
  | .min sl => .inl ⟨_, exec_min sl s⟩
  | .max sl => .inl ⟨_, exec_max sl s⟩
  | .slt sl => .inl ⟨_, exec_slt sl s⟩
  | .sltu sl => .inl ⟨_, exec_sltu sl s⟩
  | .addi sl => .inl ⟨_, exec_addi sl s⟩
  | .andi sl => .inl ⟨_, exec_andi sl s⟩
  | .ori sl => .inl ⟨_, exec_ori sl s⟩
  | .xori sl => .inl ⟨_, exec_xori sl s⟩
  | .shli sl => .inl ⟨_, exec_shli sl s⟩
  | .shri sl => .inl ⟨_, exec_shri sl s⟩
  | .srai sl => .inl ⟨_, exec_srai sl s⟩
  | .slti sl => .inl ⟨_, exec_slti sl s⟩
  | .li sl imm => .inl ⟨_, exec_li sl imm s⟩
  | .ld8 sl => .inl ⟨_, exec_ld8 sl s⟩
  | .ld16 sl => .inl ⟨_, exec_ld16 sl s⟩
  | .ld32 sl => .inl ⟨_, exec_ld32 sl s⟩
  | .ld64 sl => .inl ⟨_, exec_ld64 sl s⟩
  | .st8 sl => .inl ⟨_, exec_st8 sl s⟩
  | .st16 sl => .inl ⟨_, exec_st16 sl s⟩
  | .st32 sl => .inl ⟨_, exec_st32 sl s⟩
  | .st64 sl => .inl ⟨_, exec_st64 sl s⟩
  | .br sl => .inl ⟨_, exec_br sl s⟩
  | .call sl => .inl ⟨_, exec_call sl s⟩
  | .ret sl => .inl ⟨_, exec_ret sl s⟩
  | .beq sl => .inl ⟨_, exec_beq sl s⟩
  | .bne sl => .inl ⟨_, exec_bne sl s⟩
  | .blt sl => .inl ⟨_, exec_blt sl s⟩
  | .bge sl => .inl ⟨_, exec_bge sl s⟩
  | .loop sl => .inl ⟨_, exec_loop sl s⟩
  | .wait sl => .inl ⟨_, exec_wait sl s⟩
  | .waiti sl => .inl ⟨_, exec_waiti sl s⟩
  | .waitSatisfied core => .inl ⟨_, exec_waitSatisfied core s⟩
  | .wcadd sl => .inl ⟨_, exec_wcadd sl s⟩
  | .wcread sl => .inl ⟨_, exec_wcread sl s⟩
  | .time sl => .inl ⟨_, exec_time sl s⟩
  | .cyc sl => .inl ⟨_, exec_cyc sl s⟩
  | .tick sl => .inl ⟨_, exec_tick sl s⟩
  | .csrr sl => .inl ⟨_, exec_csrr sl s⟩
  | .csrw sl => .inl ⟨_, exec_csrw sl s⟩
  | .markb sl => .inl ⟨_, exec_markb sl s⟩
  | .marke sl => .inl ⟨_, exec_marke sl s⟩
  | .markp sl => .inl ⟨_, exec_markp sl s⟩
  | .endFrame sl => .inl ⟨_, exec_endFrame sl s⟩
  | .vadd sl => .inl ⟨_, exec_vadd sl s⟩
  | .vsub sl => .inl ⟨_, exec_vsub sl s⟩
  | .vmul sl => .inl ⟨_, exec_vmul sl s⟩
  | .vfma sl => .inl ⟨_, exec_vfma sl s⟩
  | .vmin sl => .inl ⟨_, exec_vmin sl s⟩
  | .vmax sl => .inl ⟨_, exec_vmax sl s⟩
  | .vabs sl => .inl ⟨_, exec_vabs sl s⟩
  | .vneg sl => .inl ⟨_, exec_vneg sl s⟩
  | .vexp2 sl => .inl ⟨_, exec_vexp2 sl s⟩
  | .vlog2 sl => .inl ⟨_, exec_vlog2 sl s⟩
  | .vrcp sl => .inl ⟨_, exec_vrcp sl s⟩
  | .vrsqrt sl => .inl ⟨_, exec_vrsqrt sl s⟩
  | .viadd sl => .inl ⟨_, exec_viadd sl s⟩
  | .visub sl => .inl ⟨_, exec_visub sl s⟩
  | .vimul sl => .inl ⟨_, exec_vimul sl s⟩
  | .vand sl => .inl ⟨_, exec_vand sl s⟩
  | .vor sl => .inl ⟨_, exec_vor sl s⟩
  | .vxor sl => .inl ⟨_, exec_vxor sl s⟩
  | .vshl sl => .inl ⟨_, exec_vshl sl s⟩
  | .vshr sl => .inl ⟨_, exec_vshr sl s⟩
  | .vsra sl => .inl ⟨_, exec_vsra sl s⟩
  | .vcmpeq sl => .inl ⟨_, exec_vcmpeq sl s⟩
  | .vcmplt sl => .inl ⟨_, exec_vcmplt sl s⟩
  | .vcmple sl => .inl ⟨_, exec_vcmple sl s⟩
  | .vsel sl => .inl ⟨_, exec_vsel sl s⟩
  | .vbcast sl => .inl ⟨_, exec_vbcast sl s⟩
  | .vperm sl => .inl ⟨_, exec_vperm sl s⟩
  | .vshiftl sl => .inl ⟨_, exec_vshiftl sl s⟩
  | .vredadd sl => .inl ⟨_, exec_vredadd sl s⟩
  | .vredmax sl => .inl ⟨_, exec_vredmax sl s⟩
  | .vcvt sl => .inl ⟨_, exec_vcvt sl s⟩
  | .vcvtmx sl => .inl ⟨_, exec_vcvtmx sl s⟩
  | .vld sl => .inl ⟨_, exec_vld sl s⟩
  | .vst sl => .inl ⟨_, exec_vst sl s⟩
  | .vstp sl => .inl ⟨_, exec_vstp sl s⟩
  | .vgather sl => .inl ⟨_, exec_vgather sl s⟩
  | .mdset sl => .inl ⟨_, exec_mdset sl s⟩
  | .mzero sl => .inl ⟨_, exec_mzero sl s⟩
  | .mma sl => .inl ⟨_, exec_mma sl s⟩
  | .mmas sl => .inl ⟨_, exec_mmas sl s⟩
  | .mload sl => .inl ⟨_, exec_mload sl s⟩
  | .mstore sl => .inl ⟨_, exec_mstore sl s⟩
  | .matrixOperationBegin core op => .inl ⟨_, exec_matrixOperationBegin core op s⟩
  | .streamPieceBegin core => .inl ⟨_, exec_streamPieceBegin core s⟩
  | .matrixOperationComplete core op => .inl ⟨_, exec_matrixOperationComplete core op s⟩
  | .mov sl => .inl ⟨_, exec_mov sl s⟩
  | .mov2d sl => .inl ⟨_, exec_mov2d sl s⟩
  | .mfill sl => .inl ⟨_, exec_mfill sl s⟩
  | .moveComplete core op => .inl ⟨_, exec_moveComplete core op s⟩
  | .send sl => .inl ⟨_, exec_send sl s⟩
  | .signal sl => .inl ⟨_, exec_signal sl s⟩
  | .recv sl => .inl ⟨_, exec_recv sl s⟩
  | .hwrite sl => .inl ⟨_, exec_hwrite sl s⟩
  | .hsend sl => .inl ⟨_, exec_hsend sl s⟩
  | .coll sl => .inl ⟨_, exec_coll sl s⟩
  | .allReduce core => .inl ⟨_, exec_allReduce core s⟩
  | .reduceScatter core => .inl ⟨_, exec_reduceScatter core s⟩
  | .allGather core => .inl ⟨_, exec_allGather core s⟩
  | .allToAll core => .inl ⟨_, exec_allToAll core s⟩
  | .broadcast core => .inl ⟨_, exec_broadcast core s⟩
  | .gissue sl => .inl ⟨_, exec_gissue sl s⟩
  | .phint sl => .inl ⟨_, exec_phint sl s⟩
  | .phintAccept core => .inl ⟨_, exec_phintAccept core s⟩
  | .placement t3 => .inl ⟨_, exec_placement t3 s⟩
  | .journalDrain failed => .inl ⟨_, exec_journalDrain failed s⟩
  | .flushEnd => .inl ⟨_, exec_flushEnd s⟩
  | .flushDeadline => .inl ⟨_, exec_flushDeadline s⟩
  | .gatherPool k => .inl ⟨_, exec_gatherPool k s⟩
  | .scoreSelect k => .inl ⟨_, exec_scoreSelect k s⟩
  | .pack k => .inl ⟨_, exec_pack k s⟩
  | .rowUpdate k => .inl ⟨_, exec_rowUpdate k s⟩
  | .checksum k => .inl ⟨_, exec_checksum k s⟩
  | .copy k => .inl ⟨_, exec_copy k s⟩
  | .fill k => .inl ⟨_, exec_fill k s⟩
  | .credit port ack freed => .inl ⟨_, exec_credit port ack freed s⟩
  | .nak port ack expected => .inl ⟨_, exec_nak port ack expected s⟩
  | .downRequest port _cause => .inl ⟨_, exec_downRequest port _cause s⟩
  | .replayTimeout port => .inl ⟨_, exec_replayTimeout port s⟩
  | .replayExhausted port => .inl ⟨_, exec_replayExhausted port s⟩
  | .lockLost port => .inl ⟨_, exec_lockLost port s⟩
  | .detect port lanes => .inl ⟨_, exec_detect port lanes s⟩
  | .train port ok => .inl ⟨_, exec_train port ok s⟩
  | .align port rxGood txGood => .inl ⟨_, exec_align port rxGood txGood s⟩
  | .linkInit port payload => .inl ⟨_, exec_linkInit port payload s⟩
  | .trainingRetry port => .inl ⟨_, exec_trainingRetry port s⟩
  | .laneRetrain port lane corrected symbols => .inl ⟨_, exec_laneRetrain port lane corrected symbols s⟩
  | .portHoldExpiry port => .inl ⟨_, exec_portHoldExpiry port s⟩
  | .timeExchange port => .inl ⟨_, exec_timeExchange port s⟩
  | .timeRequest rx payload => .inl ⟨_, exec_timeRequest rx payload s⟩
  | .timeResponse rx payload => .inl ⟨_, exec_timeResponse rx payload s⟩
  | .msgSend rx payload => .inl ⟨_, exec_msgSend rx payload s⟩
  | .msgSignal rx payload => .inl ⟨_, exec_msgSignal rx payload s⟩
  | .msgAnswer rx payload => .inl ⟨_, exec_msgAnswer rx payload s⟩
  | .ackTimeout core seq => .inl ⟨_, exec_ackTimeout core seq s⟩
  | .packageFabricTransfer transfer => .inl ⟨_, exec_packageFabricTransfer transfer s⟩
  | .fabricResend transfer => .inl ⟨_, exec_fabricResend transfer s⟩
  | .collReduce rx payload => .inl ⟨_, exec_collReduce rx payload s⟩
  | .collGather rx payload => .inl ⟨_, exec_collGather rx payload s⟩
  | .advertise rx record => .inl ⟨_, exec_advertise rx record s⟩
  | .grant rx record => .inl ⟨_, exec_grant rx record s⟩
  | .abort rx record => .inl ⟨_, exec_abort rx record s⟩
  | .absent rx record => .inl ⟨_, exec_absent rx record s⟩
  | .floorNotice rx record => .inl ⟨_, exec_floorNotice rx record s⟩
  | .audit rx record => .inl ⟨_, exec_audit rx record s⟩
  | .mgmt rx payload => .inl ⟨_, exec_mgmt rx payload s⟩
  | .trace rx payload => .inl ⟨_, exec_trace rx payload s⟩
  | .hello rx payload => .inl ⟨_, exec_hello rx payload s⟩
  | .granule rx payload => .inl ⟨_, exec_granule rx payload s⟩
  | .page rx payload => .inl ⟨_, exec_page rx payload s⟩
  | .frameEnd rx payload => .inl ⟨_, exec_frameEnd rx payload s⟩
  | .commit part => .inl ⟨_, exec_commit part s⟩
  | .ack rx payload => .inl ⟨_, exec_ack rx payload s⟩
  | .resend rx payload => .inl ⟨_, exec_resend rx payload s⟩
  | .mirrorResendTimeout part stream => .inl ⟨_, exec_mirrorResendTimeout part stream s⟩
  | .release rx payload => .inl ⟨_, exec_release rx payload s⟩
  | .partnerLost part => .inl ⟨_, exec_partnerLost part s⟩
  | .leaseExpiry part => .inl ⟨_, exec_leaseExpiry part s⟩
  | .takeover part => .inl ⟨_, exec_takeover part s⟩
  | .rdmaWrite qp psn rkey address data ce form => .inl ⟨_, exec_rdmaWrite qp psn rkey address data ce form s⟩
  | .rdmaRead qp psn rkey address length ce => .inl ⟨_, exec_rdmaRead qp psn rkey address length ce s⟩
  | .rdmaSend qp psn data imm ce => .inl ⟨_, exec_rdmaSend qp psn data imm ce s⟩
  | .seal qp psn rkey address bytes ce => .inl ⟨_, exec_seal qp psn rkey address bytes ce s⟩
  | .rdmaAck qp psn nak ce => .inl ⟨_, exec_rdmaAck qp psn nak ce s⟩
  | .qpRetryExhausted qp => .inl ⟨_, exec_qpRetryExhausted qp s⟩
  | .cnp qp => .inl ⟨_, exec_cnp qp s⟩
  | .tAlpha qp => .inl ⟨_, exec_tAlpha qp s⟩
  | .tInc qp => .inl ⟨_, exec_tInc qp s⟩
  | .pfcPause h enables quanta => .inl ⟨_, exec_pfcPause h enables quanta s⟩
  | .ptp h msg => .inl ⟨_, exec_ptp h msg s⟩
  | .lldp h chassis port => .inl ⟨_, exec_lldp h chassis port s⟩
  | .lldpSend h => .inl ⟨_, exec_lldpSend h s⟩
  | .arpRequest h ipv6 address => .inl ⟨_, exec_arpRequest h ipv6 address s⟩
  | .ethFrameDiscard h bad => .inl ⟨_, exec_ethFrameDiscard h bad s⟩
  | .ethLinkDown h => .inl ⟨_, exec_ethLinkDown h s⟩
  | .mgmtWrite channel xseq length target address data => .inl ⟨_, exec_mgmtWrite channel xseq length target address data s⟩
  | .mgmtRead channel xseq length target address => .inl ⟨_, exec_mgmtRead channel xseq length target address s⟩
  | .heartbeat frame => .inl ⟨_, exec_heartbeat frame s⟩
  | .heartbeatSend => .inl ⟨_, exec_heartbeatSend s⟩
  | .lease frame => .inl ⟨_, exec_lease frame s⟩
  | .seatAssign frame => .inl ⟨_, exec_seatAssign frame s⟩
  | .coolant frame => .inl ⟨_, exec_coolant frame s⟩
  | .alert frame => .inl ⟨_, exec_alert frame s⟩
  | .wake frame => .inl ⟨_, exec_wake frame s⟩
  | .tickMarker count hops => .inl ⟨_, exec_tickMarker count hops s⟩
  | .belfryFrameForward type frame crcOk => .inl ⟨_, exec_belfryFrameForward type frame crcOk s⟩
  | .markerLost => .inl ⟨_, exec_markerLost s⟩
  | .markerMismatch => .inl ⟨_, exec_markerMismatch s⟩
  | .masterless => .inl ⟨_, exec_masterless s⟩
  | .orphan => .inl ⟨_, exec_orphan s⟩
  | .coolantAssumed => .inl ⟨_, exec_coolantAssumed s⟩
  | .vrAlertN own => .inl ⟨_, exec_vrAlertN own s⟩
  | .vrAlertEnd => .inl ⟨_, exec_vrAlertEnd s⟩
  | .regulatorAlert => .inl ⟨_, exec_regulatorAlert s⟩
  | .supplyWarning volts => .inl ⟨_, exec_supplyWarning volts s⟩
  | .supplyGlitch volts => .inl ⟨_, exec_supplyGlitch volts s⟩
  | .supplyRecovery volts => .inl ⟨_, exec_supplyRecovery volts s⟩
  | .supplyReset volts holdup => .inl ⟨_, exec_supplyReset volts holdup s⟩
  | .overVoltageReset volts => by
    by_cases h : 6000 < volts.toNat
    · exact .inr (by simp [exec, execOverVoltageReset, h])
    · exact .inl ⟨overVoltage volts.toNat, by simp [exec, execOverVoltageReset, h]⟩
  | .droop spire detector => .inl ⟨_, exec_droop spire detector s⟩
  | .droopLong spire => .inl ⟨_, exec_droopLong spire s⟩
  | .thermalSample spots => .inl ⟨_, exec_thermalSample spots s⟩
  | .sensorPair spot => .inl ⟨_, exec_sensorPair spot s⟩
  | .thermalEmergency spire => .inl ⟨_, exec_thermalEmergency spire s⟩
  | .thermalTrip spot => .inl ⟨_, exec_thermalTrip spot s⟩
  | .orderlyHalt => .inl ⟨_, exec_orderlyHalt s⟩
  | .suddenCoolantLoss => .inl ⟨_, exec_suddenCoolantLoss s⟩
  | .domainRemoval => .inl ⟨_, exec_domainRemoval s⟩
  | .pwrEnAssert => .inl ⟨_, exec_pwrEnAssert s⟩
  | .aonPowerOn => .inl ⟨_, exec_aonPowerOn s⟩
  | .pwrEnDeassert => .inl ⟨_, exec_pwrEnDeassert s⟩
  | .aonPowerLoss => .inl ⟨_, exec_aonPowerLoss s⟩
  | .lanternReady => .inl ⟨_, exec_lanternReady s⟩
  | .turretWatchdog => .inl ⟨_, exec_turretWatchdog s⟩
  | .keepLockstep => .inl ⟨_, exec_keepLockstep s⟩
  | .collectorCheck => .inl ⟨_, exec_collectorCheck s⟩
  | .marginReview slack margins => .inl ⟨_, exec_marginReview slack margins s⟩
  | .scrub address outcome => .inl ⟨_, exec_scrub address outcome s⟩
  | .domainReturn kind unit ok => .inl ⟨_, exec_domainReturn kind unit ok s⟩
  | .domainDeadline kind unit => .inl ⟨_, exec_domainDeadline kind unit s⟩
  | .start romOk fuseOk storeOk crcBad => .inl ⟨_, exec_start romOk fuseOk storeOk crcBad s⟩
  | .cupola lpFail hashOk mapFail retrained => .inl ⟨_, exec_cupola lpFail hashOk mapFail retrained s⟩
  | .spires hbmFail testFail hashFail retrained => .inl ⟨_, exec_spires hbmFail testFail hashFail retrained s⟩
  | .coreFetch core => .inl ⟨_, exec_coreFetch core s⟩
  | .memoryTest rows => .inl ⟨_, exec_memoryTest rows s⟩
  | .links source => .inl ⟨_, exec_links source s⟩
  | .startLimit => .inl ⟨_, exec_startLimit s⟩
  | .registerWrite master reg value => .inl ⟨_, exec_registerWrite master reg value s⟩
  | .nop channel slot => .inl ⟨_, exec_nop channel slot s⟩
  | .channelOpen channel slot => .inl ⟨_, exec_channelOpen channel slot s⟩
  | .channelClose channel slot => .inl ⟨_, exec_channelClose channel slot s⟩
  | .outboxSet channel slot => .inl ⟨_, exec_outboxSet channel slot s⟩
  | .ethPortSet channel slot => .inl ⟨_, exec_ethPortSet channel slot s⟩
  | .ethAddrSet channel slot => .inl ⟨_, exec_ethAddrSet channel slot s⟩
  | .ethCongSet channel slot => .inl ⟨_, exec_ethCongSet channel slot s⟩
  | .ptpSet channel slot => .inl ⟨_, exec_ptpSet channel slot s⟩
  | .ethStatus channel slot => .inl ⟨_, exec_ethStatus channel slot s⟩
  | .qpCreate channel slot => .inl ⟨_, exec_qpCreate channel slot s⟩
  | .qpConnect channel slot => .inl ⟨_, exec_qpConnect channel slot s⟩
  | .qpDestroy channel slot => .inl ⟨_, exec_qpDestroy channel slot s⟩
  | .qpStatus channel slot => .inl ⟨_, exec_qpStatus channel slot s⟩
  | .regionRegister channel slot => .inl ⟨_, exec_regionRegister channel slot s⟩
  | .regionRelease channel slot => .inl ⟨_, exec_regionRelease channel slot s⟩
  | .planAdmit channel slot => .inl ⟨_, exec_planAdmit channel slot s⟩
  | .planRelease channel slot => .inl ⟨_, exec_planRelease channel slot s⟩
  | .planList channel slot => .inl ⟨_, exec_planList channel slot s⟩
  | .ctxStatusRead channel slot => .inl ⟨_, exec_ctxStatusRead channel slot s⟩
  | .coreFaultRead channel slot => .inl ⟨_, exec_coreFaultRead channel slot s⟩
  | .overrunRead channel slot => .inl ⟨_, exec_overrunRead channel slot s⟩
  | .tickPeriodSet channel slot => .inl ⟨_, exec_tickPeriodSet channel slot s⟩
  | .timeRoleSet channel slot => .inl ⟨_, exec_timeRoleSet channel slot s⟩
  | .timeRead channel slot => .inl ⟨_, exec_timeRead channel slot s⟩
  | .floorSet channel slot => .inl ⟨_, exec_floorSet channel slot s⟩
  | .partitionSet channel slot => .inl ⟨_, exec_partitionSet channel slot s⟩
  | .objectCreate channel slot => .inl ⟨_, exec_objectCreate channel slot s⟩
  | .objectDelete channel slot => .inl ⟨_, exec_objectDelete channel slot s⟩
  | .objectRead channel slot => .inl ⟨_, exec_objectRead channel slot s⟩
  | .objectWrite channel slot => .inl ⟨_, exec_objectWrite channel slot s⟩
  | .objectStatus channel slot => .inl ⟨_, exec_objectStatus channel slot s⟩
  | .journalFlush channel slot => .inl ⟨_, exec_journalFlush channel slot s⟩
  | .pagerRead channel slot => .inl ⟨_, exec_pagerRead channel slot s⟩
  | .groupRead channel slot => .inl ⟨_, exec_groupRead channel slot s⟩
  | .plinkSet channel slot => .inl ⟨_, exec_plinkSet channel slot s⟩
  | .plinkArbSet channel slot => .inl ⟨_, exec_plinkArbSet channel slot s⟩
  | .plinkRead channel slot => .inl ⟨_, exec_plinkRead channel slot s⟩
  | .counterRead channel slot => .inl ⟨_, exec_counterRead channel slot s⟩
  | .traceSet channel slot => .inl ⟨_, exec_traceSet channel slot s⟩
  | .traceRead channel slot => .inl ⟨_, exec_traceRead channel slot s⟩
  | .stippleSet channel slot => .inl ⟨_, exec_stippleSet channel slot s⟩
  | .stippleRead channel slot => .inl ⟨_, exec_stippleRead channel slot s⟩
  | .faultHistoryRead channel slot => .inl ⟨_, exec_faultHistoryRead channel slot s⟩
  | .faultReactionSet channel slot => .inl ⟨_, exec_faultReactionSet channel slot s⟩
  | .domainReset channel slot => .inl ⟨_, exec_domainReset channel slot s⟩
  | .moduleReset channel slot => .inl ⟨_, exec_moduleReset channel slot s⟩
  | .hangSet channel slot => .inl ⟨_, exec_hangSet channel slot s⟩
  | .powerRequest channel slot => .inl ⟨_, exec_powerRequest channel slot s⟩
  | .powerOrder channel slot => .inl ⟨_, exec_powerOrder channel slot s⟩
  | .orphanCapSet channel slot => .inl ⟨_, exec_orphanCapSet channel slot s⟩
  | .powerRead channel slot => .inl ⟨_, exec_powerRead channel slot s⟩
  | .ageingRead channel slot => .inl ⟨_, exec_ageingRead channel slot s⟩
  | .pairSet channel slot => .inl ⟨_, exec_pairSet channel slot s⟩
  | .leaseGrant channel slot => .inl ⟨_, exec_leaseGrant channel slot s⟩
  | .switchOver channel slot => .inl ⟨_, exec_switchOver channel slot s⟩
  | .mirrorWindowSet channel slot => .inl ⟨_, exec_mirrorWindowSet channel slot s⟩
  | .pairRead channel slot => .inl ⟨_, exec_pairRead channel slot s⟩
  | .attest channel slot => .inl ⟨_, exec_attest channel slot s⟩
  | .imageUpdate channel slot => .inl ⟨_, exec_imageUpdate channel slot s⟩
  | .serviceMode channel slot => .inl ⟨_, exec_serviceMode channel slot s⟩
  | .keyEnrol channel slot => .inl ⟨_, exec_keyEnrol channel slot s⟩
  | .topologySet channel slot => .inl ⟨_, exec_topologySet channel slot s⟩
  | .stateRead channel slot => .inl ⟨_, exec_stateRead channel slot s⟩
  | .flitCrcFailed port => .inl ⟨_, exec_flitCrcFailed port s⟩
  | .badFlits rx reserved vc type => .inl ⟨_, exec_badFlits rx reserved vc type s⟩
  | .linkInitSend port => .inl ⟨_, exec_linkInitSend port s⟩
  | .lastFlitLeaves core op => .inl ⟨_, exec_lastFlitLeaves core op s⟩
  | .ethLinkUp h => .inl ⟨_, exec_ethLinkUp h s⟩
  | .qpAckTimeout qp => .inl ⟨_, exec_qpAckTimeout qp s⟩
  | .mgmtPortDown => .inl ⟨_, exec_mgmtPortDown s⟩
  | .mgmtPortUp => .inl ⟨_, exec_mgmtPortUp s⟩
  | .droopEnd spire lasted => .inl ⟨_, exec_droopEnd spire lasted s⟩
  | .thermalTripRelease => .inl ⟨_, exec_thermalTripRelease s⟩
  | .standbyResume failure => .inl ⟨_, exec_standbyResume failure s⟩
  | .registerParity kind unit => .inl ⟨_, exec_registerParity kind unit s⟩
  | .mirrorCopyComplete part => .inl ⟨_, exec_mirrorCopyComplete part s⟩
  | .objectCopyDone channel slot t3 => .inl ⟨_, exec_objectCopyDone channel slot t3 s⟩
  | .bundleWriteDone readBack => .inl ⟨_, exec_bundleWriteDone readBack s⟩

end Sys2Proof.Machine
end

