-- ==== Sys2Proof/Laws/State.lean ====
section
/-! SUPPORT. Laws/State.lean: what each named update of the module leaves in each field, one lemma per field and update. -/
namespace Sys2Proof.Machine

/-! ## The start of a command -/

@[simp] theorem beginWork_time (s : State) : (beginWork s).hw.time = s.hw.time := rfl
@[simp] theorem beginWork_clks (s : State) : (beginWork s).hw.clks = s.hw.clks := rfl
@[simp] theorem beginWork_cores (s : State) : (beginWork s).hw.cores = s.hw.cores := rfl
@[simp] theorem beginWork_links (s : State) : (beginWork s).hw.links = s.hw.links := rfl
@[simp] theorem beginWork_pager (s : State) : (beginWork s).hw.pager = s.hw.pager := rfl
@[simp] theorem beginWork_gravers (s : State) : (beginWork s).hw.gravers = s.hw.gravers := rfl
@[simp] theorem beginWork_coll (s : State) : (beginWork s).hw.coll = s.hw.coll := rfl
@[simp] theorem beginWork_host (s : State) : (beginWork s).hw.host = s.hw.host := rfl
@[simp] theorem beginWork_keep (s : State) : (beginWork s).hw.keep = s.hw.keep := rfl
@[simp] theorem beginWork_lantern (s : State) : (beginWork s).hw.lantern = s.hw.lantern := rfl
@[simp] theorem beginWork_power (s : State) : (beginWork s).hw.power = s.hw.power := rfl
@[simp] theorem beginWork_fault (s : State) : (beginWork s).hw.fault = s.hw.fault := rfl
@[simp] theorem beginWork_hang (s : State) : (beginWork s).hw.hang = s.hw.hang := rfl
@[simp] theorem beginWork_mirror (s : State) : (beginWork s).hw.mirror = s.hw.mirror := rfl
@[simp] theorem beginWork_conserve (s : State) : (beginWork s).hw.conserve = s.hw.conserve := rfl
@[simp] theorem beginWork_plans (s : State) : (beginWork s).hw.plans = s.hw.plans := rfl
@[simp] theorem beginWork_burin (s : State) : (beginWork s).hw.burin = s.hw.burin := rfl
@[simp] theorem beginWork_monitors (s : State) : (beginWork s).hw.monitors = s.hw.monitors := rfl
@[simp] theorem beginWork_monitorsSince (s : State) : (beginWork s).hw.monitorsSince = s.hw.monitorsSince := rfl
@[simp] theorem beginWork_monitorsNext (s : State) : (beginWork s).hw.monitorsNext = s.hw.monitorsNext := rfl
@[simp] theorem beginWork_light (s : State) : (beginWork s).hw.light = s.hw.light := rfl
@[simp] theorem beginWork_ctr (s : State) : (beginWork s).hw.ctr = s.hw.ctr := rfl
@[simp] theorem beginWork_snapCur (s : State) : (beginWork s).hw.snapCur = s.hw.snapCur := rfl
@[simp] theorem beginWork_snapPrev (s : State) : (beginWork s).hw.snapPrev = s.hw.snapPrev := rfl
@[simp] theorem beginWork_bad (s : State) : (beginWork s).hw.bad = s.hw.bad := rfl
@[simp] theorem beginWork_tx (s : State) : (beginWork s).hw.tx = [] := rfl
@[simp] theorem beginWork_freeCtr (s : State) : (beginWork s).hw.freeCtr = s.hw.freeCtr := rfl
@[simp] theorem beginWork_base (s : State) : (beginWork s).base = s.mem := rfl
@[simp] theorem beginWork_log (s : State) : (beginWork s).log = [] := rfl
@[simp] theorem beginWork_marked (s : State) : (beginWork s).marked = 0 := rfl

/-! ## The end of a command -/

@[simp] theorem finish_hw (s : State) (w : Work) : (finish s w).hw = w.hw := rfl
@[simp] theorem finish_pending (s : State) (w : Work) : (finish s w).pending = s.pending := rfl
@[simp] theorem finish_mem (s : State) (w : Work) : (finish s w).mem = w.log.foldr (fun st m => applyStore m st) s.mem := rfl

/-! ## A change of the module -/

@[simp] theorem up_hw (f : Hw → Hw) (w : Work) : (w.up f).hw = f w.hw := rfl
@[simp] theorem up_base (f : Hw → Hw) (w : Work) : (w.up f).base = w.base := rfl
@[simp] theorem up_log (f : Hw → Hw) (w : Work) : (w.up f).log = w.log := rfl
@[simp] theorem up_marked (f : Hw → Hw) (w : Work) : (w.up f).marked = w.marked := rfl

/-! ## Time moves -/

@[simp] theorem advance_clks (t : Nat) (w : Work) : (advance w t).hw.clks = w.hw.clks := rfl
@[simp] theorem advance_cores (t : Nat) (w : Work) : (advance w t).hw.cores = w.hw.cores := rfl
@[simp] theorem advance_links (t : Nat) (w : Work) : (advance w t).hw.links = w.hw.links := rfl
@[simp] theorem advance_pager (t : Nat) (w : Work) : (advance w t).hw.pager = w.hw.pager := rfl
@[simp] theorem advance_gravers (t : Nat) (w : Work) : (advance w t).hw.gravers = w.hw.gravers := rfl
@[simp] theorem advance_coll (t : Nat) (w : Work) : (advance w t).hw.coll = w.hw.coll := rfl
@[simp] theorem advance_host (t : Nat) (w : Work) : (advance w t).hw.host = w.hw.host := rfl
@[simp] theorem advance_keep (t : Nat) (w : Work) : (advance w t).hw.keep = w.hw.keep := rfl
@[simp] theorem advance_lantern (t : Nat) (w : Work) : (advance w t).hw.lantern = w.hw.lantern := rfl
@[simp] theorem advance_power (t : Nat) (w : Work) : (advance w t).hw.power = w.hw.power := rfl
@[simp] theorem advance_fault (t : Nat) (w : Work) : (advance w t).hw.fault = w.hw.fault := rfl
@[simp] theorem advance_hang (t : Nat) (w : Work) : (advance w t).hw.hang = w.hw.hang := rfl
@[simp] theorem advance_mirror (t : Nat) (w : Work) : (advance w t).hw.mirror = w.hw.mirror := rfl
@[simp] theorem advance_conserve (t : Nat) (w : Work) : (advance w t).hw.conserve = w.hw.conserve := rfl
@[simp] theorem advance_plans (t : Nat) (w : Work) : (advance w t).hw.plans = w.hw.plans := rfl
@[simp] theorem advance_burin (t : Nat) (w : Work) : (advance w t).hw.burin = w.hw.burin := rfl
@[simp] theorem advance_monitors (t : Nat) (w : Work) : (advance w t).hw.monitors = w.hw.monitors := rfl
@[simp] theorem advance_monitorsSince (t : Nat) (w : Work) : (advance w t).hw.monitorsSince = w.hw.monitorsSince := rfl
@[simp] theorem advance_monitorsNext (t : Nat) (w : Work) : (advance w t).hw.monitorsNext = w.hw.monitorsNext := rfl
@[simp] theorem advance_light (t : Nat) (w : Work) : (advance w t).hw.light = w.hw.light := rfl
@[simp] theorem advance_ctr (t : Nat) (w : Work) : (advance w t).hw.ctr = w.hw.ctr := rfl
@[simp] theorem advance_snapCur (t : Nat) (w : Work) : (advance w t).hw.snapCur = w.hw.snapCur := rfl
@[simp] theorem advance_snapPrev (t : Nat) (w : Work) : (advance w t).hw.snapPrev = w.hw.snapPrev := rfl
@[simp] theorem advance_bad (t : Nat) (w : Work) : (advance w t).hw.bad = w.hw.bad := rfl
@[simp] theorem advance_tx (t : Nat) (w : Work) : (advance w t).hw.tx = w.hw.tx := rfl
@[simp] theorem advance_freeCtr (t : Nat) (w : Work) : (advance w t).hw.freeCtr = w.hw.freeCtr := rfl
@[simp] theorem advance_base (t : Nat) (w : Work) : (advance w t).base = w.base := rfl
@[simp] theorem advance_log (t : Nat) (w : Work) : (advance w t).log = w.log := rfl
theorem advance_time (t : Nat) (w : Work) : (advance w t).hw.time = { w.hw.time with now := max w.hw.time.now t } := rfl

/-! ## `setCore` -/

@[simp] theorem setCore_time (c : Nat) (v : CoreSt) (w : Work) : (setCore c v w).hw.time = w.hw.time := rfl
@[simp] theorem setCore_clks (c : Nat) (v : CoreSt) (w : Work) : (setCore c v w).hw.clks = w.hw.clks := rfl
@[simp] theorem setCore_links (c : Nat) (v : CoreSt) (w : Work) : (setCore c v w).hw.links = w.hw.links := rfl
@[simp] theorem setCore_pager (c : Nat) (v : CoreSt) (w : Work) : (setCore c v w).hw.pager = w.hw.pager := rfl
@[simp] theorem setCore_gravers (c : Nat) (v : CoreSt) (w : Work) : (setCore c v w).hw.gravers = w.hw.gravers := rfl
@[simp] theorem setCore_coll (c : Nat) (v : CoreSt) (w : Work) : (setCore c v w).hw.coll = w.hw.coll := rfl
@[simp] theorem setCore_host (c : Nat) (v : CoreSt) (w : Work) : (setCore c v w).hw.host = w.hw.host := rfl
@[simp] theorem setCore_keep (c : Nat) (v : CoreSt) (w : Work) : (setCore c v w).hw.keep = w.hw.keep := rfl
@[simp] theorem setCore_lantern (c : Nat) (v : CoreSt) (w : Work) : (setCore c v w).hw.lantern = w.hw.lantern := rfl
@[simp] theorem setCore_power (c : Nat) (v : CoreSt) (w : Work) : (setCore c v w).hw.power = w.hw.power := rfl
@[simp] theorem setCore_fault (c : Nat) (v : CoreSt) (w : Work) : (setCore c v w).hw.fault = w.hw.fault := rfl
@[simp] theorem setCore_hang (c : Nat) (v : CoreSt) (w : Work) : (setCore c v w).hw.hang = w.hw.hang := rfl
@[simp] theorem setCore_mirror (c : Nat) (v : CoreSt) (w : Work) : (setCore c v w).hw.mirror = w.hw.mirror := rfl
@[simp] theorem setCore_conserve (c : Nat) (v : CoreSt) (w : Work) : (setCore c v w).hw.conserve = w.hw.conserve := rfl
@[simp] theorem setCore_plans (c : Nat) (v : CoreSt) (w : Work) : (setCore c v w).hw.plans = w.hw.plans := rfl
@[simp] theorem setCore_burin (c : Nat) (v : CoreSt) (w : Work) : (setCore c v w).hw.burin = w.hw.burin := rfl
@[simp] theorem setCore_monitors (c : Nat) (v : CoreSt) (w : Work) : (setCore c v w).hw.monitors = w.hw.monitors := rfl
@[simp] theorem setCore_monitorsSince (c : Nat) (v : CoreSt) (w : Work) : (setCore c v w).hw.monitorsSince = w.hw.monitorsSince := rfl
@[simp] theorem setCore_monitorsNext (c : Nat) (v : CoreSt) (w : Work) : (setCore c v w).hw.monitorsNext = w.hw.monitorsNext := rfl
@[simp] theorem setCore_light (c : Nat) (v : CoreSt) (w : Work) : (setCore c v w).hw.light = w.hw.light := rfl
@[simp] theorem setCore_ctr (c : Nat) (v : CoreSt) (w : Work) : (setCore c v w).hw.ctr = w.hw.ctr := rfl
@[simp] theorem setCore_snapCur (c : Nat) (v : CoreSt) (w : Work) : (setCore c v w).hw.snapCur = w.hw.snapCur := rfl
@[simp] theorem setCore_snapPrev (c : Nat) (v : CoreSt) (w : Work) : (setCore c v w).hw.snapPrev = w.hw.snapPrev := rfl
@[simp] theorem setCore_bad (c : Nat) (v : CoreSt) (w : Work) : (setCore c v w).hw.bad = w.hw.bad := rfl
@[simp] theorem setCore_tx (c : Nat) (v : CoreSt) (w : Work) : (setCore c v w).hw.tx = w.hw.tx := rfl
@[simp] theorem setCore_freeCtr (c : Nat) (v : CoreSt) (w : Work) : (setCore c v w).hw.freeCtr = w.hw.freeCtr := rfl
@[simp] theorem setCore_base (c : Nat) (v : CoreSt) (w : Work) : (setCore c v w).base = w.base := rfl
@[simp] theorem setCore_log (c : Nat) (v : CoreSt) (w : Work) : (setCore c v w).log = w.log := rfl
@[simp] theorem setCore_marked (c : Nat) (v : CoreSt) (w : Work) : (setCore c v w).marked = w.marked := rfl

/-! ## `modCore` -/

@[simp] theorem modCore_time (c : Nat) (f : CoreSt → CoreSt) (w : Work) : (modCore c f w).hw.time = w.hw.time := rfl
@[simp] theorem modCore_clks (c : Nat) (f : CoreSt → CoreSt) (w : Work) : (modCore c f w).hw.clks = w.hw.clks := rfl
@[simp] theorem modCore_links (c : Nat) (f : CoreSt → CoreSt) (w : Work) : (modCore c f w).hw.links = w.hw.links := rfl
@[simp] theorem modCore_pager (c : Nat) (f : CoreSt → CoreSt) (w : Work) : (modCore c f w).hw.pager = w.hw.pager := rfl
@[simp] theorem modCore_gravers (c : Nat) (f : CoreSt → CoreSt) (w : Work) : (modCore c f w).hw.gravers = w.hw.gravers := rfl
@[simp] theorem modCore_coll (c : Nat) (f : CoreSt → CoreSt) (w : Work) : (modCore c f w).hw.coll = w.hw.coll := rfl
@[simp] theorem modCore_host (c : Nat) (f : CoreSt → CoreSt) (w : Work) : (modCore c f w).hw.host = w.hw.host := rfl
@[simp] theorem modCore_keep (c : Nat) (f : CoreSt → CoreSt) (w : Work) : (modCore c f w).hw.keep = w.hw.keep := rfl
@[simp] theorem modCore_lantern (c : Nat) (f : CoreSt → CoreSt) (w : Work) : (modCore c f w).hw.lantern = w.hw.lantern := rfl
@[simp] theorem modCore_power (c : Nat) (f : CoreSt → CoreSt) (w : Work) : (modCore c f w).hw.power = w.hw.power := rfl
@[simp] theorem modCore_fault (c : Nat) (f : CoreSt → CoreSt) (w : Work) : (modCore c f w).hw.fault = w.hw.fault := rfl
@[simp] theorem modCore_hang (c : Nat) (f : CoreSt → CoreSt) (w : Work) : (modCore c f w).hw.hang = w.hw.hang := rfl
@[simp] theorem modCore_mirror (c : Nat) (f : CoreSt → CoreSt) (w : Work) : (modCore c f w).hw.mirror = w.hw.mirror := rfl
@[simp] theorem modCore_conserve (c : Nat) (f : CoreSt → CoreSt) (w : Work) : (modCore c f w).hw.conserve = w.hw.conserve := rfl
@[simp] theorem modCore_plans (c : Nat) (f : CoreSt → CoreSt) (w : Work) : (modCore c f w).hw.plans = w.hw.plans := rfl
@[simp] theorem modCore_burin (c : Nat) (f : CoreSt → CoreSt) (w : Work) : (modCore c f w).hw.burin = w.hw.burin := rfl
@[simp] theorem modCore_monitors (c : Nat) (f : CoreSt → CoreSt) (w : Work) : (modCore c f w).hw.monitors = w.hw.monitors := rfl
@[simp] theorem modCore_monitorsSince (c : Nat) (f : CoreSt → CoreSt) (w : Work) : (modCore c f w).hw.monitorsSince = w.hw.monitorsSince := rfl
@[simp] theorem modCore_monitorsNext (c : Nat) (f : CoreSt → CoreSt) (w : Work) : (modCore c f w).hw.monitorsNext = w.hw.monitorsNext := rfl
@[simp] theorem modCore_light (c : Nat) (f : CoreSt → CoreSt) (w : Work) : (modCore c f w).hw.light = w.hw.light := rfl
@[simp] theorem modCore_ctr (c : Nat) (f : CoreSt → CoreSt) (w : Work) : (modCore c f w).hw.ctr = w.hw.ctr := rfl
@[simp] theorem modCore_snapCur (c : Nat) (f : CoreSt → CoreSt) (w : Work) : (modCore c f w).hw.snapCur = w.hw.snapCur := rfl
@[simp] theorem modCore_snapPrev (c : Nat) (f : CoreSt → CoreSt) (w : Work) : (modCore c f w).hw.snapPrev = w.hw.snapPrev := rfl
@[simp] theorem modCore_bad (c : Nat) (f : CoreSt → CoreSt) (w : Work) : (modCore c f w).hw.bad = w.hw.bad := rfl
@[simp] theorem modCore_tx (c : Nat) (f : CoreSt → CoreSt) (w : Work) : (modCore c f w).hw.tx = w.hw.tx := rfl
@[simp] theorem modCore_freeCtr (c : Nat) (f : CoreSt → CoreSt) (w : Work) : (modCore c f w).hw.freeCtr = w.hw.freeCtr := rfl
@[simp] theorem modCore_base (c : Nat) (f : CoreSt → CoreSt) (w : Work) : (modCore c f w).base = w.base := rfl
@[simp] theorem modCore_log (c : Nat) (f : CoreSt → CoreSt) (w : Work) : (modCore c f w).log = w.log := rfl
@[simp] theorem modCore_marked (c : Nat) (f : CoreSt → CoreSt) (w : Work) : (modCore c f w).marked = w.marked := rfl

/-! ## `modPort` -/

@[simp] theorem modPort_time (p : Nat) (f : Port → Port) (w : Work) : (modPort p f w).hw.time = w.hw.time := rfl
@[simp] theorem modPort_clks (p : Nat) (f : Port → Port) (w : Work) : (modPort p f w).hw.clks = w.hw.clks := rfl
@[simp] theorem modPort_cores (p : Nat) (f : Port → Port) (w : Work) : (modPort p f w).hw.cores = w.hw.cores := rfl
@[simp] theorem modPort_pager (p : Nat) (f : Port → Port) (w : Work) : (modPort p f w).hw.pager = w.hw.pager := rfl
@[simp] theorem modPort_gravers (p : Nat) (f : Port → Port) (w : Work) : (modPort p f w).hw.gravers = w.hw.gravers := rfl
@[simp] theorem modPort_coll (p : Nat) (f : Port → Port) (w : Work) : (modPort p f w).hw.coll = w.hw.coll := rfl
@[simp] theorem modPort_host (p : Nat) (f : Port → Port) (w : Work) : (modPort p f w).hw.host = w.hw.host := rfl
@[simp] theorem modPort_keep (p : Nat) (f : Port → Port) (w : Work) : (modPort p f w).hw.keep = w.hw.keep := rfl
@[simp] theorem modPort_lantern (p : Nat) (f : Port → Port) (w : Work) : (modPort p f w).hw.lantern = w.hw.lantern := rfl
@[simp] theorem modPort_power (p : Nat) (f : Port → Port) (w : Work) : (modPort p f w).hw.power = w.hw.power := rfl
@[simp] theorem modPort_fault (p : Nat) (f : Port → Port) (w : Work) : (modPort p f w).hw.fault = w.hw.fault := rfl
@[simp] theorem modPort_hang (p : Nat) (f : Port → Port) (w : Work) : (modPort p f w).hw.hang = w.hw.hang := rfl
@[simp] theorem modPort_mirror (p : Nat) (f : Port → Port) (w : Work) : (modPort p f w).hw.mirror = w.hw.mirror := rfl
@[simp] theorem modPort_conserve (p : Nat) (f : Port → Port) (w : Work) : (modPort p f w).hw.conserve = w.hw.conserve := rfl
@[simp] theorem modPort_plans (p : Nat) (f : Port → Port) (w : Work) : (modPort p f w).hw.plans = w.hw.plans := rfl
@[simp] theorem modPort_burin (p : Nat) (f : Port → Port) (w : Work) : (modPort p f w).hw.burin = w.hw.burin := rfl
@[simp] theorem modPort_monitors (p : Nat) (f : Port → Port) (w : Work) : (modPort p f w).hw.monitors = w.hw.monitors := rfl
@[simp] theorem modPort_monitorsSince (p : Nat) (f : Port → Port) (w : Work) : (modPort p f w).hw.monitorsSince = w.hw.monitorsSince := rfl
@[simp] theorem modPort_monitorsNext (p : Nat) (f : Port → Port) (w : Work) : (modPort p f w).hw.monitorsNext = w.hw.monitorsNext := rfl
@[simp] theorem modPort_light (p : Nat) (f : Port → Port) (w : Work) : (modPort p f w).hw.light = w.hw.light := rfl
@[simp] theorem modPort_ctr (p : Nat) (f : Port → Port) (w : Work) : (modPort p f w).hw.ctr = w.hw.ctr := rfl
@[simp] theorem modPort_snapCur (p : Nat) (f : Port → Port) (w : Work) : (modPort p f w).hw.snapCur = w.hw.snapCur := rfl
@[simp] theorem modPort_snapPrev (p : Nat) (f : Port → Port) (w : Work) : (modPort p f w).hw.snapPrev = w.hw.snapPrev := rfl
@[simp] theorem modPort_bad (p : Nat) (f : Port → Port) (w : Work) : (modPort p f w).hw.bad = w.hw.bad := rfl
@[simp] theorem modPort_tx (p : Nat) (f : Port → Port) (w : Work) : (modPort p f w).hw.tx = w.hw.tx := rfl
@[simp] theorem modPort_freeCtr (p : Nat) (f : Port → Port) (w : Work) : (modPort p f w).hw.freeCtr = w.hw.freeCtr := rfl
@[simp] theorem modPort_base (p : Nat) (f : Port → Port) (w : Work) : (modPort p f w).base = w.base := rfl
@[simp] theorem modPort_log (p : Nat) (f : Port → Port) (w : Work) : (modPort p f w).log = w.log := rfl
@[simp] theorem modPort_marked (p : Nat) (f : Port → Port) (w : Work) : (modPort p f w).marked = w.marked := rfl

/-! ## `modFabric` -/

@[simp] theorem modFabric_time (f : List FabricMsg → List FabricMsg) (w : Work) : (modFabric f w).hw.time = w.hw.time := rfl
@[simp] theorem modFabric_clks (f : List FabricMsg → List FabricMsg) (w : Work) : (modFabric f w).hw.clks = w.hw.clks := rfl
@[simp] theorem modFabric_cores (f : List FabricMsg → List FabricMsg) (w : Work) : (modFabric f w).hw.cores = w.hw.cores := rfl
@[simp] theorem modFabric_pager (f : List FabricMsg → List FabricMsg) (w : Work) : (modFabric f w).hw.pager = w.hw.pager := rfl
@[simp] theorem modFabric_gravers (f : List FabricMsg → List FabricMsg) (w : Work) : (modFabric f w).hw.gravers = w.hw.gravers := rfl
@[simp] theorem modFabric_coll (f : List FabricMsg → List FabricMsg) (w : Work) : (modFabric f w).hw.coll = w.hw.coll := rfl
@[simp] theorem modFabric_host (f : List FabricMsg → List FabricMsg) (w : Work) : (modFabric f w).hw.host = w.hw.host := rfl
@[simp] theorem modFabric_keep (f : List FabricMsg → List FabricMsg) (w : Work) : (modFabric f w).hw.keep = w.hw.keep := rfl
@[simp] theorem modFabric_lantern (f : List FabricMsg → List FabricMsg) (w : Work) : (modFabric f w).hw.lantern = w.hw.lantern := rfl
@[simp] theorem modFabric_power (f : List FabricMsg → List FabricMsg) (w : Work) : (modFabric f w).hw.power = w.hw.power := rfl
@[simp] theorem modFabric_fault (f : List FabricMsg → List FabricMsg) (w : Work) : (modFabric f w).hw.fault = w.hw.fault := rfl
@[simp] theorem modFabric_hang (f : List FabricMsg → List FabricMsg) (w : Work) : (modFabric f w).hw.hang = w.hw.hang := rfl
@[simp] theorem modFabric_mirror (f : List FabricMsg → List FabricMsg) (w : Work) : (modFabric f w).hw.mirror = w.hw.mirror := rfl
@[simp] theorem modFabric_conserve (f : List FabricMsg → List FabricMsg) (w : Work) : (modFabric f w).hw.conserve = w.hw.conserve := rfl
@[simp] theorem modFabric_plans (f : List FabricMsg → List FabricMsg) (w : Work) : (modFabric f w).hw.plans = w.hw.plans := rfl
@[simp] theorem modFabric_burin (f : List FabricMsg → List FabricMsg) (w : Work) : (modFabric f w).hw.burin = w.hw.burin := rfl
@[simp] theorem modFabric_monitors (f : List FabricMsg → List FabricMsg) (w : Work) : (modFabric f w).hw.monitors = w.hw.monitors := rfl
@[simp] theorem modFabric_monitorsSince (f : List FabricMsg → List FabricMsg) (w : Work) : (modFabric f w).hw.monitorsSince = w.hw.monitorsSince := rfl
@[simp] theorem modFabric_monitorsNext (f : List FabricMsg → List FabricMsg) (w : Work) : (modFabric f w).hw.monitorsNext = w.hw.monitorsNext := rfl
@[simp] theorem modFabric_light (f : List FabricMsg → List FabricMsg) (w : Work) : (modFabric f w).hw.light = w.hw.light := rfl
@[simp] theorem modFabric_ctr (f : List FabricMsg → List FabricMsg) (w : Work) : (modFabric f w).hw.ctr = w.hw.ctr := rfl
@[simp] theorem modFabric_snapCur (f : List FabricMsg → List FabricMsg) (w : Work) : (modFabric f w).hw.snapCur = w.hw.snapCur := rfl
@[simp] theorem modFabric_snapPrev (f : List FabricMsg → List FabricMsg) (w : Work) : (modFabric f w).hw.snapPrev = w.hw.snapPrev := rfl
@[simp] theorem modFabric_bad (f : List FabricMsg → List FabricMsg) (w : Work) : (modFabric f w).hw.bad = w.hw.bad := rfl
@[simp] theorem modFabric_tx (f : List FabricMsg → List FabricMsg) (w : Work) : (modFabric f w).hw.tx = w.hw.tx := rfl
@[simp] theorem modFabric_freeCtr (f : List FabricMsg → List FabricMsg) (w : Work) : (modFabric f w).hw.freeCtr = w.hw.freeCtr := rfl
@[simp] theorem modFabric_base (f : List FabricMsg → List FabricMsg) (w : Work) : (modFabric f w).base = w.base := rfl
@[simp] theorem modFabric_log (f : List FabricMsg → List FabricMsg) (w : Work) : (modFabric f w).log = w.log := rfl
@[simp] theorem modFabric_marked (f : List FabricMsg → List FabricMsg) (w : Work) : (modFabric f w).marked = w.marked := rfl

/-! ## `modGraver` -/

@[simp] theorem modGraver_time (k : Nat) (f : GraverSt → GraverSt) (w : Work) : (modGraver k f w).hw.time = w.hw.time := rfl
@[simp] theorem modGraver_clks (k : Nat) (f : GraverSt → GraverSt) (w : Work) : (modGraver k f w).hw.clks = w.hw.clks := rfl
@[simp] theorem modGraver_cores (k : Nat) (f : GraverSt → GraverSt) (w : Work) : (modGraver k f w).hw.cores = w.hw.cores := rfl
@[simp] theorem modGraver_links (k : Nat) (f : GraverSt → GraverSt) (w : Work) : (modGraver k f w).hw.links = w.hw.links := rfl
@[simp] theorem modGraver_pager (k : Nat) (f : GraverSt → GraverSt) (w : Work) : (modGraver k f w).hw.pager = w.hw.pager := rfl
@[simp] theorem modGraver_coll (k : Nat) (f : GraverSt → GraverSt) (w : Work) : (modGraver k f w).hw.coll = w.hw.coll := rfl
@[simp] theorem modGraver_host (k : Nat) (f : GraverSt → GraverSt) (w : Work) : (modGraver k f w).hw.host = w.hw.host := rfl
@[simp] theorem modGraver_keep (k : Nat) (f : GraverSt → GraverSt) (w : Work) : (modGraver k f w).hw.keep = w.hw.keep := rfl
@[simp] theorem modGraver_lantern (k : Nat) (f : GraverSt → GraverSt) (w : Work) : (modGraver k f w).hw.lantern = w.hw.lantern := rfl
@[simp] theorem modGraver_power (k : Nat) (f : GraverSt → GraverSt) (w : Work) : (modGraver k f w).hw.power = w.hw.power := rfl
@[simp] theorem modGraver_fault (k : Nat) (f : GraverSt → GraverSt) (w : Work) : (modGraver k f w).hw.fault = w.hw.fault := rfl
@[simp] theorem modGraver_hang (k : Nat) (f : GraverSt → GraverSt) (w : Work) : (modGraver k f w).hw.hang = w.hw.hang := rfl
@[simp] theorem modGraver_mirror (k : Nat) (f : GraverSt → GraverSt) (w : Work) : (modGraver k f w).hw.mirror = w.hw.mirror := rfl
@[simp] theorem modGraver_conserve (k : Nat) (f : GraverSt → GraverSt) (w : Work) : (modGraver k f w).hw.conserve = w.hw.conserve := rfl
@[simp] theorem modGraver_plans (k : Nat) (f : GraverSt → GraverSt) (w : Work) : (modGraver k f w).hw.plans = w.hw.plans := rfl
@[simp] theorem modGraver_burin (k : Nat) (f : GraverSt → GraverSt) (w : Work) : (modGraver k f w).hw.burin = w.hw.burin := rfl
@[simp] theorem modGraver_monitors (k : Nat) (f : GraverSt → GraverSt) (w : Work) : (modGraver k f w).hw.monitors = w.hw.monitors := rfl
@[simp] theorem modGraver_monitorsSince (k : Nat) (f : GraverSt → GraverSt) (w : Work) : (modGraver k f w).hw.monitorsSince = w.hw.monitorsSince := rfl
@[simp] theorem modGraver_monitorsNext (k : Nat) (f : GraverSt → GraverSt) (w : Work) : (modGraver k f w).hw.monitorsNext = w.hw.monitorsNext := rfl
@[simp] theorem modGraver_light (k : Nat) (f : GraverSt → GraverSt) (w : Work) : (modGraver k f w).hw.light = w.hw.light := rfl
@[simp] theorem modGraver_ctr (k : Nat) (f : GraverSt → GraverSt) (w : Work) : (modGraver k f w).hw.ctr = w.hw.ctr := rfl
@[simp] theorem modGraver_snapCur (k : Nat) (f : GraverSt → GraverSt) (w : Work) : (modGraver k f w).hw.snapCur = w.hw.snapCur := rfl
@[simp] theorem modGraver_snapPrev (k : Nat) (f : GraverSt → GraverSt) (w : Work) : (modGraver k f w).hw.snapPrev = w.hw.snapPrev := rfl
@[simp] theorem modGraver_bad (k : Nat) (f : GraverSt → GraverSt) (w : Work) : (modGraver k f w).hw.bad = w.hw.bad := rfl
@[simp] theorem modGraver_tx (k : Nat) (f : GraverSt → GraverSt) (w : Work) : (modGraver k f w).hw.tx = w.hw.tx := rfl
@[simp] theorem modGraver_freeCtr (k : Nat) (f : GraverSt → GraverSt) (w : Work) : (modGraver k f w).hw.freeCtr = w.hw.freeCtr := rfl
@[simp] theorem modGraver_base (k : Nat) (f : GraverSt → GraverSt) (w : Work) : (modGraver k f w).base = w.base := rfl
@[simp] theorem modGraver_log (k : Nat) (f : GraverSt → GraverSt) (w : Work) : (modGraver k f w).log = w.log := rfl
@[simp] theorem modGraver_marked (k : Nat) (f : GraverSt → GraverSt) (w : Work) : (modGraver k f w).marked = w.marked := rfl

/-! ## `modSpire` -/

@[simp] theorem modSpire_time (s : Nat) (f : SpirePower → SpirePower) (w : Work) : (modSpire s f w).hw.time = w.hw.time := rfl
@[simp] theorem modSpire_clks (s : Nat) (f : SpirePower → SpirePower) (w : Work) : (modSpire s f w).hw.clks = w.hw.clks := rfl
@[simp] theorem modSpire_cores (s : Nat) (f : SpirePower → SpirePower) (w : Work) : (modSpire s f w).hw.cores = w.hw.cores := rfl
@[simp] theorem modSpire_links (s : Nat) (f : SpirePower → SpirePower) (w : Work) : (modSpire s f w).hw.links = w.hw.links := rfl
@[simp] theorem modSpire_pager (s : Nat) (f : SpirePower → SpirePower) (w : Work) : (modSpire s f w).hw.pager = w.hw.pager := rfl
@[simp] theorem modSpire_gravers (s : Nat) (f : SpirePower → SpirePower) (w : Work) : (modSpire s f w).hw.gravers = w.hw.gravers := rfl
@[simp] theorem modSpire_coll (s : Nat) (f : SpirePower → SpirePower) (w : Work) : (modSpire s f w).hw.coll = w.hw.coll := rfl
@[simp] theorem modSpire_host (s : Nat) (f : SpirePower → SpirePower) (w : Work) : (modSpire s f w).hw.host = w.hw.host := rfl
@[simp] theorem modSpire_keep (s : Nat) (f : SpirePower → SpirePower) (w : Work) : (modSpire s f w).hw.keep = w.hw.keep := rfl
@[simp] theorem modSpire_lantern (s : Nat) (f : SpirePower → SpirePower) (w : Work) : (modSpire s f w).hw.lantern = w.hw.lantern := rfl
@[simp] theorem modSpire_fault (s : Nat) (f : SpirePower → SpirePower) (w : Work) : (modSpire s f w).hw.fault = w.hw.fault := rfl
@[simp] theorem modSpire_hang (s : Nat) (f : SpirePower → SpirePower) (w : Work) : (modSpire s f w).hw.hang = w.hw.hang := rfl
@[simp] theorem modSpire_mirror (s : Nat) (f : SpirePower → SpirePower) (w : Work) : (modSpire s f w).hw.mirror = w.hw.mirror := rfl
@[simp] theorem modSpire_conserve (s : Nat) (f : SpirePower → SpirePower) (w : Work) : (modSpire s f w).hw.conserve = w.hw.conserve := rfl
@[simp] theorem modSpire_plans (s : Nat) (f : SpirePower → SpirePower) (w : Work) : (modSpire s f w).hw.plans = w.hw.plans := rfl
@[simp] theorem modSpire_burin (s : Nat) (f : SpirePower → SpirePower) (w : Work) : (modSpire s f w).hw.burin = w.hw.burin := rfl
@[simp] theorem modSpire_monitors (s : Nat) (f : SpirePower → SpirePower) (w : Work) : (modSpire s f w).hw.monitors = w.hw.monitors := rfl
@[simp] theorem modSpire_monitorsSince (s : Nat) (f : SpirePower → SpirePower) (w : Work) : (modSpire s f w).hw.monitorsSince = w.hw.monitorsSince := rfl
@[simp] theorem modSpire_monitorsNext (s : Nat) (f : SpirePower → SpirePower) (w : Work) : (modSpire s f w).hw.monitorsNext = w.hw.monitorsNext := rfl
@[simp] theorem modSpire_light (s : Nat) (f : SpirePower → SpirePower) (w : Work) : (modSpire s f w).hw.light = w.hw.light := rfl
@[simp] theorem modSpire_ctr (s : Nat) (f : SpirePower → SpirePower) (w : Work) : (modSpire s f w).hw.ctr = w.hw.ctr := rfl
@[simp] theorem modSpire_snapCur (s : Nat) (f : SpirePower → SpirePower) (w : Work) : (modSpire s f w).hw.snapCur = w.hw.snapCur := rfl
@[simp] theorem modSpire_snapPrev (s : Nat) (f : SpirePower → SpirePower) (w : Work) : (modSpire s f w).hw.snapPrev = w.hw.snapPrev := rfl
@[simp] theorem modSpire_bad (s : Nat) (f : SpirePower → SpirePower) (w : Work) : (modSpire s f w).hw.bad = w.hw.bad := rfl
@[simp] theorem modSpire_tx (s : Nat) (f : SpirePower → SpirePower) (w : Work) : (modSpire s f w).hw.tx = w.hw.tx := rfl
@[simp] theorem modSpire_freeCtr (s : Nat) (f : SpirePower → SpirePower) (w : Work) : (modSpire s f w).hw.freeCtr = w.hw.freeCtr := rfl
@[simp] theorem modSpire_base (s : Nat) (f : SpirePower → SpirePower) (w : Work) : (modSpire s f w).base = w.base := rfl
@[simp] theorem modSpire_log (s : Nat) (f : SpirePower → SpirePower) (w : Work) : (modSpire s f w).log = w.log := rfl
@[simp] theorem modSpire_marked (s : Nat) (f : SpirePower → SpirePower) (w : Work) : (modSpire s f w).marked = w.marked := rfl

/-! ## `modPower` -/

@[simp] theorem modPower_time (f : PowerSt → PowerSt) (w : Work) : (modPower f w).hw.time = w.hw.time := rfl
@[simp] theorem modPower_clks (f : PowerSt → PowerSt) (w : Work) : (modPower f w).hw.clks = w.hw.clks := rfl
@[simp] theorem modPower_cores (f : PowerSt → PowerSt) (w : Work) : (modPower f w).hw.cores = w.hw.cores := rfl
@[simp] theorem modPower_links (f : PowerSt → PowerSt) (w : Work) : (modPower f w).hw.links = w.hw.links := rfl
@[simp] theorem modPower_pager (f : PowerSt → PowerSt) (w : Work) : (modPower f w).hw.pager = w.hw.pager := rfl
@[simp] theorem modPower_gravers (f : PowerSt → PowerSt) (w : Work) : (modPower f w).hw.gravers = w.hw.gravers := rfl
@[simp] theorem modPower_coll (f : PowerSt → PowerSt) (w : Work) : (modPower f w).hw.coll = w.hw.coll := rfl
@[simp] theorem modPower_host (f : PowerSt → PowerSt) (w : Work) : (modPower f w).hw.host = w.hw.host := rfl
@[simp] theorem modPower_keep (f : PowerSt → PowerSt) (w : Work) : (modPower f w).hw.keep = w.hw.keep := rfl
@[simp] theorem modPower_lantern (f : PowerSt → PowerSt) (w : Work) : (modPower f w).hw.lantern = w.hw.lantern := rfl
@[simp] theorem modPower_fault (f : PowerSt → PowerSt) (w : Work) : (modPower f w).hw.fault = w.hw.fault := rfl
@[simp] theorem modPower_hang (f : PowerSt → PowerSt) (w : Work) : (modPower f w).hw.hang = w.hw.hang := rfl
@[simp] theorem modPower_mirror (f : PowerSt → PowerSt) (w : Work) : (modPower f w).hw.mirror = w.hw.mirror := rfl
@[simp] theorem modPower_conserve (f : PowerSt → PowerSt) (w : Work) : (modPower f w).hw.conserve = w.hw.conserve := rfl
@[simp] theorem modPower_plans (f : PowerSt → PowerSt) (w : Work) : (modPower f w).hw.plans = w.hw.plans := rfl
@[simp] theorem modPower_burin (f : PowerSt → PowerSt) (w : Work) : (modPower f w).hw.burin = w.hw.burin := rfl
@[simp] theorem modPower_monitors (f : PowerSt → PowerSt) (w : Work) : (modPower f w).hw.monitors = w.hw.monitors := rfl
@[simp] theorem modPower_monitorsSince (f : PowerSt → PowerSt) (w : Work) : (modPower f w).hw.monitorsSince = w.hw.monitorsSince := rfl
@[simp] theorem modPower_monitorsNext (f : PowerSt → PowerSt) (w : Work) : (modPower f w).hw.monitorsNext = w.hw.monitorsNext := rfl
@[simp] theorem modPower_light (f : PowerSt → PowerSt) (w : Work) : (modPower f w).hw.light = w.hw.light := rfl
@[simp] theorem modPower_ctr (f : PowerSt → PowerSt) (w : Work) : (modPower f w).hw.ctr = w.hw.ctr := rfl
@[simp] theorem modPower_snapCur (f : PowerSt → PowerSt) (w : Work) : (modPower f w).hw.snapCur = w.hw.snapCur := rfl
@[simp] theorem modPower_snapPrev (f : PowerSt → PowerSt) (w : Work) : (modPower f w).hw.snapPrev = w.hw.snapPrev := rfl
@[simp] theorem modPower_bad (f : PowerSt → PowerSt) (w : Work) : (modPower f w).hw.bad = w.hw.bad := rfl
@[simp] theorem modPower_tx (f : PowerSt → PowerSt) (w : Work) : (modPower f w).hw.tx = w.hw.tx := rfl
@[simp] theorem modPower_freeCtr (f : PowerSt → PowerSt) (w : Work) : (modPower f w).hw.freeCtr = w.hw.freeCtr := rfl
@[simp] theorem modPower_base (f : PowerSt → PowerSt) (w : Work) : (modPower f w).base = w.base := rfl
@[simp] theorem modPower_log (f : PowerSt → PowerSt) (w : Work) : (modPower f w).log = w.log := rfl
@[simp] theorem modPower_marked (f : PowerSt → PowerSt) (w : Work) : (modPower f w).marked = w.marked := rfl

/-! ## `modMoves` -/

@[simp] theorem modMoves_time (f : List PowerMove → List PowerMove) (w : Work) : (modMoves f w).hw.time = w.hw.time := rfl
@[simp] theorem modMoves_clks (f : List PowerMove → List PowerMove) (w : Work) : (modMoves f w).hw.clks = w.hw.clks := rfl
@[simp] theorem modMoves_cores (f : List PowerMove → List PowerMove) (w : Work) : (modMoves f w).hw.cores = w.hw.cores := rfl
@[simp] theorem modMoves_links (f : List PowerMove → List PowerMove) (w : Work) : (modMoves f w).hw.links = w.hw.links := rfl
@[simp] theorem modMoves_pager (f : List PowerMove → List PowerMove) (w : Work) : (modMoves f w).hw.pager = w.hw.pager := rfl
@[simp] theorem modMoves_gravers (f : List PowerMove → List PowerMove) (w : Work) : (modMoves f w).hw.gravers = w.hw.gravers := rfl
@[simp] theorem modMoves_coll (f : List PowerMove → List PowerMove) (w : Work) : (modMoves f w).hw.coll = w.hw.coll := rfl
@[simp] theorem modMoves_host (f : List PowerMove → List PowerMove) (w : Work) : (modMoves f w).hw.host = w.hw.host := rfl
@[simp] theorem modMoves_keep (f : List PowerMove → List PowerMove) (w : Work) : (modMoves f w).hw.keep = w.hw.keep := rfl
@[simp] theorem modMoves_lantern (f : List PowerMove → List PowerMove) (w : Work) : (modMoves f w).hw.lantern = w.hw.lantern := rfl
@[simp] theorem modMoves_fault (f : List PowerMove → List PowerMove) (w : Work) : (modMoves f w).hw.fault = w.hw.fault := rfl
@[simp] theorem modMoves_hang (f : List PowerMove → List PowerMove) (w : Work) : (modMoves f w).hw.hang = w.hw.hang := rfl
@[simp] theorem modMoves_mirror (f : List PowerMove → List PowerMove) (w : Work) : (modMoves f w).hw.mirror = w.hw.mirror := rfl
@[simp] theorem modMoves_conserve (f : List PowerMove → List PowerMove) (w : Work) : (modMoves f w).hw.conserve = w.hw.conserve := rfl
@[simp] theorem modMoves_plans (f : List PowerMove → List PowerMove) (w : Work) : (modMoves f w).hw.plans = w.hw.plans := rfl
@[simp] theorem modMoves_burin (f : List PowerMove → List PowerMove) (w : Work) : (modMoves f w).hw.burin = w.hw.burin := rfl
@[simp] theorem modMoves_monitors (f : List PowerMove → List PowerMove) (w : Work) : (modMoves f w).hw.monitors = w.hw.monitors := rfl
@[simp] theorem modMoves_monitorsSince (f : List PowerMove → List PowerMove) (w : Work) : (modMoves f w).hw.monitorsSince = w.hw.monitorsSince := rfl
@[simp] theorem modMoves_monitorsNext (f : List PowerMove → List PowerMove) (w : Work) : (modMoves f w).hw.monitorsNext = w.hw.monitorsNext := rfl
@[simp] theorem modMoves_light (f : List PowerMove → List PowerMove) (w : Work) : (modMoves f w).hw.light = w.hw.light := rfl
@[simp] theorem modMoves_ctr (f : List PowerMove → List PowerMove) (w : Work) : (modMoves f w).hw.ctr = w.hw.ctr := rfl
@[simp] theorem modMoves_snapCur (f : List PowerMove → List PowerMove) (w : Work) : (modMoves f w).hw.snapCur = w.hw.snapCur := rfl
@[simp] theorem modMoves_snapPrev (f : List PowerMove → List PowerMove) (w : Work) : (modMoves f w).hw.snapPrev = w.hw.snapPrev := rfl
@[simp] theorem modMoves_bad (f : List PowerMove → List PowerMove) (w : Work) : (modMoves f w).hw.bad = w.hw.bad := rfl
@[simp] theorem modMoves_tx (f : List PowerMove → List PowerMove) (w : Work) : (modMoves f w).hw.tx = w.hw.tx := rfl
@[simp] theorem modMoves_freeCtr (f : List PowerMove → List PowerMove) (w : Work) : (modMoves f w).hw.freeCtr = w.hw.freeCtr := rfl
@[simp] theorem modMoves_base (f : List PowerMove → List PowerMove) (w : Work) : (modMoves f w).base = w.base := rfl
@[simp] theorem modMoves_log (f : List PowerMove → List PowerMove) (w : Work) : (modMoves f w).log = w.log := rfl
@[simp] theorem modMoves_marked (f : List PowerMove → List PowerMove) (w : Work) : (modMoves f w).marked = w.marked := rfl

/-! ## `modSpot` -/

@[simp] theorem modSpot_time (i : Nat) (f : HotSpot → HotSpot) (w : Work) : (modSpot i f w).hw.time = w.hw.time := rfl
@[simp] theorem modSpot_clks (i : Nat) (f : HotSpot → HotSpot) (w : Work) : (modSpot i f w).hw.clks = w.hw.clks := rfl
@[simp] theorem modSpot_cores (i : Nat) (f : HotSpot → HotSpot) (w : Work) : (modSpot i f w).hw.cores = w.hw.cores := rfl
@[simp] theorem modSpot_links (i : Nat) (f : HotSpot → HotSpot) (w : Work) : (modSpot i f w).hw.links = w.hw.links := rfl
@[simp] theorem modSpot_pager (i : Nat) (f : HotSpot → HotSpot) (w : Work) : (modSpot i f w).hw.pager = w.hw.pager := rfl
@[simp] theorem modSpot_gravers (i : Nat) (f : HotSpot → HotSpot) (w : Work) : (modSpot i f w).hw.gravers = w.hw.gravers := rfl
@[simp] theorem modSpot_coll (i : Nat) (f : HotSpot → HotSpot) (w : Work) : (modSpot i f w).hw.coll = w.hw.coll := rfl
@[simp] theorem modSpot_host (i : Nat) (f : HotSpot → HotSpot) (w : Work) : (modSpot i f w).hw.host = w.hw.host := rfl
@[simp] theorem modSpot_keep (i : Nat) (f : HotSpot → HotSpot) (w : Work) : (modSpot i f w).hw.keep = w.hw.keep := rfl
@[simp] theorem modSpot_lantern (i : Nat) (f : HotSpot → HotSpot) (w : Work) : (modSpot i f w).hw.lantern = w.hw.lantern := rfl
@[simp] theorem modSpot_fault (i : Nat) (f : HotSpot → HotSpot) (w : Work) : (modSpot i f w).hw.fault = w.hw.fault := rfl
@[simp] theorem modSpot_hang (i : Nat) (f : HotSpot → HotSpot) (w : Work) : (modSpot i f w).hw.hang = w.hw.hang := rfl
@[simp] theorem modSpot_mirror (i : Nat) (f : HotSpot → HotSpot) (w : Work) : (modSpot i f w).hw.mirror = w.hw.mirror := rfl
@[simp] theorem modSpot_conserve (i : Nat) (f : HotSpot → HotSpot) (w : Work) : (modSpot i f w).hw.conserve = w.hw.conserve := rfl
@[simp] theorem modSpot_plans (i : Nat) (f : HotSpot → HotSpot) (w : Work) : (modSpot i f w).hw.plans = w.hw.plans := rfl
@[simp] theorem modSpot_burin (i : Nat) (f : HotSpot → HotSpot) (w : Work) : (modSpot i f w).hw.burin = w.hw.burin := rfl
@[simp] theorem modSpot_monitors (i : Nat) (f : HotSpot → HotSpot) (w : Work) : (modSpot i f w).hw.monitors = w.hw.monitors := rfl
@[simp] theorem modSpot_monitorsSince (i : Nat) (f : HotSpot → HotSpot) (w : Work) : (modSpot i f w).hw.monitorsSince = w.hw.monitorsSince := rfl
@[simp] theorem modSpot_monitorsNext (i : Nat) (f : HotSpot → HotSpot) (w : Work) : (modSpot i f w).hw.monitorsNext = w.hw.monitorsNext := rfl
@[simp] theorem modSpot_light (i : Nat) (f : HotSpot → HotSpot) (w : Work) : (modSpot i f w).hw.light = w.hw.light := rfl
@[simp] theorem modSpot_ctr (i : Nat) (f : HotSpot → HotSpot) (w : Work) : (modSpot i f w).hw.ctr = w.hw.ctr := rfl
@[simp] theorem modSpot_snapCur (i : Nat) (f : HotSpot → HotSpot) (w : Work) : (modSpot i f w).hw.snapCur = w.hw.snapCur := rfl
@[simp] theorem modSpot_snapPrev (i : Nat) (f : HotSpot → HotSpot) (w : Work) : (modSpot i f w).hw.snapPrev = w.hw.snapPrev := rfl
@[simp] theorem modSpot_bad (i : Nat) (f : HotSpot → HotSpot) (w : Work) : (modSpot i f w).hw.bad = w.hw.bad := rfl
@[simp] theorem modSpot_tx (i : Nat) (f : HotSpot → HotSpot) (w : Work) : (modSpot i f w).hw.tx = w.hw.tx := rfl
@[simp] theorem modSpot_freeCtr (i : Nat) (f : HotSpot → HotSpot) (w : Work) : (modSpot i f w).hw.freeCtr = w.hw.freeCtr := rfl
@[simp] theorem modSpot_base (i : Nat) (f : HotSpot → HotSpot) (w : Work) : (modSpot i f w).base = w.base := rfl
@[simp] theorem modSpot_log (i : Nat) (f : HotSpot → HotSpot) (w : Work) : (modSpot i f w).log = w.log := rfl
@[simp] theorem modSpot_marked (i : Nat) (f : HotSpot → HotSpot) (w : Work) : (modSpot i f w).marked = w.marked := rfl

/-! ## `modLantern` -/

@[simp] theorem modLantern_time (f : LanternSt → LanternSt) (w : Work) : (modLantern f w).hw.time = w.hw.time := rfl
@[simp] theorem modLantern_clks (f : LanternSt → LanternSt) (w : Work) : (modLantern f w).hw.clks = w.hw.clks := rfl
@[simp] theorem modLantern_cores (f : LanternSt → LanternSt) (w : Work) : (modLantern f w).hw.cores = w.hw.cores := rfl
@[simp] theorem modLantern_links (f : LanternSt → LanternSt) (w : Work) : (modLantern f w).hw.links = w.hw.links := rfl
@[simp] theorem modLantern_pager (f : LanternSt → LanternSt) (w : Work) : (modLantern f w).hw.pager = w.hw.pager := rfl
@[simp] theorem modLantern_gravers (f : LanternSt → LanternSt) (w : Work) : (modLantern f w).hw.gravers = w.hw.gravers := rfl
@[simp] theorem modLantern_coll (f : LanternSt → LanternSt) (w : Work) : (modLantern f w).hw.coll = w.hw.coll := rfl
@[simp] theorem modLantern_host (f : LanternSt → LanternSt) (w : Work) : (modLantern f w).hw.host = w.hw.host := rfl
@[simp] theorem modLantern_keep (f : LanternSt → LanternSt) (w : Work) : (modLantern f w).hw.keep = w.hw.keep := rfl
@[simp] theorem modLantern_power (f : LanternSt → LanternSt) (w : Work) : (modLantern f w).hw.power = w.hw.power := rfl
@[simp] theorem modLantern_fault (f : LanternSt → LanternSt) (w : Work) : (modLantern f w).hw.fault = w.hw.fault := rfl
@[simp] theorem modLantern_hang (f : LanternSt → LanternSt) (w : Work) : (modLantern f w).hw.hang = w.hw.hang := rfl
@[simp] theorem modLantern_mirror (f : LanternSt → LanternSt) (w : Work) : (modLantern f w).hw.mirror = w.hw.mirror := rfl
@[simp] theorem modLantern_conserve (f : LanternSt → LanternSt) (w : Work) : (modLantern f w).hw.conserve = w.hw.conserve := rfl
@[simp] theorem modLantern_plans (f : LanternSt → LanternSt) (w : Work) : (modLantern f w).hw.plans = w.hw.plans := rfl
@[simp] theorem modLantern_burin (f : LanternSt → LanternSt) (w : Work) : (modLantern f w).hw.burin = w.hw.burin := rfl
@[simp] theorem modLantern_monitors (f : LanternSt → LanternSt) (w : Work) : (modLantern f w).hw.monitors = w.hw.monitors := rfl
@[simp] theorem modLantern_monitorsSince (f : LanternSt → LanternSt) (w : Work) : (modLantern f w).hw.monitorsSince = w.hw.monitorsSince := rfl
@[simp] theorem modLantern_monitorsNext (f : LanternSt → LanternSt) (w : Work) : (modLantern f w).hw.monitorsNext = w.hw.monitorsNext := rfl
@[simp] theorem modLantern_light (f : LanternSt → LanternSt) (w : Work) : (modLantern f w).hw.light = w.hw.light := rfl
@[simp] theorem modLantern_ctr (f : LanternSt → LanternSt) (w : Work) : (modLantern f w).hw.ctr = w.hw.ctr := rfl
@[simp] theorem modLantern_snapCur (f : LanternSt → LanternSt) (w : Work) : (modLantern f w).hw.snapCur = w.hw.snapCur := rfl
@[simp] theorem modLantern_snapPrev (f : LanternSt → LanternSt) (w : Work) : (modLantern f w).hw.snapPrev = w.hw.snapPrev := rfl
@[simp] theorem modLantern_bad (f : LanternSt → LanternSt) (w : Work) : (modLantern f w).hw.bad = w.hw.bad := rfl
@[simp] theorem modLantern_tx (f : LanternSt → LanternSt) (w : Work) : (modLantern f w).hw.tx = w.hw.tx := rfl
@[simp] theorem modLantern_freeCtr (f : LanternSt → LanternSt) (w : Work) : (modLantern f w).hw.freeCtr = w.hw.freeCtr := rfl
@[simp] theorem modLantern_base (f : LanternSt → LanternSt) (w : Work) : (modLantern f w).base = w.base := rfl
@[simp] theorem modLantern_log (f : LanternSt → LanternSt) (w : Work) : (modLantern f w).log = w.log := rfl
@[simp] theorem modLantern_marked (f : LanternSt → LanternSt) (w : Work) : (modLantern f w).marked = w.marked := rfl

/-! ## `modKeep` -/

@[simp] theorem modKeep_time (f : KeepSt → KeepSt) (w : Work) : (modKeep f w).hw.time = w.hw.time := rfl
@[simp] theorem modKeep_clks (f : KeepSt → KeepSt) (w : Work) : (modKeep f w).hw.clks = w.hw.clks := rfl
@[simp] theorem modKeep_cores (f : KeepSt → KeepSt) (w : Work) : (modKeep f w).hw.cores = w.hw.cores := rfl
@[simp] theorem modKeep_links (f : KeepSt → KeepSt) (w : Work) : (modKeep f w).hw.links = w.hw.links := rfl
@[simp] theorem modKeep_pager (f : KeepSt → KeepSt) (w : Work) : (modKeep f w).hw.pager = w.hw.pager := rfl
@[simp] theorem modKeep_gravers (f : KeepSt → KeepSt) (w : Work) : (modKeep f w).hw.gravers = w.hw.gravers := rfl
@[simp] theorem modKeep_coll (f : KeepSt → KeepSt) (w : Work) : (modKeep f w).hw.coll = w.hw.coll := rfl
@[simp] theorem modKeep_host (f : KeepSt → KeepSt) (w : Work) : (modKeep f w).hw.host = w.hw.host := rfl
@[simp] theorem modKeep_lantern (f : KeepSt → KeepSt) (w : Work) : (modKeep f w).hw.lantern = w.hw.lantern := rfl
@[simp] theorem modKeep_power (f : KeepSt → KeepSt) (w : Work) : (modKeep f w).hw.power = w.hw.power := rfl
@[simp] theorem modKeep_fault (f : KeepSt → KeepSt) (w : Work) : (modKeep f w).hw.fault = w.hw.fault := rfl
@[simp] theorem modKeep_hang (f : KeepSt → KeepSt) (w : Work) : (modKeep f w).hw.hang = w.hw.hang := rfl
@[simp] theorem modKeep_mirror (f : KeepSt → KeepSt) (w : Work) : (modKeep f w).hw.mirror = w.hw.mirror := rfl
@[simp] theorem modKeep_conserve (f : KeepSt → KeepSt) (w : Work) : (modKeep f w).hw.conserve = w.hw.conserve := rfl
@[simp] theorem modKeep_plans (f : KeepSt → KeepSt) (w : Work) : (modKeep f w).hw.plans = w.hw.plans := rfl
@[simp] theorem modKeep_burin (f : KeepSt → KeepSt) (w : Work) : (modKeep f w).hw.burin = w.hw.burin := rfl
@[simp] theorem modKeep_monitors (f : KeepSt → KeepSt) (w : Work) : (modKeep f w).hw.monitors = w.hw.monitors := rfl
@[simp] theorem modKeep_monitorsSince (f : KeepSt → KeepSt) (w : Work) : (modKeep f w).hw.monitorsSince = w.hw.monitorsSince := rfl
@[simp] theorem modKeep_monitorsNext (f : KeepSt → KeepSt) (w : Work) : (modKeep f w).hw.monitorsNext = w.hw.monitorsNext := rfl
@[simp] theorem modKeep_light (f : KeepSt → KeepSt) (w : Work) : (modKeep f w).hw.light = w.hw.light := rfl
@[simp] theorem modKeep_ctr (f : KeepSt → KeepSt) (w : Work) : (modKeep f w).hw.ctr = w.hw.ctr := rfl
@[simp] theorem modKeep_snapCur (f : KeepSt → KeepSt) (w : Work) : (modKeep f w).hw.snapCur = w.hw.snapCur := rfl
@[simp] theorem modKeep_snapPrev (f : KeepSt → KeepSt) (w : Work) : (modKeep f w).hw.snapPrev = w.hw.snapPrev := rfl
@[simp] theorem modKeep_bad (f : KeepSt → KeepSt) (w : Work) : (modKeep f w).hw.bad = w.hw.bad := rfl
@[simp] theorem modKeep_tx (f : KeepSt → KeepSt) (w : Work) : (modKeep f w).hw.tx = w.hw.tx := rfl
@[simp] theorem modKeep_freeCtr (f : KeepSt → KeepSt) (w : Work) : (modKeep f w).hw.freeCtr = w.hw.freeCtr := rfl
@[simp] theorem modKeep_base (f : KeepSt → KeepSt) (w : Work) : (modKeep f w).base = w.base := rfl
@[simp] theorem modKeep_log (f : KeepSt → KeepSt) (w : Work) : (modKeep f w).log = w.log := rfl
@[simp] theorem modKeep_marked (f : KeepSt → KeepSt) (w : Work) : (modKeep f w).marked = w.marked := rfl

/-! ## `modLight` -/

@[simp] theorem modLight_time (f : LightSt → LightSt) (w : Work) : (modLight f w).hw.time = w.hw.time := rfl
@[simp] theorem modLight_clks (f : LightSt → LightSt) (w : Work) : (modLight f w).hw.clks = w.hw.clks := rfl
@[simp] theorem modLight_cores (f : LightSt → LightSt) (w : Work) : (modLight f w).hw.cores = w.hw.cores := rfl
@[simp] theorem modLight_links (f : LightSt → LightSt) (w : Work) : (modLight f w).hw.links = w.hw.links := rfl
@[simp] theorem modLight_pager (f : LightSt → LightSt) (w : Work) : (modLight f w).hw.pager = w.hw.pager := rfl
@[simp] theorem modLight_gravers (f : LightSt → LightSt) (w : Work) : (modLight f w).hw.gravers = w.hw.gravers := rfl
@[simp] theorem modLight_coll (f : LightSt → LightSt) (w : Work) : (modLight f w).hw.coll = w.hw.coll := rfl
@[simp] theorem modLight_host (f : LightSt → LightSt) (w : Work) : (modLight f w).hw.host = w.hw.host := rfl
@[simp] theorem modLight_keep (f : LightSt → LightSt) (w : Work) : (modLight f w).hw.keep = w.hw.keep := rfl
@[simp] theorem modLight_lantern (f : LightSt → LightSt) (w : Work) : (modLight f w).hw.lantern = w.hw.lantern := rfl
@[simp] theorem modLight_power (f : LightSt → LightSt) (w : Work) : (modLight f w).hw.power = w.hw.power := rfl
@[simp] theorem modLight_fault (f : LightSt → LightSt) (w : Work) : (modLight f w).hw.fault = w.hw.fault := rfl
@[simp] theorem modLight_hang (f : LightSt → LightSt) (w : Work) : (modLight f w).hw.hang = w.hw.hang := rfl
@[simp] theorem modLight_mirror (f : LightSt → LightSt) (w : Work) : (modLight f w).hw.mirror = w.hw.mirror := rfl
@[simp] theorem modLight_conserve (f : LightSt → LightSt) (w : Work) : (modLight f w).hw.conserve = w.hw.conserve := rfl
@[simp] theorem modLight_plans (f : LightSt → LightSt) (w : Work) : (modLight f w).hw.plans = w.hw.plans := rfl
@[simp] theorem modLight_burin (f : LightSt → LightSt) (w : Work) : (modLight f w).hw.burin = w.hw.burin := rfl
@[simp] theorem modLight_monitors (f : LightSt → LightSt) (w : Work) : (modLight f w).hw.monitors = w.hw.monitors := rfl
@[simp] theorem modLight_monitorsSince (f : LightSt → LightSt) (w : Work) : (modLight f w).hw.monitorsSince = w.hw.monitorsSince := rfl
@[simp] theorem modLight_monitorsNext (f : LightSt → LightSt) (w : Work) : (modLight f w).hw.monitorsNext = w.hw.monitorsNext := rfl
@[simp] theorem modLight_ctr (f : LightSt → LightSt) (w : Work) : (modLight f w).hw.ctr = w.hw.ctr := rfl
@[simp] theorem modLight_snapCur (f : LightSt → LightSt) (w : Work) : (modLight f w).hw.snapCur = w.hw.snapCur := rfl
@[simp] theorem modLight_snapPrev (f : LightSt → LightSt) (w : Work) : (modLight f w).hw.snapPrev = w.hw.snapPrev := rfl
@[simp] theorem modLight_bad (f : LightSt → LightSt) (w : Work) : (modLight f w).hw.bad = w.hw.bad := rfl
@[simp] theorem modLight_tx (f : LightSt → LightSt) (w : Work) : (modLight f w).hw.tx = w.hw.tx := rfl
@[simp] theorem modLight_freeCtr (f : LightSt → LightSt) (w : Work) : (modLight f w).hw.freeCtr = w.hw.freeCtr := rfl
@[simp] theorem modLight_base (f : LightSt → LightSt) (w : Work) : (modLight f w).base = w.base := rfl
@[simp] theorem modLight_log (f : LightSt → LightSt) (w : Work) : (modLight f w).log = w.log := rfl
@[simp] theorem modLight_marked (f : LightSt → LightSt) (w : Work) : (modLight f w).marked = w.marked := rfl

/-! ## `modConserve` -/

@[simp] theorem modConserve_time (f : ConserveSt → ConserveSt) (w : Work) : (modConserve f w).hw.time = w.hw.time := rfl
@[simp] theorem modConserve_clks (f : ConserveSt → ConserveSt) (w : Work) : (modConserve f w).hw.clks = w.hw.clks := rfl
@[simp] theorem modConserve_cores (f : ConserveSt → ConserveSt) (w : Work) : (modConserve f w).hw.cores = w.hw.cores := rfl
@[simp] theorem modConserve_links (f : ConserveSt → ConserveSt) (w : Work) : (modConserve f w).hw.links = w.hw.links := rfl
@[simp] theorem modConserve_pager (f : ConserveSt → ConserveSt) (w : Work) : (modConserve f w).hw.pager = w.hw.pager := rfl
@[simp] theorem modConserve_gravers (f : ConserveSt → ConserveSt) (w : Work) : (modConserve f w).hw.gravers = w.hw.gravers := rfl
@[simp] theorem modConserve_coll (f : ConserveSt → ConserveSt) (w : Work) : (modConserve f w).hw.coll = w.hw.coll := rfl
@[simp] theorem modConserve_host (f : ConserveSt → ConserveSt) (w : Work) : (modConserve f w).hw.host = w.hw.host := rfl
@[simp] theorem modConserve_keep (f : ConserveSt → ConserveSt) (w : Work) : (modConserve f w).hw.keep = w.hw.keep := rfl
@[simp] theorem modConserve_lantern (f : ConserveSt → ConserveSt) (w : Work) : (modConserve f w).hw.lantern = w.hw.lantern := rfl
@[simp] theorem modConserve_power (f : ConserveSt → ConserveSt) (w : Work) : (modConserve f w).hw.power = w.hw.power := rfl
@[simp] theorem modConserve_fault (f : ConserveSt → ConserveSt) (w : Work) : (modConserve f w).hw.fault = w.hw.fault := rfl
@[simp] theorem modConserve_hang (f : ConserveSt → ConserveSt) (w : Work) : (modConserve f w).hw.hang = w.hw.hang := rfl
@[simp] theorem modConserve_mirror (f : ConserveSt → ConserveSt) (w : Work) : (modConserve f w).hw.mirror = w.hw.mirror := rfl
@[simp] theorem modConserve_plans (f : ConserveSt → ConserveSt) (w : Work) : (modConserve f w).hw.plans = w.hw.plans := rfl
@[simp] theorem modConserve_burin (f : ConserveSt → ConserveSt) (w : Work) : (modConserve f w).hw.burin = w.hw.burin := rfl
@[simp] theorem modConserve_monitors (f : ConserveSt → ConserveSt) (w : Work) : (modConserve f w).hw.monitors = w.hw.monitors := rfl
@[simp] theorem modConserve_monitorsSince (f : ConserveSt → ConserveSt) (w : Work) : (modConserve f w).hw.monitorsSince = w.hw.monitorsSince := rfl
@[simp] theorem modConserve_monitorsNext (f : ConserveSt → ConserveSt) (w : Work) : (modConserve f w).hw.monitorsNext = w.hw.monitorsNext := rfl
@[simp] theorem modConserve_light (f : ConserveSt → ConserveSt) (w : Work) : (modConserve f w).hw.light = w.hw.light := rfl
@[simp] theorem modConserve_ctr (f : ConserveSt → ConserveSt) (w : Work) : (modConserve f w).hw.ctr = w.hw.ctr := rfl
@[simp] theorem modConserve_snapCur (f : ConserveSt → ConserveSt) (w : Work) : (modConserve f w).hw.snapCur = w.hw.snapCur := rfl
@[simp] theorem modConserve_snapPrev (f : ConserveSt → ConserveSt) (w : Work) : (modConserve f w).hw.snapPrev = w.hw.snapPrev := rfl
@[simp] theorem modConserve_bad (f : ConserveSt → ConserveSt) (w : Work) : (modConserve f w).hw.bad = w.hw.bad := rfl
@[simp] theorem modConserve_tx (f : ConserveSt → ConserveSt) (w : Work) : (modConserve f w).hw.tx = w.hw.tx := rfl
@[simp] theorem modConserve_freeCtr (f : ConserveSt → ConserveSt) (w : Work) : (modConserve f w).hw.freeCtr = w.hw.freeCtr := rfl
@[simp] theorem modConserve_base (f : ConserveSt → ConserveSt) (w : Work) : (modConserve f w).base = w.base := rfl
@[simp] theorem modConserve_log (f : ConserveSt → ConserveSt) (w : Work) : (modConserve f w).log = w.log := rfl
@[simp] theorem modConserve_marked (f : ConserveSt → ConserveSt) (w : Work) : (modConserve f w).marked = w.marked := rfl

/-! ## `modTime` -/

@[simp] theorem modTime_clks (f : TimeSt → TimeSt) (w : Work) : (modTime f w).hw.clks = w.hw.clks := rfl
@[simp] theorem modTime_cores (f : TimeSt → TimeSt) (w : Work) : (modTime f w).hw.cores = w.hw.cores := rfl
@[simp] theorem modTime_links (f : TimeSt → TimeSt) (w : Work) : (modTime f w).hw.links = w.hw.links := rfl
@[simp] theorem modTime_pager (f : TimeSt → TimeSt) (w : Work) : (modTime f w).hw.pager = w.hw.pager := rfl
@[simp] theorem modTime_gravers (f : TimeSt → TimeSt) (w : Work) : (modTime f w).hw.gravers = w.hw.gravers := rfl
@[simp] theorem modTime_coll (f : TimeSt → TimeSt) (w : Work) : (modTime f w).hw.coll = w.hw.coll := rfl
@[simp] theorem modTime_host (f : TimeSt → TimeSt) (w : Work) : (modTime f w).hw.host = w.hw.host := rfl
@[simp] theorem modTime_keep (f : TimeSt → TimeSt) (w : Work) : (modTime f w).hw.keep = w.hw.keep := rfl
@[simp] theorem modTime_lantern (f : TimeSt → TimeSt) (w : Work) : (modTime f w).hw.lantern = w.hw.lantern := rfl
@[simp] theorem modTime_power (f : TimeSt → TimeSt) (w : Work) : (modTime f w).hw.power = w.hw.power := rfl
@[simp] theorem modTime_fault (f : TimeSt → TimeSt) (w : Work) : (modTime f w).hw.fault = w.hw.fault := rfl
@[simp] theorem modTime_hang (f : TimeSt → TimeSt) (w : Work) : (modTime f w).hw.hang = w.hw.hang := rfl
@[simp] theorem modTime_mirror (f : TimeSt → TimeSt) (w : Work) : (modTime f w).hw.mirror = w.hw.mirror := rfl
@[simp] theorem modTime_conserve (f : TimeSt → TimeSt) (w : Work) : (modTime f w).hw.conserve = w.hw.conserve := rfl
@[simp] theorem modTime_plans (f : TimeSt → TimeSt) (w : Work) : (modTime f w).hw.plans = w.hw.plans := rfl
@[simp] theorem modTime_burin (f : TimeSt → TimeSt) (w : Work) : (modTime f w).hw.burin = w.hw.burin := rfl
@[simp] theorem modTime_monitors (f : TimeSt → TimeSt) (w : Work) : (modTime f w).hw.monitors = w.hw.monitors := rfl
@[simp] theorem modTime_monitorsSince (f : TimeSt → TimeSt) (w : Work) : (modTime f w).hw.monitorsSince = w.hw.monitorsSince := rfl
@[simp] theorem modTime_monitorsNext (f : TimeSt → TimeSt) (w : Work) : (modTime f w).hw.monitorsNext = w.hw.monitorsNext := rfl
@[simp] theorem modTime_light (f : TimeSt → TimeSt) (w : Work) : (modTime f w).hw.light = w.hw.light := rfl
@[simp] theorem modTime_ctr (f : TimeSt → TimeSt) (w : Work) : (modTime f w).hw.ctr = w.hw.ctr := rfl
@[simp] theorem modTime_snapCur (f : TimeSt → TimeSt) (w : Work) : (modTime f w).hw.snapCur = w.hw.snapCur := rfl
@[simp] theorem modTime_snapPrev (f : TimeSt → TimeSt) (w : Work) : (modTime f w).hw.snapPrev = w.hw.snapPrev := rfl
@[simp] theorem modTime_bad (f : TimeSt → TimeSt) (w : Work) : (modTime f w).hw.bad = w.hw.bad := rfl
@[simp] theorem modTime_tx (f : TimeSt → TimeSt) (w : Work) : (modTime f w).hw.tx = w.hw.tx := rfl
@[simp] theorem modTime_freeCtr (f : TimeSt → TimeSt) (w : Work) : (modTime f w).hw.freeCtr = w.hw.freeCtr := rfl
@[simp] theorem modTime_base (f : TimeSt → TimeSt) (w : Work) : (modTime f w).base = w.base := rfl
@[simp] theorem modTime_log (f : TimeSt → TimeSt) (w : Work) : (modTime f w).log = w.log := rfl
@[simp] theorem modTime_marked (f : TimeSt → TimeSt) (w : Work) : (modTime f w).marked = w.marked := rfl

/-! ## `modPlan` -/

@[simp] theorem modPlan_time (id : Nat) (f : Plan → Plan) (w : Work) : (modPlan id f w).hw.time = w.hw.time := rfl
@[simp] theorem modPlan_clks (id : Nat) (f : Plan → Plan) (w : Work) : (modPlan id f w).hw.clks = w.hw.clks := rfl
@[simp] theorem modPlan_cores (id : Nat) (f : Plan → Plan) (w : Work) : (modPlan id f w).hw.cores = w.hw.cores := rfl
@[simp] theorem modPlan_links (id : Nat) (f : Plan → Plan) (w : Work) : (modPlan id f w).hw.links = w.hw.links := rfl
@[simp] theorem modPlan_pager (id : Nat) (f : Plan → Plan) (w : Work) : (modPlan id f w).hw.pager = w.hw.pager := rfl
@[simp] theorem modPlan_gravers (id : Nat) (f : Plan → Plan) (w : Work) : (modPlan id f w).hw.gravers = w.hw.gravers := rfl
@[simp] theorem modPlan_coll (id : Nat) (f : Plan → Plan) (w : Work) : (modPlan id f w).hw.coll = w.hw.coll := rfl
@[simp] theorem modPlan_host (id : Nat) (f : Plan → Plan) (w : Work) : (modPlan id f w).hw.host = w.hw.host := rfl
@[simp] theorem modPlan_keep (id : Nat) (f : Plan → Plan) (w : Work) : (modPlan id f w).hw.keep = w.hw.keep := rfl
@[simp] theorem modPlan_lantern (id : Nat) (f : Plan → Plan) (w : Work) : (modPlan id f w).hw.lantern = w.hw.lantern := rfl
@[simp] theorem modPlan_power (id : Nat) (f : Plan → Plan) (w : Work) : (modPlan id f w).hw.power = w.hw.power := rfl
@[simp] theorem modPlan_fault (id : Nat) (f : Plan → Plan) (w : Work) : (modPlan id f w).hw.fault = w.hw.fault := rfl
@[simp] theorem modPlan_hang (id : Nat) (f : Plan → Plan) (w : Work) : (modPlan id f w).hw.hang = w.hw.hang := rfl
@[simp] theorem modPlan_mirror (id : Nat) (f : Plan → Plan) (w : Work) : (modPlan id f w).hw.mirror = w.hw.mirror := rfl
@[simp] theorem modPlan_conserve (id : Nat) (f : Plan → Plan) (w : Work) : (modPlan id f w).hw.conserve = w.hw.conserve := rfl
@[simp] theorem modPlan_burin (id : Nat) (f : Plan → Plan) (w : Work) : (modPlan id f w).hw.burin = w.hw.burin := rfl
@[simp] theorem modPlan_monitors (id : Nat) (f : Plan → Plan) (w : Work) : (modPlan id f w).hw.monitors = w.hw.monitors := rfl
@[simp] theorem modPlan_monitorsSince (id : Nat) (f : Plan → Plan) (w : Work) : (modPlan id f w).hw.monitorsSince = w.hw.monitorsSince := rfl
@[simp] theorem modPlan_monitorsNext (id : Nat) (f : Plan → Plan) (w : Work) : (modPlan id f w).hw.monitorsNext = w.hw.monitorsNext := rfl
@[simp] theorem modPlan_light (id : Nat) (f : Plan → Plan) (w : Work) : (modPlan id f w).hw.light = w.hw.light := rfl
@[simp] theorem modPlan_ctr (id : Nat) (f : Plan → Plan) (w : Work) : (modPlan id f w).hw.ctr = w.hw.ctr := rfl
@[simp] theorem modPlan_snapCur (id : Nat) (f : Plan → Plan) (w : Work) : (modPlan id f w).hw.snapCur = w.hw.snapCur := rfl
@[simp] theorem modPlan_snapPrev (id : Nat) (f : Plan → Plan) (w : Work) : (modPlan id f w).hw.snapPrev = w.hw.snapPrev := rfl
@[simp] theorem modPlan_bad (id : Nat) (f : Plan → Plan) (w : Work) : (modPlan id f w).hw.bad = w.hw.bad := rfl
@[simp] theorem modPlan_tx (id : Nat) (f : Plan → Plan) (w : Work) : (modPlan id f w).hw.tx = w.hw.tx := rfl
@[simp] theorem modPlan_freeCtr (id : Nat) (f : Plan → Plan) (w : Work) : (modPlan id f w).hw.freeCtr = w.hw.freeCtr := rfl
@[simp] theorem modPlan_base (id : Nat) (f : Plan → Plan) (w : Work) : (modPlan id f w).base = w.base := rfl
@[simp] theorem modPlan_log (id : Nat) (f : Plan → Plan) (w : Work) : (modPlan id f w).log = w.log := rfl
@[simp] theorem modPlan_marked (id : Nat) (f : Plan → Plan) (w : Work) : (modPlan id f w).marked = w.marked := rfl

/-! ## `modHost` -/

@[simp] theorem modHost_time (f : HostSt → HostSt) (w : Work) : (modHost f w).hw.time = w.hw.time := rfl
@[simp] theorem modHost_clks (f : HostSt → HostSt) (w : Work) : (modHost f w).hw.clks = w.hw.clks := rfl
@[simp] theorem modHost_cores (f : HostSt → HostSt) (w : Work) : (modHost f w).hw.cores = w.hw.cores := rfl
@[simp] theorem modHost_links (f : HostSt → HostSt) (w : Work) : (modHost f w).hw.links = w.hw.links := rfl
@[simp] theorem modHost_pager (f : HostSt → HostSt) (w : Work) : (modHost f w).hw.pager = w.hw.pager := rfl
@[simp] theorem modHost_gravers (f : HostSt → HostSt) (w : Work) : (modHost f w).hw.gravers = w.hw.gravers := rfl
@[simp] theorem modHost_coll (f : HostSt → HostSt) (w : Work) : (modHost f w).hw.coll = w.hw.coll := rfl
@[simp] theorem modHost_keep (f : HostSt → HostSt) (w : Work) : (modHost f w).hw.keep = w.hw.keep := rfl
@[simp] theorem modHost_lantern (f : HostSt → HostSt) (w : Work) : (modHost f w).hw.lantern = w.hw.lantern := rfl
@[simp] theorem modHost_power (f : HostSt → HostSt) (w : Work) : (modHost f w).hw.power = w.hw.power := rfl
@[simp] theorem modHost_fault (f : HostSt → HostSt) (w : Work) : (modHost f w).hw.fault = w.hw.fault := rfl
@[simp] theorem modHost_hang (f : HostSt → HostSt) (w : Work) : (modHost f w).hw.hang = w.hw.hang := rfl
@[simp] theorem modHost_mirror (f : HostSt → HostSt) (w : Work) : (modHost f w).hw.mirror = w.hw.mirror := rfl
@[simp] theorem modHost_conserve (f : HostSt → HostSt) (w : Work) : (modHost f w).hw.conserve = w.hw.conserve := rfl
@[simp] theorem modHost_plans (f : HostSt → HostSt) (w : Work) : (modHost f w).hw.plans = w.hw.plans := rfl
@[simp] theorem modHost_burin (f : HostSt → HostSt) (w : Work) : (modHost f w).hw.burin = w.hw.burin := rfl
@[simp] theorem modHost_monitors (f : HostSt → HostSt) (w : Work) : (modHost f w).hw.monitors = w.hw.monitors := rfl
@[simp] theorem modHost_monitorsSince (f : HostSt → HostSt) (w : Work) : (modHost f w).hw.monitorsSince = w.hw.monitorsSince := rfl
@[simp] theorem modHost_monitorsNext (f : HostSt → HostSt) (w : Work) : (modHost f w).hw.monitorsNext = w.hw.monitorsNext := rfl
@[simp] theorem modHost_light (f : HostSt → HostSt) (w : Work) : (modHost f w).hw.light = w.hw.light := rfl
@[simp] theorem modHost_ctr (f : HostSt → HostSt) (w : Work) : (modHost f w).hw.ctr = w.hw.ctr := rfl
@[simp] theorem modHost_snapCur (f : HostSt → HostSt) (w : Work) : (modHost f w).hw.snapCur = w.hw.snapCur := rfl
@[simp] theorem modHost_snapPrev (f : HostSt → HostSt) (w : Work) : (modHost f w).hw.snapPrev = w.hw.snapPrev := rfl
@[simp] theorem modHost_bad (f : HostSt → HostSt) (w : Work) : (modHost f w).hw.bad = w.hw.bad := rfl
@[simp] theorem modHost_tx (f : HostSt → HostSt) (w : Work) : (modHost f w).hw.tx = w.hw.tx := rfl
@[simp] theorem modHost_freeCtr (f : HostSt → HostSt) (w : Work) : (modHost f w).hw.freeCtr = w.hw.freeCtr := rfl
@[simp] theorem modHost_base (f : HostSt → HostSt) (w : Work) : (modHost f w).base = w.base := rfl
@[simp] theorem modHost_log (f : HostSt → HostSt) (w : Work) : (modHost f w).log = w.log := rfl
@[simp] theorem modHost_marked (f : HostSt → HostSt) (w : Work) : (modHost f w).marked = w.marked := rfl

/-! ## `modQp` -/

@[simp] theorem modQp_time (i : Nat) (f : Qp → Qp) (w : Work) : (modQp i f w).hw.time = w.hw.time := rfl
@[simp] theorem modQp_clks (i : Nat) (f : Qp → Qp) (w : Work) : (modQp i f w).hw.clks = w.hw.clks := rfl
@[simp] theorem modQp_cores (i : Nat) (f : Qp → Qp) (w : Work) : (modQp i f w).hw.cores = w.hw.cores := rfl
@[simp] theorem modQp_links (i : Nat) (f : Qp → Qp) (w : Work) : (modQp i f w).hw.links = w.hw.links := rfl
@[simp] theorem modQp_pager (i : Nat) (f : Qp → Qp) (w : Work) : (modQp i f w).hw.pager = w.hw.pager := rfl
@[simp] theorem modQp_gravers (i : Nat) (f : Qp → Qp) (w : Work) : (modQp i f w).hw.gravers = w.hw.gravers := rfl
@[simp] theorem modQp_coll (i : Nat) (f : Qp → Qp) (w : Work) : (modQp i f w).hw.coll = w.hw.coll := rfl
@[simp] theorem modQp_keep (i : Nat) (f : Qp → Qp) (w : Work) : (modQp i f w).hw.keep = w.hw.keep := rfl
@[simp] theorem modQp_lantern (i : Nat) (f : Qp → Qp) (w : Work) : (modQp i f w).hw.lantern = w.hw.lantern := rfl
@[simp] theorem modQp_power (i : Nat) (f : Qp → Qp) (w : Work) : (modQp i f w).hw.power = w.hw.power := rfl
@[simp] theorem modQp_fault (i : Nat) (f : Qp → Qp) (w : Work) : (modQp i f w).hw.fault = w.hw.fault := rfl
@[simp] theorem modQp_hang (i : Nat) (f : Qp → Qp) (w : Work) : (modQp i f w).hw.hang = w.hw.hang := rfl
@[simp] theorem modQp_mirror (i : Nat) (f : Qp → Qp) (w : Work) : (modQp i f w).hw.mirror = w.hw.mirror := rfl
@[simp] theorem modQp_conserve (i : Nat) (f : Qp → Qp) (w : Work) : (modQp i f w).hw.conserve = w.hw.conserve := rfl
@[simp] theorem modQp_plans (i : Nat) (f : Qp → Qp) (w : Work) : (modQp i f w).hw.plans = w.hw.plans := rfl
@[simp] theorem modQp_burin (i : Nat) (f : Qp → Qp) (w : Work) : (modQp i f w).hw.burin = w.hw.burin := rfl
@[simp] theorem modQp_monitors (i : Nat) (f : Qp → Qp) (w : Work) : (modQp i f w).hw.monitors = w.hw.monitors := rfl
@[simp] theorem modQp_monitorsSince (i : Nat) (f : Qp → Qp) (w : Work) : (modQp i f w).hw.monitorsSince = w.hw.monitorsSince := rfl
@[simp] theorem modQp_monitorsNext (i : Nat) (f : Qp → Qp) (w : Work) : (modQp i f w).hw.monitorsNext = w.hw.monitorsNext := rfl
@[simp] theorem modQp_light (i : Nat) (f : Qp → Qp) (w : Work) : (modQp i f w).hw.light = w.hw.light := rfl
@[simp] theorem modQp_ctr (i : Nat) (f : Qp → Qp) (w : Work) : (modQp i f w).hw.ctr = w.hw.ctr := rfl
@[simp] theorem modQp_snapCur (i : Nat) (f : Qp → Qp) (w : Work) : (modQp i f w).hw.snapCur = w.hw.snapCur := rfl
@[simp] theorem modQp_snapPrev (i : Nat) (f : Qp → Qp) (w : Work) : (modQp i f w).hw.snapPrev = w.hw.snapPrev := rfl
@[simp] theorem modQp_bad (i : Nat) (f : Qp → Qp) (w : Work) : (modQp i f w).hw.bad = w.hw.bad := rfl
@[simp] theorem modQp_tx (i : Nat) (f : Qp → Qp) (w : Work) : (modQp i f w).hw.tx = w.hw.tx := rfl
@[simp] theorem modQp_freeCtr (i : Nat) (f : Qp → Qp) (w : Work) : (modQp i f w).hw.freeCtr = w.hw.freeCtr := rfl
@[simp] theorem modQp_base (i : Nat) (f : Qp → Qp) (w : Work) : (modQp i f w).base = w.base := rfl
@[simp] theorem modQp_log (i : Nat) (f : Qp → Qp) (w : Work) : (modQp i f w).log = w.log := rfl
@[simp] theorem modQp_marked (i : Nat) (f : Qp → Qp) (w : Work) : (modQp i f w).marked = w.marked := rfl

/-! ## `modHalf` -/

@[simp] theorem modHalf_time (i : Nat) (f : EthHalf → EthHalf) (w : Work) : (modHalf i f w).hw.time = w.hw.time := rfl
@[simp] theorem modHalf_clks (i : Nat) (f : EthHalf → EthHalf) (w : Work) : (modHalf i f w).hw.clks = w.hw.clks := rfl
@[simp] theorem modHalf_cores (i : Nat) (f : EthHalf → EthHalf) (w : Work) : (modHalf i f w).hw.cores = w.hw.cores := rfl
@[simp] theorem modHalf_links (i : Nat) (f : EthHalf → EthHalf) (w : Work) : (modHalf i f w).hw.links = w.hw.links := rfl
@[simp] theorem modHalf_pager (i : Nat) (f : EthHalf → EthHalf) (w : Work) : (modHalf i f w).hw.pager = w.hw.pager := rfl
@[simp] theorem modHalf_gravers (i : Nat) (f : EthHalf → EthHalf) (w : Work) : (modHalf i f w).hw.gravers = w.hw.gravers := rfl
@[simp] theorem modHalf_coll (i : Nat) (f : EthHalf → EthHalf) (w : Work) : (modHalf i f w).hw.coll = w.hw.coll := rfl
@[simp] theorem modHalf_keep (i : Nat) (f : EthHalf → EthHalf) (w : Work) : (modHalf i f w).hw.keep = w.hw.keep := rfl
@[simp] theorem modHalf_lantern (i : Nat) (f : EthHalf → EthHalf) (w : Work) : (modHalf i f w).hw.lantern = w.hw.lantern := rfl
@[simp] theorem modHalf_power (i : Nat) (f : EthHalf → EthHalf) (w : Work) : (modHalf i f w).hw.power = w.hw.power := rfl
@[simp] theorem modHalf_fault (i : Nat) (f : EthHalf → EthHalf) (w : Work) : (modHalf i f w).hw.fault = w.hw.fault := rfl
@[simp] theorem modHalf_hang (i : Nat) (f : EthHalf → EthHalf) (w : Work) : (modHalf i f w).hw.hang = w.hw.hang := rfl
@[simp] theorem modHalf_mirror (i : Nat) (f : EthHalf → EthHalf) (w : Work) : (modHalf i f w).hw.mirror = w.hw.mirror := rfl
@[simp] theorem modHalf_conserve (i : Nat) (f : EthHalf → EthHalf) (w : Work) : (modHalf i f w).hw.conserve = w.hw.conserve := rfl
@[simp] theorem modHalf_plans (i : Nat) (f : EthHalf → EthHalf) (w : Work) : (modHalf i f w).hw.plans = w.hw.plans := rfl
@[simp] theorem modHalf_burin (i : Nat) (f : EthHalf → EthHalf) (w : Work) : (modHalf i f w).hw.burin = w.hw.burin := rfl
@[simp] theorem modHalf_monitors (i : Nat) (f : EthHalf → EthHalf) (w : Work) : (modHalf i f w).hw.monitors = w.hw.monitors := rfl
@[simp] theorem modHalf_monitorsSince (i : Nat) (f : EthHalf → EthHalf) (w : Work) : (modHalf i f w).hw.monitorsSince = w.hw.monitorsSince := rfl
@[simp] theorem modHalf_monitorsNext (i : Nat) (f : EthHalf → EthHalf) (w : Work) : (modHalf i f w).hw.monitorsNext = w.hw.monitorsNext := rfl
@[simp] theorem modHalf_light (i : Nat) (f : EthHalf → EthHalf) (w : Work) : (modHalf i f w).hw.light = w.hw.light := rfl
@[simp] theorem modHalf_ctr (i : Nat) (f : EthHalf → EthHalf) (w : Work) : (modHalf i f w).hw.ctr = w.hw.ctr := rfl
@[simp] theorem modHalf_snapCur (i : Nat) (f : EthHalf → EthHalf) (w : Work) : (modHalf i f w).hw.snapCur = w.hw.snapCur := rfl
@[simp] theorem modHalf_snapPrev (i : Nat) (f : EthHalf → EthHalf) (w : Work) : (modHalf i f w).hw.snapPrev = w.hw.snapPrev := rfl
@[simp] theorem modHalf_bad (i : Nat) (f : EthHalf → EthHalf) (w : Work) : (modHalf i f w).hw.bad = w.hw.bad := rfl
@[simp] theorem modHalf_tx (i : Nat) (f : EthHalf → EthHalf) (w : Work) : (modHalf i f w).hw.tx = w.hw.tx := rfl
@[simp] theorem modHalf_freeCtr (i : Nat) (f : EthHalf → EthHalf) (w : Work) : (modHalf i f w).hw.freeCtr = w.hw.freeCtr := rfl
@[simp] theorem modHalf_base (i : Nat) (f : EthHalf → EthHalf) (w : Work) : (modHalf i f w).base = w.base := rfl
@[simp] theorem modHalf_log (i : Nat) (f : EthHalf → EthHalf) (w : Work) : (modHalf i f w).log = w.log := rfl
@[simp] theorem modHalf_marked (i : Nat) (f : EthHalf → EthHalf) (w : Work) : (modHalf i f w).marked = w.marked := rfl

/-! ## `modRegion` -/

@[simp] theorem modRegion_time (i : Nat) (f : Region → Region) (w : Work) : (modRegion i f w).hw.time = w.hw.time := rfl
@[simp] theorem modRegion_clks (i : Nat) (f : Region → Region) (w : Work) : (modRegion i f w).hw.clks = w.hw.clks := rfl
@[simp] theorem modRegion_cores (i : Nat) (f : Region → Region) (w : Work) : (modRegion i f w).hw.cores = w.hw.cores := rfl
@[simp] theorem modRegion_links (i : Nat) (f : Region → Region) (w : Work) : (modRegion i f w).hw.links = w.hw.links := rfl
@[simp] theorem modRegion_pager (i : Nat) (f : Region → Region) (w : Work) : (modRegion i f w).hw.pager = w.hw.pager := rfl
@[simp] theorem modRegion_gravers (i : Nat) (f : Region → Region) (w : Work) : (modRegion i f w).hw.gravers = w.hw.gravers := rfl
@[simp] theorem modRegion_coll (i : Nat) (f : Region → Region) (w : Work) : (modRegion i f w).hw.coll = w.hw.coll := rfl
@[simp] theorem modRegion_keep (i : Nat) (f : Region → Region) (w : Work) : (modRegion i f w).hw.keep = w.hw.keep := rfl
@[simp] theorem modRegion_lantern (i : Nat) (f : Region → Region) (w : Work) : (modRegion i f w).hw.lantern = w.hw.lantern := rfl
@[simp] theorem modRegion_power (i : Nat) (f : Region → Region) (w : Work) : (modRegion i f w).hw.power = w.hw.power := rfl
@[simp] theorem modRegion_fault (i : Nat) (f : Region → Region) (w : Work) : (modRegion i f w).hw.fault = w.hw.fault := rfl
@[simp] theorem modRegion_hang (i : Nat) (f : Region → Region) (w : Work) : (modRegion i f w).hw.hang = w.hw.hang := rfl
@[simp] theorem modRegion_mirror (i : Nat) (f : Region → Region) (w : Work) : (modRegion i f w).hw.mirror = w.hw.mirror := rfl
@[simp] theorem modRegion_conserve (i : Nat) (f : Region → Region) (w : Work) : (modRegion i f w).hw.conserve = w.hw.conserve := rfl
@[simp] theorem modRegion_plans (i : Nat) (f : Region → Region) (w : Work) : (modRegion i f w).hw.plans = w.hw.plans := rfl
@[simp] theorem modRegion_burin (i : Nat) (f : Region → Region) (w : Work) : (modRegion i f w).hw.burin = w.hw.burin := rfl
@[simp] theorem modRegion_monitors (i : Nat) (f : Region → Region) (w : Work) : (modRegion i f w).hw.monitors = w.hw.monitors := rfl
@[simp] theorem modRegion_monitorsSince (i : Nat) (f : Region → Region) (w : Work) : (modRegion i f w).hw.monitorsSince = w.hw.monitorsSince := rfl
@[simp] theorem modRegion_monitorsNext (i : Nat) (f : Region → Region) (w : Work) : (modRegion i f w).hw.monitorsNext = w.hw.monitorsNext := rfl
@[simp] theorem modRegion_light (i : Nat) (f : Region → Region) (w : Work) : (modRegion i f w).hw.light = w.hw.light := rfl
@[simp] theorem modRegion_ctr (i : Nat) (f : Region → Region) (w : Work) : (modRegion i f w).hw.ctr = w.hw.ctr := rfl
@[simp] theorem modRegion_snapCur (i : Nat) (f : Region → Region) (w : Work) : (modRegion i f w).hw.snapCur = w.hw.snapCur := rfl
@[simp] theorem modRegion_snapPrev (i : Nat) (f : Region → Region) (w : Work) : (modRegion i f w).hw.snapPrev = w.hw.snapPrev := rfl
@[simp] theorem modRegion_bad (i : Nat) (f : Region → Region) (w : Work) : (modRegion i f w).hw.bad = w.hw.bad := rfl
@[simp] theorem modRegion_tx (i : Nat) (f : Region → Region) (w : Work) : (modRegion i f w).hw.tx = w.hw.tx := rfl
@[simp] theorem modRegion_freeCtr (i : Nat) (f : Region → Region) (w : Work) : (modRegion i f w).hw.freeCtr = w.hw.freeCtr := rfl
@[simp] theorem modRegion_base (i : Nat) (f : Region → Region) (w : Work) : (modRegion i f w).base = w.base := rfl
@[simp] theorem modRegion_log (i : Nat) (f : Region → Region) (w : Work) : (modRegion i f w).log = w.log := rfl
@[simp] theorem modRegion_marked (i : Nat) (f : Region → Region) (w : Work) : (modRegion i f w).marked = w.marked := rfl

/-! ## `modPair` -/

@[simp] theorem modPair_time (p : Nat) (f : Pair → Pair) (w : Work) : (modPair p f w).hw.time = w.hw.time := rfl
@[simp] theorem modPair_clks (p : Nat) (f : Pair → Pair) (w : Work) : (modPair p f w).hw.clks = w.hw.clks := rfl
@[simp] theorem modPair_cores (p : Nat) (f : Pair → Pair) (w : Work) : (modPair p f w).hw.cores = w.hw.cores := rfl
@[simp] theorem modPair_links (p : Nat) (f : Pair → Pair) (w : Work) : (modPair p f w).hw.links = w.hw.links := rfl
@[simp] theorem modPair_pager (p : Nat) (f : Pair → Pair) (w : Work) : (modPair p f w).hw.pager = w.hw.pager := rfl
@[simp] theorem modPair_gravers (p : Nat) (f : Pair → Pair) (w : Work) : (modPair p f w).hw.gravers = w.hw.gravers := rfl
@[simp] theorem modPair_coll (p : Nat) (f : Pair → Pair) (w : Work) : (modPair p f w).hw.coll = w.hw.coll := rfl
@[simp] theorem modPair_host (p : Nat) (f : Pair → Pair) (w : Work) : (modPair p f w).hw.host = w.hw.host := rfl
@[simp] theorem modPair_keep (p : Nat) (f : Pair → Pair) (w : Work) : (modPair p f w).hw.keep = w.hw.keep := rfl
@[simp] theorem modPair_lantern (p : Nat) (f : Pair → Pair) (w : Work) : (modPair p f w).hw.lantern = w.hw.lantern := rfl
@[simp] theorem modPair_power (p : Nat) (f : Pair → Pair) (w : Work) : (modPair p f w).hw.power = w.hw.power := rfl
@[simp] theorem modPair_fault (p : Nat) (f : Pair → Pair) (w : Work) : (modPair p f w).hw.fault = w.hw.fault := rfl
@[simp] theorem modPair_hang (p : Nat) (f : Pair → Pair) (w : Work) : (modPair p f w).hw.hang = w.hw.hang := rfl
@[simp] theorem modPair_conserve (p : Nat) (f : Pair → Pair) (w : Work) : (modPair p f w).hw.conserve = w.hw.conserve := rfl
@[simp] theorem modPair_plans (p : Nat) (f : Pair → Pair) (w : Work) : (modPair p f w).hw.plans = w.hw.plans := rfl
@[simp] theorem modPair_burin (p : Nat) (f : Pair → Pair) (w : Work) : (modPair p f w).hw.burin = w.hw.burin := rfl
@[simp] theorem modPair_monitors (p : Nat) (f : Pair → Pair) (w : Work) : (modPair p f w).hw.monitors = w.hw.monitors := rfl
@[simp] theorem modPair_monitorsSince (p : Nat) (f : Pair → Pair) (w : Work) : (modPair p f w).hw.monitorsSince = w.hw.monitorsSince := rfl
@[simp] theorem modPair_monitorsNext (p : Nat) (f : Pair → Pair) (w : Work) : (modPair p f w).hw.monitorsNext = w.hw.monitorsNext := rfl
@[simp] theorem modPair_light (p : Nat) (f : Pair → Pair) (w : Work) : (modPair p f w).hw.light = w.hw.light := rfl
@[simp] theorem modPair_ctr (p : Nat) (f : Pair → Pair) (w : Work) : (modPair p f w).hw.ctr = w.hw.ctr := rfl
@[simp] theorem modPair_snapCur (p : Nat) (f : Pair → Pair) (w : Work) : (modPair p f w).hw.snapCur = w.hw.snapCur := rfl
@[simp] theorem modPair_snapPrev (p : Nat) (f : Pair → Pair) (w : Work) : (modPair p f w).hw.snapPrev = w.hw.snapPrev := rfl
@[simp] theorem modPair_bad (p : Nat) (f : Pair → Pair) (w : Work) : (modPair p f w).hw.bad = w.hw.bad := rfl
@[simp] theorem modPair_tx (p : Nat) (f : Pair → Pair) (w : Work) : (modPair p f w).hw.tx = w.hw.tx := rfl
@[simp] theorem modPair_freeCtr (p : Nat) (f : Pair → Pair) (w : Work) : (modPair p f w).hw.freeCtr = w.hw.freeCtr := rfl
@[simp] theorem modPair_base (p : Nat) (f : Pair → Pair) (w : Work) : (modPair p f w).base = w.base := rfl
@[simp] theorem modPair_log (p : Nat) (f : Pair → Pair) (w : Work) : (modPair p f w).log = w.log := rfl
@[simp] theorem modPair_marked (p : Nat) (f : Pair → Pair) (w : Work) : (modPair p f w).marked = w.marked := rfl

/-! ## `modWindow` -/

@[simp] theorem modWindow_time (i : Nat) (f : MirrorWindow → MirrorWindow) (w : Work) : (modWindow i f w).hw.time = w.hw.time := rfl
@[simp] theorem modWindow_clks (i : Nat) (f : MirrorWindow → MirrorWindow) (w : Work) : (modWindow i f w).hw.clks = w.hw.clks := rfl
@[simp] theorem modWindow_cores (i : Nat) (f : MirrorWindow → MirrorWindow) (w : Work) : (modWindow i f w).hw.cores = w.hw.cores := rfl
@[simp] theorem modWindow_links (i : Nat) (f : MirrorWindow → MirrorWindow) (w : Work) : (modWindow i f w).hw.links = w.hw.links := rfl
@[simp] theorem modWindow_pager (i : Nat) (f : MirrorWindow → MirrorWindow) (w : Work) : (modWindow i f w).hw.pager = w.hw.pager := rfl
@[simp] theorem modWindow_gravers (i : Nat) (f : MirrorWindow → MirrorWindow) (w : Work) : (modWindow i f w).hw.gravers = w.hw.gravers := rfl
@[simp] theorem modWindow_coll (i : Nat) (f : MirrorWindow → MirrorWindow) (w : Work) : (modWindow i f w).hw.coll = w.hw.coll := rfl
@[simp] theorem modWindow_host (i : Nat) (f : MirrorWindow → MirrorWindow) (w : Work) : (modWindow i f w).hw.host = w.hw.host := rfl
@[simp] theorem modWindow_keep (i : Nat) (f : MirrorWindow → MirrorWindow) (w : Work) : (modWindow i f w).hw.keep = w.hw.keep := rfl
@[simp] theorem modWindow_lantern (i : Nat) (f : MirrorWindow → MirrorWindow) (w : Work) : (modWindow i f w).hw.lantern = w.hw.lantern := rfl
@[simp] theorem modWindow_power (i : Nat) (f : MirrorWindow → MirrorWindow) (w : Work) : (modWindow i f w).hw.power = w.hw.power := rfl
@[simp] theorem modWindow_fault (i : Nat) (f : MirrorWindow → MirrorWindow) (w : Work) : (modWindow i f w).hw.fault = w.hw.fault := rfl
@[simp] theorem modWindow_hang (i : Nat) (f : MirrorWindow → MirrorWindow) (w : Work) : (modWindow i f w).hw.hang = w.hw.hang := rfl
@[simp] theorem modWindow_conserve (i : Nat) (f : MirrorWindow → MirrorWindow) (w : Work) : (modWindow i f w).hw.conserve = w.hw.conserve := rfl
@[simp] theorem modWindow_plans (i : Nat) (f : MirrorWindow → MirrorWindow) (w : Work) : (modWindow i f w).hw.plans = w.hw.plans := rfl
@[simp] theorem modWindow_burin (i : Nat) (f : MirrorWindow → MirrorWindow) (w : Work) : (modWindow i f w).hw.burin = w.hw.burin := rfl
@[simp] theorem modWindow_monitors (i : Nat) (f : MirrorWindow → MirrorWindow) (w : Work) : (modWindow i f w).hw.monitors = w.hw.monitors := rfl
@[simp] theorem modWindow_monitorsSince (i : Nat) (f : MirrorWindow → MirrorWindow) (w : Work) : (modWindow i f w).hw.monitorsSince = w.hw.monitorsSince := rfl
@[simp] theorem modWindow_monitorsNext (i : Nat) (f : MirrorWindow → MirrorWindow) (w : Work) : (modWindow i f w).hw.monitorsNext = w.hw.monitorsNext := rfl
@[simp] theorem modWindow_light (i : Nat) (f : MirrorWindow → MirrorWindow) (w : Work) : (modWindow i f w).hw.light = w.hw.light := rfl
@[simp] theorem modWindow_ctr (i : Nat) (f : MirrorWindow → MirrorWindow) (w : Work) : (modWindow i f w).hw.ctr = w.hw.ctr := rfl
@[simp] theorem modWindow_snapCur (i : Nat) (f : MirrorWindow → MirrorWindow) (w : Work) : (modWindow i f w).hw.snapCur = w.hw.snapCur := rfl
@[simp] theorem modWindow_snapPrev (i : Nat) (f : MirrorWindow → MirrorWindow) (w : Work) : (modWindow i f w).hw.snapPrev = w.hw.snapPrev := rfl
@[simp] theorem modWindow_bad (i : Nat) (f : MirrorWindow → MirrorWindow) (w : Work) : (modWindow i f w).hw.bad = w.hw.bad := rfl
@[simp] theorem modWindow_tx (i : Nat) (f : MirrorWindow → MirrorWindow) (w : Work) : (modWindow i f w).hw.tx = w.hw.tx := rfl
@[simp] theorem modWindow_freeCtr (i : Nat) (f : MirrorWindow → MirrorWindow) (w : Work) : (modWindow i f w).hw.freeCtr = w.hw.freeCtr := rfl
@[simp] theorem modWindow_base (i : Nat) (f : MirrorWindow → MirrorWindow) (w : Work) : (modWindow i f w).base = w.base := rfl
@[simp] theorem modWindow_log (i : Nat) (f : MirrorWindow → MirrorWindow) (w : Work) : (modWindow i f w).log = w.log := rfl
@[simp] theorem modWindow_marked (i : Nat) (f : MirrorWindow → MirrorWindow) (w : Work) : (modWindow i f w).marked = w.marked := rfl

/-! ## `modStream` -/

@[simp] theorem modStream_time (p n : Nat) (f : MirrorStream → MirrorStream) (w : Work) : (modStream p n f w).hw.time = w.hw.time := rfl
@[simp] theorem modStream_clks (p n : Nat) (f : MirrorStream → MirrorStream) (w : Work) : (modStream p n f w).hw.clks = w.hw.clks := rfl
@[simp] theorem modStream_cores (p n : Nat) (f : MirrorStream → MirrorStream) (w : Work) : (modStream p n f w).hw.cores = w.hw.cores := rfl
@[simp] theorem modStream_links (p n : Nat) (f : MirrorStream → MirrorStream) (w : Work) : (modStream p n f w).hw.links = w.hw.links := rfl
@[simp] theorem modStream_pager (p n : Nat) (f : MirrorStream → MirrorStream) (w : Work) : (modStream p n f w).hw.pager = w.hw.pager := rfl
@[simp] theorem modStream_gravers (p n : Nat) (f : MirrorStream → MirrorStream) (w : Work) : (modStream p n f w).hw.gravers = w.hw.gravers := rfl
@[simp] theorem modStream_coll (p n : Nat) (f : MirrorStream → MirrorStream) (w : Work) : (modStream p n f w).hw.coll = w.hw.coll := rfl
@[simp] theorem modStream_host (p n : Nat) (f : MirrorStream → MirrorStream) (w : Work) : (modStream p n f w).hw.host = w.hw.host := rfl
@[simp] theorem modStream_keep (p n : Nat) (f : MirrorStream → MirrorStream) (w : Work) : (modStream p n f w).hw.keep = w.hw.keep := rfl
@[simp] theorem modStream_lantern (p n : Nat) (f : MirrorStream → MirrorStream) (w : Work) : (modStream p n f w).hw.lantern = w.hw.lantern := rfl
@[simp] theorem modStream_power (p n : Nat) (f : MirrorStream → MirrorStream) (w : Work) : (modStream p n f w).hw.power = w.hw.power := rfl
@[simp] theorem modStream_fault (p n : Nat) (f : MirrorStream → MirrorStream) (w : Work) : (modStream p n f w).hw.fault = w.hw.fault := rfl
@[simp] theorem modStream_hang (p n : Nat) (f : MirrorStream → MirrorStream) (w : Work) : (modStream p n f w).hw.hang = w.hw.hang := rfl
@[simp] theorem modStream_conserve (p n : Nat) (f : MirrorStream → MirrorStream) (w : Work) : (modStream p n f w).hw.conserve = w.hw.conserve := rfl
@[simp] theorem modStream_plans (p n : Nat) (f : MirrorStream → MirrorStream) (w : Work) : (modStream p n f w).hw.plans = w.hw.plans := rfl
@[simp] theorem modStream_burin (p n : Nat) (f : MirrorStream → MirrorStream) (w : Work) : (modStream p n f w).hw.burin = w.hw.burin := rfl
@[simp] theorem modStream_monitors (p n : Nat) (f : MirrorStream → MirrorStream) (w : Work) : (modStream p n f w).hw.monitors = w.hw.monitors := rfl
@[simp] theorem modStream_monitorsSince (p n : Nat) (f : MirrorStream → MirrorStream) (w : Work) : (modStream p n f w).hw.monitorsSince = w.hw.monitorsSince := rfl
@[simp] theorem modStream_monitorsNext (p n : Nat) (f : MirrorStream → MirrorStream) (w : Work) : (modStream p n f w).hw.monitorsNext = w.hw.monitorsNext := rfl
@[simp] theorem modStream_light (p n : Nat) (f : MirrorStream → MirrorStream) (w : Work) : (modStream p n f w).hw.light = w.hw.light := rfl
@[simp] theorem modStream_ctr (p n : Nat) (f : MirrorStream → MirrorStream) (w : Work) : (modStream p n f w).hw.ctr = w.hw.ctr := rfl
@[simp] theorem modStream_snapCur (p n : Nat) (f : MirrorStream → MirrorStream) (w : Work) : (modStream p n f w).hw.snapCur = w.hw.snapCur := rfl
@[simp] theorem modStream_snapPrev (p n : Nat) (f : MirrorStream → MirrorStream) (w : Work) : (modStream p n f w).hw.snapPrev = w.hw.snapPrev := rfl
@[simp] theorem modStream_bad (p n : Nat) (f : MirrorStream → MirrorStream) (w : Work) : (modStream p n f w).hw.bad = w.hw.bad := rfl
@[simp] theorem modStream_tx (p n : Nat) (f : MirrorStream → MirrorStream) (w : Work) : (modStream p n f w).hw.tx = w.hw.tx := rfl
@[simp] theorem modStream_freeCtr (p n : Nat) (f : MirrorStream → MirrorStream) (w : Work) : (modStream p n f w).hw.freeCtr = w.hw.freeCtr := rfl
@[simp] theorem modStream_base (p n : Nat) (f : MirrorStream → MirrorStream) (w : Work) : (modStream p n f w).base = w.base := rfl
@[simp] theorem modStream_log (p n : Nat) (f : MirrorStream → MirrorStream) (w : Work) : (modStream p n f w).log = w.log := rfl
@[simp] theorem modStream_marked (p n : Nat) (f : MirrorStream → MirrorStream) (w : Work) : (modStream p n f w).marked = w.marked := rfl

/-! ## `modObject` -/

@[simp] theorem modObject_time (o : PObj) (f : PObj → PObj) (w : Work) : (modObject o f w).hw.time = w.hw.time := rfl
@[simp] theorem modObject_clks (o : PObj) (f : PObj → PObj) (w : Work) : (modObject o f w).hw.clks = w.hw.clks := rfl
@[simp] theorem modObject_cores (o : PObj) (f : PObj → PObj) (w : Work) : (modObject o f w).hw.cores = w.hw.cores := rfl
@[simp] theorem modObject_links (o : PObj) (f : PObj → PObj) (w : Work) : (modObject o f w).hw.links = w.hw.links := rfl
@[simp] theorem modObject_gravers (o : PObj) (f : PObj → PObj) (w : Work) : (modObject o f w).hw.gravers = w.hw.gravers := rfl
@[simp] theorem modObject_coll (o : PObj) (f : PObj → PObj) (w : Work) : (modObject o f w).hw.coll = w.hw.coll := rfl
@[simp] theorem modObject_host (o : PObj) (f : PObj → PObj) (w : Work) : (modObject o f w).hw.host = w.hw.host := rfl
@[simp] theorem modObject_keep (o : PObj) (f : PObj → PObj) (w : Work) : (modObject o f w).hw.keep = w.hw.keep := rfl
@[simp] theorem modObject_lantern (o : PObj) (f : PObj → PObj) (w : Work) : (modObject o f w).hw.lantern = w.hw.lantern := rfl
@[simp] theorem modObject_power (o : PObj) (f : PObj → PObj) (w : Work) : (modObject o f w).hw.power = w.hw.power := rfl
@[simp] theorem modObject_fault (o : PObj) (f : PObj → PObj) (w : Work) : (modObject o f w).hw.fault = w.hw.fault := rfl
@[simp] theorem modObject_hang (o : PObj) (f : PObj → PObj) (w : Work) : (modObject o f w).hw.hang = w.hw.hang := rfl
@[simp] theorem modObject_mirror (o : PObj) (f : PObj → PObj) (w : Work) : (modObject o f w).hw.mirror = w.hw.mirror := rfl
@[simp] theorem modObject_conserve (o : PObj) (f : PObj → PObj) (w : Work) : (modObject o f w).hw.conserve = w.hw.conserve := rfl
@[simp] theorem modObject_plans (o : PObj) (f : PObj → PObj) (w : Work) : (modObject o f w).hw.plans = w.hw.plans := rfl
@[simp] theorem modObject_burin (o : PObj) (f : PObj → PObj) (w : Work) : (modObject o f w).hw.burin = w.hw.burin := rfl
@[simp] theorem modObject_monitors (o : PObj) (f : PObj → PObj) (w : Work) : (modObject o f w).hw.monitors = w.hw.monitors := rfl
@[simp] theorem modObject_monitorsSince (o : PObj) (f : PObj → PObj) (w : Work) : (modObject o f w).hw.monitorsSince = w.hw.monitorsSince := rfl
@[simp] theorem modObject_monitorsNext (o : PObj) (f : PObj → PObj) (w : Work) : (modObject o f w).hw.monitorsNext = w.hw.monitorsNext := rfl
@[simp] theorem modObject_light (o : PObj) (f : PObj → PObj) (w : Work) : (modObject o f w).hw.light = w.hw.light := rfl
@[simp] theorem modObject_ctr (o : PObj) (f : PObj → PObj) (w : Work) : (modObject o f w).hw.ctr = w.hw.ctr := rfl
@[simp] theorem modObject_snapCur (o : PObj) (f : PObj → PObj) (w : Work) : (modObject o f w).hw.snapCur = w.hw.snapCur := rfl
@[simp] theorem modObject_snapPrev (o : PObj) (f : PObj → PObj) (w : Work) : (modObject o f w).hw.snapPrev = w.hw.snapPrev := rfl
@[simp] theorem modObject_bad (o : PObj) (f : PObj → PObj) (w : Work) : (modObject o f w).hw.bad = w.hw.bad := rfl
@[simp] theorem modObject_tx (o : PObj) (f : PObj → PObj) (w : Work) : (modObject o f w).hw.tx = w.hw.tx := rfl
@[simp] theorem modObject_freeCtr (o : PObj) (f : PObj → PObj) (w : Work) : (modObject o f w).hw.freeCtr = w.hw.freeCtr := rfl
@[simp] theorem modObject_base (o : PObj) (f : PObj → PObj) (w : Work) : (modObject o f w).base = w.base := rfl
@[simp] theorem modObject_log (o : PObj) (f : PObj → PObj) (w : Work) : (modObject o f w).log = w.log := rfl
@[simp] theorem modObject_marked (o : PObj) (f : PObj → PObj) (w : Work) : (modObject o f w).marked = w.marked := rfl

/-! ## `modResidents` -/

@[simp] theorem modResidents_time (f : List Resident → List Resident) (w : Work) : (modResidents f w).hw.time = w.hw.time := rfl
@[simp] theorem modResidents_clks (f : List Resident → List Resident) (w : Work) : (modResidents f w).hw.clks = w.hw.clks := rfl
@[simp] theorem modResidents_cores (f : List Resident → List Resident) (w : Work) : (modResidents f w).hw.cores = w.hw.cores := rfl
@[simp] theorem modResidents_links (f : List Resident → List Resident) (w : Work) : (modResidents f w).hw.links = w.hw.links := rfl
@[simp] theorem modResidents_gravers (f : List Resident → List Resident) (w : Work) : (modResidents f w).hw.gravers = w.hw.gravers := rfl
@[simp] theorem modResidents_coll (f : List Resident → List Resident) (w : Work) : (modResidents f w).hw.coll = w.hw.coll := rfl
@[simp] theorem modResidents_host (f : List Resident → List Resident) (w : Work) : (modResidents f w).hw.host = w.hw.host := rfl
@[simp] theorem modResidents_keep (f : List Resident → List Resident) (w : Work) : (modResidents f w).hw.keep = w.hw.keep := rfl
@[simp] theorem modResidents_lantern (f : List Resident → List Resident) (w : Work) : (modResidents f w).hw.lantern = w.hw.lantern := rfl
@[simp] theorem modResidents_power (f : List Resident → List Resident) (w : Work) : (modResidents f w).hw.power = w.hw.power := rfl
@[simp] theorem modResidents_fault (f : List Resident → List Resident) (w : Work) : (modResidents f w).hw.fault = w.hw.fault := rfl
@[simp] theorem modResidents_hang (f : List Resident → List Resident) (w : Work) : (modResidents f w).hw.hang = w.hw.hang := rfl
@[simp] theorem modResidents_mirror (f : List Resident → List Resident) (w : Work) : (modResidents f w).hw.mirror = w.hw.mirror := rfl
@[simp] theorem modResidents_conserve (f : List Resident → List Resident) (w : Work) : (modResidents f w).hw.conserve = w.hw.conserve := rfl
@[simp] theorem modResidents_plans (f : List Resident → List Resident) (w : Work) : (modResidents f w).hw.plans = w.hw.plans := rfl
@[simp] theorem modResidents_burin (f : List Resident → List Resident) (w : Work) : (modResidents f w).hw.burin = w.hw.burin := rfl
@[simp] theorem modResidents_monitors (f : List Resident → List Resident) (w : Work) : (modResidents f w).hw.monitors = w.hw.monitors := rfl
@[simp] theorem modResidents_monitorsSince (f : List Resident → List Resident) (w : Work) : (modResidents f w).hw.monitorsSince = w.hw.monitorsSince := rfl
@[simp] theorem modResidents_monitorsNext (f : List Resident → List Resident) (w : Work) : (modResidents f w).hw.monitorsNext = w.hw.monitorsNext := rfl
@[simp] theorem modResidents_light (f : List Resident → List Resident) (w : Work) : (modResidents f w).hw.light = w.hw.light := rfl
@[simp] theorem modResidents_ctr (f : List Resident → List Resident) (w : Work) : (modResidents f w).hw.ctr = w.hw.ctr := rfl
@[simp] theorem modResidents_snapCur (f : List Resident → List Resident) (w : Work) : (modResidents f w).hw.snapCur = w.hw.snapCur := rfl
@[simp] theorem modResidents_snapPrev (f : List Resident → List Resident) (w : Work) : (modResidents f w).hw.snapPrev = w.hw.snapPrev := rfl
@[simp] theorem modResidents_bad (f : List Resident → List Resident) (w : Work) : (modResidents f w).hw.bad = w.hw.bad := rfl
@[simp] theorem modResidents_tx (f : List Resident → List Resident) (w : Work) : (modResidents f w).hw.tx = w.hw.tx := rfl
@[simp] theorem modResidents_freeCtr (f : List Resident → List Resident) (w : Work) : (modResidents f w).hw.freeCtr = w.hw.freeCtr := rfl
@[simp] theorem modResidents_base (f : List Resident → List Resident) (w : Work) : (modResidents f w).base = w.base := rfl
@[simp] theorem modResidents_log (f : List Resident → List Resident) (w : Work) : (modResidents f w).log = w.log := rfl
@[simp] theorem modResidents_marked (f : List Resident → List Resident) (w : Work) : (modResidents f w).marked = w.marked := rfl

/-! ## `bump` -/

@[simp] theorem bump_time (block index n : Nat) (w : Work) : (bump block index n w).hw.time = w.hw.time := rfl
@[simp] theorem bump_clks (block index n : Nat) (w : Work) : (bump block index n w).hw.clks = w.hw.clks := rfl
@[simp] theorem bump_cores (block index n : Nat) (w : Work) : (bump block index n w).hw.cores = w.hw.cores := rfl
@[simp] theorem bump_links (block index n : Nat) (w : Work) : (bump block index n w).hw.links = w.hw.links := rfl
@[simp] theorem bump_pager (block index n : Nat) (w : Work) : (bump block index n w).hw.pager = w.hw.pager := rfl
@[simp] theorem bump_gravers (block index n : Nat) (w : Work) : (bump block index n w).hw.gravers = w.hw.gravers := rfl
@[simp] theorem bump_coll (block index n : Nat) (w : Work) : (bump block index n w).hw.coll = w.hw.coll := rfl
@[simp] theorem bump_host (block index n : Nat) (w : Work) : (bump block index n w).hw.host = w.hw.host := rfl
@[simp] theorem bump_keep (block index n : Nat) (w : Work) : (bump block index n w).hw.keep = w.hw.keep := rfl
@[simp] theorem bump_lantern (block index n : Nat) (w : Work) : (bump block index n w).hw.lantern = w.hw.lantern := rfl
@[simp] theorem bump_power (block index n : Nat) (w : Work) : (bump block index n w).hw.power = w.hw.power := rfl
@[simp] theorem bump_fault (block index n : Nat) (w : Work) : (bump block index n w).hw.fault = w.hw.fault := rfl
@[simp] theorem bump_hang (block index n : Nat) (w : Work) : (bump block index n w).hw.hang = w.hw.hang := rfl
@[simp] theorem bump_mirror (block index n : Nat) (w : Work) : (bump block index n w).hw.mirror = w.hw.mirror := rfl
@[simp] theorem bump_conserve (block index n : Nat) (w : Work) : (bump block index n w).hw.conserve = w.hw.conserve := rfl
@[simp] theorem bump_plans (block index n : Nat) (w : Work) : (bump block index n w).hw.plans = w.hw.plans := rfl
@[simp] theorem bump_burin (block index n : Nat) (w : Work) : (bump block index n w).hw.burin = w.hw.burin := rfl
@[simp] theorem bump_monitors (block index n : Nat) (w : Work) : (bump block index n w).hw.monitors = w.hw.monitors := rfl
@[simp] theorem bump_monitorsSince (block index n : Nat) (w : Work) : (bump block index n w).hw.monitorsSince = w.hw.monitorsSince := rfl
@[simp] theorem bump_monitorsNext (block index n : Nat) (w : Work) : (bump block index n w).hw.monitorsNext = w.hw.monitorsNext := rfl
@[simp] theorem bump_light (block index n : Nat) (w : Work) : (bump block index n w).hw.light = w.hw.light := rfl
@[simp] theorem bump_snapCur (block index n : Nat) (w : Work) : (bump block index n w).hw.snapCur = w.hw.snapCur := rfl
@[simp] theorem bump_snapPrev (block index n : Nat) (w : Work) : (bump block index n w).hw.snapPrev = w.hw.snapPrev := rfl
@[simp] theorem bump_bad (block index n : Nat) (w : Work) : (bump block index n w).hw.bad = w.hw.bad := rfl
@[simp] theorem bump_tx (block index n : Nat) (w : Work) : (bump block index n w).hw.tx = w.hw.tx := rfl
@[simp] theorem bump_freeCtr (block index n : Nat) (w : Work) : (bump block index n w).hw.freeCtr = w.hw.freeCtr := rfl
@[simp] theorem bump_base (block index n : Nat) (w : Work) : (bump block index n w).base = w.base := rfl
@[simp] theorem bump_log (block index n : Nat) (w : Work) : (bump block index n w).log = w.log := rfl
@[simp] theorem bump_marked (block index n : Nat) (w : Work) : (bump block index n w).marked = w.marked := rfl

/-! ## `setCtr` -/

@[simp] theorem setCtr_time (block index v : Nat) (w : Work) : (setCtr block index v w).hw.time = w.hw.time := rfl
@[simp] theorem setCtr_clks (block index v : Nat) (w : Work) : (setCtr block index v w).hw.clks = w.hw.clks := rfl
@[simp] theorem setCtr_cores (block index v : Nat) (w : Work) : (setCtr block index v w).hw.cores = w.hw.cores := rfl
@[simp] theorem setCtr_links (block index v : Nat) (w : Work) : (setCtr block index v w).hw.links = w.hw.links := rfl
@[simp] theorem setCtr_pager (block index v : Nat) (w : Work) : (setCtr block index v w).hw.pager = w.hw.pager := rfl
@[simp] theorem setCtr_gravers (block index v : Nat) (w : Work) : (setCtr block index v w).hw.gravers = w.hw.gravers := rfl
@[simp] theorem setCtr_coll (block index v : Nat) (w : Work) : (setCtr block index v w).hw.coll = w.hw.coll := rfl
@[simp] theorem setCtr_host (block index v : Nat) (w : Work) : (setCtr block index v w).hw.host = w.hw.host := rfl
@[simp] theorem setCtr_keep (block index v : Nat) (w : Work) : (setCtr block index v w).hw.keep = w.hw.keep := rfl
@[simp] theorem setCtr_lantern (block index v : Nat) (w : Work) : (setCtr block index v w).hw.lantern = w.hw.lantern := rfl
@[simp] theorem setCtr_power (block index v : Nat) (w : Work) : (setCtr block index v w).hw.power = w.hw.power := rfl
@[simp] theorem setCtr_fault (block index v : Nat) (w : Work) : (setCtr block index v w).hw.fault = w.hw.fault := rfl
@[simp] theorem setCtr_hang (block index v : Nat) (w : Work) : (setCtr block index v w).hw.hang = w.hw.hang := rfl
@[simp] theorem setCtr_mirror (block index v : Nat) (w : Work) : (setCtr block index v w).hw.mirror = w.hw.mirror := rfl
@[simp] theorem setCtr_conserve (block index v : Nat) (w : Work) : (setCtr block index v w).hw.conserve = w.hw.conserve := rfl
@[simp] theorem setCtr_plans (block index v : Nat) (w : Work) : (setCtr block index v w).hw.plans = w.hw.plans := rfl
@[simp] theorem setCtr_burin (block index v : Nat) (w : Work) : (setCtr block index v w).hw.burin = w.hw.burin := rfl
@[simp] theorem setCtr_monitors (block index v : Nat) (w : Work) : (setCtr block index v w).hw.monitors = w.hw.monitors := rfl
@[simp] theorem setCtr_monitorsSince (block index v : Nat) (w : Work) : (setCtr block index v w).hw.monitorsSince = w.hw.monitorsSince := rfl
@[simp] theorem setCtr_monitorsNext (block index v : Nat) (w : Work) : (setCtr block index v w).hw.monitorsNext = w.hw.monitorsNext := rfl
@[simp] theorem setCtr_light (block index v : Nat) (w : Work) : (setCtr block index v w).hw.light = w.hw.light := rfl
@[simp] theorem setCtr_snapCur (block index v : Nat) (w : Work) : (setCtr block index v w).hw.snapCur = w.hw.snapCur := rfl
@[simp] theorem setCtr_snapPrev (block index v : Nat) (w : Work) : (setCtr block index v w).hw.snapPrev = w.hw.snapPrev := rfl
@[simp] theorem setCtr_bad (block index v : Nat) (w : Work) : (setCtr block index v w).hw.bad = w.hw.bad := rfl
@[simp] theorem setCtr_tx (block index v : Nat) (w : Work) : (setCtr block index v w).hw.tx = w.hw.tx := rfl
@[simp] theorem setCtr_freeCtr (block index v : Nat) (w : Work) : (setCtr block index v w).hw.freeCtr = w.hw.freeCtr := rfl
@[simp] theorem setCtr_base (block index v : Nat) (w : Work) : (setCtr block index v w).base = w.base := rfl
@[simp] theorem setCtr_log (block index v : Nat) (w : Work) : (setCtr block index v w).log = w.log := rfl
@[simp] theorem setCtr_marked (block index v : Nat) (w : Work) : (setCtr block index v w).marked = w.marked := rfl

/-! ## `freeUsed` -/

@[simp] theorem freeUsed_time (w : Work) : (freeUsed w).hw.time = w.hw.time := rfl
@[simp] theorem freeUsed_clks (w : Work) : (freeUsed w).hw.clks = w.hw.clks := rfl
@[simp] theorem freeUsed_cores (w : Work) : (freeUsed w).hw.cores = w.hw.cores := rfl
@[simp] theorem freeUsed_links (w : Work) : (freeUsed w).hw.links = w.hw.links := rfl
@[simp] theorem freeUsed_pager (w : Work) : (freeUsed w).hw.pager = w.hw.pager := rfl
@[simp] theorem freeUsed_gravers (w : Work) : (freeUsed w).hw.gravers = w.hw.gravers := rfl
@[simp] theorem freeUsed_coll (w : Work) : (freeUsed w).hw.coll = w.hw.coll := rfl
@[simp] theorem freeUsed_host (w : Work) : (freeUsed w).hw.host = w.hw.host := rfl
@[simp] theorem freeUsed_keep (w : Work) : (freeUsed w).hw.keep = w.hw.keep := rfl
@[simp] theorem freeUsed_lantern (w : Work) : (freeUsed w).hw.lantern = w.hw.lantern := rfl
@[simp] theorem freeUsed_power (w : Work) : (freeUsed w).hw.power = w.hw.power := rfl
@[simp] theorem freeUsed_fault (w : Work) : (freeUsed w).hw.fault = w.hw.fault := rfl
@[simp] theorem freeUsed_hang (w : Work) : (freeUsed w).hw.hang = w.hw.hang := rfl
@[simp] theorem freeUsed_mirror (w : Work) : (freeUsed w).hw.mirror = w.hw.mirror := rfl
@[simp] theorem freeUsed_conserve (w : Work) : (freeUsed w).hw.conserve = w.hw.conserve := rfl
@[simp] theorem freeUsed_plans (w : Work) : (freeUsed w).hw.plans = w.hw.plans := rfl
@[simp] theorem freeUsed_burin (w : Work) : (freeUsed w).hw.burin = w.hw.burin := rfl
@[simp] theorem freeUsed_monitors (w : Work) : (freeUsed w).hw.monitors = w.hw.monitors := rfl
@[simp] theorem freeUsed_monitorsSince (w : Work) : (freeUsed w).hw.monitorsSince = w.hw.monitorsSince := rfl
@[simp] theorem freeUsed_monitorsNext (w : Work) : (freeUsed w).hw.monitorsNext = w.hw.monitorsNext := rfl
@[simp] theorem freeUsed_light (w : Work) : (freeUsed w).hw.light = w.hw.light := rfl
@[simp] theorem freeUsed_ctr (w : Work) : (freeUsed w).hw.ctr = w.hw.ctr := rfl
@[simp] theorem freeUsed_snapCur (w : Work) : (freeUsed w).hw.snapCur = w.hw.snapCur := rfl
@[simp] theorem freeUsed_snapPrev (w : Work) : (freeUsed w).hw.snapPrev = w.hw.snapPrev := rfl
@[simp] theorem freeUsed_bad (w : Work) : (freeUsed w).hw.bad = w.hw.bad := rfl
@[simp] theorem freeUsed_tx (w : Work) : (freeUsed w).hw.tx = w.hw.tx := rfl
@[simp] theorem freeUsed_base (w : Work) : (freeUsed w).base = w.base := rfl
@[simp] theorem freeUsed_log (w : Work) : (freeUsed w).log = w.log := rfl
@[simp] theorem freeUsed_marked (w : Work) : (freeUsed w).marked = w.marked := rfl

/-! ## `emit` -/

@[simp] theorem emit_time (e : Emit) (w : Work) : (emit e w).hw.time = w.hw.time := rfl
@[simp] theorem emit_clks (e : Emit) (w : Work) : (emit e w).hw.clks = w.hw.clks := rfl
@[simp] theorem emit_cores (e : Emit) (w : Work) : (emit e w).hw.cores = w.hw.cores := rfl
@[simp] theorem emit_links (e : Emit) (w : Work) : (emit e w).hw.links = w.hw.links := rfl
@[simp] theorem emit_pager (e : Emit) (w : Work) : (emit e w).hw.pager = w.hw.pager := rfl
@[simp] theorem emit_gravers (e : Emit) (w : Work) : (emit e w).hw.gravers = w.hw.gravers := rfl
@[simp] theorem emit_coll (e : Emit) (w : Work) : (emit e w).hw.coll = w.hw.coll := rfl
@[simp] theorem emit_host (e : Emit) (w : Work) : (emit e w).hw.host = w.hw.host := rfl
@[simp] theorem emit_keep (e : Emit) (w : Work) : (emit e w).hw.keep = w.hw.keep := rfl
@[simp] theorem emit_lantern (e : Emit) (w : Work) : (emit e w).hw.lantern = w.hw.lantern := rfl
@[simp] theorem emit_power (e : Emit) (w : Work) : (emit e w).hw.power = w.hw.power := rfl
@[simp] theorem emit_fault (e : Emit) (w : Work) : (emit e w).hw.fault = w.hw.fault := rfl
@[simp] theorem emit_hang (e : Emit) (w : Work) : (emit e w).hw.hang = w.hw.hang := rfl
@[simp] theorem emit_mirror (e : Emit) (w : Work) : (emit e w).hw.mirror = w.hw.mirror := rfl
@[simp] theorem emit_conserve (e : Emit) (w : Work) : (emit e w).hw.conserve = w.hw.conserve := rfl
@[simp] theorem emit_plans (e : Emit) (w : Work) : (emit e w).hw.plans = w.hw.plans := rfl
@[simp] theorem emit_burin (e : Emit) (w : Work) : (emit e w).hw.burin = w.hw.burin := rfl
@[simp] theorem emit_monitors (e : Emit) (w : Work) : (emit e w).hw.monitors = w.hw.monitors := rfl
@[simp] theorem emit_monitorsSince (e : Emit) (w : Work) : (emit e w).hw.monitorsSince = w.hw.monitorsSince := rfl
@[simp] theorem emit_monitorsNext (e : Emit) (w : Work) : (emit e w).hw.monitorsNext = w.hw.monitorsNext := rfl
@[simp] theorem emit_light (e : Emit) (w : Work) : (emit e w).hw.light = w.hw.light := rfl
@[simp] theorem emit_ctr (e : Emit) (w : Work) : (emit e w).hw.ctr = w.hw.ctr := rfl
@[simp] theorem emit_snapCur (e : Emit) (w : Work) : (emit e w).hw.snapCur = w.hw.snapCur := rfl
@[simp] theorem emit_snapPrev (e : Emit) (w : Work) : (emit e w).hw.snapPrev = w.hw.snapPrev := rfl
@[simp] theorem emit_bad (e : Emit) (w : Work) : (emit e w).hw.bad = w.hw.bad := rfl
@[simp] theorem emit_freeCtr (e : Emit) (w : Work) : (emit e w).hw.freeCtr = w.hw.freeCtr := rfl
@[simp] theorem emit_base (e : Emit) (w : Work) : (emit e w).base = w.base := rfl
@[simp] theorem emit_log (e : Emit) (w : Work) : (emit e w).log = w.log := rfl
@[simp] theorem emit_marked (e : Emit) (w : Work) : (emit e w).marked = w.marked := rfl

/-! ## The field a change is about -/

@[simp] theorem modTime_time (f : TimeSt → TimeSt) (w : Work) : (modTime f w).hw.time = f w.hw.time := rfl
@[simp] theorem modKeep_keep (f : KeepSt → KeepSt) (w : Work) : (modKeep f w).hw.keep = f w.hw.keep := rfl
@[simp] theorem modPower_power (f : PowerSt → PowerSt) (w : Work) : (modPower f w).hw.power = f w.hw.power := rfl
@[simp] theorem modLantern_lantern (f : LanternSt → LanternSt) (w : Work) : (modLantern f w).hw.lantern = f w.hw.lantern := rfl
@[simp] theorem modLight_light (f : LightSt → LightSt) (w : Work) : (modLight f w).hw.light = f w.hw.light := rfl
@[simp] theorem modConserve_conserve (f : ConserveSt → ConserveSt) (w : Work) : (modConserve f w).hw.conserve = f w.hw.conserve := rfl
@[simp] theorem modHost_host (f : HostSt → HostSt) (w : Work) : (modHost f w).hw.host = f w.hw.host := rfl
@[simp] theorem emit_tx (e : Emit) (w : Work) : (emit e w).hw.tx = w.hw.tx ++ [e] := rfl
@[simp] theorem freeUsed_freeCtr (w : Work) : (freeUsed w).hw.freeCtr = w.hw.freeCtr + 1 := rfl

end Sys2Proof.Machine
end

