-- ==== Sys2Proof/Laws/Tables.lean ====
section
/-! SUPPORT. Laws/Tables.lean: reading a sparse table after an update, and the tables' canonical order. -/
namespace Sys2Proof.Machine

variable {α : Type}

@[simp] theorem tabGet_nil (d : α) (k : Nat) : tabGet d ([] : Tab α) k = d := rfl

theorem tabGet_cons (d : α) (i : Nat) (v : α) (t : Tab α) (k : Nat) :
    tabGet d ((i, v) :: t) k = if i = k then v else tabGet d t k := rfl

/-- Reading a table that keeps only the keys that pass a test. -/
theorem tabGet_filter (d : α) (p : Nat → Bool) (t : Tab α) (k : Nat) :
    tabGet d (t.filter (fun e => p e.1)) k = if p k then tabGet d t k else d := by
  induction t with
  | nil => simp
  | cons e t ih =>
    obtain ⟨i, v⟩ := e
    by_cases hi : p i = true
    · simp only [List.filter_cons, hi, if_true, tabGet_cons]
      by_cases hk : i = k
      · subst hk; simp [hi]
      · simp [hk, ih]
    · simp only [List.filter_cons, hi, Bool.false_eq_true, if_false, tabGet_cons, ih]
      by_cases hk : i = k
      · subst hk; simp [hi]
      · simp [hk]

/-- Reading a table made of two: the first one that lists the key answers. -/
theorem tabGet_append (d : α) (a b : Tab α) (k : Nat) :
    tabGet d (a ++ b) k = if a.any (fun e => e.1 == k) then tabGet d a k else tabGet d b k := by
  induction a with
  | nil => simp
  | cons e t ih =>
    obtain ⟨i, v⟩ := e
    by_cases hk : i = k
    · simp [tabGet_cons, hk]
    · have hb : (i == k) = false := by simp [hk]
      rw [List.cons_append, tabGet_cons, if_neg hk, tabGet_cons, if_neg hk, List.any_cons, hb, Bool.false_or, ih]

theorem any_filter_key (p : Nat → Bool) (t : Tab α) (k : Nat) (h : p k = false) :
    (t.filter (fun e => p e.1)).any (fun e => e.1 == k) = false := by
  rw [Bool.eq_false_iff]
  intro hc
  simp only [List.any_eq_true, List.mem_filter, beq_iff_eq] at hc
  obtain ⟨e, ⟨_, hp⟩, rfl⟩ := hc
  simp [h] at hp

/-- A key just set reads the value set. -/
@[simp] theorem tabGet_tabSet_self [DecidableEq α] (d : α) (t : Tab α) (k : Nat) (v : α) :
    tabGet d (tabSet d t k v) k = v := by
  unfold tabSet
  rw [tabGet_append, tabGet_append, List.any_append]
  have h1 := any_filter_key (fun i => decide (i < k)) t k (by simp)
  by_cases hv : v = d
  · have h3 := tabGet_filter d (fun i => decide (k < i)) t k
    simp only [h1, hv]
    simp at h3
    simp [h3]
  · simp [h1, hv, tabGet_cons]

/-- A key that was not set reads what it read before. -/
theorem tabGet_tabSet_ne [DecidableEq α] (d : α) (t : Tab α) (k j : Nat) (v : α) (h : j ≠ k) :
    tabGet d (tabSet d t k v) j = tabGet d t j := by
  unfold tabSet
  have hmid : tabGet d (if v = d then [] else [(k, v)]) j = d := by
    by_cases hv : v = d
    · simp [hv]
    · simp [hv, tabGet_cons, Ne.symm h]
  have hmid' : (if v = d then ([] : Tab α) else [(k, v)]).any (fun e => e.1 == j) = false := by
    by_cases hv : v = d
    · simp [hv]
    · simp [hv, Ne.symm h]
  rw [tabGet_append, tabGet_append, List.any_append]
  simp only [hmid', Bool.or_false, hmid]
  have hl := tabGet_filter d (fun i => decide (i < k)) t j
  have hr := tabGet_filter d (fun i => decide (k < i)) t j
  by_cases hj : j < k
  · by_cases ha : (t.filter (fun e => decide (e.1 < k))).any (fun e => e.1 == j) = true
    · simp [ha, hl, hj]
    · have hn : ¬ k < j := by omega
      simp only [ha, Bool.false_eq_true, if_false, hr, hn, decide_false]
      have : tabGet d t j = d := by
        clear hl hr
        induction t with
        | nil => rfl
        | cons e t ih =>
          obtain ⟨i, x⟩ := e
          by_cases hi : i = j
          · subst hi; simp [hj] at ha
          · rw [tabGet_cons, if_neg hi]
            apply ih
            intro hc
            apply ha
            simp only [List.any_eq_true, List.mem_filter] at hc ⊢
            obtain ⟨y, ⟨hy1, hy2⟩, hy3⟩ := hc
            exact ⟨y, ⟨List.mem_cons_of_mem _ hy1, hy2⟩, hy3⟩
      exact this.symm
  · have ha := any_filter_key (fun i => decide (i < k)) t j (by simp [hj])
    have hk : k < j := by omega
    simp [ha, hr, hk]

theorem tabGet_tabSet [DecidableEq α] (d : α) (t : Tab α) (k j : Nat) (v : α) :
    tabGet d (tabSet d t k v) j = if j = k then v else tabGet d t j := by
  by_cases h : j = k
  · simp [h]
  · simp [h, tabGet_tabSet_ne]

/-- A changed entry reads its new value, every other entry reads as before. -/
theorem tabGet_tabMod [DecidableEq α] (d : α) (t : Tab α) (k j : Nat) (f : α → α) :
    tabGet d (tabMod d t k f) j = if j = k then f (tabGet d t k) else tabGet d t j := tabGet_tabSet d t k j _

/-- A counter of a bank after another addition. -/
theorem tabGet_tabBump (t : Tab Nat) (k j n : Nat) :
    tabGet 0 (tabBump t k n) j = if j = k then tabGet 0 t k + n else tabGet 0 t j := tabGet_tabSet 0 t k j _

/-- The entries of a table after one is set are the new entry and old ones of other keys. -/
theorem mem_tabSet [DecidableEq α] (d : α) (t : Tab α) (k : Nat) (v : α) (e : Nat × α) (h : e ∈ tabSet d t k v) :
    e = (k, v) ∨ (e ∈ t ∧ e.1 ≠ k) := by
  unfold tabSet at h
  simp only [List.append_assoc, List.mem_append, List.mem_filter, decide_eq_true_eq] at h
  rcases h with ⟨h1, h2⟩ | h | ⟨h1, h2⟩
  · exact .inr ⟨h1, by omega⟩
  · by_cases hv : v = d
    · simp [hv] at h
    · simp [hv] at h; exact .inl h
  · exact .inr ⟨h1, by omega⟩

/-- Setting a key twice is setting it once. -/
@[simp] theorem tabSet_tabSet [DecidableEq α] (d : α) (t : Tab α) (k : Nat) (a b : α) :
    tabSet d (tabSet d t k a) k b = tabSet d t k b := by
  have hl : (tabSet d t k a).filter (fun p => decide (p.1 < k)) = t.filter (fun p => decide (p.1 < k)) := by
    unfold tabSet
    rw [List.filter_append, List.filter_append, List.filter_filter, List.filter_filter]
    have hm : (if a = d then ([] : Tab α) else [(k, a)]).filter (fun p => decide (p.1 < k)) = [] := by
      by_cases h : a = d <;> simp [h]
    have hr : t.filter (fun p => decide (p.1 < k) && decide (k < p.1)) = [] := by
      rw [List.filter_eq_nil_iff]; intro e _; simp; omega
    rw [hm, hr, List.append_nil, List.append_nil]
    congr 1; funext e; simp
  have hr : (tabSet d t k a).filter (fun p => decide (k < p.1)) = t.filter (fun p => decide (k < p.1)) := by
    unfold tabSet
    rw [List.filter_append, List.filter_append, List.filter_filter, List.filter_filter]
    have hm : (if a = d then ([] : Tab α) else [(k, a)]).filter (fun p => decide (k < p.1)) = [] := by
      by_cases h : a = d <;> simp [h]
    have hl : t.filter (fun p => decide (k < p.1) && decide (p.1 < k)) = [] := by
      rw [List.filter_eq_nil_iff]; intro e _; simp; omega
    rw [hm, hl, List.nil_append, List.nil_append]
    congr 1; funext e; simp
  show (tabSet d t k a).filter (fun p => decide (p.1 < k)) ++ _ ++ (tabSet d t k a).filter (fun p => decide (k < p.1)) = _
  rw [hl, hr]; rfl

/-- Changing a key twice is changing it once. -/
@[simp] theorem tabMod_tabMod [DecidableEq α] (d : α) (t : Tab α) (k : Nat) (f g : α → α) :
    tabMod d (tabMod d t k f) k g = tabMod d t k (fun x => g (f x)) := by
  unfold tabMod
  rw [tabGet_tabSet_self, tabSet_tabSet]

end Sys2Proof.Machine
end

