-- ==== Sys2Proof/Laws/Fabric.lean ====
section
/-! SUPPORT. Laws/Fabric.lean: what the operations of the package fabric do to credits and transfers, and what a stored bundle word decodes to. -/
namespace Sys2Proof.Machine

/-- A change of credits is seen at its own link. -/
theorem heldCredits_modCredits_self (l : Nat) (f : Nat → Nat) (w : Work) :
    heldCredits (modCredits l f w).hw l = f (heldCredits w.hw l) := by
  simp [heldCredits, modCredits, Work.up, tabMod]

/-- A change of credits is seen at no other link. -/
theorem heldCredits_modCredits_ne (l k : Nat) (f : Nat → Nat) (w : Work) (h : k ≠ l) :
    heldCredits (modCredits l f w).hw k = heldCredits w.hw k := by
  simp [heldCredits, modCredits, Work.up, tabMod, tabGet_tabSet_ne _ _ _ _ _ h]

/-- A change of credits leaves the transfers alone. -/
@[simp] theorem modCredits_fabric (l : Nat) (f : Nat → Nat) (w : Work) :
    (modCredits l f w).hw.links.fabric = w.hw.links.fabric := rfl

/-- All that goFabric can do (R21, R281, R559): nothing, or the first waiting copy of the transfer leaves by the route of that instant,
where its credits and room allow it, and takes its credits. -/
theorem goFabric_cases (i : Nat) (w : Work) :
    goFabric i w = w ∨
    ∃ m c, w.hw.links.fabric[i]? = some m ∧ m.copies.find? (fun c => !c.gone) = some c ∧
      let sent : FabricCopy := { c with route := fabricRoute w.hw (spireOf m.srcCore) (spireOf m.destCore), gone := true }
      copyMayGo w.hw m sent = true ∧
      goFabric i w = setFabric i { m with copies := updateFirst (fun x => !x.gone) (fun _ => sent) m.copies, sentAt := w.hw.time.now }
        ((copyLink m sent).elim w (fun l => modCredits l (fun n => n - fabricUnits m) w)) := by
  unfold goFabric
  split
  · exact .inl rfl
  · rename_i m hm
    split
    · exact .inl rfl
    · rename_i c hc
      dsimp only
      split
      · rename_i hgo
        refine .inr ⟨m, c, hm, hc, hgo, ?_⟩
        cases copyLink m { c with route := fabricRoute w.hw (spireOf m.srcCore) (spireOf m.destCore), gone := true } <;> rfl
      · exact .inl rfl

/-- A transfer between ring neighbours and one inside a Spire take no through-router, whatever is powered (R21). -/
theorem fabricRoute_near (hw : Hw) (a b : Nat) (h : a = b ∨ b = (a + 1) % 4 ∨ b = (a + 3) % 4) :
    fabricRoute hw a b = .inside ∨ fabricRoute hw a b = .ring := by
  unfold fabricRoute
  by_cases hab : a = b
  · simp [hab]
  · rw [if_neg hab, if_pos (h.resolve_left hab)]; exact .inr rfl

/-- A route runs through a router only while that router forwards (R21). -/
theorem fabricRoute_through_up (hw : Hw) (a b r : Nat) (h : fabricRoute hw a b = .through r) : routerUp hw r = true := by
  unfold fabricRoute at h
  split at h
  · cases h
  split at h
  · cases h
  split at h
  · cases h; assumption
  split at h
  · cases h; assumption
  · cases h

/-- An unused slot gives no instruction, and its bits are zero (R78). -/
theorem decodeSlot_unused (code : Slot → Nat → Option Instr) (core valid place x : Nat) (b : List Instr)
    (hv : bit valid place = false) (h : decodeSlot code core valid place x = some b) : b = [] ∧ x = 0 := by
  simp only [decodeSlot, hv, Bool.not_false, if_true] at h
  split at h
  · cases h; exact ⟨rfl, by assumption⟩
  · cases h

/-- A bundle word whose reserved header bits are not zero is illegal (R78). -/
theorem decodeBundle_reserved (core v : Nat) (h : (bundleParts v).reserved ≠ 0) : decodeBundle core v = none := by
  simp [decodeBundle, h]

end Sys2Proof.Machine
end

