-- ==== Sys2Proof/Laws/Memory.lean ====
section
/-! SUPPORT. Laws/Memory.lean: every memory operation keeps the canonical form; what a byte reads after a store. -/
namespace Sys2Proof.Machine

/-! ## The canonical form -/

theorem wf_cons (a : Nat) (v : Byte) (m : Mem) :
    Mem.wf ((a, v) :: m) = true ↔ v ≠ 0 ∧ (∀ p ∈ m, a < p.1) ∧ Mem.wf m = true := by
  simp [Mem.wf, and_assoc]

theorem wf_filter (q : Host.Cell → Bool) (m : Mem) (h : Mem.wf m = true) : Mem.wf (m.filter q) = true := by
  induction m with
  | nil => rfl
  | cons p m ih =>
    obtain ⟨a, v⟩ := p
    rw [wf_cons] at h
    by_cases hq : q (a, v) = true
    · rw [List.filter_cons_of_pos hq, wf_cons]
      exact ⟨h.1, fun p hp => h.2.1 p (List.mem_filter.1 hp).1, ih h.2.2⟩
    · rw [List.filter_cons_of_neg hq]
      exact ih h.2.2

theorem wf_append (a b : Mem) (ha : Mem.wf a = true) (hb : Mem.wf b = true)
    (hab : ∀ p ∈ a, ∀ q ∈ b, p.1 < q.1) : Mem.wf (a ++ b) = true := by
  induction a with
  | nil => exact hb
  | cons p m ih =>
    obtain ⟨i, v⟩ := p
    rw [wf_cons] at ha
    rw [List.cons_append, wf_cons]
    refine ⟨ha.1, ?_, ih ha.2.2 (fun p hp q hq => hab p (List.mem_cons_of_mem _ hp) q hq)⟩
    intro p hp
    rcases List.mem_append.1 hp with hp | hp
    · exact ha.2.1 p hp
    · exact hab (i, v) (List.mem_cons_self ..) p hp

theorem cellsOf_range (a : Nat) (bs : List Byte) : ∀ p ∈ cellsOf a bs, a ≤ p.1 ∧ p.1 < a + bs.length := by
  induction bs generalizing a with
  | nil => simp [cellsOf]
  | cons b bs ih =>
    intro p hp
    unfold cellsOf at hp
    have step : p ∈ cellsOf (a + 1) bs → a ≤ p.1 ∧ p.1 < a + (b :: bs).length := by
      intro h
      have := ih (a + 1) p h
      simp only [List.length_cons]
      omega
    by_cases hb : b = 0
    · rw [if_pos hb] at hp
      exact step hp
    · rw [if_neg hb] at hp
      rcases List.mem_cons.1 hp with rfl | hp
      · simp
      · exact step hp

theorem wf_cellsOf (a : Nat) (bs : List Byte) : Mem.wf (cellsOf a bs) = true := by
  induction bs generalizing a with
  | nil => rfl
  | cons b bs ih =>
    unfold cellsOf
    by_cases hb : b = 0
    · rw [if_pos hb]; exact ih (a + 1)
    · rw [if_neg hb, wf_cons]
      refine ⟨hb, fun p hp => ?_, ih (a + 1)⟩
      have := cellsOf_range (a + 1) bs p hp
      omega

/-- A write keeps the canonical form. -/
theorem wf_memPut (m : Mem) (a : Nat) (bs : List Byte) (h : Mem.wf m = true) : Mem.wf (memPut m a bs) = true := by
  unfold memPut
  refine wf_append _ _ (wf_append _ _ (wf_filter _ m h) (wf_cellsOf a bs) ?_) (wf_filter _ m h) ?_
  · intro p hp q hq
    have h1 := (List.mem_filter.1 hp).2
    have h2 := cellsOf_range a bs q hq
    simp only [decide_eq_true_eq] at h1
    omega
  · intro p hp q hq
    have h2 := (List.mem_filter.1 hq).2
    simp only [decide_eq_true_eq] at h2
    rcases List.mem_append.1 hp with hp | hp
    · have h1 := (List.mem_filter.1 hp).2
      simp only [decide_eq_true_eq] at h1
      omega
    · have h1 := cellsOf_range a bs p hp
      omega

/-- A fill with zeros keeps the canonical form. -/
theorem wf_memClear (m : Mem) (a n : Nat) (h : Mem.wf m = true) : Mem.wf (memClear m a n) = true := wf_filter _ m h

/-- Every store keeps the canonical form. -/
theorem wf_applyStore (m : Mem) (st : Store) (h : Mem.wf m = true) : Mem.wf (applyStore m st) = true := by
  cases st with
  | put a bs => exact wf_memPut m a bs h
  | clear a n => exact wf_memClear m a n h

theorem wf_stores (m : Mem) (log : List Store) (h : Mem.wf m = true) :
    Mem.wf (log.foldr (fun st m => applyStore m st) m) = true := by
  induction log with
  | nil => exact h
  | cons st log ih => exact wf_applyStore _ st ih

/-- Whatever a command did, the state after it has canonical memory where the state before it had. -/
theorem wf_finish (s : State) (w : Work) (h : Mem.wf s.mem = true) : Mem.wf (finish s w).mem = true :=
  wf_stores s.mem w.log h

/-! ## One byte after a store -/

theorem tabGet_cellsOf (a : Nat) (bs : List Byte) (x : Nat) :
    tabGet 0 (cellsOf a bs) x = if a ≤ x ∧ x < a + bs.length then bs.getD (x - a) 0 else 0 := by
  induction bs generalizing a with
  | nil =>
    simp [cellsOf]
  | cons b bs ih =>
    unfold cellsOf
    have key : tabGet 0 ((a, b) :: cellsOf (a + 1) bs) x
        = if a ≤ x ∧ x < a + (b :: bs).length then (b :: bs).getD (x - a) 0 else 0 := by
      rw [tabGet_cons, ih]
      by_cases hx : a = x
      · subst hx; simp
      · by_cases h2 : a + 1 ≤ x ∧ x < a + 1 + bs.length
        · have h3 : a ≤ x ∧ x < a + (b :: bs).length := by simp only [List.length_cons]; omega
          rw [if_neg hx, if_pos h2, if_pos h3]
          have : x - a = (x - (a + 1)) + 1 := by omega
          rw [this]; rfl
        · have h3 : ¬ (a ≤ x ∧ x < a + (b :: bs).length) := by simp only [List.length_cons]; omega
          rw [if_neg hx, if_neg h2, if_neg h3]
    by_cases hb : b = 0
    · rw [if_pos hb, ← key, hb, tabGet_cons]
      by_cases hx : a = x
      · subst hx
        rw [if_pos rfl, ih]
        have : ¬ (a + 1 ≤ a ∧ a < a + 1 + bs.length) := by omega
        rw [if_neg this]
      · rw [if_neg hx]
    · rw [if_neg hb]; exact key

theorem tabGet_of_no_key {α : Type} (d : α) (t : Tab α) (x : Nat) (h : ∀ p ∈ t, p.1 ≠ x) : tabGet d t x = d := by
  induction t with
  | nil => rfl
  | cons e t ih =>
    obtain ⟨i, v⟩ := e
    rw [tabGet_cons, if_neg (h (i, v) (List.mem_cons_self ..))]
    exact ih (fun p hp => h p (List.mem_cons_of_mem _ hp))

theorem tabGet_append_left {α : Type} (d : α) (a b : Tab α) (x : Nat) (h : ∀ p ∈ b, p.1 ≠ x) :
    tabGet d (a ++ b) x = tabGet d a x := by
  induction a with
  | nil => rw [List.nil_append, tabGet_of_no_key d b x h]; rfl
  | cons e t ih =>
    obtain ⟨i, v⟩ := e
    rw [List.cons_append, tabGet_cons, tabGet_cons, ih]

theorem tabGet_append_right {α : Type} (d : α) (a b : Tab α) (x : Nat) (h : ∀ p ∈ a, p.1 ≠ x) :
    tabGet d (a ++ b) x = tabGet d b x := by
  induction a with
  | nil => rfl
  | cons e t ih =>
    obtain ⟨i, v⟩ := e
    rw [List.cons_append, tabGet_cons, if_neg (h (i, v) (List.mem_cons_self ..))]
    exact ih (fun p hp => h p (List.mem_cons_of_mem _ hp))

/-- A byte after a write: the byte written, or the byte that was there. -/
theorem memByte_memPut (m : Mem) (a : Nat) (bs : List Byte) (x : Nat) :
    memByte (memPut m a bs) x = if a ≤ x ∧ x < a + bs.length then bs.getD (x - a) 0 else memByte m x := by
  unfold memByte memPut
  have lo := tabGet_filter (0 : Byte) (fun i => decide (i < a)) m x
  have hi := tabGet_filter (0 : Byte) (fun i => decide (a + bs.length ≤ i)) m x
  by_cases h1 : x < a
  · have n1 : ¬ (a ≤ x ∧ x < a + bs.length) := by omega
    rw [if_neg n1, tabGet_append_left, tabGet_append_left, lo]
    · simp [h1]
    · intro p hp; have := cellsOf_range a bs p hp; omega
    · intro p hp; have := (List.mem_filter.1 hp).2; simp only [decide_eq_true_eq] at this; omega
  · by_cases h2 : x < a + bs.length
    · have n1 : a ≤ x ∧ x < a + bs.length := by omega
      rw [tabGet_append_left, tabGet_append_right, tabGet_cellsOf, if_pos n1, if_pos n1]
      · intro p hp; have := (List.mem_filter.1 hp).2; simp only [decide_eq_true_eq] at this; omega
      · intro p hp; have := (List.mem_filter.1 hp).2; simp only [decide_eq_true_eq] at this; omega
    · have n1 : ¬ (a ≤ x ∧ x < a + bs.length) := by omega
      rw [if_neg n1, tabGet_append_right, hi]
      · simp; omega
      · intro p hp
        rcases List.mem_append.1 hp with hp | hp
        · have := (List.mem_filter.1 hp).2; simp only [decide_eq_true_eq] at this; omega
        · have := cellsOf_range a bs p hp; omega

/-- A byte after a fill with zeros. -/
theorem memByte_memClear (m : Mem) (a n x : Nat) :
    memByte (memClear m a n) x = if a ≤ x ∧ x < a + n then 0 else memByte m x := by
  unfold memByte memClear
  have h := tabGet_filter (0 : Byte) (fun i => decide (i < a) || decide (a + n ≤ i)) m x
  rw [h]
  by_cases hx : a ≤ x ∧ x < a + n
  · rw [if_pos hx, if_neg]; simp; omega
  · rw [if_neg hx, if_pos]; simp; omega

/-- The bytes a store touches. -/
def Store.covers (st : Store) (x : Nat) : Bool :=
  match st with
  | .put a bs => a ≤ x && x < a + bs.length
  | .clear a n => a ≤ x && x < a + n

/-- A store leaves every byte outside it as it was. -/
theorem memByte_applyStore_outside (m : Mem) (st : Store) (x : Nat) (h : st.covers x = false) :
    memByte (applyStore m st) x = memByte m x := by
  cases st with
  | put a bs =>
    have hn : ¬ (a ≤ x ∧ x < a + bs.length) := by simpa [Store.covers] using h
    simp only [applyStore]
    rw [memByte_memPut, if_neg hn]
  | clear a n =>
    have hn : ¬ (a ≤ x ∧ x < a + n) := by simpa [Store.covers] using h
    simp only [applyStore]
    rw [memByte_memClear, if_neg hn]

/-- The stores of a command leave every byte outside them as it was. -/
theorem memByte_stores_outside (m : Mem) (log : List Store) (x : Nat) (h : ∀ st ∈ log, st.covers x = false) :
    memByte (log.foldr (fun st m => applyStore m st) m) x = memByte m x := by
  induction log with
  | nil => rfl
  | cons st log ih =>
    rw [List.foldr_cons, memByte_applyStore_outside _ st x (h st (List.mem_cons_self ..))]
    exact ih (fun s hs => h s (List.mem_cons_of_mem _ hs))

/-- A command without stores leaves memory as it was. -/
theorem finish_mem_of_no_store (s : State) (w : Work) (h : w.log = []) : (finish s w).mem = s.mem := by
  simp [finish, h]

/-! ## Reading several bytes -/

theorem spread_cons_lt (a n k : Nat) (v : Byte) (m : Mem) (h : k ≠ a) :
    spread a (n + 1) ((k, v) :: m) = 0 :: spread (a + 1) n ((k, v) :: m) := by
  simp [spread, h]

theorem spread_eq (a n : Nat) (m : Mem) (h : Mem.wf m = true) (hm : ∀ p ∈ m, a ≤ p.1) :
    spread a n m = (List.range' a n).map (fun i => memByte m i) := by
  induction n generalizing a m with
  | zero => cases m <;> simp [spread]
  | succ n ih =>
    cases m with
    | nil => simp only [spread, ih (a + 1) [] rfl (by simp), List.range'_succ, List.map_cons]; rfl
    | cons p m =>
      obtain ⟨k, v⟩ := p
      rw [wf_cons] at h
      by_cases hk : k = a
      · subst hk
        simp only [spread, if_true, List.range'_succ, List.map_cons, memByte, tabGet_cons]
        rw [ih (k + 1) m h.2.2 (fun p hp => h.2.1 p hp)]
        congr 1
        apply List.map_congr_left
        intro i hi
        have : ¬ k = i := by have := List.mem_range'_1.1 hi; omega
        simp [memByte, this]
      · have hka : a < k := by have := hm (k, v) (List.mem_cons_self ..); simp at this; omega
        rw [spread_cons_lt a n k v m hk, List.range'_succ, List.map_cons]
        rw [ih (a + 1) ((k, v) :: m) (by rw [wf_cons]; exact h)]
        · congr 1
          have hz : tabGet (0 : Byte) m a = 0 := by
            apply tabGet_of_no_key
            intro p hp; have := h.2.1 p hp; omega
          show (0 : Byte) = tabGet 0 ((k, v) :: m) a
          rw [tabGet_cons, if_neg hk, hz]
        · intro p hp
          rcases List.mem_cons.1 hp with rfl | hp
          · exact hka
          · have := h.2.1 p hp; simp at this ⊢; omega

/-- Reading n bytes of a canonical memory reads each byte. -/
theorem memGet_eq (m : Mem) (a n : Nat) (h : Mem.wf m = true) :
    memGet m a n = (List.range' a n).map (fun i => memByte m i) := by
  unfold memGet
  rw [spread_eq a n _ (wf_filter _ m h)]
  · apply List.map_congr_left
    intro i hi
    have hr := List.mem_range'_1.1 hi
    unfold memByte
    have := tabGet_filter (0 : Byte) (fun k => decide (a ≤ k) && decide (k < a + n)) m i
    rw [this, if_pos]
    simp; omega
  · intro p hp
    have := (List.mem_filter.1 hp).2
    simp at this
    exact this.1

end Sys2Proof.Machine
end

