-- ==== Sys2Proof/Laws/Run.lean ====
section
/-! SUPPORT. Laws/Run.lean: what every command does alike: it runs, what its effects bring about follows, and the state is written back. -/
namespace Sys2Proof.Machine

theorem forEach_nil {α : Type} (f : α → Work → Work) (w : Work) : forEach [] f w = w := rfl

theorem forEach_cons {α : Type} (a : α) (l : List α) (f : α → Work → Work) (w : Work) :
    forEach (a :: l) f w = forEach l f (f a w) := rfl

/-- A loop whose every pass changes nothing changes nothing. -/
theorem forEach_id {α : Type} (l : List α) (f : α → Work → Work) (w : Work) (h : ∀ a ∈ l, f a w = w) : forEach l f w = w := by
  induction l with
  | nil => rfl
  | cons a l ih =>
    rw [forEach_cons, h a (List.mem_cons_self ..)]
    exact ih (fun b hb => h b (List.mem_cons_of_mem _ hb))

theorem settleReactions_rest (n : Nat) (w : Work) (h : w.hw.fault.due = []) : settleReactions n w = w := by
  cases n with
  | zero => rfl
  | succ n => simp only [settleReactions, h]

theorem pumpVc_rest (p vc n : Nat) (w : Work) (h : eligible w.hw p vc = false) : pumpVc p vc n w = w := by
  cases n with
  | zero => rfl
  | succ n => simp only [pumpVc, h, Bool.false_eq_true, if_false]

theorem pumpRound_rest (p : Nat) (w : Work) (h : ∀ vc, eligible w.hw p vc = false) : pumpRound p w = w := by
  unfold pumpRound
  generalize numbered 1 (weightsOf w.hw p) = l
  induction l with
  | nil => rfl
  | cons v l ih => rw [List.foldl_cons, pumpVc_rest p v.1 v.2 w (h v.1)]; exact ih

theorem pumpGo_rest (p n : Nat) (w : Work) (h : ∀ vc, eligible w.hw p vc = false) : pumpGo p n w = w := by
  cases n with
  | zero => rfl
  | succ n => simp only [pumpGo, pumpRound_rest p w h, Nat.lt_irrefl, if_false]

theorem idleSlots_rest (p n : Nat) (w : Work) (h : ctrlWaits (portOf w.hw p) = false) : idleSlots p n w = w := by
  cases n with
  | zero => rfl
  | succ n => simp [idleSlots, h]

theorem pumpAll_rest (w : Work) (h : ∀ p vc, eligible w.hw p vc = false) (hc : ∀ p, ctrlWaits (portOf w.hw p) = false) :
    pumpAll w = w := by
  have hp : ∀ p, pump p w = w := fun p => by simp only [pump, pumpGo_rest p _ w (h p), idleSlots_rest p _ w (hc p)]
  simp [pumpAll, List.range_succ, hp]

/-- A transfer of the fabric all of whose copies have left stays as it is. -/
theorem goFabric_rest (i : Nat) (w : Work) (h : ∀ m ∈ w.hw.links.fabric, ∀ c ∈ m.copies, c.gone = true) : goFabric i w = w := by
  unfold goFabric
  cases hm : w.hw.links.fabric[i]? with
  | none => rfl
  | some m =>
    have hf : m.copies.find? (fun c => !c.gone) = none := by
      rw [List.find?_eq_none]; intro c hc; simp [h m (List.mem_of_getElem? hm) c hc]
    simp only [hf]

/-- A port whose wait for a grant is known keeps it. -/
theorem markWait_rest (p : Nat) (w : Work) (h : ungranted w.hw p = true ↔ tabGet 0 w.hw.coll.waitSince p ≠ 0) : markWait p w = w := by
  unfold markWait
  cases hu : ungranted w.hw p with
  | true => simp [h.mp hu]
  | false =>
    have : tabGet 0 w.hw.coll.waitSince p = 0 := by by_contra hne; simp [h.mpr hne] at hu
    simp [this]

/-- At rest nothing follows a command's own effect. -/
theorem settle_rest (w : Work) (h : AtRest w.hw) : settle w = w := by
  have hends : settleEnds w = w := by
    unfold settleEnds
    have : w.hw.cores.filter (fun e => e.2.ending) = [] := by
      rw [List.filter_eq_nil_iff]; intro e he; simp [h.ends e he]
    rw [this]; rfl
  have hholds : settleHolds w = w := by
    unfold settleHolds
    have : w.hw.cores.filter (fun e => e.2.hold == .queue || e.2.hold == .rate) = [] := by
      rw [List.filter_eq_nil_iff]; intro e he; simp [h.holds e he]
    rw [this]; rfl
  have hqps : settleQps w = w := by
    unfold settleQps
    have hh : w.hw.host.halves.filter (fun e => !e.2.waiting.isEmpty) = [] := by
      rw [List.filter_eq_nil_iff]; intro e he; simp [h.frames e he]
    have hq : w.hw.host.qps.filter (fun q => !q.waiting.isEmpty || q.outstanding.any WorkReq.fresh) = [] := by
      rw [List.filter_eq_nil_iff]; intro q hq
      have hr := h.requests q hq
      simp only [hr.1, List.isEmpty_nil, Bool.not_true, Bool.false_or, List.any_eq_true, not_exists, not_and]
      intro r hm; simp [hr.2 r hm]
    rw [hh]; simp only [List.map_nil, forEach_nil, hq]
  have hnot : settleNotices w = w := by simp [settleNotices, h.notices]
  have hgo : goAll w = w := forEach_id _ _ w (fun i _ => goFabric_rest i w h.fabric)
  have hwait : markWaits w = w := forEach_id _ _ w (fun p _ => markWait_rest p w (h.grants p))
  have hexp : exportTrace w = w := by simp [exportTrace, h.exports, exportGo]
  have hmark : markWindows w = w := by simp [markWindows, h.windows]
  simp only [settle, settleReactions_rest _ w h.reactions, hnot, hends, hholds, hexp, hqps, hgo, pumpAll_rest w h.ports h.control, hmark,
    hwait]

/-- A command that runs answers, and what its own effect leaves is what the function of its meaning leaves. -/
theorem answers_run (c : Instr) (s : State) (f : Work → Work) (P : Work → Prop) (hc : exec c s = run s f)
    (hP : P (f (beginWork s))) : Answers c s P :=
  ⟨f (beginWork s), finish s (settle (f (beginWork s))), hc, hP, rfl, fun h => by rw [settle_rest _ h]⟩

/-- A command whose effect is known answers with that effect. -/
theorem answersWith_run (c : Instr) (s : State) (f : Work → Work) (v : Work) (hc : exec c s = run s f)
    (hv : f (beginWork s) = v) : AnswersWith c s v := answers_run c s f _ hc hv

/-- Every command that answers has run: its next state is the settled effect of some function. -/
theorem exec_next (c : Instr) (s t : State) (h : exec c s = .next t) : ∃ f : Work → Work, t = finish s (settle (f (beginWork s))) := by
  rcases exec_runs c s with ⟨f, hf⟩ | hf
  · have h2 : run s f = .next t := hf.symm.trans h
    exact ⟨f, (Host.Outcome.next.inj h2).symm⟩
  · have h2 : (.fault .beyondRatings : Host.Outcome State Fault Refusal) = .next t := hf.symm.trans h
    cases h2

/-- A command answers a next state, or it is the over-voltage reset above the absolute maximum. -/
theorem exec_answers (c : Instr) (s : State) : (∃ t, exec c s = .next t) ∨ exec c s = .fault .beyondRatings := by
  rcases exec_runs c s with ⟨f, hf⟩ | hf
  · exact .inl ⟨_, hf⟩
  · exact .inr hf

end Sys2Proof.Machine
end

