-- ==== Sys2Proof/Laws/Mail.lean ====
section
/-! SUPPORT. Laws/Mail.lean: what a mailbox command does with a request that passes its checks (R348). -/
namespace Sys2Proof.Machine

/-- A request that passes its checks is executed. -/
theorem serveWith_passes (s : State) (code : Nat) (refuse : Nat → Request → Work → Work) (permit : Hw → Request → Bool)
    (act : Request → Work → Answer) (c sl : Nat) (r : Request) (w : Work) (h : Passes s code permit c sl r w) :
    serveWith code refuse permit act c sl (beginWork s) = match act r w with
      | .reply status payload v => respond r status payload v
      | .later target v => v.up fun h => { h with host := { h.host with
          requests := h.host.requests.map (fun q =>
            if q.channel == r.channel && q.slot == r.slot then { q with started := true, target := target } else q) } } := by
  have hn : takesRequest (beginWork s).hw code c sl = some r := h.next
  have hc : r.channel = c ∧ r.slot = sl := by
    have h1 := h.next
    unfold takesRequest at h1
    split at h1
    · split at h1
      · next hb => cases h1; simp at hb; exact ⟨hb.1.1, hb.1.2⟩
      · cases h1
    · cases h1
  have h1 : (isSafe (beginWork s).hw && !servedSafe r) = false := by
    cases hs : isSafe (beginWork s).hw
    · rfl
    · simp [h.safe hs]
  have h2 : ((beginWork s).hw.keep.phase == 15 && !servedFailed code) = false := by
    by_cases hp : (beginWork s).hw.keep.phase = 15
    · simp [h.failed hp]
    · simp only [Bool.and_eq_false_iff, beq_eq_false_iff_ne]; exact .inl hp
  have h3 : ((beginWork s).hw.keep.phase == 2 && !servedRecovery code) = false := by
    by_cases hp : (beginWork s).hw.keep.phase = 2
    · simp [h.recovery hp]
    · simp only [Bool.and_eq_false_iff, beq_eq_false_iff_ne]; exact .inl hp
  have h4 : (decide (c < 17) && !isReady (beginWork s).hw && !servedEarly code) = false := by
    by_cases hp : c < 17
    · cases hr : isReady (beginWork s).hw
      · simp [h.ready hp hr]
      · simp
    · simp [hp]
  have h5 : (!channelListed c code || !permit (beginWork s).hw r) = false := by
    simp [h.listed, h.owns]
  unfold serveWith
  rw [hn]
  simp only [h1, h2, h3, h4, h5, h.signature, Bool.false_eq_true, if_false, hc.1, hc.2]
  -- In the package as one text the rewriting above closes the goal already; in this module an equality of two equal matches is left.
  all_goals (cases act r w <;> rfl)

/-- A command whose request is answered now. -/
theorem replies_of (i : Instr) (s : State) (code : Nat) (refuse : Nat → Request → Work → Work) (permit : Hw → Request → Bool)
    (act : Request → Work → Answer) (c sl : Nat) (r : Request) (w v : Work) (status : Nat) (payload : List Byte)
    (hi : exec i s = run s (serveWith code refuse permit act c sl)) (h : Passes s code permit c sl r w)
    (ha : act r w = .reply status payload v) : Replies i s r status payload v :=
  answersWith_run i s _ _ hi (by rw [serveWith_passes s code refuse permit act c sl r w h, ha])

/-- A command whose request goes on in its slot. -/
theorem pends_of (i : Instr) (s : State) (code : Nat) (refuse : Nat → Request → Work → Work) (permit : Hw → Request → Bool)
    (act : Request → Work → Answer) (c sl : Nat) (r : Request) (w v : Work) (target : Option (Nat × Nat))
    (hi : exec i s = run s (serveWith code refuse permit act c sl)) (h : Passes s code permit c sl r w)
    (ha : act r w = .later target v) : Pends i s r target v :=
  answersWith_run i s _ _ hi (by rw [serveWith_passes s code refuse permit act c sl r w h, ha])

/-- A mailbox command, by what its operands answer. -/
theorem serves_of (s : State) (c : Fin 18) (sl : Fin 64) (i : Instr) (code : Nat) (permit : Hw → Request → Bool) (act : Request → Work → Answer)
    (legal : Request → Work → Bool)
    (good : Request → Work → (Nat → List Byte → Work → Prop) → (Option (Nat × Nat) → Work → Prop) → Prop)
    (hi : exec i s = run s (serve code permit act c.val sl.val))
    (hbad : ∀ r w, legal r w = false → act r w = .reply stMalformed [] w)
    (hgood : ∀ r w, legal r w = true → ∀ (reply : Nat → List Byte → Work → Prop) (later : Option (Nat × Nat) → Work → Prop),
      (∀ status payload v, act r w = .reply status payload v → reply status payload v) →
      (∀ target v, act r w = .later target v → later target v) → good r w reply later) :
    Serves s c sl i code permit legal good := by
  intro r w h
  refine ⟨fun hl => replies_of i s code _ permit act c.val sl.val r w w _ _ hi h (hbad r w hl), fun hl => hgood r w hl _ _ ?_ ?_⟩
  · intro status payload v ha
    exact replies_of i s code _ permit act c.val sl.val r w v status payload hi h ha
  · intro target v ha
    exact pends_of i s code _ permit act c.val sl.val r w v target hi h ha

end Sys2Proof.Machine
end

