-- ==== Sys2Proof/Laws/SlotInfo.lean ====
section
/-! SUPPORT. Laws/SlotInfo.lean: the slot of each command that is one: its unit, the fields it uses and what it does at issue. -/
namespace Sys2Proof.Machine

open Sys2Proof

@[simp] theorem slotOf_add (sl : Slot) : slotOf (.add sl) = some ⟨sl, 0, 0, 14, slotAdd⟩ := rfl
@[simp] theorem slotOf_sub (sl : Slot) : slotOf (.sub sl) = some ⟨sl, 0, 0, 14, slotSub⟩ := rfl
@[simp] theorem slotOf_mul (sl : Slot) : slotOf (.mul sl) = some ⟨sl, 0, 0, 14, slotMul⟩ := rfl
@[simp] theorem slotOf_and (sl : Slot) : slotOf (.and sl) = some ⟨sl, 0, 0, 14, slotAnd⟩ := rfl
@[simp] theorem slotOf_or (sl : Slot) : slotOf (.or sl) = some ⟨sl, 0, 0, 14, slotOr⟩ := rfl
@[simp] theorem slotOf_xor (sl : Slot) : slotOf (.xor sl) = some ⟨sl, 0, 0, 14, slotXor⟩ := rfl
@[simp] theorem slotOf_shl (sl : Slot) : slotOf (.shl sl) = some ⟨sl, 0, 0, 14, slotShl⟩ := rfl
@[simp] theorem slotOf_shr (sl : Slot) : slotOf (.shr sl) = some ⟨sl, 0, 0, 14, slotShr⟩ := rfl
@[simp] theorem slotOf_sra (sl : Slot) : slotOf (.sra sl) = some ⟨sl, 0, 0, 14, slotSra⟩ := rfl
@[simp] theorem slotOf_min (sl : Slot) : slotOf (.min sl) = some ⟨sl, 0, 0, 14, slotMin⟩ := rfl
@[simp] theorem slotOf_max (sl : Slot) : slotOf (.max sl) = some ⟨sl, 0, 0, 14, slotMax⟩ := rfl
@[simp] theorem slotOf_slt (sl : Slot) : slotOf (.slt sl) = some ⟨sl, 0, 0, 14, slotSlt⟩ := rfl
@[simp] theorem slotOf_sltu (sl : Slot) : slotOf (.sltu sl) = some ⟨sl, 0, 0, 14, slotSltu⟩ := rfl
@[simp] theorem slotOf_addi (sl : Slot) : slotOf (.addi sl) = some ⟨sl, 0, 0, 13, slotAddi⟩ := rfl
@[simp] theorem slotOf_andi (sl : Slot) : slotOf (.andi sl) = some ⟨sl, 0, 0, 13, slotAndi⟩ := rfl
@[simp] theorem slotOf_ori (sl : Slot) : slotOf (.ori sl) = some ⟨sl, 0, 0, 13, slotOri⟩ := rfl
@[simp] theorem slotOf_xori (sl : Slot) : slotOf (.xori sl) = some ⟨sl, 0, 0, 13, slotXori⟩ := rfl
@[simp] theorem slotOf_shli (sl : Slot) : slotOf (.shli sl) = some ⟨sl, 0, 0, 13, slotShli⟩ := rfl
@[simp] theorem slotOf_shri (sl : Slot) : slotOf (.shri sl) = some ⟨sl, 0, 0, 13, slotShri⟩ := rfl
@[simp] theorem slotOf_srai (sl : Slot) : slotOf (.srai sl) = some ⟨sl, 0, 0, 13, slotSrai⟩ := rfl
@[simp] theorem slotOf_slti (sl : Slot) : slotOf (.slti sl) = some ⟨sl, 0, 0, 13, slotSlti⟩ := rfl
@[simp] theorem slotOf_li (sl : Slot) (imm : BitVec 60) : slotOf (.li sl imm) = some ⟨sl, 0, 0, 8, slotLi imm.toNat⟩ := rfl
@[simp] theorem slotOf_ld8 (sl : Slot) : slotOf (.ld8 sl) = some ⟨sl, 0, 0, 13, slotLd8⟩ := rfl
@[simp] theorem slotOf_ld16 (sl : Slot) : slotOf (.ld16 sl) = some ⟨sl, 0, 0, 13, slotLd16⟩ := rfl
@[simp] theorem slotOf_ld32 (sl : Slot) : slotOf (.ld32 sl) = some ⟨sl, 0, 0, 13, slotLd32⟩ := rfl
@[simp] theorem slotOf_ld64 (sl : Slot) : slotOf (.ld64 sl) = some ⟨sl, 0, 0, 13, slotLd64⟩ := rfl
@[simp] theorem slotOf_st8 (sl : Slot) : slotOf (.st8 sl) = some ⟨sl, 0, 0, 7, slotSt8⟩ := rfl
@[simp] theorem slotOf_st16 (sl : Slot) : slotOf (.st16 sl) = some ⟨sl, 0, 0, 7, slotSt16⟩ := rfl
@[simp] theorem slotOf_st32 (sl : Slot) : slotOf (.st32 sl) = some ⟨sl, 0, 0, 7, slotSt32⟩ := rfl
@[simp] theorem slotOf_st64 (sl : Slot) : slotOf (.st64 sl) = some ⟨sl, 0, 0, 7, slotSt64⟩ := rfl
@[simp] theorem slotOf_br (sl : Slot) : slotOf (.br sl) = some ⟨sl, 0, 0, 15, slotBr⟩ := rfl
@[simp] theorem slotOf_call (sl : Slot) : slotOf (.call sl) = some ⟨sl, 0, 0, 15, slotCall⟩ := rfl
@[simp] theorem slotOf_ret (sl : Slot) : slotOf (.ret sl) = some ⟨sl, 0, 0, 0, slotRet⟩ := rfl
@[simp] theorem slotOf_beq (sl : Slot) : slotOf (.beq sl) = some ⟨sl, 0, 0, 15, slotBeq⟩ := rfl
@[simp] theorem slotOf_bne (sl : Slot) : slotOf (.bne sl) = some ⟨sl, 0, 0, 15, slotBne⟩ := rfl
@[simp] theorem slotOf_blt (sl : Slot) : slotOf (.blt sl) = some ⟨sl, 0, 0, 15, slotBlt⟩ := rfl
@[simp] theorem slotOf_bge (sl : Slot) : slotOf (.bge sl) = some ⟨sl, 0, 0, 15, slotBge⟩ := rfl
@[simp] theorem slotOf_loop (sl : Slot) : slotOf (.loop sl) = some ⟨sl, 0, 0, 13, slotLoop⟩ := rfl
@[simp] theorem slotOf_wait (sl : Slot) : slotOf (.wait sl) = some ⟨sl, 0, 0, 12, slotWait⟩ := rfl
@[simp] theorem slotOf_waiti (sl : Slot) : slotOf (.waiti sl) = some ⟨sl, 0, 0, 9, slotWaiti⟩ := rfl
@[simp] theorem slotOf_wcadd (sl : Slot) : slotOf (.wcadd sl) = some ⟨sl, 0, 0, 9, slotWcadd⟩ := rfl
@[simp] theorem slotOf_wcread (sl : Slot) : slotOf (.wcread sl) = some ⟨sl, 0, 0, 12, slotWcread⟩ := rfl
@[simp] theorem slotOf_time (sl : Slot) : slotOf (.time sl) = some ⟨sl, 0, 0, 8, slotTime⟩ := rfl
@[simp] theorem slotOf_cyc (sl : Slot) : slotOf (.cyc sl) = some ⟨sl, 0, 0, 8, slotCyc⟩ := rfl
@[simp] theorem slotOf_tick (sl : Slot) : slotOf (.tick sl) = some ⟨sl, 0, 0, 8, slotTick⟩ := rfl
@[simp] theorem slotOf_csrr (sl : Slot) : slotOf (.csrr sl) = some ⟨sl, 0, 0, 9, slotCsrr⟩ := rfl
@[simp] theorem slotOf_csrw (sl : Slot) : slotOf (.csrw sl) = some ⟨sl, 0, 0, 5, slotCsrw⟩ := rfl
@[simp] theorem slotOf_markb (sl : Slot) : slotOf (.markb sl) = some ⟨sl, 0, 0, 4, slotMarkb⟩ := rfl
@[simp] theorem slotOf_marke (sl : Slot) : slotOf (.marke sl) = some ⟨sl, 0, 0, 4, slotMarke⟩ := rfl
@[simp] theorem slotOf_markp (sl : Slot) : slotOf (.markp sl) = some ⟨sl, 0, 0, 4, slotMarkp⟩ := rfl
@[simp] theorem slotOf_endFrame (sl : Slot) : slotOf (.endFrame sl) = some ⟨sl, 0, 0, 0, slotEnd⟩ := rfl
@[simp] theorem slotOf_vadd (sl : Slot) : slotOf (.vadd sl) = some ⟨sl, 1, 1, 14, slotVadd⟩ := rfl
@[simp] theorem slotOf_vsub (sl : Slot) : slotOf (.vsub sl) = some ⟨sl, 1, 1, 14, slotVsub⟩ := rfl
@[simp] theorem slotOf_vmul (sl : Slot) : slotOf (.vmul sl) = some ⟨sl, 1, 1, 14, slotVmul⟩ := rfl
@[simp] theorem slotOf_vfma (sl : Slot) : slotOf (.vfma sl) = some ⟨sl, 1, 1, 14, slotVfma⟩ := rfl
@[simp] theorem slotOf_vmin (sl : Slot) : slotOf (.vmin sl) = some ⟨sl, 1, 1, 14, slotVmin⟩ := rfl
@[simp] theorem slotOf_vmax (sl : Slot) : slotOf (.vmax sl) = some ⟨sl, 1, 1, 14, slotVmax⟩ := rfl
@[simp] theorem slotOf_vabs (sl : Slot) : slotOf (.vabs sl) = some ⟨sl, 1, 1, 12, slotVabs⟩ := rfl
@[simp] theorem slotOf_vneg (sl : Slot) : slotOf (.vneg sl) = some ⟨sl, 1, 1, 12, slotVneg⟩ := rfl
@[simp] theorem slotOf_vexp2 (sl : Slot) : slotOf (.vexp2 sl) = some ⟨sl, 1, 1, 12, slotVexp2⟩ := rfl
@[simp] theorem slotOf_vlog2 (sl : Slot) : slotOf (.vlog2 sl) = some ⟨sl, 1, 1, 12, slotVlog2⟩ := rfl
@[simp] theorem slotOf_vrcp (sl : Slot) : slotOf (.vrcp sl) = some ⟨sl, 1, 1, 12, slotVrcp⟩ := rfl
@[simp] theorem slotOf_vrsqrt (sl : Slot) : slotOf (.vrsqrt sl) = some ⟨sl, 1, 1, 12, slotVrsqrt⟩ := rfl
@[simp] theorem slotOf_viadd (sl : Slot) : slotOf (.viadd sl) = some ⟨sl, 1, 1, 14, slotViadd⟩ := rfl
@[simp] theorem slotOf_visub (sl : Slot) : slotOf (.visub sl) = some ⟨sl, 1, 1, 14, slotVisub⟩ := rfl
@[simp] theorem slotOf_vimul (sl : Slot) : slotOf (.vimul sl) = some ⟨sl, 1, 1, 14, slotVimul⟩ := rfl
@[simp] theorem slotOf_vand (sl : Slot) : slotOf (.vand sl) = some ⟨sl, 1, 1, 14, slotVand⟩ := rfl
@[simp] theorem slotOf_vor (sl : Slot) : slotOf (.vor sl) = some ⟨sl, 1, 1, 14, slotVor⟩ := rfl
@[simp] theorem slotOf_vxor (sl : Slot) : slotOf (.vxor sl) = some ⟨sl, 1, 1, 14, slotVxor⟩ := rfl
@[simp] theorem slotOf_vshl (sl : Slot) : slotOf (.vshl sl) = some ⟨sl, 1, 1, 14, slotVshl⟩ := rfl
@[simp] theorem slotOf_vshr (sl : Slot) : slotOf (.vshr sl) = some ⟨sl, 1, 1, 14, slotVshr⟩ := rfl
@[simp] theorem slotOf_vsra (sl : Slot) : slotOf (.vsra sl) = some ⟨sl, 1, 1, 14, slotVsra⟩ := rfl
@[simp] theorem slotOf_vcmpeq (sl : Slot) : slotOf (.vcmpeq sl) = some ⟨sl, 1, 1, 14, slotVcmpeq⟩ := rfl
@[simp] theorem slotOf_vcmplt (sl : Slot) : slotOf (.vcmplt sl) = some ⟨sl, 1, 1, 14, slotVcmplt⟩ := rfl
@[simp] theorem slotOf_vcmple (sl : Slot) : slotOf (.vcmple sl) = some ⟨sl, 1, 1, 14, slotVcmple⟩ := rfl
@[simp] theorem slotOf_vsel (sl : Slot) : slotOf (.vsel sl) = some ⟨sl, 1, 1, 15, slotVsel⟩ := rfl
@[simp] theorem slotOf_vbcast (sl : Slot) : slotOf (.vbcast sl) = some ⟨sl, 1, 1, 12, slotVbcast⟩ := rfl
@[simp] theorem slotOf_vperm (sl : Slot) : slotOf (.vperm sl) = some ⟨sl, 1, 1, 14, slotVperm⟩ := rfl
@[simp] theorem slotOf_vshiftl (sl : Slot) : slotOf (.vshiftl sl) = some ⟨sl, 1, 1, 13, slotVshiftl⟩ := rfl
@[simp] theorem slotOf_vredadd (sl : Slot) : slotOf (.vredadd sl) = some ⟨sl, 1, 1, 12, slotVredadd⟩ := rfl
@[simp] theorem slotOf_vredmax (sl : Slot) : slotOf (.vredmax sl) = some ⟨sl, 1, 1, 12, slotVredmax⟩ := rfl
@[simp] theorem slotOf_vcvt (sl : Slot) : slotOf (.vcvt sl) = some ⟨sl, 1, 1, 13, slotVcvt⟩ := rfl
@[simp] theorem slotOf_vcvtmx (sl : Slot) : slotOf (.vcvtmx sl) = some ⟨sl, 1, 1, 13, slotVcvtmx⟩ := rfl
@[simp] theorem slotOf_vld (sl : Slot) : slotOf (.vld sl) = some ⟨sl, 1, 1, 13, slotVld⟩ := rfl
@[simp] theorem slotOf_vst (sl : Slot) : slotOf (.vst sl) = some ⟨sl, 1, 1, 13, slotVst⟩ := rfl
@[simp] theorem slotOf_vstp (sl : Slot) : slotOf (.vstp sl) = some ⟨sl, 1, 1, 15, slotVstp⟩ := rfl
@[simp] theorem slotOf_vgather (sl : Slot) : slotOf (.vgather sl) = some ⟨sl, 1, 1, 14, slotVgather⟩ := rfl
@[simp] theorem slotOf_mdset (sl : Slot) : slotOf (.mdset sl) = some ⟨sl, 2, 2, 12, slotMdset⟩ := rfl
@[simp] theorem slotOf_mzero (sl : Slot) : slotOf (.mzero sl) = some ⟨sl, 2, 2, 9, slotMzero⟩ := rfl
@[simp] theorem slotOf_mma (sl : Slot) : slotOf (.mma sl) = some ⟨sl, 2, 2, 15, slotMma⟩ := rfl
@[simp] theorem slotOf_mmas (sl : Slot) : slotOf (.mmas sl) = some ⟨sl, 2, 2, 15, slotMmas⟩ := rfl
@[simp] theorem slotOf_mload (sl : Slot) : slotOf (.mload sl) = some ⟨sl, 2, 2, 13, slotMload⟩ := rfl
@[simp] theorem slotOf_mstore (sl : Slot) : slotOf (.mstore sl) = some ⟨sl, 2, 2, 13, slotMstore⟩ := rfl
@[simp] theorem slotOf_mov (sl : Slot) : slotOf (.mov sl) = some ⟨sl, 3, 3, 15, slotMov⟩ := rfl
@[simp] theorem slotOf_mov2d (sl : Slot) : slotOf (.mov2d sl) = some ⟨sl, 3, 3, 15, slotMov2d⟩ := rfl
@[simp] theorem slotOf_mfill (sl : Slot) : slotOf (.mfill sl) = some ⟨sl, 3, 3, 15, slotMfill⟩ := rfl
@[simp] theorem slotOf_send (sl : Slot) : slotOf (.send sl) = some ⟨sl, 3, 4, 15, slotSend⟩ := rfl
@[simp] theorem slotOf_signal (sl : Slot) : slotOf (.signal sl) = some ⟨sl, 3, 4, 13, slotSignal⟩ := rfl
@[simp] theorem slotOf_recv (sl : Slot) : slotOf (.recv sl) = some ⟨sl, 3, 4, 15, slotRecv⟩ := rfl
@[simp] theorem slotOf_hwrite (sl : Slot) : slotOf (.hwrite sl) = some ⟨sl, 3, 4, 5, slotHwrite⟩ := rfl
@[simp] theorem slotOf_hsend (sl : Slot) : slotOf (.hsend sl) = some ⟨sl, 3, 4, 5, slotHsend⟩ := rfl
@[simp] theorem slotOf_coll (sl : Slot) : slotOf (.coll sl) = some ⟨sl, 3, 4, 5, slotColl⟩ := rfl
@[simp] theorem slotOf_gissue (sl : Slot) : slotOf (.gissue sl) = some ⟨sl, 3, 5, 7, slotGissue⟩ := rfl
@[simp] theorem slotOf_phint (sl : Slot) : slotOf (.phint sl) = some ⟨sl, 3, 3, 7, slotPhint⟩ := rfl

end Sys2Proof.Machine
end

