-- ==== Sys2Proof/Laws/Slots.lean ====
section
/-! SUPPORT. Laws/Slots.lean: what the one slot of a bundle does: registers written, effects, faults, waiting, branches. -/
namespace Sys2Proof.Machine

@[simp] theorem coreOf_modCore (c j : Nat) (f : CoreSt → CoreSt) (w : Work) :
    coreOf (modCore c f w).hw j = if j = c then f (coreOf w.hw c) else coreOf w.hw j := by
  simp [coreOf, modCore, Work.up, tabGet_tabMod]

@[simp] theorem modCore_modCore (c : Nat) (f g : CoreSt → CoreSt) (w : Work) :
    modCore c g (modCore c f w) = modCore c (fun x => g (f x)) w := by
  simp [modCore, Work.up]


/-- The bundle of a core after the one slot `i`: the core as the slot sees it. -/
def given (i : Instr) (core : Nat) (w : Work) : Work := modCore core (fun c => { c with bundle := [i] }) w

/-- Whether a cycle is vector-enabled does not depend on the bundle. -/
@[simp] theorem vectorEnables_given (i : Instr) (c : Nat) (w : Work) : vectorEnables (given i c w).hw c = vectorEnables w.hw c := by
  have hc : coreOf (given i c w).hw c = { coreOf w.hw c with bundle := [i] } := by simp [given]
  have hn : cyclesNow (given i c w).hw c = cyclesNow w.hw c := by
    simp only [cyclesNow]; rfl
  have hr : vectorIssueRate (given i c w).hw c = vectorIssueRate w.hw c := by
    simp only [vectorIssueRate, hc, hn]; rfl
  simp only [vectorEnables, hn, hr]

/-- The one slot of a bundle: it waits, or faults, or acts and the core goes on to the next bundle. -/
theorem giveSlot_sole (i : Instr) (info : SlotInfo) (w : Work) (hi : slotOf i = some info) (h : Sole w.hw info.sl)
    (hl : bundleLegal [i] = true) (he : SlotEnabled w.hw info) :
    giveSlot i w =
      (let core := info.sl.core.toNat
       let out := info.act (given i core w) info.sl
       if out.hold != .none then modCore core (fun c => { c with bundle := [i], hold := out.hold }) w
       else match firstFault [(info, out)] with
         | some (unit, code, addr) => coreFault core code unit (coreOf w.hw core).r.pc addr false (cleared core w)
         | none => nextBundle core out.jump out.skip (out.effect (cleared core w))) := by
  obtain ⟨h1, h2, h3⟩ := h
  have hf : [i].filterMap slotOf = [info] := by simp [hi]
  have hs : sortBy (fun s : SlotInfo => s.place) [info] = [info] := rfl
  have hg : modCore info.sl.core.toNat (fun c => { c with bundle := c.bundle ++ [i] }) w = given i info.sl.core.toNat w := by
    simp only [given, modCore, Work.up, tabMod]
    have : tabGet {} w.hw.cores info.sl.core.toNat = coreOf w.hw info.sl.core.toNat := rfl
    rw [this, h3]; rfl
  have hb : (coreOf (given i info.sl.core.toNat w).hw info.sl.core.toNat).bundle = [i] := by simp [given]
  have hc : modCore info.sl.core.toNat (fun c => { c with bundle := [], hold := .none }) (given i info.sl.core.toNat w)
      = cleared info.sl.core.toNat w := by simp [given, cleared]
  have hp : (coreOf (given i info.sl.core.toNat w).hw info.sl.core.toNat).r.pc = (coreOf w.hw info.sl.core.toNat).r.pc := by
    simp [given]
  unfold giveSlot
  simp only [hi, h1, h2, Bool.not_true, Bool.false_eq_true, if_false, hg]
  unfold runBundle
  simp only [hb, hl, List.isEmpty_cons, Bool.not_true, Bool.false_eq_true, if_false, hf, hs, List.map_cons, List.map_nil, hc, hp]
  by_cases hh : (info.act (given i info.sl.core.toNat w) info.sl).hold != .none
  · simp only [List.find?_cons, hh, if_true]
    simp [given]
  · have hh' : ((info.act (given i info.sl.core.toNat w) info.sl).hold != .none) = false := by simpa using hh
    have hv : (([info].any fun s => s.place == 1) && !vectorEnables (given i info.sl.core.toNat w).hw info.sl.core.toNat) = false := by
      rw [vectorEnables_given]; rcases he with he | he <;> simp [he]
    simp only [List.find?_cons, hh', List.find?_nil, Bool.false_eq_true, if_false, List.foldl_cons, List.foldl_nil, firstSome, hv]
    cases firstFault [(info, info.act (given i info.sl.core.toNat w) info.sl)] with
    | some x => rfl
    | none =>
      simp only
      cases (info.act (given i info.sl.core.toNat w) info.sl).jump <;>
        cases (info.act (given i info.sl.core.toNat w) info.sl).skip <;> rfl

/-- Issue goes on past a bundle that does not branch. -/
theorem nextBundle_on (core : Nat) (w : Work)
    (h : (afterBundle (coreOf w.hw core).r.pc (coreOf w.hw core).r.loops).1 < (coreOf w.hw core).bundles) :
    nextBundle core none none w = goOn core w := by
  unfold nextBundle goOn
  simp only [Option.getD_none]
  rw [if_neg (by simp; omega)]
  unfold modCore Work.up tabMod
  rfl

/-- The one slot of a bundle that acts, without fault, wait or branch. -/
theorem giveSlot_acts (i : Instr) (info : SlotInfo) (w : Work) (g : Work → Work) (hi : slotOf i = some info)
    (h : Sole w.hw info.sl) (hl : bundleLegal [i] = true) (he : SlotEnabled w.hw info)
    (ho : info.act (given i info.sl.core.toNat w) info.sl = { effect := g })
    (hgo : (afterBundle (coreOf (g (cleared info.sl.core.toNat w)).hw info.sl.core.toNat).r.pc
        (coreOf (g (cleared info.sl.core.toNat w)).hw info.sl.core.toNat).r.loops).1
      < (coreOf (g (cleared info.sl.core.toNat w)).hw info.sl.core.toNat).bundles) :
    giveSlot i w = issued info.sl.core.toNat g w := by
  rw [giveSlot_sole i info w hi h hl he]
  simp only [ho, firstFault, firstSome]
  exact nextBundle_on _ _ hgo

/-- The one slot of a bundle that sets registers. -/
theorem giveSlot_regs (i : Instr) (info : SlotInfo) (w : Work) (f : CoreRegs → CoreRegs) (hi : slotOf i = some info)
    (h : Sole w.hw info.sl) (hl : bundleLegal [i] = true) (he : SlotEnabled w.hw info)
    (ho : info.act (given i info.sl.core.toNat w) info.sl = regs info.sl.core.toNat f)
    (hf : ∀ r, (f r).pc = r.pc ∧ (f r).loops = r.loops)
    (hgo : (afterBundle (coreOf w.hw info.sl.core.toNat).r.pc (coreOf w.hw info.sl.core.toNat).r.loops).1
      < (coreOf w.hw info.sl.core.toNat).bundles) :
    giveSlot i w = issued info.sl.core.toNat (setRegs info.sl.core.toNat f) w := by
  refine giveSlot_acts i info w _ hi h hl he ho ?_
  simp only [cleared, setRegs, coreOf_modCore, if_true, hf]
  exact hgo

/-- The one slot of a bundle that raises a synchronous fault. -/
theorem giveSlot_faults (i : Instr) (info : SlotInfo) (w : Work) (code addr : Nat) (hi : slotOf i = some info)
    (h : Sole w.hw info.sl) (hl : bundleLegal [i] = true) (he : SlotEnabled w.hw info) (out : SlotOut)
    (ho : info.act (given i info.sl.core.toNat w) info.sl = out) (hh : out.hold = .none) (hfs : out.faults = [(code, addr)]) :
    giveSlot i w = coreFault info.sl.core.toNat code info.unit (coreOf w.hw info.sl.core.toNat).r.pc addr false
      (cleared info.sl.core.toNat w) := by
  rw [giveSlot_sole i info w hi h hl he]
  simp [ho, hh, firstFault, firstSome, hfs]

/-- The one slot of a bundle that waits. -/
theorem giveSlot_holds (i : Instr) (info : SlotInfo) (w : Work) (hd : Hold) (hi : slotOf i = some info)
    (h : Sole w.hw info.sl) (hl : bundleLegal [i] = true) (he : SlotEnabled w.hw info) (out : SlotOut)
    (ho : info.act (given i info.sl.core.toNat w) info.sl = out) (hh : out.hold = hd) (hn : hd ≠ .none) :
    giveSlot i w = modCore info.sl.core.toNat (fun c => { c with bundle := [i], hold := hd }) w := by
  rw [giveSlot_sole i info w hi h hl he]
  have : (hd != Hold.none) = true := by simpa using hn
  simp [ho, hh, this]

/-- The one slot of a bundle that branches. -/
theorem giveSlot_branches (i : Instr) (info : SlotInfo) (w : Work) (g : Work → Work) (t : Nat) (hi : slotOf i = some info)
    (h : Sole w.hw info.sl) (hl : bundleLegal [i] = true) (he : SlotEnabled w.hw info)
    (ho : info.act (given i info.sl.core.toNat w) info.sl = { effect := g, jump := some t }) :
    giveSlot i w = branched info.sl.core.toNat t g w := by
  rw [giveSlot_sole i info w hi h hl he]
  simp [ho, firstFault, firstSome, nextBundle, branched]

@[simp] theorem coreOf_given (i : Instr) (c : Nat) (w : Work) :
    coreOf (given i c w).hw c = { coreOf w.hw c with bundle := [i] } := by simp [given]

@[simp] theorem coreOf_beginWork (s : State) (c : Nat) : coreOf (beginWork s).hw c = coreOf s.hw c := rfl

/-- Only the core of the slot differs where the slot sees the module. -/
@[simp] theorem given_base (i : Instr) (c : Nat) (w : Work) : (given i c w).base = w.base := rfl
@[simp] theorem given_log (i : Instr) (c : Nat) (w : Work) : (given i c w).log = w.log := rfl

/-- A slot that a core takes at the start of a command. -/
theorem sole_beginWork (s : State) (sl : Slot) (h : Sole s.hw sl) : Sole (beginWork s).hw sl := ⟨h.takes, h.last, h.first⟩

/-- Setting a scalar register leaves the program counter and the loop stack. -/
theorem setS_keeps (r : CoreRegs) (i v : Nat) : (setS r i v).pc = r.pc ∧ (setS r i v).loops = r.loops := by
  unfold setS; split <;> exact ⟨rfl, rfl⟩

/-- The one slot of a bundle, neither `LI` nor `END`, is legal where the fields it does not use are zero. -/
theorem bundleLegal_sole (i : Instr) (info : SlotInfo) (hi : slotOf i = some info) (h1 : isLi i = false) (h2 : isEndSlot i = false)
    (hf : fieldsClean info = true) : bundleLegal [i] = true := by
  simp [bundleLegal, hi, noRepeats, hf, h1, h2]

/-- A register slot that stands alone answers with its registers set. -/
theorem answers_regs (i : Instr) (info : SlotInfo) (s : State) (f : CoreRegs → CoreRegs) (hc : exec i s = run s (giveSlot i))
    (hi : slotOf i = some info) (h : Sole s.hw info.sl) (hl : bundleLegal [i] = true)
    (he : SlotEnabled s.hw info) (ho : info.act (given i info.sl.core.toNat (beginWork s)) info.sl = regs info.sl.core.toNat f)
    (hf : ∀ r, (f r).pc = r.pc ∧ (f r).loops = r.loops) (hgo : GoesOn s info.sl) :
    AnswersWith i s (issued info.sl.core.toNat (setRegs info.sl.core.toNat f) (beginWork s)) :=
  answersWith_run i s _ _ hc (giveSlot_regs i info _ f hi (sole_beginWork s _ h) hl he ho hf hgo)

end Sys2Proof.Machine
end

