-- ==== Sys2Proof/WellFormed.lean ====
section
/-! DEFINITION. WellFormed.lean: what a far side can bring: lengths of payloads, records and frames. -/
namespace Sys2Proof

open Sys2Proof.Machine (noRepeats)

/-- The payload of a `WINDOW_CTRL` flit: 1 to 15 records of 16 B (R297). -/
def recordsOk (b : List Byte) : Bool := b.length % 16 == 0 && 16 ≤ b.length && b.length ≤ 240

/-- A command whose operands a far side can bring: a flit carries 1 to 240 payload bytes (R256), a `WINDOW_CTRL` flit 1 to 15 records of 16 bytes
(R297), a management frame at most 1,024 bytes (R345), a sample names each hot spot once (R449). -/
def Instr.wf (i : Instr) : Bool :=
  match i with
  | .frameTick _ => true
  | .frameDeadline => true
  | .frameComplete _ => true
  | .timeSourceLost _ => true
  | .holdoverExpiry => true
  | .add _ => true
  | .sub _ => true
  | .mul _ => true
  | .and _ => true
  | .or _ => true
  | .xor _ => true
  | .shl _ => true
  | .shr _ => true
  | .sra _ => true
  | .min _ => true
  | .max _ => true
  | .slt _ => true
  | .sltu _ => true
  | .addi _ => true
  | .andi _ => true
  | .ori _ => true
  | .xori _ => true
  | .shli _ => true
  | .shri _ => true
  | .srai _ => true
  | .slti _ => true
  | .li _ _ => true
  | .ld8 _ => true
  | .ld16 _ => true
  | .ld32 _ => true
  | .ld64 _ => true
  | .st8 _ => true
  | .st16 _ => true
  | .st32 _ => true
  | .st64 _ => true
  | .br _ => true
  | .call _ => true
  | .ret _ => true
  | .beq _ => true
  | .bne _ => true
  | .blt _ => true
  | .bge _ => true
  | .loop _ => true
  | .wait _ => true
  | .waiti _ => true
  | .waitSatisfied _ => true
  | .wcadd _ => true
  | .wcread _ => true
  | .time _ => true
  | .cyc _ => true
  | .tick _ => true
  | .csrr _ => true
  | .csrw _ => true
  | .markb _ => true
  | .marke _ => true
  | .markp _ => true
  | .endFrame _ => true
  | .vadd _ => true
  | .vsub _ => true
  | .vmul _ => true
  | .vfma _ => true
  | .vmin _ => true
  | .vmax _ => true
  | .vabs _ => true
  | .vneg _ => true
  | .vexp2 _ => true
  | .vlog2 _ => true
  | .vrcp _ => true
  | .vrsqrt _ => true
  | .viadd _ => true
  | .visub _ => true
  | .vimul _ => true
  | .vand _ => true
  | .vor _ => true
  | .vxor _ => true
  | .vshl _ => true
  | .vshr _ => true
  | .vsra _ => true
  | .vcmpeq _ => true
  | .vcmplt _ => true
  | .vcmple _ => true
  | .vsel _ => true
  | .vbcast _ => true
  | .vperm _ => true
  | .vshiftl _ => true
  | .vredadd _ => true
  | .vredmax _ => true
  | .vcvt _ => true
  | .vcvtmx _ => true
  | .vld _ => true
  | .vst _ => true
  | .vstp _ => true
  | .vgather _ => true
  | .mdset _ => true
  | .mzero _ => true
  | .mma _ => true
  | .mmas _ => true
  | .mload _ => true
  | .mstore _ => true
  | .matrixOperationBegin _ _ => true
  | .streamPieceBegin _ => true
  | .matrixOperationComplete _ _ => true
  | .mov _ => true
  | .mov2d _ => true
  | .mfill _ => true
  | .moveComplete _ _ => true
  | .send _ => true
  | .signal _ => true
  | .recv _ => true
  | .hwrite _ => true
  | .hsend _ => true
  | .coll _ => true
  | .allReduce _ => true
  | .reduceScatter _ => true
  | .allGather _ => true
  | .allToAll _ => true
  | .broadcast _ => true
  | .gissue _ => true
  | .phint _ => true
  | .phintAccept _ => true
  | .placement _ => true
  | .journalDrain _ => true
  | .flushEnd => true
  | .flushDeadline => true
  | .gatherPool _ => true
  | .scoreSelect _ => true
  | .pack _ => true
  | .rowUpdate _ => true
  | .checksum _ => true
  | .copy _ => true
  | .fill _ => true
  | .credit _ _ _ => true
  | .nak _ _ _ => true
  | .downRequest _ _ => true
  | .replayTimeout _ => true
  | .replayExhausted _ => true
  | .lockLost _ => true
  | .detect _ _ => true
  | .train _ _ => true
  | .align _ _ _ => true
  | .linkInit _ payload => payload.length == 64
  | .trainingRetry _ => true
  | .laneRetrain _ _ _ _ => true
  | .portHoldExpiry _ => true
  | .timeExchange _ => true
  | .timeRequest _ payload => (0 < payload.length && payload.length ≤ 240)
  | .timeResponse _ payload => (0 < payload.length && payload.length ≤ 240)
  | .msgSend _ payload => (0 < payload.length && payload.length ≤ 240)
  | .msgSignal _ payload => (0 < payload.length && payload.length ≤ 240)
  | .msgAnswer _ payload => (0 < payload.length && payload.length ≤ 240)
  | .ackTimeout _ _ => true
  | .packageFabricTransfer _ => true
  | .fabricResend _ => true
  | .collReduce _ payload => (0 < payload.length && payload.length ≤ 240)
  | .collGather _ payload => (0 < payload.length && payload.length ≤ 240)
  | .advertise _ record => recordsOk record
  | .grant _ record => recordsOk record
  | .abort _ record => recordsOk record
  | .absent _ record => recordsOk record
  | .floorNotice _ record => recordsOk record
  | .audit _ record => recordsOk record
  | .mgmt _ payload => (0 < payload.length && payload.length ≤ 240)
  | .trace _ payload => (0 < payload.length && payload.length ≤ 240)
  | .hello _ payload => (0 < payload.length && payload.length ≤ 240)
  | .granule _ payload => (0 < payload.length && payload.length ≤ 240)
  | .page _ payload => (0 < payload.length && payload.length ≤ 240)
  | .frameEnd _ payload => (0 < payload.length && payload.length ≤ 240)
  | .commit _ => true
  | .ack _ payload => (0 < payload.length && payload.length ≤ 240)
  | .resend _ payload => (0 < payload.length && payload.length ≤ 240)
  | .mirrorResendTimeout _ _ => true
  | .release _ payload => (0 < payload.length && payload.length ≤ 240)
  | .partnerLost _ => true
  | .leaseExpiry _ => true
  | .takeover _ => true
  | .rdmaWrite _ _ _ _ data _ _ => data.length < 2 ^ 31
  | .rdmaRead _ _ _ _ _ _ => true
  | .rdmaSend _ _ data _ _ => data.length < 2 ^ 31
  | .seal _ _ _ _ _ _ => true
  | .rdmaAck _ _ _ _ => true
  | .qpRetryExhausted _ => true
  | .cnp _ => true
  | .tAlpha _ => true
  | .tInc _ => true
  | .pfcPause _ _ _ => true
  | .ptp _ _ => true
  | .lldp _ _ _ => true
  | .lldpSend _ => true
  | .arpRequest _ _ _ => true
  | .ethFrameDiscard _ _ => true
  | .ethLinkDown _ => true
  | .mgmtWrite _ _ _ _ _ data => data.length ≤ 1024
  | .mgmtRead _ _ _ _ _ => true
  | .heartbeat _ => true
  | .heartbeatSend => true
  | .lease _ => true
  | .seatAssign _ => true
  | .coolant _ => true
  | .alert _ => true
  | .wake _ => true
  | .tickMarker _ _ => true
  | .belfryFrameForward _ _ _ => true
  | .markerLost => true
  | .markerMismatch => true
  | .masterless => true
  | .orphan => true
  | .coolantAssumed => true
  | .vrAlertN _ => true
  | .vrAlertEnd => true
  | .regulatorAlert => true
  | .supplyWarning _ => true
  | .supplyGlitch _ => true
  | .supplyRecovery _ => true
  | .supplyReset _ _ => true
  | .overVoltageReset _ => true
  | .droop _ _ => true
  | .droopLong _ => true
  | .thermalSample spots => noRepeats (spots.map (fun x => x.spot.val))
  | .sensorPair _ => true
  | .thermalEmergency _ => true
  | .thermalTrip _ => true
  | .orderlyHalt => true
  | .suddenCoolantLoss => true
  | .domainRemoval => true
  | .pwrEnAssert => true
  | .aonPowerOn => true
  | .pwrEnDeassert => true
  | .aonPowerLoss => true
  | .lanternReady => true
  | .turretWatchdog => true
  | .keepLockstep => true
  | .collectorCheck => true
  | .marginReview _ _ => true
  | .scrub _ _ => true
  | .domainReturn _ _ _ => true
  | .domainDeadline _ _ => true
  | .start _ _ _ _ => true
  | .cupola _ _ _ _ => true
  | .spires _ _ _ _ => true
  | .coreFetch _ => true
  | .memoryTest _ => true
  | .links _ => true
  | .startLimit => true
  | .registerWrite _ _ _ => true
  | .nop _ _ => true
  | .channelOpen _ _ => true
  | .channelClose _ _ => true
  | .outboxSet _ _ => true
  | .ethPortSet _ _ => true
  | .ethAddrSet _ _ => true
  | .ethCongSet _ _ => true
  | .ptpSet _ _ => true
  | .ethStatus _ _ => true
  | .qpCreate _ _ => true
  | .qpConnect _ _ => true
  | .qpDestroy _ _ => true
  | .qpStatus _ _ => true
  | .regionRegister _ _ => true
  | .regionRelease _ _ => true
  | .planAdmit _ _ => true
  | .planRelease _ _ => true
  | .planList _ _ => true
  | .ctxStatusRead _ _ => true
  | .coreFaultRead _ _ => true
  | .overrunRead _ _ => true
  | .tickPeriodSet _ _ => true
  | .timeRoleSet _ _ => true
  | .timeRead _ _ => true
  | .floorSet _ _ => true
  | .partitionSet _ _ => true
  | .objectCreate _ _ => true
  | .objectDelete _ _ => true
  | .objectRead _ _ => true
  | .objectWrite _ _ => true
  | .objectStatus _ _ => true
  | .journalFlush _ _ => true
  | .pagerRead _ _ => true
  | .groupRead _ _ => true
  | .plinkSet _ _ => true
  | .plinkArbSet _ _ => true
  | .plinkRead _ _ => true
  | .counterRead _ _ => true
  | .traceSet _ _ => true
  | .traceRead _ _ => true
  | .stippleSet _ _ => true
  | .stippleRead _ _ => true
  | .faultHistoryRead _ _ => true
  | .faultReactionSet _ _ => true
  | .domainReset _ _ => true
  | .moduleReset _ _ => true
  | .hangSet _ _ => true
  | .powerRequest _ _ => true
  | .powerOrder _ _ => true
  | .orphanCapSet _ _ => true
  | .powerRead _ _ => true
  | .ageingRead _ _ => true
  | .pairSet _ _ => true
  | .leaseGrant _ _ => true
  | .switchOver _ _ => true
  | .mirrorWindowSet _ _ => true
  | .pairRead _ _ => true
  | .attest _ _ => true
  | .imageUpdate _ _ => true
  | .serviceMode _ _ => true
  | .keyEnrol _ _ => true
  | .topologySet _ _ => true
  | .stateRead _ _ => true
  | .flitCrcFailed _ => true
  | .badFlits _ _ _ _ => true
  | .linkInitSend _ => true
  | .lastFlitLeaves _ _ => true
  | .ethLinkUp _ => true
  | .qpAckTimeout _ => true
  | .mgmtPortDown => true
  | .mgmtPortUp => true
  | .droopEnd _ _ => true
  | .thermalTripRelease => true
  | .standbyResume _ => true
  | .registerParity _ _ => true
  | .mirrorCopyComplete _ => true
  | .objectCopyDone _ _ _ => true
  | .bundleWriteDone _ => true

end Sys2Proof
end

