-- ==== Sys2Proof/Tests/Slice0.lean ====
section
/-! SUPPORT. Tests/Slice0.lean: the author's own tests: what the checks of `Instr.wf` refuse, single steps and values worked from the spec, and for every statement with hypotheses a state and operands that meet them. -/
namespace Sys2Proof.Tests

-- the tests are checked one after another: the memory of the check does not hold many at once
set_option Elab.async false

open Sys2Proof Sys2Proof.Machine

/-! ## Small states -/

/-- A slot of core 0, the last of its bundle, every field zero. -/
def z : Slot := ⟨0, false, 0, 0, 0, 0⟩

/-- A powered and ready module. -/
def live : Hw := {
  power := { aon := true, cupola := true, spireOn := [0, 1, 2, 3] }
  keep := { ready := true, lpUp := true, mapBuilt := true, turretUp := true, spiresUp := true, linked := true }
  lantern := { up := true, bypassOpen := true } }

/-- A state of that module: memory as given, nothing waiting. -/
def st (hw : Hw) (mem : Mem := []) : State := ⟨hw, mem, []⟩

/-- A core that takes slots of a program of 10 bundles. -/
def runs (c : CoreSt) : CoreSt := { c with ctx := 1, running := true, bundles := 10 }

/-- A state in which core 0 takes slots. -/
def busy (c : CoreSt) (mem : Mem := []) : State := st { live with cores := [(0, runs c)] } mem

/-- Core 0 with scalar registers. -/
def regs (s : Tab W64) : CoreSt := { r := { s := s } }

/-- A check of the fields of `Sole`. -/
theorem sole_of {h : Hw} {sl : Slot}
    (p : (issues h sl.core.toNat && !sl.more && (coreOf h sl.core.toNat).bundle.isEmpty) = true) : Sole h sl := by
  simp only [Bool.and_eq_true, Bool.not_eq_true', List.isEmpty_iff] at p
  exact ⟨p.1.1, p.1.2, p.2⟩

/-- Every slot of a list is the one slot of a bundle of its core. -/
theorem soles (l : List (Hw × Slot))
    (p : (l.all (fun x => issues x.1 x.2.core.toNat && !x.2.more && (coreOf x.1 x.2.core.toNat).bundle.isEmpty)) = true) :
    ∀ x ∈ l, Sole x.1 x.2 := fun x hx => sole_of (List.all_eq_true.mp p x hx)

/-- A check of `GoesOn`. -/
theorem goes_of {s : State} {sl : Slot}
    (p : decide ((afterBundle (rOf s sl).pc (rOf s sl).loops).1 < (coreOf s.hw sl.core.toNat).bundles) = true) : GoesOn s sl := by
  unfold GoesOn
  exact of_decide_eq_true p

/-- Issue goes on after every slot of a list. -/
theorem going (l : List (State × Slot))
    (p : (l.all (fun x => decide ((afterBundle (rOf x.1 x.2).pc (rOf x.1 x.2).loops).1 < (coreOf x.1.hw x.2.core.toNat).bundles))) = true) :
    ∀ x ∈ l, GoesOn x.1 x.2 := fun x hx => goes_of (List.all_eq_true.mp p x hx)

/-- What a next state shows. -/
def after {β : Type} (o : Host.Outcome State Fault Refusal) (f : State → β) : Option β :=
  match o with
  | .next t => some (f t)
  | _ => none

/-- The outcome is the stop of R6. -/
def stops (o : Host.Outcome State Fault Refusal) : Bool :=
  match o with
  | .fault .beyondRatings => true
  | _ => false

/-- A check of the fields of `InOrder`. -/
def fits (x : Hw × Rx × Nat) : Bool :=
  let port := portOf x.1 x.2.1.port.val
  port.state == .active && x.2.1.seq.toNat == port.expected && decide (tabGet 0 port.stored x.2.2 < (receiveBuffers[x.2.2 - 1]?).getD 0)

/-- Every flit of a list is the next of its port, with room for it. -/
theorem inOrders (l : List (Hw × Rx × Nat)) (p : l.all fits = true) : ∀ x ∈ l, InOrder x.1 x.2.1 x.2.2 := by
  intro x hx
  have q := List.all_eq_true.mp p x hx
  simp only [fits, Bool.and_eq_true, beq_iff_eq, decide_eq_true_eq] at q
  exact ⟨q.1.1, q.1.2, q.2⟩


/-! ## What `Instr.wf` refuses -/

theorem wf_init_length : (Instr.linkInit 0 (zeros 64)).wf = true ∧ (Instr.linkInit 0 (zeros 63)).wf = false := by decide +kernel
theorem wf_payload_empty : (Instr.msgSend default (zeros 240)).wf = true ∧ (Instr.msgSend default []).wf = false ∧ (Instr.mgmt default []).wf = false := by decide +kernel
theorem wf_payload_long : ∀ i ∈ [Instr.msgSignal default (zeros 241), .msgAnswer default (zeros 241), .collReduce default (zeros 241), .collGather default (zeros 241),
    .timeRequest default (zeros 241), .timeResponse default (zeros 241), .trace default (zeros 241), .hello default (zeros 241), .granule default (zeros 241),
    .page default (zeros 241), .frameEnd default (zeros 241), .ack default (zeros 241), .resend default (zeros 241), .release default (zeros 241)],
    i.wf = false := by decide +kernel
theorem wf_record_length : (Instr.audit default (zeros 240)).wf = true ∧ ∀ i ∈ [Instr.advertise default (zeros 15), .grant default (zeros 17),
    .abort default [], .absent default (zeros 256), .floorNotice default (zeros 15), .audit default (zeros 241)], i.wf = false := by decide +kernel
theorem wf_rdma_length (data : List Byte) (h : data.length = 2 ^ 31) :
    (Instr.rdmaWrite 0 0 0 0 data false).wf = false ∧ (Instr.rdmaSend 0 0 data none false).wf = false := by
  simp [Instr.wf, h]
theorem wf_mgmt_length : (Instr.mgmtWrite 16 0 0 0 0 (zeros 1024)).wf = true ∧ (Instr.mgmtWrite 16 0 0 0 0 (zeros 1025)).wf = false := by decide +kernel
theorem wf_sample_repeats : (Instr.thermalSample [⟨3, 0, 0⟩, ⟨4, 0, 0⟩]).wf = true ∧ (Instr.thermalSample [⟨3, 0, 0⟩, ⟨3, 1, 1⟩]).wf = false := by decide +kernel
theorem test_table_gives_no_bits : decodeTableWord 64 0 = none := rfl

/-! ## The machine -/

theorem witness_StepRunsFrontCommand : ({ State.reset with pending := [.flushEnd] } : State).pending = .flushEnd :: [] := rfl

/-- Core 0 at bundle 0 of a program whose first word is as given, nothing waiting. -/
def stored (word : List Byte) : State := busy {} (memPut [] (storeKey 0 0) word)

theorem witness_QueueAndIdleStep : (∃ t, exec .flushEnd State.reset = .next t)
    ∧ (State.reset.pending = [] ∧ coresAct (idle State.reset.hw) = false ∧ noticesDue (idle State.reset.hw) = false)
    ∧ 2 ^ 5 / 2 ^ 5 % 8 ≠ 0 ∧ (2 ^ 8 % 2 = 0 ∧ 2 ^ 8 / 2 ^ 4 % 2 = 0 ∧ 2 ^ 8 / 2 ^ 8 % 2 ^ 30 ≠ 0)
    ∧ ((1 + 2 ^ 8 * 0x3E) % 2 = 1 ∧ (1 + 2 ^ 8 * 0x3E) / 2 ^ 4 % 2 = 0 ∧ ∀ sl, scalarCode sl ((1 + 2 ^ 8 * 0x3E) / 2 ^ 8 % 64) = none)
    ∧ (∀ w ∈ [[0xE0], [0x01, 0xC1, 0x08, 0x02]], (stored w).pending = [] ∧ noticesDue (idle (stored w).hw) = false
        ∧ issuingCores (idle (stored w).hw) = [0] ∧ (beginWork (stored w)).good (bundleKey (idle (stored w).hw) 0) 16 = true)
    ∧ decodeBundle 0 ((beginWork (stored [0xE0])).num (storeKey 0 0) 16) = none
    ∧ decodeBundle 0 ((beginWork (stored [0x01, 0xC1, 0x08, 0x02])).num (storeKey 0 0) 16) = some [.add { z with d := 3, a := 1, b := 2 }]
    ∧ Sole (idle (stored [0x01, 0xC1, 0x08, 0x02]).hw) { z with d := 3, a := 1, b := 2 } := by
  refine ⟨⟨_, rfl⟩, by decide +kernel, by decide, by decide, ⟨by decide, by decide, fun _ => rfl⟩, ?_, ?_, ?_, sole_of ?_⟩ <;> decide +kernel

/-- Bundle words of R76, written out from the tables of R77, R82, R83, R85 and R86: `ADD` s3, s1, s2; `VADD` v31, v1, v2 beside `END`;
`MDSET` 7, s4; `MOV` s1, s2, s3 with WC 5 beside `CSRW` 0, s9; `LI` of -2 to s4. -/
theorem test_bundle_words :
    decodeBundle 0 0x208C101 = some [.add { z with d := 3, a := 1, b := 2 }]
    ∧ decodeBundle 0 (0x3F00 + 2 ^ 38 * 0x20FC1 + 3)
        = some [.endFrame { z with more := true }, .vadd { z with d := 31, a := 1, b := 2 }]
    ∧ decodeBundle 0 (4 + 2 ^ 68 * 0x21C1) = some [.mdset { z with d := 7, a := 4 }]
    ∧ decodeBundle 0 (9 + 2 ^ 8 * 0x4839 + 2 ^ 98 * 0xA31041)
        = some [.csrw { z with more := true, a := 9 }, .mov { z with d := 1, a := 2, b := 3, imm := 5 }]
    ∧ decodeBundle 0 (0x11 + 2 ^ 8 * 0x118 + 2 ^ 68 * 0xFFFFFFFFFFFFFFE) = some [.li { z with d := 4 } 0xFFFFFFFFFFFFFFE] := by decide +kernel

/-- ST8 of core 0: s1 = 0x40 is the offset, s2 the value (R82). -/
def storing : State := { busy (regs [(1, 0x40), (2, 0x1A5)]) with pending := [.st8 { z with a := 1, b := 2 }] }

theorem test_st8_stores_low_byte : after (step storing) (fun t => (t.mem, t.pending)) = some ([⟨2 ^ 48 + 0x40, 0xA5⟩], []) := by decide +kernel
theorem witness_StepKeepsMemoryCanonical : Sound storing ∧ (after (step storing) (fun _ => true)).isSome = true := by
  unfold Sound
  decide +kernel
theorem test_over_voltage_stops : stops (exec (.overVoltageReset 6001) (st live)) = true := by decide +kernel
theorem test_over_voltage_resets : (after (exec (.overVoltageReset 6000) (st live)) (fun t => t.hw.power.resetDue)) = some true := by decide +kernel

/-! ## Slots of a core -/

theorem test_add_wraps : after (exec (.add { z with d := 3, a := 1, b := 2 }) (busy (regs [(1, 0xFFFFFFFFFFFFFFFF), (2, 3)])))
    (fun t => (sreg (coreOf t.hw 0).r 3, (coreOf t.hw 0).r.pc)) = some (2, 1) := by decide +kernel
theorem test_sra_keeps_sign : after (exec (.srai { z with d := 3, a := 1, imm := 63 }) (busy (regs [(1, 0x8000000000000000)])))
    (fun t => sreg (coreOf t.hw 0).r 3) = some 0xFFFFFFFFFFFFFFFF := by decide +kernel

/-- `ADD` beside another slot, and core 0 with that slot taken. -/
def paired : Instr := .add { z with more := true, d := 1 }
def halfBundle : State := busy { bundle := [paired] }

theorem witness_ScalarOperations :
    (∀ x ∈ [((busy {}).hw, z), ((busy {}).hw, { z with imm := 63 }), ((busy {}).hw, { z with imm := 64 }), ((busy {}).hw, { z with imm := 1 })],
      Sole x.1 x.2)
    ∧ (∀ x ∈ [(busy {}, z), (busy {}, { z with imm := 63 })], GoesOn x.1 x.2)
    ∧ ((slotOf (.add { z with imm := 1 })).map (fun x => (x.sl, fieldsClean x)) = some ({ z with imm := 1 }, false)
      ∧ issues (st live).hw 0 = false ∧ issues (busy {}).hw 0 = true) := by
  refine ⟨soles _ ?_, going _ ?_, ?_⟩ <;> decide +kernel
theorem witness_ScalarOperations_faults : ∃ x, slotOf (.shli { z with imm := 64 }) = some x ∧ x.sl = { z with imm := 64 }
    ∧ bundleLegal [.shli { z with imm := 64 }] = true ∧ SlotEnabled (busy {}).hw x
    ∧ (x.act (beginWork (busy {})) x.sl).hold = .none ∧ (x.act (beginWork (busy {})) x.sl).faults = [(0x02, 0)] :=
  ⟨_, rfl, rfl, rfl, .inl (by decide), rfl, rfl⟩
theorem witness_ScalarOperations_pair : ∃ x y f g, slotOf paired = some x ∧ slotOf (.mzero z) = some y ∧ x.sl.core = y.sl.core ∧ y.sl.more = false
    ∧ x.place < y.place ∧ (issues halfBundle.hw 0 && bundleLegal [paired, .mzero z]) = true ∧ (coreOf halfBundle.hw 0).bundle = [paired]
    ∧ SlotEnabled halfBundle.hw x ∧ SlotEnabled halfBundle.hw y
    ∧ (let w := modCore 0 (fun c => { c with bundle := [paired, .mzero z] }) (beginWork halfBundle)
       x.act w x.sl = { effect := f } ∧ y.act w y.sl = { effect := g }) :=
  ⟨_, _, _, _, rfl, rfl, rfl, rfl, by decide, by decide +kernel, rfl, .inl (by decide), .inl (by decide), rfl, rfl⟩

/-- Core 0 with s1 the offset of the last eight bytes of the scratchpad, s2 the first offset past it, s3 a misaligned one. -/
def edge : State := busy (regs [(1, 0x2FFFF8), (2, 0x300000), (3, 0x2FFFFC)]) [⟨scratchKey 0 0x2FFFFF, 7⟩]

theorem test_ld64_last_bytes : after (exec (.ld64 { z with d := 4, a := 1 }) edge) (fun t => sreg (coreOf t.hw 0).r 4)
    = some 0x0700000000000000 := by decide +kernel
theorem test_ld64_misaligned : after (exec (.ld64 { z with a := 3 }) edge)
    (fun t => (coreOf t.hw 0).fault.map (fun f => (f.code, f.unit, f.address))) = some (some (0x03, 0, 0x2FFFFC)) := by decide +kernel
theorem witness_ScalarMemory : (∀ x ∈ [(edge.hw, { z with a := 1 }), (edge.hw, { z with a := 2 }), (edge.hw, { z with a := 3 })], Sole x.1 x.2)
    ∧ GoesOn edge { z with a := 1 }
    ∧ (ofSigned 64 ((sreg (rOf edge { z with a := 1 }) 1 : Int) + toSigned 9 0 * 8) = 0x2FFFF8 ∧ (beginWork edge).good (scratchKey 0 0x2FFFF8) 8 = true
      ∧ sreg (rOf edge { z with a := 2 }) 2 = 0x300000 ∧ sreg (rOf edge { z with a := 3 }) 3 % 8 = 4) := by
  refine ⟨soles _ ?_, goes_of ?_, ?_⟩ <;> decide +kernel

/-- Core 0 at bundle `n` with its stacks. -/
def standsAt (n : Nat) (returns : List Nat) (loops : List LoopEntry) : State :=
  busy { r := { pc := n, returns := returns, loops := loops, s := [(1, 1)] } }

theorem test_br_backward : after (exec (.br { z with d := 0x1F, a := 0x1F, b := 0x1F, imm := 0x1FF }) (standsAt 5 [] []))
    (fun t => (coreOf t.hw 0).r.pc) = some 4 := by decide +kernel
theorem test_loop_pass : after (exec (.add z) (standsAt 5 [] [⟨2, 5, 2⟩]))
    (fun t => ((coreOf t.hw 0).r.pc, (coreOf t.hw 0).r.loops)) = some (2, [⟨2, 5, 1⟩]) := by decide +kernel
theorem witness_ControlFlow :
    (∀ x ∈ [((standsAt 9 [] []).hw, z), ((standsAt 0 [] []).hw, z), ((standsAt 0 (List.replicate 15 0) []).hw, z),
        ((standsAt 0 (List.replicate 16 0) []).hw, z), ((standsAt 0 [9] []).hw, z), ((standsAt 0 [10] []).hw, z),
        ((standsAt 0 [] [⟨1, 2, 1⟩, ⟨1, 2, 1⟩, ⟨1, 2, 1⟩, ⟨1, 2, 1⟩]).hw, { z with d := 1 }), ((standsAt 0 [] []).hw, { z with d := 9, a := 1 }),
        ((standsAt 0 [] []).hw, { z with d := 8 }), ((standsAt 0 [] []).hw, { z with d := 9 })], Sole x.1 x.2)
    ∧ ¬ GoesOn (standsAt 9 [] []) z ∧ GoesOn (standsAt 0 [] []) z
    ∧ (offset24 z = 0 ∧ offset14 z = 0 ∧ offset24 { z with d := 9 } = 9 ∧ offset24 { z with d := 10 } = 10
      ∧ offset14 { z with d := 0x1F, imm := 0x1FF } = -1 ∧ offset14 { z with d := 9, a := 1 } = 9 ∧ offset14 { z with d := 10 } = 10
      ∧ (rOf (standsAt 0 (List.replicate 15 0) []) z).returns.length = 15 ∧ sreg (rOf (standsAt 0 [] []) z) 1 = 1
      ∧ (afterBundle 8 []).1 < 10 ∧ 10 ≤ (afterBundle 9 []).1 ∧ toSigned 64 (sreg (rOf (standsAt 9 [] []) z) 0) < toSigned 64 1) := by
  refine ⟨soles _ ?_, ?_, goes_of ?_, ?_⟩
  · decide +kernel
  · unfold GoesOn
    decide +kernel
  · decide +kernel
  · decide +kernel
theorem witness_ControlFlow_past : ∃ x f, slotOf (.add z) = some x ∧ x.sl = z ∧ bundleLegal [.add z] = true ∧ SlotEnabled (standsAt 9 [] []).hw x
    ∧ (∀ r, (f r).pc = r.pc ∧ (f r).loops = r.loops)
    ∧ x.act (modCore 0 (fun k => { k with bundle := [.add z] }) (beginWork (standsAt 9 [] []))) x.sl = { effect := setRegs 0 f } :=
  ⟨_, fun r => setS r 0 0, rfl, rfl, rfl, .inl (by decide), fun _ => ⟨rfl, rfl⟩, rfl⟩

/-- Core 0 with wait counter wc1 as given; held at a `WAITI` of 5 on it. -/
def waiting (n : Nat) : State := busy { r := { wc := [(1, n)] }, bundle := [.waiti { z with d := 1, imm := 5 }], hold := .wait }
/-- Core 0 with wait counter wc1 as given and s1 = 5. -/
def counting (n : Nat) : State := busy { r := { wc := [(1, n)], s := [(1, 5)] } }

theorem test_waiti_goes_on : after (exec (.waitSatisfied 0) (waiting 5)) (fun t => ((coreOf t.hw 0).hold, (coreOf t.hw 0).r.pc)) = some (.none, 1) := by
  decide +kernel
theorem test_waiti_still_held : after (exec (.waitSatisfied 0) (waiting 4)) (fun t => ((coreOf t.hw 0).hold, (coreOf t.hw 0).r.pc)) = some (.wait, 0) := by
  decide +kernel
theorem witness_Waits :
    (∀ x ∈ [((counting 5).hw, { z with d := 1, a := 1 }), ((counting 4).hw, { z with d := 1, a := 1 }), ((counting 5).hw, { z with d := 1, imm := 5 }),
        ((counting 4).hw, { z with d := 1, imm := 5 }), ((counting 0xFFFFFFFE).hw, { z with d := 1, imm := 1 }),
        ((counting 0xFFFFFFFF).hw, { z with d := 1, imm := 1 }), ((counting 5).hw, { z with d := 1 })], Sole x.1 x.2)
    ∧ (∀ x ∈ [(counting 5, { z with d := 1, a := 1 }), (counting 0xFFFFFFFE, { z with d := 1, imm := 1 }), (waiting 5, { z with d := 1, imm := 5 })],
        GoesOn x.1 x.2)
    ∧ (wcOf (rOf (counting 0xFFFFFFFE) z) 1 + 1 < 2 ^ 32 ∧ 2 ^ 32 ≤ wcOf (rOf (counting 0xFFFFFFFF) z) 1 + 1 ∧ wcOf (rOf (counting 4) z) 1 < 5
      ∧ sreg (rOf (counting 4) z) 1 = 5
      ∧ coreLive (waiting 5).hw 0 = true ∧ (coreOf (waiting 5).hw 0).running = true ∧ (coreOf (waiting 5).hw 0).hold = .wait
      ∧ (coreOf (waiting 5).hw 0).bundle = [.waiti { z with d := 1, imm := 5 }] ∧ wcOf (rOf (waiting 5) z) 1 = 5 ∧ wcOf (rOf (waiting 4) z) 1 = 4
      ∧ (coreOf (counting 5).hw 0).hold ≠ .wait ∧ coreLive (st {}).hw 0 = false) := by
  refine ⟨soles _ ?_, going _ ?_, ?_⟩ <;> decide +kernel

theorem test_csrr_frame : after (exec (.csrr { z with d := 1, imm := 9 }) (busy { frame := 77 })) (fun t => sreg (coreOf t.hw 0).r 1) = some 77 := by
  decide +kernel

/-- Core 0 with s1 = 2, s2 = 3 and a stack of `n` markers with identifier 2. -/
def marked (n : Nat) : State := busy { r := { s := [(1, 2), (2, 3)], marks := List.replicate n (2, 5) } }

theorem witness_ControlRegisters :
    (∀ x ∈ [((marked 0).hw, z), ((marked 0).hw, { z with a := 1 }), ((marked 0).hw, { z with a := 2 }), ((marked 0).hw, { z with a := 1, imm := 1 }),
        ((marked 7).hw, { z with a := 1 }), ((marked 8).hw, { z with a := 1 }), ((marked 8).hw, { z with a := 2 }), ((marked 0).hw, { z with imm := 10 })],
        Sole x.1 x.2)
    ∧ (∀ x ∈ [(marked 0, z), (marked 7, { z with a := 1 }), (marked 8, { z with a := 1 })], GoesOn x.1 x.2)
    ∧ (sreg (rOf (marked 0) z) 1 < 3 ∧ 3 ≤ sreg (rOf (marked 0) z) 2 ∧ (rOf (marked 7) z).marks.length < 8 ∧ 8 ≤ (rOf (marked 8) z).marks.length
      ∧ (rOf (marked 8) z).marks.head? = some (sreg (rOf (marked 0) z) 1, 5) ∧ (rOf (marked 8) z).marks.head? ≠ some (sreg (rOf (marked 0) z) 2, 5)
      ∧ (busy {}).hw.burin.enable = false) := by
  refine ⟨soles _ ?_, going _ ?_, ?_⟩ <;> decide +kernel

theorem test_viadd_lane_wraps : after (exec (.viadd { z with d := 3, a := 1, b := 2 }) (busy { r := { v := [(1, 0xFFFFFFFF), (2, 2)] } }))
    (fun t => (lane (vreg (coreOf t.hw 0).r 3) 0, lane (vreg (coreOf t.hw 0).r 3) 1)) = some (1, 0) := by decide +kernel
theorem test_vadd_one_and_one : lane (mapLanes (fun _ => f32Of (vAdd (f32Val 0x3F800000) (f32Val 0x3F800000)))) 5 = 0x40000000 := by decide +kernel

/-- The module with its matrix engines in every cycle, its vector units in one cycle of 64, or with one unit of memory that cannot be read. -/
def quick (s : State) : State := { s with hw := { s.hw with power := { s.hw.power with spires := [(0, { matrixRate := 64 })] } } }
def slow (s : State) : State := { s with hw := { s.hw with power := { s.hw.power with vectorRate := 1 } } }
def spoiled (key : Nat) (s : State) : State := { s with hw := { s.hw with bad := [key] } }

theorem witness_VectorArithmetic :
    (∀ x ∈ [((busy {}).hw, z), ((slow (busy {})).hw, z), ((busy {}).hw, { z with d := 7 }), ((busy {}).hw, { z with d := 8 }),
        ((busy {}).hw, { z with imm := 7 }), ((busy {}).hw, { z with imm := 8 })], Sole x.1 x.2)
    ∧ (∀ x ∈ [(busy {}, z), (busy {}, { z with imm := 7 }), (busy {}, { z with d := 7 })], GoesOn x.1 x.2)
    ∧ (bundleLegal [.vadd z] = true ∧ (slotOf (.vadd z)).map (fun x => (x.sl, x.place)) = some (z, 1)
      ∧ vectorEnables (busy {}).hw 0 = true ∧ vectorEnables (slow (busy {})).hw 0 = false) := by
  refine ⟨soles _ ?_, going _ ?_, ?_⟩ <;> decide +kernel

/-- Bits of `IMM` of a conversion from format a to format b, with the variant bit v. -/
def converts (a b v : Nat) : Slot := { z with imm := BitVec.ofNat 9 (a + 16 * b + 256 * v) }

theorem witness_VectorMovesAndConversions :
    (∀ x ∈ [z, converts 7 12 0, converts 8 0 0, converts 0 11 0, converts 0 0 1, converts 8 2 1, converts 2 11 0, converts 2 11 1],
        Sole (busy {}).hw x)
    ∧ (∀ x ∈ [z, converts 7 12 0, converts 8 2 1, converts 2 11 0], GoesOn (busy {}) x)
    ∧ (vectorEnables (busy {}).hw 0 = true ∧ isMx 7 = false ∧ isMx 12 = false ∧ isMx 8 = true ∧ isMx 11 = true
      ∧ (converts 7 12 0).imm.toNat < 256 ∧ 256 ≤ (converts 0 0 1).imm.toNat ∧ (converts 8 2 1).imm.toNat % 16 = 8
      ∧ (converts 8 2 1).imm.toNat / 16 % 16 = 2 ∧ (converts 2 11 1).imm.toNat / 256 = 1) := by
  refine ⟨fun x h => soles ([z, converts 7 12 0, converts 8 0 0, converts 0 11 0, converts 0 0 1, converts 8 2 1, converts 2 11 0,
    converts 2 11 1].map (fun x => ((busy {}).hw, x))) ?_ _ (List.mem_map_of_mem h),
    fun x h => going ([z, converts 7 12 0, converts 8 2 1, converts 2 11 0].map (fun x => (busy {}, x))) ?_ _ (List.mem_map_of_mem h), ?_⟩
    <;> decide +kernel

theorem test_vstp_only_its_lanes : after (exec (.vstp { z with d := 1, b := 1 }) (busy { r := { v := [(1, 0x0A0000000B)], p := [(1, 2)] } }))
    (fun t => t.mem) = some [⟨2 ^ 48 + 4, 0x0A⟩] := by decide +kernel

/-- Core 0 with s1 the offset of the last 512 bytes of the scratchpad, s2 one past it, s3 a misaligned one, and v1 with lane 2 misaligned. -/
def vedge : State := busy { r := { s := [(1, 0x2FFE00), (2, 0x2FFE40), (3, 0x20)], v := [(1, 2 ^ 65)] } }
/-- The byte offsets of the lanes of a gather of that core. -/
def laneAt (s : State) (sl : Slot) (i : Nat) : Nat := (sreg (rOf s sl) sl.a.toNat + lane (vreg (rOf s sl) sl.b.toNat) i) % 2 ^ 64

theorem witness_VectorMemory :
    (∀ x ∈ [(vedge.hw, { z with a := 1 }), (vedge.hw, { z with a := 2 }), (vedge.hw, { z with a := 3 }), (vedge.hw, { z with b := 1 }),
        (vedge.hw, { z with a := 2, b := 8 }), ((spoiled (scratchKey 0 64) vedge).hw, z)], Sole x.1 x.2)
    ∧ GoesOn vedge { z with a := 1 }
    ∧ (vectorEnables vedge.hw 0 = true ∧ ofSigned 64 ((sreg (rOf vedge z) 1 : Int) + toSigned 9 0 * 64) + 512 = 0x300000
      ∧ sreg (rOf vedge z) 2 % 64 = 0 ∧ 0x300000 < sreg (rOf vedge z) 2 + 512 ∧ sreg (rOf vedge z) 3 % 64 ≠ 0
      ∧ (beginWork vedge).good (scratchKey 0 0x2FFE00) 512 = true
      ∧ (beginWork (spoiled (scratchKey 0 64) vedge)).good (scratchKey 0 0) 512 = false)
    ∧ (∀ i, i < 128 → laneAt vedge z i % 4 = 0 ∧ laneAt vedge z i + 4 ≤ 0x300000
        ∧ (beginWork vedge).good (scratchKey 0 (laneAt vedge z i)) 4 = true)
    ∧ (laneAt vedge { z with b := 1 } 2 % 4 = 2 ∧ ∀ j, j < 2 → ¬ laneAt vedge { z with b := 1 } j % 4 ≠ 0)
    ∧ (0x300000 < laneAt (busy { r := { s := [(2, 0x2FFFFE + 2)] } }) { z with a := 2 } 0 + 4)
    ∧ (beginWork (spoiled (scratchKey 0 0) vedge)).good (scratchKey 0 (laneAt vedge z 0)) 4 = false := by
  refine ⟨soles _ ?_, goes_of ?_, ?_, ?_, ?_, ?_, ?_⟩ <;> decide +kernel

/-- A descriptor of one row of 16 F32 elements at scratchpad offset 0. -/
def desc16 : MDesc := { rows := 1, length := 16, rowStride := 64 }

/-- A streamed left operand in staging: one piece of 32 FP8 elements, counted by wc0 from 0. -/
def streamed : MDesc := { format := 3, staging := true, rows := 1, length := 32, rowStride := 32, pieceChunks := 1 }

/-- The plan of core 0 with a page of staging, a page of stack 0 and a pool of one page there. -/
def aPlan : Plan := {
  id := 1
  abort := false
  part := 0
  seed := 0
  crc := 0
  cores := [⟨0, 0, 0, 0, 1⟩]
  gravers := []
  links := []
  pager := []
  reservations := [⟨2, 0, 0, 1, 0, 0, 0, 0, 64, 0⟩, ⟨0, 0, 0, 1, 0, 0, 0, 0, 0, 0⟩, ⟨3, 0, 0, 1, 0, 1, 0, 0, 0, 0x10000⟩]
  spillBase := 0
  spillPages := 0
  programs := []
  channel := 0
  answer := none
  fetching := []
  startTick := 0
  firstFrame := none
  lastFrame := none
  frame := none
  slipTick := none
  fenced := false
  lastStarted := 0
  lastEnded := 0 }

/-- Core 0 takes slots under that plan. -/
def planned (c : CoreSt) (mem : Mem := []) : State := st { live with cores := [(0, runs { c with plan := 1 })], plans := { plans := [aPlan] } } mem

/-- A queued matrix operation. -/
def mop (kind : MatrixKind) (tile : Nat) (l : MDesc) (begun : Bool) (pieces : Nat) : MatrixOp := ⟨kind, tile, l, {}, 1, 0, 0, 0, 0, begun, pieces⟩

theorem test_mdset_rows_zero : after (exec (.mdset z) (busy {})) (fun t => (coreOf t.hw 0).fault.map (fun f => f.code)) = some (some 0x0A) := by
  decide +kernel

/-- The descriptor bytes of one row of 16 F32 elements at a scratchpad offset. -/
def descAt (off : Nat) : Mem := [⟨scratchKey 0 (off + 2), 1⟩, ⟨scratchKey 0 (off + 4), 16⟩, ⟨scratchKey 0 (off + 12), 64⟩]

/-- Core 0 under that plan with s1 the last descriptor of the scratchpad, s2 the one past it, s3 a misaligned one, `m1` = `desc16`, and n
queued operations. -/
def matrixAt (n : Nat) : State :=
  quick (planned {
    r := { m := [(1, desc16)], s := [(1, 0x2FFFE0), (2, 0x300000), (3, 0x10)] }
    matrixQ := List.replicate n (mop .mzero 0 {} false 0) } (descAt 0x2FFFE0))

theorem witness_MatrixIssue :
    (∀ x ∈ [((matrixAt 7).hw, { z with a := 1, b := 1 }), ((matrixAt 7).hw, { z with a := 1 }), ((matrixAt 7).hw, z), ((matrixAt 7).hw, { z with d := 16 }),
        ((matrixAt 7).hw, { z with a := 3 }), ((matrixAt 7).hw, { z with a := 2 }), ((matrixAt 8).hw, { z with a := 1, b := 1 }), ((busy {}).hw, z),
        ((spoiled (scratchKey 0 0x2FFFE0) (matrixAt 7)).hw, { z with a := 1 })], Sole x.1 x.2)
    ∧ (∀ x ∈ [(matrixAt 7, { z with a := 1, b := 1 }), (matrixAt 7, { z with a := 1 }), (matrixAt 7, z)], GoesOn x.1 x.2)
    ∧ ((beginWork (matrixAt 7)).good (scratchKey 0 0x2FFFE0) 32 = true
      ∧ (beginWork (spoiled (scratchKey 0 0x2FFFE0) (matrixAt 7))).good (scratchKey 0 0x2FFFE0) 32 = false
      ∧ parseMDesc (memGet (matrixAt 7).mem (scratchKey 0 0) 32) = none
      ∧ parseMDesc (memGet (matrixAt 7).mem (scratchKey 0 0x2FFFE0) 32) = some desc16
      ∧ rateEnables (matrixAt 7).hw 0 = true ∧ rateEnables (busy {}).hw 0 = false)
    ∧ ((coreOf (matrixAt 7).hw 0).matrixQ.length < 8 ∧ ¬ (coreOf (matrixAt 8).hw 0).matrixQ.length < 8
      ∧ (macPair 0 0).isSome = true ∧ descFaults (matrixAt 7).hw 0 desc16 = [] ∧ transferFormat true false 0 = true
      ∧ transferFormat false false 0 = true ∧ transferFormat true false 3 = false)
    ∧ ((macPair 3 3).isSome = true ∧ descFaults (matrixAt 7).hw 0 streamed = [] ∧ pieceCount streamed = 1
      ∧ descFaults (matrixAt 7).hw 0 { streamed with staging := false, pieceChunks := 0 } = []
      ∧ inGrant (matrixAt 7).hw 0 0xFFF0 16 = true ∧ inGrant (matrixAt 7).hw 0 0x10000 16 = false
      ∧ descFaults (matrixAt 7).hw 0 { desc16 with base := 0x300000 } ≠ []) := by
  refine ⟨soles _ ?_, going _ ?_, ?_, ?_, ?_⟩ <;> decide +kernel

theorem test_mzero_clears_tile : after (exec (.matrixOperationComplete 0 0) (planned { matrixQ := [mop .mzero 2 {} true 0] }
    [⟨tileKey 0 1 0 0, 5⟩, ⟨tileKey 0 2 127 127, 6⟩])) (fun t => (t.mem, wcOf (coreOf t.hw 0).r 1)) = some ([⟨tileKey 0 1 0 0, 5⟩], 1) := by decide +kernel
theorem test_later_operation_waits : after (exec (.matrixOperationBegin 0 1) (planned { matrixQ := [mop .mload 0 desc16 false 0, mop .mstore 1 desc16 false 0] }))
    (fun t => (coreOf t.hw 0).matrixQ.map (fun o => o.begun)) = some [false, false] := by decide +kernel

/-- Queues of the matrix engine: an operation alone, and `MMAS` begun with a number of pieces done. -/
def alone (kind : MatrixKind) (begun : Bool) : State := planned { matrixQ := [mop kind 0 desc16 begun 0] }
def streams (counter pieces : Nat) : State := planned { matrixQ := [mop .mmas 0 streamed true pieces], r := { wc := [(0, counter)] } }

theorem witness_MatrixEngine : ((coreOf (alone .mload false).hw 0).matrixQ[0]? = some (mop .mload 0 desc16 false 0)
      ∧ (coreOf (planned {}).hw 0).matrixQ[0]? = none ∧ (coreOf (alone .mmas false).hw 0).matrixQ.all (fun o => !o.begun) = true)
    ∧ (∀ kind ∈ [MatrixKind.mzero, .mma, .mload, .mstore], (coreOf (alone kind true).hw 0).matrixQ[0]? = some (mop kind 0 desc16 true 0))
    ∧ (∀ x ∈ productRanges (mop .mma 0 desc16 true 0) 0, (beginWork (planned {})).good (descKey 0 x.1 x.2.1) x.2.2 = true)
    ∧ (∀ x ∈ rowRanges desc16 0 0 16, (beginWork (planned {})).good (descKey 0 x.1 x.2.1) x.2.2 = true)
    ∧ (firstBadRange (beginWork (spoiled (scratchKey 0 32) (planned {}))) 0 (productRanges (mop .mma 0 desc16 true 0) 0)).isSome = true
    ∧ (firstBadRange (beginWork (spoiled (scratchKey 0 32) (planned {}))) 0 (rowRanges desc16 0 0 16)).isSome = true
    ∧ (∀ j, j < 1 → (beginWork (planned {})).good (tileKey 0 0 j 0) (4 * 16) = true)
    ∧ (beginWork (spoiled (tileKey 0 0 0 0) (planned {}))).good (tileKey 0 0 0 0) (4 * 16) = false := by decide +kernel
theorem witness_MatrixEngine_stream :
    ((coreOf (streams 1 0).hw 0).matrixQ.findIdx? (fun o => o.begun && o.kind == .mmas) = some 0
      ∧ (coreOf (streams 1 0).hw 0).matrixQ[0]? = some (mop .mmas 0 streamed true 0) ∧ 0 < pieceCount streamed ∧ pieceCount streamed ≤ 1)
    ∧ streamed.mapOrBase + 0 + 1 ≤ wcOf (coreOf (streams 1 0).hw 0).r 0 ∧ wcOf (coreOf (streams 0 0).hw 0).r 0 < streamed.mapOrBase + 0 + 1
    ∧ (∀ x ∈ productRanges (mop .mmas 0 streamed true 0) 0, (beginWork (streams 1 0)).good (descKey 0 x.1 x.2.1) x.2.2 = true)
    ∧ (coreOf (streams 1 1).hw 0).matrixQ[0]? = some (mop .mmas 0 streamed true 1)
    ∧ (beginWork (spoiled (stagingKey 0 0) (streams 1 0))).good (stagingKey 0 0) 16 = false := by decide +kernel

/-- Core 0 with the operands of a move or message: s1 the staging word of offset 0, s2 the scratchpad word of offset 0, s3 = 16, s4 = 15, s5 = 2^24 + 1,
s6 a word of no space, s7 a scratchpad word 15 bytes from its end, s8 the staging word one page on. -/
def moving (c : CoreSt) (mem : Mem := []) : State :=
  planned { c with r := { c.r with s := [(1, 0x2000000000000000), (2, 0x1000000000000000), (3, 16), (4, 15), (5, 0x1000001), (6, 0x4000000000000000),
    (7, 0x10000000002FFFF1), (8, 0x2000000000010000)] } } mem

/-- A queued move of 16 bytes from staging offset 0 to scratchpad offset 64 (for MOV2D: the shape at scratchpad offset 0x100). -/
def move (kind : MoveKind) : MoveOp := ⟨kind, 0x2000000000000000, 0x1000000000000040, if kind = .mov2d then 0x100 else 16, 1, 0⟩

/-- The operands `d`, `a`, `b` in that order. -/
def ops (d a b : BitVec 5) : Slot := { z with d := d, a := a, b := b }

theorem test_mov_carries : after (exec (.moveComplete 0 0) (moving { moveQ := [move .mov] } [⟨scratchKey 0 80, 9⟩, ⟨stagingKey 0 15, 7⟩]))
    (fun t => (t.mem, wcOf (coreOf t.hw 0).r 1)) = some ([⟨scratchKey 0 79, 7⟩, ⟨scratchKey 0 80, 9⟩, ⟨stagingKey 0 15, 7⟩], 1) := by decide +kernel
theorem test_mov_lowest_code : after (exec (.mov (ops 7 1 5)) (moving {})) (fun t => (coreOf t.hw 0).fault.map (fun f => (f.code, f.unit)))
    = some (some (0x02, 3)) := by decide +kernel
theorem witness_MoveOperations :
    (∀ x ∈ [((moving {}).hw, ops 2 1 3), ((moving { moveQ := List.replicate 32 (move .mov) }).hw, ops 2 1 3), ((moving {}).hw, ops 2 1 4),
        ((moving {}).hw, ops 2 1 5), ((moving {}).hw, ops 6 1 3), ((moving {}).hw, ops 1 7 3), ((moving {}).hw, ops 2 8 3)], Sole x.1 x.2)
    ∧ GoesOn (moving {}) (ops 2 1 3)
    ∧ (addrFaults (moving {}).hw 0 0x1000000000000000 16 = [] ∧ addrFaults (moving {}).hw 0 0x2000000000000000 16 = []
      ∧ addrFaults (moving {}).hw 0 0x2000000000010000 16 = [0x05] ∧ addrFaults (moving {}).hw 0 0x10000000002FFFF1 16 = [0x04]
      ∧ addrFaults (moving {}).hw 0 0x1000000000400000 16 = [0x06] ∧ addrFaults (moving {}).hw 0 8 16 ≠ []
      ∧ (coreOf (moving { moveQ := List.replicate 31 (move .mov) }).hw 0).moveQ.length < 32
      ∧ ¬ (coreOf (moving { moveQ := List.replicate 32 (move .mov) }).hw 0).moveQ.length < 32
      ∧ wordClean 0x2000000000000000 = true ∧ wordClean 0x1000000000000000 = true ∧ 0x4000000000000000 / 2 ^ 60 = 4) := by
  refine ⟨soles _ ?_, goes_of ?_, ?_⟩ <;> decide +kernel

/-- The shape of one row of 16 bytes; core 5 in its reset step, and a move from staging into its scratchpad. -/
def shape1 : Mem := [⟨scratchKey 0 0x100, 1⟩, ⟨scratchKey 0 0x104, 16⟩]
def inReset : DomainReset := { (default : DomainReset) with kind := 1, unit := 5, deadline := 1000, step := .reset }
def fencing (s : State) : State := { s with hw := { s.hw with hang := { resets := [inReset] } } }

theorem witness_MoveOperations_complete : (∀ k ∈ [MoveKind.mov, .mfill, .mov2d], (coreOf (moving { moveQ := [move k] }).hw 0).moveQ[0]? = some (move k))
    ∧ (coreOf (moving {}).hw 0).moveQ[0]? = none
    ∧ (hitsFence (moving {}).hw 0 0x2000000000000000 = false ∧ hitsFence (moving {}).hw 0 0x1000000000000040 = false
      ∧ (beginWork (moving {})).good (addrKey 0 0x2000000000000000) 16 = true
      ∧ (beginWork (moving {})).good (addrKey 0 0x1000000000000040) 16 = true
      ∧ (beginWork (spoiled (stagingKey 0 0) (moving {}))).good (addrKey 0 0x2000000000000000) 16 = false
      ∧ (beginWork (moving {} shape1)).good (scratchKey 0 0x100) 32 = true)
    ∧ (let shape := memGet shape1 (scratchKey 0 0x100) 32
       field shape 0 4 = 1 ∧ field shape 4 4 = 16 ∧ field shape 8 4 = 0 ∧ field shape 12 4 = 0 ∧ zeroAt shape 16 16 = true
       ∧ rangeCodes (moving {} shape1).hw 0 0x2000000000000000 0 16 = [] ∧ rangeCodes (moving {} shape1).hw 0 0x1000000000000040 0 16 = [])
    ∧ (field (memGet [] (scratchKey 0 0x100) 32) 0 4 = 0 ∧ hitsFence (fencing (moving {})).hw 0 0x3050000000000040 = true) := by decide +kernel

/-- A message of core 0 to a core of the endpoint, and an armed receive. -/
def message (kind : MsgKind) (endpoint : Nat) : MsgOp := ⟨0, kind, 0, 16, endpoint, 0, 0, 1, false, 0, 1, 0, 0, 0, false⟩
def arm : Armed := ⟨0, 0, 0, 16, 1, 0⟩

theorem test_send_takes_sequence : after (exec (.lastFlitLeaves 0 0) (moving { msgs := [message .signal 4] }))
    (fun t => (tabGet 0 t.hw.links.msgSeq 0, (coreOf t.hw 0).msgs.length, wcOf (coreOf t.hw 0).r 1)) = some (1, 0, 1) := by decide +kernel
theorem witness_Messages :
    (∀ x ∈ [((moving { msgs := List.replicate 63 (message .send 0) }).hw, ops 0 1 3), ((moving { msgs := List.replicate 64 (message .send 0) }).hw, ops 0 1 3),
        ((moving {}).hw, ops 0 3 0), ((moving {}).hw, ops 0 1 4), ((moving {}).hw, ops 0 0 0),
        ((moving { armed := List.replicate 255 arm }).hw, ops 0 1 3), ((moving { armed := List.replicate 256 arm }).hw, ops 0 1 3)], Sole x.1 x.2)
    ∧ (∀ x ∈ [(moving {}, ops 0 1 3), (moving { armed := List.replicate 255 arm }, ops 0 1 3)], GoesOn x.1 x.2)
    ∧ (sreg (rOf (moving {}) z) 0 < 2 ^ 29 ∧ stagingFaults (moving {}).hw 0 (sreg (rOf (moving {}) z) 1) 16 = []
      ∧ sreg (rOf (moving {}) z) 3 % 65536 ≠ 0 ∧ sreg (rOf (moving {}) z) 4 < 16 ∧ sreg (rOf (moving {}) z) 0 % 65536 = 0
      ∧ stagingFaults (moving {}).hw 0 (sreg (rOf (moving {}) z) 8) 16 = [0x05]) := by
  refine ⟨soles _ ?_, going _ ?_, ?_⟩ <;> decide +kernel
theorem witness_Messages_leave : ∀ op ∈ [message .send 0, message .signal 4], (coreOf (moving { msgs := [op] }).hw 0).msgs[0]? = some op ∧ op.left = false
    ∧ (coreOf (moving { msgs := [op] }).hw 0).msgs.find? (fun m => !m.left && m.endpoint == op.endpoint && m.core == op.core
        && (m.kind == .send || m.kind == .signal)) = some op
    ∧ pairHeld (moving {}).hw 0 (op.endpoint + op.core * 2 ^ 18) = false
    ∧ (beginWork (moving { msgs := [op] })).good (stagingKey 0 op.src) op.len = true
    ∧ (beginWork (spoiled (stagingKey 0 0) (moving { msgs := [op] }))).good (stagingKey 0 op.src) op.len = false
    ∧ isOwnEndpoint (moving {}).hw op.endpoint = (op.endpoint == 0) := by decide +kernel
/-- Every port of the module in a hold. -/
def heldPorts : Hw := { live with links := { ports := (List.range 6).map (fun p => (p, { holdUntil := some 5 })) } }
theorem witness_Messages_stay : pairHeld heldPorts 0 4 = true ∧ (coreOf (moving {}).hw 0).msgs[0]? = none := by decide +kernel

/-- Queue pair 1 of channel 0 in a state, on port code 8. -/
def aQp (state : Nat) (outstanding : List WorkReq) : Qp :=
  ⟨1, state, 0, 0, 8, 1024, 0, 0, 0, 1, 1, 0, 0, 0, 0, 0, 0, outstanding, [], 0, 0, 0, 0, 0, 0, 0, 0, 0, 0, none⟩

/-- The window of channel 0's outbox 0. -/
def window0 : Outbox := { enable := true, qp := 1, length := 16 }

/-- Core 0 with that window and queue pair, and at staging offset 0 the descriptor of 16 bytes from staging offset 0, on queue pair `q` where it is a send. -/
def posting (state q : Nat) : State :=
  let s := moving {} (if q = 0 then [⟨stagingKey 0 4, 16⟩, ⟨stagingKey 0 15, 0x20⟩] else [⟨stagingKey 0 0, 1⟩, ⟨stagingKey 0 4, 16⟩, ⟨stagingKey 0 15, 0x20⟩])
  { s with hw := { s.hw with host := { qps := [aQp state []], outboxes := [(0, window0)] } } }

/-- The descriptor of `posting`. -/
def posted (q : Nat) : List Byte := memGet (posting 1 q).mem (stagingKey 0 0) 32

theorem witness_Submissions_posted :
    (∀ x ∈ [((posting 1 0).hw, { z with a := 1 }), ((posting 2 1).hw, { z with a := 1 }), ((posting 0 1).hw, { z with a := 1 }),
        ((posting 1 0).hw, { z with a := 2 }), ((moving { msgs := List.replicate 64 (message .send 0) }).hw, { z with a := 1 })], Sole x.1 x.2)
    ∧ (∀ x ∈ [(posting 1 0, { z with a := 1 }), (posting 2 1, { z with a := 1 })], GoesOn x.1 x.2)
    ∧ (stagingFaults (posting 1 0).hw 0 (sreg (rOf (posting 1 0) z) 1) 32 = [] ∧ stagingFaults (posting 1 0).hw 0 (sreg (rOf (posting 1 0) z) 2) 32 = [0x05]
      ∧ (beginWork (posting 1 0)).good (stagingKey 0 0) 32 = true ∧ (beginWork (spoiled (stagingKey 0 0) (posting 1 0))).good (stagingKey 0 0) 32 = false)
    ∧ (transferOk true (posted 0) = true ∧ transferOk false (posted 1) = true ∧ transferOk true (zeros 32) = false
      ∧ field (posted 0) 4 4 = 16 ∧ field (posted 1) 8 8 = 0x2000000000000000 ∧ field (posted 0) 0x10 8 = 0 ∧ field (posted 1) 0 2 = 1
      ∧ addrFaults (posting 1 0).hw 0 0x2000000000000000 16 = [])
    ∧ (planOfCore (posting 1 0).hw 0 = some aPlan ∧ planOfCore (busy {}).hw 0 = none ∧ outboxOf (posting 1 0).hw 0 0 = window0
      ∧ findQp (posting 1 0).hw 1 = some (aQp 1 []) ∧ findQp (posting 2 1).hw 1 = some (aQp 2 []) ∧ findQp (posting 1 0).hw 2 = none
      ∧ hitsFence (posting 1 0).hw 0 0x2000000000000000 = false) := by
  refine ⟨soles _ ?_, going _ ?_, ?_, ?_, ?_⟩ <;> decide +kernel

/-- Outstanding `GISSUE` and `PHINT` operations, and a `COLL` not yet executed. -/
def outOp (graver : Bool) : OutOp := ⟨0, graver, 1, 0, 0, 1⟩
def issueOf (desc : List Byte) : CollIssue := ⟨0, desc, 1, 0, 0, 0⟩
def collecting (n : Nat) : State :=
  let s := moving {}
  { s with hw := { s.hw with coll := { issued := List.replicate n (issueOf []) }, gravers := [(0, { accepts := true })] } }

theorem witness_Submissions_queued :
    (∀ x ∈ [((collecting 7).hw, { z with a := 1 }), ((collecting 8).hw, { z with a := 1 }), ((collecting 7).hw, { z with a := 2 }),
        ((moving { outs := List.replicate 63 (outOp true) }).hw, ops 0 1 1), ((moving { outs := List.replicate 64 (outOp true) }).hw, ops 0 1 1),
        ((moving {}).hw, { ops 0 1 1 with imm := 12 }), ((moving { outs := List.replicate 3 (outOp false) }).hw, ops 0 1 3),
        ((moving { outs := List.replicate 4 (outOp false) }).hw, ops 0 1 3), ((moving {}).hw, { ops 0 1 3 with imm := 32 })], Sole x.1 x.2)
    ∧ (∀ x ∈ [(collecting 7, { z with a := 1 }), (moving { outs := List.replicate 63 (outOp true) }, ops 0 1 1),
        (moving { outs := List.replicate 3 (outOp false) }, ops 0 1 3)], GoesOn x.1 x.2)
    ∧ (collOutstanding (collecting 7).hw 0 < 8 ∧ 8 ≤ collOutstanding (collecting 8).hw 0 ∧ stagingFaults (collecting 7).hw 0 0x2000000000000000 64 = []
      ∧ (beginWork (collecting 7)).good (stagingKey 0 0) 64 = true
      ∧ (beginWork (spoiled (stagingKey 0 0) (collecting 7))).good (stagingKey 0 0) 64 = false
      ∧ graverOpen (collecting 0).hw 0 = true ∧ graverOpen (collecting 0).hw 1 = false
      ∧ partOfSpire (collecting 0).hw 0 = partOfCore (collecting 0).hw 0
      ∧ stagingFaults (moving {}).hw 0 0x2000000000000000 (16 * 16) = [] ∧ ((coreOf (moving { outs := List.replicate 64 (outOp true) }).hw 0).outs.filter
        (fun o => o.graver)).length = 64) := by
  refine ⟨soles _ ?_, going _ ?_, ?_⟩ <;> decide +kernel

/-! ## Collective units, engines, pager -/

/-- The descriptor of operation `op` on group 7: 16 units from staging offset 0 to offset 0x100, counts at 0x200, the record at 0x300. -/
def collDesc (op : Nat) : List Byte :=
  leBytes 4 op ++ leBytes 4 7 ++ leBytes 8 0x2000000000000000 ++ leBytes 8 0x2000000000000100 ++ leBytes 4 16
    ++ leBytes 4 (if op = 4 then 16 else 0) ++ leBytes 4 (if op = 4 then 0x200 else 0) ++ leBytes 4 0x300 ++ zeros 24

/-- Group 7 of the plan: the one member core 0. -/
def group7 : Group := ⟨0, 1, 0, 7, 0, 0, 0, [0], []⟩

/-- Core 0 has issued that descriptor; `known` says whether its group exists. -/
def collected (op : Nat) (known : Bool) : State :=
  let s := planned {}
  { s with hw := { s.hw with coll := { issued := [issueOf (collDesc op)], groups := if known then [group7] else [] } } }

/-- The work of `collected` once the descriptor is taken. -/
def collBegun (op : Nat) : Work := (beginWork (collected op true)).up (fun h => { h with coll := { h.coll with issued := [] } })

theorem test_all_gather_alone : after (exec (.allGather 0) { collected 3 true with mem := [⟨stagingKey 0 5, 9⟩] })
    (fun t => (memByte t.mem (stagingKey 0 0x105), wcOf (coreOf t.hw 0).r 1)) = some (9, 1) := by decide +kernel
/-- The same module with its collective state changed. -/
def collWith (s : State) (f : CollSt → CollSt) : State := { s with hw := { s.hw with coll := f s.hw.coll } }
/-- Core 0 is no member of its group; it has issued 256 operations of the frame; its operation has stopped; a member is absent; group 7 spans two
modules by plane port 0. -/
def collOther : State := collWith (collected 3 true) (fun c => { c with groups := [{ group7 with members := [2 ^ 18] }] })
def collFull : State := collWith (collected 3 true) (fun c => { c with ordinals := [(7, 0, 0, 256)] })
def collStopped : State := collWith (collected 3 true) (fun c => { c with ops := [{ freshOp group7 0 0 with stop := some (8, 0) }] })
def collAbsent : State := collWith (collected 3 true) (fun c => { c with absent := [(7, 0, 3)] })
def collFar : State := collWith (collected 3 true) (fun c => { c with groups := [{ group7 with members := [0, 4], mask := 1 }] })

theorem witness_CollectiveOperations_runs : ∀ op ∈ [1, 2, 3, 4, 5],
    ((collected op true).hw.coll.issued.find? (fun x => x.core == 0) = some (issueOf (collDesc op)) ∧ dOp (collDesc op) = op
      ∧ collStatus (collBegun op) (issueOf (collDesc op)) = 0 ∧ findGroup (collected op true).hw (field (collDesc op) 4 4) = some group7
      ∧ (localMembers (collected op true).hw group7).find? (fun l => l.2 == 0) = some (0, 0) ∧ (coreOf (collected op true).hw 0).plan = group7.plan)
    ∧ (((findOp (collected op true).hw 7 0 (ordinalOf (collected op true).hw 7 0 0)).getD (freshOp group7 0 0)).stop = none
      ∧ (collected op true).hw.coll.absent.find? (fun a => a.1 == 7 && a.2.1 == 0) = none
      ∧ (readInput (collBegun op) 0 (collDesc op) (collSizes (collDesc op) 1 0 0).1).isSome = true
      ∧ (beginWork (collected op true)).good (stagingKey 0 (field (collDesc op) 0x20 4)) 4 = true
      ∧ portStatus (collected op true).hw group7 (freshOp group7 0 0) = 0) := by decide +kernel
theorem witness_CollectiveOperations_ends :
    (findGroup (collected 3 false).hw 7 = none ∧ (st live).hw.coll.issued.find? (fun x => x.core == 0) = none
      ∧ dOp (collDesc 3) ≠ 1 ∧ dOp (collDesc 3) ≠ 0 ∧ dOp (collDesc 3) ≤ 5)
    ∧ (localMembers collOther.hw { group7 with members := [2 ^ 18] }).find? (fun l => l.2 == 0) = none
    ∧ collStatus (beginWork collFull) (issueOf (collDesc 3)) = 0x0C
    ∧ ((findOp collStopped.hw 7 0 0).getD (freshOp group7 0 0)).stop = some (8, 0)
    ∧ collAbsent.hw.coll.absent.find? (fun a => a.1 == 7 && a.2.1 == 0) = some (7, 0, 3)
    ∧ (readInput (beginWork (spoiled (stagingKey 0 0) (collected 3 true))) 0 (collDesc 3) (collSizes (collDesc 3) 1 0 0).1).isSome = false
    ∧ collStatus (beginWork (collected 3 true)) (issueOf (zeros 64)) = 1
    ∧ portStatus collFar.hw { group7 with members := [0, 4], mask := 1 }
        { freshOp group7 0 0 with parts := [⟨0, 0, collDesc 3, 1, 0, 0, zeros 16, [], [], 0, [], 0, false⟩] } = 6 := by decide +kernel

/-- A descriptor of code `code`: one row of 16 bytes at address 0, and for COPY from there to 0x100. -/
def gDesc (code : Nat) : GDesc :=
  ⟨1, 0, 1, 0, leBytes 4 code ++ zeros 4 ++ zeros 8 ++ leBytes 8 (if code = 6 then 0x100 else 0x0807060504030201) ++ leBytes 4 1 ++ leBytes 4 16 ++ zeros 32, 0, 1, 0, 0⟩

/-- Engine 0 holds that descriptor; it runs it with nothing done yet. -/
def engine (code : Nat) (mem : Mem := []) : State :=
  let s := planned { outs := [outOp true] } mem
  { s with hw := { s.hw with gravers := [(0, { accepts := true, queue := [gDesc code] })] } }
def started (code : Nat) (mem : Mem := []) : State :=
  let s := planned { outs := [outOp true] } mem
  { s with hw := { s.hw with gravers := [(0, { accepts := true, running := some ⟨gDesc code, 0, 16, 0, [], []⟩ })] } }

theorem test_fill_starts : after (exec (.fill 0) (engine 7)) (fun t => ((graverOf t.hw 0).queue.length, (graverOf t.hw 0).running.map (fun r => (r.done, r.charged)),
    t.mem)) = some (0, some (0, 16), []) := by decide +kernel
theorem test_fill_pattern : after (exec (.fill 0) (started 7)) (fun t => (memByte t.mem 0, memByte t.mem 15, memByte t.mem 16, wcOf (coreOf t.hw 0).r 1))
    = some (1, 8, 0, 1) := by decide +kernel
theorem witness_GraverOperations : (∀ code ∈ [0, 1, 2, 3, 4, 5, 6, 7, 8], (graverOpen (engine code).hw 0 = true
      ∧ (graverOf (engine code).hw 0).running = none ∧ graverNext (graverOf (engine code).hw 0) = some (gDesc code) ∧ field (gDesc code).desc 0 1 = code)
      ∧ graverOpen (started code).hw 0 = true ∧ (graverOf (started code).hw 0).running = some ⟨gDesc code, 0, 16, 0, [], []⟩)
    ∧ graverOpen (st live).hw 0 = false ∧ graverNext {} = none
    ∧ (let d := (gDesc 6).desc
       field d 1 1 < 2 ∧ field d 2 2 = 0 ∧ field d 0x18 4 = 1 ∧ field d 0x1C 4 = 16 ∧ field d 0x20 4 = 0 ∧ field d 0x24 4 = 0 ∧ zeroAt d 0x28 24 = true
       ∧ field d 0x08 8 = 0 ∧ field d 0x10 8 = 0x100)
    ∧ (tier1Status (engine 6).hw (gDesc 6) 0 0 16 = [] ∧ tier1Status (engine 6).hw (gDesc 6) 0 0x100 16 = [] ∧ (beginWork (engine 6)).good 0 16 = true
      ∧ (beginWork (spoiled 0 (engine 6))).good 0 16 = false ∧ field (zeros 64) 0x1C 4 < 16) := by decide +kernel

/-- The hint entry of page 0 of object 5 into the pool, the result at staging offset 0x100; its count of pages as given. -/
def hintBytes (count : Nat) : Mem := [⟨stagingKey 0 0, 5⟩] ++ (if count = 0 then [] else [⟨stagingKey 0 8, BitVec.ofNat 8 count⟩])
    ++ [⟨stagingKey 0 10, 2⟩, ⟨stagingKey 0 13, 1⟩]

/-- Core 0 has issued a PHINT of `n` entries. -/
def hinting (n count : Nat) : State := planned { outs := [⟨0, false, 1, 0, 0, n⟩] } (hintBytes count)

theorem witness_PagerHints_accept : (pagerLive (hinting 1 1).hw = true ∧ pagerLive (st {}).hw = false
      ∧ (coreOf (planned {}).hw 0).outs.find? (fun o => !o.graver) = none)
    ∧ (∀ n ∈ [0, 1, 1024, 1025], (coreOf (hinting n 1).hw 0).outs.find? (fun o => !o.graver) = some ⟨0, false, 1, 0, 0, n⟩)
    ∧ (planOfCore (hinting 1 1).hw 0 = some aPlan ∧ planOfCore (busy { outs := [⟨0, false, 1, 0, 0, 1⟩] }).hw 0 = none
      ∧ (beginWork (hinting 1 1)).good (stagingKey 0 0) 16 = true ∧ (beginWork (spoiled (stagingKey 0 0) (hinting 1 1))).good (stagingKey 0 0) 16 = false)
    ∧ (chunksOf 16 1 (memGet (hinting 1 1).mem (stagingKey 0 0) 16)).all (hintOk (hinting 1 1).hw 0 aPlan) = true
    ∧ (chunksOf 16 1 (memGet (hinting 1 0).mem (stagingKey 0 0) 16)).all (hintOk (hinting 1 0).hw 0 aPlan) = false := by decide +kernel

/-- Object 5 of partition 0, of one page, bound to the plan; a hint of its page `page`, and the page resident in the pool. -/
def object5 : PObj := ⟨0, 5, 0, 1, false, 0, 0, 0, false, some (1, false), 0, 0, 0, 0, none⟩
def hintOf (obj page : Nat) : Hint := ⟨0, 1, 0, 1, obj, page, 1, 1, 2, 0x100, false, false, 0, 0, [], []⟩
def placed : Resident := ⟨.pool 1 2, 0, 0x10000, 0, 5, 0, 0, false, [], 0, false, 0⟩
def placing (h : Hint) (resident : List Resident) : State :=
  let s := planned {}
  { s with hw := { s.hw with pager := { objects := [object5], hints := [h], resident := resident } } }

theorem test_place_unknown_object : after (exec (.placement .good) (placing (hintOf 6 0) [])) (fun t => (memByte t.mem (stagingKey 0 0x108), t.hw.pager.hints))
    = some (2, []) := by decide +kernel
/-- The page resident, and pinned with WRITE for frame 0, or pinned for the hint's frame. -/
def pinnedAt (frame : Nat) : Resident := { placed with pins := [(frame, true, false)] }
/-- The resident copies of the hint's page among those of a module. -/
def mine (l : List Resident) : List Resident := (placing (hintOf 5 0) l).hw.pager.resident.filter (holds object5 0)

theorem witness_PagerHints_place : (∀ h ∈ [hintOf 5 0, hintOf 5 1, hintOf 6 0], (placing h []).hw.pager.hints = h :: []
      ∧ (List.range h.count).filter (fun j => !h.done.contains j) = 0 :: [] ∧ findPlan (placing h []).hw h.plan = some aPlan)
    ∧ (pagerLive (placing (hintOf 5 0) []).hw = true ∧ flushHolds (placing (hintOf 5 0) []).hw = false
      ∧ hintObject (placing (hintOf 6 0) []).hw 1 0 6 = none ∧ hintObject (placing (hintOf 5 1) []).hw 1 0 5 = some object5 ∧ object5.pages = 1
      ∧ (poolEntry aPlan 2).map (fun e => e.pinLimit) = some 1 ∧ poolEntry aPlan 3 = none ∧ object5.bound.map (fun b => b.2) ≠ some true)
    ∧ ((mine [pinnedAt 1]).find? (fun x => x.pins.any (fun q => q.1 == 1)) = some (pinnedAt 1)
      ∧ (mine [pinnedAt 0]).find? (fun x => x.pins.any (fun q => q.1 == 1)) = none
      ∧ (mine [pinnedAt 0]).find? (fun r => r.pins.any (fun q => q.1 + 1 == 1 && q.2.1)) = some (pinnedAt 0)
      ∧ (mine [placed]).find? (fun x => x.pool == .pool 1 2) = some placed ∧ placed.pins = [] ∧ mine [] = [])
    ∧ freeSlot (placing (hintOf 5 0) []).hw aPlan (.pool 1 2) = some 0
    ∧ (match fetchPage object5 0 1 0x10000 .good (beginWork (placing (hintOf 5 0) [])) with | .ok _ => true | .error _ => false) = true
    ∧ (match fetchPage object5 0 1 0x10000 .failed (beginWork (placing (hintOf 5 0) [])) with | .ok _ => true | .error _ => false) = false
    ∧ pagerLive (st {}).hw = false := by decide +kernel

/-- A journal slot of 16 zero bytes with a checksum; a module that holds it, and flushes. -/
def slot0 (crc : Nat) : JournalSlot := ⟨0, 0, 5, 0, 16, crc, 1⟩
def flushing (journal : List JournalSlot) (flushes : List Flush) : State :=
  st { live with pager := { objects := [object5], journal := journal, flushes := flushes } }
def flush (kind : FlushKind) (deadline : Option Nat) : Flush := ⟨kind, deadline, 0, some (0, 0)⟩

/-- The flush of a list that a `FLUSH_END` ends. -/
def ends (s : State) : Option Flush := s.hw.pager.flushes.find? (fun f => flushDone s.hw f && !flushWaits s.hw f)

theorem witness_JournalAndFlushes_drain : (pagerLive (flushing [] []).hw = true ∧ pagerLive (st {}).hw = false ∧ (flushing [] []).hw.pager.journal = []
      ∧ (flushing [slot0 (crc32c (zeros 16))] []).hw.pager.journal = slot0 (crc32c (zeros 16)) :: []
      ∧ findObject (flushing [] []).hw 0 5 = some object5 ∧ findObject (flushing [] []).hw 0 6 = none)
    ∧ (beginWork (flushing [] [])).good journalBase 16 = true ∧ crc32c (memGet [] journalBase 16) = (slot0 (crc32c (zeros 16))).crc
    ∧ crc32c (memGet [] journalBase 16) ≠ (slot0 (crc32c (zeros 16) + 1)).crc := by decide +kernel
theorem witness_JournalAndFlushes_end : (∀ k ∈ [FlushKind.command, .warning, .standby, .dark, .off, .halt, .emergency, .reset],
      ends (flushing [] [flush k none]) = some (flush k none))
    ∧ (PowerMove.cut ∉ (flushing [] []).hw.power.moves ∧ (flushing [] []).hw.keep.entering ≠ 2)
    ∧ ends (flushing [slot0 0] [flush .command none]) = none
    ∧ (let late (f : Flush) : Bool := match f.deadline with | some t => due (flushing [] []).hw t | none => false
       (flushing [] [flush .standby (some 5)]).hw.pager.flushes.find? late = some (flush .standby (some 5))
       ∧ (flushing [] []).hw.pager.flushes.find? late = none) := by decide +kernel

/-! ## Plane links -/

/-- A flit of port 0 with `SEQ` 0, alone in its message, from endpoint 4 to core 0 of this module. -/
def rx0 : Rx := ⟨0, 0, false, 0, true, true, 0, 4⟩

/-- Port 0 as given. -/
def linked (p : Port) : State := st { live with links := { ports := [(0, p)] } }

theorem test_gap_nak_once : after (exec (.msgSignal { rx0 with seq := 2 } []) (linked { state := .active })) (fun t =>
    ((portOf t.hw 0).expected, (portOf t.hw 0).nakSent)) = some (0, true) := by decide +kernel
theorem witness_FlitsDiscarded : (∀ x ∈ [PortState.active, .init, .down], (portOf (linked { state := x, expected := 1, stored := [(4, 512), (1, 8)] }).hw 0).state = x)
    ∧ (rx0.seq.toNat ≠ (portOf (linked { state := .active, expected := 1 }).hw 0).expected
      ∧ rx0.seq.toNat = (portOf (linked { state := .active }).hw 0).expected)
    ∧ (receiveBuffers[4 - 1]?).getD 0 ≤ tabGet 0 (portOf (linked { stored := [(4, (receiveBuffers[3]?).getD 0)] }).hw 0).stored 4
    ∧ (∀ k ∈ [1, 2, 3, 4, 5, 6, 7], field (zeros 4 ++ leBytes 4 k) 4 1 = k)
    ∧ (vcOfType 3 = some 4 ∧ vcOfType 3 ≠ some 0) := by decide +kernel

/-- The last of the receive buffer of VC4 is free. -/
def almostFull : Port := { state := .active, stored := [(4, (receiveBuffers[3]?).getD 0 - 1)] }

/-- Core 0 awaits the answer of its `SEND` of number 9. -/
def acked : MsgOp := ⟨5, .send, 0, 16, 4, 0, 0, 0, true, 0, 1, 0, 9, 0, true⟩
def receiving (c : CoreSt) : State := { planned c with hw := { (planned c).hw with links := { ports := [(0, almostFull)], base := some (1, 0) } } }
/-- Its core has no context. -/
def idle : State := { receiving {} with hw := { (receiving {}).hw with cores := [] } }

theorem test_signal_raises : after (exec (.msgSignal rx0 (zeros 4 ++ leBytes 4 1 ++ leBytes 8 3)) (receiving {})) (fun t => wcOf (coreOf t.hw 0).r 1) = some 3 := by
  decide +kernel
theorem witness_MessagesReceived :
    (∀ x ∈ [((receiving {}).hw, rx0, 4), ((fencing (receiving {})).hw, { rx0 with dest := 5 * 2 ^ 18 }, 4), (idle.hw, rx0, 4)], InOrder x.1 x.2.1 x.2.2)
    ∧ (coreFenced (receiving {}).hw 0 = false ∧ (coreOf (receiving {}).hw 0).ctx ≠ 0 ∧ coreFenced idle.hw 0 = false ∧ (coreOf idle.hw 0).ctx = 0)
    ∧ (∀ d ∈ [0, 1, 2], (field (zeros 5 ++ [BitVec.ofNat 8 d] ++ zeros 10) 5 1 + 256 - (coreOf (receiving {}).hw 0).frame % 256) % 256 = d)
    ∧ (coreOf (receiving { msgs := [acked] }).hw 0).msgs.find? (fun m => m.kind == .send && m.ack && m.left && m.seq == field (zeros 12 ++ leBytes 4 9) 12 4) = some acked
    ∧ (coreOf (receiving {}).hw 0).msgs = [] := by
  refine ⟨inOrders _ ?_, ?_⟩ <;> decide +kernel
theorem witness_MessagesReceived_fence : coreFenced (fencing (receiving {})).hw (coreOfWord (5 * 2 ^ 18)) = true := by decide +kernel
theorem witness_MessagesReceived_admit : (coreFenced (beginWork (planned { armed := [arm] })).hw 0 = false ∧ (coreOf (beginWork (planned { armed := [arm] })).hw 0).ctx ≠ 0)
    ∧ (coreFenced (beginWork (fencing (planned {}))).hw 5 = true ∧ (coreOf (beginWork (st live)).hw 0).ctx = 0)
    ∧ ((2 + 256 - (coreOf (planned {}).hw 0).frame % 256) % 256 = 2 ∧ (1 + 256 - (coreOf (planned {}).hw 0).frame % 256) % 256 < 2)
    ∧ (coreOf (beginWork (planned { armed := [arm] })).hw 0).armed.find? (fun a => a.tag == 0) = some arm ∧ arm.len = 16
    ∧ (coreOf (beginWork (planned { armed := [arm] })).hw 0).armed.find? (fun a => a.tag == 1) = none := by decide +kernel

/-- A flit of VC4. -/
def flit4 : Flit := ⟨4, 4, true, true, 4, 0, zeros 16, none⟩
/-- A time at which timers that started at 0 are due. -/
def later (n : Nat) : TimeSt := { now := n, tickAt := n }

theorem test_nak_replays : after (exec (.nak 0 4095 0) (linked { state := .active, replay := [(0, 1, flit4), (1, 1, flit4)], seqNext := 2 }))
    (fun t => (portOf t.hw 0).replay.map (fun e => (e.1, e.2.1))) = some [(0, 2), (1, 2)] := by decide +kernel
/-- Port 0 is up, with one flit in its replay buffer, sent `n` times. -/
def replaying (n : Nat) : State := linked { state := .active, replay := [(0, n, flit4)] }

theorem witness_LinkControl : (∀ n ∈ [8, 9], (portOf (replaying n).hw 0).state = .active ∧ (portOf (replaying n).hw 0).replay = (0, n, flit4) :: [])
    ∧ (portOf (linked { state := .active }).hw 0).replay = []
    ∧ (max (portOf (replaying 8).hw 0).ackAt (portOf (replaying 8).hw 0).replayAt + 2000 ≤ horizon (replaying 8).hw
      ∧ (portOf (replaying 8).hw 0).ackAt + 20000 ≤ horizon (replaying 8).hw
      ∧ horizon (replaying 8).hw < (portOf (linked { ackAt := 10000000 }).hw 0).ackAt)
    ∧ (∃ e ∈ (portOf (replaying 9).hw 0).replay, 9 ≤ e.2.1) ∧ (∀ e ∈ (portOf (replaying 8).hw 0).replay, e.2.1 < 9)
    ∧ (portOf (linked { state := .init }).hw 0).state ≠ .active := by decide +kernel

/-- The payload of a `LINK_INIT` from endpoint 0, port 0 of plane `plane`, with its byte 3 as given and all lanes but the last. -/
def initBytes (plane : Byte) (seen : Byte) : List Byte := [1, plane, 0, seen] ++ zeros 8 ++ [1] ++ zeros 51
/-- A port whose training failed at time 10 s; the defect map names lane 5 of port 0. -/
def retrying : State := { linked { state := .down, retryAt := some 10000000000 } with
  hw := { (linked { state := .down, retryAt := some 10000000000 }).hw with time := later 10000000000 } }
def named5 : Hw := { (linked {}).hw with keep := { (linked {}).hw.keep with spares := [5] } }

theorem witness_LinkBringUp_train : (∀ x ∈ [PortState.detect, .train, .align, .init, .active, .down], (portOf (linked { state := x }).hw 0).state = x)
    ∧ (linked {}).hw.power.cupola = true ∧ (st {}).hw.power.cupola = false ∧ laneCount 0xFFFF = 16 ∧ laneCount 0x7FFF = 15
    ∧ (∀ f ∈ [true, false], (portOf (linked { state := .train, fullTraining := f }).hw 0).fullTraining = f)
    ∧ (List.range 17).find? (fun k => !(bit (withoutLane 0xFFFF none) k)) = some 16
    ∧ (List.range 17).find? (fun k => !(bit (withoutLane 0x1FFFE none) k)) = some 0
    ∧ (List.range 17).find? (fun k => !(bit (withoutLane 0x1FFFF none) k)) = none
    ∧ (defectLane (linked {}).hw 0 0 = 31 ∧ defectLane named5 0 0 = 5)
    ∧ 10000000000 ≤ horizon retrying.hw ∧ (portOf retrying.hw 0).retryAt = some 10000000000 := by decide +kernel
theorem witness_LinkBringUp_init : initMismatch (linked { state := .init }).hw 0 (zeros 64) = true
    ∧ (∀ seen ∈ [0, 1], initMismatch (linked { state := .init }).hw 0 (initBytes 0 seen) = false ∧ field (initBytes 0 seen) 3 1 % 2 = seen.toNat)
    ∧ (bit (portOf (linked { state := .active, rxMask := 0xFFFF, rxSpare := 16 }).hw 0).rxMask 15 = true
      ∧ bit (portOf (linked { state := .active, rxMask := 0xFFFF, rxSpare := 16 }).hw 0).rxMask 16 = false
      ∧ (portOf (linked { state := .active, rxMask := 0xFFFF, rxSpare := 16 }).hw 0).rxSpare ≠ 31
      ∧ (portOf (linked { state := .active, rxMask := 0xFFFF }).hw 0).rxSpare = 31)
    ∧ (9999 < 1 * 10000 ∧ ¬ (10000 < 1 * 10000))
    ∧ (portOf (linked { holdUntil := some 10000 }).hw 0).holdUntil = some 10000 ∧ 10000 ≤ horizon (linked {}).hw := by decide +kernel

/-- The exchange of number 3 left port 0 at 0; `both` says whether the second link of its plane is up too. -/
def exchanging (ref both : Bool) : State := st { live with
  time := { rackRef := ref }
  links := { ports := [(0, { state := .active })] ++ (if both then [(1, { state := .active })] else []), exchanges := [(3, 0, 0)] } }
/-- A time response to exchange 3. -/
def response : List Byte := [3, 0, 0, 0, 1] ++ zeros 35

theorem witness_TimeExchanges : (∀ both ∈ [true, false],
      (portOf (exchanging false both).hw 0).state = .active ∧ (exchanging false both).hw.time.rackRef = false
      ∧ ((portOf (exchanging false both).hw 1).state = .active → tabGet 0 (exchanging false both).hw.links.lastLink 0 ≠ 1))
    ∧ ((exchanging true false).hw.time.rackRef = true ∧ field (zeros 40) 4 1 = 0)
    ∧ (exchanging false false).hw.links.exchanges.find? (fun e => e.1 == field response 0 4 && e.2.1 == 0) = some (3, 0, 0)
    ∧ (exchanging false false).hw.links.exchanges.find? (fun e => e.1 == field (zeros 40) 0 4 && e.2.1 == 0) = none
    ∧ (field response 4 1 = 1 ∧ (exchanging false false).hw.time.now ≤ 0 + 100000 ∧ field ([3] ++ zeros 39) 4 1 ≠ 1) := by decide +kernel

/-- A signal on the package fabric from core 64 to core 0, and a module that carries transfers. -/
def carried (resends : Nat) (delivered gone : Bool) : FabricMsg :=
  ⟨0, 64, 0, 4, 16, 1, 0, false, false, 3, 0, [], 0, resends, delivered, 0, false, [⟨.ring, gone, false⟩]⟩
def carrying (l : List FabricMsg) : State :=
  { planned {} with hw := { (planned { msgs := [acked] }).hw with links := { fabric := l, base := some (1, 0) } } }
/-- A transfer whose copy was lost in a router. -/
def cut (resends : Nat) : FabricMsg := { carried resends false true with copies := [⟨.ring, true, true⟩] }

theorem test_fabric_delivers_once : after (exec (.packageFabricTransfer 0) (carrying [carried 0 false true])) (fun t =>
    (wcOf (coreOf t.hw 0).r 1, t.hw.links.fabric)) = some (3, []) := by decide +kernel
theorem test_fabric_lost_answer_once : after (exec (.packageFabricTransfer 0) (carrying [cut 0])) (fun t =>
    (wcOf (coreOf t.hw 0).r 1, t.hw.links.fabric.map (fun m => (m.delivered, m.acked)))) = some (3, [(true, false)]) := by decide +kernel
theorem witness_FabricTransfers_arrival : (∀ m ∈ [carried 0 false false, carried 0 false true, carried 1 true true],
      (carrying [m]).hw.links.fabric[0]? = some m ∧ m.copies = (m.copies.headD ⟨.ring, false, false⟩) :: [])
    ∧ (carrying []).hw.links.fabric[0]? = none ∧ (carrying [{ cut 0 with copies := [] }]).hw.links.fabric[0]? = some { cut 0 with copies := [] }
    ∧ (carrying [carried 0 false false, carried 0 false true]).hw.links.fabric[1]? = some (carried 0 false true)
    ∧ (∃ x ∈ (carrying [carried 0 false false, carried 0 false true]).hw.links.fabric.take 1, x.srcCore = 64 ∧ x.destCore = 0 ∧ x.delivered = false)
    ∧ ¬ (∃ x ∈ (carrying [carried 0 false true]).hw.links.fabric.take 0, x.srcCore = 64) := by decide +kernel
theorem witness_FabricTransfers_resend : (∀ n ∈ [7, 8], (carrying [cut n]).hw.links.fabric[0]? = some (cut n)
      ∧ (∀ c ∈ (cut n).copies, c.severed = true) ∧ (cut n).acked = false ∧ (cut n).resends = n)
    ∧ (cut 7).sentAt + 5000 ≤ horizon (carrying [cut 7]).hw ∧ ¬ (∀ c ∈ (carried 0 false true).copies, c.severed = true)
    ∧ (let s := carrying []
       (coreOf s.hw 0).msgs.find? (fun x => x.kind == .send && x.ack && x.left && x.seq == 9) = some acked
       ∧ (coreOf s.hw 0).msgs.find? (fun x => x.kind == .send && x.ack && x.left && x.seq == 8) = none
       ∧ isOwnEndpoint s.hw acked.endpoint = false ∧ stillQueued s.hw 0 acked.id = false ∧ acked.leftAt + 100000 ≤ horizon s.hw) := by decide +kernel
/-- Routers of the module. -/
def routers (l : List Nat) : Hw := { live with power := { live.power with routerOn := l } }
/-- The work in which a transfer waits to leave; with no credit left on its link. -/
def leaving : Work := beginWork (carrying [carried 0 false false])
def sentCopy : FabricCopy := ⟨fabricRoute leaving.hw 1 0, true, false⟩
def spent : Work := leaving.up (fun h => { h with links := { h.links with fabricHeld := [((copyLink (carried 0 false false) sentCopy).getD 0, 0)] } })

theorem witness_FabricTransfers_routes : (routerUp (routers [1, 3]) 1 = true ∧ routerUp (routers [3]) 1 = false ∧ routerUp (routers [3]) 3 = true
      ∧ routerUp (routers []) 1 = false ∧ routerUp (routers []) 3 = false)
    ∧ (∀ w ∈ [leaving, spent], w.hw.links.fabric[0]? = some (carried 0 false false) ∧ copyLink (carried 0 false false) sentCopy ≠ none)
    ∧ (copyMayGo leaving.hw (carried 0 false false) sentCopy = true ∧ copyMayGo spent.hw (carried 0 false false) sentCopy = false) := by decide +kernel

/-- Group 7 again, with port 0 up and no local member at work; a reservation of no bytes on the port; a settled pair of it. -/
def grouped (op : CollOp) : State :=
  let s := receiving {}
  { s with hw := { s.hw with coll := { groups := [group7], ops := if op.reserves.isEmpty then [] else [op] }, conserve := { latched := [(0, 0)] } } }
def reserving (bytes : Nat) : CollOp := { freshOp group7 0 0 with reserves := [⟨0, 0, bytes, false, 0⟩] }
/-- A record of group 7 with its frame tag and the bytes 12 to 15 as given. -/
def record7 (tag : Byte) (last : Nat) : List Byte := [4, tag, 0, 0] ++ leBytes 4 7 ++ zeros 4 ++ leBytes 4 last
/-- The share of port 0 for VC1 and VC6 is used up. -/
def sharedOut : State := { receiving {} with
  hw := { (receiving {}).hw with links := { ports := [(0, { almostFull with lowIn := linkCapacity (receiving {}).hw })] } } }
/-- The operation has stopped. -/
def stopped7 : CollOp := { reserving 0 with stop := some (8, 0) }

theorem witness_CollectiveRecords :
    (∀ x ∈ [((receiving {}).hw, rx0, 2), ((receiving {}).hw, rx0, 3), ((receiving {}).hw, rx0, 6), ((grouped (reserving 0)).hw, rx0, 2),
      ((grouped (reserving 32)).hw, rx0, 2), ((grouped stopped7).hw, rx0, 2), (sharedOut.hw, rx0, 6)], InOrder x.1 x.2.1 x.2.2)
    ∧ (findGroup (receiving {}).hw 7 = none ∧ findGroup (grouped (reserving 0)).hw (field (record7 0 0) 4 4) = some group7
      ∧ tagFrame (grouped (reserving 0)).hw group7 0 = some 0 ∧ tagFrame (grouped (reserving 0)).hw group7 200 = none)
    ∧ (∀ n ∈ [0, 32], findOp (grouped (reserving n)).hw 7 0 0 = some (reserving n) ∧ field (record7 0 n) 12 4 = n
      ∧ (reserving n).reserves.find? (fun y => y.port == 0 && y.piece == 0 && y.bytes == n && !y.granted) = some ⟨0, 0, n, false, 0⟩)
    ∧ ((grouped (freshOp group7 0 0)).hw.coll.ops = [] ∧ opOver (grouped (reserving 0)).hw group7 (reserving 0) = false
      ∧ opOver (grouped stopped7).hw group7 stopped7 = true)
    ∧ ((grouped (reserving 0)).hw.conserve.latched.find? (fun e => e.1 == 8 * group7.slot + 0) = some (0, 0) ∧ field (record7 0 1) 12 4 ≠ 0
      ∧ tabGet 0 (grouped (reserving 0)).hw.conserve.leaks 0 < 2)
    ∧ ((receiving {}).hw.burin.sink = false ∧ (portOf (receiving {}).hw 0).lowIn < lowLimit (receiving {}).hw 0 1
      ∧ ¬ (portOf sharedOut.hw 0).lowIn < lowLimit sharedOut.hw 0 1) := by
  refine ⟨inOrders _ ?_, ?_⟩ <;> decide +kernel

/-! ## Mirror pairs -/

/-- The pair 6 of partition 0, held by a standby unless told otherwise. -/
def aPair (role : PairRole) : Pair := {
  part := 0
  partnerPart := 0
  id := 6
  serial := 9
  base := 64
  state := .paired
  role := role
  epoch := 1
  expires := 900000
  partnerExpires := 0
  reported := 0
  helloTick := some 0
  peerRole := 0
  peerFlags := 0
  peerEpoch := 0
  peerEnded := 0
  peerCommitted := 0
  ended := 0
  committed := 0
  behind := false
  staleTakeover := false
  released := none
  releaseNext := false
  switching := none
  ends := []
  heldRecs := []
  answered := []
  rerun := false
  copies := [] }

/-- A numbered record of stream 255. -/
def rec255 (kind seq : Nat) (data : List Byte) : MirrorRec := ⟨kind, 255, false, seq, 3, data⟩

/-- A module with that pair, records `unacked` of stream 255 and the tick as given. -/
def mirrored (p : Pair) (unacked : List MirrorRec) (tick : Nat) : State := st { live with
  time := { tick := tick, now := tick * 1000000, tickAt := tick * 1000000 }
  links := { ports := [(0, { state := .active })] }
  mirror := { pairs := [p], streams := [(255, { unacked := unacked })] } }

/-- A flit of pair 6 that carries a record of kind `kind` whole. -/
def mirrorFlit (kind : Nat) (data : List Byte) : List Byte := leBytes 4 6 ++ leBytes 1 kind ++ leBytes 1 255 ++ leBytes 2 0 ++ leBytes 4 0 ++ leBytes 4 3 ++ data

theorem test_release_noted : after (exec (.release rx0 (mirrorFlit 7 (leBytes 8 44))) (mirrored (aPair .standby) [] 0)) (fun t =>
    ((t.hw.mirror.pairs.map (fun p => p.released)), (streamOf t.hw 0 255).expect)) = some ([some (0, 44)], 1) := by decide +kernel
/-- The first flit of a record of pair 6 has come. -/
def joining : State := { mirrored (aPair .standby) [] 0 with
  hw := { (mirrored (aPair .standby) [] 0).hw with mirror := { partials := [(0, 6, rec255 7 0 (zeros 4))] } } }

theorem witness_MirrorFlits : (∀ x ∈ [((mirrored (aPair .standby) [] 0).hw, rx0, 5), (joining.hw, { rx0 with first := false }, 5)], InOrder x.1 x.2.1 x.2.2)
    ∧ (∀ k ∈ [1, 2, 3, 4, 5, 6, 7], field (mirrorFlit k []) 4 1 = k)
    ∧ (recordWhole { rec255 7 0 [] with data := [] ++ (mirrorFlit 7 (leBytes 8 44)).drop 16 } = true
      ∧ recordWhole { rec255 7 0 [] with data := [] ++ (mirrorFlit 7 (zeros 7)).drop 16 } = false)
    ∧ (let mine (x : Nat × Nat × MirrorRec) : Bool := x.1 == 0 && x.2.2.stream == 255 && x.2.1 == 6
       (joining.hw.mirror.partials.find? mine).map (fun x => x.2.2) = some (rec255 7 0 (zeros 4))
       ∧ ((mirrored (aPair .standby) [] 0).hw.mirror.partials.find? mine).map (fun x => x.2.2) = none) := by
  refine ⟨inOrders _ ?_, ?_⟩ <;> decide +kernel

/-- Object 5 under window 0 of partition 0, and a warning flush that holds the journal. -/
def window7 : MirrorWindow := ⟨0, 0, 0, 0, 0x20000, some 5, 0, 0x10000, 1, 0, [], 0, false⟩
def windowed (p : Pair) : State := { mirrored p [] 0 with
  hw := { (mirrored p [] 0).hw with
    mirror := { (mirrored p [] 0).hw.mirror with windows := [window7] }
    pager := { objects := [object5], flushes := [flush .warning none] } } }
/-- A resync record of window 0; the pair holds one already. -/
def resync0 (kind : Nat) : MirrorRec := ⟨kind, 0, true, 0, 3, []⟩
def waiting7 : Pair := { aPair .standby with heldRecs := [resync0 3] }

theorem witness_MirrorRecordEffects_numbered : (∀ role ∈ [PairRole.standby, .holder],
      pairOfRecord (mirrored (aPair role) [] 0).hw 6 0 = some (aPair role))
    ∧ pairOfRecord (st live).hw 6 0 = none
    ∧ (∀ x ∈ [(0, 0), (2 ^ 32 - 1, 1), (2 ^ 32 - 4096, 4096), (2 ^ 32 - 4097, 4097)],
      ((streamOf (mirrored (aPair .standby) [] 0).hw 0 255).expect + 2 ^ 32 - x.1) % 2 ^ 32 = x.2)
    ∧ ((streamOf (mirrored (aPair .standby) [] 1).hw 0 255).ackedAt + 100000 ≤ (mirrored (aPair .standby) [] 1).hw.time.now)
    ∧ ((∃ q ∈ waiting7.heldRecs, q.resync = true ∧ q.stream = 0) ∧ (∀ q ∈ waiting7.heldRecs, q.resync = true → q.stream ≠ 1))
    ∧ (writeRecord (resync0 3) (beginWork (windowed (aPair .standby)))).isNone = true
    ∧ (writeRecord (resync0 3) (beginWork (mirrored (aPair .standby) [] 0))).isSome = true := by decide +kernel
/-- The data of a `HELLO` with a role, an epoch and a window digest. -/
def helloData (role epoch digest : Nat) : List Byte :=
  leBytes 1 role ++ [0, 4, 0] ++ zeros 4 ++ leBytes 8 9 ++ leBytes 8 epoch ++ zeros 16 ++ leBytes 4 digest ++ zeros 20
set_option maxRecDepth 20000 in
theorem witness_MirrorRecordEffects_acks : (streamOf (mirrored (aPair .holder) [] 0).hw 0 255).unacked = []
    ∧ (streamOf (mirrored (aPair .holder) [rec255 2 0 [], rec255 4 1 []] 0).hw 0 255).unacked = rec255 2 0 [] :: [rec255 4 1 []]
    ∧ (∀ n ∈ [0, 1, 2, 3], (field (leBytes 4 n) 0 4 + 2 ^ 32 - (rec255 2 0 []).seq) % 2 ^ 32 = n)
    ∧ (let hw := (mirrored (aPair .holder) [] 0).hw
       let digest := windowDigest hw 0
       findPair hw 0 = some (aPair .holder)
       ∧ field (helloData 1 2 digest) 8 8 = (aPair .holder).serial ∧ field (helloData 1 2 digest) 2 1 = 4 / max 1 (partCount hw)
       ∧ field (helloData 1 2 digest) 32 8 = planDigest hw 0 ∧ field (helloData 1 2 digest) 40 4 = digest
       ∧ field (helloData 1 2 (digest + 1)) 40 4 ≠ digest
       ∧ (aPair .holder).epoch < field (helloData 1 2 0) 16 8 ∧ ¬ ((aPair .holder).epoch < field (helloData 1 1 0) 16 8)
       ∧ field (helloData 1 1 0) 0 1 = 1 ∧ field (helloData 0 1 0) 0 1 ≠ 1) := by decide +kernel

/-- A plan of the partition whose frame has the number given. -/
def running7 (number : Nat) (p : Pair) : State := { mirrored p [] 0 with
  hw := { (mirrored p [] 0).hw with plans := { plans := [{ aPlan with frame := some ⟨number, 0, none, 0, false⟩ }] } } }
/-- The pair holds the `FRAME_END` of frame 3, and waits for its streams. -/
def ending (expects : List (Nat × Nat)) : FrameEnd := ⟨3, 0, expects, []⟩
def copyingPair : Pair := { aPair .holder with copies := [⟨1, 0, [], [], []⟩] }

theorem witness_MirrorEvents : (∀ p ∈ [aPair .standby, aPair .holder, copyingPair], findPair (mirrored p [] 0).hw 0 = some p)
    ∧ (cupolaLive (mirrored copyingPair [] 0).hw = true ∧ cupolaLive (st {}).hw = false ∧ findPair (st live).hw 0 = none
      ∧ copyingPair.copies = ⟨1, 0, [], [], []⟩ :: [])
    ∧ (∀ n ∈ [0, 1], ((pairedPlan (running7 n copyingPair).hw 0).bind (fun pl => pl.frame)).map (fun f => f.number) = some n)
    ∧ (endReady (mirrored (aPair .standby) [] 0).hw 0 (ending []) = true ∧ endReady (mirrored (aPair .standby) [] 0).hw 0 (ending [(255, 1)]) = false)
    ∧ ((writeWaiting 0 [resync0 3] (beginWork (windowed (aPair .standby)))).isNone = true
      ∧ ((writeWaiting 0 [] (beginWork (mirrored (aPair .standby) [] 0))).bind (writeRecords [])).isSome = true)
    ∧ ((streamOf (mirrored (aPair .holder) [rec255 2 0 []] 0).hw 0 255).unacked = rec255 2 0 [] :: []
      ∧ (streamOf (mirrored (aPair .holder) [rec255 2 0 []] 0).hw 0 255).ackAt + 300000 ≤ horizon (mirrored (aPair .holder) [] 0).hw
      ∧ (streamOf (mirrored (aPair .holder) [] 0).hw 0 255).unacked = [])
    ∧ ((aPair .standby).helloTick = some 0 ∧ 0 + 3 ≤ (mirrored (aPair .standby) [] 3).hw.time.tick ∧ (mirrored (aPair .standby) [] 2).hw.time.tick < 0 + 3)
    ∧ ((aPair .holder).expires ≤ horizon (mirrored (aPair .holder) [] 0).hw ∧ horizon (mirrored (aPair .holder) [] 0).hw < ({ aPair .holder with
      expires := 9000000 } : Pair).expires) := by decide +kernel
theorem witness_MirrorEvents_takeover : takeoverAt (mirrored (aPair .standby) [] 0).hw (aPair .standby) = some 0
    ∧ takeoverAt (mirrored (aPair .holder) [] 0).hw (aPair .holder) = none
    ∧ takeoverAt (mirrored (aPair .standby) [] 0).hw { aPair .standby with partnerExpires := 900000 } = none
    ∧ takeoverAt (mirrored (aPair .standby) [] 0).hw { aPair .standby with partnerExpires := 900000, released := some (5, 0) } = some 5
    ∧ pairedPlan (mirrored (aPair .standby) [] 0).hw 0 = none ∧ pairedPlan (running7 0 (aPair .standby)).hw 0 ≠ none
    ∧ 0 ≤ horizon (mirrored (aPair .standby) [] 0).hw := by decide +kernel

/-! ## The host attachment -/

/-- A region of each type at 0x10000 of partition memory, of 64 KiB: inbox with one slot of 64 B, ring of queue pair 1 with slots of 64 B. -/
def aRegion (type : Nat) : Region := ⟨0, 1, 1, 0, type, 0x10000, 0x10000, 1, 1, 64, 77, 0, 1, [], 0⟩

/-- A request that has left, with one packet. -/
def work (retries : Nat) : WorkReq := ⟨.turret, 0, 0, 0, 0, [], 0, 1, true, 0, retries, false, false, retries, 0, 0⟩

/-- Queue pair 1 in a state with that region. -/
def attached (q : Qp) (regions : List Region) (mem : Mem := []) : State :=
  st { live with host := { qps := [q], regions := regions, channels := [(0, { opened := true, key := 88 })], halves := [(0, { link := 1 })] } } mem

/-- The same module with stack 0 in reset; with a rack of a group on queue pair 1. -/
def resetting : State := { attached (aQp 1 []) [aRegion 1] with
  hw := { (attached (aQp 1 []) [aRegion 1]).hw with hang := { resets := [{ inReset with kind := 4, unit := 0 }] } } }
def racked : State := { attached (aQp 1 []) [] with hw := { (attached (aQp 1 []) []).hw with coll := { groups := [{ group7 with racks := [(1, 1)] }] } } }

theorem test_rdma_write_places : after (exec (.rdmaWrite 1 0 77 0x10000 [1, 2] false .plain) (attached (aQp 1 []) [aRegion 1])) (fun t =>
    (t.mem, (t.hw.host.qps.map (fun q => q.rqPsn)))) = some ([⟨0x10000, 1⟩, ⟨0x10001, 2⟩], [1]) := by decide +kernel
theorem test_atomic_refused : after (exec (.rdmaWrite 1 0 77 0x10000 [1, 2] false .atomic) (attached (aQp 1 []) [aRegion 1])) (fun t => t.mem) = some [] := by
  decide +kernel
theorem witness_RdmaRequests_turn : (∀ x ∈ [0, 1], findQp (attached (aQp x []) []).hw 1 = some (aQp x []))
    ∧ (cupolaLive (attached (aQp 1 []) []).hw = true ∧ findQp (st live).hw 1 = none ∧ cupolaLive (st {}).hw = false)
    ∧ (∀ x ∈ [(0, 0), (1, 1), (2 ^ 23 - 1, 2 ^ 23 - 1), (2 ^ 23, 2 ^ 23), (2 ^ 24 - 1, 2 ^ 24 - 1)], (x.1 + 2 ^ 24 - (aQp 1 []).rqPsn % 2 ^ 24) % 2 ^ 24 = x.2)
    ∧ (let t (n : Nat) : Qp := { aQp 1 [] with cnpSentAt := some n }
       (beginWork (attached (aQp 1 []) [])).hw.time.now < (t 0).cnpSentAt.getD 0 + 50 * 1000
       ∧ (aQp 1 []).cnpSentAt = none ∧ findQp (beginWork (attached (t 0) [])).hw 1 = some (t 0))
    ∧ (isPaused (attached (aQp 1 []) []).hw 0 0 = false
      ∧ isPaused (st { live with host := { halves := [(0, { link := 1, pausedUntil := [(0, 5)] })] } }).hw 0 0 = true) := by decide +kernel
theorem witness_RdmaRequests_reach : (∀ t ∈ [1, 2, 3], regionOfKey (attached (aQp 1 []) [aRegion t]).hw 77 = some (aRegion t))
    ∧ (regionTakesWrite (aRegion 1) 0x1FFFF 1 = true ∧ regionTakesWrite (aRegion 1) 0x20000 1 = false
      ∧ regionTakesRead (aRegion 1) 0x10000 1 = true ∧ regionTakesRead (aRegion 3) 0x10000 1 = false
      ∧ regionTakesWrite (aRegion 2) 0x10800 16 = true ∧ (aRegion 2).base + 0x800 + 32 * 0 = 0x10800 ∧ 0 < (aRegion 2).slots)
    ∧ (rangeInReset (attached (aQp 1 []) []).hw 0x10000 = false ∧ rangeInReset resetting.hw 0x10000 = true)
    ∧ ((beginWork (attached (aQp 1 []) [])).good 0x10000 1 = true ∧ (beginWork (spoiled 0x10000 (attached (aQp 1 []) []))).good 0x10000 1 = false)
    ∧ (regionOfKey (attached (aQp 1 []) []).hw 88 = none ∧ channelTakes (attached (aQp 1 []) []).hw (aQp 1 []) 88 (requestAddr 0 0) 16 = true
      ∧ channelTakes (attached (aQp 1 []) []).hw (aQp 1 []) 88 0 16 = false)
    ∧ ((attached (aQp 1 []) [aRegion 3]).hw.host.regions.find? (fun r => r.type == 3 && r.ringQp == 1) = some (aRegion 3)
      ∧ (attached (aQp 1 []) [aRegion 1]).hw.host.regions.find? (fun r => r.type == 3 && r.ringQp == 1) = none
      ∧ bit ((beginWork (attached (aQp 1 []) [])).num (0x10000 + 64 - 16 + 8) 1) 0 = false
      ∧ bit ((beginWork (attached (aQp 1 []) [] [⟨0x10038, 1⟩])).num (0x10000 + 64 - 16 + 8) 1) 0 = true)
    ∧ (isRackQp racked.hw 1 = true ∧ isRackQp (attached (aQp 1 []) []).hw 1 = false) := by decide +kernel

theorem test_ack_completes : after (exec (.rdmaAck 1 0 none false) (attached (aQp 1 [work 0]) [])) (fun t => t.hw.host.qps.map (fun q => q.outstanding.length))
    = some [0] := by decide +kernel
/-- The work of an acknowledgement of the request before. -/
def ackedBefore (n : Nat) : Work :=
  ackUpTo 1 ((0 + 2 ^ 24 - 1) % 2 ^ 24) 1 (countReceived (aQp 1 [work n]) 1 (wireBytes 1 0) (beginWork (attached (aQp 1 [work n]) [])))
/-- A request that has not left. -/
def unsent : WorkReq := { work 0 with sent := false }
theorem witness_QueuePairs : (∀ n ∈ [0, 1], findQp (attached (aQp 1 [work n]) []).hw 1 = some (aQp 1 [work n]))
    ∧ (findQp (attached (aQp 0 []) []).hw 1 = some (aQp 0 []) ∧ findQp (st live).hw 1 = none ∧ (st {}).hw.power.cupola = false)
    ∧ (psnUpTo 0 (work 0).lastPsn = true ∧ psnUpTo ((0 + 2 ^ 24 - 1) % 2 ^ 24) (work 0).lastPsn = false ∧ (aQp 1 []).retry = 1 ∧ (aQp 1 []).rnr = 1)
    ∧ (∀ n ∈ [0, 1], (oldestWork (ackedBefore n).hw 1).map (fun x => (x.1.retry, x.2)) = some (1, work n))
    ∧ oldestWork (beginWork (attached (aQp 1 []) [])).hw 1 = none
    ∧ ((work 0).sentAt + 4096 * 2 ^ (aQp 1 []).ackT ≤ horizon (attached (aQp 1 [work 0]) []).hw
      ∧ horizon (attached (aQp 1 []) []).hw < 0 + 4096 * 2 ^ ({ aQp 1 [] with ackT := 20 } : Qp).ackT)
    ∧ (max (aQp 1 []).cnpAt (aQp 1 []).alphaAt + 55 * 1000 ≤ horizon (attached (aQp 1 []) []).hw
      ∧ horizon (attached (aQp 1 []) []).hw < max ({ aQp 1 [] with cnpAt := 1000000 } : Qp).cnpAt 0 + 55 * 1000)
    ∧ (isSafe (attached (aQp 1 []) []).hw = false ∧ unsent.sent = false) := by decide +kernel

/-- Port code 8 as given, whose half is the PTP port of master 7. -/
def ported (x : EthHalf) : State := st { live with host := { halves := [(0, x)], ptpPorts := 1, ptpUsed := some (0, 7) } }
/-- The same, with the time of its port at which an LLDP frame is due, or one nanosecond before. -/
def aging (now : Nat) : Hw := { (ported { link := 1, lldpAt := some 0 }).hw with time := later now }

theorem witness_EthernetPorts : (halfExists (ported {}).hw 0 = true ∧ halfExists (ported {}).hw 1 = false)
    ∧ (∀ n ∈ [0, 1], (halfOf (ported { link := n }).hw 0).link = n)
    ∧ (cupolaLive (ported {}).hw = true ∧ cupolaLive (st {}).hw = false ∧ (ported {}).hw.keep.linked = true ∧ (st {}).hw.keep.linked = false)
    ∧ (ptpAccepted (ported {}).hw 0 0 = true ∧ ptpAccepted (ported {}).hw 0 1 = false ∧ (ported {}).hw.host.ptpUsed = some (0, 7))
    ∧ (∀ d ∈ [none, some (4 : Int)], (halfOf (ported { link := 1, ptpDelay := d, ptpSync := d }).hw 0).ptpDelay = d
      ∧ (halfOf (ported { link := 1, ptpDelay := d, ptpSync := d }).hw 0).ptpSync = d)
    ∧ (∀ l ∈ [none, some ([1], [2])], (halfOf (ported { link := 1, lldp := l }).hw 0).lldp = l)
    ∧ (∀ a ∈ [0, 5], (halfOf (ported { link := 1, ipv4 := a }).hw 0).ipv4 = a)
    ∧ (30000000000 ≤ horizon (aging 29999000000) ∧ horizon (aging 29998999999) < 30000000000) := by decide +kernel
theorem witness_EthernetPorts_buffers : (isPaused (ported {}).hw 0 0 = false ∧ isPaused (ported { pausedUntil := [(0, 9)] }).hw 0 0 = true)
    ∧ (∀ off ∈ [0, 1], bit (halfOf (ported { xoff := off }).hw 0).xoff 0 = (off == 1)) := by decide +kernel
theorem test_xoff_then_xon : (let sent (x : EthHalf) (fill : Nat) := (judgeFill 0 0 fill (beginWork (ported x))).hw.tx.length
    (sent {} (192 * 1024 + 1), sent {} (192 * 1024), sent { xoff := 1 } (96 * 1024), sent { xoff := 1 } (96 * 1024 - 1))) = (1, 0, 0, 1) := by decide +kernel

theorem test_mgmt_write_places : after (exec (.mgmtWrite 16 0 16 0 (BitVec.ofNat 48 (requestAddr 16 0)) ([1] ++ zeros 15)) (linked { state := .active })) (fun t => t.mem)
    = some [⟨requestAddr 16 0, 1⟩] := by decide +kernel
/-- A module before its work area is loaded. -/
def heldPhase (n : Nat) : Hw := { live with keep := { live.keep with phase := n } }
theorem witness_ManagementPort : ((linked {}).hw.keep.lpUp = true ∧ State.reset.hw.keep.lpUp = false)
    ∧ (inMgmtArea 16 (requestAddr 16 0) 1024 = true ∧ inMgmtArea 16 0 16 = false ∧ within (loadArea 16) 1024 (loadArea 16) 0x10000000 = true
      ∧ within (requestAddr 17 0) 16 (requestAddr 17 0) 0x80000 = true)
    ∧ (∀ n ∈ [1, 2, 9], (heldPhase n).keep.phase = n)
    ∧ ((beginWork (linked {})).good (requestAddr 16 0) 16 = true
      ∧ (beginWork (spoiled (requestAddr 16 0) (linked {}))).good (requestAddr 16 0) 16 = false)
    ∧ (endpointOf (linked {}).hw 0 = 0 ∧ bit 0x40004 18 = true ∧ bit 4 18 = false ∧ 0x40004 % 2 ^ 18 = 4 ∧ 4 / 256 = 0 / 256 ∧ 256 / 256 ≠ 0 / 256)
    ∧ (State.reset.hw.power.aon = true ∧ ({ aon := false } : PowerSt).aon = false) := by decide +kernel
/-- A request for 256 bytes of channel 16, relayed. -/
def relayedRead : List Byte := [3, 16] ++ zeros 2 ++ leBytes 2 256 ++ zeros 4 ++ leBytes 6 (requestAddr 16 0)
theorem witness_ManagementPort_relay : (∀ x ∈ [((linked { state := .active }).hw, rx0, 1), (sharedOut.hw, rx0, 1)], InOrder x.1 x.2.1 x.2.2)
    ∧ ((portOf (linked { state := .active }).hw 0).lowIn < lowLimit (linked { state := .active }).hw 0 1
      ∧ ¬ (portOf sharedOut.hw 0).lowIn < lowLimit sharedOut.hw 0 1)
    ∧ (field (leBytes 16 2) 0 1 ∈ [2, 4, 5] ∧ field (leBytes 16 1) 0 1 ∉ [2, 4, 5] ∧ field ([1, 17] ++ zeros 14) 1 1 = 17)
    ∧ ((mgmtAnswer (leBytes 16 1) [] true (beginWork (linked {}))).1.length ≤ 240
      ∧ 240 < (mgmtAnswer relayedRead [] true (beginWork (linked {}))).1.length) := by
  refine ⟨inOrders _ ?_, ?_⟩ <;> decide +kernel

/-! ## The Belfry ring -/

/-- A frame of a source to a destination with payload zero but for its first two bytes. -/
def frame (src dst hops b0 b1 : Byte) : BFrame := ⟨src, dst, hops, #v[b0, b1, 0, 0, 0, 0, 0, 0, 0, 0, 0, 0]⟩
/-- A module at seat 2 of an open ring. -/
def seated (l : LanternSt) : State := st { live with lantern := { l with up := true, bypassOpen := true, seat := some 2 } }
/-- The same, halted and cooled without flow. -/
def halted : State := { seated { powerState := 3, coolantAssumed := false, coolant := [(0, none, some 0)] } with
  hw := { (seated { powerState := 3, coolantAssumed := false, coolant := [(0, none, some 0)] }).hw with power := { live.power with haltedWake := true } } }

theorem test_seat_assign : after (exec (.seatAssign (frame 0 8 0 0 3)) (seated {})) (fun t => t.hw.lantern.seat) = some (some 3) := by decide +kernel
theorem test_lease_holding : after (exec (.lease ⟨0, 8, 0, #v[0, 0, 0, 0x34, 0x12, 0, 0, 0, 0, 0, 0, 0]⟩) (seated {})) (fun t => t.hw.lantern.held) = some 0x234 := by
  decide +kernel
theorem test_frame_forwarded : after (exec (.belfryFrameForward 3 (frame 5 4 1 0 0) true) (seated {})) (fun t => t.hw.tx)
    = some [.belfry (belfryBytes 3 5 4 2 (zeros 12))] := by decide +kernel
theorem witness_BelfryFrames : (State.reset.hw.lantern.bypassOpen = false ∧ (seated {}).hw.lantern.bypassOpen = true
      ∧ (seated {}).hw.power.aon = true ∧ ({ aon := false } : PowerSt).aon = false)
    ∧ ((seated {}).hw.lantern.seat = some ((2 : Byte).toNat % 8) ∧ (seated {}).hw.lantern.seat ≠ some ((5 : Byte).toNat % 8))
    ∧ (bit (8 : Byte).toNat 3 = true ∧ bit (2 : Byte).toNat 3 = false)
    ∧ (∀ t ∈ [1, 3, 4, 5, 6, 7], payloadOk t (frame 0 8 0 0 0).payload.toList = true) ∧ payloadOk 9 (frame 0 8 0 0 0).payload.toList = false
    ∧ ((frame 0 8 0 0 0).src.toNat < 8 ∧ (frame 0 8 0 0 0).dst.toNat < 16 ∧ (frame 0 8 0 0 0).src.toNat = 0 ∧ (frame 5 8 0 0 0).src.toNat ≠ 0) := by
  decide +kernel
theorem witness_BelfryFrames_contents :
    (∀ o ∈ [true, false], (beginWork (seated { orphan := o })).hw.lantern.orphan = o)
    ∧ (field (frame 0 8 0 1 0).payload.toList 0 1 = 1 ∧ field (frame 0 8 0 0 0).payload.toList 0 1 ≠ 1)
    ∧ ((beginWork (seated {})).hw.lantern.seat = some 2 ∧ (beginWork (st live)).hw.lantern.seat = none)
    ∧ (∀ n ∈ [0, 1, 7, 8], field (frame 0 8 0 0 (BitVec.ofNat 8 n)).payload.toList ((0 : Byte).toNat + 1) 1 = n)
    ∧ (∀ x ∈ [seated { powerState := 2 }, seated { powerState := 3 }, halted, seated { powerState := 4 }], (beginWork x).hw.lantern.powerState ∈ [2, 3, 4])
    ∧ (halted.hw.power.haltedWake = true ∧ flowBelow halted.hw 2000 = true ∧ (seated { powerState := 3 }).hw.power.haltedWake = false) := by decide +kernel

theorem witness_BelfryTimers : (0 + 3 * period (seated {}).hw ≤ horizon { (seated { marker := some (0, 7) }).hw with time := later 2000000 }
      ∧ horizon (seated { marker := some (0, 7) }).hw < 0 + 3 * period (seated {}).hw)
    ∧ (∀ b ∈ [true, false], ({ mismatchRun := 3, mismatch := b } : TimeSt).mismatchRun = 3 ∧ ({ mismatchRun := 3, mismatch := b } : TimeSt).mismatch = b)
    ∧ (∀ b ∈ [true, false], (seated { masterless := b, orphan := b }).hw.lantern.masterless = b ∧ (seated { masterless := b, orphan := b }).hw.lantern.orphan = b)
    ∧ (50000000 ≤ horizon { (seated {}).hw with time := later 49000000 } ∧ horizon { (seated {}).hw with time := later 48000000 } < 50000000)
    ∧ ((seated { beatAt := some 0 }).hw.lantern.beatAt.getD 0 + 30000000000 ≤ horizon { (seated {}).hw with time := later 29999000000 }
      ∧ horizon { (seated {}).hw with time := later 29998000000 } < 30000000000)
    ∧ (∀ n ∈ [2, 3], (seated { coolantMiss := n }).hw.lantern.coolantMiss = n)
    ∧ ((seated {}).hw.lantern.up = true ∧ State.reset.hw.lantern.up = false ∧ (seated {}).hw.lantern.seat = some 2
      ∧ 10000000 ≤ horizon { (seated { sentBeatAt := some 0 }).hw with time := later 9000000 }
      ∧ horizon (seated { sentBeatAt := some 0 }).hw < 0 + 10000000) := by decide +kernel

/-! ## Power and temperature -/

/-- The powered module with its pins and supply as given. -/
def power (p : PowerSt) : State := st { live with power := { p with aon := true, cupola := true, spireOn := [0, 1, 2, 3] } }
/-- A flush of the supply warning; the module with that flush, without its Keep, without Lantern, or without its AON domain. -/
def warnFlush : Flush := flush .warning none
def flushed (p : PowerSt) : State := { power p with hw := { (power p).hw with pager := { flushes := [warnFlush] } } }
def keepless (p : PowerSt) : State := { power p with hw := { (power p).hw with keep := {} } }
def unlit (p : PowerSt) : State := { power p with hw := { (power p).hw with lantern := { up := false } } }
def unpowered : State := st { live with power := { aon := false } }
/-- The powered module at a time. -/
def timed (p : PowerSt) (now : Nat) : Hw := { (power p).hw with time := later now }

theorem test_supply_warning : after (exec (.supplyWarning 4699) (power {})) (fun t => (t.hw.power.warning, t.hw.pager.flushes.map (fun f => f.kind)))
    = some (true, [.warning]) := by decide +kernel
theorem witness_SupplyEvents : (∀ r ∈ [true, false], (power { retained := r }).hw.power.retained = r ∧ (power { retained := r }).hw.power.aon = true)
    ∧ (lanternRuns (power {}).hw = true ∧ lanternRuns (unlit {}).hw = false ∧ unpowered.hw.power.aon = false)
    ∧ ((4699 : BitVec 16).toNat < 4700 ∧ (4700 : BitVec 16).toNat = 4700 ∧ (4299 : BitVec 16).toNat < 4300 ∧ (4300 : BitVec 16).toNat = 4300
      ∧ 5950 < (5951 : BitVec 16).toNat ∧ (6000 : BitVec 16).toNat = 6000 ∧ 6000 < (6001 : BitVec 16).toNat
      ∧ (4800 : BitVec 16).toNat ≤ 4800 ∧ 4800 < (4801 : BitVec 16).toNat)
    ∧ (∀ x ∈ [power {}, flushed {}, keepless {}], (let warned := sendAlert 1 (raise 21 0 0 0 0 (forceLowest 2 (modPower (fun q => { q with
          warning := true
          warningSeen := true
          warnClear := false
          warnAt := some (q.warnAt.getD x.hw.time.now) }) (bump 7 0 1 (sample 6 0 4699 (modPower (fun q => { q with inputV := 4699 }) (beginWork x)))))))
        (pagerLive warned.hw, warningFlush warned.hw) = (pagerLive x.hw, warningFlush x.hw)))
    ∧ (pagerLive (power {}).hw = true ∧ warningFlush (power {}).hw = false ∧ pagerLive (keepless {}).hw = false ∧ warningFlush (flushed {}).hw = true)
    ∧ (∀ a ∈ [none, some 0], (power { warning := true, warnAt := a }).hw.power.warning = true ∧ (power { warnAt := a }).hw.power.warnAt = a) := by decide +kernel

/-- Spire 0 in a droop since 0, or after one that detector 0 saw end at 0. -/
def drooping : PowerSt := { spires := [(0, { droopSince := some 0 })] }
def drooped : PowerSt := { spires := [(0, { droopEnded := [(0, 0)] })] }
theorem witness_RegulatorAndDroop : (∀ b ∈ [true, false], (power { vrAlert := b }).hw.power.vrAlert = b ∧ (power { vrReported := b }).hw.power.vrReported = b)
    ∧ (10000000000 ≤ horizon (timed { vrSince := some 0 } 9999000000) ∧ horizon (timed { vrSince := some 0 } 9998000000) < 10000000000)
    ∧ ((power {}).hw.power.spireOn.contains 0 = true ∧ unpowered.hw.power.spireOn.contains 0 = false)
    ∧ ((spirePower (power {}).hw 0).droopSince = none ∧ (spirePower (power drooping).hw 0).droopSince = some 0)
    ∧ ((spirePower (power drooped).hw 0).droopEnded.find? (fun e => e.1 == 0) = some (0, 0)
      ∧ (spirePower (power drooped).hw 0).droopEnded.find? (fun e => e.1 == 1) = none
      ∧ (timed drooped 999).time.now < 0 + 1000 ∧ ¬ (timed drooped 1000).time.now < 0 + 1000)
    ∧ ((199 : Byte).toNat < 200 ∧ 200 ≤ (200 : Byte).toNat ∧ 0 + 200 ≤ horizon (power drooping).hw
      ∧ horizon (power drooping).hw < 1000001 + 199) := by decide +kernel
theorem test_droop_by_detector : (∀ x ∈ [((0 : Fin 8), 999, 0), (0, 1000, 1), (1, 999, 1)],
    after (exec (.droop 0 x.1) (st (timed drooped x.2.1))) (fun t => ctrOf t.hw 7 3) = some x.2.2) := by decide +kernel

theorem test_trip_latches : after (exec (.thermalTrip 3) (power {})) (fun t => (t.hw.power.tripLatch, t.hw.power.spireOn)) = some (true, []) := by decide +kernel
/-- Spot 0 with its sensor pair latest at `latest`, published as `status`, differing since `since`. -/
def spotted (latest status : Nat) (since : Option Nat) : State := power { spots := [(0, { latest := latest, status := status, absentSince := since })] }
theorem witness_TemperaturesAndMargins_pairs :
    (∀ x ∈ [(0, 0), (2, 0), (0, 2), (3, 3)], (spotOf (spotted x.1 x.2 (some 0)).hw 0).latest = x.1 ∧ (spotOf (spotted x.1 x.2 (some 0)).hw 0).status = x.2)
    ∧ (spotOf (spotted 0 2 (some 0)).hw 0).absentSince = some 0
    ∧ (1000000000 ≤ (timed {} 1000000000).time.now ∧ (timed {} 999999999).time.now < 0 + 1000000000)
    ∧ (emergencyDue (power { spots := [(0, { history := [(0, 10800)] })] }).hw 0 = true ∧ emergencyDue (power {}).hw 0 = false
      ∧ (spirePower (power {}).hw 0).emergency = false ∧ (spirePower (power {}).hw 0).hotSince = none)
    ∧ (10000000 ≤ horizon (timed { spires := [(0, { hotSince := some 0 })] } 9000000)
      ∧ horizon (timed { spires := [(0, { hotSince := some 0 })] } 8000000) < 10000000) := by decide +kernel
theorem witness_TemperaturesAndMargins_trips : (∀ l ∈ [true, false], (power { tripLatch := l, tripCupola := l, pwrEn := l }).hw.power.tripLatch = l
      ∧ (power { tripLatch := l, tripCupola := l, pwrEn := l }).hw.power.pwrEn = l ∧ (power { tripLatch := l, tripCupola := l }).hw.power.tripCupola = l)
    ∧ ((120 : Nat) ≤ (120 : Fin 128).val ∧ ¬ (120 : Nat) ≤ (119 : Fin 128).val)
    ∧ (max (power { tripAt := some 0 }).hw.power.pwrEnAt 0 + 100000000 ≤ horizon (timed { tripAt := some 0 } 99000000)
      ∧ horizon (timed {} 98000000) < 100000000)
    ∧ (PowerMove.cut ∈ (power { moves := [.cut] }).hw.power.moves ∧ PowerMove.cut ∉ (power {}).hw.power.moves)
    ∧ (isReady (power {}).hw = true ∧ (power {}).hw.lantern.powerState < 3 ∧ isReady (st {}).hw = false)
    ∧ ((power { poweredMs := 2592000000 }).hw.power.nextReview ≤ poweredHours (power { poweredMs := 2592000000 }).hw
      ∧ poweredHours (power { poweredMs := 2591999999 }).hw < (power { poweredMs := 2591999999 }).hw.power.nextReview) := by decide +kernel

theorem test_power_removed : after (exec .domainRemoval (power { moves := [.removal true false 5] })) (fun t => t.hw.power.spireOn) = some [] := by decide +kernel
/-- The module with inlet or flow trouble. -/
def troubled (l : LanternSt) : Hw := { (power {}).hw with lantern := { l with up := true } }
/-- The removal of a module that is due. -/
def dueRemoval (s : State) : Option PowerMove := s.hw.power.moves.find? (fun m => match m with | .removal _ _ u => due s.hw u | _ => false)
theorem witness_PowerSequence_supply : (∀ b ∈ [true, false], (power { pwrEn := b, retained := b }).hw.power.pwrEn = b ∧ (power { retained := b }).hw.power.retained = b)
    ∧ (4800 < (power { inputV := 4801 }).hw.power.inputV ∧ (power { inputV := 4800 }).hw.power.inputV ≤ 4800)
    ∧ (isSafe { (power {}).hw with fault := { safe := some 0 } } = true ∧ isSafe (power {}).hw = false ∧ (power {}).hw.power.tripCupola = false
      ∧ (power {}).hw.keep.failed = false)
    ∧ (pagerLive (power {}).hw = true ∧ pagerLive (keepless {}).hw = false ∧ warningFlush (flushed {}).hw = true ∧ warningFlush (power {}).hw = false)
    ∧ ((unlit {}).hw.lantern.up = false ∧ (power {}).hw.lantern.up = true) := by decide +kernel
theorem witness_PowerSequence_coolant :
    least (({ lowFlowSince := some 0 } : LanternSt).lowFlowSince.toList.map (fun t => t + 1000000000)) = some 1000000000
    ∧ (1000000000 ≤ horizon (timed {} 999000000) ∧ horizon (timed {} 998000000) < 1000000000)
    ∧ (lanternRuns (power {}).hw = true ∧ haltRuns (power {}).hw = false)
    ∧ (lossDue (troubled { lowFlowRun := 2, coolantAssumed := false }) = true ∧ lossDue (troubled {}) = false)
    ∧ (∀ m ∈ [0, 3], (power { coolantMode := m }).hw.power.coolantMode = m)
    ∧ (∀ dark ∈ [true, false], dueRemoval (power { moves := [.removal dark false 5] }) = some (.removal dark false 5))
    ∧ dueRemoval (power {}) = none
    ∧ (∀ b ∈ [true, false], (power { waking := b }).hw.power.waking = b) ∧ (seated { powerState := 3 }).hw.lantern.powerState = 3 := by decide +kernel

/-! ## Keep: checks, recovery, starts -/

theorem test_locked_register : after (exec (.registerWrite .turret .tickConfig 0x200000) (power {})) (fun t => (t.hw.time.floor, t.hw.fault.history.map (fun e => e.source)))
    = some (32, [3]) := by decide +kernel
theorem test_register_by_keep : after (exec (.registerWrite .keep .tickConfig 0x200000) (power {})) (fun t => (t.hw.time.floorNext, t.hw.fault.history))
    = some (some 32, []) := by decide +kernel
theorem test_register_range : after (exec (.registerWrite .keep .tickConfig 0x0F0000) (power {})) (fun t => (t.hw.time.floorNext, t.hw.fault.history))
    = some (none, []) := by decide +kernel
/-- The scrub notes a corrected error of row 0, seen before in the passes `l`. -/
def scrubbing (l : List (Nat × Nat × Nat)) : Work :=
  (noteCorrected 0 0 (beginWork (power { hbmOn := [0] }))).up fun h => { h with fault := { h.fault with scrubHits := l ++ [(0, 0, 0)] } }

theorem witness_KeepChecks : ((power {}).hw.keep.turretUp = true ∧ (power {}).hw.power.cupola = true ∧ (power {}).hw.fault.safe ≠ some 1
      ∧ State.reset.hw.keep.turretUp = false)
    ∧ (∀ r ∈ [true, false], (power { retained := r }).hw.power.aon = true ∧ (power { retained := r }).hw.power.retained = r)
    ∧ unpowered.hw.power.aon = false
    ∧ (parityUnit 1 255 = true ∧ parityUnit 1 256 = false)
    ∧ (contextHolder (planned {}).hw 1 ≠ none ∧ contextHolder (planned {}).hw 2 = none)
    ∧ (bits 0x200000 22 16 = 32 ∧ bits 0x0F0000 22 16 = 15 ∧ bits 0x410000 22 16 = 65 ∧ floorConflict (power {}).hw 32 = none)
    ∧ (inTiers (12 * 2 ^ 36 - 1) 1 = true ∧ scrubbed (power { hbmOn := [0] }).hw (memUnit 0) = true ∧ scrubbed (power {}).hw (memUnit 0) = false
      ∧ scrubbed (power { lpddrOn := true }).hw (memUnit tier2Base) = true)
    ∧ ((rowPasses (scrubbing []).hw.fault 0).length < 3 ∧ 3 ≤ (rowPasses (scrubbing [(0, 7, 0), (0, 8, 0)]).hw.fault 0).length) := by decide +kernel

/-- Core 5 is in its reset step until 1000; a start of type 2 at its limit. -/
def returning (warning : Bool) : State := st { (power { warning := warning }).hw with hang := { resets := [inReset] } }
def startingAt (phase : Nat) (k : KeepSt) : State :=
  st { live with keep := { k with phase := phase, startAt := some 0, startType := 2 }, time := later 74999000000 }
def anImage (activate : Bool) : ImageWrite := ⟨16, 0, default, activate⟩

theorem witness_DomainsAndLimits : (∀ b ∈ [true, false], resetOf (returning b).hw 1 5 = some inReset ∧ (returning b).hw.power.warning = b)
    ∧ (resetOf (power {}).hw 1 5 = none ∧ (returning false).hw.time.now ≤ inReset.deadline ∧ inReset.deadline ≤ horizon (returning false).hw
      ∧ inReset.deadline < (later 1001).now ∧ horizon (returning false).hw < ({ inReset with deadline := 2000000 } : DomainReset).deadline)
    ∧ (startLimitOf (startingAt 3 {}).hw.keep.startType = some 75000000000 ∧ (startingAt 3 {}).hw.keep.startAt = some 0 ∧ startLimitOf 3 = none)
    ∧ (starting (startingAt 1 {}).hw.keep = true ∧ starting (startingAt 7 {}).hw.keep = true ∧ starting (startingAt 8 {}).hw.keep = false)
    ∧ ((startingAt 3 {}).hw.keep.excludeFrom = none ∧ 0 + 75000000000 + (startingAt 3 {}).hw.keep.excluded ≤ horizon (startingAt 3 {}).hw
      ∧ horizon (startingAt 3 {}).hw < 0 + 75000000000 + ({ excluded := 1000000 } : KeepSt).excluded)
    ∧ (∀ a ∈ [true, false], (startingAt 3 { imageWrite := some (anImage a) }).hw.keep.imageWrite = some (anImage a))
    ∧ (startingAt 3 {}).hw.keep.imageWrite = none := by decide +kernel

theorem test_start_checks_bundle : after (exec (.start true true true 0) State.reset) (fun t => (t.hw.keep.phase, t.hw.keep.bootCount)) = some (3, 1) := by decide +kernel
theorem test_start_drops_bad_training : after (exec (.start true true true 1) (st { State.reset.hw with keep := { State.reset.hw.keep with trained := [(0, 5), (1, 5)] } }))
    (fun t => t.hw.keep.trained.map (fun e => e.1)) = some [1] := by decide +kernel
/-- In a start with the Spires up, with core 9 fetched or not. -/
def fetched9 (l : List Nat) : State := startingAt 4 { spiresUp := true, fetched := l }
theorem witness_StartPhases_first : (mayStartModule State.reset.hw = true ∧ mayStartModule (startingAt 3 {}).hw = false
      ∧ bundleFits { bundle := none } = false ∧ bundleFits { bundle := some default } = true)
    ∧ (∀ b ∈ [true, false], (startingAt 3 { turretUp := b }).hw.keep.phase = 3 ∧ (startingAt 3 { turretUp := b }).hw.keep.turretUp = b)
    ∧ (let x := startingAt 4 { turretUp := true }
       starting x.hw.keep = true ∧ x.hw.keep.turretUp = true ∧ x.hw.keep.spiresUp = false ∧ x.hw.power.warning = false ∧ x.hw.keep.linked = false) := by decide +kernel
theorem witness_StartPhases_cores : (∀ l ∈ [[9], []], starting (fetched9 l).hw.keep = true ∧ (fetched9 l).hw.keep.spiresUp = true
      ∧ (fetched9 l).hw.keep.fetched.contains 9 = l.contains 9)
    ∧ (starting (planned {}).hw.keep = false ∧ isReady (planned {}).hw = true ∧ isSafe (planned {}).hw = false ∧ isReady (st {}).hw = false)
    ∧ ((([{ aPlan with fetching := [0] }] : List Plan).find? (fun p => p.fetching.contains 0)).isSome = true
      ∧ (planned {}).hw.plans.plans.find? (fun p => p.fetching.contains 0) = none)
    ∧ ((fetchCore 9 (prepareFetch 1 9 (coreRuntime (fetched9 []).hw) (beginWork (fetched9 [])))).1 = 0
      ∧ (fetchCore 9 (beginWork (fetched9 []))).1 ≠ 0) := by decide +kernel
theorem witness_StartPhases_memory : (let x := startingAt 5 { spiresUp := true, drained := true, fetched := List.range 256 }
      starting x.hw.keep = true ∧ phaseOf x.hw.keep = 5 ∧ x.hw.keep.spiresUp = true ∧ x.hw.keep.drained = true ∧ x.hw.power.warning = false
      ∧ (addRemaps [] (beginWork x)).hw.keep.failed = false)
    ∧ (addRemaps [(0, 0)] (beginWork (startingAt 5 { failed := true }))).hw.keep.failed = true := by decide +kernel

/-! ## Time and frames -/

/-- The plan in frame 0, or at rest; `first` says that a first overrun is held. -/
def running (first : Option (List Byte)) : FrameRun := ⟨0, 0, first, 0, first.isSome⟩
def planIn (abort : Bool) (f : Option FrameRun) : Plan := { aPlan with abort := abort, firstFrame := some 0, frame := f }
def framed (abort : Bool) (f : Option FrameRun) (core : CoreSt) : State :=
  let s := planned core
  { s with hw := { s.hw with
      time := { deadlineDone := false }
      plans := { plans := [planIn abort f] } } }
/-- The same with its cores at rest. -/
def rested (abort : Bool) (f : Option FrameRun) : Hw := { (framed abort f {}).hw with cores := [] }
/-- In holdover since 0, at a time. -/
def heldOver (now : Nat) : Hw := { (framed false none {}).hw with time := { later now with holdover := some 0, source := .holdover } }
/-- A new period of 2 ms from the change instant `at_`. -/
def changing (at_ : Nat) : Hw := { State.reset.hw with time := { State.reset.hw.time with periodNext := some (at_, 200) } }

theorem test_tick_moves : after (exec (.frameTick default) State.reset) (fun t => (t.hw.time.tick, t.hw.time.tickAt)) = some (1, 1000000) := by decide +kernel
theorem witness_TicksAndFrames : ((framed false none {}).hw.power.aon = true ∧ unpowered.hw.power.aon = false ∧ (framed false none {}).hw.time.periodNext = none)
    ∧ (nextTick (changing 1000000) ≠ changeAt 1000000 200 ∧ nextTick (changing 0) = changeAt 0 200)
    ∧ ((framed false none {}).hw.time.deadlineDone = false ∧ State.reset.hw.time.deadlineDone = true)
    ∧ (findPlan (framed false (some (running none)) {}).hw 1 = some (planIn false (some (running none))) ∧ findPlan (framed false none {}).hw 1 = some (planIn false none)
      ∧ findPlan (framed false none {}).hw 2 = none)
    ∧ (frameDone (rested false (some (running none))) (planIn false (some (running none))) (running none) = true
      ∧ frameDone (framed false (some (running none)) {}).hw (planIn false (some (running none))) (running none) = false)
    ∧ (sourceOf 1 = .plane ∧ sourceOf 2 = .ptp ∧ sourceOf 3 = .marker ∧ sourceOf 4 = .holdover)
    ∧ ((ported {}).hw.host.ptpUsed = some (0, 7) ∧ State.reset.hw.host.ptpUsed = none)
    ∧ (60000000000 ≤ horizon (heldOver 59999000000) ∧ horizon (heldOver 59998000000) < 60000000000 ∧ State.reset.hw.time.holdover = none) := by decide +kernel
theorem witness_FrameOutcomes_ends : (∀ a ∈ [true, false], ∀ x ∈ [none, some [1]],
      findPlan (beginWork (framed a (some (running x)) {})).hw 1 = some (planIn a (some (running x)))
      ∧ frameDone (beginWork (framed a (some (running x)) {})).hw (planIn a (some (running x))) (running x) = false
      ∧ frameDone (rested a (some (running x))) (planIn a (some (running x))) (running x) = true)
    ∧ (running none).number = (beginWork (framed false none {})).hw.time.tick ∧ findPlan (beginWork (framed false none {})).hw 1 = some (planIn false none) := by decide +kernel
theorem witness_FrameOutcomes_starts : (frameDue (planIn false none) 0 = true ∧ frameDue { planIn false none with firstFrame := some 1 } 0 = false
      ∧ frameDue { planIn false none with lastFrame := some 0 } 1 = false ∧ mayStart (framed false none {}).hw 0 0 = true)
    ∧ ((planIn false none).coreList.any (fun c => coreFenced (framed false none {}).hw c) = false
      ∧ (planIn false none).coreList.any (fun c => coreFenced { (framed false none {}).hw with hang := { resets := [{ inReset with unit := 0 }] } } c) = true)
    ∧ ((planIn false none).coreList.all (fun c => coreLive (framed false none {}).hw c) = true
      ∧ (planIn false none).coreList.all (fun c => coreLive unpowered.hw c) = false)
    ∧ ((planIn false none).slipTick ≠ some 0 ∧ ({ planIn false none with slipTick := some 0 } : Plan).slipTick = some 0
      ∧ ({ planIn false none with fetching := [0] } : Plan).fetching ≠ []) := by decide +kernel

/-! ## The mailbox -/

/-- A request at slot 0 of a channel: `SEQ` 1, its code and payload; `signer` gives the counter of one signed with `weakKey`. -/
def request (channel code : Nat) (payload : List Byte) (signer : Option Nat := none) : Request :=
  ⟨channel, 0, leBytes 4 1 ++ leBytes 2 code ++ leBytes 2 (b2n signer.isSome) ++ leBytes 4 payload.length ++ zeros 52 ++ payload
    ++ zeros (4096 - 64 - 96 - payload.length) ++ (match signer with
      | some n => leBytes 8 1 ++ leBytes 8 n ++ leBytes 64 1 ++ zeros 16
      | none => zeros 96), 0, 0, false, none⟩

/-- Key 1 with every role. Its public key is the neutral point, under which the signature (neutral point, 0) verifies over any message. -/
def weakKey : OpKey := ⟨1, 1, 7, 0⟩

/-- The module with the request waiting. -/
def mail (hw : Hw) (r : Request) (mem : Mem := []) : State :=
  st { hw with host := { hw.host with requests := hw.host.requests ++ [r] }, keep := { hw.keep with keys := [weakKey] } } mem

/-- A point that is neutral: (0 : c : c). -/
def neutral (p : EdPoint) : Prop := p.x = 0 ∧ p.t = 0 ∧ p.y = p.z

theorem neutral_add {p q : EdPoint} (hp : neutral p) (hq : neutral q) : neutral (edAdd p q) := by
  obtain ⟨px, pt, py⟩ := hp
  obtain ⟨qx, qt, qy⟩ := hq
  have hP : 0 < edP := by decide
  have ha : (p.y + edP - p.x) * (q.y + edP - q.x) % edP = p.z * q.z % edP := by
    rw [px, qx, py, qy, Nat.sub_zero, Nat.sub_zero, Nat.mul_mod, Nat.add_mod_right, Nat.add_mod_right, ← Nat.mul_mod]
  have hb : (p.y + p.x) * (q.y + q.x) % edP = p.z * q.z % edP := by rw [px, qx, py, qy, Nat.add_zero, Nat.add_zero]
  have hd : 2 * p.z * q.z % edP = 2 * (p.z * q.z % edP) % edP := by rw [Nat.mul_assoc, Nat.mul_mod, Nat.mul_mod 2 (p.z * q.z % edP), Nat.mod_mod]
  refine ⟨?_, ?_, ?_⟩ <;> simp only [edAdd, ha, hb, pt, Nat.mul_zero, Nat.zero_mul, Nat.zero_mod, Nat.sub_zero, Nat.add_sub_cancel_left, Nat.mul_mod_right,
    Nat.add_zero]
  generalize p.z * q.z % edP = b at hd
  rw [hd]
  have h1 : (2 * b % edP) * (b + b) % edP = (2 * b % edP) * (2 * b % edP) % edP := by
    rw [← Nat.two_mul, Nat.mul_mod, Nat.mod_mod, Nat.mul_mod (2 * b % edP) (2 * b % edP), Nat.mod_mod]
  have h2 : (2 * b % edP + edP) * (2 * b % edP) % edP = (2 * b % edP) * (2 * b % edP) % edP := by
    rw [Nat.mul_mod, Nat.add_mod_right, ← Nat.mul_mod]
  rw [h1, h2]

theorem neutral_mul (n : Nat) : ∀ (k : Nat) {p acc : EdPoint}, neutral p → neutral acc → neutral (edMul n k p acc) := by
  induction n with
  | zero => intro k p acc _ ha; exact ha
  | succ n ih =>
    intro k p acc hp ha
    unfold edMul
    apply ih _ (neutral_add hp hp)
    split
    · exact neutral_add ha hp
    · exact ha

/-- The signature of `weakKey` verifies over every message. -/
theorem weak_verifies (msg : List Byte) : edVerify 1 msg (leBytes 64 1) = true := by
  have ho : neutral ⟨0, 1, 1, 0⟩ := ⟨rfl, rfl, rfl⟩
  have hd : edDecompress 1 = some ⟨0, 1, 1, 0⟩ := by
    have h : (edDecompress 1).map (fun p => (p.x, p.y, p.z, p.t)) = some (0, 1, 1, 0) := by decide +kernel
    cases hx : edDecompress 1 with
    | none => rw [hx] at h; cases h
    | some p =>
      rw [hx] at h
      cases p
      simp at h
      simp [h]
  have h1 : field (leBytes 64 1) 0 32 = 1 := by decide +kernel
  have h2 : field (leBytes 64 1) 32 32 = 0 := by decide +kernel
  unfold edVerify
  simp only [h1, h2, hd]
  rw [if_neg (by decide)]
  have hb : neutral (edScale (8 * 0) (edAffine edBx edBy)) := by
    have h : (let p := edScale (8 * 0) (edAffine edBx edBy); (p.x, p.t, p.y == p.z)) = (0, 0, true) := by decide +kernel
    simp only [Prod.mk.injEq, beq_iff_eq] at h
    exact h
  have hs := neutral_add (neutral_mul 512 8 ho ho)
    (neutral_mul 512 (8 * (leNat (sha512 (slice (leBytes 64 1) 0 32 ++ leBytes 32 1 ++ msg)) % edL)) ho ho)
  obtain ⟨bx, _, bz⟩ := hb
  obtain ⟨sx, _, sz⟩ := hs
  unfold edSame edScale at *
  rw [bx, sx, bz, sz]
  simp [Nat.mul_comm]

/-- The work that the signature check leaves, where the request needs no signature or carries the one of `weakKey`. -/
def accepted (r : Request) (w : Work) : Option Work :=
  if !r.isSigned then (if mustSign r then none else some w)
  else if field r.bytes 0xFA0 8 = 1 ∧ slice r.bytes 0xFB0 64 = leBytes 64 1 ∧ 0 < field r.bytes 0xFA8 8 then
    some (w.up fun h => { h with keep := { h.keep with
      keys := h.keep.keys.map (fun x => if x.id == 1 then { x with counter := field r.bytes 0xFA8 8 } else x) } })
  else none

theorem signature_accepted {r : Request} {w v : Work} (hk : w.hw.keep.keys = [weakKey]) (h : accepted r w = some v) : checkSignature r w = (none, v) := by
  unfold accepted at h
  unfold checkSignature
  split
  · next h2 =>
    rw [if_pos h2] at h
    split at h
    · cases h
    · next h3 => cases h; rw [if_neg h3]
  · next h2 =>
    rw [if_neg h2] at h
    split at h
    · next h3 =>
      obtain ⟨h4, h5, h6⟩ := h3
      cases h
      have hf : findKey w.hw 1 = some weakKey := by simp [findKey, hk, weakKey]
      have hr : ¬ weakKey.roles &&& rolesNeeded r ≠ rolesNeeded r := by
        unfold rolesNeeded weakKey
        split <;> split <;> (try split) <;> decide
      have hc : ¬ field r.bytes 0xFA8 8 ≤ weakKey.counter := by unfold weakKey; simp; omega
      have hv (msg : List Byte) : edVerify weakKey.pub msg (slice r.bytes 0xFB0 64) = true := by rw [h5]; exact weak_verifies msg
      simp only [h4, hf, hv, Bool.not_true, Bool.false_eq_true, if_false, if_neg hr, if_neg hc]
    · cases h

/-- A check of the fields of `Passes` but the signature, in a module whose other requests have started. -/
def passing (hw : Hw) (r : Request) (permit : Hw → Request → Bool) : Bool :=
  hw.host.requests.all (fun q => q.started) && !r.started && (!isSafe hw || servedSafe r) && (hw.keep.phase != 15 || servedFailed r.code)
    && (hw.keep.phase != 2 || servedRecovery r.code) && (decide (17 ≤ r.channel) || isReady hw || servedEarly r.code)
    && channelListed r.channel r.code && permit (beginWork (mail hw r)).hw r

/-- What the module answers to a request that passes its checks: the status of the response, or 0xFFFF where the command goes on in its slot. -/
def answer (hw : Hw) (r : Request) (permit : Hw → Request → Bool) (act : Request → Work → Answer) (mem : Mem := []) : Option Nat :=
  match accepted r (beginWork (mail hw r mem)) with
  | none => none
  | some w =>
    if passing hw r permit then
      match act r w with
      | .reply status _ _ => some status
      | .later _ _ => some 0xFFFF
    else none

/-- Where `answer` is not none, the request passes its checks, and `answer` is what its command makes of it. -/
theorem passes_of_answer {hw : Hw} {r : Request} {permit : Hw → Request → Bool} {act : Request → Work → Answer} {mem : Mem} {n : Nat}
    (h : answer hw r permit act mem = some n) :
    ∃ w, Passes (mail hw r mem) r.code permit r.channel r.slot r w ∧ n = match act r w with
      | .reply status _ _ => status
      | .later _ _ => 0xFFFF := by
  unfold answer at h
  split at h
  · cases h
  · next w hw1 =>
    split at h
    · next p =>
      simp only [passing, Bool.and_eq_true, Bool.or_eq_true, Bool.not_eq_true', bne_iff_ne, decide_eq_true_eq] at p
      obtain ⟨⟨⟨⟨⟨⟨⟨h0, h1⟩, h2⟩, h3⟩, h4⟩, h5⟩, h6⟩, h7⟩ := p
      refine ⟨w, ⟨?_, fun h => ?_, fun h => ?_, fun h => ?_, fun h1 h2 => ?_, h6, h7, signature_accepted rfl hw1⟩, ?_⟩
      · have hf : hw.host.requests.find? (fun q => !q.started) = none := by
          rw [List.find?_eq_none]
          intro x hx
          have := List.all_eq_true.mp h0 x hx
          simp [this]
        simp [takesRequest, nextRequest, mail, st, List.find?_append, hf, h1]
      · exact h2.resolve_left (fun x => by simp only [mail, st, isSafe] at h x; rw [x] at h; cases h)
      · exact h3.resolve_left (fun x => x h)
      · exact h4.resolve_left (fun x => x h)
      · rcases h5 with (x | x) | x
        · omega
        · simp only [mail, st, isReady] at h2 x; rw [x] at h2; cases h2
        · exact x
      · split at h <;> (cases h; rfl)
    · cases h

set_option maxRecDepth 200000

theorem test_nop_passes : ∃ w, Passes (mail live (request 16 0x01 [])) 0x01 anyOwner 16 0 (request 16 0x01 []) w :=
  (passes_of_answer (act := doNop) (n := stDone) (by decide +kernel)).imp fun _ h => h.1
theorem witness_MailboxRefusals : takesRequest State.reset.hw 0x01 16 0 = none
    ∧ takesRequest (mail live (request 16 0x01 [])).hw 0x01 16 0 = some (request 16 0x01 [])
    ∧ isSafe { live with fault := { safe := some 0 } } = true ∧ servedSafe (request 16 0x01 []) = false ∧ servedSafe (request 17 0x95 []) = true
    ∧ servedFailed 0x22 = false ∧ servedFailed 0x95 = true ∧ servedRecovery 0x22 = false ∧ servedRecovery 0x91 = true
    ∧ isReady State.reset.hw = false ∧ servedEarly 0x22 = false ∧ servedEarly 0x28 = true ∧ channelListed 17 0x10 = false ∧ channelListed 16 0x10 = true
    ∧ (checkSignature (request 16 0x91 []) (beginWork (mail live (request 16 0x91 [])))).1 = some stBadSignature
    ∧ (checkSignature (request 17 0x01 []) (beginWork (mail live (request 17 0x01 [])))).1 = some stBadSignature := by decide +kernel

/-- What a command names, at its place in the operands: a queue pair, a region, a plan (and a ring's queue pair), a partition, a context, a fault. -/
def byQp (k : Nat) (hw : Hw) (r : Request) : Bool := ownQp hw r (r.arg k 2)
def byRegion (k : Nat) (hw : Hw) (r : Request) : Bool := ownRegion hw r (r.arg k 2)
def byPlan (k : Nat) (hw : Hw) (r : Request) : Bool := ownPlan hw r (r.arg k 4)
def byRing (hw : Hw) (r : Request) : Bool := ownPlan hw r (r.arg 0 4) && (r.arg 6 1 != 3 || ownQp hw r (r.arg 0x1A 2))
def byPart (hw : Hw) (r : Request) : Bool := ownPart hw r (r.arg 0 1)
def byContext (hw : Hw) (r : Request) : Bool := ownContext hw r (r.arg 0 2)
def byFault (hw : Hw) (r : Request) : Bool := ownFault hw r (r.arg 0 2)

/-- A DOMAIN_RESET of a port, with its answer still to come. -/
def portReset (kind unit : Nat) : Hw := { live with hang := { resets := [{ inReset with kind := kind, unit := unit, answers := [(16, 1, 0)] }] } }
/-- A plan-holding module, one with channel 0 open, and one with queue pair 1. -/
def planHw : Hw := (planned {}).hw
def openHw : Hw := { live with host := { channels := [(0, { opened := true, mask := 1 })] } }
def qpHw (q : Qp) : Hw := { live with host := { qps := [q] } }
/-- A started command that holds a target, in slot 1 of channel 16. -/
def holding (kind n : Nat) (hw : Hw) : Hw :=
  { hw with host := { hw.host with requests := [{ request 16 0x20 [] with slot := 1, started := true, target := some (kind, n) }] } }

theorem witness_ChannelCommands : [
      answer live (request 16 0x01 []) anyOwner doNop, answer live (request 16 0x01 (zeros 4)) anyOwner doNop,
      answer live (request 16 0x02 (zeros 16)) anyOwner doChannelOpen, answer openHw (request 16 0x02 (zeros 16)) anyOwner doChannelOpen,
      answer live (request 16 0x02 ([16] ++ zeros 15)) anyOwner doChannelOpen,
      answer live (request 16 0x03 (zeros 4)) anyOwner doChannelClose, answer planHw (request 16 0x03 (zeros 4)) anyOwner doChannelClose,
      answer live (request 16 0x04 (zeros 16 ++ leBytes 8 16 ++ zeros 8)) (byQp 2) doOutboxSet,
      answer (qpHw (aQp 1 [])) (request 16 0x04 ([0, 0, 1] ++ zeros 13 ++ leBytes 8 16 ++ zeros 8)) (byQp 2) doOutboxSet,
      answer live (request 16 0x08 (zeros 8)) anyOwner doEthPortSet,
      answer { live with plans := { plans := [{ aPlan with links := [(8, 0, 1)] }] } } (request 16 0x08 (zeros 8)) anyOwner doEthPortSet,
      answer (portReset 6 0) (request 16 0x08 (zeros 8)) anyOwner doEthPortSet, answer (portReset 6 0) (request 16 0x09 ([8] ++ zeros 23)) anyOwner doEthAddrSet,
      answer live (request 16 0x09 ([8] ++ zeros 23)) anyOwner doEthAddrSet,
      answer live (request 16 0x0A ([8, 0] ++ leBytes 2 55 ++ leBytes 2 55 ++ leBytes 2 100 ++ leBytes 2 100 ++ leBytes 2 1000)) anyOwner doEthCongSet,
      answer live (request 16 0x0B (zeros 20)) anyOwner doPtpSet, answer live (request 16 0x0C []) anyOwner doEthStatus]
    = [stDone, stMalformed, stDone, stNoResource, stMalformed, stDone, stPlanActive, stNotFound, stDone,
      stDone, stPlanActive, stTargetBusy, stTargetBusy, stDone, stDone, stDone, stDone].map some := by decide +kernel

/-- The payload of QP_CONNECT for queue pair 1, and of REGION_REGISTER of type 0 in entry 0 of a plan. -/
def connect1 : List Byte := [1, 0, 1] ++ zeros 45
def register (plan entry : Nat) : List Byte := leBytes 4 plan ++ leBytes 4 entry ++ zeros 8 ++ leBytes 8 4096 ++ zeros 8
/-- The module whose plan has a region entry; and one with region 0. -/
def regionHw : Hw := { planHw with plans := { plans := [{ aPlan with reservations := [⟨1, 0, 1, 1, 0, 0, 0, 0, 0, 0x20000⟩] }] } }
def region0Hw : Hw := { planHw with host := { regions := [aRegion 1] } }
/-- A copy of page 0 of object 5 to region 0 in progress, of slot 1. -/
def copying : ObjCopy := ⟨0, 1, false, 0, 5, 0, 1, 0, 0, 0⟩

theorem witness_QueuePairCommands : [
      answer { openHw with hang := (portReset 6 0).hang } (request 16 0x10 [0, 0, 0, 8]) anyOwner doQpCreate,
      answer openHw (request 16 0x10 [0, 0, 0, 8]) anyOwner doQpCreate, answer openHw (request 16 0x10 [0xFF, 0xFF, 0, 8]) anyOwner doQpCreate,
      answer { openHw with host := { openHw.host with qps := [aQp 1 []] } } (request 16 0x10 [1, 0, 0, 8]) anyOwner doQpCreate,
      answer live (request 16 0x10 [0, 0, 0, 8]) anyOwner doQpCreate,
      answer live (request 16 0x11 connect1) (byQp 0) doQpConnect,
      answer (qpHw (aQp 1 [work 0])) (request 16 0x11 connect1) (byQp 0) doQpConnect,
      answer (qpHw (aQp 1 [])) (request 16 0x11 connect1) (byQp 0) doQpConnect,
      answer live (request 16 0x12 [1, 0, 0, 0]) anyOwner doQpDestroy, answer (qpHw (aQp 1 [work 0])) (request 16 0x12 [1, 0, 0, 0]) anyOwner doQpDestroy,
      answer (qpHw (aQp 1 [])) (request 16 0x12 [1, 0, 0, 0]) anyOwner doQpDestroy,
      answer live (request 16 0x13 [1, 0, 0, 0]) (byQp 0) doQpStatus,
      answer (qpHw (aQp 1 [])) (request 16 0x13 [1, 0, 0, 0]) (byQp 0) doQpStatus]
    = [stTargetBusy, stDone, stDone, stQpState, stMalformed, stNotFound, stQpState, stDone, stNotFound, stTargetBusy, stDone,
      stNotFound, stDone].map some := by decide +kernel
theorem witness_QueuePairCommands_regions : [
      answer (holding 5 1 regionHw) (request 0 0x14 (register 1 0)) byRing doRegionRegister,
      answer regionHw (request 0 0x14 (register 2 0)) byRing doRegionRegister,
      answer regionHw (request 0 0x14 (register 1 1)) byRing doRegionRegister,
      answer planHw (request 0 0x14 (register 1 0)) byRing doRegionRegister,
      answer regionHw (request 0 0x14 (register 1 0)) byRing doRegionRegister,
      answer live (request 16 0x15 (zeros 4)) (byRegion 0) doRegionRelease,
      answer { region0Hw with host := { region0Hw.host with copies := [copying] } } (request 16 0x15 (zeros 4)) (byRegion 0) doRegionRelease,
      answer region0Hw (request 16 0x15 (zeros 4)) (byRegion 0) doRegionRelease]
    = [stTargetBusy, stNotFound, stNotFound, stNotPermitted, stDone, stNotFound, stTargetBusy, stDone].map some := by decide +kernel

theorem lowestFree_none {used : List Nat} : ∀ n k, (∀ i, k ≤ i → i < k + n → used.contains i = true) → lowestFree used n k = none
  | 0, _, _ => rfl
  | n + 1, k, h => by
    unfold lowestFree
    rw [if_pos (h k (Nat.le_refl k) (by omega))]
    exact lowestFree_none n (k + 1) fun i h1 h2 => h i (by omega) (by omega)

/-- With 4,096 queue pairs, or 256 regions, no index is free. -/
theorem witness_QueuePairCommands_full :
    lowestFree (((List.range 4096).map (fun i => { aQp 1 [] with index := i })).map (fun q => q.index)) 4096 0 = none
    ∧ lowestFree (((List.range 256).map (fun i => { aRegion 1 with index := i })).map (fun x => x.index)) 256 0 = none := by
  constructor <;> exact lowestFree_none _ _ fun i _ h => by simp; omega
/-- A ring that names a queue pair of another channel is not owned (R348). -/
theorem witness_ring_of_another : byRing { regionHw with host := { regionHw.host with qps := [{ aQp 1 [] with channel := 1 }] } }
      (request 0 0x14 (leBytes 4 1 ++ [0, 0, 3] ++ zeros 19 ++ leBytes 2 1 ++ zeros 12)) = false
    ∧ byRing { regionHw with host := { regionHw.host with qps := [aQp 1 []] } }
      (request 0 0x14 (leBytes 4 1 ++ [0, 0, 3] ++ zeros 19 ++ leBytes 2 1 ++ zeros 12)) = true := by decide +kernel

/-- The least plan of R45 at a revision, with identifier `id`, of partition 0 of 1: no core, no engine, no port; its `body` is `resv` reservations and
`groups` groups. PLAN_ADMIT of it at the load area of a channel. -/
def planWith (rev : Byte) (id resv groups : Nat) (body : List Byte) : List Byte :=
  [1, 0, 0, 0] ++ leBytes 4 id ++ [rev, 0, 100, 0, 1, 0] ++ zeros 26 ++ leBytes 2 resv ++ leBytes 2 groups ++ zeros 4
    ++ leBytes 4 (64 + body.length) ++ leBytes 4 (crc32c body) ++ zeros 8 ++ body
def leastPlan (rev : Byte) : List Byte := planWith rev 2 0 0 []
/-- A reservation of R46 in the first place of its kind; a group of endpoint 4 on plane port 0. -/
def resvEntry (kind : Byte) (pages obj pins : Nat) : List Byte :=
  [kind, 0, 0, 0] ++ leBytes 4 pages ++ leBytes 4 obj ++ leBytes 4 pins ++ leBytes 4 0xFFFFFFFF ++ zeros 12
def groupEntry : List Byte := leBytes 4 7 ++ leBytes 2 1 ++ [1, 0] ++ leBytes 4 4096 ++ zeros 4 ++ leBytes 4 48 ++ zeros 12 ++ leBytes 4 4 ++ zeros 12
def cells (base : Nat) (bs : List Byte) : Mem := ((numbered base bs).filter (fun e => e.2 != 0)).map (fun e => ⟨e.1, e.2⟩)
def admits (len : Nat) (channel : Nat := 16) : Request := request channel 0x20 (leBytes 8 (loadArea channel) ++ leBytes 4 len ++ zeros 4)
/-- What PLAN_ADMIT of a plan answers. -/
def admitting (hw : Hw) (b : List Byte) (channel : Nat := 16) : Option Nat :=
  answer hw (admits b.length channel) anyOwner admitRequest (cells (loadArea channel) b)
/-- The plan whose cores need 600 us besides matrix work at floor 32 and so cannot be met at 16. -/
def heavyPlan : Plan := { aPlan with cores := [⟨0, 0, 600000, 0, 1⟩] }

theorem witness_PlanCommands : [
      answer (holding 1 0 live) (admits 64) anyOwner admitRequest, answer live (admits 0x10000001) anyOwner admitRequest,
      answer live (admits 64) anyOwner admitRequest (cells (loadArea 16) (leastPlan 1)),
      answer live (admits 64) anyOwner admitRequest (cells (loadArea 16) (leastPlan 0)),
      answer (holding 5 1 planHw) (request 16 0x21 (leBytes 8 1)) (byPlan 0) doPlanRelease,
      answer planHw (request 16 0x21 (leBytes 8 2)) (byPlan 0) doPlanRelease,
      answer planHw (request 16 0x21 (leBytes 8 1)) (byPlan 0) doPlanRelease,
      answer planHw (request 16 0x22 (zeros 4)) anyOwner doPlanList,
      answer planHw (request 16 0x23 [2, 0, 0, 0]) byContext doCtxStatusRead,
      answer planHw (request 16 0x23 [1, 0, 0, 0]) byContext doCtxStatusRead,
      answer planHw (request 16 0x24 (zeros 4)) byFault doCoreFaultRead,
      answer (planned { fault := some default }).hw (request 16 0x24 (zeros 4)) byFault doCoreFaultRead,
      answer live (request 16 0x25 [60, 0, 0, 0]) anyOwner doOverrunRead, answer live (request 16 0x25 [61, 0, 0, 0]) anyOwner doOverrunRead]
    = [stTargetBusy, stMalformed, 0x20, 0xFFFF, stTargetBusy, stNotFound, stDone, stDone, stNotFound, stDone,
      stNotFound, stDone, stDone, stMalformed].map some := by decide +kernel
/-- The module with object 5 free and a copy of it in progress; with group 7 of another plan; with an unreadable row in the load area. -/
def copyHw : Hw := { live with pager := { objects := [{ object5 with bound := none }] }, host := { copies := [copying] } }
def groupedHw : Hw := { live with coll := { groups := [group7] } }
/-- A module whose tier 2 another plan fills. -/
def filledHw : Hw := { live with plans := { plans := [{ aPlan with id := 9, cores := [], spillPages := 2 ^ 32 }] } }
theorem witness_PlanCommands_refusals : [
      admitting { live with bad := [loadArea 16] } (leastPlan 0), admitting live ((leastPlan 0).take 63), admitting (holding 5 2 live) (leastPlan 0),
      admitting copyHw (planWith 0 2 1 0 (resvEntry 5 0 5 0)), admitting planHw (planWith 0 1 0 0 []), admitting live (planWith 0 2 1 0 (resvEntry 7 1 0 0)),
      admitting live (leastPlan 0) 0, admitting openHw (leastPlan 0) 0, admitting live (planWith 0 2 1 0 (resvEntry 0 0x7FFFFFFF 0 0)),
      admitting live (planWith 0 2 1 0 (resvEntry 3 1 0 0x7FFFFFFF)), admitting live (planWith 0 2 1 0 (resvEntry 3 2 0 1)), admitting filledHw (planWith 0 2 1 0 (resvEntry 3 2 0 1)),
      admitting groupedHw (planWith 0 2 0 1 groupEntry), admitting live (planWith 0 2 0 1 groupEntry)]
    = [stUncorrectable, stMalformed, stTargetBusy, stTargetBusy, stMalformed, stMalformed, stNotPermitted, 0xFFFF, stNoCapacity, stNoCapacity, 0xFFFF, stNoCapacity,
      0x2A, 0xFFFF].map some := by decide +kernel
theorem witness_PlanCommands_time : [
      answer (holding 1 0 live) (request 16 0x26 [5, 0, 0, 0]) anyOwner doTickPeriodSet, answer planHw (request 16 0x26 [5, 0, 0, 0]) anyOwner doTickPeriodSet,
      answer live (request 16 0x26 [5, 0, 0, 0]) anyOwner doTickPeriodSet, answer live (request 16 0x26 [4, 0, 0, 0]) anyOwner doTickPeriodSet,
      answer live (request 16 0x27 (zeros 4)) anyOwner doTimeRoleSet, answer live (request 16 0x28 []) anyOwner doTimeRead,
      answer live (request 16 0x29 [15, 0, 0, 0] (some 1)) anyOwner doFloorSet, answer live (request 16 0x29 [16, 0, 0, 0] (some 1)) anyOwner doFloorSet,
      answer { live with plans := { plans := [heavyPlan] } } (request 16 0x29 [16, 0, 0, 0] (some 1)) anyOwner doFloorSet,
      answer (holding 2 0 live) (request 16 0x2A [2, 0, 0, 0]) anyOwner doPartitionSet, answer planHw (request 16 0x2A [2, 0, 0, 0]) anyOwner doPartitionSet,
      answer live (request 16 0x2A [2, 0, 0, 0]) anyOwner doPartitionSet, answer live (request 16 0x2A [3, 0, 0, 0]) anyOwner doPartitionSet]
    = [stTargetBusy, stPlanActive, 0xFFFF, stMalformed, stDone, stDone, stMalformed, stDone, stFloorConflict,
      stTargetBusy, stPlanActive, 0xFFFF, stMalformed].map some := by decide +kernel

/-- The module with object 5 unbound, its plan and region 0; and the payload of a copy of its pages. -/
def free5 : PObj := { object5 with bound := none }
def objectHw (o : PObj) (copies : List ObjCopy) : Hw :=
  { region0Hw with pager := { objects := [o] }, host := { region0Hw.host with copies := copies, channels := [(0, { opened := true, mask := 1 })] } }
def create (pages : Nat) (flags : Byte := 0) : List Byte := zeros 4 ++ leBytes 4 5 ++ leBytes 4 pages ++ [flags, 0, 0, 0]
def copyOf (pages region : Nat) : List Byte := leBytes 4 5 ++ zeros 4 ++ leBytes 4 pages ++ leBytes 2 region ++ zeros 14
def name5 : List Byte := zeros 4 ++ leBytes 4 5
/-- A copy of page 0 in progress in slot 0 of channel 0. -/
def copying0 (write : Bool) : ObjCopy := { copying with slot := 0, write := write }

/-- The module with region 0 of plan `plan`. -/
def regioned (plan : Nat) : Hw := { planHw with host := { regions := [{ aRegion 1 with plan := plan }] } }

theorem witness_ObjectCommands : [
      answer { live with host := { channels := [(0, {})] } } (request 0 0x30 (create 1)) anyOwner doObjectCreate,
      answer (objectHw object5 []) (request 0 0x30 (create 1)) anyOwner doObjectCreate, answer openHw (request 0 0x30 (create 0xFFFFFFFF)) anyOwner doObjectCreate,
      answer openHw (request 0 0x30 (create 1)) anyOwner doObjectCreate, answer openHw (request 0 0x30 (create 0)) anyOwner doObjectCreate,
      answer openHw (request 0 0x30 (create 1 1)) anyOwner doObjectCreate, answer { openHw with host := { openHw.host with copies := [copying] } } (request 0 0x30 (create 1)) anyOwner doObjectCreate,
      answer (objectHw free5 [copying]) (request 0 0x31 name5) byPart doObjectDelete,
      answer openHw (request 0 0x31 name5) byPart doObjectDelete,
      answer (objectHw object5 []) (request 0 0x31 name5) byPart doObjectDelete,
      answer (objectHw free5 []) (request 0 0x31 name5) byPart doObjectDelete,
      answer (objectHw free5 []) (request 0 0x32 (copyOf 0 0)) (byRegion 12) (doObjectCopy false),
      answer (objectHw free5 [copying]) (request 0 0x32 (copyOf 1 0)) (byRegion 12) (doObjectCopy false),
      answer (objectHw free5 []) (request 0 0x32 (copyOf 1 1)) (byRegion 12) (doObjectCopy false),
      answer (objectHw object5 []) (request 0 0x32 (copyOf 1 0)) (byRegion 12) (doObjectCopy false),
      answer (objectHw free5 []) (request 0 0x32 (copyOf 2 0)) (byRegion 12) (doObjectCopy false),
      answer (objectHw free5 []) (request 0 0x32 (copyOf 1 0)) (byRegion 12) (doObjectCopy false),
      answer (objectHw free5 []) (request 0 0x33 (copyOf 1 0)) (byRegion 12) (doObjectCopy true),
      answer (regioned 2) (request 16 0x32 (copyOf 1 0)) (byRegion 12) (doObjectCopy false), answer (regioned 1) (request 16 0x32 (copyOf 1 0)) (byRegion 12) (doObjectCopy false),
      answer { objectHw free5 [] with pager := {} } (request 0 0x32 (copyOf 1 0)) (byRegion 12) (doObjectCopy false),
      answer (objectHw free5 [copying]) (request 0 0x34 name5) byPart doObjectStatus,
      answer openHw (request 0 0x34 name5) byPart doObjectStatus,
      answer (objectHw free5 []) (request 0 0x34 name5) byPart doObjectStatus,
      answer live (request 16 0x35 (zeros 4)) anyOwner doJournalFlush,
      answer openHw (request 0 0x36 (zeros 4)) byPart doPagerRead]
    = [stNotPermitted, stObjectExists, stNoCapacity, stDone, stMalformed, stMalformed, stTargetBusy, stTargetBusy, stNotFound, stObjectBusy, stDone,
      stMalformed, stTargetBusy, stNotFound, stObjectBusy, stMalformed, 0xFFFF, 0xFFFF, stNotFound, stNotPermitted, stNotFound,
      stTargetBusy, stNotFound, stDone, 0xFFFF, stDone].map some := by decide +kernel
theorem witness_ObjectCommands_copy : ((objectHw free5 [copying0 false]).host.copies.find? (fun y => y.channel == 0 && y.slot == 0)) = some (copying0 false)
    ∧ pagerLive (objectHw free5 []) = true ∧ findRegion (objectHw free5 []) 0 = some (aRegion 1) ∧ findObject (objectHw free5 []) 0 5 = some free5
    ∧ (copyPages (copying0 false) (aRegion 1) free5 .good 1 0 (beginWork (st (objectHw free5 [])))).1 = 1
    ∧ (copyPages (copying0 false) (aRegion 1) free5 .failed 1 0 (beginWork (st (objectHw free5 [])))).2.1 = true
    ∧ (copyPages (copying0 true) (aRegion 1) free5 .good 1 0 (beginWork (st { objectHw free5 [] with pager := { objects := [free5], flushes := [warnFlush] } }))).1 = 0
    ∧ (copyPages (copying0 true) (aRegion 1) free5 .good 1 0 (beginWork (st { objectHw free5 [] with pager := { objects := [free5], flushes := [warnFlush] } }))).2.1 = false
    ∧ live.host.copies.find? (fun y => y.channel == 0 && y.slot == 0) = none := by decide +kernel

/-- A module with group 7 of the plan, and one with port 0 in a state; one whose trace ring holds a record, readable or not. -/
def groupHw : Hw := { planHw with coll := { groups := [group7] } }
def portHw (x : PortState) : Hw := { live with links := { ports := [(0, { state := x })] } }
def ringHw (lost : Bool) : Hw := { live with burin := { next := 1 }, bad := if lost then [ringAddr live 0] else [] }

theorem witness_PortAndObservationCommands : [
      answer planHw (request 0 0x40 (leBytes 8 7)) anyOwner doGroupRead, answer groupHw (request 1 0x40 (leBytes 8 7)) anyOwner doGroupRead,
      answer groupHw (request 0 0x40 (leBytes 8 7)) anyOwner doGroupRead, answer groupHw (request 0 0x40 (leBytes 4 7 ++ [1, 0, 0, 0])) anyOwner doGroupRead,
      answer (portHw .init) (request 16 0x41 (zeros 4)) anyOwner doPlinkSet, answer (portHw .disabled) (request 16 0x41 (zeros 4)) anyOwner doPlinkSet,
      answer (portHw .active) (request 16 0x41 [0, 1, 0, 0]) anyOwner doPlinkSet, answer (portHw .init) (request 16 0x41 [0, 2, 0, 0]) anyOwner doPlinkSet,
      answer (portHw .active) (request 16 0x41 [0, 3, 0, 0]) anyOwner doPlinkSet, answer (portHw .active) (request 16 0x41 [0, 4, 0, 0]) anyOwner doPlinkSet,
      answer live (request 16 0x42 [63, 0, 1, 1, 1, 1, 1, 1]) anyOwner doPlinkArbSet, answer live (request 16 0x42 [63, 0, 1, 0, 1, 1, 1, 1]) anyOwner doPlinkArbSet,
      answer (portReset 5 1) (request 16 0x41 [1, 0, 0, 0]) anyOwner doPlinkSet, answer (portReset 5 1) (request 16 0x42 [2, 0, 1, 1, 1, 1, 1, 1]) anyOwner doPlinkArbSet,
      answer live (request 16 0x43 (zeros 4)) anyOwner doPlinkRead, answer live (request 16 0x50 ([1, 0] ++ zeros 6 ++ [1, 0, 0, 0])) anyOwner doCounterRead,
      answer planHw (request 16 0x51 ([0, 5] ++ zeros 30)) mayTrace doTraceSet, answer live (request 16 0x51 ([0, 5] ++ zeros 30)) mayTrace doTraceSet,
      answer live (request 16 0x51 (zeros 32)) mayTrace doTraceSet,
      answer (ringHw true) (request 16 0x52 (zeros 8 ++ leBytes 8 1)) anyOwner doTraceRead, answer (ringHw false) (request 16 0x52 (zeros 8 ++ leBytes 8 1)) anyOwner doTraceRead,
      answer live (request 16 0x53 ([63, 1] ++ zeros 14 ++ [1, 0, 0, 0])) mayMonitor doStippleSet, answer live (request 16 0x53 ([63, 2] ++ zeros 34)) mayMonitor doStippleSet,
      answer live (request 16 0x54 [63, 1, 0, 0]) anyOwner doStippleRead, answer live (request 16 0x54 [41, 23, 1, 0]) anyOwner doStippleRead]
    = [stNotFound, stNotFound, stDone, stDone, stDone, stDone, stDone, stDone, stDone, stMalformed, stDone,
      stMalformed, stTargetBusy, stTargetBusy, stDone, stDone, stPlanActive, stDone, stDone, stUncorrectable, stDone, stDone, stMalformed,
      stDone, stDone].map some := by decide +kernel

theorem witness_RecoveryCommands : [
      answer live (request 16 0x60 [1, 0, 0, 0]) mayAcknowledge doFaultHistoryRead, answer live (request 0 0x60 [0, 0, 0, 0]) mayAcknowledge doFaultHistoryRead,
      answer live (request 16 0x61 ([1, 0, 0, 0, 1, 1]) (some 1)) anyOwner doFaultReactionSet, answer live (request 16 0x61 ([1, 0, 0, 0, 8, 1]) (some 1)) anyOwner doFaultReactionSet,
      answer live (request 16 0x62 [5, 6, 0, 0]) anyOwner doDomainReset, answer live (request 16 0x62 [5, 5, 0, 0]) anyOwner doDomainReset,
      answer live (request 16 0x63 (zeros 4) (some 1)) anyOwner doModuleReset, answer { live with fault := { safe := some 0 } } (request 17 0x63 (zeros 4) (some 1)) anyOwner doModuleReset,
      answer live (request 16 0x64 ([1, 255] ++ zeros 34)) anyOwner doHangSet, answer live (request 16 0x64 ([0, 255] ++ zeros 34)) anyOwner doHangSet,
      answer live (request 16 0x64 ([0, 1, 0, 0] ++ zeros 4 ++ leBytes 4 196608 ++ zeros 24)) anyOwner doHangSet,
      answer live (request 16 0x64 ([0, 1, 0, 0] ++ zeros 4 ++ leBytes 4 196624 ++ zeros 24)) anyOwner doHangSet,
      answer live (request 16 0x64 (zeros 8 ++ leBytes 4 16 ++ zeros 24)) anyOwner doHangSet]
    = [stDone, stDone, stNotPermitted, stDone, stNotFound, 0xFFFF, 0xFFFF, 0xFFFF, stMalformed, stDone, stDone,
      stMalformed, stMalformed].map some := by decide +kernel

/-- A module whose start has failed, its journal drained or not. -/
def failedHw (drained : Bool) : Hw := { live with keep := { live.keep with phase := 15, drained := drained } }

theorem witness_PowerCommands : [
      answer live (request 16 0x70 (leBytes 4 649)) anyOwner doPowerRequest, answer live (request 16 0x70 (leBytes 4 650)) anyOwner doPowerRequest,
      answer live (request 16 0x71 ([4] ++ zeros 7) (some 1)) anyOwner doPowerOrder, answer live (request 16 0x71 ([1] ++ zeros 7) (some 1)) anyOwner doPowerOrder,
      answer (power { moves := [.flushing false false] }).hw (request 16 0x71 ([2] ++ zeros 7) (some 1)) anyOwner doPowerOrder,
      answer live (request 16 0x71 ([3, 0] ++ leBytes 2 8192 ++ leBytes 2 2048 ++ [4, 8]) (some 1)) anyOwner doPowerOrder,
      answer (failedHw true) (request 16 0x71 ([2] ++ zeros 7) (some 1)) anyOwner doPowerOrder,
      answer (failedHw false) (request 16 0x71 ([2] ++ zeros 7) (some 1)) anyOwner doPowerOrder,
      answer (failedHw true) (request 16 0x71 ([1] ++ zeros 7) (some 1)) anyOwner doPowerOrder,
      answer (failedHw false) (request 16 0x71 ([3, 0] ++ leBytes 2 8192 ++ leBytes 2 2048 ++ [4, 8]) (some 1)) anyOwner doPowerOrder,
      answer live (request 17 0x72 [24, 0, 0, 0] (some 1)) anyOwner doOrphanCapSet, answer live (request 17 0x72 [25, 0, 0, 0] (some 1)) anyOwner doOrphanCapSet,
      answer live (request 16 0x73 []) anyOwner doPowerRead, answer live (request 16 0x74 []) anyOwner doAgeingRead]
    = [stMalformed, stDone, stMalformed, 0xFFFF, stTargetBusy, stDone, stDone, stNotPermitted, stNotPermitted, stDone, stMalformed,
      stDone, stDone, stDone].map some := by decide +kernel

/-- A module of rack 1 with the pair, or with none and a plan. -/
def pairHw (p : List Pair) : Hw := { live with mirror := { pairs := p }, links := { base := some (1, 0) } }
def form (n : Nat) : List Byte := leBytes 4 n ++ leBytes 4 6 ++ leBytes 8 9 ++ leBytes 2 64 ++ zeros 14
def lease (mode epoch expires : Nat) : List Byte := leBytes 8 (256 * mode) ++ leBytes 8 epoch ++ leBytes 8 expires ++ zeros 8
/-- The plan with a region entry and the pair; and the setting of window 0 over one granule of that entry. -/
def windowHw (windows : List MirrorWindow) : Hw := { regionHw with mirror := { pairs := [aPair .holder], windows := windows } }
def window (action length units : Nat) : List Byte := leBytes 4 (256 * action) ++ leBytes 4 1 ++ zeros 8 ++ leBytes 8 length ++ leBytes 4 units ++ zeros 4
def held (index plan address : Nat) : MirrorWindow := ⟨index, 0, plan, 0, address, none, 0, 4096, 1, 0, [], 0, false⟩

theorem witness_MirrorCommands : [
      answer { planHw with links := { base := some (1, 0) } } (request 16 0x80 (form 1) (some 1)) anyOwner doPairSet,
      answer (pairHw [aPair .holder]) (request 16 0x80 (form 0) (some 1)) anyOwner doPairSet, answer (pairHw []) (request 16 0x80 (form 1) (some 1)) anyOwner doPairSet,
      answer (pairHw []) (request 16 0x81 (lease 0 2 1000) (some 1)) anyOwner doLeaseGrant,
      answer (pairHw [aPair .holder]) (request 16 0x81 (lease 0 1 1000) (some 1)) anyOwner doLeaseGrant,
      answer (pairHw [aPair .holder]) (request 16 0x81 (lease 0 2 2000000000) (some 1)) anyOwner doLeaseGrant,
      answer (pairHw [aPair .holder]) (request 16 0x81 (lease 2 2 1000) (some 1)) anyOwner doLeaseGrant,
      answer (pairHw []) (request 16 0x82 (zeros 4) (some 1)) anyOwner doSwitchOver, answer (pairHw [aPair .standby]) (request 16 0x82 (zeros 4) (some 1)) anyOwner doSwitchOver,
      answer (pairHw [aPair .holder]) (request 16 0x82 (zeros 4) (some 1)) anyOwner doSwitchOver,
      answer (pairHw [{ aPair .holder with switching := some (16, 1, 0) }]) (request 16 0x82 (zeros 4) (some 1)) anyOwner doSwitchOver,
      answer (windowHw []) (request 0 0x83 (window 1 4096 0)) (byPlan 4) doMirrorWindowSet,
      answer { live with mirror := { pairs := [aPair .holder] } } (request 0 0x83 (window 1 4096 1)) (byPlan 4) doMirrorWindowSet,
      answer (windowHw []) (request 0 0x83 (window 0 4096 1)) (byPlan 4) doMirrorWindowSet,
      answer (windowHw [held 0 2 0]) (request 0 0x83 (window 0 4096 1)) (byPlan 4) doMirrorWindowSet,
      answer (windowHw [held 1 1 0x20000]) (request 0 0x83 (window 1 4096 1)) (byPlan 4) doMirrorWindowSet,
      answer (windowHw [held 0 2 0]) (request 0 0x83 (window 1 4096 1)) (byPlan 4) doMirrorWindowSet,
      answer (windowHw []) (request 0 0x83 (window 1 4096 65536)) (byPlan 4) doMirrorWindowSet,
      answer (windowHw []) (request 0 0x83 (window 1 8191 1)) (byPlan 4) doMirrorWindowSet, answer regionHw (request 0 0x83 (window 1 4096 1)) (byPlan 4) doMirrorWindowSet,
      answer { windowHw [] with plans := { plans := (windowHw []).plans.plans ++ filledHw.plans.plans } } (request 0 0x83 (window 1 4096 1)) (byPlan 4) doMirrorWindowSet,
      answer live (request 16 0x84 (zeros 4)) anyOwner doPairRead]
    = [stPlanActive, stDone, stDone, stMalformed, stMalformed, stDone, stDone, stDone, stDone, 0xFFFF,
      stTargetBusy, stMalformed, stMalformed, stDone, stMalformed, stMalformed, stNoResource, stDone, stMalformed, stMalformed,
      stNoResource, stDone].map some := by
  decide +kernel

/-- A module in service mode; one whose image store is being written; one that lost the first row of the load area of channel 16. -/
def serviceHw : Hw := { live with keep := { live.keep with phase := 9 } }
def writingHw : Hw := { live with keep := { live.keep with imageWrite := some (anImage false) } }
def lostHw : Hw := { live with bad := [loadArea 16] }
def image : List Byte := leBytes 8 (loadArea 16) ++ leBytes 4 64 ++ zeros 4
/-- The payload of KEY_ENROL: add or withdraw key n with the role to enrol. -/
def enrol (op n : Nat) : List Byte := leBytes 8 (op + 256 * (if op = 1 then 4 else 0)) ++ leBytes 8 n ++ zeros 32

/-- No bundle is shown to pass its checks: whether its signature verifies rests on a firmware key, which the spec does not give (log 2). -/
theorem witness_KeepCommands : [
      answer live (request 0 0x90 ([1] ++ zeros 47)) anyOwner doAttest, answer live (request 0 0x90 (zeros 48)) anyOwner doAttest,
      answer writingHw (request 16 0x91 image (some 1)) anyOwner doImageUpdate, answer lostHw (request 16 0x91 image (some 1)) anyOwner doImageUpdate,
      answer live (request 16 0x91 image (some 1)) anyOwner doImageUpdate,
      answer live (request 17 0x92 [5, 57, 0, 0] (some 1)) anyOwner doServiceMode, answer live (request 17 0x92 [5, 58, 0, 0] (some 1)) anyOwner doServiceMode,
      answer serviceHw (request 17 0x92 [1, 0, 0, 0] (some 1)) anyOwner doServiceMode, answer live (request 17 0x92 [1, 0, 0, 0] (some 1)) anyOwner doServiceMode,
      answer live (request 17 0x92 [4, 0, 0, 0] (some 1)) anyOwner doServiceMode, answer serviceHw (request 17 0x92 [3, 0, 0, 0] (some 1)) anyOwner doServiceMode,
      answer serviceHw (request 17 0x92 [4, 0, 0, 0] (some 1)) anyOwner doServiceMode, answer serviceHw (request 17 0x92 [2, 0, 0, 0] (some 1)) anyOwner doServiceMode,
      answer live (request 17 0x93 (enrol 1 1) (some 1)) anyOwner doKeyEnrol, answer live (request 17 0x93 (enrol 1 2) (some 1)) anyOwner doKeyEnrol,
      answer live (request 17 0x93 (enrol 2 1) (some 1)) anyOwner doKeyEnrol,
      answer live (request 0 0x95 (zeros 4)) anyOwner doStateRead, answer live (request 0 0x95 [1, 0, 0, 0]) anyOwner doStateRead,
      answer live (request 0 0x95 [2, 0, 0, 0]) anyOwner doStateRead, answer live (request 0 0x95 [3, 0, 0, 0]) anyOwner doStateRead]
    = [stDone, stDone, stTargetBusy, stUncorrectable, stMalformed, stDone, stMalformed, stNotPermitted, stDone,
      stNotPermitted, stDone, stDone, 0xFFFF, stNotPermitted, stDone, stNotPermitted, stDone, stDone, stDone,
      stDone].map some := by decide +kernel
/-- The topology record of version 1 with no port expected; the withdrawal of key 2 beside key 1 that stays. -/
theorem witness_KeepCommands_rest : topologyOk live ([1, 0] ++ zeros 62 ++ (List.range 8).flatMap (fun _ => [0, 1, 1] ++ zeros 69)) = true
    ∧ (match doKeyEnrol (request 17 0x93 (enrol 2 2)) (beginWork (st { live with keep := { keys := [weakKey, { weakKey with id := 2 }] } })) with
        | .reply status _ w => (status, w.hw.keep.keys)
        | .later _ _ => (0xFFFF, [])) = (stDone, [weakKey]) := by decide +kernel

theorem witness_ResponseWritten : keepOwned 0x01 = false ∧ (request 0 0x01 []).code = 0x01 ∧ (request 0 0x01 []).bytes.length = 4096
    ∧ (request 0 0x01 []).tick < 2 ^ 64 ∧ (beginWork (st live)).good (responseAddr 0 0) 4096 = true ∧ (tabGet {} (st live).hw.host.channels 0).responseAddr = 0
    ∧ (zeros 4032).length = 4032 := by decide +kernel

/-! ## Numbers -/

/-- The check value of the code of R413 over the digits 1 to 9. -/
theorem test_crc16_check : crc16 ((List.range 9).map (fun i => BitVec.ofNat 8 (49 + i))) = 0x29B1 := by decide +kernel
theorem test_lg_product : lgProduct 0x41 0xC1 = decodeLg 0xC2 := by decide +kernel
theorem witness_LogProducts : (0x80 : Byte) = 0x80 ∧ (0x00 : Byte) = 0 ∧ (0xFF : Byte).toNat % 128 ≠ 0 ∧ (0x81 : Byte).toNat % 128 ≠ 0 := by decide

/-! ## Caps -/

/-- A request of 5,000 W lies above the effective cap of any state, since the thermal term is at most 2,800 W (a clause's hypothesis of `CapTerms`). -/
theorem witness_CapTerms : (capTick (beginWork State.reset)).hw.lantern.effectiveCap ≤ 5000 / 5 := by
  have h : ∀ w : Work, (capTick w).hw.lantern.effectiveCap ≤ 1000 := fun w => by
    have h1 : thermalTerm w.hw ≤ 560 := Nat.min_le_left _ _
    have h2 : (capTick w).hw.lantern.effectiveCap
      = min (min (tokenTerm w.hw) (hostTerm w.hw)) (min (thermalTerm w.hw) w.hw.lantern.coolantTerm) % 1024 := rfl
    omega
  exact h _

end Sys2Proof.Tests
end

section
/-! PROOFS. Number formats (04_number_formats): the product of two LG8 codes (R123). -/
namespace Sys2Proof.Machine

open Sys2Proof

/-! ## Bits as numbers -/

theorem b2n_bit (x i : Nat) : b2n (bit x i) = x / 2 ^ i % 2 := by
  rw [b2n, bit, Nat.shiftRight_eq_div_pow]
  rcases Nat.mod_two_eq_zero_or_one (x / 2 ^ i) with h | h <;> simp [h]

theorem b2n_bne (p q : Bool) : b2n (p != q) = (b2n p + b2n q) % 2 := by
  cases p <;> cases q <;> rfl

/-- The sign of a product, as R123 forms it. -/
theorem b2n_bit_bne_bit (a b i : Nat) : b2n (bit a i != bit b i) = (a / 2 ^ i + b / 2 ^ i) % 2 := by
  rw [b2n_bne, b2n_bit, b2n_bit, ← Nat.add_mod]

/-! ## LG8 codes -/

@[simp] theorem decodeLg_invalid : decodeLg 0x80 = .nan := rfl
@[simp] theorem decodeLg_zero : decodeLg 0 = vZero := rfl

/-- The limit of a code to 1 to 127 is the same on the integers as on the naturals, where a sum below 64 is cut to 0. -/
theorem lgLimit_toNat (n : Nat) : (max 1 (min 127 ((n : Int) - 64))).toNat = min 127 (max 1 (n - 64)) := by
  omega

/-! ## The cases of `lgProduct` -/

theorem lgProduct_of_invalid {a b : Nat} (h : a = 0x80 ∨ b = 0x80) : lgProduct a b = .nan := if_pos h

theorem lgProduct_of_zero {a b : Nat} (ha : a ≠ 0x80) (hb : b ≠ 0x80) (h : a = 0 ∨ b = 0) : lgProduct a b = vZero := by
  rw [lgProduct, if_neg (not_or.mpr ⟨ha, hb⟩), if_pos h]

/-- A code with a non-zero magnitude is neither of the two special codes, 0x80 and 0. -/
theorem lgProduct_of_magnitudes {a b : Nat} (ha : a % 128 ≠ 0) (hb : b % 128 ≠ 0) :
    lgProduct a b = decodeLg (128 * ((a / 128 + b / 128) % 2) + min 127 (max 1 (a % 128 + b % 128 - 64))) := by
  have hvalid : ¬ (a = 0x80 ∨ b = 0x80) := by omega
  have hnonzero : ¬ (a = 0 ∨ b = 0) := by omega
  simp only [lgProduct, if_neg hvalid, if_neg hnonzero, b2n_bit_bne_bit, lgLimit_toNat, Nat.mul_comm 128, Nat.reducePow]

/-- Settles O59, by the three cases of `lgProduct`: an invalid operand, a zero operand, two magnitudes. -/
theorem logProducts : Obligations.LogProducts := by
  intro a b
  refine ⟨fun h => ?_, fun ha hb h => ?_, lgProduct_of_magnitudes⟩
  · rw [decodeLg_invalid]
    exact lgProduct_of_invalid (h.imp (congrArg BitVec.toNat) (congrArg BitVec.toNat))
  · rw [decodeLg_zero]
    exact lgProduct_of_zero (BitVec.toNat_ne_iff_ne.mpr ha) (BitVec.toNat_ne_iff_ne.mpr hb)
      (h.imp (congrArg BitVec.toNat) (congrArg BitVec.toNat))

end Sys2Proof.Machine
end

section
/-! PROOFS. Caps and tokens (12_lantern_and_belfry): a host request lowers the effective cap only (R404). -/
namespace Sys2Proof.Machine

open Sys2Proof

/-! ## The least of a list -/

theorem least_cons (x : Nat) (xs : List Nat) : least (x :: xs) = some ((least xs).elim x (min x)) := by
  cases xs with
  | nil => rfl
  | cons y ys => exact congrArg some List.foldl_assoc

/-! ## The lowest of the four terms -/

theorem thermalTerm_le (hw : Hw) : thermalTerm hw ≤ 560 := Nat.min_le_left _ _

/-- The ten bits of the register lose nothing, since the thermal term is at most 560. -/
theorem capTick_effectiveCap (w : Work) : (capTick w).hw.lantern.effectiveCap
    = min (min (tokenTerm w.hw) (hostTerm w.hw)) (min (thermalTerm w.hw) w.hw.lantern.coolantTerm) := by
  have hth := thermalTerm_le w.hw
  exact Nat.mod_eq_of_lt (by omega)

/-! ## One more request -/

/-- The requests with one more of `cap` W, by a channel. -/
def withRequest (channel cap : Nat) (w : Work) : Work :=
  modLantern (fun l => { l with requests := (channel, cap) :: l.requests }) w

section
variable (channel cap : Nat) (w : Work)

@[simp] theorem withRequest_tokenTerm : tokenTerm (withRequest channel cap w).hw = tokenTerm w.hw := rfl
@[simp] theorem withRequest_thermalTerm : thermalTerm (withRequest channel cap w).hw = thermalTerm w.hw := rfl
@[simp] theorem withRequest_coolantTerm :
    (withRequest channel cap w).hw.lantern.coolantTerm = w.hw.lantern.coolantTerm := rfl

/-- Below 0xFFFF, the host term without a request, the new request enters the host term as a minimum. -/
theorem withRequest_hostTerm : min (hostTerm (withRequest channel cap w).hw) 0xFFFF
    = min (cap / 5) (min (hostTerm w.hw) 0xFFFF) := by
  simp only [hostTerm, withRequest, modLantern_lantern, List.map_cons, least_cons]
  cases least (w.hw.lantern.requests.map fun e => e.2 / 5) with
  | none => simp
  | some v => simp [Nat.min_assoc]

/-- The new request enters the effective cap as a minimum, and no other term changes. -/
theorem withRequest_effectiveCap : (capTick (withRequest channel cap w)).hw.lantern.effectiveCap
    = min (cap / 5) (capTick w).hw.lantern.effectiveCap := by
  have hth := thermalTerm_le w.hw
  have hhost := withRequest_hostTerm channel cap w
  simp only [capTick_effectiveCap, withRequest_tokenTerm, withRequest_thermalTerm, withRequest_coolantTerm]
  omega

end

/-- Settles O60: a request enters the effective cap as a minimum, which is one of four terms, two of them Lantern's own.
(The model's register `capTerms` has the name that the obligation's would be.) -/
theorem hostRequest_lowers_cap_only : Obligations.CapTerms := by
  intro w channel cap asked before after
  have hcap : after.effectiveCap = min (cap / 5) before.effectiveCap := withRequest_effectiveCap channel cap w
  have hown : before.effectiveCap ≤ min before.thermalTerm before.coolantTerm :=
    (capTick_effectiveCap w).trans_le (Nat.min_le_right _ _)
  exact ⟨hcap.trans_le (Nat.min_le_right _ _), fun habove => hcap.trans (Nat.min_eq_right habove), Nat.le_min.mp hown⟩

end Sys2Proof.Machine
end

section
/-! PROOFS. The machine: a step, the empty queue, the state after reset, memory's canonical form, and what stops (02_frame_tick). -/
namespace Sys2Proof.Machine

open Sys2Proof

/-! ## A step -/

/-- Settles O1, by the step's own equation for a queue with a front. -/
theorem stepRunsFrontCommand : Obligations.StepRunsFrontCommand := by
  intro c s rest h
  simp only [step, h]

theorem run_next (s : State) (f : Work → Work) (t : State) (h : run s f = .next t) : t = finish s (settle (f (beginWork s))) :=
  (Host.Outcome.next.inj h).symm

/-- Settles O3: every step ends in the stores of some work, or on an idle queue changes no memory. -/
theorem stepKeepsMemoryCanonical : Obligations.StepKeepsMemoryCanonical := by
  intro s t hs h
  unfold step at h
  split at h
  · dsimp only at h
    split at h
    · rw [run_next _ _ _ h]; exact wf_finish _ _ hs
    · cases h; exact hs
  · obtain ⟨f, rfl⟩ := exec_next _ _ _ h
    exact wf_finish _ _ hs

/-- Settles O4: an empty table answers its default, whatever the key. -/
theorem resetState : Obligations.ResetState := by
  refine ⟨rfl, rfl, rfl, ?_, rfl, rfl, rfl, rfl, ?_, fun _ => rfl, fun core i => ?_, fun vc => rfl, fun _ => rfl⟩
  · decide
  · decide
  · simp [State.reset, coreOf, sreg]

/-- The only command that ends in a fault, and its condition (R6, R587). -/
theorem exec_fault (c : Instr) (s : State) (r : Fault) (h : exec c s = .fault r) :
    ∃ volts, c = .overVoltageReset volts ∧ 6000 < volts.toNat := by
  cases c with
  | overVoltageReset volts =>
    by_cases hv : 6000 < volts.toNat
    · exact ⟨volts, rfl, hv⟩
    · simp [exec, execOverVoltageReset, hv, run] at h
  | _ => cases h

/-- Settles O5. -/
theorem onlyBeyondRatingsStops : Obligations.OnlyBeyondRatingsStops := by
  intro c s
  rcases exec_answers c s with h | h
  · exact .inl h
  · obtain ⟨volts, hc, hv⟩ := exec_fault c s _ h
    exact .inr ⟨volts, hc, hv, h⟩

/-- A command that is a slot runs the issue of that slot. -/
theorem exec_slot (i : Instr) (x : SlotInfo) (s : State) (h : slotOf i = some x) : exec i s = run s (giveSlot i) := by
  unfold slotOf at h
  split at h
  pick_goal -1
  · cases h
  all_goals rfl

/-! ## Bundle words -/

theorem bits_eq (v hi lo : Nat) : bits v hi lo = v / 2 ^ lo % 2 ^ (hi + 1 - lo) := by
  rw [bits, Nat.shiftRight_eq_div_pow]

theorem bit_eq_true (v i : Nat) : bit v i = true ↔ v / 2 ^ i % 2 = 1 := by
  rw [bit, Nat.shiftRight_eq_div_pow, beq_iff_eq]

/-- The number whose 30 bits are the fields of a slot instruction (R77). -/
def slotBits (sl : Slot) (op : Nat) : Nat :=
  op + 2 ^ 6 * sl.d.toNat + 2 ^ 11 * sl.a.toNat + 2 ^ 16 * sl.b.toNat + 2 ^ 21 * sl.imm.toNat

section
variable (sl : Slot) (op : Fin 64)

theorem slotBits_lt : slotBits sl op < 2 ^ 30 := by
  have hd := sl.d.isLt
  have ha := sl.a.isLt
  have hb := sl.b.isLt
  have hi := sl.imm.isLt
  have ho := op.isLt
  unfold slotBits
  omega

theorem opOf_slotBits : opOf (slotBits sl op) = op := by
  have ho := op.isLt
  rw [opOf, bits_eq, slotBits]
  omega

/-- The fields of a slot instruction are found again in its 30 bits. -/
theorem slotFields_slotBits (h : sl.more = false) : slotFields sl.core.toNat false (slotBits sl op) = sl := by
  obtain ⟨core, more, d, a, b, imm⟩ := sl
  have hd := d.isLt
  have ha := a.isLt
  have hb := b.isLt
  have hi := imm.isLt
  have ho := op.isLt
  subst h
  simp only [slotFields, bits_eq, slotBits, Slot.mk.injEq, true_and, BitVec.ofNat_toNat, BitVec.setWidth_eq]
  refine ⟨?_, ?_, ?_, ?_⟩ <;> (apply BitVec.eq_of_toNat_eq; rw [BitVec.toNat_ofNat]; omega)

/-- A valid last slot gives the instruction of its code with its fields. -/
theorem decodeSlot_slotBits (code : Slot → Nat → Option Instr) (place : Nat) (h : sl.more = false) :
    decodeSlot code sl.core.toNat (2 ^ place) place (slotBits sl op) = (code sl op).map (fun i => [i]) := by
  have hv : bit (2 ^ place) place = true := by simp [bit_eq_true]
  have hm : decide (0 < 2 ^ place / 2 ^ (place + 1)) = false := by
    simp [Nat.div_eq_of_lt (Nat.pow_lt_pow_succ (a := 2) (n := place) (by omega))]
  simp only [decodeSlot, hv, hm, Bool.not_true, Bool.false_eq_true, if_false, slotFields_slotBits sl op h, opOf_slotBits]

end

/-- An unused slot whose bits are zero gives nothing. -/
theorem decodeSlot_zero (code : Slot → Nat → Option Instr) (core valid place : Nat) (h : bit valid place = false) :
    decodeSlot code core valid place 0 = some [] := by
  simp [decodeSlot, h]

theorem decodeSlot_stray (code : Slot → Nat → Option Instr) (core valid place x : Nat) (h : bit valid place = false) (hx : x ≠ 0) :
    decodeSlot code core valid place x = none := by
  simp [decodeSlot, h, hx]

/-- The parts of a word with one slot in use. -/
theorem bundleParts_sole (x : Nat) (h : x < 2 ^ 30) :
    bundleParts (1 + 2 ^ 8 * x) = ⟨1, 0, 0, x, 0, 0, 0⟩ ∧ bundleParts (2 + 2 ^ 38 * x) = ⟨2, 0, 0, 0, x, 0, 0⟩
    ∧ bundleParts (4 + 2 ^ 68 * x) = ⟨4, 0, 0, 0, 0, x, 0⟩ ∧ bundleParts (8 + 2 ^ 98 * x) = ⟨8, 0, 0, 0, 0, 0, x⟩ := by
  simp only [bundleParts, bits_eq, BundleWord.mk.injEq]
  omega

/-- The parts of a word in long-immediate form with no vector slot (R76, R82). -/
theorem bundleParts_long (d : BitVec 5) (long : BitVec 60) :
    bundleParts (1 + 2 ^ 4 + 2 ^ 8 * (0x18 + 2 ^ 6 * d.toNat) + 2 ^ 68 * long.toNat)
      = ⟨1, 1, 0, 0x18 + 2 ^ 6 * d.toNat, 0, long.toNat % 2 ^ 30, long.toNat / 2 ^ 30⟩ := by
  have hd := d.isLt
  have hl := long.isLt
  simp only [bundleParts, bits_eq, BundleWord.mk.injEq]
  omega

section
variable (sl : Slot) (op : Fin 64) (h : sl.more = false)
include h

/-- A word with one slot in use gives the one instruction of that slot (R76, R77). -/
theorem decodeBundle_sole :
    decodeBundle sl.core.toNat (1 + 2 ^ 8 * slotBits sl op) = (scalarCode sl op).map (fun i => [i])
    ∧ decodeBundle sl.core.toNat (2 + 2 ^ 38 * slotBits sl op) = (vectorCode sl op).map (fun i => [i])
    ∧ decodeBundle sl.core.toNat (4 + 2 ^ 68 * slotBits sl op) = (matrixCode sl op).map (fun i => [i])
    ∧ decodeBundle sl.core.toNat (8 + 2 ^ 98 * slotBits sl op) = (moveCode sl op).map (fun i => [i]) := by
  obtain ⟨hs, hv, hm, ho⟩ := bundleParts_sole (slotBits sl op) (slotBits_lt sl op)
  have at0 := fun code => decodeSlot_slotBits sl op code 0 h
  have at1 := fun code => decodeSlot_slotBits sl op code 1 h
  have at2 := fun code => decodeSlot_slotBits sl op code 2 h
  have at3 := fun code => decodeSlot_slotBits sl op code 3 h
  simp only [Nat.reducePow] at at0 at1 at2 at3
  refine ⟨?_, ?_, ?_, ?_⟩
  · simp only [decodeBundle, hs, at0, decodeSlot_zero _ _ 1 1 rfl, decodeSlot_zero _ _ 1 2 rfl, decodeSlot_zero _ _ 1 3 rfl]
    cases scalarCode sl op <;> rfl
  · simp only [decodeBundle, hv, at1, decodeSlot_zero _ _ 2 0 rfl, decodeSlot_zero _ _ 2 2 rfl, decodeSlot_zero _ _ 2 3 rfl]
    cases vectorCode sl op <;> rfl
  · simp only [decodeBundle, hm, at2, decodeSlot_zero _ _ 4 0 rfl, decodeSlot_zero _ _ 4 1 rfl, decodeSlot_zero _ _ 4 3 rfl]
    cases matrixCode sl op <;> rfl
  · simp only [decodeBundle, ho, at3, decodeSlot_zero _ _ 8 0 rfl, decodeSlot_zero _ _ 8 1 rfl, decodeSlot_zero _ _ 8 2 rfl]
    cases moveCode sl op <;> rfl

end

/-- A word in long-immediate form gives `LI` with its 60 bits (R82). -/
theorem decodeBundle_long (core : BitVec 8) (d : BitVec 5) (long : BitVec 60) :
    decodeBundle core.toNat (1 + 2 ^ 4 + 2 ^ 8 * (0x18 + 2 ^ 6 * d.toNat) + 2 ^ 68 * long.toNat)
      = some [.li ⟨core, false, d, 0, 0, 0⟩ long] := by
  have hop : opOf (0x18 + 2 ^ 6 * d.toNat) = 0x18 := by rw [opOf, bits_eq]; omega
  have hfields : slotFields core.toNat false (0x18 + 2 ^ 6 * d.toNat) = ⟨core, false, d, 0, 0, 0⟩ := by
    simpa [slotBits] using slotFields_slotBits ⟨core, false, d, 0, 0, 0⟩ 0x18 rfl
  have himm : BitVec.ofNat 60 (long.toNat % 2 ^ 30 + long.toNat / 2 ^ 30 * 2 ^ 30) = long := by
    rw [Nat.mul_comm, Nat.mod_add_div, BitVec.ofNat_toNat, BitVec.setWidth_eq]
  have hbit : bit 1 1 = false := rfl
  have hbit0 : bit 1 0 = true := rfl
  have hhigh : bits 1 3 2 = 0 := rfl
  simp only [decodeBundle, bundleParts_long, decodeSlot_zero _ _ 1 1 rfl, hop, himm, hbit, hbit0, hhigh, hfields]
  simp

/-- A word with a reserved bit set gives no bundle (R78). -/
theorem decodeBundle_reservedBits (core v : Nat) (h : v / 2 ^ 5 % 8 ≠ 0) : decodeBundle core v = none :=
  decodeBundle_reserved core v (by simpa [bundleParts, bits_eq] using h)

/-- A word in slot form whose scalar slot breaks a rule of R78 gives no bundle. -/
theorem decodeBundle_badScalar (core v : Nat) (hf : v / 2 ^ 4 % 2 = 0)
    (hs : decodeSlot scalarCode core (bundleParts v).valid 0 (bundleParts v).scalar = none) : decodeBundle core v = none := by
  have hform : (bundleParts v).form = 0 := by simpa [bundleParts, bits_eq] using hf
  unfold decodeBundle
  simp only [hform, hs]
  split <;> rfl

theorem decodeBundle_strayScalar (core v : Nat) (hv : v % 2 = 0) (hf : v / 2 ^ 4 % 2 = 0) (hx : v / 2 ^ 8 % 2 ^ 30 ≠ 0) :
    decodeBundle core v = none := by
  refine decodeBundle_badScalar core v hf (decodeSlot_stray _ _ _ _ _ ?_ ?_)
  · rw [Bool.eq_false_iff, ne_eq, bit_eq_true]
    simp only [bundleParts, bits_eq]
    omega
  · simpa only [bundleParts, bits_eq] using hx

theorem decodeBundle_unassignedScalar (core v : Nat) (hv : v % 2 = 1) (hf : v / 2 ^ 4 % 2 = 0)
    (hx : ∀ sl, scalarCode sl (v / 2 ^ 8 % 64) = none) : decodeBundle core v = none := by
  refine decodeBundle_badScalar core v hf ?_
  have hbit : bit (bundleParts v).valid 0 = true := by
    rw [bit_eq_true]
    simp only [bundleParts, bits_eq]
    omega
  have hop : opOf (bundleParts v).scalar = v / 2 ^ 8 % 64 := by
    simp only [opOf, bundleParts, bits_eq]
    omega
  simp only [decodeSlot, hbit, hop, hx, Bool.not_true, Bool.false_eq_true, if_false, Option.map_none]

/-! ## The empty queue -/

theorem run_congr (s : State) (f g : Work → Work) (h : f (beginWork s) = g (beginWork s)) : run s f = run s g := by
  rw [run, run, h]

theorem issueStored_illegal (core : Nat) (w : Work) (hg : w.good (bundleKey w.hw core) 16 = true)
    (hd : decodeBundle core (w.num (bundleKey w.hw core) 16) = none) :
    issueStored core w = coreFault core illegalBundle 0 (coreOf w.hw core).r.pc 0 false w := by
  simp only [issueStored, hg, hd, Bool.not_true, Bool.false_eq_true, if_false]

theorem issueStored_one (core : Nat) (w : Work) (i : Instr) (hg : w.good (bundleKey w.hw core) 16 = true)
    (hd : decodeBundle core (w.num (bundleKey w.hw core) 16) = some [i]) :
    issueStored core w = runBundle core (modCore core (fun c => { c with bundle := [i] }) w) := by
  simp only [issueStored, hg, hd, Bool.not_true, Bool.false_eq_true, if_false]

theorem settleNotices_rest (w : Work) (h : noticesDue w.hw = false) : settleNotices w = w := by
  simp [settleNotices, h]

/-- On an empty queue where no notice is due, one core that can issue issues the bundle at its program counter. -/
theorem step_idle_one (s : State) (core : Nat) (hp : s.pending = [])
    (hn : noticesDue (idle s.hw) = false) (hc : issuingCores (idle s.hw) = [core]) :
    step s = run { s with hw := idle s.hw } (issueStored core) := by
  have hact : coresAct (idle s.hw) = true := by simp [coresAct, hc]
  have hstep : step s = run { s with hw := idle s.hw } (fun w => issueAll (settleNotices w)) := by
    simp only [step, hp, hact, Bool.true_or, if_true]
  rw [hstep]
  refine run_congr _ _ _ ?_
  have hc' : issuingCores (beginWork { s with hw := idle s.hw }).hw = [core] := hc
  rw [settleNotices_rest _ hn, issueAll, hc', forEach_cons, forEach_nil]

theorem step_idle_rest (s : State) (hp : s.pending = []) (ha : coresAct (idle s.hw) = false)
    (hn : noticesDue (idle s.hw) = false) : step s = .next { s with hw := idle s.hw } := by
  simp [step, hp, ha, hn]

/-- A core given the one slot of a bundle issues it as its own stored bundle. -/
theorem giveSlot_sole_eq_runBundle (i : Instr) (x : SlotInfo) (w : Work) (hi : slotOf i = some x) (h : Sole w.hw x.sl) :
    giveSlot i w = runBundle x.sl.core.toNat (modCore x.sl.core.toNat (fun c => { c with bundle := [i] }) w) := by
  obtain ⟨htakes, hlast, hfirst⟩ := h
  have hfirst' : (tabGet {} w.hw.cores x.sl.core.toNat : CoreSt).bundle = [] := hfirst
  simp [giveSlot, hi, htakes, hlast, modCore, Work.up, tabMod, hfirst']

/-- Settles O2: the queue is only written back; a bundle word is judged part by part; an idle step issues the stored bundle. -/
theorem queueAndIdleStep : Obligations.QueueAndIdleStep := by
  refine ⟨fun c s t h => ?_, fun s hp => step_idle_rest s hp, fun core d a b imm op => ?_, fun core v => ?_, fun s core hp => ?_⟩
  · obtain ⟨f, rfl⟩ := exec_next c s t h
    exact finish_pending s _
  · obtain ⟨hs, hv, hm, ho⟩ := decodeBundle_sole ⟨core, false, d, a, b, imm⟩ op rfl
    exact ⟨hs, hv, hm, ho, decodeBundle_long core d⟩
  · exact ⟨decodeBundle_reservedBits core v, decodeBundle_strayScalar core v, decodeBundle_unassignedScalar core v⟩
  · intro later key hn hc hg
    have hstep : step s = run later (issueStored core) := step_idle_one s core hp hn hc
    refine ⟨fun hd => ?_, fun i x hd hi hcore hsole => ?_⟩
    · rw [hstep]
      refine run_congr _ _ _ ?_
      rw [issueStored_illegal core _ hg hd, coreOf_beginWork, illegalBundle]
    · subst hcore
      rw [hstep, exec_slot i x later hi]
      refine run_congr _ _ _ ?_
      rw [giveSlot_sole_eq_runBundle i x _ hi (sole_beginWork later _ hsole)]
      exact issueStored_one _ (beginWork later) i hg hd

end Sys2Proof.Machine
end

section
/-! PROOFS. The one slot of a bundle: the four ways in which it can answer, and the bundles that R78 forbids (03_spire_core). -/
namespace Sys2Proof.Machine

open Sys2Proof

/-- A slot that stands alone in its bundle, of a core that takes it, breaks no rule of R78 and may issue now. -/
structure Alone (s : State) (i : Instr) (x : SlotInfo) : Prop where
  slot : slotOf i = some x
  sole : Sole s.hw x.sl
  legal : bundleLegal [i] = true
  enabled : SlotEnabled s.hw x

/-- A slot of another unit than the vector one, neither `LI` nor `END`, stands alone where the fields it does not use are zero. -/
theorem alone_of_clean {s : State} {i : Instr} {sl : Slot} {place unit used : Nat} {act : Work → Slot → SlotOut}
    (hi : slotOf i = some ⟨sl, place, unit, used, act⟩) (h : Sole s.hw sl) (hf : fieldsClean ⟨sl, place, unit, used, act⟩ = true)
    (hp : place ≠ 1) (h1 : isLi i = false) (h2 : isEndSlot i = false) : Alone s i ⟨sl, place, unit, used, act⟩ :=
  ⟨hi, h, bundleLegal_sole i _ hi h1 h2 hf, .inl hp⟩

/-- The module as the slot that stands alone sees it: the core's bundle is the slot. -/
def seen (i : Instr) (core : Nat) (s : State) : Work := given i core (beginWork s)

@[simp] theorem coreOf_seen (i : Instr) (core : Nat) (s : State) :
    coreOf (seen i core s).hw core = { coreOf s.hw core with bundle := [i] } := by simp [seen]

@[simp] theorem seen_base (i : Instr) (core : Nat) (s : State) : (seen i core s).base = s.mem := rfl
@[simp] theorem seen_log (i : Instr) (core : Nat) (s : State) : (seen i core s).log = [] := rfl
@[simp] theorem seen_good (i : Instr) (core : Nat) (s : State) (a n : Nat) :
    (seen i core s).good a n = (beginWork s).good a n := rfl
@[simp] theorem seen_num (i : Instr) (core : Nat) (s : State) (a n : Nat) :
    (seen i core s).num a n = leNat (memGet s.mem a n) := rfl

section
variable {s : State} {i : Instr} {x : SlotInfo} (h : Alone s i x)
include h

/-- A slot that stands alone and acts, without fault, wait or branch, is issued. -/
theorem Alone.acts {g : Work → Work} (ho : x.act (seen i x.sl.core.toNat s) x.sl = { effect := g })
    (hgo : (afterBundle (coreOf (g (cleared x.sl.core.toNat (beginWork s))).hw x.sl.core.toNat).r.pc
        (coreOf (g (cleared x.sl.core.toNat (beginWork s))).hw x.sl.core.toNat).r.loops).1
      < (coreOf (g (cleared x.sl.core.toNat (beginWork s))).hw x.sl.core.toNat).bundles) :
    AnswersWith i s (issued x.sl.core.toNat g (beginWork s)) :=
  answersWith_run i s _ _ (exec_slot i x s h.slot)
    (giveSlot_acts i x _ g h.slot (sole_beginWork s _ h.sole) h.legal h.enabled ho hgo)

/-- A slot that stands alone and sets registers other than the program counter and the loop stack is issued. -/
theorem Alone.regs {f : CoreRegs → CoreRegs} (ho : x.act (seen i x.sl.core.toNat s) x.sl = Machine.regs x.sl.core.toNat f)
    (hf : ∀ r, (f r).pc = r.pc ∧ (f r).loops = r.loops) (hgo : GoesOn s x.sl) :
    AnswersWith i s (issued x.sl.core.toNat (setRegs x.sl.core.toNat f) (beginWork s)) :=
  answers_regs i x s f (exec_slot i x s h.slot) h.slot h.sole h.legal h.enabled ho hf hgo

/-- A slot that stands alone and has no effect of its own is issued. -/
theorem Alone.passes (ho : x.act (seen i x.sl.core.toNat s) x.sl = {}) (hgo : GoesOn s x.sl) :
    AnswersWith i s (issued x.sl.core.toNat id (beginWork s)) :=
  h.acts ho (by simpa [cleared, GoesOn, rOf] using hgo)

/-- A slot that stands alone and branches. -/
theorem Alone.branches {g : Work → Work} {t : Nat} (ho : x.act (seen i x.sl.core.toNat s) x.sl = { effect := g, jump := some t }) :
    AnswersWith i s (branched x.sl.core.toNat t g (beginWork s)) :=
  answersWith_run i s _ _ (exec_slot i x s h.slot)
    (giveSlot_branches i x _ g t h.slot (sole_beginWork s _ h.sole) h.legal h.enabled ho)

/-- A slot that stands alone and waits. -/
theorem Alone.holds {hd : Hold} {out : SlotOut} (ho : x.act (seen i x.sl.core.toNat s) x.sl = out) (hh : out.hold = hd)
    (hn : hd ≠ .none) :
    AnswersWith i s (modCore x.sl.core.toNat (fun c => { c with bundle := [i], hold := hd }) (beginWork s)) :=
  answersWith_run i s _ _ (exec_slot i x s h.slot)
    (giveSlot_holds i x _ hd h.slot (sole_beginWork s _ h.sole) h.legal h.enabled out ho hh hn)

end

/-! ## Faults: the first of those with the lowest code (R107) -/

/-- The lower code of two faults, the earlier one where they are equal. -/
def lowerFault (b x : Nat × Nat) : Nat × Nat := if x.1 < b.1 then x else b

theorem foldl_lowerFault_of_le (f : Nat × Nat) (post : List (Nat × Nat)) (h : ∀ x ∈ post, f.1 ≤ x.1) :
    post.foldl lowerFault f = f := by
  induction post with
  | nil => rfl
  | cons x post ih =>
    have hx : ¬ x.1 < f.1 := Nat.not_lt.mpr (h x (List.mem_cons_self ..))
    rw [List.foldl_cons, lowerFault, if_neg hx]
    exact ih fun y hy => h y (List.mem_cons_of_mem _ hy)

theorem foldl_lowerFault (f b : Nat × Nat) (pre post : List (Nat × Nat)) (hb : f.1 < b.1) (hpre : ∀ x ∈ pre, f.1 < x.1)
    (hpost : ∀ x ∈ post, f.1 ≤ x.1) : (pre ++ f :: post).foldl lowerFault b = f := by
  induction pre generalizing b with
  | nil => rw [List.nil_append, List.foldl_cons, lowerFault, if_pos hb]; exact foldl_lowerFault_of_le f post hpost
  | cons x pre ih =>
    rw [List.cons_append, List.foldl_cons]
    refine ih _ ?_ fun y hy => hpre y (List.mem_cons_of_mem _ hy)
    unfold lowerFault
    split
    · exact hpre x (List.mem_cons_self ..)
    · exact hb

/-- A slot's fault is the first of its faults with the lowest code. -/
theorem firstFault_lowestFirst (x : SlotInfo) (out : SlotOut) (f : Nat × Nat) (h : LowestFirst out.faults f) :
    firstFault [(x, out)] = some (x.unit, f.1, f.2) := by
  obtain ⟨pre, post, hcodes, hpre, hpost⟩ := h
  cases pre with
  | nil =>
    have hfold := foldl_lowerFault_of_le f post hpost
    unfold lowerFault at hfold
    simp only [firstFault, firstSome, hcodes, List.nil_append, hfold]
  | cons b pre =>
    have hfold := foldl_lowerFault f b pre post (hpre b (List.mem_cons_self ..)) (fun y hy => hpre y (List.mem_cons_of_mem _ hy)) hpost
    unfold lowerFault at hfold
    simp only [firstFault, firstSome, hcodes, List.cons_append, hfold]

/-- A single fault is the lowest. -/
theorem lowestFirst_single (f : Nat × Nat) : LowestFirst [f] f :=
  ⟨[], [], rfl, by simp, by simp⟩

/-- A slot that stands alone and raises synchronous faults: the lowest is recorded, and none of the bundle takes effect. -/
theorem Alone.faults {s : State} {i : Instr} {x : SlotInfo} (h : Alone s i x) {out : SlotOut}
    (ho : x.act (seen i x.sl.core.toNat s) x.sl = out) (hh : out.hold = .none) :
    SlotFaults i s x.sl.core.toNat x.unit out.faults := by
  intro f hf
  refine answersWith_run i s _ _ (exec_slot i x s h.slot) ?_
  have ho' : x.act (given i x.sl.core.toNat (beginWork s)) x.sl = out := ho
  rw [giveSlot_sole i x _ h.slot (sole_beginWork s _ h.sole) h.legal h.enabled]
  simp only [ho', hh, bne_self_eq_false, Bool.false_eq_true, if_false, firstFault_lowestFirst x out f hf, coreOf_beginWork]

/-- A slot that stands alone and raises one synchronous fault. -/
theorem Alone.fault {s : State} {i : Instr} {x : SlotInfo} (h : Alone s i x) {code addr : Nat}
    (ho : x.act (seen i x.sl.core.toNat s) x.sl = faultOut code addr) :
    AnswersWith i s (coreFault x.sl.core.toNat code x.unit (rOf s x.sl).pc addr false (cleared x.sl.core.toNat (beginWork s))) :=
  h.faults ho rfl (code, addr) (lowestFirst_single _)

/-! ## Slots that do not issue at once, and bundles that R78 forbids -/

/-- A slot for a core that takes none is not taken. -/
theorem giveSlot_untaken (i : Instr) (x : SlotInfo) (w : Work) (hi : slotOf i = some x) (h : issues w.hw x.sl.core.toNat = false) :
    giveSlot i w = w := by
  simp [giveSlot, hi, h]

/-- A slot that another slot of its bundle follows waits for it. -/
theorem giveSlot_more (i : Instr) (x : SlotInfo) (w : Work) (hi : slotOf i = some x) (h : issues w.hw x.sl.core.toNat = true)
    (hm : x.sl.more = true) : giveSlot i w = modCore x.sl.core.toNat (fun c => { c with bundle := c.bundle ++ [i] }) w := by
  simp [giveSlot, hi, h, hm]

/-- The last slot of a bundle makes the bundle issue. -/
theorem giveSlot_last (i : Instr) (x : SlotInfo) (w : Work) (hi : slotOf i = some x) (h : issues w.hw x.sl.core.toNat = true)
    (hm : x.sl.more = false) :
    giveSlot i w = runBundle x.sl.core.toNat (modCore x.sl.core.toNat (fun c => { c with bundle := c.bundle ++ [i] }) w) := by
  simp [giveSlot, hi, h, hm]

/-- A field that the instruction does not use holds a bit: the bundle is illegal. -/
theorem bundleLegal_of_unclean (i : Instr) (x : SlotInfo) (hi : slotOf i = some x) (h : fieldsClean x = false) :
    bundleLegal [i] = false := by
  simp [bundleLegal, hi, h]

/-- An illegal bundle is a fault of the core, and nothing of it takes effect (R78, R105). -/
theorem runBundle_illegal (core : Nat) (w : Work) (hb : (coreOf w.hw core).bundle ≠ [])
    (hl : bundleLegal (coreOf w.hw core).bundle = false) :
    runBundle core w = coreFault core illegalBundle 0 (coreOf w.hw core).r.pc 0 false (cleared core w) := by
  simp only [runBundle, List.isEmpty_iff, hb, if_false, hl, Bool.not_false, if_true, cleared]

theorem answers_illegal (s : State) (i : Instr) (x : SlotInfo) (hi : slotOf i = some x) (h : Sole s.hw x.sl)
    (hf : fieldsClean x = false) :
    AnswersWith i s (coreFault x.sl.core.toNat 0x01 0 (rOf s x.sl).pc 0 false (cleared x.sl.core.toNat (beginWork s))) := by
  refine answersWith_run i s _ _ (exec_slot i x s hi) ?_
  have hl := bundleLegal_of_unclean i x hi hf
  rw [giveSlot_sole_eq_runBundle i x _ hi (sole_beginWork s _ h), runBundle_illegal _ _ (by simp) (by simpa using hl)]
  simp [cleared, illegalBundle, rOf]

/-! ## Two slots of one bundle -/

/-- Two slots in the order of their places. -/
theorem sortBy_place_pair (x y : SlotInfo) (h : x.place < y.place) : sortBy (fun s : SlotInfo => s.place) [x, y] = [x, y] := by
  have hyx : ¬ y.place < x.place := by omega
  simp [sortBy, insertBy, hyx]

theorem vectorEnables_bundle (b : List Instr) (c : Nat) (w : Work) :
    vectorEnables (modCore c (fun k => { k with bundle := b }) w).hw c = vectorEnables w.hw c := by
  have hc : coreOf (modCore c (fun k => { k with bundle := b }) w).hw c = { coreOf w.hw c with bundle := b } := by simp
  have hn : cyclesNow (modCore c (fun k => { k with bundle := b }) w).hw c = cyclesNow w.hw c := rfl
  have hr : vectorIssueRate (modCore c (fun k => { k with bundle := b }) w).hw c = vectorIssueRate w.hw c := by
    simp only [vectorIssueRate, hc, hn]; rfl
  simp only [vectorEnables, hn, hr]

/-- Two slots of a bundle that neither fault, wait nor branch: both have read the module before either acts (R79). -/
theorem runBundle_pair (core : Nat) (w : Work) (i j : Instr) (x y : SlotInfo) (f g : Work → Work)
    (hi : slotOf i = some x) (hj : slotOf j = some y) (hxy : x.place < y.place)
    (hb : (coreOf w.hw core).bundle = [i, j]) (hl : bundleLegal [i, j] = true)
    (hx : x.place ≠ 1 ∨ vectorEnables w.hw core = true) (hy : y.place ≠ 1 ∨ vectorEnables w.hw core = true)
    (hf : x.act w x.sl = { effect := f }) (hg : y.act w y.sl = { effect := g }) :
    runBundle core w = nextBundle core none none (g (f (cleared core w))) := by
  have hslots : [i, j].filterMap slotOf = [x, y] := by simp [hi, hj]
  have henabled : (([x, y].any fun s => s.place == 1) && !vectorEnables w.hw core) = false := by
    rcases hx with hx | hx <;> rcases hy with hy | hy <;> simp [hx, hy]
  simp only [runBundle, hb, hl, hslots, sortBy_place_pair x y hxy, List.map_cons, List.map_nil, hf, hg, henabled,
    List.isEmpty_cons, Bool.not_true, Bool.false_eq_true, if_false, List.find?_cons, List.find?_nil, bne_self_eq_false,
    firstFault, firstSome, List.foldl_cons, List.foldl_nil, cleared]

theorem answers_pair (s : State) (i j : Instr) (x y : SlotInfo) (f g : Work → Work) (hi : slotOf i = some x) (hj : slotOf j = some y)
    (hcore : x.sl.core = y.sl.core) (hlast : y.sl.more = false) (hxy : x.place < y.place)
    (htakes : issues s.hw x.sl.core.toNat = true) (hb : (coreOf s.hw x.sl.core.toNat).bundle = [i]) (hl : bundleLegal [i, j] = true)
    (hx : SlotEnabled s.hw x) (hy : SlotEnabled s.hw y)
    (hf : x.act (modCore x.sl.core.toNat (fun c => { c with bundle := [i, j] }) (beginWork s)) x.sl = { effect := f })
    (hg : y.act (modCore x.sl.core.toNat (fun c => { c with bundle := [i, j] }) (beginWork s)) y.sl = { effect := g }) :
    AnswersWith j s (nextBundle x.sl.core.toNat none none (g (f (cleared x.sl.core.toNat (beginWork s))))) := by
  refine answersWith_run j s _ _ (exec_slot j y s hj) ?_
  have hy' : y.place ≠ 1 ∨ vectorEnables s.hw x.sl.core.toNat = true := by rw [hcore]; exact hy
  have hbundle : modCore x.sl.core.toNat (fun c => { c with bundle := c.bundle ++ [j] }) (beginWork s)
      = modCore x.sl.core.toNat (fun c => { c with bundle := [i, j] }) (beginWork s) := by
    have hb' : (tabGet {} s.hw.cores x.sl.core.toNat : CoreSt).bundle = [i] := hb
    simp [modCore, Work.up, tabMod, hb']
  rw [giveSlot_last j y _ hj (by rw [← hcore]; exact htakes) hlast, ← hcore, hbundle]
  rw [runBundle_pair x.sl.core.toNat _ i j x y f g hi hj hxy (by simp) hl
    (by rw [vectorEnables_bundle]; exact hx) (by rw [vectorEnables_bundle]; exact hy') hf hg]
  simp [cleared]

end Sys2Proof.Machine
end

section
/-! PROOFS. The scalar slot's arithmetic (R70, R82). -/
namespace Sys2Proof.Machine

open Sys2Proof

/-- The slot answers with D written, and with nothing else but that issue goes on. -/
def Gives (s : State) (sl : Slot) (i : Instr) (v : Nat) : Prop :=
  AnswersWith i s (issued sl.core.toNat (setRegs sl.core.toNat (fun r => setS r sl.d.toNat v)) (beginWork s))

theorem b2n_decide (p : Prop) [Decidable p] : b2n (decide p) = if p then 1 else 0 := by
  by_cases h : p <;> simp [b2n, h]

/-- A slot that stands alone and writes one scalar register. -/
theorem gives_of_setS {s : State} {sl : Slot} {i : Instr} {place unit used : Nat} {act : Work → Slot → SlotOut} {v : Nat}
    (ha : Alone s i ⟨sl, place, unit, used, act⟩)
    (ho : act (seen i sl.core.toNat s) sl = regs sl.core.toNat (fun r => setS r sl.d.toNat v)) (hgo : GoesOn s sl) : Gives s sl i v :=
  ha.regs ho (fun r => setS_keeps r _ _) hgo

section
variable {s : State} {sl : Slot} (h : Sole s.hw sl) (hgo : GoesOn s sl)
include h hgo

theorem gives_scalarRR {i : Instr} {f : Nat → Nat → Nat} (hi : slotOf i = some ⟨sl, 0, 0, 14, scalarRR f⟩) (himm : sl.imm = 0)
    (h1 : isLi i = false) (h2 : isEndSlot i = false) :
    Gives s sl i (f (sreg (rOf s sl) sl.a.toNat) (sreg (rOf s sl) sl.b.toNat)) :=
  gives_of_setS (alone_of_clean hi h (by simp [fieldsClean, bit, himm]) (by decide) h1 h2)
    (by simp only [scalarRR, coreOf_seen]; rfl) hgo

theorem gives_scalarRI {i : Instr} {f : Nat → Nat → Nat} {act : Work → Slot → SlotOut} (hi : slotOf i = some ⟨sl, 0, 0, 13, act⟩)
    (hact : ∀ w, act w sl = scalarRI f w sl) (hb : sl.b = 0) (h1 : isLi i = false) (h2 : isEndSlot i = false) :
    Gives s sl i (f (sreg (rOf s sl) sl.a.toNat) (ofSigned 64 (toSigned 9 sl.imm.toNat))) :=
  gives_of_setS (alone_of_clean hi h (by simp [fieldsClean, bit, hb]) (by decide) h1 h2)
    (by simp only [hact, scalarRI, coreOf_seen]; rfl) hgo

end

/-- A shift count below 64 is its own signed value. -/
theorem ofSigned_imm_of_lt (imm : BitVec 9) (h : imm.toNat < 64) : ofSigned 64 (toSigned 9 imm.toNat) = imm.toNat := by
  have hmod : imm.toNat % 2 ^ 9 = imm.toNat := Nat.mod_eq_of_lt (by omega)
  have hpos : imm.toNat < 2 ^ (9 - 1) := by omega
  simp only [toSigned, hmod, if_pos hpos, ofSigned]
  omega

/-- An immediate shift takes its count below 64. -/
theorem scalarShift_of_lt (f : Nat → Nat → Nat) (w : Work) (sl : Slot) (h : sl.imm.toNat < 64) :
    scalarShift f w sl = scalarRI f w sl := by
  simp [scalarShift, Nat.not_le.mpr h]

/-- An immediate shift with a bit set that it does not use. -/
theorem scalarShift_of_ge (f : Nat → Nat → Nat) (w : Work) (sl : Slot) (h : 64 ≤ sl.imm.toNat) :
    scalarShift f w sl = faultOut illegalOperand 0 := by
  simp [scalarShift, h]

theorem faults_scalarShift {s : State} {sl : Slot} {i : Instr} {f : Nat → Nat → Nat} (h : Sole s.hw sl)
    (hi : slotOf i = some ⟨sl, 0, 0, 13, scalarShift f⟩) (hb : sl.b = 0) (himm : 64 ≤ sl.imm.toNat)
    (h1 : isLi i = false) (h2 : isEndSlot i = false) :
    AnswersWith i s (coreFault sl.core.toNat 0x02 0 (rOf s sl).pc 0 false (cleared sl.core.toNat (beginWork s))) :=
  (alone_of_clean hi h (by simp [fieldsClean, bit, hb]) (by decide) h1 h2).fault (scalarShift_of_ge f _ sl himm)

/-- `LI`, whose bundle is in long-immediate form, stands alone with its other fields zero. -/
theorem alone_li {s : State} {sl : Slot} (imm : BitVec 60) (h : Sole s.hw sl) (ha : sl.a = 0) (hb : sl.b = 0) (himm : sl.imm = 0) :
    Alone s (.li sl imm) ⟨sl, 0, 0, 8, slotLi imm.toNat⟩ :=
  ⟨rfl, h, by simp [bundleLegal, slotOf_li, fieldsClean, bit, ha, hb, himm, noRepeats, isEndSlot], .inl Nat.zero_ne_one⟩

/-! ## Scalar registers (R70) -/

theorem setS_zero (r : CoreRegs) (v : Nat) : setS r 0 v = r := if_pos rfl

/-- A register written is read back, and every other register reads as before. -/
theorem sreg_setS (r : CoreRegs) (i j v : Nat) (hi : i ≠ 0) :
    sreg (setS r i v) j = if j = i then v % 2 ^ 64 else sreg r j := by
  by_cases hj : j = 0
  · have hji : ¬ j = i := by omega
    simp [sreg, hj, Ne.symm hi]
  · by_cases hji : j = i
    · simp [sreg, setS, hi, hji]
    · simp [sreg, setS, hi, hj, hji, tabGet_tabSet_ne]

/-- Settles O6, operation by operation through the rules of the one slot of a bundle. -/
theorem scalarOperations : Obligations.ScalarOperations := by
  refine ⟨fun s sl h himm hgo => ?_, fun s sl h hgo => ⟨fun hb => ?_, fun ha hb himm imm => ?_⟩, fun s sl h hb himm => ?_, ?_, ?_, ?_, ?_,
    fun sl => ?_, fun r i j v => ⟨rfl, setS_zero r v, sreg_setS r i j v⟩⟩
  · have rr := fun (i : Instr) (f : Nat → Nat → Nat) hi => gives_scalarRR (i := i) (f := f) h hgo hi himm
    refine ⟨rr (.add sl) add64 rfl rfl rfl, rr (.sub sl) sub64 rfl rfl rfl, rr (.mul sl) mul64 rfl rfl rfl,
      rr (.and sl) (· &&& ·) rfl rfl rfl, rr (.or sl) (· ||| ·) rfl rfl rfl, rr (.xor sl) (· ^^^ ·) rfl rfl rfl,
      rr (.shl sl) shl64 rfl rfl rfl, rr (.shr sl) shr64 rfl rfl rfl, rr (.sra sl) sra64 rfl rfl rfl,
      rr (.min sl) min64 rfl rfl rfl, rr (.max sl) max64 rfl rfl rfl, ?_, ?_⟩
    · have hslt := rr (.slt sl) slt64 rfl rfl rfl
      rwa [slt64, b2n_decide] at hslt
    · have hsltu := rr (.sltu sl) sltu64 rfl rfl rfl
      rwa [sltu64, b2n_decide] at hsltu
  · have ri := fun (i : Instr) (f : Nat → Nat → Nat) (act : Work → Slot → SlotOut) hi hact =>
      gives_scalarRI (i := i) (f := f) (act := act) h hgo hi hact hb
    refine ⟨ri (.addi sl) add64 _ rfl (fun _ => rfl) rfl rfl, ri (.andi sl) (· &&& ·) _ rfl (fun _ => rfl) rfl rfl,
      ri (.ori sl) (· ||| ·) _ rfl (fun _ => rfl) rfl rfl, ri (.xori sl) (· ^^^ ·) _ rfl (fun _ => rfl) rfl rfl, ?_, fun hn => ?_⟩
    · have hslti := ri (.slti sl) slt64 _ rfl (fun _ => rfl) rfl rfl
      rwa [slt64, b2n_decide] at hslti
    · have shift := fun (i : Instr) (f : Nat → Nat → Nat) hi => ri i f (scalarShift f) hi (fun w => scalarShift_of_lt f w sl hn)
      have hshl := shift (.shli sl) shl64 rfl rfl rfl
      have hshr := shift (.shri sl) shr64 rfl rfl rfl
      have hsra := shift (.srai sl) sra64 rfl rfl rfl
      rw [ofSigned_imm_of_lt sl.imm hn] at hshl hshr hsra
      rw [shl64, Nat.mod_eq_of_lt hn] at hshl
      rw [shr64, Nat.mod_eq_of_lt hn] at hshr
      rw [sra64, Nat.mod_eq_of_lt hn] at hsra
      exact ⟨hshl, hshr, hsra⟩
  · exact gives_of_setS (alone_li imm h ha hb himm) rfl hgo
  · exact ⟨faults_scalarShift (f := shl64) h rfl hb himm rfl rfl, faults_scalarShift (f := shr64) h rfl hb himm rfl rfl,
      faults_scalarShift (f := sra64) h rfl hb himm rfl rfl⟩
  · exact fun s i x hi h hf => answers_illegal s i x hi h hf
  · exact fun s i x hi h hl he hh => Alone.faults ⟨hi, h, hl, he⟩ rfl hh
  · exact fun s i x hi => ⟨fun h => answersWith_run i s _ _ (exec_slot i x s hi) (giveSlot_untaken i x _ hi h),
      fun h hm => answersWith_run i s _ _ (exec_slot i x s hi) (giveSlot_more i x _ hi h hm)⟩
  · exact fun s i j x y f g hi hj hcore hlast hxy htakes hb hl hx hy hf hg =>
      answers_pair s i j x y f g hi hj hcore hlast hxy htakes hb hl hx hy hf hg
  · simp [fieldsClean, bit]

end Sys2Proof.Machine
end

section
/-! PROOFS. The scalar slot's loads and stores (R65, R67, R68, R82). -/
namespace Sys2Proof.Machine

open Sys2Proof

/-! ## Bytes of a number -/

@[simp] theorem leBytes_length (n v : Nat) : (leBytes n v).length = n := by
  induction n generalizing v with
  | zero => rfl
  | succ n ih => simp [leBytes, ih]

/-- Byte k of a number, least-significant byte first. -/
theorem leBytes_getD (n v k : Nat) (h : k < n) : (leBytes n v).getD k 0 = BitVec.ofNat 8 (v / 256 ^ k) := by
  induction n generalizing v k with
  | zero => omega
  | succ n ih =>
    cases k with
    | zero => simp [leBytes]
    | succ k =>
      rw [leBytes, List.getD_cons_succ, ih (v / 256) k (by omega), Nat.div_div_eq_div_mul, Nat.pow_succ']

/-! ## Faults of an access to the scratchpad -/

theorem scratchFaults_nil (off size align : Nat) (ha : off % align = 0) (hb : off + size ≤ 0x300000) :
    scratchFaults off size align = [] := by
  simp [scratchFaults, ha, scratchBytes, hb, withAddress]

/-- A misaligned access, one that leaves the scratchpad, or both: the lower code is that of the misalignment (R107). -/
theorem scratchFaults_lowest (off size align : Nat) (h : off % align ≠ 0 ∨ 0x300000 < off + size) :
    LowestFirst (scratchFaults off size align) (if off % align ≠ 0 then 0x03 else 0x04, off) := by
  by_cases ha : off % align = 0
  · have hb : ¬ off + size ≤ 0x300000 := by omega
    have hlist : scratchFaults off size align = [(0x04, off)] := by
      simp [scratchFaults, ha, scratchBytes, hb, withAddress, scratchBounds]
    rw [hlist, if_neg (not_not.mpr ha)]
    exact lowestFirst_single _
  · rw [if_pos ha]
    refine ⟨[], withAddress off (if off + size ≤ scratchBytes then [] else [scratchBounds]), ?_, by simp, fun x hx => ?_⟩
    · simp [scratchFaults, ha, withAddress, alignmentFault]
    · by_cases hb : off + size ≤ scratchBytes
      · simp [hb, withAddress] at hx
      · simp only [hb, if_false, withAddress, List.map_cons, List.map_nil, List.mem_singleton] at hx
        simp [hx, scratchBounds]

theorem scratchFaults_ne_nil (off size align : Nat) (h : off % align ≠ 0 ∨ 0x300000 < off + size) :
    scratchFaults off size align ≠ [] := by
  obtain ⟨pre, post, hcodes, -, -⟩ := scratchFaults_lowest off size align h
  simp [hcodes]

/-! ## A store to memory without a bad unit -/

/-- A store that meets no uncorrectable unit is one store of the log (R594). -/
theorem write_good (w : Work) (a : Nat) (bs : List Byte) (hb : bs ≠ []) (hg : w.good a bs.length = true) :
    w.write a bs = { w with log := .put a bs :: w.log } := by
  have hhit : (badUnits w.hw a bs.length).isEmpty = true := hg
  simp [Work.write, List.isEmpty_iff, hb, List.isEmpty_iff.mp hhit]

/-- The memory after one store. -/
theorem memByte_finish_put (s : State) (w : Work) (a : Nat) (bs : List Byte) (h : w.log = [.put a bs]) (x : Nat) :
    memByte (finish s w).mem x = if a ≤ x ∧ x < a + bs.length then bs.getD (x - a) 0 else memByte s.mem x := by
  rw [finish_mem, h, List.foldr_cons, List.foldr_nil, applyStore, memByte_memPut]

theorem memByte_finish_leBytes (s : State) (w : Work) (a n v : Nat) (h : w.log = [.put a (leBytes n v)]) (x : Nat) :
    memByte (finish s w).mem x = if a ≤ x ∧ x < a + n then BitVec.ofNat 8 (v / 256 ^ (x - a)) else memByte s.mem x := by
  rw [memByte_finish_put s w a _ h, leBytes_length]
  by_cases hx : a ≤ x ∧ x < a + n
  · rw [if_pos hx, if_pos hx, leBytes_getD n v (x - a) (by omega)]
  · rw [if_neg hx, if_neg hx]

@[simp] theorem cleared_good (core : Nat) (w : Work) (a n : Nat) : (cleared core w).good a n = w.good a n := rfl
@[simp] theorem cleared_log (core : Nat) (w : Work) : (cleared core w).log = w.log := rfl
@[simp] theorem goOn_log (core : Nat) (w : Work) : (goOn core w).log = w.log := rfl

/-- Two effects that agree on the core's cleared state issue alike. -/
theorem issued_congr (core : Nat) (f g : Work → Work) (w : Work) (h : f (cleared core w) = g (cleared core w)) :
    issued core f w = issued core g w := by
  rw [issued, issued, h]

/-- What holds of the effect that a command answers with holds of its answer. -/
theorem answers_of_answersWith {i : Instr} {s : State} {v : Work} {P : Work → Prop} (h : AnswersWith i s v) (hP : P v) :
    Answers i s P := by
  obtain ⟨w, t, hrun, hw, hrest⟩ := h
  exact ⟨w, t, hrun, hw ▸ hP, hrest⟩

/-- A slot that stands alone and stores bytes where no unit is uncorrectable. -/
theorem Alone.stores {s : State} {i : Instr} {x : SlotInfo} (h : Alone s i x) {a : Nat} {bs : List Byte}
    (ho : x.act (seen i x.sl.core.toNat s) x.sl = { effect := fun w => w.write a bs }) (hb : bs ≠ [])
    (hg : (beginWork s).good a bs.length = true) (hgo : GoesOn s x.sl) :
    AnswersWith i s (issued x.sl.core.toNat (fun w => { w with log := [.put a bs] }) (beginWork s)) := by
  have hw : (cleared x.sl.core.toNat (beginWork s)).write a bs = { cleared x.sl.core.toNat (beginWork s) with log := [.put a bs] } :=
    write_good (cleared x.sl.core.toNat (beginWork s)) a bs hb hg
  have hissued := h.acts ho (by rw [hw]; simpa [cleared, GoesOn, rOf] using hgo)
  rwa [issued_congr _ _ (fun w => { w with log := [.put a bs] }) _ hw] at hissued

/-! ## Loads and stores -/

/-- The offset of a scalar access of n bytes, A + `IMM` x n (R82). -/
def offsetOf (s : State) (sl : Slot) (n : Nat) : Nat :=
  ofSigned 64 ((sreg (rOf s sl) sl.a.toNat : Int) + toSigned 9 sl.imm.toNat * n)

theorem scalarOffset_seen (s : State) (sl : Slot) (i : Instr) (n : Nat) :
    scalarOffset (seen i sl.core.toNat s) sl n = offsetOf s sl n := by
  simp only [scalarOffset, coreOf_seen, immSigned]
  rfl

section
variable {s : State} {sl : Slot} {i : Instr} {n : Nat} (h : Sole s.hw sl) (h1 : isLi i = false) (h2 : isEndSlot i = false)
include h h1 h2

theorem alone_load (hi : slotOf i = some ⟨sl, 0, 0, 13, scalarLoad n⟩) (hb : sl.b = 0) :
    Alone s i ⟨sl, 0, 0, 13, scalarLoad n⟩ :=
  alone_of_clean hi h (by simp [fieldsClean, bit, hb]) (by decide) h1 h2

theorem alone_store (hi : slotOf i = some ⟨sl, 0, 0, 7, scalarStore n⟩) (hd : sl.d = 0) :
    Alone s i ⟨sl, 0, 0, 7, scalarStore n⟩ :=
  alone_of_clean hi h (by simp [fieldsClean, bit, hd]) (by decide) h1 h2

theorem gives_scalarLoad (hi : slotOf i = some ⟨sl, 0, 0, 13, scalarLoad n⟩) (hb : sl.b = 0) (hgo : GoesOn s sl)
    (ha : offsetOf s sl n % n = 0) (hin : offsetOf s sl n + n ≤ 0x300000)
    (hg : (beginWork s).good (scratchKey sl.core.toNat (offsetOf s sl n)) n = true) :
    Gives s sl i (leNat (memGet s.mem (scratchKey sl.core.toNat (offsetOf s sl n)) n)) :=
  gives_of_setS (alone_load h h1 h2 hi hb)
    (by simp only [scalarLoad, scalarOffset_seen, scratchFaults_nil _ _ _ ha hin, seen_good, hg, if_true, seen_num]) hgo

theorem faults_scalarLoad (hi : slotOf i = some ⟨sl, 0, 0, 13, scalarLoad n⟩) (hb : sl.b = 0)
    (hbad : offsetOf s sl n % n ≠ 0 ∨ 0x300000 < offsetOf s sl n + n) :
    AnswersWith i s (coreFault sl.core.toNat (if offsetOf s sl n % n ≠ 0 then 0x03 else 0x04) 0 (rOf s sl).pc (offsetOf s sl n) false
      (cleared sl.core.toNat (beginWork s))) := by
  have ho : scalarLoad n (seen i sl.core.toNat s) sl = { faults := scratchFaults (offsetOf s sl n) n n } := by
    simp only [scalarLoad, scalarOffset_seen]
    split
    · next hnil => exact absurd hnil (scratchFaults_ne_nil _ _ _ hbad)
    · rfl
  exact (alone_load h h1 h2 hi hb).faults ho rfl _ (scratchFaults_lowest _ _ _ hbad)

theorem answers_scalarStore (hi : slotOf i = some ⟨sl, 0, 0, 7, scalarStore n⟩) (hd : sl.d = 0) (hgo : GoesOn s sl) (hn : 0 < n)
    (ha : offsetOf s sl n % n = 0) (hin : offsetOf s sl n + n ≤ 0x300000)
    (hg : (beginWork s).good (scratchKey sl.core.toNat (offsetOf s sl n)) n = true) :
    Answers i s (fun w =>
      w = issued sl.core.toNat
        (fun x => { x with log := [.put (scratchKey sl.core.toNat (offsetOf s sl n)) (leBytes n (sreg (rOf s sl) sl.b.toNat))] })
        (beginWork s)
      ∧ ∀ x, memByte (finish s w).mem x =
          if scratchKey sl.core.toNat (offsetOf s sl n) ≤ x ∧ x < scratchKey sl.core.toNat (offsetOf s sl n) + n then
            BitVec.ofNat 8 (sreg (rOf s sl) sl.b.toNat / 256 ^ (x - scratchKey sl.core.toNat (offsetOf s sl n)))
          else memByte s.mem x) := by
  have ho : scalarStore n (seen i sl.core.toNat s) sl
      = { effect := fun w => w.write (scratchKey sl.core.toNat (offsetOf s sl n)) (leBytes n (sreg (rOf s sl) sl.b.toNat)) } := by
    simp only [scalarStore, scalarOffset_seen, scratchFaults_nil _ _ _ ha hin, coreOf_seen]
    rfl
  have hissued := (alone_store h h1 h2 hi hd).stores ho (List.ne_nil_of_length_pos (by rw [leBytes_length]; exact hn))
    (by rw [leBytes_length]; exact hg) hgo
  exact answers_of_answersWith hissued ⟨rfl, memByte_finish_leBytes s _ _ n _ rfl⟩

theorem faults_scalarStore (hi : slotOf i = some ⟨sl, 0, 0, 7, scalarStore n⟩) (hd : sl.d = 0)
    (hbad : offsetOf s sl n % n ≠ 0 ∨ 0x300000 < offsetOf s sl n + n) :
    AnswersWith i s (coreFault sl.core.toNat (if offsetOf s sl n % n ≠ 0 then 0x03 else 0x04) 0 (rOf s sl).pc (offsetOf s sl n) false
      (cleared sl.core.toNat (beginWork s))) := by
  have ho : scalarStore n (seen i sl.core.toNat s) sl = { faults := scratchFaults (offsetOf s sl n) n n } := by
    simp only [scalarStore, scalarOffset_seen]
    split
    · next hnil => exact absurd hnil (scratchFaults_ne_nil _ _ _ hbad)
    · rfl
  exact (alone_store h h1 h2 hi hd).faults ho rfl _ (scratchFaults_lowest _ _ _ hbad)

end

/-- Settles O7: the four sizes are one access each of the load and the store. -/
theorem scalarMemory : Obligations.ScalarMemory := by
  refine ⟨fun s sl h hb hgo => ?_, fun s sl h hd hgo => ?_, fun s sl h => ⟨fun hb => ?_, fun hd => ?_⟩⟩
  · have load := fun (i : Instr) (n : Nat) h1 h2 hi => gives_scalarLoad (i := i) (n := n) h h1 h2 hi hb hgo
    exact ⟨load (.ld8 sl) 1 rfl rfl rfl, load (.ld16 sl) 2 rfl rfl rfl, load (.ld32 sl) 4 rfl rfl rfl, load (.ld64 sl) 8 rfl rfl rfl⟩
  · have store := fun (i : Instr) (n : Nat) h1 h2 hi hn =>
      answers_scalarStore (i := i) (n := n) h h1 h2 hi hd hgo hn
    exact ⟨store (.st8 sl) 1 rfl rfl rfl (by decide), store (.st16 sl) 2 rfl rfl rfl (by decide),
      store (.st32 sl) 4 rfl rfl rfl (by decide), store (.st64 sl) 8 rfl rfl rfl (by decide)⟩
  · have bad := fun (i : Instr) (n : Nat) h1 h2 hi => faults_scalarLoad (i := i) (n := n) h h1 h2 hi hb
    exact ⟨bad (.ld8 sl) 1 rfl rfl rfl, bad (.ld16 sl) 2 rfl rfl rfl, bad (.ld32 sl) 4 rfl rfl rfl, bad (.ld64 sl) 8 rfl rfl rfl⟩
  · have bad := fun (i : Instr) (n : Nat) h1 h2 hi => faults_scalarStore (i := i) (n := n) h h1 h2 hi hd
    exact ⟨bad (.st8 sl) 1 rfl rfl rfl, bad (.st16 sl) 2 rfl rfl rfl, bad (.st32 sl) 4 rfl rfl rfl, bad (.st64 sl) 8 rfl rfl rfl⟩

end Sys2Proof.Machine
end

section
/-! PROOFS. Branches, calls, returns, loops and the end of the program (R81, R105). -/
namespace Sys2Proof.Machine

open Sys2Proof

/-! ## Issue past the last bundle -/

/-- Issue past the last bundle of a program is a `BRANCH_RANGE` fault that gives `BUNDLE_COUNT` as its bundle (R81). -/
theorem nextBundle_past (core : Nat) (w : Work)
    (h : (coreOf w.hw core).bundles ≤ (afterBundle (coreOf w.hw core).r.pc (coreOf w.hw core).r.loops).1)
    (he : (coreOf w.hw core).ending = false) :
    nextBundle core none none w = coreFault core 0x0F 0 (coreOf w.hw core).bundles 0 false (goOn core w) := by
  unfold nextBundle
  simp only [Option.getD_none, h, he, decide_true, Bool.not_false, Bool.and_self, if_true]
  rfl

/-- Issue goes on after the body of a skipped loop (R81). -/
theorem nextBundle_skip (core last : Nat) (w : Work)
    (h : (afterBundle last (coreOf w.hw core).r.loops).1 < (coreOf w.hw core).bundles) :
    nextBundle core none (some last) w = setRegs core (fun q => { q with
      pc := (afterBundle last (coreOf w.hw core).r.loops).1
      loops := (afterBundle last (coreOf w.hw core).r.loops).2 }) w := by
  simp [nextBundle, Nat.not_le.mpr h, setRegs]

theorem nextBundle_skip_past (core last : Nat) (w : Work)
    (h : (coreOf w.hw core).bundles ≤ (afterBundle last (coreOf w.hw core).r.loops).1) (he : (coreOf w.hw core).ending = false) :
    nextBundle core none (some last) w = coreFault core 0x0F 0 (coreOf w.hw core).bundles 0 false
      (setRegs core (fun q => { q with
        pc := (afterBundle last (coreOf w.hw core).r.loops).1
        loops := (afterBundle last (coreOf w.hw core).r.loops).2 }) w) := by
  simp [nextBundle, h, he, setRegs, branchRange]

@[simp] theorem coreOf_cleared (core : Nat) (w : Work) :
    coreOf (cleared core w).hw core = { coreOf w.hw core with bundle := [], hold := .none } := by simp [cleared]

/-- The core's state with its registers as they are is the state itself, where the core's slots have just gone. -/
theorem setRegs_id_cleared (core : Nat) (w : Work) : setRegs core id (cleared core w) = cleared core w := by
  simp [setRegs, cleared]

/-- A core that takes a slot has not issued `END`. -/
theorem ending_of_issues (hw : Hw) (core : Nat) (h : issues hw core = true) : (coreOf hw core).ending = false := by
  simp only [issues, Bool.and_eq_true, Bool.not_eq_true'] at h
  exact h.1.2

section
variable {s : State} {i : Instr} {x : SlotInfo} (h : Alone s i x)
include h

/-- A slot that stands alone and acts, without fault, wait or branch: the next bundle follows. -/
theorem Alone.answers_next {g : Work → Work} {skip : Option Nat}
    (ho : x.act (seen i x.sl.core.toNat s) x.sl = { effect := g, skip := skip }) :
    AnswersWith i s (nextBundle x.sl.core.toNat none skip (g (cleared x.sl.core.toNat (beginWork s)))) := by
  refine answersWith_run i s _ _ (exec_slot i x s h.slot) ?_
  have ho' : x.act (given i x.sl.core.toNat (beginWork s)) x.sl = { effect := g, skip := skip } := ho
  rw [giveSlot_sole i x _ h.slot (sole_beginWork s _ h.sole) h.legal h.enabled]
  simp only [ho', firstFault, firstSome, bne_self_eq_false, Bool.false_eq_true, if_false]

/-- A slot that stands alone, sets registers, and is the last bundle of its program. -/
theorem Alone.pastEnd {g : Work → Work} {f : CoreRegs → CoreRegs} (ho : x.act (seen i x.sl.core.toNat s) x.sl = { effect := g })
    (hg : g (cleared x.sl.core.toNat (beginWork s)) = setRegs x.sl.core.toNat f (cleared x.sl.core.toNat (beginWork s)))
    (hf : ∀ r, (f r).pc = r.pc ∧ (f r).loops = r.loops) (hgo : ¬ GoesOn s x.sl) :
    AnswersWith i s (coreFault x.sl.core.toNat 0x0F 0 (coreOf s.hw x.sl.core.toNat).bundles 0 false
      (issued x.sl.core.toNat (setRegs x.sl.core.toNat f) (beginWork s))) := by
  have hpast := nextBundle_past x.sl.core.toNat (setRegs x.sl.core.toNat f (cleared x.sl.core.toNat (beginWork s)))
    (by simpa [setRegs, cleared, hf, GoesOn, rOf] using hgo)
    (by simpa [setRegs, cleared] using ending_of_issues _ _ h.sole.takes)
  have hbundles : (coreOf (setRegs x.sl.core.toNat f (cleared x.sl.core.toNat (beginWork s))).hw x.sl.core.toNat).bundles
      = (coreOf s.hw x.sl.core.toNat).bundles := by simp [setRegs]
  have hnext := h.answers_next (skip := none) ho
  rwa [hg, hpast, hbundles] at hnext

end

/-! ## Branches -/

section
variable {s : State} {sl : Slot} {i : Instr}

/-- A branch whose target lies in the program is taken. -/
theorem branchTo_inside (off : Int) (g : Work → Work) (h0 : 0 ≤ ((rOf s sl).pc : Int) + off)
    (hn : ((rOf s sl).pc : Int) + off < (coreOf s.hw sl.core.toNat).bundles) :
    branchTo (seen i sl.core.toNat s) sl.core.toNat off g
      = { effect := g, jump := some (((rOf s sl).pc : Int) + off).toNat } := by
  have hin : ¬ (((rOf s sl).pc : Int) + off < 0 ∨ ((coreOf s.hw sl.core.toNat).bundles : Int) ≤ ((rOf s sl).pc : Int) + off) := by
    omega
  simp only [rOf] at hin
  simp only [branchTo, coreOf_seen, hin, if_false, rOf]

/-- A branch whose target lies outside the program is a fault. -/
theorem branchTo_outside (off : Int) (g : Work → Work)
    (h : ((rOf s sl).pc : Int) + off < 0 ∨ ((coreOf s.hw sl.core.toNat).bundles : Int) ≤ ((rOf s sl).pc : Int) + off) :
    branchTo (seen i sl.core.toNat s) sl.core.toNat off g = faultOut 0x0F 0 := by
  simp only [rOf] at h
  simp only [branchTo, coreOf_seen, h, if_true, branchRange]

theorem alone_branch {act : Work → Slot → SlotOut} (hi : slotOf i = some ⟨sl, 0, 0, 15, act⟩) (h : Sole s.hw sl)
    (h1 : isLi i = false) (h2 : isEndSlot i = false) : Alone s i ⟨sl, 0, 0, 15, act⟩ :=
  alone_of_clean hi h (by simp [fieldsClean, bit]) (by decide) h1 h2

/-- All that a compare-and-branch can do: it branches, goes on, or faults because its target or the next bundle lies outside. -/
theorem answers_branchIf (p : Nat → Nat → Bool) (hi : slotOf i = some ⟨sl, 0, 0, 15, branchIf p⟩) (h : Sole s.hw sl)
    (h1 : isLi i = false) (h2 : isEndSlot i = false) (q : Prop)
    (hq : p (sreg (rOf s sl) sl.a.toNat) (sreg (rOf s sl) sl.b.toNat) = true ↔ q) :
    let c := sl.core.toNat
    let near := ((rOf s sl).pc : Int) + offset14 sl
    let n : Int := (coreOf s.hw c).bundles
    (q → 0 ≤ near → near < n → AnswersWith i s (branched c near.toNat id (beginWork s)))
    ∧ (¬ q → GoesOn s sl → AnswersWith i s (issued c id (beginWork s)))
    ∧ (near < 0 ∨ n ≤ near → q → AnswersWith i s (coreFault c 0x0F 0 (rOf s sl).pc 0 false (cleared c (beginWork s))))
    ∧ (¬ GoesOn s sl → ¬ q →
        AnswersWith i s (coreFault c 0x0F 0 (coreOf s.hw c).bundles 0 false (issued c (setRegs c id) (beginWork s)))) := by
  intro c near n
  have halone := alone_branch hi h h1 h2
  have htaken : q → branchIf p (seen i c s) sl = branchTo (seen i c s) c (offset14 sl) id := fun hp => by
    simp only [branchIf, c, coreOf_seen]
    exact if_pos (hq.mpr hp)
  have hpast : ¬ q → branchIf p (seen i c s) sl = {} := fun hp => by
    simp only [branchIf, c, coreOf_seen]
    exact if_neg (mt hq.mp hp)
  refine ⟨fun hp h0 hn => ?_, fun hp hgo => ?_, fun hout hp => ?_, fun hgo hp => ?_⟩
  · exact halone.branches ((htaken hp).trans (branchTo_inside _ _ h0 hn))
  · exact halone.passes (hpast hp) hgo
  · exact halone.fault ((htaken hp).trans (branchTo_outside _ _ hout))
  · exact halone.pastEnd (g := id) (f := id) (hpast hp) (setRegs_id_cleared c (beginWork s)).symm (fun _ => ⟨rfl, rfl⟩) hgo

end

/-! ## Calls and returns -/

/-- The faults of a branch, where it has any, are `BRANCH_RANGE`. -/
theorem branchTo_faults (w : Work) (core : Nat) (off : Int) (g : Work → Work) :
    (branchTo w core off g).hold = .none ∧ ∀ x ∈ (branchTo w core off g).faults, x.1 = 0x0F := by
  unfold branchTo
  dsimp only
  split <;> simp [faultOut, branchRange]

/-- A push on a full stack is fault 0x0D, whatever the target (R81). -/
theorem slotCall_full (w : Work) (sl : Slot) (h : 16 ≤ (coreOf w.hw sl.core.toNat).r.returns.length) :
    (slotCall w sl).hold = .none ∧ LowestFirst (slotCall w sl).faults (0x0D, 0) := by
  simp only [slotCall, h, if_true]
  refine ⟨(branchTo_faults _ _ _ _).1, [], _, rfl, by simp, fun x hx => ?_⟩
  rw [(branchTo_faults _ _ _ _).2 x hx]
  decide

/-- `RET` with an entry on the stack is a branch to it. -/
theorem slotRet_cons {s : State} {sl : Slot} (t : Nat) (rest : List Nat) (hr : (rOf s sl).returns = t :: rest) :
    slotRet (seen (.ret sl) sl.core.toNat s) sl = branchTo (seen (.ret sl) sl.core.toNat s) sl.core.toNat ((t : Int) - (rOf s sl).pc)
      (setRegs sl.core.toNat (fun q => { q with returns := rest })) := by
  have hr' : (coreOf s.hw sl.core.toNat).r.returns = t :: rest := hr
  simp only [slotRet, coreOf_seen, hr']
  rfl

section
variable {s : State} {sl : Slot} (h : Sole s.hw sl)
include h

theorem answers_call (h0 : 0 ≤ ((rOf s sl).pc : Int) + offset24 sl)
    (hn : ((rOf s sl).pc : Int) + offset24 sl < (coreOf s.hw sl.core.toNat).bundles) (hr : (rOf s sl).returns.length < 16) :
    AnswersWith (.call sl) s (branched sl.core.toNat (((rOf s sl).pc : Int) + offset24 sl).toNat
      (setRegs sl.core.toNat (fun q => { q with returns := ((rOf s sl).pc + 1) :: q.returns })) (beginWork s)) := by
  refine (alone_branch (slotOf_call sl) h rfl rfl).branches ?_
  have hroom : ¬ 16 ≤ (coreOf s.hw sl.core.toNat).r.returns.length := Nat.not_le.mpr hr
  simp only [slotCall, coreOf_seen, hroom, if_false]
  exact branchTo_inside _ _ h0 hn

theorem faults_call_outside (hout : ((rOf s sl).pc : Int) + offset24 sl < 0
      ∨ ((coreOf s.hw sl.core.toNat).bundles : Int) ≤ ((rOf s sl).pc : Int) + offset24 sl) (hr : (rOf s sl).returns.length < 16) :
    AnswersWith (.call sl) s (coreFault sl.core.toNat 0x0F 0 (rOf s sl).pc 0 false (cleared sl.core.toNat (beginWork s))) := by
  refine (alone_branch (slotOf_call sl) h rfl rfl).fault ?_
  have hroom : ¬ 16 ≤ (coreOf s.hw sl.core.toNat).r.returns.length := Nat.not_le.mpr hr
  simp only [slotCall, coreOf_seen, hroom, if_false]
  exact branchTo_outside _ _ hout

theorem faults_call_full (hr : 16 ≤ (rOf s sl).returns.length) :
    AnswersWith (.call sl) s (coreFault sl.core.toNat 0x0D 0 (rOf s sl).pc 0 false (cleared sl.core.toNat (beginWork s))) := by
  obtain ⟨hhold, hlow⟩ := slotCall_full (seen (.call sl) sl.core.toNat s) sl (by simpa [rOf] using hr)
  exact (alone_branch (slotOf_call sl) h rfl rfl).faults rfl hhold _ hlow

theorem alone_ret (hd : sl.d = 0) (ha : sl.a = 0) (hb : sl.b = 0) (himm : sl.imm = 0) : Alone s (.ret sl) ⟨sl, 0, 0, 0, slotRet⟩ :=
  alone_of_clean (slotOf_ret sl) h (by simp [fieldsClean, hd, ha, hb, himm]) (by decide) rfl rfl

end

/-! ## Loops -/

section
variable {s : State} {sl : Slot} (h : Sole s.hw sl) (hb : sl.b = 0)
include h hb

theorem alone_loop : Alone s (.loop sl) ⟨sl, 0, 0, 13, slotLoop⟩ :=
  alone_of_clean (slotOf_loop sl) h (by simp [fieldsClean, bit, hb]) (by decide) rfl rfl

end

section
variable (w : Work) (sl : Slot)

/-- The body of a loop lies within the program, after the loop's own bundle (R81). -/
def BodyInside (w : Work) (sl : Slot) : Prop :=
  1 ≤ offset14 sl ∧ ((coreOf w.hw sl.core.toNat).r.pc : Int) + offset14 sl < (coreOf w.hw sl.core.toNat).bundles

theorem slotLoop_inside (hin : BodyInside w sl) (hdepth : (coreOf w.hw sl.core.toNat).r.loops.length < 4) :
    slotLoop w sl =
      if sreg (coreOf w.hw sl.core.toNat).r sl.a.toNat = 0 then
        { skip := some (((coreOf w.hw sl.core.toNat).r.pc : Int) + offset14 sl).toNat }
      else { effect := setRegs sl.core.toNat (fun q => { q with
        loops := ⟨(coreOf w.hw sl.core.toNat).r.pc + 1, (((coreOf w.hw sl.core.toNat).r.pc : Int) + offset14 sl).toNat,
          sreg (coreOf w.hw sl.core.toNat).r sl.a.toNat⟩ :: q.loops }) } := by
  obtain ⟨hoff, hlast⟩ := hin
  have hr : ¬ (offset14 sl < 1 ∨ ((coreOf w.hw sl.core.toNat).bundles : Int) ≤ ((coreOf w.hw sl.core.toNat).r.pc : Int) + offset14 sl) := by
    omega
  have hd : ¬ 4 ≤ (coreOf w.hw sl.core.toNat).r.loops.length := by omega
  simp only [slotLoop, hr, hd, if_false, List.append_nil]
  rfl

theorem slotLoop_outside (hout : ¬ BodyInside w sl) (hdepth : (coreOf w.hw sl.core.toNat).r.loops.length < 4) :
    slotLoop w sl = faultOut 0x0F 0 := by
  have hr : offset14 sl < 1 ∨ ((coreOf w.hw sl.core.toNat).bundles : Int) ≤ ((coreOf w.hw sl.core.toNat).r.pc : Int) + offset14 sl := by
    unfold BodyInside at hout
    omega
  have hd : ¬ 4 ≤ (coreOf w.hw sl.core.toNat).r.loops.length := by omega
  simp only [slotLoop, hr, hd, if_false, if_true, List.nil_append, faultOut, branchRange]

/-- A fifth loop is fault 0x0E, whatever its count and its body (R81). -/
theorem slotLoop_deep (hdepth : 4 ≤ (coreOf w.hw sl.core.toNat).r.loops.length) :
    (slotLoop w sl).hold = .none ∧ LowestFirst (slotLoop w sl).faults (0x0E, 0) := by
  simp only [slotLoop, hdepth, if_true, List.singleton_append]
  refine ⟨trivial, [], _, rfl, by simp, fun x hx => ?_⟩
  split at hx <;> simp_all [branchRange]

end

section
variable {s : State} {sl : Slot} (h : Sole s.hw sl) (hb : sl.b = 0)

theorem bodyInside_seen : BodyInside (seen (.loop sl) sl.core.toNat s) sl
    ↔ 1 ≤ offset14 sl ∧ ((rOf s sl).pc : Int) + offset14 sl < (coreOf s.hw sl.core.toNat).bundles := by
  rw [BodyInside, coreOf_seen]
  rfl

include h hb

/-- A loop with a count above 0 whose body lies in the program becomes the innermost loop. -/
theorem answers_loop (hoff : 1 ≤ offset14 sl) (hlast : ((rOf s sl).pc : Int) + offset14 sl < (coreOf s.hw sl.core.toNat).bundles)
    (hdepth : (rOf s sl).loops.length < 4) (hn : 0 < sreg (rOf s sl) sl.a.toNat) :
    AnswersWith (.loop sl) s (issued sl.core.toNat (setRegs sl.core.toNat (fun q => { q with
      loops := ⟨(rOf s sl).pc + 1, (((rOf s sl).pc : Int) + offset14 sl).toNat, sreg (rOf s sl) sl.a.toNat⟩ :: q.loops }))
      (beginWork s)) := by
  have hslot := slotLoop_inside (seen (.loop sl) sl.core.toNat s) sl (bodyInside_seen.mpr ⟨hoff, hlast⟩) (by simpa [rOf] using hdepth)
  simp only [rOf] at hn hlast
  simp only [coreOf_seen, if_neg (Nat.pos_iff_ne_zero.mp hn)] at hslot
  refine (alone_loop h hb).acts hslot ?_
  have hnew : (((coreOf s.hw sl.core.toNat).r.pc : Int) + offset14 sl).toNat ≠ (coreOf s.hw sl.core.toNat).r.pc := by omega
  simp [rOf, setRegs, afterBundle, hnew]
  omega

/-- A loop with a count of 0 whose body lies in the program is skipped. -/
theorem answers_loop_zero (hoff : 1 ≤ offset14 sl) (hlast : ((rOf s sl).pc : Int) + offset14 sl < (coreOf s.hw sl.core.toNat).bundles)
    (hdepth : (rOf s sl).loops.length < 4) (hn : sreg (rOf s sl) sl.a.toNat = 0) :
    AnswersWith (.loop sl) s (nextBundle sl.core.toNat none (some (((rOf s sl).pc : Int) + offset14 sl).toNat)
      (cleared sl.core.toNat (beginWork s))) := by
  have hslot := slotLoop_inside (seen (.loop sl) sl.core.toNat s) sl (bodyInside_seen.mpr ⟨hoff, hlast⟩) (by simpa [rOf] using hdepth)
  simp only [rOf] at hn
  simp only [coreOf_seen, if_pos hn] at hslot
  exact (alone_loop h hb).answers_next (g := id) hslot

theorem faults_loop_outside (hout : offset14 sl < 1 ∨ ((coreOf s.hw sl.core.toNat).bundles : Int) ≤ ((rOf s sl).pc : Int) + offset14 sl)
    (hdepth : (rOf s sl).loops.length < 4) :
    AnswersWith (.loop sl) s (coreFault sl.core.toNat 0x0F 0 (rOf s sl).pc 0 false (cleared sl.core.toNat (beginWork s))) := by
  refine (alone_loop h hb).fault (slotLoop_outside _ sl ?_ (by simpa [rOf] using hdepth))
  rw [bodyInside_seen]
  omega

theorem faults_loop_deep (hdepth : 4 ≤ (rOf s sl).loops.length) :
    AnswersWith (.loop sl) s (coreFault sl.core.toNat 0x0E 0 (rOf s sl).pc 0 false (cleared sl.core.toNat (beginWork s))) := by
  obtain ⟨hhold, hlow⟩ := slotLoop_deep (seen (.loop sl) sl.core.toNat s) sl (by simpa [rOf] using hdepth)
  exact (alone_loop h hb).faults rfl hhold _ hlow

end

/-- Settles O8, instruction by instruction through the rules of the one slot of a bundle and of what follows it. -/
theorem controlFlow : Obligations.ControlFlow := by
  refine ⟨fun s sl h => ?_, fun s sl h => ?_, fun s sl h => ?_, fun s sl h hb => ?_, fun s sl h hgo => ?_, ?_⟩
  · obtain ⟨eqT, eqP, -, -⟩ := answers_branchIf (· == ·) (slotOf_beq sl) h rfl rfl _ beq_iff_eq
    obtain ⟨neT, neP, -, -⟩ := answers_branchIf (· != ·) (slotOf_bne sl) h rfl rfl _ bne_iff_ne
    obtain ⟨ltT, ltP, -, -⟩ := answers_branchIf (fun a b => decide (toSigned 64 a < toSigned 64 b)) (slotOf_blt sl) h rfl rfl _ decide_eq_true_iff
    obtain ⟨geT, geP, -, -⟩ := answers_branchIf (fun a b => decide (toSigned 64 b ≤ toSigned 64 a)) (slotOf_bge sl) h rfl rfl _ decide_eq_true_iff
    exact ⟨fun h0 hn => (alone_branch (slotOf_br sl) h rfl rfl).branches (branchTo_inside _ _ h0 hn),
      ⟨eqT, eqP⟩, ⟨neT, neP⟩, ⟨ltT, ltP⟩, ⟨geT, geP⟩⟩
  · obtain ⟨-, -, eqF, -⟩ := answers_branchIf (· == ·) (slotOf_beq sl) h rfl rfl _ beq_iff_eq
    obtain ⟨-, -, neF, -⟩ := answers_branchIf (· != ·) (slotOf_bne sl) h rfl rfl _ bne_iff_ne
    obtain ⟨-, -, ltF, -⟩ := answers_branchIf (fun a b => decide (toSigned 64 a < toSigned 64 b)) (slotOf_blt sl) h rfl rfl _ decide_eq_true_iff
    obtain ⟨-, -, geF, -⟩ := answers_branchIf (fun a b => decide (toSigned 64 b ≤ toSigned 64 a)) (slotOf_bge sl) h rfl rfl _ decide_eq_true_iff
    exact ⟨fun hout => (alone_branch (slotOf_br sl) h rfl rfl).fault (branchTo_outside _ _ hout),
      fun hout => ⟨eqF hout, neF hout, ltF hout, geF hout⟩⟩
  · refine ⟨answers_call h, faults_call_outside h, faults_call_full h, fun hd ha hb himm => ⟨fun t rest hr ht => ?_, fun t rest hr ht => ?_, fun hr => ?_⟩⟩
    · have hback : ((rOf s sl).pc : Int) + ((t : Int) - (rOf s sl).pc) = t := by omega
      have hto := branchTo_inside (s := s) (sl := sl) (i := .ret sl) ((t : Int) - (rOf s sl).pc)
        (setRegs sl.core.toNat (fun q => { q with returns := rest })) (by omega) (by omega)
      rw [hback, Int.toNat_natCast] at hto
      exact (alone_ret h hd ha hb himm).branches ((slotRet_cons t rest hr).trans hto)
    · exact (alone_ret h hd ha hb himm).fault ((slotRet_cons t rest hr).trans (branchTo_outside _ _ (by omega)))
    · refine (alone_ret h hd ha hb himm).fault ?_
      simp only [rOf] at hr
      simp only [slotRet, coreOf_seen, hr]
  · refine ⟨answers_loop h hb, fun hoff hlast hdepth hn => ?_, faults_loop_outside h hb, faults_loop_deep h hb⟩
    have hnext := answers_loop_zero h hb hoff hlast hdepth hn
    refine ⟨fun hgo => ?_, fun hgo => ?_⟩
    · rw [nextBundle_skip _ _ _ (by simpa [rOf] using hgo)] at hnext
      simpa [rOf] using hnext
    · rw [nextBundle_skip_past _ _ _ (by simpa [rOf] using hgo) (by simpa using ending_of_issues _ _ h.takes)] at hnext
      simpa [rOf] using hnext
  · obtain ⟨-, -, -, eqE⟩ := answers_branchIf (· == ·) (slotOf_beq sl) h rfl rfl _ beq_iff_eq
    obtain ⟨-, -, -, neE⟩ := answers_branchIf (· != ·) (slotOf_bne sl) h rfl rfl _ bne_iff_ne
    obtain ⟨-, -, -, ltE⟩ := answers_branchIf (fun a b => decide (toSigned 64 a < toSigned 64 b)) (slotOf_blt sl) h rfl rfl _ decide_eq_true_iff
    obtain ⟨-, -, -, geE⟩ := answers_branchIf (fun a b => decide (toSigned 64 b ≤ toSigned 64 a)) (slotOf_bge sl) h rfl rfl _ decide_eq_true_iff
    refine ⟨fun himm => ?_, eqE hgo, fun hab => neE hgo (not_not.mpr hab), fun hba => ltE hgo (Int.not_lt.mpr hba),
      fun hab => geE hgo (Int.not_le.mpr hab)⟩
    exact (alone_of_clean (slotOf_add sl) h (by simp [fieldsClean, bit, himm]) (by decide) rfl rfl).pastEnd
      (by simp only [slotAdd, scalarRR, coreOf_seen]; rfl) rfl (fun r => setS_keeps r _ _) hgo
  · exact fun s i x f hi h hl he hgo hf ho => Alone.pastEnd ⟨hi, h, hl, he⟩ ho rfl hf hgo

end Sys2Proof.Machine
end

section
/-! PROOFS. Wait counters, control registers, clocks, markers and the end of a program (R57, R59, R73, R74, R80, R88, R89, R101, R102). -/
namespace Sys2Proof.Machine

open Sys2Proof

/-! ## A bundle of one slot that the core already holds -/

section
variable {core : Nat} {w : Work} {i : Instr} {x : SlotInfo} (hb : (coreOf w.hw core).bundle = [i]) (hi : slotOf i = some x)
  (hl : bundleLegal [i] = true)
include hb hi hl

/-- The bundle of one slot goes on where the slot has nothing to do. -/
theorem runBundle_one_passes (hp : x.place ≠ 1) (ho : x.act w x.sl = {}) : runBundle core w = nextBundle core none none (cleared core w) := by
  have hslots : [i].filterMap slotOf = [x] := by simp [hi]
  have hsort : sortBy (fun s : SlotInfo => s.place) [x] = [x] := rfl
  have hvec : ([x].any fun s => s.place == 1) = false := by simp [hp]
  simp only [runBundle, hb, hl, hslots, hsort, hvec, List.map_cons, List.map_nil, ho, List.isEmpty_cons, Bool.not_true,
    Bool.false_and, Bool.false_eq_true, if_false, List.find?_cons, List.find?_nil, bne_self_eq_false, firstFault, firstSome,
    List.foldl_cons, List.foldl_nil, id, cleared]

/-- The bundle of one slot stays held where the slot waits. -/
theorem runBundle_one_holds (hh : (x.act w x.sl).hold ≠ .none) :
    runBundle core w = modCore core (fun c => { c with hold := (x.act w x.sl).hold }) w := by
  have hslots : [i].filterMap slotOf = [x] := by simp [hi]
  have hsort : sortBy (fun s : SlotInfo => s.place) [x] = [x] := rfl
  have hh' : ((x.act w x.sl).hold != .none) = true := by simpa using hh
  simp only [runBundle, hb, hl, hslots, hsort, List.map_cons, List.map_nil, List.isEmpty_cons, Bool.not_true,
    Bool.false_eq_true, if_false, List.find?_cons, hh']

end

/-! ## Waits -/

/-- A wait counter that has reached the value lets the bundle go on. -/
theorem slotWait_passes (w : Work) (sl : Slot)
    (h : sreg (coreOf w.hw sl.core.toNat).r sl.a.toNat ≤ wcOf (coreOf w.hw sl.core.toNat).r sl.d.toNat) : slotWait w sl = {} := by
  simp [slotWait, h]

theorem slotWait_holds (w : Work) (sl : Slot)
    (h : wcOf (coreOf w.hw sl.core.toNat).r sl.d.toNat < sreg (coreOf w.hw sl.core.toNat).r sl.a.toNat) :
    slotWait w sl = { hold := .wait } := by
  simp [slotWait, Nat.not_le.mpr h]

theorem slotWaiti_passes (w : Work) (sl : Slot) (h : sl.imm.toNat ≤ wcOf (coreOf w.hw sl.core.toNat).r sl.d.toNat) :
    slotWaiti w sl = {} := by
  simp [slotWaiti, h]

theorem slotWaiti_holds (w : Work) (sl : Slot) (h : wcOf (coreOf w.hw sl.core.toNat).r sl.d.toNat < sl.imm.toNat) :
    slotWaiti w sl = { hold := .wait } := by
  simp [slotWaiti, Nat.not_le.mpr h]

theorem wait_clean (sl : Slot) (hb : sl.b = 0) (himm : sl.imm = 0) : fieldsClean ⟨sl, 0, 0, 12, slotWait⟩ = true := by
  simp [fieldsClean, bit, hb, himm]

theorem waiti_clean (sl : Slot) (ha : sl.a = 0) (hb : sl.b = 0) : fieldsClean ⟨sl, 0, 0, 9, slotWaiti⟩ = true := by
  simp [fieldsClean, bit, ha, hb]

/-- The core's hold has been taken away, so that its bundle is tried again. -/
def unheld (core : Nat) (w : Work) : Work := modCore core (fun c => { c with hold := .none }) w

@[simp] theorem coreOf_unheld (core : Nat) (w : Work) :
    coreOf (unheld core w).hw core = { coreOf w.hw core with hold := .none } := by simp [unheld]

@[simp] theorem cleared_unheld (core : Nat) (w : Work) : cleared core (unheld core w) = cleared core w := by
  simp [cleared, unheld]

theorem retryHeld_held (core : Nat) (hd : Hold) (w : Work) (hlive : coreLive w.hw core = true)
    (hrun : (coreOf w.hw core).running = true) (hh : (coreOf w.hw core).hold = hd) :
    retryHeld core hd w = runBundle core (unheld core w) := by
  simp [retryHeld, hlive, hrun, hh, unheld]

/-- A core that holds no bundle for this reason is left as it was. -/
theorem retryHeld_other (core : Nat) (hd : Hold) (w : Work)
    (h : coreLive w.hw core = false ∨ (coreOf w.hw core).running = false ∨ (coreOf w.hw core).hold ≠ hd) :
    retryHeld core hd w = w := by
  rcases h with h | h | h <;> simp [retryHeld, h]

section
variable {s : State} {core : BitVec 8} (hlive : coreLive s.hw core.toNat = true) (hrun : (coreOf s.hw core.toNat).running = true)
  (hh : (coreOf s.hw core.toNat).hold = .wait)
include hlive hrun hh

/-- At `WAIT_SATISFIED` a held bundle of one slot goes on where its slot no longer waits (R89). -/
theorem answers_waitSatisfied {i : Instr} {x : SlotInfo} (hb : (coreOf s.hw core.toNat).bundle = [i]) (hi : slotOf i = some x)
    (hl : bundleLegal [i] = true) (hp : x.place ≠ 1) (ho : x.act (unheld core.toNat (beginWork s)) x.sl = {})
    (hgo : (afterBundle (coreOf s.hw core.toNat).r.pc (coreOf s.hw core.toNat).r.loops).1 < (coreOf s.hw core.toNat).bundles) :
    AnswersWith (.waitSatisfied core) s (issued core.toNat id (beginWork s)) := by
  refine answersWith_run _ s _ _ (exec_waitSatisfied core s) ?_
  rw [retryHeld_held core.toNat .wait (beginWork s) hlive hrun hh, runBundle_one_passes (by simpa using hb) hi hl hp ho, cleared_unheld]
  exact nextBundle_on _ _ (by simpa using hgo)

/-- At `WAIT_SATISFIED` a held bundle of one slot stays held where its slot still waits. -/
theorem stays_waitSatisfied {i : Instr} {x : SlotInfo} (hb : (coreOf s.hw core.toNat).bundle = [i]) (hi : slotOf i = some x)
    (hl : bundleLegal [i] = true) (ho : x.act (unheld core.toNat (beginWork s)) x.sl = { hold := .wait }) :
    AnswersWith (.waitSatisfied core) s (modCore core.toNat (fun x => { x with hold := .wait }) (beginWork s)) := by
  refine answersWith_run _ s _ _ (exec_waitSatisfied core s) ?_
  rw [retryHeld_held core.toNat .wait (beginWork s) hlive hrun hh, runBundle_one_holds (by simpa using hb) hi hl (by simp [ho]), ho]
  simp [unheld]

end

/-! ## Raising a counter -/

/-- A raise of a wait counter adds to it (R88). -/
theorem raiseWc_adds (core counter n bundle unit : Nat) (w : Work) (h : wcOf (coreOf w.hw core).r counter + n < 2 ^ 32) :
    raiseWc core counter n bundle unit w
      = setRegs core (fun q => { q with wc := tabSet 0 q.wc counter (wcOf (coreOf w.hw core).r counter + n) }) w := by
  simp only [raiseWc, h, if_true]
  rfl

/-- A raise beyond 0xFFFF_FFFF leaves 0xFFFF_FFFF and is a fault (R89). -/
theorem raiseWc_overflows (core counter n bundle unit : Nat) (w : Work) (h : 2 ^ 32 ≤ wcOf (coreOf w.hw core).r counter + n) :
    raiseWc core counter n bundle unit w
      = coreFault core 0x0C unit bundle counter true (setRegs core (fun q => { q with wc := tabSet 0 q.wc counter 0xFFFFFFFF }) w) := by
  simp only [raiseWc, Nat.not_lt.mpr h, if_false]
  rfl

section
variable {s : State} {sl : Slot} (h : Sole s.hw sl) (ha : sl.a = 0) (hb : sl.b = 0)
include h ha hb

theorem alone_wcadd : Alone s (.wcadd sl) ⟨sl, 0, 0, 9, slotWcadd⟩ :=
  alone_of_clean (slotOf_wcadd sl) h (by simp [fieldsClean, bit, ha, hb]) (by decide) rfl rfl

theorem answers_wcadd (hn : 1 ≤ sl.imm.toNat) (hsum : wcOf (rOf s sl) sl.d.toNat + sl.imm.toNat < 2 ^ 32) (hgo : GoesOn s sl) :
    AnswersWith (.wcadd sl) s (issued sl.core.toNat
      (setRegs sl.core.toNat (fun q => { q with wc := tabSet 0 q.wc sl.d.toNat (wcOf (rOf s sl) sl.d.toNat + sl.imm.toNat) }))
      (beginWork s)) := by
  have hpos : sl.imm.toNat ≠ 0 := by omega
  have hover : ¬ 2 ^ 32 ≤ wcOf (coreOf s.hw sl.core.toNat).r sl.d.toNat + sl.imm.toNat := Nat.not_le.mpr hsum
  have hraise := raiseWc_adds sl.core.toNat sl.d.toNat sl.imm.toNat 0xFFFF 0 (cleared sl.core.toNat (beginWork s))
    (by simpa [rOf] using hsum)
  have hissued := (alone_wcadd h ha hb).acts (g := raiseWc sl.core.toNat sl.d.toNat sl.imm.toNat 0xFFFF 0)
    (by simp only [slotWcadd, coreOf_seen, hpos, hover, if_false])
    (by rw [hraise]; simpa [setRegs, GoesOn, rOf] using hgo)
  rw [issued_congr _ _ _ _ hraise] at hissued
  simpa [rOf] using hissued

theorem faults_wcadd_overflow (hn : 1 ≤ sl.imm.toNat) (hsum : 2 ^ 32 ≤ wcOf (rOf s sl) sl.d.toNat + sl.imm.toNat) :
    AnswersWith (.wcadd sl) s (coreFault sl.core.toNat 0x0C 0 (rOf s sl).pc sl.d.toNat false (cleared sl.core.toNat (beginWork s))) := by
  have hpos : sl.imm.toNat ≠ 0 := by omega
  have hover : 2 ^ 32 ≤ wcOf (coreOf s.hw sl.core.toNat).r sl.d.toNat + sl.imm.toNat := hsum
  exact (alone_wcadd h ha hb).fault (by simp only [slotWcadd, coreOf_seen, hpos, hover, if_false, if_true, waitOverflow])

theorem faults_wcadd_zero (himm : sl.imm = 0) :
    AnswersWith (.wcadd sl) s (coreFault sl.core.toNat 0x02 0 (rOf s sl).pc 0 false (cleared sl.core.toNat (beginWork s))) :=
  (alone_wcadd h ha hb).fault (by simp [slotWcadd, himm, illegalOperand])

end

/-- Settles O9, by what each wait and raise does for the one slot of a bundle, issued or held. -/
theorem waits : Obligations.Waits := by
  refine ⟨fun s sl h hb himm => ⟨fun hn hgo => ?_, fun hn => ?_⟩, fun s sl h ha hb => ⟨fun hn hgo => ?_, fun hn => ?_⟩,
    fun s core sl n hcore hlive hrun hh hbundle => ?_, fun s core hno => ?_, fun s sl h ha hb => ?_,
    fun s sl h hb himm hgo => ?_, fun w c counter n bundle unit => ?_⟩
  · exact (alone_of_clean (slotOf_wait sl) h (wait_clean sl hb himm) Nat.zero_ne_one rfl rfl).passes
      (slotWait_passes _ sl (by simpa [rOf] using hn)) hgo
  · exact (alone_of_clean (slotOf_wait sl) h (wait_clean sl hb himm) Nat.zero_ne_one rfl rfl).holds
      (slotWait_holds _ sl (by simpa [rOf] using hn)) rfl (by decide)
  · exact (alone_of_clean (slotOf_waiti sl) h (waiti_clean sl ha hb) Nat.zero_ne_one rfl rfl).passes
      (slotWaiti_passes _ sl (by simpa [rOf] using hn)) hgo
  · exact (alone_of_clean (slotOf_waiti sl) h (waiti_clean sl ha hb) Nat.zero_ne_one rfl rfl).holds
      (slotWaiti_holds _ sl (by simpa [rOf] using hn)) rfl (by decide)
  · subst hcore
    rcases hbundle with ⟨hbundle, hb, himm, rfl⟩ | ⟨hbundle, ha, hb, rfl⟩
    · have hl := bundleLegal_sole (.wait sl) _ (slotOf_wait sl) rfl rfl (wait_clean sl hb himm)
      exact ⟨fun hn hgo => answers_waitSatisfied hlive hrun hh hbundle (slotOf_wait sl) hl Nat.zero_ne_one
          (slotWait_passes _ sl (by simpa [rOf] using hn)) hgo,
        fun hn => stays_waitSatisfied hlive hrun hh hbundle (slotOf_wait sl) hl (slotWait_holds _ sl (by simpa [rOf] using hn))⟩
    · have hl := bundleLegal_sole (.waiti sl) _ (slotOf_waiti sl) rfl rfl (waiti_clean sl ha hb)
      exact ⟨fun hn hgo => answers_waitSatisfied hlive hrun hh hbundle (slotOf_waiti sl) hl Nat.zero_ne_one
          (slotWaiti_passes _ sl (by simpa [rOf] using hn)) hgo,
        fun hn => stays_waitSatisfied hlive hrun hh hbundle (slotOf_waiti sl) hl (slotWaiti_holds _ sl (by simpa [rOf] using hn))⟩
  · exact answersWith_run _ s _ _ (exec_waitSatisfied core s) (retryHeld_other core.toNat .wait _ hno)
  · exact ⟨answers_wcadd h ha hb, faults_wcadd_overflow h ha hb, faults_wcadd_zero h ha hb⟩
  · exact gives_of_setS (alone_of_clean (slotOf_wcread sl) h (by simp [fieldsClean, bit, hb, himm]) (by decide) rfl rfl)
      (by simp only [slotWcread, coreOf_seen]; rfl) hgo
  · exact ⟨raiseWc_adds c counter n bundle unit w, raiseWc_overflows c counter n bundle unit w⟩

end Sys2Proof.Machine
end

section
/-! PROOFS. Control registers, clocks, markers and the end of a program (R57, R59, R73, R74, R101, R102, R548). -/
namespace Sys2Proof.Machine

open Sys2Proof

/-! ## What the slot sees of the module is the module's own, but for the bundle -/

@[simp] theorem stampOf_seen (i : Instr) (core region : Nat) (s : State) :
    stampOf (seen i core s).hw region = stampOf s.hw region := rfl

@[simp] theorem cyclesNow_seen (i : Instr) (core region : Nat) (s : State) :
    cyclesNow (seen i core s).hw region = cyclesNow s.hw region := by
  simp only [cyclesNow]
  rfl

@[simp] theorem issueRate_seen (i : Instr) (core : Nat) (s : State) : issueRate (seen i core s).hw core = issueRate s.hw core := by
  simp only [issueRate, coreOf_seen, cyclesNow_seen]
  rfl

@[simp] theorem controlReg_seen (i : Instr) (core n : Nat) (s : State) :
    controlReg (seen i core s).hw core n = controlReg s.hw core n := by
  unfold controlReg
  simp only [coreOf_seen, issueRate_seen]
  rfl

/-- An unlisted control register reads zero (R73). -/
theorem controlReg_unlisted (hw : Hw) (core n : Nat) (h : 10 ≤ n) : controlReg hw core n = 0 := by
  unfold controlReg
  dsimp only
  split
  case h_11 => rfl
  all_goals omega

/-! ## Trace records leave the cores alone -/

@[simp] theorem write_cores (w : Work) (a : Nat) (bs : List Byte) : (w.write a bs).hw.cores = w.hw.cores := by
  unfold Work.write
  split
  · rfl
  · dsimp only
    split <;> rfl

@[simp] theorem ringWrite_cores (source : Nat) (bytes : List Byte) (w : Work) :
    (ringWrite source bytes w).hw.cores = w.hw.cores := by
  unfold ringWrite
  dsimp only
  split
  · rfl
  · split
    · simp
    · split <;> simp

/-- A fold whose every step leaves the cores alone leaves them alone. -/
theorem foldl_cores {α : Type} (f : Work → α → Work) (h : ∀ w a, (f w a).hw.cores = w.hw.cores) (l : List α) (w : Work) :
    (l.foldl f w).hw.cores = w.hw.cores := by
  induction l generalizing w with
  | nil => rfl
  | cons a l ih => rw [List.foldl_cons, ih, h]

@[simp] theorem drainTrace_cores (w : Work) : (drainTrace w).hw.cores = w.hw.cores := by
  unfold drainTrace
  split
  · rfl
  · rw [up_hw]
    exact (foldl_cores _ (fun _ _ => ringWrite_cores ..) _ _).trans (foldl_cores _ (fun _ _ => ringWrite_cores ..) _ _)

@[simp] theorem putTrace_cores (r : TraceRec) (w : Work) : (putTrace r w).hw.cores = w.hw.cores := by
  unfold putTrace
  dsimp only
  split
  · rw [drainTrace_cores]; rfl
  · rfl

@[simp] theorem tracePlan_cores (plan cls region kind rflags ctx unit : Nat) (payload : List Byte) (w : Work) :
    (tracePlan plan cls region kind rflags ctx unit payload w).hw.cores = w.hw.cores := by
  unfold tracePlan
  split
  · exact putTrace_cores _ _
  · rfl

@[simp] theorem markRecord_cores (core kind id depth : Nat) (mismatch : Bool) (w : Work) :
    (markRecord core kind id depth mismatch w).hw.cores = w.hw.cores := tracePlan_cores ..

@[simp] theorem sample_cores (quantity select : Nat) (v : Int) (w : Work) : (sample quantity select v w).hw.cores = w.hw.cores := rfl

/-- Two modules with the same cores show the same state of a core. -/
theorem coreOf_congr {v w : Work} (h : v.hw.cores = w.hw.cores) (core : Nat) : coreOf v.hw core = coreOf w.hw core := by
  rw [coreOf, coreOf, h]

/-- While Burin is disabled no record is written (R101). -/
theorem markRecord_disabled (core kind id depth : Nat) (mismatch : Bool) (w : Work) (h : w.hw.burin.enable = false) :
    markRecord core kind id depth mismatch w = w := by
  simp [markRecord, tracePlan, planClass, h]

/-! ## Slots -/

/-- A slot that stands alone, and whose effect changes of its core at most registers other than the program counter and the loop stack. -/
theorem Alone.acts_on {s : State} {i : Instr} {x : SlotInfo} (h : Alone s i x) {g : Work → Work} {f : CoreRegs → CoreRegs}
    (ho : x.act (seen i x.sl.core.toNat s) x.sl = { effect := g })
    (hg : (g (cleared x.sl.core.toNat (beginWork s))).hw.cores = (setRegs x.sl.core.toNat f (cleared x.sl.core.toNat (beginWork s))).hw.cores)
    (hf : ∀ r, (f r).pc = r.pc ∧ (f r).loops = r.loops) (hgo : GoesOn s x.sl) :
    AnswersWith i s (issued x.sl.core.toNat g (beginWork s)) := by
  refine h.acts ho ?_
  rw [coreOf_congr hg]
  simpa [setRegs, hf, GoesOn, rOf] using hgo

section
variable {s : State} {sl : Slot} (h : Sole s.hw sl)
include h

theorem gives_clock {i : Instr} {act : Work → Slot → SlotOut} {v : Nat} (hi : slotOf i = some ⟨sl, 0, 0, 8, act⟩)
    (h1 : isLi i = false) (h2 : isEndSlot i = false) (ha : sl.a = 0) (hb : sl.b = 0) (himm : sl.imm = 0) (hgo : GoesOn s sl)
    (ho : act (seen i sl.core.toNat s) sl = regs sl.core.toNat (fun r => setS r sl.d.toNat v)) : Gives s sl i v :=
  gives_of_setS (alone_of_clean hi h (by simp [fieldsClean, bit, ha, hb, himm]) (by decide) h1 h2) ho hgo

theorem gives_csrr (ha : sl.a = 0) (hb : sl.b = 0) (hgo : GoesOn s sl) :
    Gives s sl (.csrr sl) (controlReg s.hw sl.core.toNat sl.imm.toNat) :=
  gives_of_setS (alone_of_clean (slotOf_csrr sl) h (by simp [fieldsClean, bit, ha, hb]) (by decide) rfl rfl)
    (by simp only [slotCsrr, controlReg_seen]) hgo

theorem alone_csrw (hd : sl.d = 0) (hb : sl.b = 0) : Alone s (.csrw sl) ⟨sl, 0, 0, 5, slotCsrw⟩ :=
  alone_of_clean (slotOf_csrw sl) h (by simp [fieldsClean, bit, hd, hb]) (by decide) rfl rfl

theorem alone_mark {i : Instr} {act : Work → Slot → SlotOut} (hi : slotOf i = some ⟨sl, 0, 0, 4, act⟩)
    (h1 : isLi i = false) (h2 : isEndSlot i = false) (hd : sl.d = 0) (hb : sl.b = 0) (himm : sl.imm = 0) :
    Alone s i ⟨sl, 0, 0, 4, act⟩ :=
  alone_of_clean hi h (by simp [fieldsClean, bit, hd, hb, himm]) (by decide) h1 h2

/-- `END` stands alone, as the one slot of its bundle. -/
theorem alone_end (hd : sl.d = 0) (ha : sl.a = 0) (hb : sl.b = 0) (himm : sl.imm = 0) : Alone s (.endFrame sl) ⟨sl, 0, 0, 0, slotEnd⟩ :=
  ⟨rfl, h, by simp [bundleLegal, noRepeats, fieldsClean, hd, ha, hb, himm, isLi], .inl Nat.zero_ne_one⟩

/-- `END` makes the core stop issuing, also as the last bundle of its program (R102). -/
theorem answers_end (hd : sl.d = 0) (ha : sl.a = 0) (hb : sl.b = 0) (himm : sl.imm = 0) :
    AnswersWith (.endFrame sl) s (issued sl.core.toNat (modCore sl.core.toNat (fun x => { x with ending := true })) (beginWork s)) := by
  have hnext := (alone_end h hd ha hb himm).answers_next (g := modCore sl.core.toNat (fun x => { x with ending := true })) (skip := none) rfl
  have hgo : ∀ w : Work, (coreOf w.hw sl.core.toNat).ending = true → nextBundle sl.core.toNat none none w = goOn sl.core.toNat w := fun w hw => by
    unfold nextBundle
    simp only [Option.getD_none, hw, Bool.not_true, Bool.and_false, Bool.false_eq_true, if_false]
    rfl
  rwa [hgo _ (by simp)] at hnext

theorem answers_csrw_mode (hd : sl.d = 0) (hb : sl.b = 0) (himm : sl.imm.toNat = 0) (hv : sreg (rOf s sl) sl.a.toNat < 3)
    (hgo : GoesOn s sl) :
    AnswersWith (.csrw sl) s (issued sl.core.toNat
      (setRegs sl.core.toNat (fun q => { q with mode := sreg (rOf s sl) sl.a.toNat })) (beginWork s)) := by
  have hv' : ¬ 3 ≤ sreg (coreOf s.hw sl.core.toNat).r sl.a.toNat := Nat.not_le.mpr hv
  exact (alone_csrw h hd hb).regs (by simp only [slotCsrw, coreOf_seen, himm, if_true, ge_iff_le, hv', if_false]; rfl)
    (fun _ => ⟨rfl, rfl⟩) hgo

theorem faults_csrw_mode (hd : sl.d = 0) (hb : sl.b = 0) (himm : sl.imm.toNat = 0) (hv : 3 ≤ sreg (rOf s sl) sl.a.toNat) :
    AnswersWith (.csrw sl) s (coreFault sl.core.toNat 0x02 0 (rOf s sl).pc 0 false (cleared sl.core.toNat (beginWork s))) := by
  have hv' : 3 ≤ sreg (coreOf s.hw sl.core.toNat).r sl.a.toNat := hv
  exact (alone_csrw h hd hb).fault (by simp only [slotCsrw, coreOf_seen, himm, if_true, ge_iff_le, hv', illegalOperand])

theorem answers_csrw_other (hd : sl.d = 0) (hb : sl.b = 0) (himm : sl.imm.toNat ≠ 0) (hgo : GoesOn s sl) :
    AnswersWith (.csrw sl) s (issued sl.core.toNat id (beginWork s)) :=
  (alone_csrw h hd hb).passes (by simp only [slotCsrw, himm, if_false]) hgo

section
variable (hd : sl.d = 0) (hb : sl.b = 0) (himm : sl.imm = 0) (hgo : GoesOn s sl)
include hd hb himm hgo

/-- A marker that leaves the marker stack writes its record only. -/
theorem answers_markRecord {i : Instr} {act : Work → Slot → SlotOut} (hi : slotOf i = some ⟨sl, 0, 0, 4, act⟩)
    (h1 : isLi i = false) (h2 : isEndSlot i = false) {kind id32 depth : Nat} {mismatch : Bool}
    (ho : act (seen i sl.core.toNat s) sl = { effect := markRecord sl.core.toNat kind id32 depth mismatch }) :
    AnswersWith i s (issued sl.core.toNat (markRecord sl.core.toNat kind id32 depth mismatch) (beginWork s)) :=
  (alone_mark h hi h1 h2 hd hb himm).acts_on ho (f := id) (by rw [setRegs_id_cleared, markRecord_cores]) (fun _ => ⟨rfl, rfl⟩) hgo

theorem answers_markb (hr : (rOf s sl).marks.length < 8) :
    AnswersWith (.markb sl) s (issued sl.core.toNat (fun w =>
      markRecord sl.core.toNat 1 (sreg (rOf s sl) sl.a.toNat % 2 ^ 32) ((rOf s sl).marks.length + 1) false
        (setRegs sl.core.toNat (fun q => { q with
          marks := (sreg (rOf s sl) sl.a.toNat % 2 ^ 32, (stampOf s.hw (coreRegion sl.core.toNat)).1) :: q.marks }) w)) (beginWork s)) := by
  have hroom : ¬ 8 ≤ (coreOf s.hw sl.core.toNat).r.marks.length := Nat.not_le.mpr hr
  exact (alone_mark h (slotOf_markb sl) rfl rfl hd hb himm).acts_on
    (by simp only [slotMarkb, coreOf_seen, stampOf_seen, hroom, if_false]; rfl) (markRecord_cores ..) (fun _ => ⟨rfl, rfl⟩) hgo

theorem answers_markb_full (hr : 8 ≤ (rOf s sl).marks.length) :
    AnswersWith (.markb sl) s (issued sl.core.toNat
      (markRecord sl.core.toNat 1 (sreg (rOf s sl) sl.a.toNat % 2 ^ 32) 8 true) (beginWork s)) := by
  have hfull : 8 ≤ (coreOf s.hw sl.core.toNat).r.marks.length := hr
  exact answers_markRecord h hd hb himm hgo (slotOf_markb sl) rfl rfl (by simp only [slotMarkb, coreOf_seen, hfull, if_true]; rfl)

theorem answers_marke (t : Nat) (rest : List (Nat × Nat)) (hr : (rOf s sl).marks = (sreg (rOf s sl) sl.a.toNat % 2 ^ 32, t) :: rest) :
    AnswersWith (.marke sl) s (issued sl.core.toNat (fun w =>
      sample 11 (sreg (rOf s sl) sl.a.toNat % 2 ^ 32) (((stampOf s.hw (coreRegion sl.core.toNat)).1 : Int) - t)
        (markRecord sl.core.toNat 2 (sreg (rOf s sl) sl.a.toNat % 2 ^ 32) (rOf s sl).marks.length false
          (setRegs sl.core.toNat (fun q => { q with marks := rest }) w))) (beginWork s)) := by
  have hr' : (coreOf s.hw sl.core.toNat).r.marks = (sreg (coreOf s.hw sl.core.toNat).r sl.a.toNat % 2 ^ 32, t) :: rest := hr
  exact (alone_mark h (slotOf_marke sl) rfl rfl hd hb himm).acts_on
    (by simp only [slotMarke, coreOf_seen, stampOf_seen, hr', rOf, if_true]; rfl)
    ((sample_cores ..).trans (markRecord_cores ..)) (fun _ => ⟨rfl, rfl⟩) hgo

/-- `MARKE` whose identifier is not that of the innermost entry, or that finds none, sets the mismatch flag. -/
theorem answers_marke_mismatch (hr : ∀ t rest, (rOf s sl).marks ≠ (sreg (rOf s sl) sl.a.toNat % 2 ^ 32, t) :: rest) :
    AnswersWith (.marke sl) s (issued sl.core.toNat
      (markRecord sl.core.toNat 2 (sreg (rOf s sl) sl.a.toNat % 2 ^ 32) (rOf s sl).marks.length true) (beginWork s)) := by
  refine answers_markRecord h hd hb himm hgo (slotOf_marke sl) rfl rfl ?_
  simp only [rOf] at hr ⊢
  simp only [slotMarke, coreOf_seen]
  cases hm : (coreOf s.hw sl.core.toNat).r.marks with
  | nil => rfl
  | cons e rest =>
    obtain ⟨top, t⟩ := e
    have htop : top ≠ sreg (coreOf s.hw sl.core.toNat).r sl.a.toNat % 2 ^ 32 := fun htop => hr t rest (htop ▸ hm)
    simp only [htop, if_false]

theorem answers_markp :
    AnswersWith (.markp sl) s (issued sl.core.toNat
      (markRecord sl.core.toNat 3 (sreg (rOf s sl) sl.a.toNat % 2 ^ 32) (rOf s sl).marks.length false) (beginWork s)) :=
  answers_markRecord h hd hb himm hgo (slotOf_markp sl) rfl rfl (by simp only [slotMarkp, coreOf_seen, rOf])

end

end

/-- Settles O10, instruction by instruction through the rules of the one slot of a bundle. -/
theorem controlRegisters : Obligations.ControlRegisters := by
  refine ⟨fun s sl h ha hb hgo => ?_, fun s sl h hd hb => ⟨answers_csrw_mode h hd hb, faults_csrw_mode h hd hb, answers_csrw_other h hd hb⟩,
    fun s sl h hd hb himm => ⟨answers_markb h hd hb himm, answers_markb_full h hd hb himm, answers_marke h hd hb himm,
      answers_marke_mismatch h hd hb himm, answers_markp h hd hb himm, fun ha => answers_end h hd ha hb himm⟩,
    fun w core kind id32 depth mismatch => markRecord_disabled core kind id32 depth mismatch w⟩
  have read : ∀ n, sl.imm.toNat = n → Gives s sl (.csrr sl) (controlReg s.hw sl.core.toNat n) :=
    fun n hn => hn ▸ gives_csrr h ha hb hgo
  refine ⟨fun himm => ⟨?_, ?_, ?_⟩, read 0, read 1, read 2, read 3, read 4, read 5, read 6, read 7, read 8, read 9, fun hn => ?_⟩
  · exact gives_clock h (slotOf_time sl) rfl rfl ha hb himm hgo (by simp only [slotTime, stampOf_seen])
  · exact gives_clock h (slotOf_cyc sl) rfl rfl ha hb himm hgo (by simp only [slotCyc, cyclesNow_seen])
  · exact gives_clock h (slotOf_tick sl) rfl rfl ha hb himm hgo rfl
  · exact controlReg_unlisted s.hw sl.core.toNat sl.imm.toNat hn ▸ gives_csrr h ha hb hgo

end Sys2Proof.Machine
end

section
/-! PROOFS. Vector moves, permutes, reductions and conversions (R83, R136). -/
namespace Sys2Proof.Machine

open Sys2Proof

/-- A vector slot stands alone where the fields it does not use are zero and the cycle is vector-enabled (R439). -/
theorem alone_vector {s : State} {i : Instr} {sl : Slot} {used : Nat} {act : Work → Slot → SlotOut}
    (hi : slotOf i = some ⟨sl, 1, 1, used, act⟩) (h : Sole s.hw sl) (he : vectorEnables s.hw sl.core.toNat = true)
    (hf : fieldsClean ⟨sl, 1, 1, used, act⟩ = true) (h1 : isLi i = false) (h2 : isEndSlot i = false) : Alone s i ⟨sl, 1, 1, used, act⟩ :=
  ⟨hi, h, bundleLegal_sole i _ hi h1 h2 hf, .inr he⟩

@[simp] theorem vA_seen (i : Instr) (sl : Slot) (s : State) : vA (seen i sl.core.toNat s) sl = vreg (rOf s sl) sl.a.toNat := by
  simp [vA, rOf]
@[simp] theorem vB_seen (i : Instr) (sl : Slot) (s : State) : vB (seen i sl.core.toNat s) sl = vreg (rOf s sl) sl.b.toNat := by
  simp [vB, rOf]
@[simp] theorem vD_seen (i : Instr) (sl : Slot) (s : State) : vD (seen i sl.core.toNat s) sl = vreg (rOf s sl) sl.d.toNat := by
  simp [vD, rOf]

/-- A vector slot that stands alone and writes register D. -/
theorem answers_vecOut {s : State} {sl : Slot} {i : Instr} {used : Nat} {act : Work → Slot → SlotOut} {v : Nat}
    (ha : Alone s i ⟨sl, 1, 1, used, act⟩) (ho : act (seen i sl.core.toNat s) sl = vecOut sl v) (hgo : GoesOn s sl) :
    AnswersWith i s (issued sl.core.toNat (setRegs sl.core.toNat (fun q => setV q sl.d.toNat v)) (beginWork s)) :=
  ha.regs ho (fun _ => ⟨rfl, rfl⟩) hgo

/-! ## Reductions -/

/-- One level of a reduction, element by element. -/
def level (f : Nat → Nat → Nat) (n : Nat) (t : List Nat) : List Nat :=
  (List.range n).map (fun i => f (t.getD i 0) (t.getD (i + n) 0))

@[simp] theorem level_length (f : Nat → Nat → Nat) (n : Nat) (t : List Nat) : (level f n t).length = n := by simp [level]

theorem halve_eq_level (f : Nat → Nat → Nat) (n : Nat) (t : List Nat) (h : t.length = 2 * n) : halve f t = level f n t := by
  have hhalf : t.length / 2 = n := by omega
  refine List.ext_getElem (by simp [halve, level]; omega) fun i hi hi' => ?_
  have hin : i < n := by simpa using hi'
  simp [halve, level, hhalf, List.getD_eq_getElem?_getD, List.getElem?_eq_getElem (show i < t.length by omega),
    List.getElem?_eq_getElem (show n + i < t.length by omega), Nat.add_comm]

/-- The seven halving levels of 128 lanes (R83). -/
theorem halving_eq_levels (f : Nat → Nat → Nat) (t : List Nat) (h : t.length = 128) :
    halving f t = (level f 1 (level f 2 (level f 4 (level f 8 (level f 16 (level f 32 (level f 64 t))))))).getD 0 0 := by
  have hhead : ∀ l : List Nat, l.headD 0 = l.getD 0 0 := fun l => by cases l <;> rfl
  simp only [halving, Nat.repeat, hhead]
  rw [halve_eq_level f 64 t h, halve_eq_level f 32 _ (level_length ..), halve_eq_level f 16 _ (level_length ..),
    halve_eq_level f 8 _ (level_length ..), halve_eq_level f 4 _ (level_length ..), halve_eq_level f 2 _ (level_length ..),
    halve_eq_level f 1 _ (level_length ..)]

section
variable {s : State} {sl : Slot} (h : Sole s.hw sl) (he : vectorEnables s.hw sl.core.toNat = true) (hgo : GoesOn s sl)
include h he hgo

theorem answers_vecReduce {i : Instr} (f : Nat → Nat → Nat) (hi : slotOf i = some ⟨sl, 1, 1, 12, vecReduce f⟩)
    (h1 : isLi i = false) (h2 : isEndSlot i = false) (hb : sl.b = 0) (himm : sl.imm = 0) :
    AnswersWith i s (issued sl.core.toNat (setRegs sl.core.toNat (fun q => setV q sl.d.toNat
      ((level f 1 (level f 2 (level f 4 (level f 8 (level f 16 (level f 32 (level f 64
        ((List.range 128).map (lane (vreg (rOf s sl) sl.a.toNat)))))))))).getD 0 0))) (beginWork s)) :=
  answers_vecOut (alone_vector hi h he (by simp [fieldsClean, bit, hb, himm]) h1 h2)
    (by simp only [vecReduce, vA_seen]; rw [halving_eq_levels f _ (by simp)]) hgo

theorem answers_vbcast (hb : sl.b = 0) (himm : sl.imm = 0) :
    AnswersWith (.vbcast sl) s (issued sl.core.toNat (setRegs sl.core.toNat (fun q => setV q sl.d.toNat
      (mapLanes (fun _ => sreg (rOf s sl) sl.a.toNat % 2 ^ 32)))) (beginWork s)) :=
  answers_vecOut (alone_vector (slotOf_vbcast sl) h he (by simp [fieldsClean, bit, hb, himm]) rfl rfl)
    (by simp only [slotVbcast, coreOf_seen, rOf]) hgo

theorem answers_vperm (himm : sl.imm = 0) :
    AnswersWith (.vperm sl) s (issued sl.core.toNat (setRegs sl.core.toNat (fun q => setV q sl.d.toNat
      (mapLanes (fun i => lane (vreg (rOf s sl) sl.a.toNat) (lane (vreg (rOf s sl) sl.b.toNat) i % 128))))) (beginWork s)) :=
  answers_vecOut (alone_vector (slotOf_vperm sl) h he (by simp [fieldsClean, bit, himm]) rfl rfl)
    (by simp only [slotVperm, vA_seen, vB_seen]) hgo

theorem answers_vshiftl (hb : sl.b = 0) :
    AnswersWith (.vshiftl sl) s (issued sl.core.toNat (setRegs sl.core.toNat (fun q => setV q sl.d.toNat
      (vreg (rOf s sl) sl.a.toNat / 2 ^ (32 * sl.imm.toNat)))) (beginWork s)) :=
  answers_vecOut (alone_vector (slotOf_vshiftl sl) h he (by simp [fieldsClean, bit, hb]) rfl rfl)
    (by simp only [slotVshiftl, vA_seen, Nat.shiftRight_eq_div_pow]) hgo

end

/-! ## Conversions -/

/-- The fields of `IMM` of a conversion: source, destination and variant. -/
theorem imm_fields (imm : BitVec 9) :
    bits imm.toNat 3 0 = imm.toNat % 16 ∧ bits imm.toNat 7 4 = imm.toNat / 16 % 16 ∧ b2n (bit imm.toNat 8) = imm.toNat / 256 := by
  have hlt := imm.isLt
  refine ⟨by simp [bits_eq], by simp [bits_eq], ?_⟩
  rw [b2n_bit]
  omega

theorem imm_bit8 (imm : BitVec 9) : bit imm.toNat 8 = true ↔ 256 ≤ imm.toNat := by
  have hlt := imm.isLt
  rw [bit_eq_true]
  omega

/-- The draws of a conversion of 128 elements have been taken, under the core's own rounding mode (R133, R134). -/
def draws (q : CoreRegs) : CoreRegs := if q.mode = 2 then { q with srWord := (q.srWord + 32) % 2 ^ 64 } else q

/-- A change of a core depends on its state only. -/
theorem modCore_congr (c : Nat) (f g : CoreSt → CoreSt) (w : Work) (h : f (coreOf w.hw c) = g (coreOf w.hw c)) :
    modCore c f w = modCore c g w := by
  simp only [coreOf] at h
  simp only [modCore, Work.up, tabMod, h]

/-- Register D written and the draws taken: one change of the registers. -/
theorem takeDraws_vecOut (sl : Slot) (v : Nat) (w : Work) :
    takeDraws sl.core.toNat (coreOf w.hw sl.core.toNat).r.mode 128 ((vecOut sl v).effect w)
      = setRegs sl.core.toNat (fun q => draws (setV q sl.d.toNat v)) w := by
  simp only [takeDraws, vecOut, regs, setRegs]
  split
  · next hmode =>
    rw [modCore_modCore]
    refine modCore_congr _ _ _ _ ?_
    simp [draws, setV, hmode, ceilDiv]
  · next hmode =>
    refine modCore_congr _ _ _ _ ?_
    simp [draws, setV, hmode]

theorem draws_keeps (r : CoreRegs) (i v : Nat) : (draws (setV r i v)).pc = r.pc ∧ (draws (setV r i v)).loops = r.loops := by
  unfold draws
  split <;> exact ⟨rfl, rfl⟩

/-- A conversion that stands alone writes register D and takes its draws. -/
theorem answers_converts {s : State} {sl : Slot} {i : Instr} {used : Nat} {act : Work → Slot → SlotOut} {v : Nat}
    (ha : Alone s i ⟨sl, 1, 1, used, act⟩)
    (ho : act (seen i sl.core.toNat s) sl = { effect := fun w => takeDraws sl.core.toNat (rOf s sl).mode 128 ((vecOut sl v).effect w) })
    (hgo : GoesOn s sl) :
    AnswersWith i s (issued sl.core.toNat (setRegs sl.core.toNat (fun q => draws (setV q sl.d.toNat v))) (beginWork s)) := by
  have hdraws : takeDraws sl.core.toNat (rOf s sl).mode 128 ((vecOut sl v).effect (cleared sl.core.toNat (beginWork s)))
      = setRegs sl.core.toNat (fun q => draws (setV q sl.d.toNat v)) (cleared sl.core.toNat (beginWork s)) := by
    rw [← takeDraws_vecOut]
    simp [rOf]
  have hissued := ha.acts_on ho (f := fun q => draws (setV q sl.d.toNat v)) (by rw [hdraws]) (fun r => draws_keeps r _ _) hgo
  rwa [issued_congr _ _ _ _ hdraws] at hissued

section
variable {s : State} {sl : Slot} (h : Sole s.hw sl) (he : vectorEnables s.hw sl.core.toNat = true) (hb : sl.b = 0)
include h he hb

theorem alone_vcvt : Alone s (.vcvt sl) ⟨sl, 1, 1, 13, slotVcvt⟩ :=
  alone_vector (slotOf_vcvt sl) h he (by simp [fieldsClean, bit, hb]) rfl rfl

theorem alone_vcvtmx : Alone s (.vcvtmx sl) ⟨sl, 1, 1, 13, slotVcvtmx⟩ :=
  alone_vector (slotOf_vcvtmx sl) h he (by simp [fieldsClean, bit, hb]) rfl rfl

theorem answers_vcvt (hs : isMx (sl.imm.toNat % 16) = false) (hd : isMx (sl.imm.toNat / 16 % 16) = false) (hv : sl.imm.toNat < 256)
    (hgo : GoesOn s sl) :
    AnswersWith (.vcvt sl) s (issued sl.core.toNat (setRegs sl.core.toNat (fun q => draws (setV q sl.d.toNat
      (packElems (fmtWidth (sl.imm.toNat / 16 % 16)) ((List.range 128).map (fun e =>
        convertElem (sl.imm.toNat % 16) (sl.imm.toNat / 16 % 16) (roundFor (rOf s sl).mode (rOf s sl).srKey (rOf s sl).srWord e)
          (elemAt (fmtWidth (sl.imm.toNat % 16)) (vreg (rOf s sl) sl.a.toNat) e))))))) (beginWork s)) := by
  obtain ⟨hsrc, hdst, -⟩ := imm_fields sl.imm
  have hv8 : bit sl.imm.toNat 8 = false := by rw [Bool.eq_false_iff, ne_eq, imm_bit8]; omega
  refine answers_converts (alone_vcvt h he hb) ?_ hgo
  simp only [slotVcvt, hsrc, hdst, hs, hd, hv8, Bool.or_self, Bool.false_eq_true, if_false, vA_seen, coreOf_seen]
  rfl

theorem faults_vcvt (hbad : isMx (sl.imm.toNat % 16) = true ∨ isMx (sl.imm.toNat / 16 % 16) = true ∨ 256 ≤ sl.imm.toNat) :
    AnswersWith (.vcvt sl) s (coreFault sl.core.toNat 0x02 1 (rOf s sl).pc 0 false (cleared sl.core.toNat (beginWork s))) := by
  obtain ⟨hsrc, hdst, -⟩ := imm_fields sl.imm
  have hcond : (isMx (sl.imm.toNat % 16) || isMx (sl.imm.toNat / 16 % 16) || bit sl.imm.toNat 8) = true := by
    rw [← imm_bit8] at hbad
    simpa [or_assoc] using hbad
  exact (alone_vcvt h he hb).fault (by simp only [slotVcvt, hsrc, hdst, hcond, if_true, illegalOperand])

end

/-- Whether `VCVTMX` unpacks: a microscaling source, an F32 or F16 destination, and a variant that the source has. -/
def Unpacks (src dst variant : Nat) : Prop := isMx src = true ∧ (dst = 0 ∨ dst = 2) ∧ (variant = 0 ∨ src = 8 ∨ src = 9)

/-- Whether `VCVTMX` packs: an F32 or F16 source, a microscaling destination, and a variant that the destination has. -/
def Packs (src dst variant : Nat) : Prop := isMx dst = true ∧ (src = 0 ∨ src = 2) ∧ (variant = 0 ∨ dst = 8 ∨ dst = 9)

/-- F32 and F16 are no microscaling formats. -/
theorem isMx_plain {f : Nat} (h : f = 0 ∨ f = 2) : isMx f = false := by
  rcases h with rfl | rfl <;> rfl

/-- The condition on which `VCVTMX` refuses its formats. -/
def cvtmxRefuses (src dst variant : Nat) : Bool :=
  !((isMx src && (dst == 0x00 || dst == 0x02)) || ((src == 0x00 || src == 0x02) && isMx dst))
    || !(variant == 0 || (if isMx src then src else dst) == 0x08 || (if isMx src then src else dst) == 0x09)

theorem cvtmxRefuses_iff (src dst variant : Nat) :
    cvtmxRefuses src dst variant = true ↔ ¬ Unpacks src dst variant ∧ ¬ Packs src dst variant := by
  unfold cvtmxRefuses Unpacks Packs
  cases hs : isMx src with
  | true =>
    have hplain : ¬ (src = 0 ∨ src = 2) := fun hp => by simp [isMx_plain hp] at hs
    have h0 : src ≠ 0 := fun h => hplain (.inl h)
    have h2 : src ≠ 2 := fun h => hplain (.inr h)
    simp [h0, h2]
    tauto
  | false =>
    cases hd : isMx dst with
    | false => simp
    | true => simp; tauto

section
variable {s : State} {sl : Slot} (h : Sole s.hw sl) (he : vectorEnables s.hw sl.core.toNat = true) (hb : sl.b = 0)
include h he hb

theorem faults_vcvtmx (hu : ¬ Unpacks (sl.imm.toNat % 16) (sl.imm.toNat / 16 % 16) (sl.imm.toNat / 256))
    (hp : ¬ Packs (sl.imm.toNat % 16) (sl.imm.toNat / 16 % 16) (sl.imm.toNat / 256)) :
    AnswersWith (.vcvtmx sl) s (coreFault sl.core.toNat 0x02 1 (rOf s sl).pc 0 false (cleared sl.core.toNat (beginWork s))) := by
  obtain ⟨hsrc, hdst, hvar⟩ := imm_fields sl.imm
  have hcond := (cvtmxRefuses_iff _ _ _).mpr ⟨hu, hp⟩
  unfold cvtmxRefuses at hcond
  exact (alone_vcvtmx h he hb).fault (by simp only [slotVcvtmx, hsrc, hdst, hvar, hcond, if_true, illegalOperand])

theorem answers_vcvtmx_unpack (hgo : GoesOn s sl)
    (hu : Unpacks (sl.imm.toNat % 16) (sl.imm.toNat / 16 % 16) (sl.imm.toNat / 256)) :
    AnswersWith (.vcvtmx sl) s (issued sl.core.toNat (setRegs sl.core.toNat (fun q => draws (setV q sl.d.toNat
      (packElems (fmtWidth (sl.imm.toNat / 16 % 16)) ((List.range 128).map (fun e =>
        encodeElem (sl.imm.toNat / 16 % 16) (roundFor (rOf s sl).mode (rOf s sl).srKey (rOf s sl).srWord e)
          (mxVal (sl.imm.toNat % 16) (sl.imm.toNat / 256) (elemAt 8 (vreg (rOf s sl) sl.a.toNat) (496 + e / 32))
            (elemAt (fmtWidth (sl.imm.toNat % 16)) (vreg (rOf s sl) sl.a.toNat) e)))))))) (beginWork s)) := by
  obtain ⟨hsrc, hdst, hvar⟩ := imm_fields sl.imm
  have hcond : cvtmxRefuses (sl.imm.toNat % 16) (sl.imm.toNat / 16 % 16) (sl.imm.toNat / 256) = false := by
    rw [Bool.eq_false_iff, ne_eq, cvtmxRefuses_iff]
    exact fun hno => hno.1 hu
  simp only [cvtmxRefuses, hu.1, if_true] at hcond
  refine answers_converts (alone_vcvtmx h he hb) ?_ hgo
  simp only [slotVcvtmx, hsrc, hdst, hvar, hcond, hu.1, Bool.false_eq_true, if_false, if_true, vA_seen, coreOf_seen]
  rfl

theorem answers_vcvtmx_pack (hgo : GoesOn s sl)
    (hp : Packs (sl.imm.toNat % 16) (sl.imm.toNat / 16 % 16) (sl.imm.toNat / 256)) :
    let block (b : Nat) : Nat × List Nat :=
      mxPack (sl.imm.toNat / 16 % 16) (sl.imm.toNat / 256)
        ((List.range 32).map (fun i => roundFor (rOf s sl).mode (rOf s sl).srKey (rOf s sl).srWord (32 * b + i)))
        ((List.range 32).map (fun i =>
          decodeElem (sl.imm.toNat % 16) (elemAt (fmtWidth (sl.imm.toNat % 16)) (vreg (rOf s sl) sl.a.toNat) (32 * b + i))))
    AnswersWith (.vcvtmx sl) s (issued sl.core.toNat (setRegs sl.core.toNat (fun q => draws (setV q sl.d.toNat
      (packElems (fmtWidth (sl.imm.toNat / 16 % 16)) ((List.range 4).flatMap (fun b => (block b).2))
        + packElems 8 ((List.range 4).map (fun b => (block b).1)) * 2 ^ 3968)))) (beginWork s)) := by
  intro block
  obtain ⟨hsrc, hdst, hvar⟩ := imm_fields sl.imm
  have hcond : cvtmxRefuses (sl.imm.toNat % 16) (sl.imm.toNat / 16 % 16) (sl.imm.toNat / 256) = false := by
    rw [Bool.eq_false_iff, ne_eq, cvtmxRefuses_iff]
    exact fun hno => hno.2 hp
  simp only [cvtmxRefuses, isMx_plain hp.2.1, Bool.false_eq_true, if_false] at hcond
  refine answers_converts (alone_vcvtmx h he hb) ?_ hgo
  simp only [slotVcvtmx, hsrc, hdst, hvar, hcond, isMx_plain hp.2.1, Bool.false_eq_true, if_false, vA_seen, coreOf_seen,
    List.map_map, List.flatMap_map]
  rfl

end

/-- Settles O12, by what each slot reads of the core and the register it writes. -/
theorem vectorMovesAndConversions : Obligations.VectorMovesAndConversions := by
  refine ⟨fun s sl h he hgo => ?_, fun s sl h he hb => ?_, fun s sl h he hb => ?_⟩
  · exact ⟨answers_vbcast h he hgo, answers_vperm h he hgo, answers_vshiftl h he hgo, fun hb himm =>
      ⟨answers_vecReduce h he hgo f32Add (slotOf_vredadd sl) rfl rfl hb himm,
        answers_vecReduce h he hgo f32Max (slotOf_vredmax sl) rfl rfl hb himm⟩⟩
  · exact ⟨fun hs hd hv hgo => answers_vcvt h he hb hs hd hv hgo, faults_vcvt h he hb⟩
  · exact ⟨fun hgo hs hd hv => answers_vcvtmx_unpack h he hb hgo ⟨hs, hd, hv⟩,
      fun hgo hd hs hv => answers_vcvtmx_pack h he hb hgo ⟨hd, hs, hv⟩, faults_vcvtmx h he hb⟩

end Sys2Proof.Machine
end

section
/-! PROOFS. Vector loads, stores and gathers (R67, R68, R83, R468). -/
namespace Sys2Proof.Machine

open Sys2Proof

/-- The offset of a vector access, A + `IMM` x 64 (R83; log 15). -/
def vecOffsetOf (s : State) (sl : Slot) : Nat := ofSigned 64 ((sreg (rOf s sl) sl.a.toNat : Int) + toSigned 9 sl.imm.toNat * 64)

/-- The offset of lane i of a gather, A + B[i] (R83). -/
def laneOffset (s : State) (sl : Slot) (i : Nat) : Nat := (sreg (rOf s sl) sl.a.toNat + lane (vreg (rOf s sl) sl.b.toNat) i) % 2 ^ 64

@[simp] theorem vecOffset_seen (s : State) (sl : Slot) (i : Instr) : vecOffset (seen i sl.core.toNat s) sl = vecOffsetOf s sl := by
  simp only [vecOffset, coreOf_seen, immSigned]
  rfl

@[simp] theorem seen_firstBad (i : Instr) (core : Nat) (s : State) (a n : Nat) :
    (seen i core s).firstBad a n = (beginWork s).firstBad a n := rfl

/-- The faults of an access to the scratchpad are `ALIGNMENT`, where it is misaligned, and `SCRATCHPAD_BOUNDS`, where it leaves it. -/
theorem mem_scratchFaults (off size align : Nat) (x : Nat × Nat) (h : x ∈ scratchFaults off size align) :
    x.1 = 0x03 ∧ off % align ≠ 0 ∨ x.1 = 0x04 ∧ 0x300000 < off + size := by
  by_cases ha : off % align = 0 <;> by_cases hb : off + size ≤ 0x300000 <;>
    simp [scratchFaults, withAddress, scratchBytes, ha, hb, alignmentFault, scratchBounds] at h
  · subst h
    exact .inr ⟨rfl, by omega⟩
  · subst h
    exact .inl ⟨rfl, ha⟩
  · rcases h with rfl | rfl
    · exact .inl ⟨rfl, ha⟩
    · exact .inr ⟨rfl, by omega⟩

/-! ## Stores lane by lane -/

theorem good_part (w : Work) (a n b m : Nat) (h : w.good a n = true) (hlo : a ≤ b) (hhi : b + m ≤ a + n) : w.good b m = true := by
  simp only [Work.good, badUnits, List.isEmpty_iff, List.filter_eq_nil_iff, Bool.and_eq_true, decide_eq_true_eq] at h ⊢
  intro u hu hbad
  exact h u hu ⟨by omega, by omega⟩

theorem scratchKey_add (core off n : Nat) : scratchKey core (off + n) = scratchKey core off + n := (Nat.add_assoc ..).symm

/-- The stores of the lanes below n whose bit of the predicate is 1. -/
def storeLanes (p : Nat → Bool) (key v n : Nat) (w : Work) : Work :=
  forEach (List.range n) (fun i w => if p i then w.writeNum (key + 4 * i) 4 (lane v i) else w) w

theorem storeLanes_succ (p : Nat → Bool) (key v n : Nat) (w : Work) :
    storeLanes p key v (n + 1) w
      = if p n then (storeLanes p key v n w).writeNum (key + 4 * n) 4 (lane v n) else storeLanes p key v n w := by
  simp only [storeLanes, forEach, List.range_succ, List.foldl_append, List.foldl_cons, List.foldl_nil]

/-- A store that meets no uncorrectable unit leaves the module as it is. -/
theorem writeNum_good (w : Work) (a n v : Nat) (hn : 0 < n) (hg : w.good a n = true) :
    w.writeNum a n v = { w with log := .put a (leBytes n v) :: w.log } :=
  write_good w a _ (List.ne_nil_of_length_pos (by rwa [leBytes_length])) (by rwa [leBytes_length])

theorem good_of_hw {w v : Work} (h : w.hw = v.hw) (a n : Nat) : w.good a n = v.good a n := by
  rw [Work.good, Work.good, h]

theorem storeLanes_hw (p : Nat → Bool) (key v n : Nat) (w : Work) (hg : w.good key (4 * n) = true) :
    (storeLanes p key v n w).hw = w.hw ∧ (storeLanes p key v n w).base = w.base := by
  induction n with
  | zero => exact ⟨rfl, rfl⟩
  | succ n ih =>
    obtain ⟨ihw, ibase⟩ := ih (good_part w _ _ _ _ hg (by omega) (by omega))
    rw [storeLanes_succ]
    split
    · rw [writeNum_good _ _ _ _ (by decide) ((good_of_hw ihw _ _).trans (good_part w _ _ _ _ hg (by omega) (by omega)))]
      exact ⟨ihw, ibase⟩
    · exact ⟨ihw, ibase⟩

/-- Byte k of lane i is byte 4i + k of the register. -/
theorem lane_byte (v i k : Nat) (hk : k < 4) : BitVec.ofNat 8 (lane v i / 256 ^ k) = BitVec.ofNat 8 (v / 256 ^ (4 * i + k)) := by
  refine BitVec.eq_of_toNat_eq ?_
  have hpow : 2 ^ (32 * i) = 256 ^ (4 * i) := by
    rw [show (256 : Nat) = 2 ^ 8 from rfl, ← Nat.pow_mul]
    congr 1
    omega
  rw [BitVec.toNat_ofNat, BitVec.toNat_ofNat, lane, elemAt, Nat.shiftRight_eq_div_pow, hpow, Nat.pow_add, ← Nat.div_div_eq_div_mul]
  generalize v / 256 ^ (4 * i) = x
  have hcases : k = 0 ∨ k = 1 ∨ k = 2 ∨ k = 3 := by omega
  rcases hcases with rfl | rfl | rfl | rfl <;> omega

/-- A byte after the stores of the lanes: that of the register where its lane is stored, else the byte that was there. -/
theorem memByte_storeLanes (p : Nat → Bool) (key v n : Nat) (w : Work) (hg : w.good key (4 * n) = true) (x : Nat) :
    memByte (storeLanes p key v n w).mem x =
      if key ≤ x ∧ x < key + 4 * n ∧ p ((x - key) / 4) then BitVec.ofNat 8 (v / 256 ^ (x - key)) else memByte w.mem x := by
  induction n with
  | zero =>
    have hno : ¬ (key ≤ x ∧ x < key + 4 * 0 ∧ p ((x - key) / 4) = true) := by omega
    rw [if_neg hno]
    rfl
  | succ n ih =>
    have hg' := good_part w _ _ key (4 * n) hg (by omega) (by omega)
    have ih := ih hg'
    rw [storeLanes_succ]
    by_cases hin : key + 4 * n ≤ x ∧ x < key + 4 * n + 4
    · have hlane : (x - key) / 4 = n := by omega
      have hold : ¬ (key ≤ x ∧ x < key + 4 * n ∧ p ((x - key) / 4) = true) := by omega
      rw [if_neg hold] at ih
      by_cases hp : p n = true
      · have hnew : key ≤ x ∧ x < key + 4 * (n + 1) ∧ p ((x - key) / 4) = true := ⟨by omega, by omega, by rw [hlane]; exact hp⟩
        have hgn := (good_of_hw (storeLanes_hw p key v n w hg').1 _ _).trans (good_part w _ _ (key + 4 * n) 4 hg (by omega) (by omega))
        rw [if_pos hp, if_pos hnew, writeNum_good _ _ _ _ (by decide) hgn, Work.mem, List.foldr_cons, applyStore, memByte_memPut,
          leBytes_length, if_pos hin, leBytes_getD _ _ _ (by omega), lane_byte _ _ _ (by omega)]
        congr 3
        omega
      · have hnone : ¬ (key ≤ x ∧ x < key + 4 * (n + 1) ∧ p ((x - key) / 4) = true) := fun hc => hp (hlane ▸ hc.2.2)
        rw [if_neg hp, if_neg hnone, ih]
    · have hsame : (key ≤ x ∧ x < key + 4 * (n + 1) ∧ p ((x - key) / 4) = true) ↔ (key ≤ x ∧ x < key + 4 * n ∧ p ((x - key) / 4) = true) := by
        constructor
        · exact fun ⟨h1, h2, h3⟩ => ⟨h1, by omega, h3⟩
        · exact fun ⟨h1, h2, h3⟩ => ⟨h1, by omega, h3⟩
      simp only [hsame]
      rw [← ih]
      split
      · have hgn := (good_of_hw (storeLanes_hw p key v n w hg').1 _ _).trans (good_part w _ _ (key + 4 * n) 4 hg (by omega) (by omega))
        rw [writeNum_good _ _ _ _ (by decide) hgn, Work.mem, List.foldr_cons, applyStore, memByte_memPut, leBytes_length, if_neg hin]
        rfl
      · rfl

/-- The memory that a command leaves is the one of its work. -/
theorem finish_mem_eq (s : State) (w : Work) (h : w.base = s.mem) : (finish s w).mem = w.mem := by
  rw [finish_mem, Work.mem, h]

/-- The memory after a slot has issued is the one its effect leaves. -/
theorem finish_mem_issued (s : State) (core : Nat) (g : Work → Work) (h : (g (cleared core (beginWork s))).base = s.mem) :
    (finish s (issued core g (beginWork s))).mem = (g (cleared core (beginWork s))).mem :=
  finish_mem_eq s (issued core g (beginWork s)) h

/-- An effect that leaves the module as it is issues as no effect does. -/
theorem issued_hw_of_same (core : Nat) (g : Work → Work) (w : Work) (h : (g (cleared core w)).hw = (cleared core w).hw) :
    (issued core g w).hw = (issued core id w).hw := by
  simp only [issued, goOn, modCore, up_hw, h, id]

/-! ## Loads and stores of a register -/

section
variable {s : State} {sl : Slot} (h : Sole s.hw sl) (he : vectorEnables s.hw sl.core.toNat = true)
include h he

theorem alone_vld (hb : sl.b = 0) : Alone s (.vld sl) ⟨sl, 1, 1, 13, slotVld⟩ :=
  alone_vector (slotOf_vld sl) h he (by simp [fieldsClean, bit, hb]) rfl rfl

theorem alone_vst (hb : sl.b = 0) : Alone s (.vst sl) ⟨sl, 1, 1, 13, slotVst⟩ :=
  alone_vector (slotOf_vst sl) h he (by simp [fieldsClean, bit, hb]) rfl rfl

theorem alone_vstp : Alone s (.vstp sl) ⟨sl, 1, 1, 15, slotVstp⟩ :=
  alone_vector (slotOf_vstp sl) h he (by simp [fieldsClean, bit]) rfl rfl

theorem alone_vgather (himm : sl.imm = 0) : Alone s (.vgather sl) ⟨sl, 1, 1, 14, slotVgather⟩ :=
  alone_vector (slotOf_vgather sl) h he (by simp [fieldsClean, bit, himm]) rfl rfl

section
variable (ha : vecOffsetOf s sl % 64 = 0) (hin : vecOffsetOf s sl + 512 ≤ 0x300000)
include ha hin

theorem answers_vld (hb : sl.b = 0) (hgo : GoesOn s sl)
    (hg : (beginWork s).good (scratchKey sl.core.toNat (vecOffsetOf s sl)) 512 = true) :
    AnswersWith (.vld sl) s (issued sl.core.toNat (setRegs sl.core.toNat (fun q => setV q sl.d.toNat
      (leNat (memGet s.mem (scratchKey sl.core.toNat (vecOffsetOf s sl)) 512)))) (beginWork s)) :=
  answers_vecOut (alone_vld h he hb)
    (by simp only [slotVld, vecOffset_seen, scratchFaults_nil _ _ _ ha hin, seen_good, hg, if_true, seen_num]) hgo

theorem faults_vld_bad (hb : sl.b = 0) (hg : (beginWork s).good (scratchKey sl.core.toNat (vecOffsetOf s sl)) 512 = false) :
    AnswersWith (.vld sl) s (coreFault sl.core.toNat 0x0B 1 (rOf s sl).pc
      ((beginWork s).firstBad (scratchKey sl.core.toNat (vecOffsetOf s sl)) 512 - scratchKey sl.core.toNat 0) false
      (cleared sl.core.toNat (beginWork s))) :=
  (alone_vld h he hb).fault (by
    simp only [slotVld, vecOffset_seen, scratchFaults_nil _ _ _ ha hin, seen_good, hg, Bool.false_eq_true, if_false, seen_firstBad,
      uncorrectableRead])

/-- What a vector store answers: the module is that of a slot with no effect of its own, and the bytes of its lanes are stored. -/
def StoresLanes (s : State) (sl : Slot) (i : Instr) (p : Nat → Bool) : Prop :=
  Answers i s (fun w => w.hw = (issued sl.core.toNat id (beginWork s)).hw ∧ ∀ x, memByte (finish s w).mem x =
    if scratchKey sl.core.toNat (vecOffsetOf s sl) ≤ x ∧ x < scratchKey sl.core.toNat (vecOffsetOf s sl) + 512
        ∧ p ((x - scratchKey sl.core.toNat (vecOffsetOf s sl)) / 4)
      then BitVec.ofNat 8 (vreg (rOf s sl) sl.d.toNat / 256 ^ (x - scratchKey sl.core.toNat (vecOffsetOf s sl)))
      else memByte s.mem x)

theorem stores_vst (hb : sl.b = 0) (hgo : GoesOn s sl)
    (hg : (beginWork s).good (scratchKey sl.core.toNat (vecOffsetOf s sl)) 512 = true) :
    StoresLanes s sl (.vst sl) (fun _ => true) := by
  have ho : slotVst (seen (.vst sl) sl.core.toNat s) sl
      = { effect := fun w => w.write (scratchKey sl.core.toNat (vecOffsetOf s sl)) (leBytes 512 (vreg (rOf s sl) sl.d.toNat)) } := by
    simp only [slotVst, vecOffset_seen, scratchFaults_nil _ _ _ ha hin, vD_seen]
    rfl
  have hissued := (alone_vst h he hb).stores ho (List.ne_nil_of_length_pos (by rw [leBytes_length]; decide))
    (by rw [leBytes_length]; exact hg) hgo
  refine answers_of_answersWith hissued ⟨issued_hw_of_same _ _ _ rfl, fun x => ?_⟩
  rw [memByte_finish_leBytes s _ _ 512 _ rfl]
  simp

theorem stores_vstp (hb : sl.b.toNat < 8) (hgo : GoesOn s sl)
    (hg : (beginWork s).good (scratchKey sl.core.toNat (vecOffsetOf s sl)) 512 = true) :
    StoresLanes s sl (.vstp sl) (bit (preg (rOf s sl) sl.b.toNat)) := by
  have ho : slotVstp (seen (.vstp sl) sl.core.toNat s) sl
      = { effect := storeLanes (bit (preg (rOf s sl) sl.b.toNat)) (scratchKey sl.core.toNat (vecOffsetOf s sl))
            (vreg (rOf s sl) sl.d.toNat) 128 } := by
    simp only [slotVstp, vecOffset_seen, scratchFaults_nil _ _ _ ha hin, vD_seen, ge_iff_le, Nat.not_le.mpr hb, if_false,
      List.nil_append, coreOf_seen, scratchKey_add]
    rfl
  obtain ⟨hhw, hbase⟩ := storeLanes_hw (bit (preg (rOf s sl) sl.b.toNat)) (scratchKey sl.core.toNat (vecOffsetOf s sl))
    (vreg (rOf s sl) sl.d.toNat) 128 (cleared sl.core.toNat (beginWork s)) hg
  have hissued := (alone_vstp h he).acts_on ho (f := id) (by rw [hhw, setRegs_id_cleared]) (fun _ => ⟨rfl, rfl⟩) hgo
  refine answers_of_answersWith hissued ⟨issued_hw_of_same _ _ _ hhw, fun x => ?_⟩
  rw [finish_mem_issued s _ _ hbase]
  exact memByte_storeLanes _ _ _ 128 (cleared sl.core.toNat (beginWork s)) hg x

end

section
variable (hbad : vecOffsetOf s sl % 64 ≠ 0 ∨ 0x300000 < vecOffsetOf s sl + 512)
include hbad

theorem faults_vld (hb : sl.b = 0) :
    AnswersWith (.vld sl) s (coreFault sl.core.toNat (if vecOffsetOf s sl % 64 ≠ 0 then 0x03 else 0x04) 1 (rOf s sl).pc (vecOffsetOf s sl)
      false (cleared sl.core.toNat (beginWork s))) := by
  have ho : slotVld (seen (.vld sl) sl.core.toNat s) sl = { faults := scratchFaults (vecOffsetOf s sl) 512 64 } := by
    simp only [slotVld, vecOffset_seen]
    split
    · next hnil => exact absurd hnil (scratchFaults_ne_nil _ _ _ hbad)
    · rfl
  exact (alone_vld h he hb).faults ho rfl _ (scratchFaults_lowest _ _ _ hbad)

theorem faults_vst (hb : sl.b = 0) :
    AnswersWith (.vst sl) s (coreFault sl.core.toNat (if vecOffsetOf s sl % 64 ≠ 0 then 0x03 else 0x04) 1 (rOf s sl).pc (vecOffsetOf s sl)
      false (cleared sl.core.toNat (beginWork s))) := by
  have ho : slotVst (seen (.vst sl) sl.core.toNat s) sl = { faults := scratchFaults (vecOffsetOf s sl) 512 64 } := by
    simp only [slotVst, vecOffset_seen]
    split
    · next hnil => exact absurd hnil (scratchFaults_ne_nil _ _ _ hbad)
    · rfl
  exact (alone_vst h he hb).faults ho rfl _ (scratchFaults_lowest _ _ _ hbad)

theorem faults_vstp (hb : sl.b.toNat < 8) :
    AnswersWith (.vstp sl) s (coreFault sl.core.toNat (if vecOffsetOf s sl % 64 ≠ 0 then 0x03 else 0x04) 1 (rOf s sl).pc (vecOffsetOf s sl)
      false (cleared sl.core.toNat (beginWork s))) := by
  have ho : slotVstp (seen (.vstp sl) sl.core.toNat s) sl = { faults := scratchFaults (vecOffsetOf s sl) 512 64 } := by
    simp only [slotVstp, vecOffset_seen, ge_iff_le, Nat.not_le.mpr hb, if_false, List.nil_append]
    split
    · next hnil => exact absurd hnil (scratchFaults_ne_nil _ _ _ hbad)
    · rfl
  exact (alone_vstp h he).faults ho rfl _ (scratchFaults_lowest _ _ _ hbad)

end

/-- A predicate number of 8 or more is the lowest fault, whatever the offset (R78, R107). -/
theorem faults_vstp_predicate (hb : 8 ≤ sl.b.toNat) :
    AnswersWith (.vstp sl) s (coreFault sl.core.toNat 0x02 1 (rOf s sl).pc 0 false (cleared sl.core.toNat (beginWork s))) := by
  have ho : slotVstp (seen (.vstp sl) sl.core.toNat s) sl
      = { faults := (0x02, 0) :: scratchFaults (vecOffsetOf s sl) 512 64 } := by
    simp only [slotVstp, vecOffset_seen, ge_iff_le, hb, if_true, List.singleton_append, illegalOperand]
  refine (alone_vstp h he).faults ho rfl (0x02, 0) ⟨[], _, rfl, by simp, fun x hx => ?_⟩
  rcases mem_scratchFaults _ _ _ x hx with ⟨hx, -⟩ | ⟨hx, -⟩ <;> simp [hx]

end

/-! ## Gathers -/

/-- The numbers below n, cut at one of them. -/
theorem range_split (i n : Nat) (h : i < n) : List.range n = List.range i ++ i :: List.range' (i + 1) (n - i - 1) := by
  have hlen : n = i + ((n - i - 1) + 1) := by omega
  rw [hlen, List.range_add, List.range_succ_eq_map, List.map_cons, List.range_eq_range', List.range'_eq_map_range,
    List.range'_eq_map_range]
  simp [Function.comp_def, Nat.add_assoc, Nat.add_comm 1]

/-- The lowest fault of the lanes is that of lane i where no earlier lane has a code as low and no later one a lower code. -/
theorem lowestFirst_lanes (at_ : Nat → Nat) (i code : Nat) (hi : i < 128) (hlane : LowestFirst (scratchFaults (at_ i) 4 4) (code, at_ i))
    (hbefore : ∀ j, j < i → ∀ x ∈ scratchFaults (at_ j) 4 4, code < x.1)
    (hafter : ∀ j, j < 128 → ∀ x ∈ scratchFaults (at_ j) 4 4, code ≤ x.1) :
    LowestFirst (((List.range 128).map at_).flatMap (fun o => scratchFaults o 4 4)) (code, at_ i) := by
  obtain ⟨pre, post, hcodes, hpre, hpost⟩ := hlane
  refine ⟨((List.range i).map at_).flatMap (fun o => scratchFaults o 4 4) ++ pre,
    post ++ ((List.range' (i + 1) (128 - i - 1)).map at_).flatMap (fun o => scratchFaults o 4 4), ?_, ?_, ?_⟩
  · rw [range_split i 128 hi, List.map_append, List.map_cons, List.flatMap_append, List.flatMap_cons, hcodes]
    simp [List.append_assoc]
  · intro x hx
    rcases List.mem_append.mp hx with hx | hx
    · simp only [List.mem_flatMap, List.mem_map, List.mem_range] at hx
      obtain ⟨o, ⟨j, hj, rfl⟩, hx⟩ := hx
      exact hbefore j hj x hx
    · exact hpre x hx
  · intro x hx
    rcases List.mem_append.mp hx with hx | hx
    · exact hpost x hx
    · simp only [List.mem_flatMap, List.mem_map, List.mem_range'_1] at hx
      obtain ⟨o, ⟨j, ⟨-, hj⟩, rfl⟩, hx⟩ := hx
      exact hafter j (by omega) x hx

theorem ne_nil_of_lowestFirst {codes : List (Nat × Nat)} {f : Nat × Nat} (h : LowestFirst codes f) : codes ≠ [] := by
  obtain ⟨pre, post, hcodes, -, -⟩ := h
  simp [hcodes]

/-- Lane i is the first of the 128 with a property. -/
def FirstLane (p : Nat → Prop) (i : Nat) : Prop := i < 128 ∧ p i ∧ ∀ j, j < i → ¬ p j

/-- The first lane whose word cannot be read is the one found. -/
theorem find_firstLane (at_ : Nat → Nat) (good : Nat → Bool) (i : Nat) (h : FirstLane (fun k => good (at_ k) = false) i) :
    ((List.range 128).map at_).find? (fun o => !good o) = some (at_ i) := by
  obtain ⟨hi, hbad, hbefore⟩ := h
  have hnone : ((List.range i).map at_).find? (fun o => !good o) = none := by
    simp only [List.find?_eq_none, List.mem_map, List.mem_range]
    rintro o ⟨j, hj, rfl⟩
    simpa using hbefore j hj
  rw [range_split i 128 hi, List.map_append, List.map_cons, List.find?_append, hnone, List.find?_cons]
  simp [hbad]

section
variable {s : State} {sl : Slot} (h : Sole s.hw sl) (he : vectorEnables s.hw sl.core.toNat = true) (himm : sl.imm = 0)

/-- The offsets of the lanes, as the slot computes them. -/
theorem slotVgather_seen : slotVgather (seen (.vgather sl) sl.core.toNat s) sl =
    match ((List.range 128).map (laneOffset s sl)).flatMap (fun o => scratchFaults o 4 4) with
    | [] =>
      match ((List.range 128).map (laneOffset s sl)).find? (fun o => !(beginWork s).good (scratchKey sl.core.toNat o) 4) with
      | some o => faultOut uncorrectableRead o
      | none => vecOut sl (ofLanes ((List.range 128).map (fun i => leNat (memGet s.mem (scratchKey sl.core.toNat (laneOffset s sl i)) 4))))
    | fs => { faults := fs } := by
  simp only [slotVgather, coreOf_seen, vB_seen, seen_good, seen_num, List.map_map]
  rfl

include h he himm

theorem faults_vgather {code i : Nat}
    (hlow : LowestFirst (((List.range 128).map (laneOffset s sl)).flatMap (fun o => scratchFaults o 4 4)) (code, laneOffset s sl i)) :
    AnswersWith (.vgather sl) s (coreFault sl.core.toNat code 1 (rOf s sl).pc (laneOffset s sl i) false
      (cleared sl.core.toNat (beginWork s))) := by
  have ho : slotVgather (seen (.vgather sl) sl.core.toNat s) sl
      = { faults := ((List.range 128).map (laneOffset s sl)).flatMap (fun o => scratchFaults o 4 4) } := by
    rw [slotVgather_seen]
    split
    · next hnil => exact absurd hnil (ne_nil_of_lowestFirst hlow)
    · rfl
  exact (alone_vgather h he himm).faults ho rfl _ hlow

/-- The first misaligned lane is the fault, whatever lanes leave the scratchpad (R107). -/
theorem faults_vgather_misaligned (i : Nat) (hfirst : FirstLane (fun k => laneOffset s sl k % 4 ≠ 0) i) :
    AnswersWith (.vgather sl) s (coreFault sl.core.toNat 0x03 1 (rOf s sl).pc (laneOffset s sl i) false
      (cleared sl.core.toNat (beginWork s))) := by
  obtain ⟨hi, hbad, hbefore⟩ := hfirst
  refine faults_vgather h he himm (lowestFirst_lanes _ i 0x03 hi ?_ (fun j hj x hx => ?_) (fun j hj x hx => ?_))
  · have hlow := scratchFaults_lowest (laneOffset s sl i) 4 4 (.inl hbad)
    rwa [if_pos hbad] at hlow
  · rcases mem_scratchFaults _ _ _ x hx with ⟨-, hmis⟩ | ⟨hx, -⟩
    · exact absurd hmis (hbefore j hj)
    · simp [hx]
  · rcases mem_scratchFaults _ _ _ x hx with ⟨hx, -⟩ | ⟨hx, -⟩ <;> simp [hx]

theorem faults_vgather_outside (i : Nat) (halign : ∀ k, k < 128 → laneOffset s sl k % 4 = 0)
    (hfirst : FirstLane (fun k => 0x300000 < laneOffset s sl k + 4) i) :
    AnswersWith (.vgather sl) s (coreFault sl.core.toNat 0x04 1 (rOf s sl).pc (laneOffset s sl i) false
      (cleared sl.core.toNat (beginWork s))) := by
  obtain ⟨hi, hbad, hbefore⟩ := hfirst
  refine faults_vgather h he himm (lowestFirst_lanes _ i 0x04 hi ?_ (fun j hj x hx => ?_) (fun j hj x hx => ?_))
  · have hlow := scratchFaults_lowest (laneOffset s sl i) 4 4 (.inr hbad)
    rwa [if_neg (not_not.mpr (halign i hi))] at hlow
  · rcases mem_scratchFaults _ _ _ x hx with ⟨-, hmis⟩ | ⟨-, hout⟩
    · exact absurd (halign j (by omega)) hmis
    · exact absurd hout (hbefore j hj)
  · rcases mem_scratchFaults _ _ _ x hx with ⟨-, hmis⟩ | ⟨hx, -⟩
    · exact absurd (halign j hj) hmis
    · simp [hx]

section
variable (hlanes : ∀ k, k < 128 → laneOffset s sl k % 4 = 0 ∧ laneOffset s sl k + 4 ≤ 0x300000)
include hlanes

omit h he himm in
theorem lanes_faultless : ((List.range 128).map (laneOffset s sl)).flatMap (fun o => scratchFaults o 4 4) = [] := by
  simp only [List.flatMap_eq_nil_iff, List.mem_map, List.mem_range]
  rintro o ⟨k, hk, rfl⟩
  exact scratchFaults_nil _ _ _ (hlanes k hk).1 (hlanes k hk).2

theorem faults_vgather_bad (i : Nat)
    (hfirst : FirstLane (fun k => (beginWork s).good (scratchKey sl.core.toNat (laneOffset s sl k)) 4 = false) i) :
    AnswersWith (.vgather sl) s (coreFault sl.core.toNat 0x0B 1 (rOf s sl).pc (laneOffset s sl i) false
      (cleared sl.core.toNat (beginWork s))) := by
  have hfind := find_firstLane (laneOffset s sl) (fun o => (beginWork s).good (scratchKey sl.core.toNat o) 4) i hfirst
  refine (alone_vgather h he himm).fault ?_
  simp only [slotVgather_seen, lanes_faultless hlanes, hfind, uncorrectableRead]

theorem answers_vgather (hgood : ∀ k, k < 128 → (beginWork s).good (scratchKey sl.core.toNat (laneOffset s sl k)) 4 = true)
    (hgo : GoesOn s sl) :
    AnswersWith (.vgather sl) s (issued sl.core.toNat (setRegs sl.core.toNat (fun q => setV q sl.d.toNat
      (ofLanes ((List.range 128).map (fun i => leNat (memGet s.mem (scratchKey sl.core.toNat (laneOffset s sl i)) 4)))))) (beginWork s)) := by
  have hfind : ((List.range 128).map (laneOffset s sl)).find? (fun o => !(beginWork s).good (scratchKey sl.core.toNat o) 4) = none := by
    simp only [List.find?_eq_none, List.mem_map, List.mem_range]
    rintro o ⟨k, hk, rfl⟩
    simp [hgood k hk]
  exact answers_vecOut (alone_vgather h he himm) (by simp only [slotVgather_seen, lanes_faultless hlanes, hfind]) hgo

end

end

/-- Settles O13, access by access: where it is legal, and by its lowest fault where it is not. -/
theorem vectorMemory : Obligations.VectorMemory := by
  refine ⟨fun s sl h he hgo => ⟨fun ha hin hg => ⟨fun hb => answers_vld h he ha hin hb hgo hg, fun hb => stores_vst h he ha hin hb hgo hg,
      fun hb => stores_vstp h he ha hin hb hgo hg⟩, fun himm hlanes => ?_⟩,
    fun s sl h he => ⟨fun hbad => ⟨fun hb => ⟨faults_vld h he hbad hb, faults_vst h he hbad hb⟩, faults_vstp h he hbad⟩,
      faults_vstp_predicate h he, fun hb ha hin hg => faults_vld_bad h he ha hin hb hg, fun himm i => ?_⟩⟩
  · exact answers_vgather h he himm (fun k hk => ⟨(hlanes k hk).1, (hlanes k hk).2.1⟩) (fun k hk => (hlanes k hk).2.2) hgo
  · exact ⟨faults_vgather_misaligned h he himm i, faults_vgather_outside h he himm i, fun hlanes => faults_vgather_bad h he himm hlanes i⟩

end Sys2Proof.Machine
end

section
/-! PROOFS. Core faults and the collector leave a core's registers and program alone, and what the matrix slot queues (R147 to R154). -/
namespace Sys2Proof.Machine

open Sys2Proof

/-! ## Faults leave the cores alone, but for their fault record -/

@[simp] theorem raiseWith_cores (blocks : List (Nat × Nat)) (source unitKind unit ctx detail : Nat) (stamp : Nat × Bool) (w : Work) :
    (raiseWith blocks source unitKind unit ctx detail stamp w).hw.cores = w.hw.cores := by
  unfold raiseWith
  dsimp only
  split
  · rfl
  · split
    · rfl
    · exact putTrace_cores _ _

@[simp] theorem raise_cores (source unitKind unit ctx detail : Nat) (w : Work) :
    (raise source unitKind unit ctx detail w).hw.cores = w.hw.cores := raiseWith_cores ..

@[simp] theorem raiseAt_cores (region source unitKind unit ctx detail : Nat) (w : Work) :
    (raiseAt region source unitKind unit ctx detail w).hw.cores = w.hw.cores := raiseWith_cores ..

@[simp] theorem retireRow_cores (a : Nat) (w : Work) : (retireRow a w).hw.cores = w.hw.cores := by
  unfold retireRow
  dsimp only
  split
  · rfl
  · split
    · rfl
    · exact raise_cores ..

@[simp] theorem uncorrectableAt_cores (a : Nat) (w : Work) : (uncorrectableAt a w).hw.cores = w.hw.cores := by
  unfold uncorrectableAt
  dsimp only
  split
  · rw [retireRow_cores]; rfl
  · rfl

/-- The parts of a core on which issue depends are the same: its registers, its program's length and whether `END` has issued. -/
structure SameIssue (k j : CoreSt) : Prop where
  regs : k.r = j.r
  bundles : k.bundles = j.bundles

theorem coreFaultAt_sameIssue (core code unit bundle address : Nat) (isAsync : Bool) (w : Work) :
    SameIssue (coreOf (coreFaultAt core code unit bundle address isAsync w).hw core) (coreOf w.hw core) := by
  unfold coreFaultAt
  dsimp only
  rw [coreOf_congr (v := Work.up _ _) (w := ite _ _ _) rfl]
  split
  · rw [coreOf_congr (raiseAt_cores ..), coreOf_congr (raiseAt_cores ..), coreOf_modCore, if_pos rfl]
    exact ⟨rfl, rfl⟩
  · rw [coreOf_congr (raiseAt_cores ..), coreOf_modCore, if_pos rfl]
    exact ⟨rfl, rfl⟩

/-- A core fault leaves the core's registers and program as they are. -/
theorem coreFault_sameIssue (core code unit bundle address : Nat) (isAsync : Bool) (w : Work) :
    SameIssue (coreOf (coreFault core code unit bundle address isAsync w).hw core) (coreOf w.hw core) := by
  unfold coreFault
  split
  · rw [← coreOf_congr (uncorrectableAt_cores (scratchKey core 0) w)]
    exact coreFaultAt_sameIssue ..
  · exact coreFaultAt_sameIssue ..

/-- A slot that stands alone, and whose effect leaves the core's program counter, loop stack and program as they are. -/
theorem Alone.acts_keeping {s : State} {i : Instr} {x : SlotInfo} (h : Alone s i x) {g : Work → Work} {k : CoreSt}
    (ho : x.act (seen i x.sl.core.toNat s) x.sl = { effect := g })
    (hk : coreOf (g (cleared x.sl.core.toNat (beginWork s))).hw x.sl.core.toNat = k)
    (hpc : k.r.pc = (rOf s x.sl).pc) (hloops : k.r.loops = (rOf s x.sl).loops)
    (hbundles : k.bundles = (coreOf s.hw x.sl.core.toNat).bundles) (hgo : GoesOn s x.sl) :
    AnswersWith i s (issued x.sl.core.toNat g (beginWork s)) := by
  refine h.acts ho ?_
  rw [hk, hpc, hloops, hbundles]
  exact hgo

theorem coreOf_modCore_self (c : Nat) (f : CoreSt → CoreSt) (w : Work) : coreOf (modCore c f w).hw c = f (coreOf w.hw c) := by
  rw [coreOf_modCore, if_pos rfl]

/-- A slot that stands alone and whose effect is a change of its core that keeps the program counter, the loop stack and the program. -/
theorem Alone.acts_as {s : State} {i : Instr} {x : SlotInfo} (h : Alone s i x) {g : Work → Work} {f : CoreSt → CoreSt}
    (ho : x.act (seen i x.sl.core.toNat s) x.sl = { effect := g })
    (hg : g (cleared x.sl.core.toNat (beginWork s)) = modCore x.sl.core.toNat f (cleared x.sl.core.toNat (beginWork s)))
    (hf : ∀ k, (f k).r.pc = k.r.pc ∧ (f k).r.loops = k.r.loops ∧ (f k).bundles = k.bundles) (hgo : GoesOn s x.sl) :
    AnswersWith i s (issued x.sl.core.toNat (modCore x.sl.core.toNat f) (beginWork s)) := by
  obtain ⟨hpc, hloops, hbundles⟩ := hf (coreOf (cleared x.sl.core.toNat (beginWork s)).hw x.sl.core.toNat)
  rw [coreOf_cleared, coreOf_beginWork] at hpc hloops hbundles
  have hissued := h.acts_keeping ho rfl (by rw [hg, coreOf_modCore_self, coreOf_cleared, coreOf_beginWork, hpc]; rfl)
    (by rw [hg, coreOf_modCore_self, coreOf_cleared, coreOf_beginWork, hloops]; rfl)
    (by rw [hg, coreOf_modCore_self, coreOf_cleared, coreOf_beginWork, hbundles]) hgo
  rwa [issued_congr _ _ _ _ hg] at hissued

/-- A slot that stands alone and whose effect is an asynchronous fault of its bundle. -/
theorem Alone.async_fault {s : State} {i : Instr} {x : SlotInfo} (h : Alone s i x) {code unit bundle address : Nat}
    (ho : x.act (seen i x.sl.core.toNat s) x.sl = { effect := coreFault x.sl.core.toNat code unit bundle address true })
    (hgo : GoesOn s x.sl) :
    AnswersWith i s (issued x.sl.core.toNat (coreFault x.sl.core.toNat code unit bundle address true) (beginWork s)) := by
  have hsame := coreFault_sameIssue x.sl.core.toNat code unit bundle address true (cleared x.sl.core.toNat (beginWork s))
  have hr := hsame.regs
  have hb := hsame.bundles
  rw [coreOf_cleared, coreOf_beginWork] at hr hb
  exact h.acts_keeping ho rfl (by rw [hr]; rfl) (by rw [hr]; rfl) hb hgo

@[simp] theorem seen_read (i : Instr) (core : Nat) (s : State) (a n : Nat) : (seen i core s).read a n = memGet s.mem a n := rfl

/-! ## `MDSET` -/

section
variable {s : State} {sl : Slot} (h : Sole s.hw sl) (hb : sl.b = 0) (himm : sl.imm = 0)
include h hb himm

theorem alone_mdset : Alone s (.mdset sl) ⟨sl, 2, 2, 12, slotMdset⟩ :=
  alone_of_clean (slotOf_mdset sl) h (by simp [fieldsClean, bit, hb, himm]) (by decide) rfl rfl

section
variable (hd : sl.d.toNat < 16) (ha : sreg (rOf s sl) sl.a.toNat % 32 = 0) (hin : sreg (rOf s sl) sl.a.toNat + 32 ≤ 0x300000)
include hd ha hin

omit h hb himm in
/-- `MDSET` where its operands are in range and its descriptor can be read, by what the descriptor holds. -/
theorem slotMdset_readable (hg : (beginWork s).good (scratchKey sl.core.toNat (sreg (rOf s sl) sl.a.toNat)) 32 = true) (o : Option MDesc)
    (hp : parseMDesc (memGet s.mem (scratchKey sl.core.toNat (sreg (rOf s sl) sl.a.toNat)) 32) = o) :
    slotMdset (seen (.mdset sl) sl.core.toNat s) sl =
      (o.elim { effect := coreFault sl.core.toNat 0x0A 2 (rOf s sl).pc (sreg (rOf s sl) sl.a.toNat) true }
        fun d => regs sl.core.toNat (fun r => { r with m := tabSet {} r.m sl.d.toNat d })) := by
  subst hp
  have hnil := scratchFaults_nil _ 32 32 ha hin
  simp only [rOf] at hnil hg
  simp only [slotMdset, coreOf_seen, ge_iff_le, Nat.not_le.mpr hd, if_false, List.nil_append, hnil, seen_good, rOf, seen_read, hg,
    Bool.not_true, Bool.false_eq_true]
  cases parseMDesc (memGet s.mem (scratchKey sl.core.toNat (sreg (coreOf s.hw sl.core.toNat).r sl.a.toNat)) 32) <;> rfl

omit h hb himm in
theorem slotMdset_unreadable (hg : (beginWork s).good (scratchKey sl.core.toNat (sreg (rOf s sl) sl.a.toNat)) 32 = false) :
    slotMdset (seen (.mdset sl) sl.core.toNat s) sl =
      { effect := coreFault sl.core.toNat 0x0B 2 (rOf s sl).pc (sreg (rOf s sl) sl.a.toNat) true } := by
  have hnil := scratchFaults_nil _ 32 32 ha hin
  simp only [rOf] at hnil hg
  simp only [slotMdset, coreOf_seen, ge_iff_le, Nat.not_le.mpr hd, if_false, List.nil_append, hnil, seen_good, rOf, hg, Bool.not_false, if_true]
  rfl

theorem answers_mdset (hgo : GoesOn s sl) (hg : (beginWork s).good (scratchKey sl.core.toNat (sreg (rOf s sl) sl.a.toNat)) 32 = true)
    (d : MDesc) (hp : parseMDesc (memGet s.mem (scratchKey sl.core.toNat (sreg (rOf s sl) sl.a.toNat)) 32) = some d) :
    AnswersWith (.mdset sl) s (issued sl.core.toNat (setRegs sl.core.toNat (fun q => { q with m := tabSet {} q.m sl.d.toNat d }))
      (beginWork s)) :=
  (alone_mdset h hb himm).regs (slotMdset_readable hd ha hin hg _ hp) (fun _ => ⟨rfl, rfl⟩) hgo

theorem faults_mdset_invalid (hgo : GoesOn s sl)
    (hg : (beginWork s).good (scratchKey sl.core.toNat (sreg (rOf s sl) sl.a.toNat)) 32 = true)
    (hp : parseMDesc (memGet s.mem (scratchKey sl.core.toNat (sreg (rOf s sl) sl.a.toNat)) 32) = none) :
    AnswersWith (.mdset sl) s (issued sl.core.toNat
      (coreFault sl.core.toNat 0x0A 2 (rOf s sl).pc (sreg (rOf s sl) sl.a.toNat) true) (beginWork s)) :=
  (alone_mdset h hb himm).async_fault (slotMdset_readable hd ha hin hg _ hp) hgo

theorem faults_mdset_unreadable (hgo : GoesOn s sl)
    (hg : (beginWork s).good (scratchKey sl.core.toNat (sreg (rOf s sl) sl.a.toNat)) 32 = false) :
    AnswersWith (.mdset sl) s (issued sl.core.toNat
      (coreFault sl.core.toNat 0x0B 2 (rOf s sl).pc (sreg (rOf s sl) sl.a.toNat) true) (beginWork s)) :=
  (alone_mdset h hb himm).async_fault (slotMdset_unreadable hd ha hin hg) hgo

end

/-- The synchronous faults of `MDSET` are those of its register number and of its offset. -/
theorem faults_mdset {f : Nat × Nat} (hlow : LowestFirst ((if sl.d.toNat ≥ 16 then [(illegalOperand, 0)] else [])
      ++ scratchFaults (sreg (rOf s sl) sl.a.toNat) 32 32) f) :
    AnswersWith (.mdset sl) s (coreFault sl.core.toNat f.1 2 (rOf s sl).pc f.2 false (cleared sl.core.toNat (beginWork s))) := by
  have ho : slotMdset (seen (.mdset sl) sl.core.toNat s) sl = {
      faults := (if sl.d.toNat ≥ 16 then [(illegalOperand, 0)] else []) ++ scratchFaults (sreg (rOf s sl) sl.a.toNat) 32 32 } := by
    simp only [slotMdset, coreOf_seen]
    split
    · next hnil => exact absurd hnil (ne_nil_of_lowestFirst hlow)
    · rfl
  exact (alone_mdset h hb himm).faults ho rfl f hlow

theorem faults_mdset_register (hd : 16 ≤ sl.d.toNat) :
    AnswersWith (.mdset sl) s (coreFault sl.core.toNat 0x02 2 (rOf s sl).pc 0 false (cleared sl.core.toNat (beginWork s))) := by
  refine faults_mdset h hb himm (f := (0x02, 0)) ⟨[], scratchFaults (sreg (rOf s sl) sl.a.toNat) 32 32, ?_, by simp, fun x hx => ?_⟩
  · simp [hd, illegalOperand]
  · rcases mem_scratchFaults _ _ _ x hx with ⟨hx, -⟩ | ⟨hx, -⟩ <;> simp [hx]

theorem faults_mdset_offset (hd : sl.d.toNat < 16)
    (hbad : sreg (rOf s sl) sl.a.toNat % 32 ≠ 0 ∨ 0x300000 < sreg (rOf s sl) sl.a.toNat + 32) :
    AnswersWith (.mdset sl) s (coreFault sl.core.toNat (if sreg (rOf s sl) sl.a.toNat % 32 ≠ 0 then 0x03 else 0x04) 2 (rOf s sl).pc
      (sreg (rOf s sl) sl.a.toNat) false (cleared sl.core.toNat (beginWork s))) := by
  have hlow := scratchFaults_lowest (sreg (rOf s sl) sl.a.toNat) 32 32 hbad
  exact faults_mdset h hb himm (f := (_, sreg (rOf s sl) sl.a.toNat)) (by rwa [if_neg (Nat.not_le.mpr hd), List.nil_append])

end

/-- What an accepted descriptor holds (R147). -/
theorem parseMDesc_some (bs : List Byte) (d : MDesc) (h : parseMDesc bs = some d) :
    d.format = field bs 0 1 % 32 ∧ d.format ≤ 15 ∧ d.rows = field bs 2 2 ∧ 1 ≤ d.rows ∧ d.rows ≤ 128
    ∧ d.length = field bs 4 2 ∧ 1 ≤ d.length ∧ d.length ≤ 16384 ∧ d.base = field bs 8 4 ∧ d.base % 16 = 0
    ∧ d.rowStride = field bs 12 4 ∧ d.rowStride % 16 = 0 ∧ d.pieceChunks ≤ 64 ∧ field bs 26 2 = 0
    ∧ (d.variant ≠ 0 → d.format = 8 ∨ d.format = 9)
    ∧ (d.pieceChunks = 0 → d.pieceStride = 0 ∧ d.mapOrBase = 0) ∧ (isMx d.format = false → d.scaleBase = 0 ∧ d.scaleStride = 0) := by
  unfold parseMDesc at h
  extract_lets f0 fl d0 streamed n mx ok at h
  split at h
  · next hok =>
    obtain rfl := Option.some.inj h
    simp only [ok, Bool.and_eq_true, decide_eq_true_eq, beq_iff_eq, Bool.or_eq_true] at hok
    obtain ⟨⟨⟨⟨⟨⟨⟨⟨⟨⟨⟨⟨⟨⟨⟨⟨⟨hf0, hformat⟩, hvariant⟩, hfl⟩, hrows⟩, hrows'⟩, hlength⟩, hlength'⟩, hwc⟩, hchunks⟩, hbase⟩,
      hstride⟩, hrow⟩, hpiece⟩, hscale⟩, hscaleStride⟩, hreserved⟩, hmap⟩ := hok
    refine ⟨(bits_eq _ 4 0).trans (by rw [Nat.pow_zero, Nat.div_one]; rfl), hformat, rfl, hrows, hrows', rfl, hlength, hlength', rfl, hbase, rfl, hstride, hchunks, hreserved,
      fun hv => (or_assoc.mp hvariant).resolve_left hv, fun hs => ?_, fun hm => ?_⟩
    · have hstreamed : streamed = false := by simp only [streamed, hs, bne_self_eq_false]
      simp only [hstreamed, Bool.false_eq_true, if_false, beq_iff_eq] at hpiece hmap
      exact ⟨hpiece, hmap⟩
    · have hmx : mx = false := hm
      simp only [hmx, false_and, Bool.false_eq_true, if_false, beq_iff_eq] at hscale hscaleStride
      exact ⟨hscale, hscaleStride⟩
  · cases h

/-! ## Operations of the matrix queue -/

/-- A matrix operation with the core's rounding state of the moment of issue (R149, R129). -/
def withRounding (r : CoreRegs) (o : MatrixOp) : MatrixOp := { o with key := r.srKey, word := r.srWord, mode := r.mode }

/-- An operation joins the matrix queue and takes its draws (R134). -/
def joinMatrix (o : MatrixOp) (n : Nat) (x : CoreSt) : CoreSt :=
  { x with
    matrixQ := x.matrixQ ++ [o]
    r := if x.r.mode = 2 then { x.r with srWord := (x.r.srWord + (n + 3) / 4) % 2 ^ 64 } else x.r }

theorem joinMatrix_keeps (o : MatrixOp) (n : Nat) (x : CoreSt) :
    (joinMatrix o n x).r.pc = x.r.pc ∧ (joinMatrix o n x).r.loops = x.r.loops := by
  unfold joinMatrix
  dsimp only
  split <;> exact ⟨rfl, rfl⟩

/-- A full matrix queue holds the bundle. -/
theorem queueMatrix_full (w : Work) (core : Nat) (o : MatrixOp) (n : Nat) (h : ¬ (coreOf w.hw core).matrixQ.length < 8) :
    queueMatrix w core o n = { hold := .queue } := by
  rw [queueMatrix, if_pos (Nat.not_lt.mp h)]

/-- What a matrix operation that the queue takes does to the core. -/
def queueEffect (core mode n : Nat) (o : MatrixOp) (w : Work) : Work :=
  takeDraws core mode n (modCore core (fun c => { c with
    matrixQ := c.matrixQ ++ [{ withRounding (coreOf w.hw core).r o with mode := mode }] }) w)

theorem queueMatrix_room (w : Work) (core : Nat) (o : MatrixOp) (n : Nat) (h : (coreOf w.hw core).matrixQ.length < 8) :
    queueMatrix w core o n = { effect := queueEffect core (coreOf w.hw core).r.mode n o } := by
  rw [queueMatrix, if_neg (Nat.not_le.mpr h)]
  rfl

/-- The operation queued and its draws taken: one change of the core. -/
theorem queueEffect_eq (core : Nat) (o : MatrixOp) (n : Nat) (r : CoreRegs) (w : Work) (hr : (coreOf w.hw core).r = r) :
    queueEffect core r.mode n o w = modCore core (joinMatrix (withRounding r o) n) w := by
  simp only [queueEffect, takeDraws]
  split
  · next hmode =>
    rw [modCore_modCore]
    refine modCore_congr _ _ _ _ ?_
    simp [joinMatrix, withRounding, hr, hmode, ceilDiv]
  · next hmode =>
    refine modCore_congr _ _ _ _ ?_
    simp [joinMatrix, withRounding, hr, hmode]

theorem queueMatrix_hold (w : Work) (core : Nat) (o : MatrixOp) (n : Nat) (h : (coreOf w.hw core).matrixQ.length < 8) :
    (queueMatrix w core o n).hold = .none := by
  rw [queueMatrix, if_neg (Nat.not_le.mpr h)]

section
variable {s : State} {sl : Slot} {i : Instr} {used : Nat} {act : Work → Slot → SlotOut} (h : Alone s i ⟨sl, 2, 2, used, act⟩)
  {o : MatrixOp} {n : Nat} {fs : List (Nat × Nat)}
  (ho : act (seen i sl.core.toNat s) sl = { queueMatrix (seen i sl.core.toNat s) sl.core.toNat o n with faults := fs })
include h ho

/-- A matrix instruction without fault joins the queue where there is room. -/
theorem Alone.joins_matrix (hroom : (coreOf s.hw sl.core.toNat).matrixQ.length < 8) (hgo : GoesOn s sl) (hfs : fs = []) :
    AnswersWith i s (issued sl.core.toNat (modCore sl.core.toNat (joinMatrix (withRounding (rOf s sl) o) n)) (beginWork s)) := by
  subst hfs
  have hrs : (coreOf (seen i sl.core.toNat s).hw sl.core.toNat).r = rOf s sl := by rw [coreOf_seen]; rfl
  refine h.acts_as (ho.trans (by rw [queueMatrix_room _ _ _ _ (by simpa using hroom), hrs]))
    (queueEffect_eq sl.core.toNat o n (rOf s sl) _ (by rw [coreOf_cleared, coreOf_beginWork]; rfl)) (fun k => ?_) hgo
  exact ⟨(joinMatrix_keeps ..).1, (joinMatrix_keeps ..).2, rfl⟩

/-- A matrix instruction on a full queue is held. -/
theorem Alone.full_matrix (hfull : ¬ (coreOf s.hw sl.core.toNat).matrixQ.length < 8) : SlotHeld i s sl.core.toNat .queue := by
  refine h.holds ho ?_ (by decide)
  rw [queueMatrix_full _ _ _ _ (by simpa using hfull)]

/-- A matrix instruction with faults, where the queue has room, records the lowest. -/
theorem Alone.faults_matrix (hroom : (coreOf s.hw sl.core.toNat).matrixQ.length < 8) {f : Nat × Nat} (hlow : LowestFirst fs f) :
    AnswersWith i s (coreFault sl.core.toNat f.1 2 (rOf s sl).pc f.2 false (cleared sl.core.toNat (beginWork s))) :=
  h.faults ho (queueMatrix_hold _ _ _ _ (by simpa using hroom)) f hlow

end

/-! ## Products: what their operands must obey (R152, R153, R165) -/

/-- The registers that a product names exist. -/
def ProductNamed (sl : Slot) : Prop := sl.d.toNat < 8 ∧ sl.a.toNat < 16 ∧ sl.b.toNat < 16

/-- The descriptors of a product go together (R152). -/
def PairFits (a b : MDesc) : Prop :=
  a.length = b.length ∧ (macPair a.format b.format).isSome ∧ a.tileInt = false ∧ b.tileInt = false ∧ b.staging = false
    ∧ b.pieceChunks = 0 ∧ ((isMx a.format ∨ isMx b.format) → a.length % 32 = 0)

theorem PairFits.right_not_staging {a b : MDesc} (h : PairFits a b) : b.staging = false := by
  obtain ⟨-, -, -, -, hstaging, -, -⟩ := h
  exact hstaging

/-- The streamed descriptor of `MMAS` (R165). -/
def StreamFits (a : MDesc) : Prop :=
  a.staging = true ∧ a.pieceChunks ≠ 0 ∧ pieceCount a ≤ 128 ∧ (a.mapMode = 0 → a.clearMap = false)

/-- The descriptors of `MMAS` (`stream`) or `MMA` obey R152. -/
def ProductFits (stream : Bool) (a b : MDesc) : Prop := PairFits a b ∧ if stream then StreamFits a else a.pieceChunks = 0

/-- The check of R152 as the issue of a product makes it. -/
def productBad (stream : Bool) (a b : MDesc) : Bool :=
  a.length != b.length || (macPair a.format b.format).isNone
    || a.tileInt || b.tileInt || b.staging || b.pieceChunks != 0
    || ((isMx a.format || isMx b.format) && a.length % 32 != 0)
    || (if stream then !a.staging || a.pieceChunks == 0 || 128 < pieceCount a || (a.mapMode == 0 && a.clearMap)
        else a.pieceChunks != 0)

theorem productBad_eq_false (stream : Bool) (a b : MDesc) : productBad stream a b = false ↔ ProductFits stream a b := by
  cases stream with
  | true => simp [productBad, ProductFits, PairFits, StreamFits, and_assoc]
  | false => simp [productBad, ProductFits, PairFits, and_assoc]

theorem productBad_eq_true (stream : Bool) (a b : MDesc) (h : ¬ ProductFits stream a b) : productBad stream a b = true := by
  rwa [← productBad_eq_false, Bool.not_eq_false] at h

theorem matrixImm_nil (sl : Slot) (h : sl.imm.toNat < 32) : matrixImm sl = [] := if_neg (Nat.not_le.mpr h)

theorem matrixImm_bad (sl : Slot) (h : 32 ≤ sl.imm.toNat) : matrixImm sl = [(0x02, 0)] := if_pos h

/-- The faults of the ranges of a product's descriptors, and of the ready map of a streamed one. -/
def operandRanges (hw : Hw) (core : Nat) (stream : Bool) (a b : MDesc) : List (Nat × Nat) :=
  descFaults hw core a ++ descFaults hw core b
    ++ (if stream && a.mapMode == 1 then rangeFaults hw core a (a.mapOrBase, 16) else [])

theorem lowestFirst_cons (f : Nat × Nat) (fs : List (Nat × Nat)) (h : ∀ x ∈ fs, f.1 ≤ x.1) : LowestFirst (f :: fs) f :=
  ⟨[], fs, rfl, by simp, h⟩

theorem matrixImm_codes (sl : Slot) (x : Nat × Nat) (hx : x ∈ matrixImm sl) : 0x02 ≤ x.1 := by
  simp only [matrixImm] at hx
  split at hx
  · rw [List.mem_singleton.mp hx]; exact Nat.le_refl _
  · cases hx

/-- The fault code of a descriptor's space: `STAGING_BOUNDS` or `SCRATCHPAD_BOUNDS`. -/
def spaceCode (d : MDesc) : Nat := if d.staging then 0x05 else 0x04

theorem spaceCode_ge (d : MDesc) : 0x04 ≤ spaceCode d := by
  unfold spaceCode
  split <;> decide

theorem rangeFaults_code (hw : Hw) (core : Nat) (d : MDesc) (r x : Nat × Nat) (hx : x ∈ rangeFaults hw core d r) : x.1 = spaceCode d := by
  unfold rangeFaults at hx
  unfold spaceCode
  split at hx
  · next hs =>
    split at hx
    · cases hx
    · rw [List.mem_singleton.mp hx, if_pos hs]; rfl
  · next hs =>
    split at hx
    · cases hx
    · rw [List.mem_singleton.mp hx, if_neg hs]; rfl

theorem descFaults_code (hw : Hw) (core : Nat) (d : MDesc) (x : Nat × Nat) (hx : x ∈ descFaults hw core d) : x.1 = spaceCode d := by
  obtain ⟨r, -, hr⟩ := List.mem_flatMap.mp hx
  exact rangeFaults_code hw core d r x hr

theorem mapFaults_code (hw : Hw) (core : Nat) (stream : Bool) (a : MDesc) (x : Nat × Nat)
    (hx : x ∈ if stream && a.mapMode == 1 then rangeFaults hw core a (a.mapOrBase, 16) else []) : x.1 = spaceCode a := by
  split at hx
  · exact rangeFaults_code hw core a _ x hx
  · cases hx

/-- The ranges of a product fault by the space of one of its descriptors. -/
theorem mem_operandRanges (hw : Hw) (core : Nat) (stream : Bool) (a b : MDesc) (x : Nat × Nat)
    (hx : x ∈ operandRanges hw core stream a b) : x.1 = spaceCode a ∨ x ∈ descFaults hw core b := by
  simp only [operandRanges, List.mem_append, or_assoc] at hx
  obtain hx | hx | hx := hx
  · exact .inl (descFaults_code hw core a x hx)
  · exact .inr hx
  · exact .inl (mapFaults_code hw core stream a x hx)

theorem operandRanges_codes (hw : Hw) (core : Nat) (stream : Bool) (a b : MDesc) (x : Nat × Nat)
    (hx : x ∈ operandRanges hw core stream a b) : 0x04 ≤ x.1 := by
  obtain hx | hx := mem_operandRanges hw core stream a b x hx
  · exact hx ▸ spaceCode_ge a
  · exact descFaults_code hw core b x hx ▸ spaceCode_ge b

/-- The first fault of the right descriptor, where the left one has none of a lower or equal code. -/
theorem lowestFirst_right (hw : Hw) (core : Nat) (stream : Bool) (a b : MDesc) (f : Nat × Nat) (fs : List (Nat × Nat))
    (hb : b.staging = false) (hf : descFaults hw core b = f :: fs) (ha : a.staging = true ∨ descFaults hw core a = []) :
    LowestFirst (operandRanges hw core stream a b) f := by
  have hcode : f.1 = 0x04 := by
    rw [descFaults_code hw core b f (hf ▸ List.mem_cons_self ..), spaceCode, hb]; rfl
  refine ⟨descFaults hw core a, fs ++ if stream && a.mapMode == 1 then rangeFaults hw core a (a.mapOrBase, 16) else [], ?_,
    fun x hx => ?_, fun x hx => ?_⟩
  · rw [operandRanges, hf, List.append_assoc]; rfl
  · obtain ha | ha := ha
    · rw [hcode, descFaults_code hw core a x hx, spaceCode, ha]; decide
    · rw [ha] at hx; cases hx
  · rw [hcode]
    refine operandRanges_codes hw core stream a b x ?_
    simp only [operandRanges, hf, List.mem_append, List.mem_cons] at hx ⊢
    tauto

/-- The first fault of the left descriptor, where the right one has none of a lower code. -/
theorem lowestFirst_left (hw : Hw) (core : Nat) (stream : Bool) (a b : MDesc) (f : Nat × Nat) (fs : List (Nat × Nat))
    (hf : descFaults hw core a = f :: fs) (hb : a.staging = false ∨ descFaults hw core b = []) :
    LowestFirst (operandRanges hw core stream a b) f := by
  have hcode : f.1 = spaceCode a := descFaults_code hw core a f (hf ▸ List.mem_cons_self ..)
  have hall : ∀ x ∈ operandRanges hw core stream a b, f.1 ≤ x.1 := fun x hx => by
    obtain ha | hb' := mem_operandRanges hw core stream a b x hx
    · rw [hcode, ha]
    · obtain hb | hb := hb
      · rw [hcode, spaceCode, hb, descFaults_code hw core b x hb']; exact spaceCode_ge b
      · rw [hb] at hb'; cases hb'
  simp only [operandRanges, hf, List.cons_append] at hall ⊢
  exact lowestFirst_cons f _ fun x hx => hall x (List.mem_cons_of_mem _ hx)

section
variable (i : Instr) (s : State) (sl : Slot) (stream : Bool)

theorem macFaults_unnamed (h : ¬ ProductNamed sl) : macFaults (seen i sl.core.toNat s) sl stream = [(0x02, 0)] := by
  have hbad : (decide (sl.d.toNat ≥ 8) || decide (sl.a.toNat ≥ 16) || decide (sl.b.toNat ≥ 16)) = true := by
    simp only [ProductNamed] at h
    simp only [Bool.or_eq_true, decide_eq_true_eq]
    omega
  rw [macFaults, if_pos hbad]
  rfl

variable (hnamed : ProductNamed sl)
include hnamed

theorem macFaults_named : macFaults (seen i sl.core.toNat s) sl stream =
    if productBad stream (tabGet {} (rOf s sl).m sl.a.toNat) (tabGet {} (rOf s sl).m sl.b.toNat) then (0x02, 0) :: matrixImm sl
    else matrixImm sl
      ++ operandRanges s.hw sl.core.toNat stream (tabGet {} (rOf s sl).m sl.a.toNat) (tabGet {} (rOf s sl).m sl.b.toNat) := by
  obtain ⟨hd, ha, hb⟩ := hnamed
  rw [macFaults, coreOf_seen, if_neg (by simp only [Bool.or_eq_true, decide_eq_true_eq]; omega)]
  extract_lets r a b bad
  change (if bad then [(illegalOperand, 0)] else []) ++ matrixImm sl
      ++ (if bad then [] else operandRanges s.hw sl.core.toNat stream a b)
    = if bad then (0x02, 0) :: matrixImm sl else matrixImm sl ++ operandRanges s.hw sl.core.toNat stream a b
  cases bad with
  | true => simp [illegalOperand]
  | false => simp

theorem macFaults_fits (hfits : ProductFits stream (tabGet {} (rOf s sl).m sl.a.toNat) (tabGet {} (rOf s sl).m sl.b.toNat))
    (himm : sl.imm.toNat < 32) : macFaults (seen i sl.core.toNat s) sl stream =
      operandRanges s.hw sl.core.toNat stream (tabGet {} (rOf s sl).m sl.a.toNat) (tabGet {} (rOf s sl).m sl.b.toNat) := by
  rw [macFaults_named i s sl stream hnamed, (productBad_eq_false ..).mpr hfits, matrixImm_nil sl himm]
  rfl

omit hnamed in
/-- A product that names a register that is not there, whose descriptors break R152, or whose counter number is too large is an illegal
operand. -/
theorem macFaults_illegal (h : ¬ ProductNamed sl
      ∨ ¬ ProductFits stream (tabGet {} (rOf s sl).m sl.a.toNat) (tabGet {} (rOf s sl).m sl.b.toNat) ∨ 32 ≤ sl.imm.toNat) :
    LowestFirst (macFaults (seen i sl.core.toNat s) sl stream) (0x02, 0) := by
  by_cases hnamed : ProductNamed sl
  case neg => rw [macFaults_unnamed i s sl stream hnamed]; exact lowestFirst_single _
  by_cases hfits : ProductFits stream (tabGet {} (rOf s sl).m sl.a.toNat) (tabGet {} (rOf s sl).m sl.b.toNat)
  case neg =>
    rw [macFaults_named i s sl stream hnamed, if_pos (productBad_eq_true stream _ _ hfits)]
    exact lowestFirst_cons _ _ (matrixImm_codes sl)
  have himm : 32 ≤ sl.imm.toNat := by tauto
  rw [macFaults_named i s sl stream hnamed, (productBad_eq_false ..).mpr hfits, matrixImm_bad sl himm]
  exact lowestFirst_cons _ _ fun x hx => Nat.le_trans (by decide) (operandRanges_codes _ _ _ _ _ x hx)

end

/-! ## Transfers: what their operands must obey (R153, R154) -/

/-- The tile and the descriptor that a transfer names exist. -/
def TransferNamed (sl : Slot) : Prop := sl.d.toNat < 8 ∧ sl.a.toNat < 16

/-- The descriptor of `MLOAD` (`load`) or `MSTORE` obeys R154. -/
def TransferFits (load : Bool) (a : MDesc) : Prop :=
  a.length ≤ 128 ∧ a.pieceChunks = 0 ∧ transferFormat load a.tileInt a.format = true ∧ (load = false → isMx a.format → a.length % 32 = 0)

/-- The check of R154 as the issue of a transfer makes it. -/
def transferBad (load : Bool) (a : MDesc) : Bool :=
  128 < a.length || a.pieceChunks != 0 || !transferFormat load a.tileInt a.format || (!load && isMx a.format && a.length % 32 != 0)

theorem transferBad_eq_false (load : Bool) (a : MDesc) : transferBad load a = false ↔ TransferFits load a := by
  cases load <;> simp [transferBad, TransferFits, and_assoc]

theorem loads_iff {sl : Slot} {a : MDesc} :
    (sl.d.toNat < 8 ∧ sl.a.toNat < 16 ∧ a.length ≤ 128 ∧ a.pieceChunks = 0) ∧ transferFormat true a.tileInt a.format = true
      ↔ TransferNamed sl ∧ TransferFits true a := by
  simp only [TransferNamed, TransferFits, Bool.true_eq_false, false_implies, and_true, and_assoc]

theorem stores_iff {sl : Slot} {a : MDesc} :
    (sl.d.toNat < 8 ∧ sl.a.toNat < 16 ∧ a.length ≤ 128 ∧ a.pieceChunks = 0) ∧ transferFormat false a.tileInt a.format = true
        ∧ (isMx a.format → a.length % 32 = 0)
      ↔ TransferNamed sl ∧ TransferFits false a := by
  simp only [TransferNamed, TransferFits, true_implies, and_assoc]

section
variable (i : Instr) (s : State) (sl : Slot) (load : Bool)

theorem transferFaults_unnamed (h : ¬ TransferNamed sl) : transferFaults (seen i sl.core.toNat s) sl load = [(0x02, 0)] := by
  have hbad : (decide (sl.d.toNat ≥ 8) || decide (sl.a.toNat ≥ 16)) = true := by
    simp only [TransferNamed] at h
    simp only [Bool.or_eq_true, decide_eq_true_eq]
    omega
  rw [transferFaults, if_pos hbad]
  rfl

theorem transferFaults_named (hnamed : TransferNamed sl) : transferFaults (seen i sl.core.toNat s) sl load =
    if transferBad load (tabGet {} (rOf s sl).m sl.a.toNat) then (0x02, 0) :: matrixImm sl
    else matrixImm sl ++ descFaults s.hw sl.core.toNat (tabGet {} (rOf s sl).m sl.a.toNat) := by
  obtain ⟨hd, ha⟩ := hnamed
  rw [transferFaults, coreOf_seen, if_neg (by simp only [Bool.or_eq_true, decide_eq_true_eq]; omega)]
  extract_lets r a bad
  change (if bad then [(illegalOperand, 0)] else []) ++ matrixImm sl ++ (if bad then [] else descFaults s.hw sl.core.toNat a)
    = if bad then (0x02, 0) :: matrixImm sl else matrixImm sl ++ descFaults s.hw sl.core.toNat a
  cases bad with
  | true => simp [illegalOperand]
  | false => simp

theorem transferFaults_fits (hnamed : TransferNamed sl) (hfits : TransferFits load (tabGet {} (rOf s sl).m sl.a.toNat))
    (himm : sl.imm.toNat < 32) : transferFaults (seen i sl.core.toNat s) sl load =
      descFaults s.hw sl.core.toNat (tabGet {} (rOf s sl).m sl.a.toNat) := by
  rw [transferFaults_named i s sl load hnamed, (transferBad_eq_false ..).mpr hfits, matrixImm_nil sl himm]
  rfl

theorem transferFaults_illegal
    (h : ¬ (TransferNamed sl ∧ TransferFits load (tabGet {} (rOf s sl).m sl.a.toNat)) ∨ 32 ≤ sl.imm.toNat) :
    LowestFirst (transferFaults (seen i sl.core.toNat s) sl load) (0x02, 0) := by
  by_cases hnamed : TransferNamed sl
  case neg => rw [transferFaults_unnamed i s sl load hnamed]; exact lowestFirst_single _
  by_cases hfits : TransferFits load (tabGet {} (rOf s sl).m sl.a.toNat)
  case neg =>
    rw [← transferBad_eq_false, Bool.not_eq_false] at hfits
    rw [transferFaults_named i s sl load hnamed, if_pos hfits]
    exact lowestFirst_cons _ _ (matrixImm_codes sl)
  have himm : 32 ≤ sl.imm.toNat := by tauto
  rw [transferFaults_named i s sl load hnamed, (transferBad_eq_false ..).mpr hfits, matrixImm_bad sl himm]
  exact lowestFirst_cons _ _ fun x hx => by
    rw [descFaults_code _ _ _ x hx]; exact Nat.le_trans (by decide) (spaceCode_ge _)

end

/-- The first fault of a descriptor is the lowest: all have the code of its space. -/
theorem lowestFirst_descFaults (hw : Hw) (core : Nat) (d : MDesc) (f : Nat × Nat) (fs : List (Nat × Nat))
    (h : descFaults hw core d = f :: fs) : LowestFirst (descFaults hw core d) f := by
  have hall : ∀ x ∈ descFaults hw core d, f.1 ≤ x.1 := fun x hx => by
    rw [descFaults_code hw core d f (h ▸ List.mem_cons_self ..), descFaults_code hw core d x hx]
  rw [h] at hall ⊢
  exact lowestFirst_cons f fs fun x hx => hall x (List.mem_cons_of_mem _ hx)

/-! ## The instructions -/

section
variable {s : State} {sl : Slot}

@[simp] theorem rateEnables_seen (i : Instr) (core : Nat) (s : State) : rateEnables (seen i core s).hw core = rateEnables s.hw core := by
  simp only [rateEnables, cyclesNow_seen, issueRate_seen]

section
variable (h : Sole s.hw sl)
include h

theorem alone_mzero (ha : sl.a = 0) (hb : sl.b = 0) : Alone s (.mzero sl) ⟨sl, 2, 2, 9, slotMzero⟩ :=
  alone_of_clean (slotOf_mzero sl) h (by simp [fieldsClean, bit, ha, hb]) (by decide) rfl rfl

theorem alone_mma : Alone s (.mma sl) ⟨sl, 2, 2, 15, slotMma⟩ :=
  alone_of_clean (slotOf_mma sl) h (by simp [fieldsClean, bit]) (by decide) rfl rfl

theorem alone_mmas : Alone s (.mmas sl) ⟨sl, 2, 2, 15, slotMmas⟩ :=
  alone_of_clean (slotOf_mmas sl) h (by simp [fieldsClean, bit]) (by decide) rfl rfl

theorem alone_mload (hb : sl.b = 0) : Alone s (.mload sl) ⟨sl, 2, 2, 13, slotMload⟩ :=
  alone_of_clean (slotOf_mload sl) h (by simp [fieldsClean, bit, hb]) (by decide) rfl rfl

theorem alone_mstore (hb : sl.b = 0) : Alone s (.mstore sl) ⟨sl, 2, 2, 13, slotMstore⟩ :=
  alone_of_clean (slotOf_mstore sl) h (by simp [fieldsClean, bit, hb]) (by decide) rfl rfl

theorem held_products (hrate : rateEnables s.hw sl.core.toNat = false) :
    SlotHeld (.mma sl) s sl.core.toNat .rate ∧ SlotHeld (.mmas sl) s sl.core.toNat .rate :=
  ⟨(alone_mma h).holds rfl (by simp [slotMma, queueProduct, hrate]) (by decide),
    (alone_mmas h).holds rfl (by simp [slotMmas, queueProduct, hrate]) (by decide)⟩

end

/-- What the slot of a product is in an enabled cycle. -/
theorem slotMma_enabled (hrate : rateEnables s.hw sl.core.toNat = true) : slotMma (seen (.mma sl) sl.core.toNat s) sl =
    { queueMatrix (seen (.mma sl) sl.core.toNat s) sl.core.toNat (matrixOp .mma (seen (.mma sl) sl.core.toNat s) sl
        (tabGet {} (rOf s sl).m sl.a.toNat) (tabGet {} (rOf s sl).m sl.b.toNat)) 0 with
      faults := macFaults (seen (.mma sl) sl.core.toNat s) sl false } := by
  simp only [slotMma, queueProduct, rateEnables_seen, hrate, if_true, coreOf_seen, rOf]

theorem slotMmas_enabled (hrate : rateEnables s.hw sl.core.toNat = true) : slotMmas (seen (.mmas sl) sl.core.toNat s) sl =
    { queueMatrix (seen (.mmas sl) sl.core.toNat s) sl.core.toNat (matrixOp .mmas (seen (.mmas sl) sl.core.toNat s) sl
        (tabGet {} (rOf s sl).m sl.a.toNat) (tabGet {} (rOf s sl).m sl.b.toNat)) 0 with
      faults := macFaults (seen (.mmas sl) sl.core.toNat s) sl true } := by
  simp only [slotMmas, queueProduct, rateEnables_seen, hrate, if_true, coreOf_seen, rOf]

theorem slotMload_seen : slotMload (seen (.mload sl) sl.core.toNat s) sl =
    { queueMatrix (seen (.mload sl) sl.core.toNat s) sl.core.toNat (matrixOp .mload (seen (.mload sl) sl.core.toNat s) sl
        (tabGet {} (rOf s sl).m sl.a.toNat) {}) 0 with
      faults := transferFaults (seen (.mload sl) sl.core.toNat s) sl true } := by
  simp only [slotMload, coreOf_seen, rOf]

theorem slotMstore_seen : slotMstore (seen (.mstore sl) sl.core.toNat s) sl =
    { queueMatrix (seen (.mstore sl) sl.core.toNat s) sl.core.toNat (matrixOp .mstore (seen (.mstore sl) sl.core.toNat s) sl
        (tabGet {} (rOf s sl).m sl.a.toNat) {})
        ((tabGet {} (rOf s sl).m sl.a.toNat : MDesc).rows * (tabGet {} (rOf s sl).m sl.a.toNat : MDesc).length) with
      faults := transferFaults (seen (.mstore sl) sl.core.toNat s) sl false } := by
  simp only [slotMstore, coreOf_seen, rOf]

/-- The operation that a matrix instruction queues (R149). -/
def queuedOp (s : State) (sl : Slot) (kind : MatrixKind) (left right : MDesc) : MatrixOp :=
  { kind := kind, tile := sl.d.toNat, left := left, right := right, wc := sl.imm.toNat, bundle := (rOf s sl).pc, mode := (rOf s sl).mode,
    key := (rOf s sl).srKey, word := (rOf s sl).srWord, begun := false, pieces := 0 }

theorem withRounding_matrixOp (i : Instr) (kind : MatrixKind) (left right : MDesc) (himm : sl.imm.toNat < 32) :
    withRounding (rOf s sl) (matrixOp kind (seen i sl.core.toNat s) sl left right) = queuedOp s sl kind left right := by
  simp only [withRounding, matrixOp, coreOf_seen, Nat.mod_eq_of_lt himm, queuedOp, rOf]

/-- What an instruction that names a legal operation does: it joins the matrix queue, or is held where that is full. -/
def JoinsMatrix (s : State) (sl : Slot) (i : Instr) (o : MatrixOp) (n : Nat) : Prop :=
  ((coreOf s.hw sl.core.toNat).matrixQ.length < 8 → GoesOn s sl →
    AnswersWith i s (issued sl.core.toNat (modCore sl.core.toNat (joinMatrix o n)) (beginWork s)))
  ∧ (¬ (coreOf s.hw sl.core.toNat).matrixQ.length < 8 → SlotHeld i s sl.core.toNat .queue)

theorem joins_of_alone {i : Instr} {used n : Nat} {act : Work → Slot → SlotOut} {kind : MatrixKind} {left right : MDesc}
    {fs : List (Nat × Nat)} (h : Alone s i ⟨sl, 2, 2, used, act⟩) (himm : sl.imm.toNat < 32)
    (ho : act (seen i sl.core.toNat s) sl = { queueMatrix (seen i sl.core.toNat s) sl.core.toNat
      (matrixOp kind (seen i sl.core.toNat s) sl left right) n with faults := fs }) (hfs : fs = []) :
    JoinsMatrix s sl i (queuedOp s sl kind left right) n :=
  ⟨fun hroom hgo => withRounding_matrixOp i kind left right himm ▸ h.joins_matrix ho hroom hgo hfs, h.full_matrix ho⟩


section
variable (h : Sole s.hw sl)
include h

theorem joins_mzero (ha : sl.a = 0) (hb : sl.b = 0) (hd : sl.d.toNat < 8) (himm : sl.imm.toNat < 32) :
    JoinsMatrix s sl (.mzero sl) (queuedOp s sl .mzero {} {}) 0 :=
  joins_of_alone (alone_mzero h ha hb) himm rfl (by rw [if_neg (Nat.not_le.mpr hd), matrixImm_nil sl himm]; rfl)

theorem faults_mzero (ha : sl.a = 0) (hb : sl.b = 0) (hbad : 8 ≤ sl.d.toNat ∨ 32 ≤ sl.imm.toNat)
    (hroom : (coreOf s.hw sl.core.toNat).matrixQ.length < 8) :
    AnswersWith (.mzero sl) s (coreFault sl.core.toNat 0x02 2 (rOf s sl).pc 0 false (cleared sl.core.toNat (beginWork s))) := by
  refine (alone_mzero h ha hb).faults_matrix rfl hroom (f := (0x02, 0)) ?_
  by_cases hd : 8 ≤ sl.d.toNat
  · rw [if_pos hd]
    exact lowestFirst_cons _ _ (matrixImm_codes sl)
  · rw [if_neg hd, matrixImm_bad sl (hbad.resolve_left hd)]
    exact lowestFirst_single _

section
variable (hrate : rateEnables s.hw sl.core.toNat = true)
include hrate

theorem faults_mma (hroom : (coreOf s.hw sl.core.toNat).matrixQ.length < 8) {f : Nat × Nat}
    (hlow : LowestFirst (macFaults (seen (.mma sl) sl.core.toNat s) sl false) f) :
    AnswersWith (.mma sl) s (coreFault sl.core.toNat f.1 2 (rOf s sl).pc f.2 false (cleared sl.core.toNat (beginWork s))) :=
  (alone_mma h).faults_matrix (slotMma_enabled hrate) hroom hlow

theorem faults_mmas (hroom : (coreOf s.hw sl.core.toNat).matrixQ.length < 8) {f : Nat × Nat}
    (hlow : LowestFirst (macFaults (seen (.mmas sl) sl.core.toNat s) sl true) f) :
    AnswersWith (.mmas sl) s (coreFault sl.core.toNat f.1 2 (rOf s sl).pc f.2 false (cleared sl.core.toNat (beginWork s))) :=
  (alone_mmas h).faults_matrix (slotMmas_enabled hrate) hroom hlow

end

theorem faults_mload (hb : sl.b = 0) (hroom : (coreOf s.hw sl.core.toNat).matrixQ.length < 8) {f : Nat × Nat}
    (hlow : LowestFirst (transferFaults (seen (.mload sl) sl.core.toNat s) sl true) f) :
    AnswersWith (.mload sl) s (coreFault sl.core.toNat f.1 2 (rOf s sl).pc f.2 false (cleared sl.core.toNat (beginWork s))) :=
  (alone_mload h hb).faults_matrix rfl hroom hlow

theorem faults_mstore (hb : sl.b = 0) (hroom : (coreOf s.hw sl.core.toNat).matrixQ.length < 8) {f : Nat × Nat}
    (hlow : LowestFirst (transferFaults (seen (.mstore sl) sl.core.toNat s) sl false) f) :
    AnswersWith (.mstore sl) s (coreFault sl.core.toNat f.1 2 (rOf s sl).pc f.2 false (cleared sl.core.toNat (beginWork s))) :=
  (alone_mstore h hb).faults_matrix rfl hroom hlow

end

end

/-- The map of a streamed descriptor, where the other ranges are granted. -/
theorem operandRanges_map (hw : Hw) (core : Nat) (a b : MDesc) (ha : descFaults hw core a = []) (hb : descFaults hw core b = [])
    (hs : a.staging = true) : operandRanges hw core true a b =
      if a.mapMode = 1 ∧ inGrant hw core a.mapOrBase 16 = false then [(0x05, 2 ^ 61 + a.mapOrBase)] else [] := by
  simp only [operandRanges, ha, hb, rangeFaults, hs, descWord, if_true, List.nil_append, Bool.true_and, beq_iff_eq, ite_and]
  cases inGrant hw core a.mapOrBase 16 <;> simp [stagingBounds]

/-- Settles O14, by the synchronous faults of each matrix instruction: where it has none, its operation joins the queue or the queue holds it. -/
theorem matrixIssue : Obligations.MatrixIssue := by
  unfold Obligations.MatrixIssue
  refine ⟨fun s sl h hb himm => ⟨fun hgo hd ha hin => ⟨?_, ?_, ?_⟩, ?_, ?_, ?_⟩, parseMDesc_some, fun s sl h => ⟨?_, ?_, ?_, ?_, ?_, ?_⟩⟩
  · exact fun hg d hp => answers_mdset h hb himm hd ha hin hgo hg d hp
  · exact fun hg hp => faults_mdset_invalid h hb himm hd ha hin hgo hg hp
  · exact fun hg => faults_mdset_unreadable h hb himm hd ha hin hgo hg
  · exact faults_mdset_register h hb himm
  · intro hd ha
    simpa [ha] using faults_mdset_offset h hb himm hd (.inl ha)
  · intro hd ha hin
    simpa [ha] using faults_mdset_offset h hb himm hd (.inr hin)
  · exact fun ha hb => ⟨fun hd himm => joins_mzero h ha hb hd himm, fun hbad hroom => faults_mzero h ha hb hbad hroom⟩
  · exact held_products h
  · intro hrate hnamed himm hpair hma hmb
    refine ⟨fun hchunks => ?_, fun hstream hmap => ?_, fun hstream hmap hroom => ?_⟩
    · refine joins_of_alone (alone_mma h) himm (slotMma_enabled hrate) ?_
      rw [macFaults_fits _ s sl false hnamed ⟨hpair, hchunks⟩ himm, operandRanges, hma, hmb]
      rfl
    · refine joins_of_alone (alone_mmas h) himm (slotMmas_enabled hrate) ?_
      rw [macFaults_fits _ s sl true hnamed ⟨hpair, hstream⟩ himm, operandRanges_map _ _ _ _ hma hmb hstream.1, if_neg]
      exact fun ⟨hmode, hout⟩ => Bool.false_ne_true (hout.symm.trans (hmap hmode))
    · refine faults_mmas h hrate hroom (f := (0x05, _)) ?_
      obtain ⟨hmode, hout⟩ := Classical.not_imp.mp hmap
      rw [macFaults_fits _ s sl true hnamed ⟨hpair, hstream⟩ himm, operandRanges_map _ _ _ _ hma hmb hstream.1,
        if_pos ⟨hmode, Bool.not_eq_true _ ▸ hout⟩]
      exact lowestFirst_single _
  · intro hrate
    refine ⟨fun hbad hroom => ?_, fun hbad hroom => ?_⟩
    · refine faults_mma h hrate hroom (macFaults_illegal _ s sl false (hbad.imp_right fun hbad => ?_))
      rw [ProductFits, not_and_or, or_assoc]
      exact hbad
    · refine faults_mmas h hrate hroom (macFaults_illegal _ s sl true (hbad.imp_right fun hbad => ?_))
      rw [ProductFits, not_and_or, or_assoc]
      exact hbad
  · intro hrate hnamed himm hpair f fs
    have hright : (tabGet {} (rOf s sl).m sl.b.toNat : MDesc).staging = false := PairFits.right_not_staging hpair
    refine ⟨fun hmb ha => ⟨fun hchunks hroom => ?_, fun hstream hroom => ?_⟩,
      fun hma hb => ⟨fun hchunks hroom => ?_, fun hstream hroom => ?_⟩⟩
    · refine faults_mma h hrate hroom ?_
      rw [macFaults_fits _ s sl false hnamed ⟨hpair, hchunks⟩ himm]
      exact lowestFirst_right _ _ _ _ _ f fs hright hmb ha
    · refine faults_mmas h hrate hroom ?_
      rw [macFaults_fits _ s sl true hnamed ⟨hpair, hstream⟩ himm]
      exact lowestFirst_right _ _ _ _ _ f fs hright hmb ha
    · refine faults_mma h hrate hroom ?_
      rw [macFaults_fits _ s sl false hnamed ⟨hpair, hchunks⟩ himm]
      exact lowestFirst_left _ _ _ _ _ f fs hma hb
    · refine faults_mmas h hrate hroom ?_
      rw [macFaults_fits _ s sl true hnamed ⟨hpair, hstream⟩ himm]
      exact lowestFirst_left _ _ _ _ _ f fs hma hb
  · intro hb
    refine ⟨fun hloads himm => ⟨fun hma => ?_, fun f fs hma hroom => ?_⟩, fun hstores himm => ⟨fun hma => ?_, fun f fs hma hroom => ?_⟩,
      fun hbad hroom => ?_, fun hbad hroom => ?_⟩
    · obtain ⟨hnamed, hfits⟩ := loads_iff.mp hloads
      exact joins_of_alone (alone_mload h hb) himm slotMload_seen ((transferFaults_fits _ s sl true hnamed hfits himm).trans hma)
    · obtain ⟨hnamed, hfits⟩ := loads_iff.mp hloads
      refine faults_mload h hb hroom ?_
      rw [transferFaults_fits _ s sl true hnamed hfits himm]
      exact lowestFirst_descFaults _ _ _ f fs hma
    · obtain ⟨hnamed, hfits⟩ := stores_iff.mp hstores
      exact joins_of_alone (alone_mstore h hb) himm slotMstore_seen ((transferFaults_fits _ s sl false hnamed hfits himm).trans hma)
    · obtain ⟨hnamed, hfits⟩ := stores_iff.mp hstores
      refine faults_mstore h hb hroom ?_
      rw [transferFaults_fits _ s sl false hnamed hfits himm]
      exact lowestFirst_descFaults _ _ _ f fs hma
    · exact faults_mload h hb hroom (transferFaults_illegal _ s sl true (hbad.imp_left (mt loads_iff.mpr)))
    · exact faults_mstore h hb hroom (transferFaults_illegal _ s sl false (hbad.imp_left (mt stores_iff.mpr)))

end Sys2Proof.Machine
end

section
/-! PROOFS. The matrix engine (R156 to R171): where a tile's rows reach into the tile itself, the statement and the model part. -/
namespace Sys2Proof.Machine

open Sys2Proof

/-- `MLOAD` of two rows, the second of which lies at the tile's own first row. No descriptor that R147 admits has such a stride, but the
statement is of every state. -/
def overlappingLoad : MatrixOp :=
  { kind := .mload, tile := 0, left := { format := 0x0E, tileInt := true, rows := 2, length := 1, rowStride := 2 ^ 50 - 2 ^ 48 }, right := {},
    wc := 1, bundle := 0, mode := 0, key := 0, word := 0, begun := true, pieces := 0 }

/-- A module whose core 0 has that `MLOAD` begun, with 1 in the first byte of its scratchpad and a tile of zeros. -/
def overlappingState : State := { hw := { cores := [(0, { matrixQ := [overlappingLoad] })] }, mem := [(scratchKey 0 0, 1)], pending := [] }

/-- The first byte of the tile's second row. -/
def secondRow : Nat := tileKey 0 0 1 0

/-- What the statement says that the completion of that `MLOAD` leaves: each row is converted from what the rows before it have left. -/
def rowByRow : Work :=
  raiseWc 0 overlappingLoad.wc 1 overlappingLoad.bundle 2 (modCore 0 (fun y => { y with matrixQ := y.matrixQ.eraseIdx 0 })
    (forEach (List.range overlappingLoad.left.rows) (fun k v => setTileRow 0 overlappingLoad.tile k (loadRow v 0 overlappingLoad.left k) v)
      (beginWork overlappingState)))

/-- The model converts every row from the module as the completion finds it: the tile's first row read 0. -/
theorem secondRow_of_exec :
    (match exec (.matrixOperationComplete 0 0) overlappingState with
      | .next t => memByte t.mem secondRow
      | _ => 1) = 0 := by
  decide +kernel

theorem secondRow_of_rowByRow : memByte (finish overlappingState (settle rowByRow)).mem secondRow = 1 := by
  decide +kernel

/-- Refutes O15: an `MLOAD` of a descriptor whose rows take in the tile itself carries the rows as they stood when it completed, and the
statement has each row read after the ones before it are written. -/
theorem not_matrixEngine : ¬ Obligations.MatrixEngine := by
  unfold Obligations.MatrixEngine
  rintro ⟨-, -, -, hcompletes⟩
  obtain ⟨-, hcompletes⟩ := hcompletes overlappingState 0 0
  obtain ⟨-, -, -, -, hload, -⟩ := hcompletes overlappingLoad rfl
  obtain ⟨hload, -⟩ := hload rfl rfl
  obtain ⟨w, t, hexec, rfl, ht, -⟩ := hload (by decide +kernel)
  have hmodel := secondRow_of_exec
  have hstated := secondRow_of_rowByRow
  rw [hexec, ht] at hmodel
  exact absurd (hmodel.symm.trans hstated) (by decide)

end Sys2Proof.Machine
end

section
/-! PROOFS. Moves (R86, R87, R593): a move that completes on a full wait counter is a fault, whose trace record is a store of its own. -/
namespace Sys2Proof.Machine

open Sys2Proof

/-! ## Modules in which nothing waits -/

/-- Nothing of a module waits to be brought about: a check that evaluates. -/
def quiet (h : Hw) : Bool :=
  h.fault.due.isEmpty && !noticesDue h && h.cores.all (fun e => !e.2.ending && e.2.hold != .queue && e.2.hold != .rate) && h.host.qps.isEmpty
    && h.host.halves.isEmpty && h.burin.exportBuf.isEmpty && h.links.fabric.isEmpty && h.links.ports.isEmpty && h.mirror.windows.isEmpty
    && h.coll.ops.isEmpty && h.coll.waitSince.isEmpty

theorem atRest_of_quiet (h : Hw) (hq : quiet h = true) : AtRest h := by
  simp only [quiet, Bool.and_eq_true, List.isEmpty_iff, Bool.not_eq_true', List.all_eq_true, bne_iff_ne] at hq
  obtain ⟨⟨⟨⟨⟨⟨⟨⟨⟨⟨hdue, hnotices⟩, hcores⟩, hqps⟩, hhalves⟩, hexport⟩, hfabric⟩, hports⟩, hwindows⟩, hops⟩, hwait⟩ := hq
  refine ⟨hdue, hnotices, fun e he => (hcores e he).1.1, fun e he => ⟨(hcores e he).1.2, (hcores e he).2⟩, ?_, ?_, hexport, ?_, fun p vc => ?_,
    fun p => ?_, hwindows, fun p => ?_⟩
  · simp [hqps]
  · simp [hhalves]
  · simp [hfabric]
  · simp [eligible, portOf, hports]
  · simp [ctrlWaits, portOf, hports]
  · simp [ungranted, hops, hwait]

/-- The module with no reaction of the collector due. -/
def withoutDue (w : Work) : Work := w.up fun h => { h with fault := { h.fault with due := [] } }

/-- Where all that is due is the end of a frame that is no longer there, nothing follows. -/
theorem settle_stale_endFrame (w : Work) (plan : Nat) (hdue : w.hw.fault.due = [.endFrame plan])
    (hplan : findPlan w.hw plan = none) (hq : quiet (withoutDue w).hw = true) : settle w = withoutDue w := by
  have hrest := atRest_of_quiet _ hq
  have hplan' : findPlan (withoutDue w).hw plan = none := hplan
  have hreact : settleReactions 64 w = withoutDue w := by
    rw [settleReactions]
    simp only [hdue]
    have hreact : react (.endFrame plan) (withoutDue w) = withoutDue w := by simp only [react, hplan']
    change settleReactions 63 (react (.endFrame plan) (withoutDue w)) = withoutDue w
    rw [hreact, settleReactions_rest _ _ hrest.reactions]
  have hnotices : settleNotices w = w := by
    have hnone : noticesDue w.hw = false := hrest.notices
    simp [settleNotices, hnone]
  have hnotices' : settleNotices (withoutDue w) = withoutDue w := by simp [settleNotices, hrest.notices]
  rw [← settle_rest _ hrest, settle, settle, hnotices, hreact, hnotices', settleReactions_rest _ _ hrest.reactions]

/-! ## A fill whose counter overflows -/

/-- `MFILL` of 16 bytes of the core's scratchpad, whose counter stands at 0xFFFF_FFFF. -/
def overflowingFill : MoveOp := { kind := .mfill, src := 0, dst := 2 ^ 60, len := 16, wc := 1, bundle := 0 }

/-- A module that is ready, with tier 2 up and nothing in memory, whose core 0 has that `MFILL` queued. -/
def overflowingState : State :=
  { hw := { keep := { lpUp := true, ready := true }
            cores := [(0, { r := { wc := [(1, 0xFFFFFFFF)] }, moveQ := [overflowingFill] })] }, mem := [], pending := [] }

/-- The module after the fill has left the queue and raised its counter. -/
def overflowed : Work :=
  raiseWc 0 1 1 0 3 (modCore 0 (fun y => { y with moveQ := y.moveQ.eraseIdx 0 }) (beginWork overflowingState))

/-- The byte of the first record of Burin's ring that holds the record's kind (R544). -/
def traceKindByte : Nat := 2717977149448

/-- The fault record's entry in the trace ring has kind 0x12 (R545). -/
theorem traceKind_of_exec :
    (match exec (.moveComplete 0 0) overflowingState with
      | .next t => memByte t.mem traceKindByte
      | _ => 0) = 0x12 := by
  decide +kernel

theorem due_overflowed : overflowed.hw.fault.due = [.endFrame 0] := by decide +kernel

theorem plan_overflowed : findPlan overflowed.hw 0 = none := by decide +kernel

theorem quiet_overflowed : quiet (withoutDue overflowed).hw = true := by decide +kernel

/-- Refutes O16: the fault of the overflowing counter writes a record to the trace ring, so bytes outside the destination of `MFILL` change. -/
theorem not_moveOperations : ¬ Obligations.MoveOperations := by
  unfold Obligations.MoveOperations
  rintro ⟨-, -, hcompletes⟩
  obtain ⟨-, hcompletes⟩ := hcompletes overflowingState 0 0
  obtain ⟨-, -, -, -, hfill, -⟩ := hcompletes overflowingFill rfl
  obtain ⟨w, t, hexec, ⟨hhw, hmem⟩, ht, -⟩ := hfill rfl rfl rfl
  have hhw' : w.hw = overflowed.hw := hhw
  have hmodel := traceKind_of_exec
  have hsettle : settle w = withoutDue w := by
    refine settle_stale_endFrame w 0 (hhw' ▸ due_overflowed) (hhw' ▸ plan_overflowed) ?_
    simpa only [withoutDue, up_hw, hhw'] using quiet_overflowed
  have hstated : memByte t.mem traceKindByte = 0 := by
    rw [ht, hsettle]
    exact (hmem traceKindByte).trans (by decide)
  rw [hexec] at hmodel
  exact absurd (hmodel.symm.trans hstated) (by decide)

end Sys2Proof.Machine
end

section
/-! PROOFS. Slots whose operation joins a queue, and messages: how `SEND`, `SIGNAL` and `RECV` join, and how messages leave (R86 to R97, R266, R268). -/
namespace Sys2Proof.Machine

open Sys2Proof

/-! ## Slots whose operation joins a queue (R80, R97) -/

section
variable {s : State} {i : Instr} {x : SlotInfo} (h : Alone s i x) {codes : List (Nat × Nat)} {full : Bool} {g : Work → Work}
  (ho : x.act (seen i x.sl.core.toNat s) x.sl = queueSlot codes full g)
include h ho

theorem Alone.queue_full (hfull : full = true) : SlotHeld i s x.sl.core.toNat .queue :=
  h.holds ho (by rw [queueSlot, hfull, if_pos rfl]) (by decide)

theorem Alone.queue_faults (hroom : full = false) : SlotFaults i s x.sl.core.toNat x.unit codes :=
  h.faults ho (by rw [queueSlot, hroom]; rfl)

omit h in
theorem queue_act (hroom : full = false) (hcodes : codes = []) :
    x.act (seen i x.sl.core.toNat s) x.sl = { effect := g } := by
  rw [ho, queueSlot, hroom, hcodes]
  rfl

end

@[simp] theorem regD_seen (i : Instr) (s : State) (sl : Slot) : regD (seen i sl.core.toNat s) sl = sreg (rOf s sl) sl.d.toNat := by
  simp [regD, rOf]
@[simp] theorem regA_seen (i : Instr) (s : State) (sl : Slot) : regA (seen i sl.core.toNat s) sl = sreg (rOf s sl) sl.a.toNat := by
  simp [regA, rOf]
@[simp] theorem regB_seen (i : Instr) (s : State) (sl : Slot) : regB (seen i sl.core.toNat s) sl = sreg (rOf s sl) sl.b.toNat := by
  simp [regB, rOf]

theorem operandUnless_iff {c : Bool} {p : Prop} [Decidable p] (h : c = true ↔ p) :
    operandUnless c = if p then [] else [(0x02, 0)] := by
  unfold operandUnless
  by_cases hp : p
  · rw [if_pos (h.mpr hp), if_pos hp]
  · rw [if_neg (mt h.mp hp), if_neg hp]
    rfl

theorem lengthOk_iff (n top : Nat) : lengthOk n top = true ↔ 16 ≤ n ∧ n ≤ top := by simp [lengthOk]

theorem stagingFaults_seen (i : Instr) (core c word len : Nat) (s : State) :
    stagingFaults (seen i core s).hw c word len = stagingFaults s.hw c word len := rfl

/-! ## `SEND`, `SIGNAL` and `RECV` -/

section
variable {s : State} {sl : Slot} (h : Sole s.hw sl)
include h

theorem alone_send : Alone s (.send sl) ⟨sl, 3, 4, 15, slotSend⟩ :=
  alone_of_clean (slotOf_send sl) h (by simp [fieldsClean, bit]) (by decide) rfl rfl

theorem alone_signal (hb : sl.b = 0) : Alone s (.signal sl) ⟨sl, 3, 4, 13, slotSignal⟩ :=
  alone_of_clean (slotOf_signal sl) h (by simp [fieldsClean, bit, hb]) (by decide) rfl rfl

theorem alone_recv : Alone s (.recv sl) ⟨sl, 3, 4, 15, slotRecv⟩ :=
  alone_of_clean (slotOf_recv sl) h (by simp [fieldsClean, bit]) (by decide) rfl rfl

end

section
variable (s : State) (sl : Slot)

/-- The faults of `SEND`: its `IMM`, its length and destination, its buffer. -/
def sendCodes : List (Nat × Nat) :=
  (if sl.imm.toNat < 64 then [] else [(0x02, 0)])
    ++ (if 16 ≤ sreg (rOf s sl) sl.b.toNat ∧ sreg (rOf s sl) sl.b.toNat ≤ 262144 ∧ sreg (rOf s sl) sl.d.toNat < 2 ^ 32 then []
      else [(0x02, 0)])
    ++ withAddress (sreg (rOf s sl) sl.a.toNat)
      (stagingFaults s.hw sl.core.toNat (sreg (rOf s sl) sl.a.toNat) (sreg (rOf s sl) sl.b.toNat))

/-- The faults of `SIGNAL`: its `IMM`, its count and destination. -/
def signalCodes : List (Nat × Nat) :=
  (if sl.imm.toNat < 32 then [] else [(0x02, 0)])
    ++ (if sreg (rOf s sl) sl.a.toNat % 65536 ≠ 0 ∧ sreg (rOf s sl) sl.d.toNat < 2 ^ 29 then [] else [(0x02, 0)])

/-- The faults of `RECV`: its `IMM` and its buffer. -/
def recvCodes : List (Nat × Nat) :=
  (if sl.imm.toNat < 32 then [] else [(0x02, 0)])
    ++ withAddress (sreg (rOf s sl) sl.a.toNat)
      (stagingFaults s.hw sl.core.toNat (sreg (rOf s sl) sl.a.toNat) (sreg (rOf s sl) sl.b.toNat))

/-- A message to the destination that D names, as yet without the fields of its kind. -/
def messageTo (kind : MsgKind) : MsgOp :=
  ⟨0, kind, 0, 0, sreg (rOf s sl) sl.d.toNat % 2 ^ 18, bits (sreg (rOf s sl) sl.d.toNat) 23 18, 0, 0, false, 0, sl.imm.toNat % 32,
    (rOf s sl).pc, 0, 0, false⟩

/-- The message of `SEND`. -/
def sentMessage : MsgOp :=
  { messageTo s sl .send with
    src := sreg (rOf s sl) sl.a.toNat % 2 ^ 60
    len := sreg (rOf s sl) sl.b.toNat
    tag := bits (sreg (rOf s sl) sl.d.toNat) 31 24
    ack := bit sl.imm.toNat 5 }

/-- The message of `SIGNAL`. -/
def signalMessage : MsgOp :=
  { messageTo s sl .signal with
    tag := bits (sreg (rOf s sl) sl.d.toNat) 28 24
    count := sreg (rOf s sl) sl.a.toNat % 65536 }

/-- The receive that `RECV` arms. -/
def armedReceive (seq : Nat) : Armed :=
  ⟨seq, sreg (rOf s sl) sl.d.toNat % 256, sreg (rOf s sl) sl.a.toNat % 2 ^ 60, sreg (rOf s sl) sl.b.toNat, sl.imm.toNat % 32, (rOf s sl).pc⟩

theorem msgsFull_seen (i : Instr) : msgsFull (seen i sl.core.toNat s).hw sl.core.toNat = decide (64 ≤ (coreOf s.hw sl.core.toNat).msgs.length) := by
  simp only [msgsFull, coreOf_seen]

theorem slotSend_seen : slotSend (seen (.send sl) sl.core.toNat s) sl =
    queueSlot (sendCodes s sl) (decide (64 ≤ (coreOf s.hw sl.core.toNat).msgs.length)) (pushMsg sl.core.toNat (sentMessage s sl)) := by
  have hlength : (lengthOk (sreg (rOf s sl) sl.b.toNat) 262144 && decide (sreg (rOf s sl) sl.d.toNat < 2 ^ 32)) = true
      ↔ 16 ≤ sreg (rOf s sl) sl.b.toNat ∧ sreg (rOf s sl) sl.b.toNat ≤ 262144 ∧ sreg (rOf s sl) sl.d.toNat < 2 ^ 32 := by
    simp [lengthOk_iff, and_assoc]
  simp only [slotSend, regD_seen, regA_seen, regB_seen, msgsFull_seen, stagingFaults_seen, operandUnless_iff hlength, coreOf_seen]
  rfl

theorem slotSignal_seen : slotSignal (seen (.signal sl) sl.core.toNat s) sl =
    queueSlot (signalCodes s sl) (decide (64 ≤ (coreOf s.hw sl.core.toNat).msgs.length)) (pushMsg sl.core.toNat (signalMessage s sl)) := by
  have hcount : (sreg (rOf s sl) sl.a.toNat % 65536 != 0 && decide (sreg (rOf s sl) sl.d.toNat < 2 ^ 29)) = true
      ↔ sreg (rOf s sl) sl.a.toNat % 65536 ≠ 0 ∧ sreg (rOf s sl) sl.d.toNat < 2 ^ 29 := by simp
  simp only [slotSignal, regD_seen, regA_seen, msgsFull_seen, operandUnless_iff hcount, coreOf_seen]
  rfl

theorem slotRecv_seen : slotRecv (seen (.recv sl) sl.core.toNat s) sl =
    queueSlot (recvCodes s sl) (decide (256 ≤ (coreOf s.hw sl.core.toNat).armed.length))
      (modCore sl.core.toNat (fun x => { x with armed := x.armed ++ [armedReceive s sl x.nextId], nextId := x.nextId + 1 })) := by
  simp only [slotRecv, regD_seen, regA_seen, regB_seen, stagingFaults_seen, coreOf_seen]
  rfl

end

/-- A slot that pushes a message joins the queue, faults or is held. -/
theorem answers_pushMsg {s : State} {sl : Slot} {i : Instr} {used : Nat} {act : Work → Slot → SlotOut} {codes : List (Nat × Nat)}
    {op : MsgOp} (h : Alone s i ⟨sl, 3, 4, used, act⟩)
    (ho : act (seen i sl.core.toNat s) sl =
      queueSlot codes (decide (64 ≤ (coreOf s.hw sl.core.toNat).msgs.length)) (pushMsg sl.core.toNat op)) :
    ((coreOf s.hw sl.core.toNat).msgs.length < 64 → codes = [] → GoesOn s sl → AnswersWith i s (issued sl.core.toNat
      (modCore sl.core.toNat (fun x => { x with
        msgs := x.msgs ++ [{ op with id := x.nextId, frameTag := x.frame % 256 }]
        nextId := x.nextId + 1 })) (beginWork s)))
    ∧ ((coreOf s.hw sl.core.toNat).msgs.length < 64 → SlotFaults i s sl.core.toNat 4 codes)
    ∧ (¬ (coreOf s.hw sl.core.toNat).msgs.length < 64 → SlotHeld i s sl.core.toNat .queue) := by
  refine ⟨fun hroom hcodes hgo => ?_, fun hroom => ?_, fun hfull => ?_⟩
  · exact h.acts_as (queue_act ho (decide_eq_false (Nat.not_le.mpr hroom)) hcodes) rfl (fun k => ⟨rfl, rfl, rfl⟩) hgo
  · exact h.queue_faults ho (decide_eq_false (Nat.not_le.mpr hroom))
  · exact h.queue_full ho (decide_eq_true (Nat.not_lt.mp hfull))

theorem recvCodes_imm {s : State} {sl : Slot} (h : recvCodes s sl = []) : sl.imm.toNat % 32 = sl.imm.toNat := by
  by_cases hn : sl.imm.toNat < 32
  · exact Nat.mod_eq_of_lt hn
  · simp [recvCodes, hn] at h

theorem answers_recv {s : State} {sl : Slot} (h : Sole s.hw sl) :
    ((coreOf s.hw sl.core.toNat).armed.length < 256 → recvCodes s sl = [] → GoesOn s sl → AnswersWith (.recv sl) s (issued sl.core.toNat
      (modCore sl.core.toNat (fun x => { x with armed := x.armed ++ [armedReceive s sl x.nextId], nextId := x.nextId + 1 })) (beginWork s)))
    ∧ ((coreOf s.hw sl.core.toNat).armed.length < 256 → SlotFaults (.recv sl) s sl.core.toNat 4 (recvCodes s sl))
    ∧ (256 ≤ (coreOf s.hw sl.core.toNat).armed.length → SlotHeld (.recv sl) s sl.core.toNat .queue) := by
  have hs := slotRecv_seen s sl
  refine ⟨fun hroom hcodes hgo => ?_, fun hroom => ?_, fun hfull => ?_⟩
  · exact (alone_recv h).acts_as (queue_act hs (decide_eq_false (Nat.not_le.mpr hroom)) hcodes) rfl (fun k => ⟨rfl, rfl, rfl⟩) hgo
  · exact (alone_recv h).queue_faults hs (decide_eq_false (Nat.not_le.mpr hroom))
  · exact (alone_recv h).queue_full hs (decide_eq_true hfull)

/-! ## Buffers in staging -/

theorem stagingFaults_other (hw : Hw) (c word len : Nat) (h : word / 2 ^ 60 = 0 ∨ word / 2 ^ 60 = 1 ∨ word / 2 ^ 60 = 3) :
    stagingFaults hw c word len = [0x05] := by
  unfold stagingFaults
  rcases h with h | h | h <;> simp only [spaceOf, h, stagingBounds]

theorem stagingFaults_staging (hw : Hw) (c word len : Nat) (h : word / 2 ^ 60 = 2 ∨ 4 ≤ word / 2 ^ 60) :
    stagingFaults hw c word len = addrFaults hw c word len := by
  rcases h with h | h
  · simp only [stagingFaults, spaceOf, h]
  · obtain ⟨k, hk⟩ : ∃ k, word / 2 ^ 60 = k + 4 := ⟨_, (Nat.sub_add_cancel h).symm⟩
    simp only [stagingFaults, spaceOf, hk]

/-! ## How messages leave -/

/-- The oldest message to the destination of a message that has not left. -/
def oldestTo (k : CoreSt) (op : MsgOp) : Option MsgOp :=
  k.msgs.find? (fun m => !m.left && m.endpoint == op.endpoint && m.core == op.core && (m.kind == .send || m.kind == .signal))

/-- A message is the oldest to its destination. -/
def Oldest (k : CoreSt) (op : MsgOp) : Prop := op.left = false ∧ (op.kind = .send ∨ op.kind = .signal) ∧ oldestTo k op = some op

theorem isOldest_of_some (k : CoreSt) (op m : MsgOp) (h : oldestTo k op = some m) : isOldest k op = (m.id == op.id) := by
  have hfind : k.msgs.find? (fun m => !m.left && m.endpoint == op.endpoint && m.core == op.core && (m.kind == .send || m.kind == .signal))
      = some m := h
  simp only [isOldest, hfind]

theorem isOldest_of_none (k : CoreSt) (op : MsgOp) (h : oldestTo k op = none) : isOldest k op = false := by
  have hfind : k.msgs.find? (fun m => !m.left && m.endpoint == op.endpoint && m.core == op.core && (m.kind == .send || m.kind == .signal))
      = none := h
  simp only [isOldest, hfind]

/-- The oldest message to a destination is the oldest to its own. -/
theorem oldest_of_found (k : CoreSt) (op m : MsgOp) (h : oldestTo k op = some m) : m ∈ k.msgs ∧ Oldest k m := by
  have hm := List.find?_some h
  simp only [Bool.and_eq_true, Bool.not_eq_true', beq_iff_eq, Bool.or_eq_true] at hm
  obtain ⟨⟨⟨hleft, hend⟩, hcore⟩, hkind⟩ := hm
  refine ⟨List.mem_of_find?_eq_some h, hleft, hkind, ?_⟩
  rw [oldestTo, hend, hcore]
  exact h

/-- No message of that identifier is the oldest to its destination: the model's test fails. -/
theorem isOldest_false (k : CoreSt) (op : MsgOp) (h : ∀ m ∈ k.msgs, m.id = op.id → ¬ Oldest k m) : isOldest k op = false := by
  cases hfind : oldestTo k op with
  | none => exact isOldest_of_none k op hfind
  | some m =>
    obtain ⟨hmem, holdest⟩ := oldest_of_found k op m hfind
    rw [isOldest_of_some k op m hfind]
    exact beq_eq_false_iff_ne.mpr fun hid => h m hmem hid holdest

theorem Oldest.isOldest {k : CoreSt} {op : MsgOp} (h : Oldest k op) : isOldest k op = true := by
  obtain ⟨-, -, hfind⟩ := h
  rw [isOldest_of_some k op op hfind, beq_self_eq_true]

section
variable {core i : Nat} {w : Work} {op : MsgOp}

theorem leaveMsg_none (h : (coreOf w.hw core).msgs[i]? = none) : leaveMsg core i w = w := by
  simp only [leaveMsg, h]

/-- The message unit after a message has taken its number and left the core. -/
def messageGone (core : Nat) (op : MsgOp) (w : Work) : Work :=
  tallyIssued 0 (modCore core (fun x => { x with
    msgs := x.msgs.map (fun m => if m.id == op.id then
      { m with left := true, seq := tabGet 0 w.hw.links.msgSeq core, leftAt := w.hw.time.now } else m) })
    (w.up (fun h => { h with links := { h.links with
      msgSeq := tabSet 0 h.links.msgSeq core ((tabGet 0 w.hw.links.msgSeq core + 1) % 2 ^ 32) } })))

/-- The message's data, as the module reads it when the last flit leaves. -/
def messageData (core : Nat) (op : MsgOp) (w : Work) : List Byte :=
  if op.kind = .send then w.read (stagingKey (spireOf core) op.src) op.len else []

/-- The type of a message's flits. -/
def messageType (op : MsgOp) : Nat := if op.kind = .send then 3 else 4

/-- The message's transfer on the package fabric. -/
def messageTransfer (core : Nat) (op : MsgOp) (w : Work) : FabricMsg :=
  { seq := 0, srcCore := core, destCore := coreOfWord (op.endpoint + op.core * 2 ^ 18), type := messageType op, bytes := op.len, tag := op.tag,
    frameTag := op.frameTag, ack := op.ack, accepted := false, count := op.count, msgSeq := tabGet 0 w.hw.links.msgSeq core,
    data := messageData core op w, sentAt := w.hw.time.now, resends := 0, delivered := false, bundle := op.bundle }

/-- The message is on the package fabric, or in flits on the planes. -/
def messageSent (core : Nat) (op : MsgOp) (w : Work) : Work :=
  if isOwnEndpoint w.hw op.endpoint then sendFabric (messageTransfer core op w) (messageGone core op w)
  else sendPlane (messageType op) core (op.endpoint + op.core * 2 ^ 18)
    (msgHeader op.len op.tag op.frameTag (b2n op.ack) op.count (tabGet 0 w.hw.links.msgSeq core) ++ messageData core op w)
    (some (core, op.id)) (messageGone core op w)

variable (hop : (coreOf w.hw core).msgs[i]? = some op)
include hop

theorem leaveMsg_stays
    (h : (op.left || !(op.kind == .send || op.kind == .signal) || !isOldest (coreOf w.hw core) op
      || pairHeld w.hw core (op.endpoint + op.core * 2 ^ 18)) = true) : leaveMsg core i w = w := by
  simp only [leaveMsg, hop, h, if_true]

variable (holdest : Oldest (coreOf w.hw core) op) (hheld : pairHeld w.hw core (op.endpoint + op.core * 2 ^ 18) = false)
include holdest hheld

theorem leaveMsg_goes (hread : op.kind = .send → w.good (stagingKey (spireOf core) op.src) op.len = true) :
    leaveMsg core i w = if op.ack then messageSent core op w else completeMsg core op.id false (messageSent core op w) := by
  obtain ⟨hleft, hkind, -⟩ := id holdest
  have hkind' : (op.kind == .send || op.kind == .signal) = true := by simpa using hkind
  have hread' : (op.kind == .send && !w.good (stagingKey (spireOf core) op.src) op.len) = false := by
    simpa using hread
  simp only [leaveMsg, hop, hleft, hkind', holdest.isOldest, hheld, Bool.not_true, Bool.or_false, Bool.false_eq_true, if_false, hread',
    beq_iff_eq, messageSent, messageGone]
  rfl

theorem leaveMsg_unreadable (hs : op.kind = .send) (hread : w.good (stagingKey (spireOf core) op.src) op.len = false) :
    leaveMsg core i w = moveUncorrectable core 4 op.bundle (2 ^ 61 + op.src) (stagingKey (spireOf core) op.src)
      (w.firstBad (stagingKey (spireOf core) op.src) op.len) w := by
  obtain ⟨hleft, -, -⟩ := id holdest
  have hword : 2 * 2 ^ 60 = (2 ^ 61 : Nat) := by norm_num
  simp only [leaveMsg, hop, hleft, hs, holdest.isOldest, hheld, hread, hword, beq_self_eq_true, Bool.true_or, Bool.not_true, Bool.not_false,
    Bool.or_false, Bool.and_self, Bool.false_eq_true, if_false, if_true]

end

/-- Settles O17, by the queue that each slot's operation joins, and by the cases in which a message may leave. -/
theorem messages : Obligations.Messages := by
  unfold Obligations.Messages
  refine ⟨fun s sl h => ?_, fun hw c word len => ⟨stagingFaults_other hw c word len, stagingFaults_staging hw c word len⟩,
    fun s core i => ⟨fun hnone => ?_, fun op hop => ⟨fun ⟨holdest, hheld⟩ hread hown => ?_, fun ⟨holdest, hheld⟩ hread hown => ?_,
      fun ⟨holdest, hheld⟩ hs hread => ?_, fun hstays => ?_⟩⟩⟩
  · obtain ⟨hsend, hsendFaults, hsendHeld⟩ := answers_pushMsg (alone_send h) (slotSend_seen s sl)
    obtain ⟨hrecv, hrecvFaults, hrecvHeld⟩ := answers_recv h
    refine ⟨hsend, hsendFaults, hsendHeld, fun hb => answers_pushMsg (alone_signal h hb) (slotSignal_seen s sl), fun hroom hcodes hgo => ?_,
      hrecvFaults, hrecvHeld⟩
    have hans := hrecv hroom hcodes hgo
    simp only [armedReceive, recvCodes_imm hcodes] at hans
    exact hans
  · exact answersWith_run _ s _ _ (exec_lastFlitLeaves ..) (leaveMsg_none hnone)
  · have hown' : isOwnEndpoint (beginWork s).hw op.endpoint = true := hown
    have holdest' : Oldest (coreOf (beginWork s).hw core.toNat) op := holdest
    refine answersWith_run _ s _ _ (exec_lastFlitLeaves ..) ((leaveMsg_goes hop holdest' hheld hread).trans ?_)
    simp only [messageSent, hown', if_true]
    rfl
  · have hown' : isOwnEndpoint (beginWork s).hw op.endpoint = false := hown
    have holdest' : Oldest (coreOf (beginWork s).hw core.toNat) op := holdest
    refine answersWith_run _ s _ _ (exec_lastFlitLeaves ..) ((leaveMsg_goes hop holdest' hheld hread).trans ?_)
    simp only [messageSent, hown', Bool.false_eq_true, if_false]
    rfl
  · exact answersWith_run _ s _ _ (exec_lastFlitLeaves ..) (leaveMsg_unreadable hop holdest hheld hs hread)
  · refine answersWith_run _ s _ _ (exec_lastFlitLeaves ..) (leaveMsg_stays hop ?_)
    obtain hleft | hheld | hnone := hstays
    · rw [hleft, Bool.true_or, Bool.true_or, Bool.true_or]
    · have hheld' : pairHeld (beginWork s).hw core.toNat (op.endpoint + op.core * 2 ^ 18) = true := hheld
      rw [hheld', Bool.or_true]
    · have hold' : isOldest (coreOf (beginWork s).hw core.toNat) op = false := isOldest_false _ op hnone
      rw [hold', Bool.not_false, Bool.or_true, Bool.true_or]

end Sys2Proof.Machine
end

section
/-! PROOFS. What `HWRITE`, `HSEND`, `COLL`, `GISSUE` and `PHINT` queue, and the effects that leave a core's issue as it is (R99, R193, R217, R288, R328, R329). -/
namespace Sys2Proof.Machine

open Sys2Proof

/-! ## Effects that leave a core's issue as it is -/

/-- A core's program counter, loop stack and program are the same. -/
structure KeepsIssue (core : Nat) (v w : Work) : Prop where
  pc : (coreOf v.hw core).r.pc = (coreOf w.hw core).r.pc
  loops : (coreOf v.hw core).r.loops = (coreOf w.hw core).r.loops
  bundles : (coreOf v.hw core).bundles = (coreOf w.hw core).bundles

theorem KeepsIssue.trans {core : Nat} {u v w : Work} (h : KeepsIssue core u v) (h' : KeepsIssue core v w) : KeepsIssue core u w :=
  ⟨h.pc.trans h'.pc, h.loops.trans h'.loops, h.bundles.trans h'.bundles⟩

theorem keepsIssue_of_cores {v w : Work} (h : v.hw.cores = w.hw.cores) (core : Nat) : KeepsIssue core v w := by
  have hc := coreOf_congr h core
  exact ⟨by rw [hc], by rw [hc], by rw [hc]⟩

theorem keepsIssue_modCore (core c : Nat) (f : CoreSt → CoreSt) (w : Work)
    (hf : ∀ k, (f k).r.pc = k.r.pc ∧ (f k).r.loops = k.r.loops ∧ (f k).bundles = k.bundles) : KeepsIssue core (modCore c f w) w := by
  by_cases hc : core = c
  · subst hc
    obtain ⟨hpc, hloops, hbundles⟩ := hf (coreOf w.hw core)
    exact ⟨by rw [coreOf_modCore_self, hpc], by rw [coreOf_modCore_self, hloops], by rw [coreOf_modCore_self, hbundles]⟩
  · have hsame : coreOf (modCore c f w).hw core = coreOf w.hw core := by rw [coreOf_modCore, if_neg hc]
    exact ⟨by rw [hsame], by rw [hsame], by rw [hsame]⟩

theorem SameIssue.keepsIssue {core : Nat} {v w : Work} (h : SameIssue (coreOf v.hw core) (coreOf w.hw core)) : KeepsIssue core v w :=
  ⟨by rw [h.regs], by rw [h.regs], h.bundles⟩

theorem coreFault_keepsIssue (core code unit bundle address : Nat) (isAsync : Bool) (w : Work) :
    KeepsIssue core (coreFault core code unit bundle address isAsync w) w := (coreFault_sameIssue ..).keepsIssue

theorem coreFaultAt_keepsIssue (core code unit bundle address : Nat) (isAsync : Bool) (w : Work) :
    KeepsIssue core (coreFaultAt core code unit bundle address isAsync w) w := (coreFaultAt_sameIssue ..).keepsIssue

theorem moveUncorrectable_keepsIssue (core unit bundle word key bad : Nat) (w : Work) :
    KeepsIssue core (moveUncorrectable core unit bundle word key bad w) w :=
  (coreFaultAt_keepsIssue ..).trans (keepsIssue_of_cores (uncorrectableAt_cores bad w) core)

theorem raiseWc_keepsIssue (core counter n bundle unit : Nat) (w : Work) : KeepsIssue core (raiseWc core counter n bundle unit w) w := by
  unfold raiseWc
  dsimp only
  split
  · exact keepsIssue_modCore _ _ _ _ fun k => ⟨rfl, rfl, rfl⟩
  · exact (coreFault_keepsIssue ..).trans (keepsIssue_modCore _ _ _ _ fun k => ⟨rfl, rfl, rfl⟩)

theorem completeMsg_keepsIssue (core id : Nat) (refused : Bool) (w : Work) : KeepsIssue core (completeMsg core id refused w) w := by
  unfold completeMsg
  split
  · exact keepsIssue_of_cores rfl core
  · exact (raiseWc_keepsIssue ..).trans (keepsIssue_modCore _ _ _ _ fun k => ⟨rfl, rfl, rfl⟩)

theorem dropHost_keepsIssue (i core op : Nat) (w : Work) : KeepsIssue core (dropHost i core op w) w := by
  refine (completeMsg_keepsIssue ..).trans (keepsIssue_of_cores (w := w) ?_ core)
  rfl

theorem forEach_cores {α : Type} (l : List α) (f : α → Work → Work) (h : ∀ a w, (f a w).hw.cores = w.hw.cores) (w : Work) :
    (forEach l f w).hw.cores = w.hw.cores := foldl_cores _ (fun w a => h a w) l w

theorem sendWork_cores (q : Qp) (r : WorkReq) (w : Work) : (sendWork q r w).hw.cores = w.hw.cores := by
  unfold sendWork
  split <;> rfl

theorem sendReply_cores (q : Qp) (op psn address : Nat) (data : List Byte) (w : Work) :
    (sendReply q op psn address data w).hw.cores = w.hw.cores := rfl

theorem pushQp_cores (i : Nat) (w : Work) : (pushQp i w).hw.cores = w.hw.cores := by
  unfold pushQp
  split
  · rfl
  · dsimp only
    split
    · rfl
    · rw [forEach_cores _ _ (fun a v => sendWork_cores _ a v), forEach_cores _ _ (fun a v => sendReply_cores _ _ _ _ _ v)]
      rfl

theorem postWork_cores (i : Nat) (sender : Sender) (kind address rkey imm : Nat) (data : List Byte) (plan frame : Nat) (w : Work) :
    (postWork i sender kind address rkey imm data plan frame w).hw.cores = w.hw.cores := by
  unfold postWork
  split
  · rfl
  · dsimp only
    split
    · rfl
    · rw [pushQp_cores]; rfl

theorem graverDone_keepsIssue (k : Nat) (d : GDesc) (status items charged detail : Nat) (w : Work) :
    KeepsIssue d.core (graverDone k d status items charged detail w) w := by
  unfold graverDone
  extract_lets reach w1 w2 w3
  have hw1 : w1.hw.cores = w.hw.cores := by
    simp only [w1]
    split
    · exact write_cores _ _ _
    · rfl
  have hw3 : w3.hw.cores = w.hw.cores := (tracePlan_cores ..).trans hw1
  clear_value w3
  split
  · refine KeepsIssue.trans (v := w3) ?_ (keepsIssue_of_cores hw3 _)
    refine KeepsIssue.trans (raiseWc_keepsIssue ..) ?_
    refine keepsIssue_modCore _ _ _ _ fun c => ?_
    exact ⟨rfl, rfl, rfl⟩
  · exact keepsIssue_of_cores hw3 _

theorem pushMsg_keepsIssue (core : Nat) (op : MsgOp) (w : Work) : KeepsIssue core (pushMsg core op w) w :=
  keepsIssue_modCore _ _ _ _ fun _ => ⟨rfl, rfl, rfl⟩

/-- A slot that stands alone, and whose effect leaves its core's issue as it is. -/
theorem Alone.acts_issue {s : State} {i : Instr} {x : SlotInfo} (h : Alone s i x) {g f : Work → Work}
    (ho : x.act (seen i x.sl.core.toNat s) x.sl = { effect := g })
    (hg : g (cleared x.sl.core.toNat (beginWork s)) = f (cleared x.sl.core.toNat (beginWork s)))
    (hf : KeepsIssue x.sl.core.toNat (f (cleared x.sl.core.toNat (beginWork s))) (cleared x.sl.core.toNat (beginWork s)))
    (hgo : GoesOn s x.sl) : AnswersWith i s (issued x.sl.core.toNat f (beginWork s)) := by
  have hpc := hf.pc
  have hloops := hf.loops
  have hbundles := hf.bundles
  rw [coreOf_cleared, coreOf_beginWork] at hpc hloops hbundles
  rw [← issued_congr _ _ _ _ hg]
  rw [← hg] at hpc hloops hbundles
  exact h.acts_keeping ho rfl hpc hloops hbundles hgo

/-! ## `HWRITE` and `HSEND` -/

section
variable (core id : Nat) (isWrite : Bool) (word bundle : Nat) (w : Work)

/-- The key of the transfer descriptor. -/
def transferKey : Nat := stagingKey (spireOf core) (word % 2 ^ 60)

/-- The transfer descriptor. -/
def transferDesc : List Byte := w.read (transferKey core word) 32

/-- The source of the transfer. -/
def transferSrc : Nat := field (transferDesc core word w) 8 8

/-- The length of the transfer. -/
def transferLen : Nat := field (transferDesc core word w) 4 4

/-- The descriptor obeys R328 by itself. -/
def transferPlain : Prop :=
  transferOk isWrite (transferDesc core word w) = true ∧ addrFaults w.hw core (transferSrc core word w) (transferLen core word w) = []

/-- The outbox window that a descriptor names. -/
def transferOutbox (p : Plan) : Outbox := outboxOf w.hw p.channel (field (transferDesc core word w) 3 1)

/-- The queue pair that a descriptor names. -/
def transferQp (p : Plan) : Nat :=
  if isWrite then (transferOutbox core word w p).qp else field (transferDesc core word w) 0 2

/-- The window and the queue pair take the transfer. -/
def transferServed (p : Plan) (q : Qp) : Prop :=
  (isWrite = true → (transferOutbox core word w p).enable = true
    ∧ field (transferDesc core word w) 0x10 8 + transferLen core word w ≤ (transferOutbox core word w p).length)
  ∧ q.channel = p.channel ∧ (q.state = 1 ∨ q.state = 2)

/-- The check of R328 as the message unit makes it. -/
def transferAccepted (p : Plan) (q : Qp) : Bool :=
  transferOk isWrite (transferDesc core word w)
    && (addrFaults w.hw core (transferSrc core word w) (transferLen core word w)).isEmpty
    && (!isWrite || ((transferOutbox core word w p).enable
      && field (transferDesc core word w) 0x10 8 + transferLen core word w ≤ (transferOutbox core word w p).length))
    && q.channel == p.channel && (q.state == 1 || q.state == 2)

theorem transferAccepted_iff (p : Plan) (q : Qp) : transferAccepted core isWrite word w p q = true ↔
    transferPlain core isWrite word w ∧ transferServed core isWrite word w p q := by
  cases isWrite <;> simp [transferAccepted, transferPlain, transferServed, and_assoc]

/-- The request that the transfer posts. -/
def postTransfer (p : Plan) : Work :=
  if isWrite then
    postWork (transferQp core isWrite word w p) (.core core id) 0
      ((transferOutbox core word w p).address + field (transferDesc core word w) 0x10 8) (transferOutbox core word w p).rkey 0
      (w.read (addrKey core (transferSrc core word w)) (transferLen core word w)) p.id (coreOf w.hw core).frame w
  else
    postWork (transferQp core isWrite word w p) (.core core id) (if bit (field (transferDesc core word w) 2 1) 0 then 2 else 1) 0 0
      (field (transferDesc core word w) 0x18 4) (w.read (addrKey core (transferSrc core word w)) (transferLen core word w)) p.id
      (coreOf w.hw core).frame w

theorem hostTransfer_unreadable (hg : w.good (transferKey core word) 32 = false) : hostTransfer core id isWrite word bundle w =
    moveUncorrectable core 4 bundle word (transferKey core word) (w.firstBad (transferKey core word) 32) w := by
  unfold transferKey at *
  simp only [hostTransfer, hg, Bool.not_false, if_true]

variable (hg : w.good (transferKey core word) 32 = true)
include hg

theorem hostTransfer_planless (hp : planOfCore w.hw core = none) :
    hostTransfer core id isWrite word bundle w = coreFault core 0x0A 4 bundle word true w := by
  unfold transferKey at hg
  simp only [hostTransfer, hg, Bool.not_true, Bool.false_eq_true, if_false, hp]
  rfl

variable (p : Plan) (hp : planOfCore w.hw core = some p)
include hp

theorem hostTransfer_without_qp (hq : findQp w.hw (transferQp core isWrite word w p) = none) :
    hostTransfer core id isWrite word bundle w = coreFault core 0x0A 4 bundle word true w := by
  simp only [transferQp, transferOutbox, transferDesc, transferKey] at hg hq
  simp only [hostTransfer, hg, Bool.not_true, Bool.false_eq_true, if_false, hp, hq]
  rfl

variable (q : Qp) (hq : findQp w.hw (transferQp core isWrite word w p) = some q)
include hq

/-- What the message unit does with a transfer on a queue pair that exists. -/
theorem hostTransfer_with_qp : hostTransfer core id isWrite word bundle w =
    if !transferAccepted core isWrite word w p q then coreFault core 0x0A 4 bundle word true w
    else if q.state = 2 then dropHost (transferQp core isWrite word w p) core id w
    else if hitsFence w.hw core (transferSrc core word w) then coreFaultAt core 0x0B 4 bundle (transferSrc core word w) true w
    else if !w.good (addrKey core (transferSrc core word w)) (transferLen core word w) then
      moveUncorrectable core 4 bundle (transferSrc core word w) (addrKey core (transferSrc core word w))
        (w.firstBad (addrKey core (transferSrc core word w)) (transferLen core word w)) w
    else postTransfer core id isWrite word w p := by
  simp only [transferQp, transferOutbox, transferDesc, transferKey] at hg hq
  simp only [hostTransfer, hg, Bool.not_true, Bool.false_eq_true, if_false, hp, hq]
  rfl

theorem hostTransfer_refused (h : ¬ (transferPlain core isWrite word w ∧ transferServed core isWrite word w p q)) :
    hostTransfer core id isWrite word bundle w = coreFault core 0x0A 4 bundle word true w := by
  have hrefused : transferAccepted core isWrite word w p q = false :=
    Bool.eq_false_iff.mpr (mt (transferAccepted_iff core isWrite word w p q).mp h)
  rw [hostTransfer_with_qp core id isWrite word bundle w hg p hp q hq, hrefused]
  rfl

variable (hplain : transferPlain core isWrite word w) (hserved : transferServed core isWrite word w p q)
include hplain hserved

theorem hostTransfer_dropped (hs : q.state = 2) :
    hostTransfer core id isWrite word bundle w = dropHost (transferQp core isWrite word w p) core id w := by
  have hok := (transferAccepted_iff core isWrite word w p q).mpr ⟨hplain, hserved⟩
  rw [hostTransfer_with_qp core id isWrite word bundle w hg p hp q hq, hok, if_neg (by decide), if_pos hs]

variable (hs : q.state = 1)
include hs

theorem hostTransfer_fenced (hf : hitsFence w.hw core (transferSrc core word w) = true) : hostTransfer core id isWrite word bundle w =
    coreFaultAt core 0x0B 4 bundle (transferSrc core word w) true w := by
  have hok := (transferAccepted_iff core isWrite word w p q).mpr ⟨hplain, hserved⟩
  rw [hostTransfer_with_qp core id isWrite word bundle w hg p hp q hq, hok, if_neg (by decide), if_neg (by omega), if_pos hf]

variable (hf : hitsFence w.hw core (transferSrc core word w) = false)
include hf

theorem hostTransfer_source_bad (hbad : w.good (addrKey core (transferSrc core word w)) (transferLen core word w) = false) :
    hostTransfer core id isWrite word bundle w = moveUncorrectable core 4 bundle (transferSrc core word w)
      (addrKey core (transferSrc core word w)) (w.firstBad (addrKey core (transferSrc core word w)) (transferLen core word w)) w := by
  have hok := (transferAccepted_iff core isWrite word w p q).mpr ⟨hplain, hserved⟩
  rw [hostTransfer_with_qp core id isWrite word bundle w hg p hp q hq, hok, if_neg (by decide), if_neg (by omega),
    if_neg (by simp [hf]), if_pos (by simp [hbad])]

theorem hostTransfer_posts (hgood : w.good (addrKey core (transferSrc core word w)) (transferLen core word w) = true) :
    hostTransfer core id isWrite word bundle w = postTransfer core id isWrite word w p := by
  have hok := (transferAccepted_iff core isWrite word w p q).mpr ⟨hplain, hserved⟩
  rw [hostTransfer_with_qp core id isWrite word bundle w hg p hp q hq, hok, if_neg (by decide), if_neg (by omega),
    if_neg (by simp [hf]), if_neg (by simp [hgood])]

end

section
variable (s : State) (sl : Slot) (isWrite : Bool)

/-- The command of the slot. -/
def hostInstr : Instr := if isWrite then .hwrite sl else .hsend sl

/-- The faults of `HWRITE` and `HSEND`. -/
def hostCodes : List (Nat × Nat) :=
  (if sl.imm.toNat < 32 then [] else [(0x02, 0)])
    ++ withAddress (sreg (rOf s sl) sl.a.toNat) (stagingFaults s.hw sl.core.toNat (sreg (rOf s sl) sl.a.toNat) 32)

/-- The operation that stays outstanding until its request is acknowledged. -/
def hostOp : MsgOp :=
  ⟨0, if isWrite then .hwrite else .hsend, sreg (rOf s sl) sl.a.toNat % 2 ^ 60, 0, 0, 0, 0, 0, false, 0, sl.imm.toNat, (rOf s sl).pc, 0, 0, true⟩

/-- The module as the message unit executes the descriptor: the operation is outstanding. -/
def hostWork : Work := pushMsg sl.core.toNat (hostOp s sl isWrite) (cleared sl.core.toNat (beginWork s))

theorem hostCodes_imm (h : hostCodes s sl = []) : sl.imm.toNat % 32 = sl.imm.toNat := by
  by_cases hn : sl.imm.toNat < 32
  · exact Nat.mod_eq_of_lt hn
  · simp [hostCodes, hn] at h

variable {s sl} (h : Sole s.hw sl) (hd : sl.d = 0) (hb : sl.b = 0)
include h hd hb

theorem alone_host : Alone s (hostInstr sl isWrite) ⟨sl, 3, 4, 5, slotHost isWrite⟩ := by
  cases isWrite with
  | true => exact alone_of_clean (slotOf_hwrite sl) h (by simp [fieldsClean, bit, hd, hb]) (by decide) rfl rfl
  | false => exact alone_of_clean (slotOf_hsend sl) h (by simp [fieldsClean, bit, hd, hb]) (by decide) rfl rfl

omit h hd hb in
theorem slotHost_seen (i : Instr) : slotHost isWrite (seen i sl.core.toNat s) sl =
    queueSlot (hostCodes s sl) (decide (64 ≤ (coreOf s.hw sl.core.toNat).msgs.length))
      (fun v => hostTransfer sl.core.toNat (coreOf v.hw sl.core.toNat).nextId isWrite (sreg (rOf s sl) sl.a.toNat) (rOf s sl).pc
        (pushMsg sl.core.toNat { hostOp s sl isWrite with wc := sl.imm.toNat % 32 } v)) := by
  simp only [slotHost, regA_seen, msgsFull_seen, stagingFaults_seen, coreOf_seen]
  rfl

theorem held_host (hfull : ¬ (coreOf s.hw sl.core.toNat).msgs.length < 64) : SlotHeld (hostInstr sl isWrite) s sl.core.toNat .queue :=
  (alone_host isWrite h hd hb).queue_full (slotHost_seen isWrite _) (decide_eq_true (Nat.not_lt.mp hfull))

variable (hroom : (coreOf s.hw sl.core.toNat).msgs.length < 64)
include hroom

theorem faults_host : SlotFaults (hostInstr sl isWrite) s sl.core.toNat 4 (hostCodes s sl) :=
  (alone_host isWrite h hd hb).queue_faults (slotHost_seen isWrite _) (decide_eq_false (Nat.not_le.mpr hroom))

/-- A transfer that the message unit executes: the slot does what it does. -/
theorem answers_host (hcodes : hostCodes s sl = []) (hgo : GoesOn s sl) (g : Work → Work)
    (hg : hostTransfer sl.core.toNat (coreOf s.hw sl.core.toNat).nextId isWrite (sreg (rOf s sl) sl.a.toNat) (rOf s sl).pc
      (hostWork s sl isWrite) = g (hostWork s sl isWrite))
    (hkeeps : KeepsIssue sl.core.toNat (g (hostWork s sl isWrite)) (hostWork s sl isWrite)) :
    AnswersWith (hostInstr sl isWrite) s
      (issued sl.core.toNat (fun x => g (pushMsg sl.core.toNat (hostOp s sl isWrite) x)) (beginWork s)) := by
  refine (alone_host isWrite h hd hb).acts_issue
    (queue_act (slotHost_seen isWrite _) (decide_eq_false (Nat.not_le.mpr hroom)) hcodes) ?_ (hkeeps.trans (pushMsg_keepsIssue ..)) hgo
  have hid : (coreOf (cleared sl.core.toNat (beginWork s)).hw sl.core.toNat).nextId = (coreOf s.hw sl.core.toNat).nextId := by
    rw [coreOf_cleared, coreOf_beginWork]
  rw [hostCodes_imm s sl hcodes, hid]
  exact hg

/-! What the message unit finds as it executes the descriptor is what the module held at the issue. -/

omit h hd hb hroom

theorem frame_hostWork : (coreOf (hostWork s sl isWrite).hw sl.core.toNat).frame = (coreOf s.hw sl.core.toNat).frame := by
  simp only [hostWork, pushMsg, coreOf_modCore_self, coreOf_cleared, coreOf_beginWork]

end

/-! ## `COLL`, `GISSUE` and `PHINT` -/

section
variable (s : State) (sl : Slot)

/-- The faults of a staging operand that a slot's register A or B names. -/
def operandCodes (word len : Nat) : List (Nat × Nat) := withAddress word (stagingFaults s.hw sl.core.toNat word len)

/-- A counter number beyond those that exist. -/
def counterCodes : List (Nat × Nat) := if sl.imm.toNat < 32 then [] else [(0x02, 0)]

/-- The faults of the engine that `GISSUE` names. -/
def engineCodes : List (Nat × Nat) :=
  if 12 ≤ sl.imm.toNat % 16 then [(0x02, 0)]
  else if partOfSpire s.hw (sl.imm.toNat % 16 / 3) ≠ partOfCore s.hw sl.core.toNat then [(0x07, 0)] else []

/-- The key of the descriptor that register A names. -/
def descriptorKey : Nat := stagingKey (spireOf sl.core.toNat) (sreg (rOf s sl) sl.a.toNat % 2 ^ 60)

theorem counterCodes_imm (l : List (Nat × Nat)) (h : counterCodes sl ++ l = []) : sl.imm.toNat % 32 = sl.imm.toNat := by
  by_cases hn : sl.imm.toNat < 32
  · exact Nat.mod_eq_of_lt hn
  · simp [counterCodes, hn] at h

theorem slotColl_seen : slotColl (seen (.coll sl) sl.core.toNat s) sl =
    queueSlot (counterCodes sl ++ operandCodes s sl (sreg (rOf s sl) sl.a.toNat) 64) (decide (8 ≤ collOutstanding s.hw sl.core.toNat))
      (fun w => if !w.good (descriptorKey s sl) 64 then
          moveUncorrectable sl.core.toNat 4 (rOf s sl).pc (sreg (rOf s sl) sl.a.toNat) (descriptorKey s sl)
            (w.firstBad (descriptorKey s sl) 64) w
        else w.up fun h => { h with coll := { h.coll with
          issued := h.coll.issued ++ [(⟨sl.core.toNat, w.read (descriptorKey s sl) 64, sl.imm.toNat % 32, (rOf s sl).pc, h.time.now,
            (coreOf h sl.core.toNat).frame⟩ : CollIssue)] } }) := by
  simp only [slotColl, regA_seen, stagingFaults_seen, coreOf_seen]
  rfl

theorem slotPhint_seen : slotPhint (seen (.phint sl) sl.core.toNat s) sl =
    queueSlot (counterCodes sl ++ operandCodes s sl (sreg (rOf s sl) sl.a.toNat) (16 * sreg (rOf s sl) sl.b.toNat))
      (decide (4 ≤ ((coreOf s.hw sl.core.toNat).outs.filter (fun o => !o.graver)).length))
      (modCore sl.core.toNat (fun y => { y with
        outs := y.outs ++ [⟨y.nextId, false, sl.imm.toNat % 32, (rOf s sl).pc, sreg (rOf s sl) sl.a.toNat % 2 ^ 60, sreg (rOf s sl) sl.b.toNat⟩]
        nextId := y.nextId + 1 })) := by
  simp only [slotPhint, regA_seen, regB_seen, stagingFaults_seen, coreOf_seen]
  rfl

/-- The descriptor that `GISSUE` hands to its engine. -/
def graverDesc (bytes : List Byte) (id : Nat) : GDesc :=
  ⟨(coreOf s.hw sl.core.toNat).ctx, sl.core.toNat, (coreOf s.hw sl.core.toNat).plan, (coreOf s.hw sl.core.toNat).frame, bytes,
    sreg (rOf s sl) sl.b.toNat % 2 ^ 60, sl.imm.toNat / 16, (rOf s sl).pc, id⟩

/-- The outstanding operation of `GISSUE`. -/
def graverOut (id : Nat) (w : Work) : Work :=
  modCore sl.core.toNat (fun y => { y with
    outs := y.outs ++ [⟨id, true, sl.imm.toNat / 16, (rOf s sl).pc, 0, 0⟩]
    nextId := y.nextId + 1 }) w

theorem slotGissue_seen : slotGissue (seen (.gissue sl) sl.core.toNat s) sl =
    queueSlot (engineCodes s sl ++ operandCodes s sl (sreg (rOf s sl) sl.a.toNat) 64 ++ operandCodes s sl (sreg (rOf s sl) sl.b.toNat) 32)
      (decide (64 ≤ ((coreOf s.hw sl.core.toNat).outs.filter (fun o => o.graver)).length))
      (fun w => if !w.good (descriptorKey s sl) 64 then
          moveUncorrectable sl.core.toNat 5 (rOf s sl).pc (sreg (rOf s sl) sl.a.toNat) (descriptorKey s sl)
            (w.firstBad (descriptorKey s sl) 64) w
        else graverSubmit (sl.imm.toNat % 16)
          (graverDesc s sl (w.read (descriptorKey s sl) 64) (coreOf w.hw sl.core.toNat).nextId)
          (graverOut s sl (coreOf w.hw sl.core.toNat).nextId w)) := by
  have hengine : partOfSpire (seen (.gissue sl) sl.core.toNat s).hw = partOfSpire s.hw := rfl
  simp only [slotGissue, regA_seen, regB_seen, stagingFaults_seen, coreOf_seen, bne_iff_ne]
  rfl

end

section
variable {s : State} {sl : Slot} (h : Sole s.hw sl) (hd : sl.d = 0)
include h hd

theorem alone_coll (hb : sl.b = 0) : Alone s (.coll sl) ⟨sl, 3, 4, 5, slotColl⟩ :=
  alone_of_clean (slotOf_coll sl) h (by simp [fieldsClean, bit, hd, hb]) (by decide) rfl rfl

theorem alone_gissue : Alone s (.gissue sl) ⟨sl, 3, 5, 7, slotGissue⟩ :=
  alone_of_clean (slotOf_gissue sl) h (by simp [fieldsClean, bit, hd]) (by decide) rfl rfl

theorem alone_phint : Alone s (.phint sl) ⟨sl, 3, 3, 7, slotPhint⟩ :=
  alone_of_clean (slotOf_phint sl) h (by simp [fieldsClean, bit, hd]) (by decide) rfl rfl

section
variable (hroom : collOutstanding s.hw sl.core.toNat < 8)
  (hcodes : counterCodes sl ++ operandCodes s sl (sreg (rOf s sl) sl.a.toNat) 64 = []) (hgo : GoesOn s sl)
include hroom hcodes hgo

theorem answers_coll (hb : sl.b = 0) (hg : (beginWork s).good (descriptorKey s sl) 64 = true) :
    AnswersWith (.coll sl) s (issued sl.core.toNat (fun x => x.up fun h => { h with coll := { h.coll with
      issued := h.coll.issued ++ [⟨sl.core.toNat, memGet s.mem (descriptorKey s sl) 64, sl.imm.toNat, (rOf s sl).pc, s.hw.time.now,
        (coreOf s.hw sl.core.toNat).frame⟩] } }) (beginWork s)) := by
  refine (alone_coll h hd hb).acts_issue (queue_act (slotColl_seen s sl) (decide_eq_false (Nat.not_le.mpr hroom)) hcodes) ?_ ?_ hgo
  have hg' : (cleared sl.core.toNat (beginWork s)).good (descriptorKey s sl) 64 = true := hg
  have hframe : (coreOf (cleared sl.core.toNat (beginWork s)).hw sl.core.toNat).frame = (coreOf s.hw sl.core.toNat).frame := by
    rw [coreOf_cleared, coreOf_beginWork]
  · simp only [hg', Bool.not_true, Bool.false_eq_true, if_false, counterCodes_imm sl _ hcodes, Work.up, hframe]
    rfl
  · refine keepsIssue_of_cores ?_ _
    rfl

theorem faults_coll_unreadable (hb : sl.b = 0) (hg : ¬ (beginWork s).good (descriptorKey s sl) 64 = true) :
    AnswersWith (.coll sl) s (issued sl.core.toNat (moveUncorrectable sl.core.toNat 4 (rOf s sl).pc (sreg (rOf s sl) sl.a.toNat)
      (descriptorKey s sl) ((beginWork s).firstBad (descriptorKey s sl) 64)) (beginWork s)) := by
  refine (alone_coll h hd hb).acts_issue (queue_act (slotColl_seen s sl) (decide_eq_false (Nat.not_le.mpr hroom)) hcodes) ?_
    (moveUncorrectable_keepsIssue ..) hgo
  have hg' : (cleared sl.core.toNat (beginWork s)).good (descriptorKey s sl) 64 = false := Bool.eq_false_iff.mpr hg
  simp only [hg', Bool.not_false, if_true]
  rfl

end

section
variable (hroom : ¬ 64 ≤ ((coreOf s.hw sl.core.toNat).outs.filter (fun o => o.graver)).length)
  (hcodes : engineCodes s sl ++ operandCodes s sl (sreg (rOf s sl) sl.a.toNat) 64
    ++ operandCodes s sl (sreg (rOf s sl) sl.b.toNat) 32 = []) (hgo : GoesOn s sl)
include hroom hcodes hgo

/-- `GISSUE` on a descriptor that can be read: the engine takes it, or ends it while it takes none. -/
theorem answers_gissue (hg : (beginWork s).good (descriptorKey s sl) 64 = true) (g : Work → Work)
    (hsubmit : graverSubmit (sl.imm.toNat % 16)
        (graverDesc s sl (memGet s.mem (descriptorKey s sl) 64) (coreOf s.hw sl.core.toNat).nextId)
        (graverOut s sl (coreOf s.hw sl.core.toNat).nextId (cleared sl.core.toNat (beginWork s)))
      = g (graverOut s sl (coreOf s.hw sl.core.toNat).nextId (cleared sl.core.toNat (beginWork s))))
    (hkeeps : KeepsIssue sl.core.toNat
      (g (graverOut s sl (coreOf s.hw sl.core.toNat).nextId (cleared sl.core.toNat (beginWork s))))
      (graverOut s sl (coreOf s.hw sl.core.toNat).nextId (cleared sl.core.toNat (beginWork s)))) :
    AnswersWith (.gissue sl) s
      (issued sl.core.toNat (fun x => g (graverOut s sl (coreOf s.hw sl.core.toNat).nextId x)) (beginWork s)) := by
  refine (alone_gissue h hd).acts_issue (queue_act (slotGissue_seen s sl) (decide_eq_false hroom) hcodes) ?_
    (hkeeps.trans (keepsIssue_modCore _ _ _ _ fun _ => ⟨rfl, rfl, rfl⟩)) hgo
  have hg' : (cleared sl.core.toNat (beginWork s)).good (descriptorKey s sl) 64 = true := hg
  have hid : (coreOf (cleared sl.core.toNat (beginWork s)).hw sl.core.toNat).nextId = (coreOf s.hw sl.core.toNat).nextId := by
    rw [coreOf_cleared, coreOf_beginWork]
  simp only [hg', Bool.not_true, Bool.false_eq_true, if_false, hid]
  exact hsubmit

theorem faults_gissue_unreadable (hg : ¬ (beginWork s).good (descriptorKey s sl) 64 = true) :
    AnswersWith (.gissue sl) s (issued sl.core.toNat (moveUncorrectable sl.core.toNat 5 (rOf s sl).pc (sreg (rOf s sl) sl.a.toNat)
      (descriptorKey s sl) ((beginWork s).firstBad (descriptorKey s sl) 64)) (beginWork s)) := by
  refine (alone_gissue h hd).acts_issue (queue_act (slotGissue_seen s sl) (decide_eq_false hroom) hcodes) ?_
    (moveUncorrectable_keepsIssue ..) hgo
  have hg' : (cleared sl.core.toNat (beginWork s)).good (descriptorKey s sl) 64 = false := Bool.eq_false_iff.mpr hg
  simp only [hg', Bool.not_false, if_true]
  rfl

end

theorem answers_phint (hroom : ¬ 4 ≤ ((coreOf s.hw sl.core.toNat).outs.filter (fun o => !o.graver)).length)
    (hcodes : counterCodes sl ++ operandCodes s sl (sreg (rOf s sl) sl.a.toNat) (16 * sreg (rOf s sl) sl.b.toNat) = [])
    (hgo : GoesOn s sl) : AnswersWith (.phint sl) s (issued sl.core.toNat (modCore sl.core.toNat (fun y => { y with
      outs := y.outs ++ [⟨y.nextId, false, sl.imm.toNat, (rOf s sl).pc, sreg (rOf s sl) sl.a.toNat % 2 ^ 60, sreg (rOf s sl) sl.b.toNat⟩]
      nextId := y.nextId + 1 })) (beginWork s)) := by
  have hact := queue_act (x := ⟨sl, 3, 3, 7, slotPhint⟩) (slotPhint_seen s sl) (decide_eq_false hroom) hcodes
  rw [counterCodes_imm sl _ hcodes] at hact
  exact (alone_phint h hd).acts_as hact rfl (fun _ => ⟨rfl, rfl, rfl⟩) hgo

end

section
variable (s : State) (sl : Slot) (isWrite : Bool)

/-- The address word of the descriptor. -/
def hostWord : Nat := sreg (rOf s sl) sl.a.toNat

/-- The data that the transfer sends. -/
def hostData : List Byte :=
  memGet s.mem (addrKey sl.core.toNat (transferSrc sl.core.toNat (hostWord s sl) (hostWork s sl isWrite)))
    (transferLen sl.core.toNat (hostWord s sl) (hostWork s sl isWrite))

/-- The request that the slot posts, in the terms of the module as the slot issues. -/
theorem postTransfer_hostWork (p : Plan) (id : Nat) :
    postTransfer sl.core.toNat id isWrite (hostWord s sl) (hostWork s sl isWrite) p =
      (if isWrite then
        postWork (transferQp sl.core.toNat isWrite (hostWord s sl) (hostWork s sl isWrite) p) (.core sl.core.toNat id) 0
          ((transferOutbox sl.core.toNat (hostWord s sl) (hostWork s sl isWrite) p).address
            + field (transferDesc sl.core.toNat (hostWord s sl) (hostWork s sl isWrite)) 0x10 8)
          (transferOutbox sl.core.toNat (hostWord s sl) (hostWork s sl isWrite) p).rkey 0 (hostData s sl isWrite) p.id
          (coreOf s.hw sl.core.toNat).frame
      else
        postWork (transferQp sl.core.toNat isWrite (hostWord s sl) (hostWork s sl isWrite) p) (.core sl.core.toNat id)
          (if bit (field (transferDesc sl.core.toNat (hostWord s sl) (hostWork s sl isWrite)) 2 1) 0 then 2 else 1) 0 0
          (field (transferDesc sl.core.toNat (hostWord s sl) (hostWork s sl isWrite)) 0x18 4) (hostData s sl isWrite) p.id
          (coreOf s.hw sl.core.toNat).frame) (hostWork s sl isWrite) := by
  simp only [postTransfer, frame_hostWork]
  cases isWrite <;> rfl

end

/-- Settles O18, by the queue that each slot's operation joins and by the message unit's checks of a transfer descriptor. -/
theorem submissions : Obligations.Submissions := by
  unfold Obligations.Submissions
  refine ⟨fun s sl isWrite h hd hb => ⟨held_host isWrite h hd hb, faults_host isWrite h hd hb, fun hroom hcodes hgo => ?_⟩,
    fun s sl h hd => ⟨fun hb => ⟨fun hfull => ?_, fun hroom => ?_, fun hroom hcodes hgo => ⟨fun hg => ?_, fun hg => ?_⟩⟩, fun hfull => ?_,
      fun hroom => ?_, fun hroom hcodes hgo => ⟨fun hg hopen => ?_, fun hg hopen => ?_, fun hg => ?_⟩, fun hfull => ?_, fun hroom => ?_,
      fun hroom hcodes hgo => ?_⟩⟩
  · have does (g : Work → Work) := answers_host isWrite h hd hb hroom hcodes hgo g
    have invalid (hinvalid : hostTransfer sl.core.toNat (coreOf s.hw sl.core.toNat).nextId isWrite (hostWord s sl) (rOf s sl).pc
        (hostWork s sl isWrite) = coreFault sl.core.toNat 0x0A 4 (rOf s sl).pc (hostWord s sl) true (hostWork s sl isWrite)) :=
      does (coreFault sl.core.toNat 0x0A 4 (rOf s sl).pc (hostWord s sl) true) hinvalid (coreFault_keepsIssue ..)
    refine ⟨fun hg => ?_, fun hg hbad => ?_, fun hg hplain p hp => ⟨fun hq => ?_, fun q hq => ?_⟩⟩
    · exact does _ (hostTransfer_unreadable _ _ _ _ _ _ hg) (moveUncorrectable_keepsIssue ..)
    · refine invalid ?_
      cases hp : planOfCore (hostWork s sl isWrite).hw sl.core.toNat with
      | none => exact hostTransfer_planless _ _ _ _ _ _ hg hp
      | some p =>
        cases hq : findQp (hostWork s sl isWrite).hw
            (transferQp sl.core.toNat isWrite (hostWord s sl) (hostWork s sl isWrite) p) with
        | none => exact hostTransfer_without_qp _ _ _ _ _ _ hg p hp hq
        | some q =>
          refine hostTransfer_refused _ _ _ _ _ _ hg p hp q hq fun ⟨hplain, _⟩ => ?_
          obtain hnone | hnot := hbad
          · exact Option.some_ne_none p (hp.symm.trans hnone)
          · exact hnot hplain
    · exact invalid (hostTransfer_without_qp _ _ _ _ _ _ hg p hp hq)
    · have hg' : (hostWork s sl isWrite).good (transferKey sl.core.toNat (hostWord s sl)) 32 = true := hg
      have hp' : planOfCore (hostWork s sl isWrite).hw sl.core.toNat = some p := hp
      have hq' : findQp (hostWork s sl isWrite).hw
        (transferQp sl.core.toNat isWrite (hostWord s sl) (hostWork s sl isWrite) p) = some q := hq
      have hplain' : transferPlain sl.core.toNat isWrite (hostWord s sl) (hostWork s sl isWrite) := hplain
      refine ⟨fun hserved => ?_, fun hserved hs => ?_, fun hserved hs hf => ?_, fun hserved hs hf hbad => ?_, fun hserved hs hf hread => ?_⟩
      · exact invalid (hostTransfer_refused _ _ _ _ _ _ hg' p hp' q hq' fun ⟨_, hserved'⟩ => hserved hserved')
      all_goals
        have hserved' : transferServed sl.core.toNat isWrite (hostWord s sl) (hostWork s sl isWrite) p q := hserved
      · exact does (dropHost (transferQp sl.core.toNat isWrite (hostWord s sl) (hostWork s sl isWrite) p) sl.core.toNat
            (coreOf s.hw sl.core.toNat).nextId)
          (hostTransfer_dropped _ _ _ _ _ _ hg' p hp' q hq' hplain' hserved' hs) (dropHost_keepsIssue ..)
      · have hf' : hitsFence (hostWork s sl isWrite).hw sl.core.toNat
          (transferSrc sl.core.toNat (hostWord s sl) (hostWork s sl isWrite)) = true := hf
        exact does (coreFaultAt sl.core.toNat 0x0B 4 (rOf s sl).pc (transferSrc sl.core.toNat (hostWord s sl) (hostWork s sl isWrite)) true)
          (hostTransfer_fenced _ _ _ _ _ _ hg' p hp' q hq' hplain' hserved' hs hf') (coreFaultAt_keepsIssue ..)
      all_goals
        have hf' : hitsFence (hostWork s sl isWrite).hw sl.core.toNat
          (transferSrc sl.core.toNat (hostWord s sl) (hostWork s sl isWrite)) = false := hf
      · exact does (moveUncorrectable sl.core.toNat 4 (rOf s sl).pc (transferSrc sl.core.toNat (hostWord s sl) (hostWork s sl isWrite))
            (addrKey sl.core.toNat (transferSrc sl.core.toNat (hostWord s sl) (hostWork s sl isWrite)))
            ((hostWork s sl isWrite).firstBad (addrKey sl.core.toNat (transferSrc sl.core.toNat (hostWord s sl) (hostWork s sl isWrite)))
              (transferLen sl.core.toNat (hostWord s sl) (hostWork s sl isWrite))))
          (hostTransfer_source_bad _ _ _ _ _ _ hg' p hp' q hq' hplain' hserved' hs hf' hbad) (moveUncorrectable_keepsIssue ..)
      · refine does _ ((hostTransfer_posts _ _ _ _ _ _ hg' p hp' q hq' hplain' hserved' hs hf' hread).trans
          (postTransfer_hostWork s sl isWrite p _)) ?_
        cases isWrite <;> exact keepsIssue_of_cores (postWork_cores ..) _
  · exact (alone_coll h hd hb).queue_full (slotColl_seen s sl) (decide_eq_true hfull)
  · exact (alone_coll h hd hb).queue_faults (slotColl_seen s sl) (decide_eq_false (Nat.not_le.mpr hroom))
  · exact answers_coll h hd hroom hcodes hgo hb hg
  · exact faults_coll_unreadable h hd hroom hcodes hgo hb hg
  · exact (alone_gissue h hd).queue_full (slotGissue_seen s sl) (decide_eq_true hfull)
  · exact (alone_gissue h hd).queue_faults (slotGissue_seen s sl) (decide_eq_false hroom)
  · refine answers_gissue h hd hroom hcodes hgo hg (modGraver (sl.imm.toNat % 16) (fun g => { g with
        queue := g.queue ++ [graverDesc s sl (memGet s.mem (descriptorKey s sl) 64) (coreOf s.hw sl.core.toNat).nextId] }))
      (if_pos hopen) ?_
    refine keepsIssue_of_cores ?_ _
    rfl
  · exact answers_gissue h hd hroom hcodes hgo hg (graverDone (sl.imm.toNat % 16)
        (graverDesc s sl (memGet s.mem (descriptorKey s sl) 64) (coreOf s.hw sl.core.toNat).nextId) 9 0 16 0)
      (if_neg (Bool.eq_false_iff.mp hopen))
      (graverDone_keepsIssue (sl.imm.toNat % 16)
        (graverDesc s sl (memGet s.mem (descriptorKey s sl) 64) (coreOf s.hw sl.core.toNat).nextId) 9 0 16 0 _)
  · exact faults_gissue_unreadable h hd hroom hcodes hgo hg
  · exact (alone_phint h hd).queue_full (slotPhint_seen s sl) (decide_eq_true hfull)
  · exact (alone_phint h hd).queue_faults (slotPhint_seen s sl) (decide_eq_false hroom)
  · exact answers_phint h hd hroom hcodes hgo

end Sys2Proof.Machine
end

section
/-! PROOFS. How the collective unit executes the oldest descriptor of a core (R288 to R293, R303, R307). -/
namespace Sys2Proof.Machine

open Sys2Proof

/-- The module without an issued descriptor. -/
def takeIssue (e : CollIssue) (w : Work) : Work :=
  w.up fun h => { h with coll := { h.coll with issued := removeFirst (fun x => x == e) h.coll.issued } }

/-- The row of an operation code executes a descriptor: its own, or one of no assigned code. -/
def collMine (op : Nat) (d : List Byte) : Prop := dOp d = op ∨ dOp d = 0 ∨ 5 < dOp d

/-- A descriptor completes at once, with the status of its checks. -/
def collEnds (core : Nat) (e : CollIssue) (w0 : Work) (ordinal : Nat) (floor : Option Nat) (w : Work) : Work :=
  completeColl core e.desc e.wc e.bundle e.issuedAt 0 0 (partOfCore w0.hw core) ordinal (collStatus w0 e) (floor.getD 0xFFFF) floor.isSome
    (recordOk w.hw core e.desc) w

/-- Where no group is found, the status is 1 or 2. -/
theorem collStatus_groupless {w : Work} {e : CollIssue} (hg : findGroup w.hw (field e.desc 4 4) = none) :
    collStatus w e = if collMalformed e.desc then 1 else 2 := by
  simp only [collStatus, hg]

theorem runColl_none (op core : Nat) (w : Work) (h : w.hw.coll.issued.find? (fun e => e.core == core) = none) : runColl op core w = w := by
  simp only [runColl, h]

section
variable {op core : Nat} {w : Work} {e : CollIssue} (he : w.hw.coll.issued.find? (fun e => e.core == core) = some e)
include he

theorem runColl_other (hm : ¬ collMine op e.desc) : runColl op core w = w := by
  have hm' : ¬ (dOp e.desc = op ∨ dOp e.desc = 0 ∨ 5 < dOp e.desc) := hm
  simp only [runColl, he, decide_eq_false hm', Bool.not_false, if_true]

variable (hm : collMine op e.desc)
include hm

theorem runColl_groupless (hg : findGroup (takeIssue e w).hw (field e.desc 4 4) = none) :
    runColl op core w = collEnds core e (takeIssue e w) 0 none (takeIssue e w) := by
  have hm' : dOp e.desc = op ∨ dOp e.desc = 0 ∨ 5 < dOp e.desc := hm
  unfold takeIssue at *
  simp only [runColl, he, decide_eq_true hm', Bool.not_true, Bool.false_eq_true, if_false, hg, collEnds]

variable {g : Group} (hg : findGroup (takeIssue e w).hw (field e.desc 4 4) = some g)
include hg

theorem runColl_not_member (hl : (localMembers (takeIssue e w).hw g).find? (fun l => l.2 == core) = none) :
    runColl op core w = collEnds core e (takeIssue e w) 0 none (takeIssue e w) := by
  have hm' : dOp e.desc = op ∨ dOp e.desc = 0 ∨ 5 < dOp e.desc := hm
  unfold takeIssue at *
  simp only [runColl, he, decide_eq_true hm', Bool.not_true, Bool.false_eq_true, if_false, hg, hl, collEnds]

theorem runColl_other_plan (hplan : g.plan ≠ (coreOf (takeIssue e w).hw core).plan) :
    runColl op core w = collEnds core e (takeIssue e w) 0 none (takeIssue e w) := by
  have hm' : dOp e.desc = op ∨ dOp e.desc = 0 ∨ 5 < dOp e.desc := hm
  cases hl : (localMembers (takeIssue e w).hw g).find? (fun l => l.2 == core) with
  | none => exact runColl_not_member he hm hg hl
  | some l =>
    unfold takeIssue at *
    simp only [runColl, he, decide_eq_true hm', Bool.not_true, Bool.false_eq_true, if_false, hg, hl, bne_iff_ne.mpr hplan, if_true, collEnds]

variable {index : Nat} (hl : (localMembers (takeIssue e w).hw g).find? (fun l => l.2 == core) = some (index, core))
  (hplan : g.plan = (coreOf (takeIssue e w).hw core).plan)
include hl hplan

theorem runColl_full (hst : collStatus (takeIssue e w) e = 0x0C) : runColl op core w =
    sendAbort g (freshOp g e.frame 256) (collStatus (takeIssue e w) e) index (collEnds core e (takeIssue e w) 0 none (takeIssue e w)) := by
  have hm' : dOp e.desc = op ∨ dOp e.desc = 0 ∨ 5 < dOp e.desc := hm
  unfold takeIssue at *
  simp only [runColl, he, decide_eq_true hm', Bool.not_true, Bool.false_eq_true, if_false, hg, hl, ← hplan, bne_self_eq_false, hst, if_true,
    collEnds]

/-- The module whose member has taken its ordinal. -/
def collNumbered (core : Nat) (e : CollIssue) (g : Group) (w : Work) : Work := takeOrdinal g.id core e.frame (takeIssue e w)

/-- The member's ordinal. -/
def collOrdinal (core : Nat) (e : CollIssue) (g : Group) (w : Work) : Nat := ordinalOf (takeIssue e w).hw g.id core e.frame

/-- The operation that the member joins. -/
def collOp (core : Nat) (e : CollIssue) (g : Group) (w : Work) : CollOp :=
  getOp (collNumbered core e g w).hw g e.frame (collOrdinal core e g w)

theorem runColl_refused_over (hst : collStatus (takeIssue e w) e ≠ 0x0C) (hst' : collStatus (takeIssue e w) e ≠ 0)
    (hstop : (collOp core e g w).stop.isSome = true) : runColl op core w =
    collEnds core e (takeIssue e w) (collOrdinal core e g w) (collOp core e g w).floor (collNumbered core e g w) := by
  have hm' : dOp e.desc = op ∨ dOp e.desc = 0 ∨ 5 < dOp e.desc := hm
  unfold collOp collNumbered collOrdinal takeIssue at *
  simp only [runColl, he, decide_eq_true hm', Bool.not_true, Bool.false_eq_true, if_false, hg, hl, ← hplan, bne_self_eq_false, hst, hst',
    ne_eq, not_false_iff, if_true, hstop, collEnds]

theorem runColl_refused (hst : collStatus (takeIssue e w) e ≠ 0x0C) (hst' : collStatus (takeIssue e w) e ≠ 0)
    (hstop : (collOp core e g w).stop.isSome = false) : runColl op core w =
    reserveNext g.id (stopOp g { collOp core e g w with reserves := [] } 8 index
      (sendAbort g (collOp core e g w) (collStatus (takeIssue e w) e) index (cancelReserves g (collOp core e g w) (putOp (collOp core e g w)
        (collEnds core e (takeIssue e w) (collOrdinal core e g w) (collOp core e g w).floor (collNumbered core e g w)))))) := by
  have hm' : dOp e.desc = op ∨ dOp e.desc = 0 ∨ 5 < dOp e.desc := hm
  unfold collOp collNumbered collOrdinal takeIssue at *
  simp only [runColl, he, decide_eq_true hm', Bool.not_true, Bool.false_eq_true, if_false, hg, hl, ← hplan, bne_self_eq_false, hst, hst',
    ne_eq, not_false_iff, if_true, hstop, collEnds]

/-! The member joins the operation. -/

omit he hm hg hl hplan

/-- The send counts of an all-to-all. -/
def collCounts (core : Nat) (e : CollIssue) (g : Group) (w : Work) : List Nat :=
  if dOp e.desc = 4 then sendCounts w core e.desc (groupSize g) else []

/-- The records of an all-to-all beyond its `COUNT`. -/
def collDropped (core : Nat) (e : CollIssue) (g : Group) (w : Work) : Nat :=
  ((collCounts core e g w).map (fun n => n - dCount e.desc)).foldl (· + ·) 0

/-- The member's input. -/
def collInput (core : Nat) (e : CollIssue) (g : Group) (index : Nat) (w : Work) : Option (List Byte) :=
  readInput w core e.desc (collSizes e.desc (groupSize g) index ((collCounts core e g w).foldl (· + ·) 0)).1

/-- The member's part of the operation. -/
def collPart (core : Nat) (e : CollIssue) (g : Group) (index : Nat) (w : Work) : CollPart :=
  ⟨core, index, e.desc, e.wc, e.bundle, e.issuedAt, (collInput core e g index w).getD [], collCounts core e g w, [], 0, [],
    collDropped core e g w, false⟩

/-- The operation with the member in it. -/
def collWith (core : Nat) (e : CollIssue) (g : Group) (index : Nat) (w : Work) : CollOp :=
  { collOp core e g w with parts := (collOp core e g w).parts ++ [collPart core e g index (collNumbered core e g w)] }

/-- The module with the member in the operation. -/
def collJoined (core : Nat) (e : CollIssue) (g : Group) (index : Nat) (w : Work) : Work :=
  putOp (collWith core e g index w) (collNumbered core e g w)

/-- The counts of an all-to-all can be read. -/
def collCountsGood (core : Nat) (e : CollIssue) (g : Group) (w : Work) : Prop :=
  dOp e.desc = 4 → w.good (stagingKey (spireOf core) (field e.desc 0x20 4)) (4 * groupSize g) = true

/-- An all-to-all counts its records and writes the counts of those it drops (R303). -/
def collCounted (core : Nat) (e : CollIssue) (g : Group) (index : Nat) (w : Work) : Work :=
  if dOp e.desc = 4 then
    tally 1 (fun t => { t with
        issued := t.issued + (collCounts core e g (collNumbered core e g w)).foldl (· + ·) 0
        dropped := t.dropped + collDropped core e g (collNumbered core e g w) })
      (bumpSat 4 (9 + partOfCore (takeIssue e w).hw core) (collDropped core e g (collNumbered core e g w))
        ((collJoined core e g index w).write (stagingKey (spireOf core) (field e.desc 0x20 4) + 2 * countArray (groupSize g))
          ((collCounts core e g (collNumbered core e g w)).flatMap (fun n => leBytes 4 (n - dCount e.desc)))))
  else collJoined core e g index w

/-- While the module is below its floor the group is told (R311). -/
def collTold (core : Nat) (e : CollIssue) (g : Group) (index : Nat) (w : Work) : Work :=
  if (collCounted core e g index w).hw.lantern.lowest.isEmpty then collCounted core e g index w
  else sendFloor g ((findOp (collCounted core e g index w).hw g.id e.frame (collOrdinal core e g w)).getD (collWith core e g index w)) index
    (collCounted core e g index w)

include he hm hg hl hplan

variable (hst : collStatus (takeIssue e w) e = 0)
include hst

theorem runColl_stopped {status cause : Nat} (hstop : (collOp core e g w).stop = some (status, cause)) :
    runColl op core w = endPart (collWith core e g index w) (collPart core e g index (collNumbered core e g w)) status cause
      (collJoined core e g index w) := by
  have hm' : dOp e.desc = op ∨ dOp e.desc = 0 ∨ 5 < dOp e.desc := hm
  unfold collJoined collWith collPart collInput collDropped collCounts collOp collNumbered collOrdinal takeIssue at *
  simp only [runColl, he, decide_eq_true hm', Bool.not_true, Bool.false_eq_true, if_false, hg, hl, ← hplan, bne_self_eq_false, hst,
    ne_eq, not_true, (by decide : ¬ (0 = 12)), hstop]

variable (hstop : (collOp core e g w).stop = none)
include hstop

theorem runColl_absent {x y member : Nat}
    (habsent : (collNumbered core e g w).hw.coll.absent.find? (fun a => a.1 == g.id && a.2.1 == e.frame) = some (x, y, member)) :
    runColl op core w = endPart (collWith core e g index w) (collPart core e g index (collNumbered core e g w)) 9 member
      (collJoined core e g index w) := by
  have hm' : dOp e.desc = op ∨ dOp e.desc = 0 ∨ 5 < dOp e.desc := hm
  unfold collJoined collWith collPart collInput collDropped collCounts collOp collNumbered collOrdinal takeIssue at *
  simp only [runColl, he, decide_eq_true hm', Bool.not_true, Bool.false_eq_true, if_false, hg, hl, ← hplan, bne_self_eq_false, hst,
    ne_eq, not_true, (by decide : ¬ (0 = 12)), hstop, habsent]

variable (habsent : (collNumbered core e g w).hw.coll.absent.find? (fun a => a.1 == g.id && a.2.1 == e.frame) = none)
include habsent

theorem runColl_unreadable (hbad : collInput core e g index (collNumbered core e g w) = none ∨ ¬ collCountsGood core e g (collNumbered core e g w)) :
    runColl op core w = failOp g (collWith core e g index w) index 0x0A (collJoined core e g index w) := by
  have hbad' : ((collInput core e g index (collNumbered core e g w)).isNone || (dOp e.desc == 4
      && !(collNumbered core e g w).good (stagingKey (spireOf core) (field e.desc 0x20 4)) (4 * groupSize g))) = true := by
    simpa [collCountsGood] using hbad
  have hm' : dOp e.desc = op ∨ dOp e.desc = 0 ∨ 5 < dOp e.desc := hm
  unfold collJoined collWith collPart collInput collDropped collCounts collOp collNumbered collOrdinal takeIssue at *
  simp only [runColl, he, decide_eq_true hm', Bool.not_true, Bool.false_eq_true, if_false, hg, hl, ← hplan, bne_self_eq_false, hst,
    ne_eq, not_true, (by decide : ¬ (0 = 12)), hstop, habsent, hbad', if_true]

variable (hread : collInput core e g index (collNumbered core e g w) ≠ none) (hcounts : collCountsGood core e g (collNumbered core e g w))
include hread hcounts

omit he hm hg hl hplan hst hstop habsent in
theorem collReadable : ((collInput core e g index (collNumbered core e g w)).isNone || (dOp e.desc == 4
    && !(collNumbered core e g w).good (stagingKey (spireOf core) (field e.desc 0x20 4)) (4 * groupSize g))) = false := by
  simpa [collCountsGood, Option.isSome_iff_ne_none] using And.intro hread hcounts

theorem runColl_port (hports : portStatus (collNumbered core e g w).hw g (collWith core e g index w) ≠ 0) :
    runColl op core w = failOp g (collWith core e g index w) index
      (portStatus (collNumbered core e g w).hw g (collWith core e g index w)) (collJoined core e g index w) := by
  have hgood := collReadable hread hcounts
  have hm' : dOp e.desc = op ∨ dOp e.desc = 0 ∨ 5 < dOp e.desc := hm
  unfold collJoined collWith collPart collInput collDropped collCounts collOp collNumbered collOrdinal takeIssue at *
  simp only [runColl, he, decide_eq_true hm', Bool.not_true, Bool.false_eq_true, if_false, hg, hl, ← hplan, bne_self_eq_false, hst,
    ne_eq, not_true, (by decide : ¬ (0 = 12)), hstop, habsent, hgood]
  exact if_pos hports

theorem runColl_drives (hports : portStatus (collNumbered core e g w).hw g (collWith core e g index w) = 0) :
    runColl op core w = takeEarly g e.frame (collOrdinal core e g w)
      (driveOp g.id e.frame (collOrdinal core e g w) (collTold core e g index w)) := by
  have hgood := collReadable hread hcounts
  have hm' : dOp e.desc = op ∨ dOp e.desc = 0 ∨ 5 < dOp e.desc := hm
  unfold collTold collCounted collJoined collWith collPart collInput collDropped collCounts collOp collNumbered collOrdinal takeIssue at *
  simp only [runColl, he, decide_eq_true hm', Bool.not_true, Bool.false_eq_true, if_false, hg, hl, ← hplan, bne_self_eq_false, hst,
    ne_eq, not_true, (by decide : ¬ (0 = 12)), hstop, habsent, hgood]
  exact if_neg (not_not_intro hports)

end

theorem write_lantern (w : Work) (a : Nat) (bs : List Byte) : (w.write a bs).hw.lantern = w.hw.lantern := by
  unfold Work.write
  split
  · rfl
  · dsimp only
    split <;> rfl

theorem tally_lantern (cat : Nat) (f : MsgTally → MsgTally) (w : Work) : (tally cat f w).hw.lantern = w.hw.lantern := rfl

theorem bumpSat_lantern (block index n : Nat) (w : Work) : (bumpSat block index n w).hw.lantern = w.hw.lantern := rfl

/-- The counts of an all-to-all leave Lantern as it is. -/
theorem collCounted_lantern (core : Nat) (e : CollIssue) (g : Group) (index : Nat) (w : Work) :
    (collCounted core e g index w).hw.lantern.lowest = w.hw.lantern.lowest := by
  unfold collCounted
  split
  · rw [tally_lantern, bumpSat_lantern, write_lantern]
    rfl
  · rfl

/-- Settles O19, by the outcome of each check of the collective unit in turn. -/
theorem collectiveOperations : Obligations.CollectiveOperations := by
  unfold Obligations.CollectiveOperations
  intro s core
  extract_lets c w executes
  have hexec : ∀ i op, exec i s = run s (runColl op c) → executes i op := by
    intro i op hexec
    have answers {v : Work} (hv : runColl op c w = v) : AnswersWith i s v := answersWith_run i s _ _ hexec hv
    refine ⟨fun hnone => answers (runColl_none op c w hnone), fun e he => ?_⟩
    extract_lets d w0 mine status completes
    refine ⟨fun hm => answers (runColl_other he hm), fun hm hg => ⟨?_, answers (runColl_groupless he hm hg)⟩,
      fun hm g hg => ⟨fun hout => answers ?_, fun index hl hplan => ?_⟩⟩
    · have hg' : findGroup (takeIssue e w).hw (field e.desc 4 4) = none := hg
      exact collStatus_groupless hg'
    · obtain hl | hplan := hout
      · exact runColl_not_member he hm hg hl
      · exact runColl_other_plan he hm hg hplan
    have hg' : findGroup (takeIssue e w).hw (field e.desc 4 4) = some g := hg
    have hl' : (localMembers (takeIssue e w).hw g).find? (fun l => l.2 == c) = some (index, c) := hl
    have hplan' : g.plan = (coreOf (takeIssue e w).hw c).plan := hplan
    extract_lets ordinal w1 o counts dropped read countsGood part with_ joined counted told absent ports
    have hw1 : collNumbered c e g w = w1 := rfl
    have ho : collOp c e g w = o := rfl
    have hcounts : collCounts c e g w1 = counts := rfl
    have hread : collInput c e g index w1 = read := by rw [collInput, hcounts]; rfl
    have hpart : collPart c e g index w1 = part := by rw [collPart, collDropped, hcounts, hread]
    have hwith : collWith c e g index w = with_ := by rw [collWith, hw1, ho, hpart]
    have hjoined : collJoined c e g index w = joined := by rw [collJoined, hw1, hwith]
    have hports : portStatus w1.hw g with_ = ports := rfl
    have hcounted : collCounted c e g index w = counted := by rw [collCounted, hjoined, hw1, collDropped, hcounts]; rfl
    have htold : collTold c e g index w = told := by
      have hlowest : counted.hw.lantern.lowest = s.hw.lantern.lowest := by
        rw [← hcounted]
        exact collCounted_lantern ..
      rw [collTold, hcounted, hwith, hlowest]
      simp only [List.isEmpty_iff]
      rfl
    refine ⟨fun hst => answers (runColl_full he hm hg' hl' hplan' hst), fun hst hst' hstop => answers ?_, fun hst hst' hstop => answers ?_,
      fun hst st cause hstop => answers ?_, fun hst hstop x y member habsent => answers ?_, fun hst hstop habsent hbad => answers ?_,
      fun hst hstop habsent hgood hcountsGood hbad => answers ?_, fun hst hstop habsent hgood hcountsGood hgoes => answers ?_⟩
    · exact runColl_refused_over he hm hg' hl' hplan' hst' hst (Option.isSome_iff_ne_none.mpr (ho ▸ hstop))
    · exact runColl_refused he hm hg' hl' hplan' hst' hst (by rw [ho, hstop]; rfl)
    · rw [runColl_stopped he hm hg' hl' hplan' hst (ho ▸ hstop), hwith, hw1, hpart, hjoined]
    · rw [runColl_absent he hm hg' hl' hplan' hst (ho ▸ hstop) habsent, hwith, hw1, hpart, hjoined]
    · rw [runColl_unreadable he hm hg' hl' hplan' hst (ho ▸ hstop) habsent (by rw [hw1, hread]; exact hbad), hwith, hjoined]
    · rw [runColl_port he hm hg' hl' hplan' hst (ho ▸ hstop) habsent (by rw [hw1, hread]; exact hgood) hcountsGood
        (by rw [hw1, hwith, hports]; exact hbad), hw1, hwith, hports, hjoined]
    · rw [runColl_drives he hm hg' hl' hplan' hst (ho ▸ hstop) habsent (by rw [hw1, hread]; exact hgood) hcountsGood
        (by rw [hw1, hwith, hports]; exact hgoes), htold]
      rfl
  exact ⟨hexec _ _ (exec_allReduce ..), hexec _ _ (exec_reduceScatter ..), hexec _ _ (exec_allGather ..), hexec _ _ (exec_allToAll ..),
    hexec _ _ (exec_broadcast ..)⟩

end Sys2Proof.Machine
end

section
/-! PROOFS. How a Graver engine serves its descriptors, and the rows of `FILL` and `COPY` (R215 to R245). -/
namespace Sys2Proof.Machine

open Sys2Proof

/-! ## One descriptor at a time -/

section
variable {code : Nat} {op : GOp} {k : Nat} {w : Work}

theorem graverServe_closed (h : graverOpen w.hw k = false) : graverServe code op k w = w := by
  simp only [graverServe, h, Bool.not_false, if_true]

variable (hopen : graverOpen w.hw k = true)
include hopen

theorem graverServe_running {r : GRun} (hr : (graverOf w.hw k).running = some r) :
    graverServe code op k w = if field r.d.desc 0 1 = code then graverStep k r.d (op.next k r w) else w := by
  simp only [graverServe, hopen, Bool.not_true, Bool.false_eq_true, if_false, hr, gField]
  rfl

variable (hr : (graverOf w.hw k).running = none)
include hr

theorem graverServe_idle (hd : graverNext (graverOf w.hw k) = none) : graverServe code op k w = w := by
  simp only [graverServe, hopen, Bool.not_true, Bool.false_eq_true, if_false, hr, hd]

theorem graverServe_next {d : GDesc} (hd : graverNext (graverOf w.hw k) = some d) :
    graverServe code op k w =
      if field d.desc 0 1 = code then graverStep k d (op.start k d (graverTake k d w))
      else if field d.desc 0 1 = 0 ∨ 8 ≤ field d.desc 0 1 then graverStep k d (gFail 1 (graverTake k d w)) else w := by
  simp only [graverServe, hopen, Bool.not_true, Bool.false_eq_true, if_false, hr, hd, gField]
  rfl

end

/-! ## The statuses of a descriptor's checks (R223) -/

/-- A check that fails with status 1 comes first. -/
theorem firstStatus_one (l : List Nat) (h : 1 ∈ l) (hall : ∀ x ∈ l, 1 ≤ x) : firstStatus l = some 1 := by
  have hmin : ∀ (l : List Nat) (b : Nat), 1 ≤ b → (∀ x ∈ l, 1 ≤ x) → (b = 1 ∨ 1 ∈ l) → l.foldl min b = 1 := by
    intro l
    induction l with
    | nil => simp
    | cons x l ih =>
      intro b hb hall hone
      rw [List.foldl_cons]
      have hx := hall x (List.mem_cons_self ..)
      refine ih _ (by omega) (fun y hy => hall y (List.mem_cons_of_mem _ hy)) ?_
      rcases hone with rfl | hone
      · exact .inl (Nat.min_eq_left hx)
      · rcases List.mem_cons.mp hone with rfl | hone
        · exact .inl (Nat.min_eq_right hb)
        · exact .inr hone
  cases l with
  | nil => cases h
  | cons x l =>
    have hx := hall x (List.mem_cons_self ..)
    refine congrArg some (hmin l x hx (fun y hy => hall y (List.mem_cons_of_mem _ hy)) ?_)
    rcases List.mem_cons.mp h with h | h
    · exact .inl h.symm
    · exact .inr h

theorem tier1Status_ge (hw : Hw) (d : GDesc) (k word len : Nat) : ∀ x ∈ tier1Status hw d k word len, 1 ≤ x := by
  unfold tier1Status
  dsimp only
  split
  · simp
  · split
    · simp
    · split
      · simp
      · split <;> simp

/-! ## `FILL` and `COPY` -/

/-- Byte i of a list repeated. -/
theorem getD_flatten_replicate (l : List Byte) (n : Nat) (hl : l.length = n) (m i : Nat) (hi : i < n * m) :
    (List.replicate m l).flatten.getD i 0 = l.getD (i % n) 0 := by
  induction m generalizing i with
  | zero => omega
  | succ m ih =>
    rw [List.replicate_succ, List.flatten_cons]
    by_cases h : i < n
    · rw [List.getD_append _ _ _ _ (hl ▸ h), Nat.mod_eq_of_lt h]
    · have hi' : i - n < n * m := by rw [Nat.mul_succ] at hi; omega
      rw [List.getD_append_right _ _ _ _ (by omega), hl, ih (i - n) hi', Nat.mod_eq_sub_mod (a := i) (by omega)]

theorem patternBytes_eq (p n : Nat) : patternBytes p n = (List.range n).map (fun j => BitVec.ofNat 8 (p / 256 ^ (j % 8))) := by
  have hlen : ((List.replicate (n / 8 + 1) (leBytes 8 p)).flatten).length = 8 * (n / 8 + 1) := by
    simp [leBytes_length, Nat.mul_comm]
  refine List.ext_getElem (by simp [patternBytes, leBytes_length]; omega) fun i h1 h2 => ?_
  have hi : i < n := by simpa using h2
  have hbyte := getD_flatten_replicate (leBytes 8 p) 8 (leBytes_length 8 p) (n / 8 + 1) i (by omega)
  rw [leBytes_getD 8 p (i % 8) (by omega), List.getD_eq_getElem _ _ (by omega)] at hbyte
  simpa [patternBytes] using hbyte

theorem malformedUnless_ge (c : Bool) : ∀ x ∈ malformedUnless c, 1 ≤ x := by
  unfold malformedUnless
  split <;> simp

section
variable {k : Nat} {d : GDesc} {w : Work}

/-- A failing check of the header or the fields of a descriptor gives status 1, whatever else fails. -/
theorem firstStatus_malformed (fields : Bool) (rest : List Nat) (hrest : ∀ x ∈ rest, 1 ≤ x)
    (h : (decide (gField d 1 1 < 2) && gField d 2 2 == 0) = false ∨ fields = false) :
    firstStatus (gHeader d ++ malformedUnless fields ++ rest) = some 1 := by
  refine firstStatus_one _ ?_ fun x hx => ?_
  · refine List.mem_append_left _ ?_
    rcases h with h | h
    · exact List.mem_append_left _ (by rw [gHeader, malformedUnless, h]; exact List.mem_singleton_self 1)
    · exact List.mem_append_right _ (by rw [h]; exact List.mem_singleton_self 1)
  · simp only [List.mem_append, gHeader] at hx
    obtain (hx | hx) | hx := hx
    · exact malformedUnless_ge _ x hx
    · exact malformedUnless_ge _ x hx
    · exact hrest x hx

/-- The checks that `FILL` and `COPY` share pass. -/
structure Shaped (d : GDesc) : Prop where
  mode : field d.desc 1 1 < 2
  reserved : field d.desc 2 2 = 0
  rows : 1 ≤ field d.desc 0x18 4
  rows_le : field d.desc 0x18 4 ≤ 65536
  bytes : 16 ≤ field d.desc 0x1C 4
  bytes_le : field d.desc 0x1C 4 ≤ 16777216
  bytes_mod : field d.desc 0x1C 4 % 16 = 0
  stride_mod : field d.desc 0x20 4 % 16 = 0
  zeros : zeroAt d.desc 0x28 24 = true

theorem shaped_of (h : field d.desc 1 1 < 2 ∧ field d.desc 2 2 = 0 ∧ 1 ≤ field d.desc 0x18 4 ∧ field d.desc 0x18 4 ≤ 65536
    ∧ 16 ≤ field d.desc 0x1C 4 ∧ field d.desc 0x1C 4 ≤ 16777216 ∧ field d.desc 0x1C 4 % 16 = 0 ∧ field d.desc 0x20 4 % 16 = 0
    ∧ zeroAt d.desc 0x28 24 = true) : Shaped d := by
  obtain ⟨hmode, hreserved, hrows, hrows', hbytes, hbytes', hmod, hstride, hzeros⟩ := h
  exact ⟨hmode, hreserved, hrows, hrows', hbytes, hbytes', hmod, hstride, hzeros⟩

theorem startFill_goes (h : Shaped d) (hdt : field d.desc 0x24 4 = 0)
    (hrange : tier1Status w.hw d k (field d.desc 0x08 8) ((field d.desc 0x18 4 - 1) * field d.desc 0x20 4 + field d.desc 0x1C 4) = []) :
    runFill.start k d w = .goes ⟨d, 0, 16, 0, [], []⟩ w := by
  obtain ⟨hmode, hreserved, hrows, hrows', hbytes, hbytes', hmod, hstride, hzeros⟩ := h
  simp [runFill, startFill, gHeader, malformedUnless, gField, spanOf, hmode, hreserved, hrows, hrows', hbytes, hbytes', hmod, hstride, hzeros,
    hdt, hrange, firstStatus, least, gBegin]

theorem startCopy_checked (h : Shaped d) (hdt : field d.desc 0x24 4 % 16 = 0)
    (hsrc : tier1Status w.hw d k (field d.desc 0x08 8) ((field d.desc 0x18 4 - 1) * field d.desc 0x20 4 + field d.desc 0x1C 4) = [])
    (hdst : tier1Status w.hw d k (field d.desc 0x10 8) ((field d.desc 0x18 4 - 1) * field d.desc 0x24 4 + field d.desc 0x1C 4) = []) :
    runCopy.start k d w =
      if overlaps (field d.desc 0x08 8) ((field d.desc 0x18 4 - 1) * field d.desc 0x20 4 + field d.desc 0x1C 4)
          (field d.desc 0x10 8) ((field d.desc 0x18 4 - 1) * field d.desc 0x24 4 + field d.desc 0x1C 4) then .over ⟨6, 0, 16, 0, w⟩
      else .goes ⟨d, 0, 16, 0, [], []⟩ w := by
  obtain ⟨hmode, hreserved, hrows, hrows', hbytes, hbytes', hmod, hstride, hzeros⟩ := h
  simp only [runCopy, startCopy, gHeader, malformedUnless, gField, spanOf, hmode, hreserved, hrows, hrows', hbytes, hbytes', hmod, hstride, hzeros,
    hdt, hsrc, hdst, decide_true, beq_self_eq_true, Bool.and_self, if_true, List.append_nil, List.nil_append]
  by_cases ho : overlaps (field d.desc 0x08 8) ((field d.desc 0x18 4 - 1) * field d.desc 0x20 4 + field d.desc 0x1C 4)
      (field d.desc 0x10 8) ((field d.desc 0x18 4 - 1) * field d.desc 0x24 4 + field d.desc 0x1C 4) = true
  · simp only [ho, if_true]
    rfl
  · simp only [ho]
    rfl

/-- Fields that break R240, whatever the operation. -/
def Misshapen (d : GDesc) : Prop :=
  gField d 0x1C 4 < 16 ∨ 16777216 < gField d 0x1C 4 ∨ gField d 0x18 4 = 0 ∨ 65536 < gField d 0x18 4
    ∨ gField d 0x1C 4 % 16 ≠ 0 ∨ gField d 0x20 4 % 16 ≠ 0 ∨ gField d 2 2 ≠ 0

theorem startFill_misshapen (h : Misshapen d) : runFill.start k d w = .over ⟨1, 0, 16, 0, w⟩ := by
  have hfields : (decide (gField d 1 1 < 2) && gField d 2 2 == 0) = false
      ∨ (decide (1 ≤ gField d 0x18 4) && decide (gField d 0x18 4 ≤ 65536) && decide (16 ≤ gField d 0x1C 4)
        && decide (gField d 0x1C 4 ≤ 16777216) && gField d 0x1C 4 % 16 == 0 && gField d 0x20 4 % 16 == 0
        && gField d 0x24 4 == 0 && zeroAt d.desc 0x28 24) = false := by
    simp only [Misshapen] at h
    simp only [Bool.and_eq_false_iff, decide_eq_false_iff_not, beq_eq_false_iff_ne]
    omega
  simp only [runFill, startFill]
  rw [firstStatus_malformed _ _ (tier1Status_ge _ _ _ _ _) hfields]
  rfl

theorem startCopy_misshapen (h : Misshapen d) : runCopy.start k d w = .over ⟨1, 0, 16, 0, w⟩ := by
  have hfields : (decide (gField d 1 1 < 2) && gField d 2 2 == 0) = false
      ∨ (decide (1 ≤ gField d 0x18 4) && decide (gField d 0x18 4 ≤ 65536) && decide (16 ≤ gField d 0x1C 4)
        && decide (gField d 0x1C 4 ≤ 16777216) && gField d 0x1C 4 % 16 == 0 && gField d 0x20 4 % 16 == 0
        && gField d 0x24 4 % 16 == 0 && zeroAt d.desc 0x28 24) = false := by
    simp only [Misshapen] at h
    simp only [Bool.and_eq_false_iff, decide_eq_false_iff_not, beq_eq_false_iff_ne]
    omega
  simp only [runCopy, startCopy, List.append_assoc (gHeader d ++ malformedUnless _)]
  rw [firstStatus_malformed _ _ ?_ hfields]
  · rfl
  · intro x hx
    simp only [List.mem_append] at hx
    obtain (hx | hx) | hx := hx
    · exact tier1Status_ge _ _ _ _ _ x hx
    · exact tier1Status_ge _ _ _ _ _ x hx
    · split at hx
      · rw [List.mem_singleton.mp hx]; decide
      · cases hx

end

section
variable (k : Nat) (r : GRun) (w : Work)

theorem nextFill : runFill.next k r w =
    if r.done + 1 < field r.d.desc 0x18 4 then
      .goes { r with done := r.done + 1, charged := r.charged + (2 + (field r.d.desc 0x1C 4 + 2047) / 2048) }
        (w.write (field r.d.desc 0x08 8 + r.done * field r.d.desc 0x20 4)
          ((List.range (field r.d.desc 0x1C 4)).map (fun j => BitVec.ofNat 8 (field r.d.desc 0x10 8 / 256 ^ (j % 8)))))
    else .over ⟨0, r.done + 1, r.charged + (2 + (field r.d.desc 0x1C 4 + 2047) / 2048), r.detail,
      w.write (field r.d.desc 0x08 8 + r.done * field r.d.desc 0x20 4)
        ((List.range (field r.d.desc 0x1C 4)).map (fun j => BitVec.ofNat 8 (field r.d.desc 0x10 8 / 256 ^ (j % 8))))⟩ := by
  rw [← patternBytes_eq]
  rfl

theorem nextCopy_good (h : w.good (field r.d.desc 0x08 8 + r.done * field r.d.desc 0x20 4) (field r.d.desc 0x1C 4) = true) :
    runCopy.next k r w =
    if r.done + 1 < field r.d.desc 0x18 4 then
      .goes { r with done := r.done + 1, charged := r.charged + (2 + (field r.d.desc 0x1C 4 + 1023) / 1024) }
        (w.write (field r.d.desc 0x10 8 + r.done * field r.d.desc 0x24 4)
          (w.read (field r.d.desc 0x08 8 + r.done * field r.d.desc 0x20 4) (field r.d.desc 0x1C 4)))
    else .over ⟨0, r.done + 1, r.charged + (2 + (field r.d.desc 0x1C 4 + 1023) / 1024), r.detail,
      w.write (field r.d.desc 0x10 8 + r.done * field r.d.desc 0x24 4)
        (w.read (field r.d.desc 0x08 8 + r.done * field r.d.desc 0x20 4) (field r.d.desc 0x1C 4))⟩ := by
  simp only [runCopy, itemStep, copyItem, gField, h, Bool.not_true, Bool.false_eq_true, if_false]
  rfl

theorem nextCopy_bad (h : w.good (field r.d.desc 0x08 8 + r.done * field r.d.desc 0x20 4) (field r.d.desc 0x1C 4) = false) :
    runCopy.next k r w = .over ⟨8, r.done, r.charged + 16, r.detail,
      gUncorrectable k r.d (w.firstBad (field r.d.desc 0x08 8 + r.done * field r.d.desc 0x20 4) (field r.d.desc 0x1C 4)) w⟩ := by
  simp only [runCopy, itemStep, copyItem, gField, h, Bool.not_false, if_true]

end

/-- Settles O20, by the turn in which an engine serves descriptors, and by the checks and the rows of `FILL` and `COPY`. -/
theorem graverOperations : Obligations.GraverOperations := by
  unfold Obligations.GraverOperations
  refine ⟨fun s k => ?_, fun k d w => ?_, by decide +kernel⟩
  · extract_lets w g comesTo serves
    have hcomes : ∀ i d st, AnswersWith i s (graverStep k.val d st) → comesTo i d st := by
      intro i d st h
      exact ⟨fun out hst => by rwa [hst] at h, fun r x hst => by rwa [hst] at h⟩
    have hserves : ∀ i code op, 1 ≤ code → code < 8 → exec i s = run s (graverServe code op k.val) → serves i code op := by
      intro i code op hlo hhi hexec
      have answers {v : Work} (hv : graverServe code op k.val w = v) : AnswersWith i s v := answersWith_run i s _ _ hexec hv
      refine ⟨fun hclosed => answers (graverServe_closed hclosed), fun hopen r hr => ⟨fun hcode => ?_, fun hcode => ?_⟩,
        fun hopen hr hd => answers (graverServe_idle hopen hr hd), fun hopen hr d hd => ⟨fun hcode => ?_, fun hcode => ?_, fun hcode hc hc' => ?_⟩⟩
      · exact hcomes i r.d _ (answers ((graverServe_running hopen hr).trans (if_pos hcode)))
      · exact answers ((graverServe_running hopen hr).trans (if_neg hcode))
      · exact hcomes i d _ (answers ((graverServe_next hopen hr hd).trans (if_pos hcode)))
      · refine answers ((graverServe_next hopen hr hd).trans ?_)
        rw [if_neg (by omega), if_pos hcode]
        rfl
      · refine answers ((graverServe_next hopen hr hd).trans ?_)
        rw [if_neg hcode, if_neg (by omega)]
    exact ⟨hserves _ _ _ (by decide) (by decide) (exec_gatherPool ..), hserves _ _ _ (by decide) (by decide) (exec_scoreSelect ..),
      hserves _ _ _ (by decide) (by decide) (exec_pack ..), hserves _ _ _ (by decide) (by decide) (exec_rowUpdate ..),
      hserves _ _ _ (by decide) (by decide) (exec_checksum ..), hserves _ _ _ (by decide) (by decide) (exec_copy ..),
      hserves _ _ _ (by decide) (by decide) (exec_fill ..)⟩
  · refine ⟨fun hshaped hdt hrange => ?_, fun hshaped hdt hsrc hdst hapart => ?_, fun hshaped hdt hsrc hdst hlo hhi => ?_,
      fun h => ⟨startFill_misshapen h, startCopy_misshapen h⟩, fun r hr => ?_⟩
    · exact startFill_goes (shaped_of hshaped) hdt hrange
    · rw [startCopy_checked (shaped_of hshaped) hdt hsrc hdst, if_neg]
      simp only [overlaps, Bool.and_eq_true, decide_eq_true_eq]
      omega
    · rw [startCopy_checked (shaped_of hshaped) hdt hsrc hdst, if_pos]
      simp only [overlaps, Bool.and_eq_true, decide_eq_true_eq]
      exact ⟨hlo, hhi⟩
    · subst hr
      refine ⟨fun h => ?_, fun h => ?_, fun hg h => ?_, fun hg h => ?_, nextCopy_bad k r w⟩
      · exact (nextFill k r w).trans (if_pos h)
      · exact (nextFill k r w).trans (if_neg (Nat.not_lt.mpr h))
      · exact (nextCopy_good k r w hg).trans (if_pos h)
      · exact (nextCopy_good k r w hg).trans (if_neg (Nat.not_lt.mpr h))

end Sys2Proof.Machine
end

section
/-! PROOFS. Hints accepted by the pager and pages placed for them (R193 to R200). -/
namespace Sys2Proof.Machine

open Sys2Proof

/-! ## Acceptance of hints (R193 to R196) -/

theorem countInRange {n : Nat} (h : 1 ≤ n ∧ n ≤ 1024) : (decide (n < 1) || decide (1024 < n)) = false := by
  rw [Bool.or_eq_false_iff, decide_eq_false_iff_not, decide_eq_false_iff_not]
  omega

section
variable {c : Nat} {w : Work}

theorem acceptHints_none (h : (coreOf w.hw c).outs.find? (fun o => !o.graver) = none) : acceptHints c w = w := by
  simp only [acceptHints, h]

variable {op : OutOp} (hop : (coreOf w.hw c).outs.find? (fun o => !o.graver) = some op)
include hop

theorem acceptHints_unbound (h : planOfCore w.hw c = none) :
    acceptHints c w = modCore c (fun x => { x with outs := x.outs.filter (fun o => o.id != op.id) }) w := by
  simp only [acceptHints, hop, h]

variable {p : Plan} (hp : planOfCore w.hw c = some p)
include hp

theorem acceptHints_miscounted (h : ¬(1 ≤ op.count ∧ op.count ≤ 1024)) :
    acceptHints c w = coreFault c descriptorInvalid 3 op.bundle (2 * 2 ^ 60 + op.src) true
      (modCore c (fun x => { x with outs := x.outs.filter (fun o => o.id != op.id) }) w) := by
  have hcount : (decide (op.count < 1) || decide (1024 < op.count)) = true := by
    rw [Bool.or_eq_true, decide_eq_true_iff, decide_eq_true_iff]
    omega
  simp only [acceptHints, hop, hp, hcount, if_true]

variable (hcount : 1 ≤ op.count ∧ op.count ≤ 1024)
include hcount

theorem acceptHints_unreadable (h : w.good (stagingKey (spireOf c) op.src) (16 * op.count) = false) :
    acceptHints c w = coreFaultAt c uncorrectableRead 3 op.bundle
      (2 * 2 ^ 60 + op.src + (w.firstBad (stagingKey (spireOf c) op.src) (16 * op.count) - stagingKey (spireOf c) op.src)) true
      (uncorrectableAt (w.firstBad (stagingKey (spireOf c) op.src) (16 * op.count))
        (modCore c (fun x => { x with outs := x.outs.filter (fun o => o.id != op.id) }) w)) := by
  simp only [acceptHints, hop, hp, countInRange hcount, Bool.false_eq_true, if_false, h, Bool.not_false, if_true]

variable (hgood : w.good (stagingKey (spireOf c) op.src) (16 * op.count) = true)
include hgood

theorem acceptHints_invalid
    (h : (chunksOf 16 op.count (w.read (stagingKey (spireOf c) op.src) (16 * op.count))).all (hintOk w.hw c p) = false) :
    acceptHints c w = coreFault c descriptorInvalid 3 op.bundle (2 * 2 ^ 60 + op.src) true
      (modCore c (fun x => { x with outs := x.outs.filter (fun o => o.id != op.id) }) w) := by
  simp only [acceptHints, hop, hp, countInRange hcount, Bool.false_eq_true, if_false, hgood, Bool.not_true, h, Bool.not_false, if_true]

/-- The hint that an entry of a `PHINT` gives (R194). -/
def hintOf (c : Nat) (p : Plan) (op : OutOp) (hw : Hw) (e : List Byte) : Hint :=
  ⟨c, p.id, p.part, (coreOf hw c).frame + 1, field e 0 4, field e 4 4, field e 8 2 % 2048, field e 8 2 / 2048, field e 10 2,
    field e 12 4 % 2 ^ 26, bit (field e 12 4) 26, bit (field e 12 4) 27, op.bundle, hw.time.now, [], []⟩

theorem acceptHints_accepts
    (h : (chunksOf 16 op.count (w.read (stagingKey (spireOf c) op.src) (16 * op.count))).all (hintOk w.hw c p) = true) :
    acceptHints c w = raiseWc c op.wc 1 op.bundle 3
      ((modCore c (fun x => { x with outs := x.outs.filter (fun o => o.id != op.id) }) w).up fun h => { h with pager := { h.pager with
        hints := h.pager.hints ++
          (chunksOf 16 op.count (w.read (stagingKey (spireOf c) op.src) (16 * op.count))).map (hintOf c p op w.hw) } }) := by
  simp only [acceptHints, hop, hp, countInRange hcount, Bool.false_eq_true, if_false, hgood, Bool.not_true, h]
  rfl

end

/-! ## Placement of a page (R198 to R200) -/

/-- Noting the same waiting pages again changes no hint. -/
theorem updateFirst_waited (h : Hint) (l : List Hint) :
    updateFirst (fun x => sameHint x h) (fun x => { x with waited := h.waited }) l = l := by
  induction l with
  | nil => rfl
  | cons x l ih =>
    rw [updateFirst]
    split
    next hx =>
      rw [sameHint, beq_iff_eq] at hx
      rw [hx]
    next => rw [ih]

section
variable {t3 : T3Read} {w : Work} {h : Hint} {rest : List Hint} {p : Plan} {i : Nat} {more : List Nat}

/-- A page that is served finishes its hint's page. -/
theorem serveHints_done {res : PlaceResult} {w1 : Work} (hp : findPlan w.hw h.plan = some p)
    (hi : (List.range h.count).filter (fun j => !h.done.contains j) = i :: more) (ht : tryPlace p h i t3 w = .done res w1) :
    serveHints t3 (h :: rest) w = finishPage h i res w1 := by
  have hsame : (w1.up fun hw => { hw with pager := { hw.pager with
      hints := updateFirst (fun x => sameHint x h) (fun x => { x with waited := h.waited }) hw.pager.hints } }) = w1 := by
    simp only [Work.up, updateFirst_waited]
  simp only [serveHints, hp, hi, servePages, ht, hsame]

theorem tryPlace_unknown (ho : hintObject w.hw p.id p.part h.obj = none) : tryPlace p h i t3 w = .done ⟨0, 2, 0⟩ w := by
  simp only [tryPlace, ho]

variable {o : PObj} (ho : hintObject w.hw p.id p.part h.obj = some o)
include ho

theorem tryPlace_beyond (hpage : o.pages ≤ h.first + i) : tryPlace p h i t3 w = .done ⟨0, 2, 0⟩ w := by
  simp only [tryPlace, ho, if_pos hpage]

variable (hpage : h.first + i < o.pages)
include hpage

theorem tryPlace_poolless (he : poolEntry p h.pool = none) : tryPlace p h i t3 w = .done ⟨0, 2, 0⟩ w := by
  simp only [tryPlace, ho, if_neg (Nat.not_le.mpr hpage), he]

variable {entry : Reservation} (he : poolEntry p h.pool = some entry)
include he

/-- A placement of a read-only page for writing answers status 4. -/
def placeStatus (o : PObj) (h : Hint) (n : Nat) : Nat := if h.write && (o.bound.map (fun b => b.2) == some true) then 4 else n

/-- A resident page pinned for the frame of a hint. -/
def placePinned (p : Plan) (o : PObj) (h : Hint) (r : Resident) (flags : Nat) (w : Work) : Attempt :=
  .done ⟨r.addr, placeStatus o h (match r.pool with | .spill _ => 1 | .pool _ _ => 0), flags⟩
    (modResidents (fun l => l.map (fun x => if sameSlot x r then
      pinFor (hintOver p w.hw.time.tick h) h (h.write && !(o.bound.map (fun b => b.2) == some true)) x else x)) w)

theorem tryPlace_pinned {r : Resident}
    (hr : (w.hw.pager.resident.filter (holds o (h.first + i))).find? (fun x => x.pins.any (fun q => q.1 == h.frame)) = some r) :
    tryPlace p h i t3 w = placePinned p o h r
      (b2n (h.waited.contains i || hintLate w.hw h) + 2 * b2n (r.pins.any (fun q => q.1 + 1 == h.frame && q.2.1))) w := by
  simp only [tryPlace, ho, if_neg (Nat.not_le.mpr hpage), he, hr]
  rfl

variable (hr : (w.hw.pager.resident.filter (holds o (h.first + i))).find? (fun x => x.pins.any (fun q => q.1 == h.frame)) = none)
include hr

theorem tryPlace_stays {r : Resident}
    (hs : (w.hw.pager.resident.filter (holds o (h.first + i))).find? (fun x => x.pins.any (fun q => q.1 + 1 == h.frame && q.2.1)) = some r) :
    tryPlace p h i t3 w = placePinned p o h r (b2n (h.waited.contains i || hintLate w.hw h) + 2) w := by
  simp only [tryPlace, ho, if_neg (Nat.not_le.mpr hpage), he, hr, hs]
  rfl

variable (hs : (w.hw.pager.resident.filter (holds o (h.first + i))).find? (fun x => x.pins.any (fun q => q.1 + 1 == h.frame && q.2.1)) = none)
include hs

theorem tryPlace_resident {r : Resident}
    (hq : (w.hw.pager.resident.filter (holds o (h.first + i))).find? (fun x => x.pool == .pool p.id h.pool) = some r) :
    tryPlace p h i t3 w = placePinned p o h r (b2n (h.waited.contains i || hintLate w.hw h)) w := by
  simp only [tryPlace, ho, if_neg (Nat.not_le.mpr hpage), he, hr, hs, hq]
  rfl

variable (hq : (w.hw.pager.resident.filter (holds o (h.first + i))).find? (fun x => x.pool == .pool p.id h.pool) = none)
include hq

/-- Pages of a pool that are pinned for a frame. -/
def placedFor (w : Work) (p : Plan) (h : Hint) : Nat :=
  (w.hw.pager.resident.filter (fun r => r.pool == .pool p.id h.pool && r.pins.any (fun q => q.1 == h.frame))).length

theorem tryPlace_limited (hlim : entry.pinLimit ≤ placedFor w p h) (hk : entry.kind ≠ 3) :
    tryPlace p h i t3 w = .done ⟨0, 5, b2n (h.waited.contains i || hintLate w.hw h)⟩ w := by
  rw [placedFor] at hlim
  simp only [tryPlace, ho, if_neg (Nat.not_le.mpr hpage), he, hr, hs, hq, if_pos hlim, if_neg hk, Option.getD_none]

variable (hlim : placedFor w p h < entry.pinLimit) {slot : Nat} (hslot : freeSlot w.hw p (.pool p.id h.pool) = some slot)
include hlim hslot

theorem tryPlace_brought {bytes : List Byte} {w1 : Work}
    (hf : fetchPage o (h.first + i) p.id ((poolPlace p (.pool p.id h.pool)).2 + slot * 65536) t3 w = .ok (bytes, w1)) :
    tryPlace p h i t3 w = .done
      ⟨(poolPlace p (.pool p.id h.pool)).2 + slot * 65536, placeStatus o h 0, b2n (h.waited.contains i || hintLate w.hw h)⟩
      (putResident (pinFor (hintOver p w.hw.time.tick h) h (h.write && !(o.bound.map (fun b => b.2) == some true))
          ⟨.pool p.id h.pool, slot, (poolPlace p (.pool p.id h.pool)).2 + slot * 65536, o.part, o.id, o.plan, h.first + i, false, [], 0, false, 0⟩)
        (w1.write ((poolPlace p (.pool p.id h.pool)).2 + slot * 65536) bytes)) := by
  rw [placedFor] at hlim
  simp only [tryPlace, ho, if_neg (Nat.not_le.mpr hpage), he, hr, hs, hq, if_neg (Nat.not_le.mpr hlim), hslot, bringIn, hf]
  rfl

theorem tryPlace_unread {w1 : Work}
    (hf : fetchPage o (h.first + i) p.id ((poolPlace p (.pool p.id h.pool)).2 + slot * 65536) t3 w = .error w1) :
    tryPlace p h i t3 w = .done ⟨0, 3, b2n (h.waited.contains i || hintLate w.hw h)⟩ w1 := by
  rw [placedFor] at hlim
  simp only [tryPlace, ho, if_neg (Nat.not_le.mpr hpage), he, hr, hs, hq, if_neg (Nat.not_le.mpr hlim), hslot, bringIn, hf]

end

/-- The acceptance of hints of O21. -/
theorem phintAccept_answers (s : State) (core : BitVec 8) {v : Work} (hlive : pagerLive s.hw = true)
    (hv : acceptHints core.toNat (beginWork s) = v) : AnswersWith (.phintAccept core) s v :=
  answersWith_run _ s _ _ (exec_phintAccept ..) ((if_pos hlive).trans hv)

/-- Settles O21, by the outcome of each check of a hint, and of each place that a page can be found in. -/
theorem pagerHints : Obligations.PagerHints := by
  unfold Obligations.PagerHints
  refine ⟨fun s core => ⟨fun h => ?_, fun hlive op hop => ⟨fun hp => ?_, fun p hp => ⟨fun hc => ?_, fun hc hbad => ?_, fun hc hgood hinv => ?_,
    fun hc hgood hok => ?_⟩⟩⟩, fun s t3 h => ?_, fun s t3 h rest p i more => ?_⟩
  · refine answersWith_run _ s _ _ (exec_phintAccept ..) ?_
    split
    next hlive =>
      rcases h with h | h
      · rw [show pagerLive s.hw = true from hlive] at h
        cases h
      · exact acceptHints_none h
    next => rfl
  · exact phintAccept_answers s core hlive (acceptHints_unbound hop hp)
  · exact phintAccept_answers s core hlive (acceptHints_miscounted hop hp hc)
  · exact phintAccept_answers s core hlive (acceptHints_unreadable hop hp hc hbad)
  · exact phintAccept_answers s core hlive (acceptHints_invalid hop hp hc hgood hinv)
  · exact phintAccept_answers s core hlive (acceptHints_accepts hop hp hc hgood hok)
  · refine answersWith_run _ s _ _ (exec_placement ..) ?_
    split
    next hlive =>
      obtain ⟨hlive, hflush⟩ := (Bool.and_eq_true _ _).mp hlive
      rcases h with h | h | h
      · rw [show pagerLive s.hw = true from hlive] at h
        cases h
      · rw [show (beginWork s).hw.pager = s.hw.pager from rfl]
        rw [show flushHolds (beginWork s).hw = true from h] at hflush
        cases hflush
      · rw [show (beginWork s).hw.pager.hints = [] from h]
        rfl
    next => rfl
  · intro w page does hlive hflush hhints hp hi
    have hserves {res : PlaceResult} {w1 : Work} (ht : tryPlace p h i t3 w = .done res w1) : does res w1 := by
      refine answersWith_run _ s _ _ (exec_placement ..) ?_
      rw [show pagerLive (beginWork s).hw = true from hlive, show flushHolds (beginWork s).hw = false from hflush,
        show (beginWork s).hw.pager.hints = h :: rest from hhints]
      exact (if_pos rfl).trans (serveHints_done hp hi ht)
    refine ⟨fun ho => hserves (tryPlace_unknown ho), fun o ho => ⟨fun hb => hserves (tryPlace_beyond ho hb),
      fun hb he => hserves (tryPlace_poolless ho hb he), fun entry hb he => ?_⟩⟩
    intro readOnly write status pool mine late past base stays pinned placed free
    exact ⟨fun r hr => hserves (tryPlace_pinned ho hb he hr), fun hr r hs => hserves (tryPlace_stays ho hb he hr hs),
      fun hr hs r hq => hserves (tryPlace_resident ho hb he hr hs hq),
      fun hr hs hq => ⟨fun hlim slot hslot => ⟨fun bytes w1 hf => hserves (tryPlace_brought (w := w) ho hb he hr hs hq hlim hslot hf),
        fun w1 hf => hserves (tryPlace_unread (w := w) ho hb he hr hs hq hlim hslot hf)⟩,
        fun hlim hk => hserves (tryPlace_limited ho hb he hr hs hq hlim hk)⟩⟩

end Sys2Proof.Machine
end

section
/-! PROOFS. The journal and tier 3 (R205 to R212): a page whose sectors reach a wear mark brings a fault record, which is a store of its own. -/
namespace Sys2Proof.Machine

open Sys2Proof

/-- A module that is ready, with tier 2 up and nothing in memory, that has written just under 80 % of the rated volume of tier 3. -/
def wornModule : Work := { hw := { keep := { lpUp := true, ready := true }, ctr := [(2 * 2 ^ 20 + 19, 31370441129983)] }, base := [], log := [] }

/-- An object of one page. -/
def wornObject : PObj :=
  { part := 0, id := 1, plan := 0, pages := 1, packed := false, upper := 0, lower := 0, variant := 0, towardZero := false, bound := none,
    home := 0, damaged := 0, durable := 0 }

theorem wornModule_before : wearUsed wornModule.hw < 8000 := by decide +kernel

/-- The page's own store is one; the record of source 12 in Burin's ring makes more. -/
theorem storeTier3_log_worn : 1 < (storeTier3 wornObject 0 [1] wornModule).log.length := by decide +kernel

theorem write_log_length (w : Work) (a : Nat) (bs : List Byte) (hbad : w.hw.bad = []) (hlog : w.log = []) :
    (w.write a bs).log.length ≤ 1 := by
  simp only [Work.write, badUnits, hbad, hlog, List.filter_nil, List.isEmpty_nil, if_true]
  split
  · rw [hlog]
    exact Nat.zero_le 1
  · exact Nat.le_refl 1

/-- Refutes O22: the page that takes `WEAR_USED` to 80 % raises source 12, whose record is written to the trace ring, so the page is not all
that is stored. -/
theorem not_journalAndFlushes : ¬ Obligations.JournalAndFlushes := by
  unfold Obligations.JournalAndFlushes
  rintro ⟨-, hstore, -⟩
  obtain ⟨loc, -, -, -, hlog⟩ := hstore wornObject 0 [1] wornModule
  have hmodel := storeTier3_log_worn
  rw [hlog] at hmodel
  exact absurd hmodel (Nat.not_lt.mpr (write_log_length wornModule _ _ rfl rfl))

end Sys2Proof.Machine
end

section
/-! PROOFS. What the link layer does with a numbered flit (R257 to R259, R558). -/
namespace Sys2Proof.Machine

open Sys2Proof

/-! ## The link layer takes a flit, or discards it -/

section
variable {rx : Rx} {vc : Nat} {w : Work}

theorem linkTake_inactive (h : (portOf w.hw rx.port.val).state ≠ .active) : linkTake rx vc w = (w, false) := if_pos h

theorem linkTake_unordered (h : (portOf w.hw rx.port.val).state = .active) (hseq : rx.seq.toNat ≠ (portOf w.hw rx.port.val).expected) :
    linkTake rx vc w = (sendNak rx.port.val (ackTaken rx w), false) := by
  simp only [linkTake, if_neg (not_not_intro h), if_pos hseq]
  rfl

theorem linkTake_full (h : (portOf w.hw rx.port.val).state = .active) (hseq : rx.seq.toNat = (portOf w.hw rx.port.val).expected)
    (hroom : (receiveBuffers[vc - 1]?).getD 0 ≤ tabGet 0 (portOf w.hw rx.port.val).stored vc) :
    linkTake rx vc w = (sendNak rx.port.val ((ackTaken rx w).up fun h => { h with
      conserve := { h.conserve with overruns := h.conserve.overruns ++ [8 * rx.port.val + vc] } }), false) := by
  simp only [linkTake, if_neg (not_not_intro h), if_neg (not_not_intro hseq), if_pos hroom]
  rfl

theorem linkTake_inOrder (h : InOrder w.hw rx vc) : linkTake rx vc w = (flitStored rx vc w, true) := by
  obtain ⟨hactive, hseq, hroom⟩ := h
  simp only [linkTake, if_neg (not_not_intro hactive), if_neg (not_not_intro hseq), if_neg (Nat.not_le.mpr hroom)]
  rfl

theorem acceptFlit_inOrder (act : Work → Work) (h : InOrder w.hw rx vc) : acceptFlit rx vc act w = act (flitTaken rx vc w) := by
  rw [acceptFlit, linkTake_inOrder h]
  rfl

end

/-! ## What the link layer leaves as it was -/

/-- No more than the ports, the message tallies and the counters differ. -/
def LinkOnly (w v : Work) : Prop :=
  v = { w with hw := { w.hw with
    links := { w.hw.links with ports := v.hw.links.ports }
    conserve := { w.hw.conserve with tally := v.hw.conserve.tally }
    ctr := v.hw.ctr } }

section
variable {w v x : Work}

theorem LinkOnly.refl (w : Work) : LinkOnly w w := rfl

theorem LinkOnly.trans (h : LinkOnly w v) (h' : LinkOnly v x) : LinkOnly w x := by
  unfold LinkOnly at *
  rw [h'.trans (by rw [h])]

theorem LinkOnly.cores (h : LinkOnly w v) : v.hw.cores = w.hw.cores := by
  rw [LinkOnly] at h
  rw [h]

end

theorem modPort_linkOnly (p : Nat) (f : Port → Port) (w : Work) : LinkOnly w (modPort p f w) := rfl

theorem tally_linkOnly (cat : Nat) (f : MsgTally → MsgTally) (w : Work) : LinkOnly w (tally cat f w) := rfl

theorem bump_linkOnly (block index n : Nat) (w : Work) : LinkOnly w (bump block index n w) := rfl

theorem foldl_linkOnly {α : Type} (l : List α) (f : Work → α → Work) (hf : ∀ v a, LinkOnly v (f v a)) (w : Work) :
    LinkOnly w (l.foldl f w) := by
  induction l generalizing w with
  | nil => exact .refl w
  | cons a l ih => exact (hf w a).trans (ih _)

theorem acknowledge_linkOnly (p s : Nat) (w : Work) : LinkOnly w (acknowledge p s w) := by
  unfold acknowledge
  dsimp only
  split
  · exact .refl w
  · split
    · exact .refl w
    · refine (modPort_linkOnly ..).trans (foldl_linkOnly _ _ (fun v e => ?_) _)
      split
      · split
        · exact tally_linkOnly ..
        · exact tally_linkOnly ..
      · exact .refl v

theorem ackTaken_linkOnly (rx : Rx) (w : Work) : LinkOnly w (ackTaken rx w) := by
  unfold ackTaken
  split
  · exact acknowledge_linkOnly ..
  · exact .refl w

theorem flitStored_linkOnly (rx : Rx) (vc : Nat) (w : Work) : LinkOnly w (flitStored rx vc w) :=
  ((ackTaken_linkOnly rx w).trans (modPort_linkOnly ..)).trans (bump_linkOnly ..)

theorem flitTaken_linkOnly (rx : Rx) (vc : Nat) (w : Work) : LinkOnly w (flitTaken rx vc w) :=
  (flitStored_linkOnly rx vc w).trans (modPort_linkOnly ..)

/-! ## Discarded flits -/

/-- The operation keeps no more of a discarded flit than the link layer. -/
def DiscardsAs (rx : Rx) (vc : Nat) (f : Work → Work) : Prop := ∀ w, (linkTake rx vc w).2 = false → f w = (linkTake rx vc w).1

theorem acceptFlit_discards (rx : Rx) (vc : Nat) (act : Work → Work) : DiscardsAs rx vc (acceptFlit rx vc act) := by
  intro w h
  simp only [acceptFlit, h, Bool.false_eq_true, if_false]

theorem acceptLow_discards (rx : Rx) (vc : Nat) (b : List Byte) (act : Work → Work) : DiscardsAs rx vc (acceptLow rx vc b act) := by
  intro w h
  simp only [acceptLow, h, Bool.not_false, if_true]

theorem takeMirrorFlit_discards (rx : Rx) (kind : Nat) (b : List Byte) (h : field b 4 1 = kind) :
    DiscardsAs rx 5 (takeMirrorFlit kind rx b) := by
  intro w hw
  rw [takeMirrorFlit, if_neg (not_not_intro h)]
  exact acceptFlit_discards rx 5 _ w hw

/-! ## Flits with a bad header (R257 to R259) -/

section
variable {rx : Rx} {reserved : Bool} {vc type : Nat} {w : Work}

theorem takeBadFlit_good (h : isBadFlit reserved vc type = false) : takeBadFlit rx reserved vc type w = w := by
  simp only [takeBadFlit, h, Bool.not_false, Bool.true_or, if_true]

theorem takeBadFlit_down (h : (portOf w.hw rx.port.val).state ≠ .init) (h' : (portOf w.hw rx.port.val).state ≠ .active) :
    takeBadFlit rx reserved vc type w = w := by
  simp only [takeBadFlit, beq_false_of_ne h, beq_false_of_ne h', Bool.or_self, Bool.not_false, Bool.or_true, if_true]

variable (hbad : isBadFlit reserved vc type = true)
include hbad

theorem takeBadFlit_init (h : (portOf w.hw rx.port.val).state = .init) :
    takeBadFlit rx reserved vc type w = bump 3 (132 + rx.port.val) 1 w := by
  simp [takeBadFlit, hbad, h]

variable (hactive : (portOf w.hw rx.port.val).state = .active)
include hactive

theorem takeBadFlit_active :
    takeBadFlit rx reserved vc type w =
      if vc = 0 then ackTaken rx (bump 3 (132 + rx.port.val) 1 w)
      else if rx.seq.toNat ≠ (portOf w.hw rx.port.val).expected then sendNak rx.port.val (ackTaken rx (bump 3 (132 + rx.port.val) 1 w))
      else freeBuffer rx.port.val vc (modPort rx.port.val (fun q => { q with
        expected := (q.expected + 1) % 4096
        nakSent := false
        received := tabBump q.received vc 1
        stored := tabBump q.stored vc 1 }) (ackTaken rx (bump 3 (132 + rx.port.val) 1 w))) := by
  have hack : takeAckOf rx (bump 3 (132 + rx.port.val) 1 w) = ackTaken rx (bump 3 (132 + rx.port.val) 1 w) := by
    rw [takeAckOf, ackTaken]
    rw [show portOf (bump 3 (132 + rx.port.val) 1 w).hw rx.port.val = portOf w.hw rx.port.val from rfl, hactive]
    simp
  simp only [takeBadFlit, hbad, hactive, hack, beq_self_eq_true, Bool.true_or, Bool.not_true, Bool.or_self, Bool.false_eq_true, if_false,
    ne_eq, not_true]

end

theorem isBadFlit_iff (reserved : Bool) (vc type : Byte) :
    isBadFlit reserved vc.toNat type.toNat = true ↔ reserved = true ∨ vc = 7 ∨ vcOfType type.toNat ≠ some vc.toNat := by
  have hvc : vc.toNat = 7 ↔ vc = 7 := ⟨fun h => BitVec.eq_of_toNat_eq h, fun h => h ▸ rfl⟩
  simp only [isBadFlit, Bool.or_eq_true, beq_iff_eq, bne_iff_ne, hvc, or_assoc]

/-- Settles O23, by what the link layer finds wrong with a flit. -/
theorem flitsDiscarded : Obligations.FlitsDiscarded := by
  unfold Obligations.FlitsDiscarded
  refine ⟨fun s rx b => ?_, fun s p => ?_, fun s rx reserved vc type => ?_⟩
  · intro port w discards
    have hexec : ∀ i vc f, exec i s = run s f → DiscardsAs rx vc f → discards i vc := by
      intro i vc f hexec hf
      have answers {v : Work} (hv : linkTake rx vc w = (v, false)) : AnswersWith i s v := by
        refine answersWith_run i s _ _ hexec ((hf w ?_).trans ?_) <;> rw [hv]
      exact ⟨fun h hseq => answers (linkTake_unordered h hseq), fun h hseq hroom => answers (linkTake_full h hseq hroom),
        fun h => answers (linkTake_inactive h)⟩
    have haccept : ∀ i vc act, exec i s = run s (acceptFlit rx vc act) → discards i vc := fun i vc act h =>
      hexec i vc _ h (acceptFlit_discards rx vc act)
    have hlow : ∀ i vc act, exec i s = run s (acceptLow rx vc b act) → discards i vc := fun i vc act h =>
      hexec i vc _ h (acceptLow_discards rx vc b act)
    have hmirror : ∀ i kind, exec i s = run s (takeMirrorFlit kind rx b) → field b 4 1 = kind → discards i 5 := fun i kind h hk =>
      hexec i 5 _ h (takeMirrorFlit_discards rx kind b hk)
    exact ⟨haccept _ _ _ (exec_msgSend ..), haccept _ _ _ (exec_msgSignal ..), haccept _ _ _ (exec_msgAnswer ..),
      haccept _ _ _ (exec_collReduce ..), haccept _ _ _ (exec_collGather ..), haccept _ _ _ (exec_advertise ..), haccept _ _ _ (exec_grant ..),
      haccept _ _ _ (exec_abort ..), haccept _ _ _ (exec_absent ..), haccept _ _ _ (exec_floorNotice ..), haccept _ _ _ (exec_audit ..),
      hlow _ _ _ (exec_trace ..), hlow _ _ _ (exec_mgmt ..), hmirror _ _ (exec_hello ..), hmirror _ _ (exec_granule ..),
      hmirror _ _ (exec_page ..), hmirror _ _ (exec_frameEnd ..), hmirror _ _ (exec_ack ..), hmirror _ _ (exec_resend ..),
      hmirror _ _ (exec_release ..)⟩
  · have answers {v : Work} (hv : crcFailed p.val (beginWork s) = v) : AnswersWith (.flitCrcFailed p) s v :=
      answersWith_run _ s _ _ (exec_flitCrcFailed ..) hv
    have hport : portOf (beginWork s).hw p.val = portOf s.hw p.val := rfl
    refine ⟨fun h => answers ?_, fun h => answers ?_, fun h h' => answers ?_⟩
    · simp only [crcFailed, hport, h]
    · simp only [crcFailed, hport, h]
    · simp only [crcFailed, hport]
  · have answers {v : Work} (hv : takeBadFlit rx reserved vc.toNat type.toNat (beginWork s) = v) :
        AnswersWith (.badFlits rx reserved vc type) s v := answersWith_run _ s _ _ (exec_badFlits ..) hv
    have hbad := isBadFlit_iff reserved vc type
    have hvc : vc = 0 ↔ vc.toNat = 0 := ⟨fun h => h ▸ rfl, fun h => BitVec.eq_of_toNat_eq h⟩
    refine ⟨fun h => answers (takeBadFlit_good ?_), fun h h' => answers (takeBadFlit_down h h'),
      fun h hi => answers (takeBadFlit_init (hbad.mpr h) hi), fun h ha h0 => answers ?_, fun h ha h0 hseq => answers ?_,
      fun h ha h0 hseq => answers ?_⟩
    · exact Bool.eq_false_iff.mpr (fun h' => h (hbad.mp h'))
    · rw [takeBadFlit_active (hbad.mpr h) ha, if_pos (hvc.mp h0)]
    · rw [takeBadFlit_active (hbad.mpr h) ha, if_neg (fun h' => h0 (hvc.mpr h'))]
      exact if_pos hseq
    · rw [takeBadFlit_active (hbad.mpr h) ha, if_neg (fun h' => h0 (hvc.mpr h'))]
      exact if_neg (not_not_intro hseq)

end Sys2Proof.Machine
end

section
/-! PROOFS. Messages that arrive at a core (R92 to R96, R266, R267). -/
namespace Sys2Proof.Machine

open Sys2Proof

/-! ## Raises tagged with a frame (R92) -/

section
variable {core src tag frameTag wc count bundle unit : Nat} {armed : Option Armed} {w : Work}

theorem taggedRaise_now (h : frameDistance w.hw core frameTag = 0) :
    taggedRaise core src tag frameTag wc count bundle unit armed w = raiseWc core wc count bundle unit w := by
  simp only [taggedRaise, h]

theorem taggedRaise_held (h : frameDistance w.hw core frameTag = 1) :
    taggedRaise core src tag frameTag wc count bundle unit armed w =
      modCore core (fun c => { c with held := c.held ++ [⟨frameTag, wc, count, armed, bundle, unit⟩] }) w := by
  simp only [taggedRaise, h]

end

theorem frameDistance_linkOnly {w v : Work} (h : LinkOnly w v) (core frameTag : Nat) :
    frameDistance v.hw core frameTag = frameDistance w.hw core frameTag := by
  rw [frameDistance, frameDistance, coreOf_congr h.cores]

theorem coreFenced_linkOnly {w v : Work} (h : LinkOnly w v) (core : Nat) : coreFenced v.hw core = coreFenced w.hw core := by
  rw [LinkOnly] at h
  rw [h]
  rfl

/-! ## Signals and answers -/

section
variable {core src wc frameTag count : Nat} {w : Work}

theorem arriveSignal_fenced (h : coreFenced w.hw core = true) : arriveSignal core src wc frameTag count w = dropMessage core src wc 0 .fence w :=
  if_pos h

variable (hfence : coreFenced w.hw core = false)
include hfence

theorem arriveSignal_unbound (h : (coreOf w.hw core).ctx = 0) :
    arriveSignal core src wc frameTag count w = tallyDropped 0 (bump 3 148 1 w) := by
  simp only [arriveSignal, hfence, Bool.false_eq_true, if_false, h, if_true]

variable (hctx : (coreOf w.hw core).ctx ≠ 0)
include hctx

theorem arriveSignal_late (h : 2 ≤ frameDistance w.hw core frameTag) :
    arriveSignal core src wc frameTag count w = dropMessage core src wc 0 .late w := by
  simp only [arriveSignal, hfence, Bool.false_eq_true, if_false, hctx, h, if_true]

theorem arriveSignal_delivered (h : frameDistance w.hw core frameTag < 2) :
    arriveSignal core src wc frameTag count w = taggedRaise core src wc frameTag wc count 0xFFFF 4 none (tallyDelivered 0 w) := by
  simp only [arriveSignal, hfence, Bool.false_eq_true, if_false, hctx, Nat.not_le.mpr h]

end

/-! ## Data of a `SEND` -/

section
variable {core src tag frameTag bytes : Nat} {w : Work}

theorem admitSend_fenced (h : coreFenced w.hw core = true) :
    admitSend core src tag frameTag bytes w = (dropMessage core src tag bytes .fence w, none) := by
  simp only [admitSend, h, if_true]

variable (hfence : coreFenced w.hw core = false)
include hfence

theorem admitSend_unbound (h : (coreOf w.hw core).ctx = 0) :
    admitSend core src tag frameTag bytes w = (tallyDropped 0 (bump 3 148 1 w), none) := by
  simp only [admitSend, hfence, Bool.false_eq_true, if_false, h, if_true]

variable (hctx : (coreOf w.hw core).ctx ≠ 0)
include hctx

theorem admitSend_late (h : 2 ≤ frameDistance w.hw core frameTag) :
    admitSend core src tag frameTag bytes w = (dropMessage core src tag bytes .late w, none) := by
  simp only [admitSend, hfence, Bool.false_eq_true, if_false, hctx, h, if_true]

variable (hframe : frameDistance w.hw core frameTag < 2)
include hframe

theorem admitSend_unarmed (h : (coreOf w.hw core).armed.find? (fun a => a.tag == tag) = none) :
    admitSend core src tag frameTag bytes w = (dropMessage core src tag bytes .noBuffer w, none) := by
  simp only [admitSend, hfence, Bool.false_eq_true, if_false, hctx, Nat.not_le.mpr hframe, h]

theorem admitSend_armed {a : Armed} (h : (coreOf w.hw core).armed.find? (fun a => a.tag == tag) = some a) :
    admitSend core src tag frameTag bytes w = if a.len < bytes then (dropMessage core src tag bytes .oversize w, none)
      else (modCore core (fun x => { x with armed := x.armed.filter (fun b => b.seq != a.seq) }) w, some a) := by
  simp only [admitSend, hfence, Bool.false_eq_true, if_false, hctx, Nat.not_le.mpr hframe, h]

end

section
variable {core src frameTag : Nat} {a : Armed} {w : Work}

theorem finishSend_now (early : Bool) (h : early = false ∨ frameDistance w.hw core frameTag = 0) :
    finishSend core src frameTag early a w = raiseWc core a.wc 1 a.bundle 4 (tallyDelivered 0 w) := by
  rw [finishSend]
  refine if_pos ?_
  rcases h with rfl | h
  · rfl
  · simp [h]

theorem finishSend_held (h : frameDistance w.hw core frameTag = 1) :
    finishSend core src frameTag true a w =
      modCore core (fun c => { c with held := c.held ++ [⟨frameTag, a.wc, 1, some a, a.bundle, 4⟩] }) (tallyDelivered 0 w) := by
  have hearly : arrivesEarly w.hw core frameTag = true := by rw [arrivesEarly, h]; rfl
  simp only [finishSend, Bool.not_true, Bool.false_or, h, decide_eq_true_eq, (by decide : ¬ (1 = 0)), if_false, hearly, if_true]
  exact taggedRaise_held ((frameDistance_linkOnly (tally_linkOnly ..) ..).trans h)

theorem finishSend_late (h : 2 ≤ frameDistance w.hw core frameTag) :
    finishSend core src frameTag true a w = noteDrop core src a.tag 0 .late (rearm core a (tallyDelivered 0 w)) := by
  have hzero : frameDistance w.hw core frameTag ≠ 0 := by omega
  have hearly : arrivesEarly w.hw core frameTag = false := beq_false_of_ne (by omega)
  simp only [finishSend, Bool.not_true, Bool.false_or, decide_eq_true_eq, hzero, if_false, hearly, Bool.false_eq_true]

end

/-- Settles O24: the flit is taken, and then the checks of a signal, an answer or a `SEND` follow in turn. -/
theorem messagesReceived : Obligations.MessagesReceived := by
  unfold Obligations.MessagesReceived
  refine ⟨fun s rx b hin => ?_, fun core src tag frameTag bytes w => ?_, fun core src frameTag a w => ?_⟩
  · intro w p core counter arrived d
    have htaken (act : Work → Work) : acceptFlit rx 4 act (beginWork s) = act w := acceptFlit_inOrder (w := beginWork s) act ⟨hin.active, hin.next, hin.room⟩
    have hlink : LinkOnly (beginWork s) arrived := (flitTaken_linkOnly rx 4 _).trans (tally_linkOnly ..)
    have hcore : coreOf arrived.hw core = coreOf s.hw core := coreOf_congr hlink.cores core
    have hfenced : coreFenced arrived.hw core = coreFenced s.hw core := coreFenced_linkOnly hlink core
    have hd : frameDistance arrived.hw core (field b 5 1) = d := frameDistance_linkOnly hlink core _
    have hsignal {v : Work} (hv : arriveSignal core rx.src.toNat counter (field b 5 1) (field b 8 2) arrived = v) :
        AnswersWith (.msgSignal rx b) s v := answersWith_run _ s _ _ (exec_msgSignal ..) ((htaken _).trans hv)
    have hanswer {v : Work} (hv : arriveAnswer core (field b 12 4) (bit (field b 6 1) 1) arrived = v) :
        AnswersWith (.msgAnswer rx b) s v := answersWith_run _ s _ _ (exec_msgAnswer ..) ((htaken _).trans hv)
    refine ⟨answersWith_run _ s _ _ (exec_msgSend ..) (by rw [takeMsgSend, htaken]), fun hf => hsignal (arriveSignal_fenced (hfenced.trans hf)),
      fun hf hc => hsignal (arriveSignal_unbound (hfenced.trans hf) (hcore ▸ hc)), fun hf hc => ?_, fun op hop => hanswer ?_,
      fun hop => hanswer ?_⟩
    · intro counted
      have hcounted : frameDistance counted.hw core (field b 5 1) = d := (frameDistance_linkOnly (tally_linkOnly ..) ..).trans hd
      have hctx : (coreOf arrived.hw core).ctx ≠ 0 := hcore ▸ hc
      refine ⟨fun h0 => hsignal ?_, fun h1 => hsignal ?_, fun h2 => hsignal ?_⟩
      · exact (arriveSignal_delivered (hfenced.trans hf) hctx (by omega)).trans (taggedRaise_now (hcounted.trans h0))
      · exact (arriveSignal_delivered (hfenced.trans hf) hctx (by omega)).trans (taggedRaise_held (hcounted.trans h1))
      · exact arriveSignal_late (hfenced.trans hf) hctx (by omega)
    · simp only [arriveAnswer, hcore, hop]
    · simp only [arriveAnswer, hcore, hop]
  · refine ⟨admitSend_fenced, admitSend_unbound, fun hf hc => ⟨admitSend_late hf hc, admitSend_unarmed hf hc, fun hd a ha => ⟨fun hl => ?_,
      fun hl => ?_⟩⟩⟩
    · exact (admitSend_armed hf hc hd ha).trans (if_pos hl)
    · exact (admitSend_armed hf hc hd ha).trans (if_neg (Nat.not_lt.mpr hl))
  · exact ⟨finishSend_now false (.inl rfl), fun h => finishSend_now true (.inr h), finishSend_held, finishSend_late⟩

end Sys2Proof.Machine
end

section
/-! PROOFS. Control, training and time exchanges of the plane links (R260 to R279). -/
namespace Sys2Proof.Machine

open Sys2Proof

/-! ## Link control (R260, R264, R278) -/

theorem numbered_map {α β : Type} (f : α → β) (l : List α) (n : Nat) :
    numbered n (l.map f) = (numbered n l).map (fun e => (e.1, f e.2)) := by
  induction l generalizing n with
  | nil => rfl
  | cons a l ih => rw [List.map_cons, numbered, ih, numbered, List.map_cons]

theorem portOf_modPort (p : Nat) (f : Port → Port) (w : Work) : portOf (modPort p f w).hw p = f (portOf w.hw p) := by
  simp only [portOf, modPort, up_hw, tabMod, tabGet_tabSet_self]

section
variable {p : Nat} {w : Work}

theorem takeCredit_active {ack : Nat} {freed : List (BitVec 16)} (h : (portOf w.hw p).state = .active) :
    takeCredit p ack (freed.map BitVec.toNat) w = modPort p (fun q => { q with
      freedSeen := (numbered 1 freed).foldl (fun t e => tabSet 0 t e.1 e.2.toNat) q.freedSeen }) (acknowledge p ack w) := by
  rw [takeCredit, if_neg (not_not_intro h), numbered_map]
  simp only [List.foldl_map]

theorem dropLink_inactive (cause : Nat) (h : (portOf w.hw p).state ≠ .active) : dropLink p cause w = w := if_neg h

theorem dropLink_active (cause : Nat) (h : (portOf w.hw p).state = .active) : dropLink p cause w = linkDown p cause (afterDown w.hw p) w :=
  if_pos h

theorem replayTimeout_empty (h : (portOf w.hw p).replay = []) : replayTimeout p w = w := by
  simp only [replayTimeout, h]

theorem replayTimeout_waiting {e : Nat × Nat × Flit} {rest : List (Nat × Nat × Flit)} (h : (portOf w.hw p).replay = e :: rest) :
    replayTimeout p w =
      if (portOf w.hw p).state = .active ∧ due w.hw (max (portOf w.hw p).ackAt (portOf w.hw p).replayAt + 2000) = true then
        replayFrom p e.1 (advance w (max (portOf w.hw p).ackAt (portOf w.hw p).replayAt + 2000)) else w := by
  simp only [replayTimeout, h]

theorem replayExhausted_idle (h : (portOf w.hw p).state ≠ .active ∨ (portOf w.hw p).replay = []) : replayExhausted p w = w := by
  rw [replayExhausted]
  exact if_pos (h.imp_right (fun h => by rw [h]; rfl))

theorem replayExhausted_active (h : (portOf w.hw p).state = .active) (hne : (portOf w.hw p).replay ≠ []) :
    replayExhausted p w =
      if ∃ e ∈ (portOf w.hw p).replay, 9 ≤ e.2.1 then linkDown p 1 (afterDown w.hw p) w
      else if (portOf w.hw p).ackAt + 20000 ≤ horizon w.hw then
        linkDown p 1 (afterDown w.hw p) (advance w ((portOf w.hw p).ackAt + 20000)) else w := by
  have hempty : (portOf w.hw p).replay.isEmpty = false := by simpa using hne
  have hany : (portOf w.hw p).replay.any (fun e => decide (9 ≤ e.2.1)) = true ↔ ∃ e ∈ (portOf w.hw p).replay, 9 ≤ e.2.1 := by simp
  simp only [replayExhausted, h, ne_eq, not_true, hempty, Bool.false_eq_true, or_self, if_false, hany, due, decide_eq_true_eq]
  rw [dropLink_active 1 h, dropLink_active 1 (w := advance w _) h]
  rfl

end

/-- Settles O25, by the state of the port and the flits that wait for an acknowledgement. -/
theorem linkControl : Obligations.LinkControl := by
  unfold Obligations.LinkControl
  intro s p ack expected freed cause port w down sendAt
  have credit {v : Work} (hv : takeCredit p.val ack.toNat (freed.toList.map BitVec.toNat) w = v) : AnswersWith (.credit p ack freed) s v :=
    answersWith_run _ s _ _ (exec_credit ..) hv
  have nak {v : Work} (hv : takeNak p.val ack.toNat expected.toNat w = v) : AnswersWith (.nak p ack expected) s v :=
    answersWith_run _ s _ _ (exec_nak ..) hv
  have downs {v : Work} (hv : dropLink p.val 5 w = v) : AnswersWith (.downRequest p cause) s v :=
    answersWith_run _ s _ _ (exec_downRequest ..) hv
  have lost {v : Work} (hv : dropLink p.val 2 w = v) : AnswersWith (.lockLost p) s v := answersWith_run _ s _ _ (exec_lockLost ..) hv
  have timeout {v : Work} (hv : replayTimeout p.val w = v) : AnswersWith (.replayTimeout p) s v :=
    answersWith_run _ s _ _ (exec_replayTimeout ..) hv
  have exhausted {v : Work} (hv : replayExhausted p.val w = v) : AnswersWith (.replayExhausted p) s v :=
    answersWith_run _ s _ _ (exec_replayExhausted ..) hv
  refine ⟨fun h => ⟨credit ?_, nak ?_, downs (dropLink_active 5 h), lost (dropLink_active 2 h),
    fun hnil => ⟨timeout (replayTimeout_empty hnil), exhausted (replayExhausted_idle (.inr hnil))⟩, fun seq n f rest hr => ?_⟩,
    fun h => ⟨credit (if_pos h), nak (if_pos h), downs (dropLink_inactive 5 h), lost (dropLink_inactive 2 h), timeout ?_,
      exhausted (replayExhausted_idle (.inl h))⟩⟩
  · exact takeCredit_active h
  · exact if_neg (not_not_intro h)
  · have hne : port.replay ≠ [] := by simp [hr]
    have hex := replayExhausted_active (w := w) h hne
    have hall (hlow : ∀ e ∈ port.replay, e.2.1 < 9) : ¬∃ e ∈ port.replay, 9 ≤ e.2.1 := fun ⟨e, he, hn⟩ => Nat.not_le.mpr (hlow e he) hn
    refine ⟨fun hd => timeout ?_, fun hd => timeout ?_, fun h9 => exhausted (hex.trans (if_pos h9)),
      fun hlow hd => exhausted (hex.trans ((if_neg (hall hlow)).trans (if_pos hd))),
      fun hlow hd => exhausted (hex.trans ((if_neg (hall hlow)).trans (if_neg (Nat.not_le.mpr hd))))⟩
    · exact (replayTimeout_waiting hr).trans (if_pos ⟨h, decide_eq_true hd⟩)
    · exact (replayTimeout_waiting hr).trans (if_neg (fun hn => Nat.not_le.mpr hd (of_decide_eq_true hn.2)))
  · by_cases hnil : port.replay = []
    · exact replayTimeout_empty hnil
    · obtain ⟨e, rest, hr⟩ := List.exists_cons_of_ne_nil hnil
      exact (replayTimeout_waiting hr).trans (if_neg (fun hn => h hn.1))

end Sys2Proof.Machine
end

section
/-! PROOFS. Training, discovery and time exchanges of the plane links (R268, R271 to R277). -/
namespace Sys2Proof.Machine

open Sys2Proof

/-! ## Training (R271 to R273) -/

section
variable {p : Nat} {w : Work}

theorem failTraining_eq (cause : Nat) : failTraining p cause w = modPort p (fun x => { x with
    state := .down
    downCause := cause
    fullTraining := true
    retryAt := some (w.hw.time.now + 10000000000) })
    (if (portOf w.hw p).fullTraining then modKeep (fun k => { k with
      failedTraining := if k.failedTraining.contains p then k.failedTraining else k.failedTraining ++ [p] }) w else w) := rfl

theorem detectLanes_trains {lanes : Nat} (h : (portOf w.hw p).state = .detect) (hc : w.hw.power.cupola = true) (hl : 16 ≤ laneCount lanes) :
    detectLanes p lanes w = modPort p (fun x => { x with
      state := .train
      fullTraining := (portOf w.hw p).fullTraining || !trainingValid w.hw (64 + p)
      saved := !((portOf w.hw p).fullTraining || !trainingValid w.hw (64 + p))
      retryAt := none }) w := by
  rw [detectLanes, if_neg]
  simp [h, hc, hl]

theorem detectLanes_waits {lanes : Nat}
    (h : (portOf w.hw p).state ≠ .detect ∨ w.hw.power.cupola = false ∨ laneCount lanes < 16) : detectLanes p lanes w = w := by
  rw [detectLanes, if_pos]
  simpa using h

theorem trainEnds_other (ok : Bool) (h : (portOf w.hw p).state ≠ .train) : trainEnds p ok w = w := if_pos h

section
variable (h : (portOf w.hw p).state = .train)
include h

theorem trainEnds_ok : trainEnds p true w = modPort p (fun x => { x with state := .align }) w := if_neg (not_not_intro h)

theorem trainEnds_failed : trainEnds p false w = if (portOf w.hw p).fullTraining then failTraining p 8 w
    else modPort p (fun x => { x with fullTraining := true, saved := false }) w := if_neg (not_not_intro h)

end

/-- The port aligned, with one lane left out of its receive direction. -/
def alignedPort (p lane spare : Nat) (w : Work) : Work := modPort p (fun x => { x with
  state := .init
  exclude := none
  rxSpare := spare
  rxMask := 2 ^ 17 - 1 - 2 ^ lane
  initGot := false
  initSeen := false }) w

theorem alignLanes_other {rx tx : Nat} (h : (portOf w.hw p).state ≠ .align) : alignLanes p rx tx w = w := if_pos h

section
variable {rx tx : Nat} (h : (portOf w.hw p).state = .align)
include h

theorem alignLanes_fails (hl : laneCount (withoutLane rx (portOf w.hw p).exclude) < 16 ∨ laneCount tx < 16) :
    alignLanes p rx tx w = failTraining p 3 w := by
  rw [alignLanes]
  exact (if_neg (not_not_intro h)).trans (if_pos hl)

theorem alignLanes_aligned (hr : 16 ≤ laneCount (withoutLane rx (portOf w.hw p).exclude)) (ht : 16 ≤ laneCount tx) :
    alignLanes p rx tx w =
      alignedPort p (chooseSpare (withoutLane rx (portOf w.hw p).exclude) (defectLane w.hw p 0) w).1.1
        (chooseSpare (withoutLane rx (portOf w.hw p).exclude) (defectLane w.hw p 0) w).1.2
        (chooseSpare (withoutLane rx (portOf w.hw p).exclude) (defectLane w.hw p 0) w).2 := by
  rw [alignLanes]
  exact (if_neg (not_not_intro h)).trans (if_neg (by omega))

end

section
variable {good named : Nat}

theorem chooseSpare_bad {i : Nat} (h : (List.range 17).find? (fun k => !(bit good k)) = some i) : chooseSpare good named w = ((i, i), w) := by
  simp only [chooseSpare, h]

variable (h : (List.range 17).find? (fun k => !(bit good k)) = none)
include h

theorem chooseSpare_named (hn : named < 17) : chooseSpare good named w = ((named, named), w) := by
  simp only [chooseSpare, h, if_pos hn]

theorem chooseSpare_free (hn : 17 ≤ named) : chooseSpare good named w = ((freeOf w % 17, 31), freeUsed w) := by
  simp only [chooseSpare, h, if_neg (Nat.not_lt.mpr hn)]

end

theorem retryTraining_idle (h : (portOf w.hw p).retryAt = none ∨ (portOf w.hw p).state ≠ .down) : retryTraining p w = w := by
  unfold retryTraining
  dsimp only
  split
  · rfl
  next t ht =>
    refine if_neg fun hd => ?_
    rcases h with h | h
    · rw [h] at ht
      cases ht
    · exact h hd.1

theorem retryTraining_due {t : Nat} (h : (portOf w.hw p).retryAt = some t) (hs : (portOf w.hw p).state = .down) (ht : t ≤ horizon w.hw) :
    retryTraining p w = modPort p (fun x => { x with state := afterDown w.hw p, retryAt := none }) (advance w t) := by
  simp only [retryTraining, h]
  exact if_pos ⟨hs, decide_eq_true ht⟩

/-! ## Discovery and worn lanes (R268, R273 to R275) -/

theorem reviewLane_idle {lane corrected symbols : Nat} (h : (portOf w.hw p).state ≠ .active ∨ bit (portOf w.hw p).rxMask lane = false) :
    reviewLane p lane corrected symbols w = w := by
  rw [reviewLane]
  exact if_pos (h.imp_right (fun h => by rw [h]; rfl))

theorem reviewLane_active {lane corrected symbols : Nat} (h : (portOf w.hw p).state = .active) (hl : bit (portOf w.hw p).rxMask lane = true) :
    reviewLane p lane corrected symbols w =
      if corrected * 10000 ≤ symbols then bump 3 (24 + 17 * p + lane) corrected w
      else if (portOf w.hw p).rxSpare = 31 then linkDown p 4 (afterDown w.hw p) (modPort p (fun x => { x with exclude := some lane })
        (bump 3 (24 + 17 * p + lane) corrected w))
      else raise 17 6 p 0 0 (modPort p (fun x => { x with laneWear := true }) (bump 3 (24 + 17 * p + lane) corrected w)) := by
  have hport := portOf_modPort p (fun x => { x with exclude := some lane }) (bump 3 (24 + 17 * p + lane) corrected w)
  have hdrop : dropLink p 4 (modPort p (fun x => { x with exclude := some lane }) (bump 3 (24 + 17 * p + lane) corrected w)) =
      linkDown p 4 (afterDown w.hw p) (modPort p (fun x => { x with exclude := some lane }) (bump 3 (24 + 17 * p + lane) corrected w)) := by
    rw [dropLink_active 4 (by rw [hport]; exact h), afterDown, hport]
    rfl
  rw [reviewLane, ← hdrop]
  refine if_neg ?_
  simp [h, hl]

theorem takeInit_other {b : List Byte} (h : (portOf w.hw p).state ≠ .init) : takeInit p b w = w := if_pos h

theorem takeInit_mismatch {b : List Byte} (h : (portOf w.hw p).state = .init) (hm : initMismatch w.hw p b = true) :
    takeInit p b w = linkDown p 7 (afterDown w.hw p) w := (if_neg (not_not_intro h)).trans (if_pos hm)

/-- What a `LINK_INIT` says of the far end. -/
def peerSet (p : Nat) (b : List Byte) (w : Work) : Work := modPort p (fun x => { x with
  initGot := true
  initSeen := field b 3 1 % 2 == 1
  peerNode := field b 4 4
  peerPort := field b 8 2
  peerPlane := field b 1 1 % 4
  peerIndex := field b 2 1 % 2
  peerRole := field b 0 1 % 2
  txMask := field b 32 4 % 2 ^ 17
  txSpare := maskSpare (field b 32 4 % 2 ^ 17)
  creditInit := (List.range 7).foldl (fun t i => tabSet 0 t (i + 1) (field b (16 + 2 * i) 2)) [] }) w

theorem takeInit_match {b : List Byte} (h : (portOf w.hw p).state = .init) (hm : initMismatch w.hw p b = false) :
    takeInit p b w = if field b 3 1 % 2 = 1 then enterActive p (field b 10 2) (peerSet p b w) else peerSet p b w := by
  rw [takeInit]
  exact (if_neg (not_not_intro h)).trans (if_neg (by simp [hm]))

theorem holdExpires_none (h : (portOf w.hw p).holdUntil = none) : holdExpires p w = w := by
  simp only [holdExpires, h]

theorem holdExpires_due {t : Nat} (h : (portOf w.hw p).holdUntil = some t) (ht : t ≤ horizon w.hw) :
    holdExpires p w = endHold p (advance w t) := by
  simp only [holdExpires, h]
  exact if_pos (decide_eq_true ht)

end

/-- Settles O26, by the state of the port that each event of a training or of discovery finds. -/
theorem linkBringUp : Obligations.LinkBringUp := by
  unfold Obligations.LinkBringUp
  refine ⟨fun s p lanes rxGood txGood => ?_, fun s p b lane corrected symbols => ?_⟩
  all_goals rw [show portOf s.hw p.val = portOf (beginWork s).hw p.val from rfl, show horizon s.hw = horizon (beginWork s).hw from rfl]
  · intro q w full good named aligned
    have detects {v : Work} (hv : detectLanes p.val lanes.toNat w = v) : AnswersWith (.detect p lanes) s v :=
      answersWith_run _ s _ _ (exec_detect ..) hv
    have trains (ok : Bool) {v : Work} (hv : trainEnds p.val ok w = v) : AnswersWith (.train p ok) s v :=
      answersWith_run _ s _ _ (exec_train ..) hv
    have aligns {v : Work} (hv : alignLanes p.val rxGood.toNat txGood.toNat w = v) : AnswersWith (.align p rxGood txGood) s v :=
      answersWith_run _ s _ _ (exec_align ..) hv
    have retries {v : Work} (hv : retryTraining p.val w = v) : AnswersWith (.trainingRetry p) s v :=
      answersWith_run _ s _ _ (exec_trainingRetry ..) hv
    refine ⟨fun h hc hl => detects (detectLanes_trains h hc hl), fun h => detects (detectLanes_waits h),
      fun h => ⟨trains _ (trainEnds_ok h), fun hf => trains _ ((trainEnds_failed h).trans (if_pos hf)),
        fun hf => trains _ ((trainEnds_failed h).trans (if_neg (ne_true_of_eq_false hf)))⟩,
      fun h => ⟨trains _ (trainEnds_other _ h), trains _ (trainEnds_other _ h)⟩, fun h hl => aligns (alignLanes_fails h hl),
      fun h hr ht => ?_, fun h => aligns (alignLanes_other h), fun t h hs ht => retries (retryTraining_due h hs ht),
      fun h => retries (retryTraining_idle h), fun cause => failTraining_eq cause⟩
    have halign := alignLanes_aligned h hr ht
    have hchoose {lane spare : Nat} {v : Work} (hc : chooseSpare good named w = ((lane, spare), v)) :
        AnswersWith (.align p rxGood txGood) s (aligned lane spare v) := by
      refine aligns (halign.trans ?_)
      change alignedPort p.val (chooseSpare good named w).1.1 (chooseSpare good named w).1.2 (chooseSpare good named w).2 = _
      rw [hc]
      rfl
    exact ⟨fun i hi => hchoose (chooseSpare_bad hi), fun hi => ⟨fun hn => hchoose (chooseSpare_named hi hn),
      fun hn => hchoose (chooseSpare_free hi hn)⟩⟩
  · intro q w mask peer noted worn
    have sends {v : Work} (hv : sendInit p.val w = v) : AnswersWith (.linkInitSend p) s v := answersWith_run _ s _ _ (exec_linkInitSend ..) hv
    have takes {v : Work} (hv : takeInit p.val b w = v) : AnswersWith (.linkInit p b) s v := answersWith_run _ s _ _ (exec_linkInit ..) hv
    have reviews {v : Work} (hv : reviewLane p.val lane.val corrected.toNat symbols.toNat w = v) :
        AnswersWith (.laneRetrain p lane corrected symbols) s v := answersWith_run _ s _ _ (exec_laneRetrain ..) hv
    have holds {v : Work} (hv : holdExpires p.val w = v) : AnswersWith (.portHoldExpiry p) s v :=
      answersWith_run _ s _ _ (exec_portHoldExpiry ..) hv
    refine ⟨fun h => ⟨sends (if_pos h), fun hm => takes (takeInit_mismatch h hm),
        fun hm hs => takes ((takeInit_match h hm).trans (if_neg (by omega))), fun hm hs => takes ((takeInit_match h hm).trans (if_pos hs))⟩,
      fun h => ⟨sends (if_neg h), takes (takeInit_other h)⟩, fun h hl => ⟨fun hw => ?_, fun hw hspare => ?_, fun hw hspare => ?_⟩,
      fun h => reviews (reviewLane_idle h), fun t h ht => holds (holdExpires_due h ht), fun h => holds (holdExpires_none h)⟩
    · exact reviews ((reviewLane_active h hl).trans (if_pos (Nat.not_lt.mp hw)))
    · exact reviews ((reviewLane_active h hl).trans ((if_neg (Nat.not_le.mpr hw)).trans (if_pos hspare)))
    · exact reviews ((reviewLane_active h hl).trans ((if_neg (Nat.not_le.mpr hw)).trans (if_neg hspare)))

/-! ## Time exchanges (R276, R277) -/

theorem takeAckOf_eq (rx : Rx) (w : Work) : takeAckOf rx w = if (portOf w.hw rx.port.val).state = .active then ackTaken rx w else w := by
  rw [takeAckOf, ackTaken]
  cases rx.ackValid <;> simp

/-- An acknowledgement leaves the time exchanges alone. -/
theorem takeAckOf_exchanges (rx : Rx) (w : Work) : (takeAckOf rx w).hw.links.exchanges = w.hw.links.exchanges := by
  have hlink : LinkOnly w (takeAckOf rx w) := by
    unfold takeAckOf
    split
    · exact acknowledge_linkOnly ..
    · exact .refl w
  rw [hlink]

/-- Settles O27, by whether a request is due, an answer is asked for, and a response is to an outstanding request. -/
theorem timeExchanges : Obligations.TimeExchanges := by
  unfold Obligations.TimeExchanges
  intro s p rx b w l now acked waits asks answers asked forgets
  have exchange {v : Work} (hv : sendTimeRequest p.val w = v) : AnswersWith (.timeExchange p) s v :=
    answersWith_run _ s _ _ (exec_timeExchange ..) hv
  have request {v : Work} (hv : answerTime rx b w = v) : AnswersWith (.timeRequest rx b) s v :=
    answersWith_run _ s _ _ (exec_timeRequest ..) hv
  have response {v : Work} (hv : takeTimeResponse rx b w = v) : AnswersWith (.timeResponse rx b) s v :=
    answersWith_run _ s _ _ (exec_timeResponse ..) hv
  have hack : takeAckOf rx w = acked := takeAckOf_eq rx w
  have hfind : acked.hw.links.exchanges.find? (fun e => e.1 == field b 0 4 && e.2.1 == rx.port.val) = asked := by
    rw [← hack, takeAckOf_exchanges]
    rfl
  have hasks : ((portOf s.hw p.val).state ≠ .active ∨ s.hw.time.rackRef = true ∨ (((portOf s.hw (p.val + 1 - 2 * (p.val % 2))).state == .active)
      = true ∧ tabGet 0 l.lastLink (p.val / 2) = p.val % 2 + 1)) ↔ ¬asks := by
    simp only [asks, beq_iff_eq, not_and_or, Bool.not_eq_false, not_forall, not_not, exists_prop, ne_eq]
  have hanswers : ((portOf s.hw rx.port.val).state ≠ .active ∨ (!s.hw.time.rackRef) = true ∨ field b 4 1 ≠ 0) ↔ ¬answers := by
    simp only [answers, not_and_or, Bool.not_eq_true', Bool.not_eq_true, ne_eq]
  refine ⟨fun h => exchange ?_, fun h => exchange (if_pos (hasks.mpr h)), fun h => request ?_, fun h => request ?_, fun h => response ?_,
    fun id port t1 h => ⟨fun h1 ht => response ?_, fun ht => response ?_⟩⟩
  · exact if_neg (fun hn => hasks.mp hn h)
  · rw [← hack]
    exact if_neg (fun hn => hanswers.mp hn h)
  · rw [← hack]
    exact if_pos (hanswers.mpr h)
  · simp only [takeTimeResponse, hack, hfind, h]
  · simp only [takeTimeResponse, hack, hfind, h]
    exact if_neg (by rintro (hn | hn); exacts [hn h1, Nat.not_lt.mpr ht hn])
  · simp only [takeTimeResponse, hack, hfind, h]
    exact if_pos ht

end Sys2Proof.Machine
end

section
/-! PROOFS. Transfers of the package fabric (R21, R270, R282, R467, R559). -/
namespace Sys2Proof.Machine

open Sys2Proof

/-! ## Arrival and resend of a transfer (R282, R467) -/

theorem heldByPair_iff (hw : Hw) (i : Nat) (m : FabricMsg) :
    heldByPair hw i m = true ↔ ∃ x ∈ hw.links.fabric.take i,
      x.srcCore = m.srcCore ∧ x.destCore = m.destCore ∧ (x.delivered = false ∨ (0 < x.resends ∧ x.acked = false)) := by
  simp [heldByPair, and_assoc]

section
variable {i : Nat} {m : FabricMsg} {w : Work}

theorem cut_iff : ((m.copies.all (fun c => c.severed) && !m.acked) = true) ↔ ((∀ c ∈ m.copies, c.severed = true) ∧ m.acked = false) := by
  simp

theorem fabricArrives_none (h : w.hw.links.fabric[i]? = none) : fabricArrives i w = w := by
  simp only [fabricArrives, h]

theorem fabricResends_none (h : w.hw.links.fabric[i]? = none) : fabricResends i w = w := by
  simp only [fabricResends, h]

variable (hm : w.hw.links.fabric[i]? = some m)
include hm

theorem fabricArrives_copyless (h : m.copies = []) : fabricArrives i w = w := by
  simp only [fabricArrives, hm, h]

variable {c : FabricCopy} {rest : List FabricCopy}

theorem fabricArrives_held (hc : m.copies = c :: rest) (h : c.gone = false ∨ (m.delivered = false ∧ heldByPair w.hw i m = true)) :
    fabricArrives i w = w := by
  simp only [fabricArrives, hm, hc]
  refine if_pos ?_
  simpa using h

/-- A copy that has arrived, with its credits given back and what is left of its transfer. -/
def copyDone (i : Nat) (m : FabricMsg) (c : FabricCopy) (rest : List FabricCopy) (w : Work) : Work :=
  freeCopy m c (modFabric (fun l =>
    if (m.acked || !c.severed) && (if m.acked || !c.severed then rest.filter (fun x => x.gone) else rest).isEmpty then l.eraseIdx i
    else l.set i { m with
      delivered := true
      acked := m.acked || !c.severed
      copies := if m.acked || !c.severed then rest.filter (fun x => x.gone) else rest }) w)

theorem fabricArrives_arrives (hc : m.copies = c :: rest) (hgone : c.gone = true) (h : m.delivered = true ∨ heldByPair w.hw i m = false) :
    fabricArrives i w = if m.delivered then tallyDuplicate 0 (copyDone i m c rest w) else deliverFabric m (copyDone i m c rest w) := by
  simp only [fabricArrives, hm, hc]
  refine if_neg ?_
  rcases h with h | h <;> simp [hgone, h]

theorem fabricResends_waits
    (h : ¬((∀ c ∈ m.copies, c.severed = true) ∧ m.acked = false) ∨ horizon w.hw < m.sentAt + 5000) : fabricResends i w = w := by
  simp only [fabricResends, hm]
  refine if_pos ?_
  rw [Bool.or_eq_true, Bool.not_eq_true', Bool.not_eq_true', Bool.eq_false_iff, ne_eq, cut_iff]
  exact h.imp_right fun h => decide_eq_false (Nat.not_le.mpr h)

theorem fabricResends_lost (h : (∀ c ∈ m.copies, c.severed = true) ∧ m.acked = false) (ht : m.sentAt + 5000 ≤ horizon w.hw) :
    fabricResends i w = if m.resends < 8 then bump 8 (196 + spireOf m.srcCore) 1 (resendFabric i m (advance w (m.sentAt + 5000)))
      else coreFaultAt m.srcCore uncorrectableRead 4 m.bundle
        (freeOf (raise 14 2 (spireOf m.srcCore) 0 0 (if m.delivered then modFabric (fun l => l.eraseIdx i) (advance w (m.sentAt + 5000))
          else tallyDropped 0 (modFabric (fun l => l.eraseIdx i) (advance w (m.sentAt + 5000))))) % 2 ^ 64) true
        (freeUsed (raise 14 2 (spireOf m.srcCore) 0 0 (if m.delivered then modFabric (fun l => l.eraseIdx i) (advance w (m.sentAt + 5000))
          else tallyDropped 0 (modFabric (fun l => l.eraseIdx i) (advance w (m.sentAt + 5000)))))) := by
  have hcut := cut_iff.mpr h
  have hdue : due w.hw (m.sentAt + 5000) = true := decide_eq_true ht
  simp only [fabricResends, hm, hcut, hdue, Bool.not_true, Bool.or_self, Bool.false_eq_true, if_false]
  cases m.delivered <;> rfl

end

/-! ## Messages without an answer (R270) -/

theorem ackTimeout_none {core seq : Nat} {w : Work}
    (h : (coreOf w.hw core).msgs.find? (fun m => m.kind == .send && m.ack && m.left && m.seq == seq) = none) : ackTimeout core seq w = w := by
  simp only [ackTimeout, h]

theorem ackTimeout_some {core seq : Nat} {w : Work} {op : MsgOp}
    (h : (coreOf w.hw core).msgs.find? (fun m => m.kind == .send && m.ack && m.left && m.seq == seq) = some op) :
    ackTimeout core seq w =
      if isOwnEndpoint w.hw op.endpoint = false ∧ stillQueued w.hw core op.id = false ∧ op.leftAt + 100000 ≤ horizon w.hw then
        completeMsg core op.id true (advance w (op.leftAt + 100000)) else w := by
  simp only [ackTimeout, h, due]
  by_cases hown : isOwnEndpoint w.hw op.endpoint = true
  · simp [hown]
  · by_cases hq : stillQueued w.hw core op.id = true
    · simp [hq]
    · simp only [hown, hq, Bool.false_or, true_and, Bool.not_eq_true', decide_eq_false_iff_not]
      by_cases ht : op.leftAt + 100000 ≤ horizon w.hw <;> simp [ht]

/-! ## Credits of a link (R559) -/

theorem heldCredits_modCredits (link : Nat) (f : Nat → Nat) (w : Work) : heldCredits (modCredits link f w).hw link = f (heldCredits w.hw link) := by
  simp only [heldCredits, modCredits, up_hw, tabMod, tabGet_tabSet_self]

/-- Settles O28, by the state of the transfer, the ring's geometry, and the table of credits. -/
theorem fabricTransfers : Obligations.FabricTransfers := by
  unfold Obligations.FabricTransfers
  refine ⟨fun s i m => ?_, fun s core seq => ?_, fun hw a b => ?_, fun w i m c rest link hm hc hgone => ?_⟩
  · rw [show horizon s.hw = horizon (beginWork s).hw from rfl, show s.hw.links.fabric = (beginWork s).hw.links.fabric from rfl]
    intro w l n earlier lost later
    have arrives {v : Work} (hv : fabricArrives n w = v) : AnswersWith (.packageFabricTransfer i) s v :=
      answersWith_run _ s _ _ (exec_packageFabricTransfer ..) hv
    have resends {v : Work} (hv : fabricResends n w = v) : AnswersWith (.fabricResend i) s v :=
      answersWith_run _ s _ _ (exec_fabricResend ..) hv
    have hearlier : heldByPair w.hw n m = true ↔ earlier := heldByPair_iff w.hw n m
    refine ⟨fun h => ⟨arrives (fabricArrives_none h), resends (fabricResends_none h)⟩, fun h hc => arrives (fabricArrives_copyless h hc),
      fun h c rest hc => ?_, fun h hl => resends (fabricResends_waits h hl), fun h hl ht => ⟨fun hr => ?_, fun hr => ?_⟩⟩
    · refine ⟨fun hg => arrives (fabricArrives_held h hc (.inl hg)),
        fun hd he => arrives (fabricArrives_held h hc (.inr ⟨hd, hearlier.mpr he⟩)), fun hg hd he => arrives ?_, fun hg hd => arrives ?_⟩
      · have hfree : heldByPair w.hw n m = false := Bool.eq_false_iff.mpr fun hn => he (hearlier.mp hn)
        exact (fabricArrives_arrives h hc hg (.inr hfree)).trans (if_neg (ne_true_of_eq_false hd))
      · exact (fabricArrives_arrives h hc hg (.inl hd)).trans (if_pos hd)
    · exact resends ((fabricResends_lost h hl ht).trans (if_pos hr))
    · exact resends ((fabricResends_lost h hl ht).trans (if_neg (Nat.not_lt.mpr hr)))
  · intro w asked
    have times {v : Work} (hv : ackTimeout core.toNat seq.toNat w = v) : AnswersWith (.ackTimeout core seq) s v :=
      answersWith_run _ s _ _ (exec_ackTimeout ..) hv
    exact ⟨fun h => times (ackTimeout_none h), fun op h => ⟨fun hl => times ((ackTimeout_some h).trans (if_pos hl)),
      fun hl => times ((ackTimeout_some h).trans (if_neg hl))⟩⟩
  · intro next before
    refine ⟨fun h => if_pos (congrArg Fin.val h), fun h => ?_, fun h => ?_⟩
    · exact (if_neg (by omega)).trans (if_pos h)
    · have hroute : fabricRoute hw a.val b.val =
          if routerUp hw next then .through next else if routerUp hw before then .through before else .viaCupola :=
        (if_neg (by omega)).trans (if_neg (by omega))
      refine ⟨fun hn => hroute.trans (if_pos hn), fun hn hb => hroute.trans ?_, fun hn hb => hroute.trans ?_⟩ <;> simp [hn, hb]
  · intro sent hlink
    have hfind : m.copies.find? (fun c => !c.gone) = some c := by rw [hc, List.find?_cons_of_pos (by rw [hgone]; rfl)]
    refine ⟨fun hgo => ?_, fun hgo => ?_, fun hsev => ?_⟩
    · have heq : goFabric i w = setFabric i { m with copies := updateFirst (fun x => !x.gone) (fun _ => sent) m.copies, sentAt := w.hw.time.now }
          (modCredits link (fun n => n - fabricUnits m) w) := by
        simp only [goFabric, hm, hfind]
        refine (if_pos hgo).trans ?_
        rw [show copyLink m { c with route := fabricRoute w.hw (spireOf m.srcCore) (spireOf m.destCore), gone := true } = some link from hlink]
      rw [heq]
      exact heldCredits_modCredits link (fun n => n - fabricUnits m) w
    · simp only [goFabric, hm, hfind]
      exact if_neg (ne_true_of_eq_false hgo)
    · have hfly : sent.flying = true := by simp [sent, FabricCopy.flying, hsev]
      simp only [freeCopy, hfly, if_true, hlink]
      exact heldCredits_modCredits ..

end Sys2Proof.Machine
end

section
/-! PROOFS. Collective data, window records and trace flits that arrive on a plane port (R296 to R298, R306 to R308, R311, R550, R560). -/
namespace Sys2Proof.Machine

open Sys2Proof

/-! ## Window records (R297) -/

section
variable {p : Nat} {r : List Byte} {w : Work}

theorem takeGrant_groupless (h : findGroup w.hw (field r 4 4) = none) : takeGrant p r w = bump 4 8 1 w := by
  simp only [takeGrant, h]

theorem takeAbort_groupless (h : findGroup w.hw (field r 4 4) = none) : takeAbort false r w = bump 4 8 1 w := by
  simp only [takeAbort, h]

theorem takeAbsent_groupless (h : findGroup w.hw (field r 4 4) = none) : takeAbsent false r w = bump 4 8 1 w := by
  simp only [takeAbsent, h]

theorem takeFloor_groupless (h : findGroup w.hw (field r 4 4) = none) : takeFloor false r w = bump 4 8 1 w := by
  simp only [takeFloor, h]

theorem takeAudit_groupless (h : findGroup w.hw (field r 4 4) = none) : takeAudit p r w = w := by
  simp only [takeAudit, h]

variable {g : Group} (hg : findGroup w.hw (field r 4 4) = some g)
include hg

theorem takeGrant_frameless (h : tagFrame w.hw g (field r 1 1) = none) : takeGrant p r w = bump 4 8 1 w := by
  simp only [takeGrant, hg, h, Option.bind_none]

theorem takeAbort_frameless (h : tagFrame w.hw g (field r 1 1) = none) : takeAbort false r w = bump 4 8 1 w := by
  simp only [takeAbort, hg, h]

theorem takeAbsent_frameless (h : tagFrame w.hw g (field r 1 1) = none) : takeAbsent false r w = bump 4 8 1 w := by
  simp only [takeAbsent, hg, h]

theorem takeFloor_frameless (h : tagFrame w.hw g (field r 1 1) = none) : takeFloor false r w = bump 4 8 1 w := by
  simp only [takeFloor, hg, h]

theorem takeAudit_unlatched (h : w.hw.conserve.latched.find? (fun e => e.1 == 8 * g.slot + p) = none) : takeAudit p r w = w := by
  simp only [takeAudit, hg, h]

theorem takeAudit_latched {e : Nat × Nat} (h : w.hw.conserve.latched.find? (fun e => e.1 == 8 * g.slot + p) = some e) :
    takeAudit p r w =
      if e.2 = 0 ∧ field r 12 4 ≠ 0 then
        if 3 ≤ tabGet 0 w.hw.conserve.leaks (8 * g.slot + p) + 1 then
          auditFails 3 2 6 p g.slot (field r 12 4) (modConserve (fun c => { c with
            leaks := tabSet 0 c.leaks (8 * g.slot + p) (tabGet 0 w.hw.conserve.leaks (8 * g.slot + p) + 1) })
            (modConserve (fun c => { c with latched := c.latched.filter (fun e => e.1 != 8 * g.slot + p) }) w))
        else modConserve (fun c => { c with
            leaks := tabSet 0 c.leaks (8 * g.slot + p) (tabGet 0 w.hw.conserve.leaks (8 * g.slot + p) + 1) })
            (modConserve (fun c => { c with latched := c.latched.filter (fun e => e.1 != 8 * g.slot + p) }) w)
      else auditCheck 3 1 6 p g.slot (e.2 != field r 12 4) ((field r 12 4 : Int) - e.2) (auditPasses 3 2 p g.slot
        (modConserve (fun c => { c with leaks := tabSet 0 c.leaks (8 * g.slot + p) 0 })
          (modConserve (fun c => { c with latched := c.latched.filter (fun e => e.1 != 8 * g.slot + p) }) w))) := by
  simp only [takeAudit, hg, h]

variable {frame : Nat} (hf : tagFrame w.hw g (field r 1 1) = some frame)
include hf

/-- A record passed on to the other racks by the leader of its rack (R294, R307). -/
def passedOn (g : Group) (o : CollOp) (r : List Byte) (hw : Hw) (w : Work) : Work :=
  if isLeader hw g && spansRacks hw g then sendRackRecord g o (slice r 0 16) w else w

theorem takeAbort_over (h : opOver w.hw g (getOp w.hw g frame (field r 2 1)) = true) : takeAbort false r w = bump 4 8 1 w := by
  simp only [takeAbort, hg, hf, h, if_true]

theorem takeAbort_stops (h : opOver w.hw g (getOp w.hw g frame (field r 2 1)) = false) :
    takeAbort false r w = reserveNext g.id (stopOp g (getOp w.hw g frame (field r 2 1)) (carriedStatus (field r 3 1)) (field r 12 2)
      (putOp (getOp w.hw g frame (field r 2 1)) (passedOn g (getOp w.hw g frame (field r 2 1)) r w.hw w))) := by
  simp only [takeAbort, hg, hf, h, Bool.false_eq_true, if_false]
  rfl

theorem takeFloor_over (h : opOver w.hw g (getOp w.hw g frame (field r 2 1)) = true) : takeFloor false r w = bump 4 8 1 w := by
  simp only [takeFloor, hg, hf, h, if_true]

theorem takeFloor_notes (h : opOver w.hw g (getOp w.hw g frame (field r 2 1)) = false) :
    takeFloor false r w = putOp { getOp w.hw g frame (field r 2 1) with
      floor := some (match (getOp w.hw g frame (field r 2 1)).floor with | some x => min x (field r 12 2) | none => field r 12 2) }
      (passedOn g (getOp w.hw g frame (field r 2 1)) r w.hw w) := by
  simp only [takeFloor, hg, hf, h, Bool.false_eq_true, if_false]
  rfl

theorem takeAbsent_ends :
    takeAbsent false r w =
      let told := passedOn g (freshOp g frame 0) r w.hw
        (w.up fun h => { h with coll := { h.coll with absent := h.coll.absent ++ [(g.id, frame, field r 12 2)] } })
      forEach (told.hw.coll.ops.filter (fun o => o.group == g.id && o.frame == frame)) (fun o x =>
        stopOp g ((findOp x.hw o.group o.frame o.ordinal).getD o) 9 (field r 12 2) x) told := by
  simp only [takeAbsent, hg, hf]
  rfl

/-- The reservation that a grant names. -/
def reservedBy (p : Nat) (r : List Byte) (o : CollOp) : Option Reserve :=
  o.reserves.find? (fun y => y.port == p && y.piece == field r 8 4 && y.bytes == field r 12 4 && !y.granted)

theorem takeGrant_unmatched
    (h : findOp w.hw g.id frame (field r 2 1) = none ∨ reservedBy p r (getOp w.hw g frame (field r 2 1)) = none) :
    takeGrant p r w = bump 4 8 1 w := by
  simp only [takeGrant, hg, hf, Option.bind_some]
  split
  · rfl
  next o ho =>
    have hget : getOp w.hw g frame (field r 2 1) = o := by rw [getOp, ho, Option.getD_some]
    rcases h with h | h
    · rw [h] at ho
      cases ho
    · rw [hget, reservedBy] at h
      simp only [h]

/-- The reservation's wait has been measured. -/
def grantCounted (p : Nat) (g : Group) (x : Reserve) (w : Work) : Work :=
  sample 9 p (w.hw.time.now - x.since : Nat) (noteCrossing g p w)

theorem takeGrant_matched {o : CollOp} {x : Reserve} (ho : findOp w.hw g.id frame (field r 2 1) = some o) (hx : reservedBy p r o = some x) :
    takeGrant p r w =
      if field r 12 4 = 0 then driveOp o.group o.frame o.ordinal
        (putOp { o with opened := o.opened ++ [p], reserves := removeFirst (fun y => y == x) o.reserves } (grantCounted p g x w))
      else driveOp o.group o.frame o.ordinal
        (sendUnit g { o with reserves := o.reserves.map (fun y => if y == x then { y with granted := true } else y) } p 2 6 (redOp o)
          (4 * redArith o) (field r 8 4 * pieceFlits g (redExact o)) 0 0 0 (flitValues (redExact o) * valueBytes (redExact o))
          (modulePartial g { o with reserves := o.reserves.map (fun y => if y == x then { y with granted := true } else y) } (field r 8 4))
          (addGranted g p (field r 12 4)
            (putOp { o with reserves := o.reserves.map (fun y => if y == x then { y with granted := true } else y) }
              (grantCounted p g x w)))) := by
  rw [reservedBy] at hx
  simp only [takeGrant, hg, hf, Option.bind_some, ho, hx]
  rfl

end

/-! ## Trace flits (R550) -/

theorem acknowledge_lowIn (p s : Nat) (w : Work) : (portOf (acknowledge p s w).hw p).lowIn = (portOf w.hw p).lowIn := by
  have hfold (l : List (Nat × Nat × Flit)) (f : Work → Nat × Nat × Flit → Work) (hf : ∀ v e, (f v e).hw.links = v.hw.links) (v : Work) :
      (l.foldl f v).hw.links = v.hw.links := by
    induction l generalizing v with
    | nil => rfl
    | cons e l ih => exact (ih _).trans (hf v e)
  have htally (cat : Nat) (f : MsgTally → MsgTally) (v : Work) : (tally cat f v).hw.links = v.hw.links := rfl
  unfold acknowledge
  dsimp only
  split
  · rfl
  · split
    · rfl
    · rw [portOf, hfold]
      · rw [← portOf, portOf_modPort]
      intro v e
      split
      · split
        · exact htally ..
        · exact htally ..
      · rfl

theorem flitStored_lowIn (rx : Rx) (vc : Nat) (w : Work) :
    (portOf (flitStored rx vc w).hw rx.port.val).lowIn = (portOf w.hw rx.port.val).lowIn := by
  have hport : (portOf (flitStored rx vc w).hw rx.port.val).lowIn = (portOf (ackTaken rx w).hw rx.port.val).lowIn := by
    rw [flitStored]
    refine congrArg Port.lowIn (portOf_modPort ..) |>.trans rfl
  rw [hport, ackTaken]
  split
  · exact acknowledge_lowIn ..
  · rfl

theorem acceptLow_inOrder {rx : Rx} {vc : Nat} {w : Work} (b : List Byte) (act : Work → Work) (h : InOrder w.hw rx vc) :
    acceptLow rx vc b act w =
      if (portOf w.hw rx.port.val).lowIn < lowLimit w.hw rx.port.val 1 then
        act (modPort rx.port.val (fun q => { q with lowIn := q.lowIn + 1 }) (flitTaken rx vc w))
      else modPort rx.port.val (fun q => { q with lowHeld := q.lowHeld ++ [(vc, rx, b)] }) (flitStored rx vc w) := by
  have hlimit : lowLimit (flitStored rx vc w).hw rx.port.val 1 = lowLimit w.hw rx.port.val 1 := by rw [flitStored_linkOnly rx vc w]; rfl
  simp only [acceptLow, linkTake_inOrder h, Bool.not_true, Bool.false_eq_true, if_false, flitStored_lowIn, hlimit]
  rfl

theorem takeTrace_uncounted {b : List Byte} {w : Work} (h : w.hw.burin.sink = false) : takeTrace b w = bump 13 7 1 w := by
  simp only [takeTrace, h, Bool.not_false, if_true]

theorem takeTrace_sink {b : List Byte} {w : Work} (h : w.hw.burin.sink = true) :
    takeTrace b w = forEach (chunksOf 32 (field b 4 1) (slice b 16 (32 * field b 4 1))) (ringWrite 4)
      (drainTrace (traceModule 0x15 0xFFFF (leBytes 4 (field b 0 4 % 2 ^ 18) ++ zeros 4 ++ slice b 8 8) w)) := by
  simp only [takeTrace, h, Bool.not_true, Bool.false_eq_true, if_false]

/-- The link layer leaves what a window record is judged by. -/
structure SameRecords (h h' : Hw) : Prop where
  group : ∀ id, findGroup h id = findGroup h' id
  leader : ∀ g, isLeader h g = isLeader h' g
  racks : ∀ g, spansRacks h g = spansRacks h' g
  frame : ∀ g tag, tagFrame h g tag = tagFrame h' g tag
  op : ∀ g frame ordinal, findOp h g frame ordinal = findOp h' g frame ordinal
  get : ∀ g frame ordinal, getOp h g frame ordinal = getOp h' g frame ordinal
  isOver : ∀ g o, opOver h g o = opOver h' g o
  time : h.time = h'.time
  latched : h.conserve.latched = h'.conserve.latched
  leaks : h.conserve.leaks = h'.conserve.leaks

theorem sameRecords_taken (s : State) (rx : Rx) (vc : Nat) : SameRecords s.hw (flitTaken rx vc (beginWork s)).hw := by
  rw [flitTaken_linkOnly rx vc (beginWork s)]
  exact ⟨fun _ => rfl, fun _ => rfl, fun _ => rfl, fun _ _ => rfl, fun _ _ _ => rfl, fun _ _ _ => rfl, fun _ _ => rfl, rfl, rfl, rfl⟩

theorem inOrder_begin {s : State} {rx : Rx} {vc : Nat} (h : InOrder s.hw rx vc) : InOrder (beginWork s).hw rx vc :=
  ⟨h.active, h.next, h.room⟩

/-- What a record of a kind does, and then the records that follow it in its flit. -/
theorem takeRecordFlit_inOrder {rx : Rx} {kind : Nat} {b : List Byte} {w v : Work} (h : InOrder w.hw rx 2)
    (hv : takeWindowRecord rx.port.val kind (b.take 16) (flitTaken rx 2 w) = v) :
    takeRecordFlit rx kind b w = forEach ((chunksOf 16 14 (b.drop 16)).takeWhile (fun r => field r 0 1 != 0))
      (fun r v => takeWindowRecord rx.port.val (field r 0 1) r v) v := by
  rw [takeRecordFlit, acceptFlit_inOrder _ h, hv]

/-- Settles O29: the flit is taken, and then the checks of its record follow in turn. -/
theorem collectiveRecords : Obligations.CollectiveRecords := by
  unfold Obligations.CollectiveRecords
  intro s rx b p w r rest takes unknown
  refine ⟨fun hin => ?_, fun hin => ?_, fun hin => ?_⟩
  · obtain ⟨hgroup, hleader, hracks, hframe, hop, hget, hover, htime, hlatched, hleaks⟩ :
        SameRecords s.hw (w 2).hw := sameRecords_taken s rx 2
    simp only [hgroup, hleader, hracks, hframe, hop, hget, hover, htime, hlatched, hleaks]
    have hrecord : ∀ i kind, exec i s = run s (takeRecordFlit rx kind b) → ∀ v, takeWindowRecord p kind r (w 2) = v → takes i v :=
      fun i kind hexec v hv => answersWith_run i s _ _ hexec (takeRecordFlit_inOrder (inOrder_begin hin) hv)
    have grants {v : Work} (hv : takeGrant p r (w 2) = v) : takes (.grant rx b) v := hrecord _ 5 (exec_grant ..) v hv
    have aborts {v : Work} (hv : takeAbort false r (w 2) = v) : takes (.abort rx b) v := hrecord _ 7 (exec_abort ..) v hv
    have absents {v : Work} (hv : takeAbsent false r (w 2) = v) : takes (.absent rx b) v := hrecord _ 8 (exec_absent ..) v hv
    have floors {v : Work} (hv : takeFloor false r (w 2) = v) : takes (.floorNotice rx b) v := hrecord _ 9 (exec_floorNotice ..) v hv
    have audits {v : Work} (hv : takeAudit p r (w 2) = v) : takes (.audit rx b) v := hrecord _ 10 (exec_audit ..) v hv
    refine ⟨answersWith_run _ s _ _ (exec_collReduce ..) (acceptFlit_inOrder _ (inOrder_begin hin)), hrecord _ 1 (exec_advertise ..) _ rfl,
      fun hg => ⟨grants (takeGrant_groupless hg), aborts (takeAbort_groupless hg), absents (takeAbsent_groupless hg),
        floors (takeFloor_groupless hg), audits (takeAudit_groupless hg)⟩, fun g hg => ?_⟩
    refine ⟨fun hf => ⟨grants (takeGrant_frameless hg hf), aborts (takeAbort_frameless hg hf), absents (takeAbsent_frameless hg hf),
      floors (takeFloor_frameless hg hf)⟩, fun frame hf => ?_, fun hl => audits (takeAudit_unlatched hg hl), fun key own hl => ?_⟩
    · refine ⟨fun h => grants (takeGrant_unmatched hg hf h), fun ho x hx => ⟨fun h0 => ?_, fun h0 => ?_⟩,
        fun h => ⟨aborts (takeAbort_over hg hf h), floors (takeFloor_over hg hf h)⟩, fun h => aborts (takeAbort_stops hg hf h),
        fun h => floors (takeFloor_notes hg hf h), absents (takeAbsent_ends hg hf)⟩
      · exact grants ((takeGrant_matched hg hf ho hx).trans (if_pos h0))
      · exact grants ((takeGrant_matched hg hf ho hx).trans (if_neg h0))
    · have haudit := takeAudit_latched hg hl
      refine ⟨fun h0 ht hn => audits (haudit.trans ((if_pos ⟨h0, ht⟩).trans (if_neg (by omega)))),
        fun h0 ht hn => audits (haudit.trans ((if_pos ⟨h0, ht⟩).trans (if_pos (by omega)))), fun h => audits (haudit.trans (if_neg ?_))⟩
      rintro ⟨h0, ht⟩
      exact h.elim (fun h => h h0) ht
  · exact answersWith_run _ s _ _ (exec_collGather ..) (acceptFlit_inOrder _ (inOrder_begin hin))
  · intro counted room
    have hburin : counted.hw.burin = s.hw.burin := by
      rw [show counted.hw.burin = (flitTaken rx 6 (beginWork s)).hw.burin from rfl, flitTaken_linkOnly rx 6 (beginWork s)]
      rfl
    have traces {v : Work} (hv : acceptLow rx 6 b (takeTrace b) (beginWork s) = v) : AnswersWith (.trace rx b) s v :=
      answersWith_run _ s _ _ (exec_trace ..) hv
    have haccept := acceptLow_inOrder (w := beginWork s) b (takeTrace b) (inOrder_begin hin)
    refine ⟨fun hr hs => traces (haccept.trans ((if_pos hr).trans (takeTrace_uncounted ?_))),
      fun hr hs => traces (haccept.trans ((if_pos hr).trans (takeTrace_sink ?_))), fun hr => traces (haccept.trans (if_neg hr))⟩
    · exact hburin ▸ hs
    · exact hburin ▸ hs

end Sys2Proof.Machine
end

section
/-! PROOFS. What a record in Burin's ring and an event of the fault collector leave as it was; flits of mirror records (R522, R523). -/
namespace Sys2Proof.Machine

open Sys2Proof

/-! ## Records and events -/

/-- No more than the collector, Burin, the counters, the check units that a store overwrites and the stores differ. -/
def RecordOnly (w v : Work) : Prop :=
  v = { w with hw := { w.hw with fault := v.hw.fault, burin := v.hw.burin, ctr := v.hw.ctr, bad := v.hw.bad }, log := v.log }

section
variable {w v x : Work}

theorem RecordOnly.refl (w : Work) : RecordOnly w w := rfl

theorem RecordOnly.trans (h : RecordOnly w v) (h' : RecordOnly v x) : RecordOnly w x := by
  unfold RecordOnly at *
  rw [h'.trans (by rw [h])]

theorem RecordOnly.mirror (h : RecordOnly w v) : v.hw.mirror = w.hw.mirror := by rw [h]

theorem RecordOnly.time (h : RecordOnly w v) : v.hw.time = w.hw.time := by rw [h]

theorem RecordOnly.plans (h : RecordOnly w v) : v.hw.plans = w.hw.plans := by rw [h]

end

theorem bump_recordOnly (block index n : Nat) (w : Work) : RecordOnly w (bump block index n w) := rfl

theorem write_recordOnly (a : Nat) (bs : List Byte) (w : Work) : RecordOnly w (w.write a bs) := by
  unfold Work.write
  split
  · exact .refl w
  · dsimp only
    split <;> rfl

theorem foldl_recordOnly {α : Type} (l : List α) (f : Work → α → Work) (hf : ∀ v a, RecordOnly v (f v a)) (w : Work) :
    RecordOnly w (l.foldl f w) := by
  induction l generalizing w with
  | nil => exact .refl w
  | cons a l ih => exact (hf w a).trans (ih _)

theorem burin_recordOnly (f : Hw → BurinSt) (w : Work) : RecordOnly w (w.up fun h => { h with burin := f h }) := rfl

theorem ringWrite_recordOnly (source : Nat) (bytes : List Byte) (w : Work) : RecordOnly w (ringWrite source bytes w) := by
  unfold ringWrite
  dsimp only
  split
  · exact bump_recordOnly ..
  · have hring := ((write_recordOnly (ringAddr w.hw w.hw.burin.next) bytes w).trans (burin_recordOnly (fun h => { h.burin with
      next := w.hw.burin.next + 1
      oldest := if ringCapacity h ≤ w.hw.burin.next - w.hw.burin.oldest then w.hw.burin.oldest + 1 else w.hw.burin.oldest }) _)).trans
      (bump_recordOnly 13 0 1 _)
    split
    · exact hring
    · split
      · exact hring.trans (bump_recordOnly ..)
      · exact hring.trans (burin_recordOnly (fun h => { h.burin with exportBuf := h.burin.exportBuf ++ [(w.hw.burin.next, bytes)] }) _)

theorem drainTrace_recordOnly (w : Work) : RecordOnly w (drainTrace w) := by
  unfold drainTrace
  split
  · exact .refl w
  · exact ((foldl_recordOnly _ _ (fun _ _ => ringWrite_recordOnly ..) w).trans
      (foldl_recordOnly _ _ (fun _ _ => ringWrite_recordOnly ..) _)).trans (burin_recordOnly (fun h => { h.burin with buffer := [], lost := [] }) _)

theorem putTrace_recordOnly (r : TraceRec) (w : Work) : RecordOnly w (putTrace r w) := by
  unfold putTrace
  dsimp only
  split
  · exact (burin_recordOnly (fun h => { h.burin with buffer := h.burin.buffer ++ [r] }) w).trans (drainTrace_recordOnly _)
  · rfl

theorem traceModule_recordOnly (kind unit : Nat) (payload : List Byte) (w : Work) : RecordOnly w (traceModule kind unit payload w) :=
  putTrace_recordOnly ..

theorem tracePlan_recordOnly (plan cls region kind rflags ctx unit : Nat) (payload : List Byte) (w : Work) :
    RecordOnly w (tracePlan plan cls region kind rflags ctx unit payload w) := by
  unfold tracePlan
  split
  · exact putTrace_recordOnly ..
  · exact .refl w

theorem fault_recordOnly (f : Hw → FaultSt) (w : Work) : RecordOnly w (w.up fun h => { h with fault := f h }) := rfl

theorem raiseWith_recordOnly (blocks : List (Nat × Nat)) (source unitKind unit ctx detail : Nat) (stamp : Nat × Bool) (w : Work) :
    RecordOnly w (raiseWith blocks source unitKind unit ctx detail stamp w) := by
  have hcount := fault_recordOnly (fun h => { h.fault with count := tabMod 0 h.fault.count source (fun n => satAdd 32 n 1) }) w
  unfold raiseWith
  dsimp only
  split
  · exact .refl w
  · split
    · exact hcount
    · exact (hcount.trans (fault_recordOnly _ _)).trans (traceModule_recordOnly ..)

theorem raise_recordOnly (source unitKind unit ctx detail : Nat) (w : Work) : RecordOnly w (raise source unitKind unit ctx detail w) :=
  raiseWith_recordOnly ..

/-! ## Flits of mirror records (R522, R523) -/

section
variable {rx : Rx} {b : List Byte} {kind : Nat} {w : Work}

theorem takeMirrorFlit_other (h : field b 4 1 ≠ kind) : takeMirrorFlit kind rx b w = w := if_pos h

variable (h : field b 4 1 = kind) (hin : InOrder w.hw rx 5)
include h hin

/-- The record begun at a port that a flit goes on with. -/
def joinsPartial (rx : Rx) (b : List Byte) (x : Nat × Nat × MirrorRec) : Bool :=
  x.1 == rx.port.val && x.2.2.stream == field b 5 1 && x.2.1 == field b 0 4

/-- The record that a flit belongs to: the one it begins, or the one begun before. -/
def recordBegun (kind : Nat) (rx : Rx) (b : List Byte) (hw : Hw) : Option MirrorRec :=
  if rx.first then some ⟨kind, field b 5 1, bit (field b 6 1) 0, field b 8 4, field b 12 4, []⟩
  else (hw.mirror.partials.find? (joinsPartial rx b)).map (fun x => x.2.2)

/-- The flit taken, and the record that it goes on with out of the list. -/
def partialTaken (rx : Rx) (b : List Byte) (w : Work) : Work :=
  (flitTaken rx 5 w).up fun h => { h with mirror := { h.mirror with partials := h.mirror.partials.filter (fun x => !(joinsPartial rx b x)) } }

theorem takeMirrorFlit_lost (hr : recordBegun kind rx b (flitTaken rx 5 w).hw = none) : takeMirrorFlit kind rx b w = partialTaken rx b w := by
  rw [recordBegun] at hr
  rw [takeMirrorFlit, if_neg (not_not_intro h), acceptFlit_inOrder _ hin]
  change (match (if rx.first then some (⟨kind, field b 5 1, bit (field b 6 1) 0, field b 8 4, field b 12 4, []⟩ : MirrorRec)
    else ((flitTaken rx 5 w).hw.mirror.partials.find? (joinsPartial rx b)).map (fun x => x.2.2)) with | none => _ | some r => _) = _
  rw [hr]
  rfl

theorem takeMirrorFlit_joined {r : MirrorRec} (hr : recordBegun kind rx b (flitTaken rx 5 w).hw = some r) :
    takeMirrorFlit kind rx b w =
      if rx.last then
        if recordWhole { r with data := r.data ++ b.drop 16 } then
          takeRecord (field b 0 4) rx.src.toNat { r with data := r.data ++ b.drop 16 } (partialTaken rx b w) else partialTaken rx b w
      else (partialTaken rx b w).up fun h => { h with mirror := { h.mirror with
        partials := h.mirror.partials ++ [(rx.port.val, field b 0 4, { r with data := r.data ++ b.drop 16 })] } } := by
  rw [recordBegun] at hr
  rw [takeMirrorFlit, if_neg (not_not_intro h), acceptFlit_inOrder _ hin]
  change (match (if rx.first then some (⟨kind, field b 5 1, bit (field b 6 1) 0, field b 8 4, field b 12 4, []⟩ : MirrorRec)
    else ((flitTaken rx 5 w).hw.mirror.partials.find? (joinsPartial rx b)).map (fun x => x.2.2)) with | none => _ | some r => _) = _
  rw [hr]
  rfl

end

theorem flitTaken_mirror (rx : Rx) (vc : Nat) (w : Work) : (flitTaken rx vc w).hw.mirror = w.hw.mirror := by rw [flitTaken_linkOnly rx vc w]

/-- Settles O30, by whether the flit is of the row's kind, joins a record, and ends it. -/
theorem mirrorFlits : Obligations.MirrorFlits := by
  unfold Obligations.MirrorFlits
  intro s rx b i kind hi p mine w begun
  have hexec : exec i s = run s (takeMirrorFlit kind rx b) := by
    simp only [List.mem_cons, List.not_mem_nil, or_false, Prod.mk.injEq] at hi
    obtain ⟨rfl, rfl⟩ | ⟨rfl, rfl⟩ | ⟨rfl, rfl⟩ | ⟨rfl, rfl⟩ | ⟨rfl, rfl⟩ | ⟨rfl, rfl⟩ | ⟨rfl, rfl⟩ := hi
    · exact exec_hello ..
    · exact exec_granule ..
    · exact exec_page ..
    · exact exec_frameEnd ..
    · exact exec_ack ..
    · exact exec_resend ..
    · exact exec_release ..
  have answers {v : Work} (hv : takeMirrorFlit kind rx b (beginWork s) = v) : AnswersWith i s v := answersWith_run i s _ _ hexec hv
  refine ⟨fun h => answers (takeMirrorFlit_other h), fun h hin => ?_⟩
  have hbegun : recordBegun kind rx b (flitTaken rx 5 (beginWork s)).hw = begun := by
    rw [recordBegun, flitTaken_mirror]
    rfl
  refine ⟨fun hr => answers (takeMirrorFlit_lost h (inOrder_begin hin) (hbegun.trans hr)), fun r hr => ?_⟩
  have hjoined := takeMirrorFlit_joined h (inOrder_begin hin) (hbegun.trans hr)
  exact ⟨fun hl hw => answers (hjoined.trans ((if_pos hl).trans (if_pos hw))),
    fun hl hw => answers (hjoined.trans ((if_pos hl).trans (if_neg (ne_true_of_eq_false hw)))),
    fun hl => answers (hjoined.trans (if_neg (ne_true_of_eq_false hl)))⟩

end Sys2Proof.Machine
end

section
/-! PROOFS. What whole mirror records do (R511 to R530). -/
namespace Sys2Proof.Machine

open Sys2Proof

/-! ## Numbered records (R524, R528) -/

section
variable {p : Pair} {r : MirrorRec} {w : Work}

/-- How far a record lies below the number that its stream expects. -/
def belowExpected (p : Pair) (r : MirrorRec) (hw : Hw) : Nat := ((streamOf hw p.part r.stream).expect + 2 ^ 32 - r.seq) % 2 ^ 32

/-- A numbered record accepted in sequence, before it acts. -/
def recordAccepted (p : Pair) (r : MirrorRec) (w : Work) : Work :=
  modStream p.part r.stream (fun s => { s with expect := (s.expect + 1) % 2 ^ 32 })
    (tallyDelivered 2 (tallyArrived 2 (bump 10 (4 + p.part) 1 w)))

/-- An `ACK` where none went for 100 us. -/
def ackedOverdue (p : Pair) (r : MirrorRec) (hw : Hw) (v : Work) : Work :=
  if (streamOf hw p.part r.stream).ackedAt + 100000 ≤ hw.time.now then sendAck p r.stream v else v

theorem numberedRecord_ignored (h : p.role ≠ .standby) :
    numberedRecord p r w = tallyDropped 2 (tallyArrived 2 (bump 10 (16 + p.part) 1 w)) := by
  rw [numberedRecord]
  exact if_pos (bne_iff_ne.mpr h)

variable (h : p.role = .standby)
include h

theorem numberedRecord_standby :
    numberedRecord p r w =
      if belowExpected p r w.hw = 0 then ackedOverdue p r w.hw (takeNumbered p r (recordAccepted p r w))
      else if belowExpected p r w.hw ≤ 4096 then tallyDuplicate 2 (tallyArrived 2 (bump 10 (8 + p.part) 1 w))
      else sendPlain p 6 r.stream (leBytes 4 (streamOf w.hw p.part r.stream).expect) w := by
  rw [numberedRecord]
  exact if_neg (by simp [h])

theorem numberedRecord_accepted (hb : belowExpected p r w.hw = 0) {v : Work} (hv : takeNumbered p r (recordAccepted p r w) = v) :
    numberedRecord p r w = ackedOverdue p r w.hw v := by
  rw [numberedRecord_standby h, if_pos hb, hv]

end

section
variable {p : Pair} {r : MirrorRec} {w : Work}

/-- A record held for its frame, or until it can be written. -/
def recordHeld (p : Pair) (r : MirrorRec) (w : Work) : Work := modPair p.part (fun q => { q with heldRecs := q.heldRecs ++ [r] }) w

theorem takeNumbered_window (hk : r.kind = 2 ∨ r.kind = 3) :
    takeNumbered p r w = if r.resync then (if p.state == .mismatch then w else takeResync p r w) else recordHeld p r w := by
  unfold takeNumbered
  split
  · omega
  · omega
  · rfl

theorem takeResync_queued (h : ∃ q ∈ p.heldRecs, q.resync = true ∧ q.stream = r.stream) : takeResync p r w = recordHeld p r w := by
  rw [takeResync]
  refine if_pos ?_
  simpa using h

theorem takeResync_first (h : ∀ q ∈ p.heldRecs, q.resync = true → q.stream ≠ r.stream) :
    takeResync p r w = (writeResync r w).getD (recordHeld p r w) := by
  rw [takeResync]
  refine if_neg ?_
  simpa using h

end

/-! ## Streams (R524) -/

/-- A change of a stream counts by what it makes of the stream as it stands. -/
theorem modStream_congr {part k : Nat} {w : Work} {f g : MirrorStream → MirrorStream}
    (h : f (streamOf w.hw part k) = g (streamOf w.hw part k)) : modStream part k f w = modStream part k g w := by
  rw [streamOf] at h
  simp only [modStream, Work.up, tabMod, h]

/-! ## `HELLO` (R511, R515, R517, R520) -/

/-- A pair's partition does not change, so the changed pair is found where it was. -/
theorem findPair_modPair {part : Nat} {f : Pair → Pair} {w : Work} {p : Pair} (hf : ∀ q, (f q).part = q.part)
    (h : findPair w.hw part = some p) : findPair (modPair part f w).hw part = some (f p) := by
  have hlist : ∀ l : List Pair, l.find? (fun q => q.part == part) = some p →
      (l.map (fun q => if q.part == part then f q else q)).find? (fun q => q.part == part) = some (f p) := by
    intro l
    induction l with
    | nil => simp
    | cons q l ih =>
      intro hq
      by_cases hpart : q.part = part
      · rw [List.find?_cons_of_pos (by simpa using hpart)] at hq
        obtain rfl := Option.some.inj hq
        rw [List.map_cons, if_pos (by simpa using hpart), List.find?_cons_of_pos (by simpa [hf] using hpart)]
      · rw [List.find?_cons_of_neg (by simpa using hpart)] at hq
        rw [List.map_cons, if_neg (by simpa using hpart), List.find?_cons_of_neg (by simpa using hpart)]
        exact ih hq
  exact hlist _ h

theorem findPair_congr {v w : Work} (h : v.hw.mirror = w.hw.mirror) (part : Nat) : findPair v.hw part = findPair w.hw part := by
  rw [findPair, findPair, h]

theorem enterResync_pairs (i : Nat) (w : Work) : (enterResync i w).hw.mirror.pairs = w.hw.mirror.pairs := by
  unfold enterResync
  split
  · rfl
  · dsimp only
    split
    · rw [mirrorFault, (raise_recordOnly ..).mirror]
      rfl
    · rfl

theorem forEach_pairs {α : Type} (l : List α) (f : α → Work → Work) (hf : ∀ a v, (f a v).hw.mirror.pairs = v.hw.mirror.pairs) (w : Work) :
    (forEach l f w).hw.mirror.pairs = w.hw.mirror.pairs := by
  induction l generalizing w with
  | nil => rfl
  | cons a l ih =>
    rw [forEach_cons, ih]
    exact hf a w

/-- A pair that has become standby. -/
def standbyPair (p : Pair) : Pair := { p with role := .standby, ended := lastSent p, copies := [], behind := false, released := none }

theorem findPair_becomeStandby {part : Nat} {w : Work} {p : Pair} (h : findPair w.hw part = some p) :
    findPair (becomeStandby part w).hw part = some (standbyPair p) := by
  have hpairs : (becomeStandby part w).hw.mirror.pairs = (modPair part standbyPair w).hw.mirror.pairs := by
    rw [becomeStandby, forEach_pairs _ _ (fun _ _ => enterResync_pairs ..)]
    rfl
  rw [findPair, hpairs]
  exact findPair_modPair (fun _ => rfl) h

section
variable {p : Pair} {id : Nat} {r : MirrorRec} {w : Work}

/-- The fields of a `HELLO` that R512 compares are the module's own. -/
def helloSame (p : Pair) (id : Nat) (r : MirrorRec) (hw : Hw) : Bool :=
  id == p.id && field r.data 8 8 == p.serial && field r.data 2 1 == 4 / max 1 (partCount hw)
    && field r.data 32 8 == planDigest hw p.part && field r.data 40 4 == windowDigest hw p.part

theorem helloSame_iff : helloSame p id r w.hw = true ↔
    (id = p.id ∧ field r.data 8 8 = p.serial ∧ field r.data 2 1 = 4 / max 1 (partCount w.hw) ∧ field r.data 32 8 = planDigest w.hw p.part
      ∧ field r.data 40 4 = windowDigest w.hw p.part) := by
  simp [helloSame, and_assoc]

/-- Of two holders, this one gives way (R517). -/
def helloLower (p : Pair) (r : MirrorRec) (hw : Hw) : Bool :=
  p.epoch < field r.data 16 8 || (p.epoch == field r.data 16 8 && hw.keep.serial < field r.data 8 8)

theorem helloLower_iff : helloLower p r w.hw = true ↔
    (p.epoch < field r.data 16 8 ∨ (p.epoch = field r.data 16 8 ∧ w.hw.keep.serial < field r.data 8 8)) := by
  simp [helloLower]

/-- What a `HELLO` tells a pair of its partner. -/
def helloTold (r : MirrorRec) (tick : Nat) (st : PairState) (q : Pair) : Pair := { q with
  state := st
  helloTick := some tick
  peerRole := field r.data 0 1
  peerFlags := field r.data 1 1
  peerEpoch := field r.data 16 8
  reported := max q.reported (field r.data 24 8)
  peerEnded := field r.data 48 8
  peerCommitted := field r.data 56 8 }

/-- The pair has taken the `HELLO`, and a first mismatch is told of. -/
def helloHeard (p : Pair) (id : Nat) (r : MirrorRec) (w : Work) : Work :=
  let w1 := modPair p.part (helloTold r w.hw.time.tick (if helloSame p id r w.hw then .paired else .mismatch))
    (if p.state == .paired && !helloSame p id r w.hw then leavePaired p.part w else w)
  if !helloSame p id r w.hw && p.state != .mismatch then raise 32 0 0 0 2 w1 else w1

/-- Of two holders one has given way. -/
def helloSettled (p : Pair) (id : Nat) (r : MirrorRec) (w : Work) : Work :=
  if p.role == .holder && field r.data 0 1 == 1 then
    raise 32 0 0 0 7 (if helloLower p r w.hw then
      modPair p.part (fun q => { q with expires := 0, releaseNext := true }) (becomeStandby p.part (helloHeard p id r w)) else helloHeard p id r w)
  else helloHeard p id r w

/-- A holder's answer to a valid `HELLO` (R520). -/
def helloAnswered (part : Nat) (q : Pair) (w : Work) : Work :=
  let sent := forEach ((windowsOf w.hw part).filter (fun x => x.resync == 1)) (fun x v => sendResync q x v) w
  forEach (windowsOf sent.hw part) (fun x v =>
    if 3 ≤ x.resync && x.resync - 3 ≤ q.peerCommitted then modWindow x.index (fun y => { y with resync := 0 }) v else v) sent

theorem takeHello_eq :
    takeHello p id r w =
      match findPair (helloSettled p id r w).hw p.part with
      | none => helloSettled p id r w
      | some q => if q.role == .holder && helloSame p id r w.hw then helloAnswered p.part q (helloSettled p id r w)
        else helloSettled p id r w := rfl

/-- Without an answer to give, the pair is as the `HELLO` has set it. -/
theorem takeHello_quiet (h : helloSame p id r w.hw = false ∨ ∃ q, findPair (helloSettled p id r w).hw p.part = some q ∧ q.role ≠ .holder) :
    takeHello p id r w = helloSettled p id r w := by
  rw [takeHello_eq]
  rcases h with h | ⟨q, hq, hrole⟩
  · simp only [h, Bool.and_false, Bool.false_eq_true, if_false]
    split <;> rfl
  · simp only [hq, beq_false_of_ne hrole, Bool.false_and, Bool.false_eq_true, if_false]

theorem takeHello_answers {q : Pair} (h : helloSame p id r w.hw = true) (hq : findPair (helloSettled p id r w).hw p.part = some q)
    (hrole : q.role = .holder) : takeHello p id r w = helloAnswered p.part q (helloSettled p id r w) := by
  rw [takeHello_eq]
  simp only [hq, hrole, h, beq_self_eq_true, Bool.and_self, if_true]

theorem helloHeard_same (h : helloSame p id r w.hw = true) :
    helloHeard p id r w = modPair p.part (helloTold r w.hw.time.tick .paired) w := by
  simp only [helloHeard, h, Bool.not_true, Bool.and_false, Bool.false_and, Bool.false_eq_true, if_false, if_true]

theorem helloHeard_differs (h : helloSame p id r w.hw = false) :
    helloHeard p id r w =
      if p.state = .mismatch then modPair p.part (helloTold r w.hw.time.tick .mismatch) (if p.state = .paired then leavePaired p.part w else w)
      else raise 32 0 0 0 2 (modPair p.part (helloTold r w.hw.time.tick .mismatch) (if p.state = .paired then leavePaired p.part w else w)) := by
  by_cases hm : p.state = .mismatch <;> simp [helloHeard, h, hm]

theorem helloSettled_alone (h : p.role ≠ .holder ∨ field r.data 0 1 ≠ 1) : helloSettled p id r w = helloHeard p id r w := by
  rw [helloSettled]
  refine if_neg ?_
  simpa [imp_iff_not_or] using h

section
variable (hrole : p.role = .holder) (hpeer : field r.data 0 1 = 1)
include hrole hpeer

theorem helloSettled_lower (h : helloLower p r w.hw = true) :
    helloSettled p id r w = raise 32 0 0 0 7 (modPair p.part (fun q => { q with expires := 0, releaseNext := true })
      (becomeStandby p.part (helloHeard p id r w))) := by
  simp only [helloSettled, hrole, hpeer, beq_self_eq_true, Bool.and_self, if_true, h]

theorem helloSettled_higher (h : helloLower p r w.hw = false) : helloSettled p id r w = raise 32 0 0 0 7 (helloHeard p id r w) := by
  simp only [helloSettled, hrole, hpeer, beq_self_eq_true, Bool.and_self, if_true, h, Bool.false_eq_true, if_false]

end

end

/-! ## Records by kind -/

theorem samePair {p : Pair} {id : Nat} (h : id = p.id) : (p.id != id) = false := bne_eq_false_iff_eq.mpr h.symm

section
variable {p : Pair} {id src : Nat} {r : MirrorRec} {w : Work} (hp : pairOfRecord w.hw id src = some p)
include hp

theorem takeRecord_hello (hk : r.kind = 1) : takeRecord id src r w = takeHello p id r (tallyDelivered 2 (tallyArrived 2 w)) := by
  simp only [takeRecord, hp, hk, if_true]

theorem takeRecord_stranger (hk : r.kind ≠ 1) (hid : id ≠ p.id) : takeRecord id src r w = w := by
  simp only [takeRecord, hp, hk, if_false, bne_iff_ne.mpr hid.symm, if_true]

variable (hid : id = p.id)
include hid

theorem takeRecord_ack (hk : r.kind = 5) :
    takeRecord id src r w = takeAck p r.stream (field r.data 0 4) (tallyDelivered 2 (tallyArrived 2 w)) := by
  simp [takeRecord, hp, hk, samePair hid]

theorem takeRecord_resend (hk : r.kind = 6) :
    takeRecord id src r w = resendFrom p r.stream (field r.data 0 4) (tallyDelivered 2 (tallyArrived 2 w)) := by
  simp [takeRecord, hp, hk, samePair hid]

theorem takeRecord_numbered (hk : r.kind ≠ 1) (hk5 : r.kind ≠ 5) (hk6 : r.kind ≠ 6) : takeRecord id src r w = numberedRecord p r w := by
  simp only [takeRecord, hp, hk, if_false, samePair hid, Bool.false_eq_true]

end

/-- Settles O31, by the kind of the record and what the pair and its stream make of it. -/
theorem mirrorRecordEffects : Obligations.MirrorRecordEffects := by
  unfold Obligations.MirrorRecordEffects
  refine ⟨fun w id src r h => ?_, fun w p r id src hp => ?_⟩
  · simp only [takeRecord, h]
  intro stream below acts heard taken answered holding
  refine ⟨fun hk hid => takeRecord_stranger hp hk hid, fun hk hid => ?_, fun hk hid => ?_,
    fun hk hid => takeRecord_resend hp hid hk, fun hk hfind => ?_⟩
  · have hkind : r.kind ≠ 1 ∧ r.kind ≠ 5 ∧ r.kind ≠ 6 := by
      simp only [List.mem_cons, List.not_mem_nil, or_false] at hk
      omega
    have hnum : takeRecord id src r w = numberedRecord p r w := takeRecord_numbered hp hid hkind.1 hkind.2.1 hkind.2.2
    refine ⟨fun hrole => hnum.trans (numberedRecord_ignored hrole), fun hrole h1 h2 => hnum.trans ?_, fun hrole hb => hnum.trans ?_,
      fun hrole hb => ?_⟩
    · exact (numberedRecord_standby hrole).trans ((if_neg (Nat.one_le_iff_ne_zero.mp h1)).trans (if_pos h2))
    · have h0 : ¬belowExpected p r w.hw = 0 := fun h0 => absurd (h0 ▸ hb : 4096 < 0) (by decide)
      exact (numberedRecord_standby hrole).trans ((if_neg h0).trans (if_neg (Nat.not_le.mpr hb)))
    have haccepts {v : Work} (hv : takeNumbered p r taken = v) : acts (answered v) := hnum.trans (numberedRecord_accepted hrole hb hv)
    have hwindow (hk : r.kind = 2 ∨ r.kind = 3) : takeNumbered p r taken =
        if r.resync then (if p.state == .mismatch then taken else takeResync p r taken) else holding := takeNumbered_window hk
    refine ⟨fun hk => haccepts ?_, fun hk => haccepts ?_, fun hk hr => haccepts ?_, fun hk hr hs => haccepts ?_, fun hk hr hs => ?_⟩
    · simp only [takeNumbered, hk]
    · simp only [takeNumbered, hk]
      rfl
    · rw [hwindow hk, hr]
      exact if_neg Bool.false_ne_true
    · rw [hwindow hk, hr, hs]
      rfl
    · have hresync : takeNumbered p r taken = takeResync p r taken := by
        rw [hwindow hk, hr, beq_false_of_ne hs]
        rfl
      refine ⟨fun hq => haccepts (hresync.trans (takeResync_queued hq)), fun hq => ⟨fun hw => haccepts ?_, fun v hv => haccepts ?_⟩⟩
      · rw [hresync, takeResync_first hq, writeResync, hw]
        rfl
      · rw [hresync, takeResync_first hq, writeResync, hv]
        rfl
  · have hack : takeRecord id src r w = takeAck p r.stream (field r.data 0 4) heard := takeRecord_ack hp hid hk
    refine ⟨fun h => hack.trans (modStream_congr ?_), fun first rest h => ?_⟩
    · have h' : (streamOf heard.hw p.part r.stream).unacked = [] := h
      simp only [h']
    · have h' : (streamOf heard.hw p.part r.stream).unacked = first :: rest := h
      refine ⟨fun h1 hn => hack.trans (modStream_congr ?_), fun hn => hack.trans (modStream_congr ?_)⟩
      · simp only [h']
        rw [if_neg (by rw [← h']; exact not_or.mpr ⟨by omega, Nat.not_lt.mpr hn⟩)]
        rfl
      · simp only [h']
        rw [if_pos (by rw [← h']; exact hn)]
  · intro f same lower told agrees differs refused
    have hhello : takeRecord id src r w = takeHello p id r heard := takeRecord_hello hp hk
    have hsame : helloSame p id r heard.hw = true ↔ same := helloSame_iff
    have hlower : helloLower p r heard.hw = true ↔ lower := helloLower_iff
    have hagrees (h : same) : helloHeard p id r heard = agrees := helloHeard_same (hsame.mpr h)
    have hrefused (h : ¬same) : helloHeard p id r heard = refused := helloHeard_differs (Bool.eq_false_iff.mpr fun hn => h (hsame.mp hn))
    have hfound : findPair agrees.hw p.part = some (told .paired p) := findPair_modPair (w := heard) (fun _ => rfl) hfind
    refine ⟨fun h hrole => hhello.trans ?_, fun h hrole => hhello.trans ?_, fun hrole hpeer hl => hhello.trans ?_,
      fun h hrole hpeer hl => hhello.trans ?_, fun h hrole hl => ?_⟩
    · have hset : helloSettled p id r heard = agrees := (helloSettled_alone (.inl hrole)).trans (hagrees h)
      rw [takeHello_quiet (.inr ⟨told .paired p, by rw [hset]; exact hfound, hrole⟩), hset]
    · rw [takeHello_quiet (.inl (Bool.eq_false_iff.mpr fun hn => h (hsame.mp hn))), helloSettled_alone hrole, hrefused h]
    · have hset := helloSettled_lower (id := id) (w := heard) hrole hpeer (hlower.mpr hl)
      by_cases h : same
      · rw [hagrees h] at hset
        have hstandby := findPair_becomeStandby hfound
        have hgiven := findPair_modPair (f := fun q => { q with expires := 0, releaseNext := true }) (fun _ => rfl) hstandby
        have hfinal := (findPair_congr (raise_recordOnly 32 0 0 0 7 _).mirror p.part).trans hgiven
        rw [takeHello_quiet (.inr ⟨_, by rw [hset]; exact hfinal, by simp [standbyPair]⟩), hset, if_pos h]
      · rw [hrefused h] at hset
        rw [takeHello_quiet (.inl (Bool.eq_false_iff.mpr fun hn => h (hsame.mp hn))), hset, if_neg h]
    · rw [takeHello_quiet (.inl (Bool.eq_false_iff.mpr fun hn => h (hsame.mp hn))),
        helloSettled_higher hrole hpeer (Bool.eq_false_iff.mpr fun hn => hl (hlower.mp hn)), hrefused h]
    · have hset : helloSettled p id r heard = if f 0 1 = 1 then raise 32 0 0 0 7 agrees else agrees := by
        by_cases hpeer : f 0 1 = 1
        · have hhigher : ¬lower := hl.resolve_left (not_not_intro hpeer)
          rw [helloSettled_higher hrole hpeer (Bool.eq_false_iff.mpr fun hn => hhigher (hlower.mp hn)), hagrees h, if_pos hpeer]
        · rw [helloSettled_alone (.inr hpeer), hagrees h, if_neg hpeer]
      have hmirror : (helloSettled p id r heard).hw.mirror = agrees.hw.mirror := by
        rw [hset]
        split
        · exact (raise_recordOnly ..).mirror
        · rfl
      have hq : findPair (helloSettled p id r heard).hw p.part = some (told .paired p) := (findPair_congr hmirror _).trans hfound
      have hwindows : windowsOf (helloSettled p id r heard).hw p.part = windowsOf w.hw p.part := by
        rw [windowsOf, hmirror]
        rfl
      have hanswers := hhello.trans (takeHello_answers (hsame.mpr h) hq hrole)
      rw [helloAnswered, hwindows, hset] at hanswers
      exact hanswers

end Sys2Proof.Machine
end

section
/-! PROOFS. The timed events of mirror pairs (R511 to R528). -/
namespace Sys2Proof.Machine

open Sys2Proof

/-! ## What is copied, committed, sent again and lost -/

section
variable {part : Nat} {w : Work}

theorem whileLive_live (f : Work → Work) (h : cupolaLive w.hw = true) : whileLive f w = f w := if_pos h

/-- A command of the mirror unit with no pair to act on, or while Cupola does not serve, does nothing. -/
theorem whileLive_idle (f : Work → Work) (hf : findPair w.hw part = none → f w = w)
    (h : findPair w.hw part = none ∨ cupolaLive w.hw = false) : whileLive f w = w := by
  by_cases hlive : cupolaLive w.hw = true
  · rw [whileLive_live f hlive]
    exact hf (h.resolve_right (ne_false_of_eq_true hlive))
  · exact if_neg hlive

theorem sendCopy_unpaired (h : findPair w.hw part = none) : sendCopy part w = w := by
  simp only [sendCopy, h]

theorem commitFrame_unpaired (h : findPair w.hw part = none) : commitFrame part w = w := by
  simp only [commitFrame, h]

theorem takeOver_unpaired (h : findPair w.hw part = none) : takeOver part w = w := by
  simp only [takeOver, h]

theorem resendOverdue_idle {stream : Nat} (h : findPair w.hw part = none ∨ cupolaLive w.hw = false) : resendOverdue part stream w = w := by
  unfold resendOverdue
  dsimp only
  split
  next p r rest hp hr =>
    refine if_neg fun hn => ?_
    obtain ⟨hlive, -⟩ := (Bool.and_eq_true _ _).mp hn
    rcases h with h | h
    · rw [h] at hp
      cases hp
    · rw [h] at hlive
      cases hlive
  next => rfl

theorem losePartner_idle (h : findPair w.hw part = none ∨ cupolaLive w.hw = false) : losePartner part w = w := by
  rcases h with h | h
  · simp only [losePartner, h]
  · unfold losePartner
    split
    · rfl
    · exact if_pos (by simp [h])

theorem leaseExpires_idle (h : findPair w.hw part = none ∨ cupolaLive w.hw = false) : leaseExpires part w = w := by
  rcases h with h | h
  · simp only [leaseExpires, h]
  · unfold leaseExpires
    split
    · rfl
    · exact if_neg (by simp [h])

variable {p : Pair} (hp : findPair w.hw part = some p)
include hp

theorem sendCopy_idle (h : p.role ≠ .holder ∨ p.state = .mismatch ∨ p.copies = []) : sendCopy part w = w := by
  simp only [sendCopy, hp]
  split
  · rfl
  next c rest hc =>
    refine if_pos ?_
    rcases h with h | h | h
    · simp [h]
    · simp [h]
    · rw [h] at hc
      cases hc

/-- The frame in progress is earlier than a copy's. -/
def copyEarly (hw : Hw) (part : Nat) (c : MirrorCopy) : Bool :=
  match (pairedPlan hw part).bind (fun pl => pl.frame) with
  | some f => decide (f.number < c.frame)
  | none => false

/-- The records of a copy's units have been sent. -/
def copySent (part : Nat) (p : Pair) (c : MirrorCopy) (rest : List MirrorCopy) (w : Work) : Work :=
  forEach (c.units.filter (fun u => w.hw.mirror.windows.any (fun x => x.index == u.window && x.part == part && x.resync != 1))) (fun u v =>
    sendNumbered p (unitData v.hw u.window u.unit u.data).1 u.window false c.frame (unitData v.hw u.window u.unit u.data).2 v)
    (endWaits part [c] (modPair part (fun q => { q with copies := rest }) w))

section
variable {c : MirrorCopy} {rest : List MirrorCopy} (hc : p.copies = c :: rest)
include hc

theorem sendCopy_early (h : copyEarly w.hw part c = true) : sendCopy part w = w := by
  simp only [sendCopy, hp, hc]
  refine if_pos ?_
  change (p.role != .holder || p.state == .mismatch || copyEarly w.hw part c) = true
  simp [h]

theorem sendCopy_sends (hrole : p.role = .holder) (hs : p.state ≠ .mismatch) (h : copyEarly w.hw part c = false) :
    sendCopy part w =
      let units := copySent part p c rest w
      forEach (windowsOf units.hw part) (fun x v => if x.resync = 2 then modWindow x.index (fun y => { y with resync := 3 + c.frame }) v else v)
        (sendNumbered p 4 255 false c.frame
          (leBytes 1 c.status ++ leBytes 1 (windowsOf units.hw part).length ++ leBytes 1 c.inboxes.length ++ zeros 1
            ++ (windowsOf units.hw part).flatMap (fun x => leBytes 1 x.index ++ zeros 3 ++ leBytes 4 (streamOf units.hw part x.index).sendNext)
            ++ c.inboxes.flatMap (fun b => leBytes 2 b.1 ++ leBytes 1 b.2.1 ++ zeros 1 ++ leBytes 4 b.2.2)) units) := by
  simp only [sendCopy, hp, hc]
  refine if_neg ?_
  change ¬(p.role != .holder || p.state == .mismatch || copyEarly w.hw part c) = true
  simp [hrole, hs, h]

end

theorem commitFrame_idle (h : p.role ≠ .standby ∨ p.state = .mismatch ∨ p.ends = []) : commitFrame part w = w := by
  simp only [commitFrame, hp]
  split
  · rfl
  next e rest he =>
    refine if_pos ?_
    rcases h with h | h | h
    · simp [h]
    · simp [h]
    · rw [h] at he
      cases he

section
variable {e : FrameEnd} {rest : List FrameEnd} (he : p.ends = e :: rest)
include he

theorem commitFrame_unready (h : endReady w.hw part e = false) : commitFrame part w = w := by
  simp only [commitFrame, hp, he]
  exact if_pos (by simp [h])

/-- The records of a frame, which its `FRAME_END` commits. -/
def ownRecord (e : FrameEnd) (r : MirrorRec) : Bool := r.frame == e.frame && !r.resync

/-- The records that wait and those of the frame are written. -/
def endWritten (part : Nat) (p : Pair) (e : FrameEnd) (w : Work) : Option Work :=
  (writeWaiting part (p.heldRecs.filter (fun r => r.resync)) w).bind (writeRecords (p.heldRecs.filter (ownRecord e)))

/-- A written frame is committed, its windows leave resync, and its batches are answered. -/
def frameCommitted (part : Nat) (p : Pair) (e : FrameEnd) (rest : List FrameEnd) (v : Work) : Work :=
  let committed := modPair part (fun q => { q with
    ends := rest
    heldRecs := q.heldRecs.filter (fun r => !ownRecord e r)
    committed := fullFrame q.committed e.frame }) v
  let whole := forEach (windowsOf committed.hw part) (fun x v =>
    if x.resync = 3 then modWindow x.index (fun y => { y with resync := 0 }) v else v) committed
  let named := forEach e.inboxes (fun b v =>
    forEach (List.range b.2.1) (fun i v => answerNamed part b.1 (b.2.2 + i) (endOutcome e.status) v) v) whole
  forEach (255 :: e.streams.map (fun x => x.1)) (fun x v => sendAck p x v) named

theorem commitFrame_ready (hrole : p.role = .standby) (hs : p.state ≠ .mismatch) (h : endReady w.hw part e = true) :
    commitFrame part w = match endWritten part p e w with | none => w | some v => frameCommitted part p e rest v := by
  have hgo : (p.role != .standby || p.state == .mismatch || !endReady w.hw part e) = false := by
    simp [hrole, h, hs]
  simp only [commitFrame, hp, he, hgo, Bool.false_eq_true, if_false]
  rfl

end

theorem losePartner_silent (hs : p.state = .paired) (hlive : cupolaLive w.hw = true) {t : Nat} (ht : p.helloTick = some t)
    (htick : t + 3 ≤ w.hw.time.tick) :
    losePartner part w =
      raise 32 0 0 0 1 (forEach (windowsOf (modPair part (fun q => { q with state := .partnerLost }) (leavePaired part w)).hw part)
        (fun x v => enterResync x.index v) (modPair part (fun q => { q with state := .partnerLost }) (leavePaired part w))) := by
  simp only [losePartner, hp, hs, hlive, ht, decide_eq_true htick, bne_self_eq_false, Bool.not_true, Bool.or_self, Bool.false_eq_true, if_false]
  rfl

theorem losePartner_heard (h : p.state ≠ .paired ∨ ∀ t, p.helloTick = some t → w.hw.time.tick < t + 3) : losePartner part w = w := by
  simp only [losePartner, hp]
  refine if_pos ?_
  rcases h with h | h
  · simp [h]
  · cases ht : p.helloTick with
    | none => simp
    | some t => simp [h t ht]

theorem leaseExpires_holder (hlive : cupolaLive w.hw = true) :
    leaseExpires part w = if p.role = .holder ∧ p.expires ≤ horizon w.hw then becomeStandby part (advance w p.expires) else w := by
  simp only [leaseExpires, hp, hlive, due, Bool.and_true, Bool.and_eq_true, beq_iff_eq, decide_eq_true_eq]

theorem resendOverdue_empty {stream : Nat} (h : (streamOf w.hw part stream).unacked = []) : resendOverdue part stream w = w := by
  simp only [resendOverdue, hp, h]

theorem resendOverdue_waiting {stream : Nat} {r : MirrorRec} {rest : List MirrorRec} (h : (streamOf w.hw part stream).unacked = r :: rest)
    (hlive : cupolaLive w.hw = true) :
    resendOverdue part stream w = if (streamOf w.hw part stream).ackAt + 300000 ≤ horizon w.hw then
      resendFrom p stream r.seq (advance w ((streamOf w.hw part stream).ackAt + 300000)) else w := by
  simp only [resendOverdue, hp, h, hlive, due, Bool.true_and, decide_eq_true_eq]

/-! ## Takeover (R515, R528) -/

theorem takeOver_none (h : takeoverAt w.hw p = none) : takeOver part w = w := by
  simp only [takeOver, hp, h]

/-- The standby has become holder. -/
def tookOver (part t : Nat) (w : Work) : Work :=
  let stale := (windowsOf w.hw part).any (fun x => x.stale)
  raise 32 0 0 0 (if stale then 6 else 5) (bump 10 (84 + part) 1 (modPair part (fun q => { q with
    role := .holder
    ends := []
    heldRecs := []
    answered := []
    released := none
    rerun := true
    behind := false
    ended := q.committed
    staleTakeover := q.staleTakeover || stale }) (advance w t)))

theorem takeOver_early {t : Nat} (h : takeoverAt w.hw p = some t) (ht : horizon w.hw < t) : takeOver part w = w := by
  simp only [takeOver, hp, h, due, decide_eq_false (Nat.not_le.mpr ht), Bool.not_false, if_true]

theorem takeOver_due {t : Nat} (h : takeoverAt w.hw p = some t) (ht : t ≤ horizon w.hw) :
    takeOver part w = match pairedPlan w.hw part with
      | some pl => reassign pl.id (w.hw.time.tick + 1) (tookOver part t w)
      | none => tookOver part t w := by
  have hplan : pairedPlan (tookOver part t w).hw part = pairedPlan w.hw part := by
    rw [pairedPlan, tookOver, (raise_recordOnly ..).plans]
    rfl
  have htick : (tookOver part t w).hw.time.tick = w.hw.time.tick := by
    rw [tookOver, (raise_recordOnly ..).time]
    rfl
  simp only [takeOver, hp, h, due, decide_eq_true ht, Bool.not_true, Bool.false_eq_true, if_false]
  rw [← hplan, ← htick]
  rfl

end

/-- The moment from which the leases and a release let a standby take over. -/
def takeoverFrom (hw : Hw) (p : Pair) : Nat :=
  max hw.time.now (match p.released with
    | some (when_, last) => min (max p.partnerExpires p.reported) (if last ≤ p.committed then when_ else when_ + 20000000)
    | none => max p.partnerExpires p.reported)

theorem takeoverAt_eq (hw : Hw) (p : Pair) :
    takeoverAt hw p = if p.role != .standby || !(p.state == .paired || p.state == .seeking || p.state == .partnerLost) then none
      else if takeoverFrom hw p < p.expires then some (takeoverFrom hw p) else none := rfl

theorem takeoverAt_some {hw : Hw} {p : Pair} {t : Nat} (h : takeoverAt hw p = some t) :
    p.role = .standby ∧ (p.state = .paired ∨ p.state = .seeking ∨ p.state = .partnerLost) ∧ t < p.expires ∧ t = takeoverFrom hw p := by
  rw [takeoverAt_eq] at h
  split at h
  · cases h
  next hgo =>
    split at h
    next hlt =>
      obtain rfl := Option.some.inj h
      simp only [Bool.or_eq_true, bne_iff_ne, Bool.not_eq_true', Bool.or_eq_false_iff, beq_eq_false_iff_ne, not_or, not_not, not_and_or,
        ne_eq] at hgo
      obtain ⟨hrole, hstate⟩ := hgo
      exact ⟨hrole, by tauto, hlt, rfl⟩
    next => cases h

/-- Settles O32, by the pair's role and state and the moment of each event. -/
theorem mirrorEvents : Obligations.MirrorEvents := by
  unfold Obligations.MirrorEvents
  refine ⟨fun s part stream h => ?_, fun s part p hp hlive => ?_, fun s part p hp hlive => ?_, fun s part stream p hp hlive => ?_,
    fun s part p hp hlive => ?_, fun hw p t h => ?_⟩
  · intro w
    exact ⟨answersWith_run _ s _ _ (exec_mirrorCopyComplete ..) (whileLive_idle _ sendCopy_unpaired h),
      answersWith_run _ s _ _ (exec_commit ..) (whileLive_idle _ commitFrame_unpaired h),
      answersWith_run _ s _ _ (exec_mirrorResendTimeout ..) (resendOverdue_idle h),
      answersWith_run _ s _ _ (exec_partnerLost ..) (losePartner_idle h),
      answersWith_run _ s _ _ (exec_leaseExpiry ..) (leaseExpires_idle h),
      answersWith_run _ s _ _ (exec_takeover ..) (whileLive_idle _ takeOver_unpaired h)⟩
  · intro w k
    have copies {v : Work} (hv : sendCopy k w = v) : AnswersWith (.mirrorCopyComplete part) s v :=
      answersWith_run _ s _ _ (exec_mirrorCopyComplete ..) ((whileLive_live _ hlive).trans hv)
    refine ⟨fun h => copies (sendCopy_idle hp h), fun c rest hc hrole hs => ⟨fun h => ?_, fun h => ?_⟩⟩
    · obtain ⟨pl, f, hpl, hf, hlt⟩ := h
      refine copies (sendCopy_early hp hc ?_)
      have hpl' : pairedPlan w.hw k = some pl := hpl
      simp only [copyEarly, hpl', Option.bind_some, hf, decide_eq_true hlt]
    · refine copies (sendCopy_sends hp hc hrole hs ?_)
      unfold copyEarly
      split
      next f hf =>
        obtain ⟨pl, hpl, hf⟩ := Option.bind_eq_some_iff.mp hf
        exact decide_eq_false (Nat.not_lt.mpr (h pl f hpl hf))
      next => rfl
  · intro w k
    have commits {v : Work} (hv : commitFrame k w = v) : AnswersWith (.commit part) s v :=
      answersWith_run _ s _ _ (exec_commit ..) ((whileLive_live _ hlive).trans hv)
    refine ⟨fun h => commits (commitFrame_idle hp h), fun e rest he hrole hs => ?_⟩
    intro own written
    have hready (h : endReady s.hw k e = true) :
        commitFrame k w = match written with | none => w | some v => frameCommitted k p e rest v := commitFrame_ready hp he hrole hs h
    refine ⟨fun h => commits (commitFrame_unready hp he h), fun h hnone => commits ((hready h).trans ?_),
      fun h v hv => commits ((hready h).trans ?_)⟩
    · rw [hnone]
    · rw [hv]
      rfl
  · intro w k st
    have resends {v : Work} (hv : resendOverdue k stream.toNat w = v) : AnswersWith (.mirrorResendTimeout part stream) s v :=
      answersWith_run _ s _ _ (exec_mirrorResendTimeout ..) hv
    refine ⟨fun h => resends (resendOverdue_empty hp h), fun r rest h => ⟨fun ht => ?_, fun ht => ?_⟩⟩
    · exact resends ((resendOverdue_waiting hp h hlive).trans (if_pos ht))
    · exact resends ((resendOverdue_waiting hp h hlive).trans (if_neg (Nat.not_le.mpr ht)))
  · intro w k
    have loses {v : Work} (hv : losePartner k w = v) : AnswersWith (.partnerLost part) s v := answersWith_run _ s _ _ (exec_partnerLost ..) hv
    have expires {v : Work} (hv : leaseExpires k w = v) : AnswersWith (.leaseExpiry part) s v :=
      answersWith_run _ s _ _ (exec_leaseExpiry ..) hv
    have takes {v : Work} (hv : takeOver k w = v) : AnswersWith (.takeover part) s v :=
      answersWith_run _ s _ _ (exec_takeover ..) ((whileLive_live _ hlive).trans hv)
    have hlease := leaseExpires_holder (w := w) hp hlive
    refine ⟨fun hs ⟨t, ht, htick⟩ => loses (losePartner_silent hp hs hlive ht htick), fun h => loses (losePartner_heard hp h),
      fun hrole ht => expires (hlease.trans (if_pos ⟨hrole, ht⟩)), fun h => expires (hlease.trans (if_neg ?_)),
      fun h => takes (takeOver_none hp h), fun t h => ?_⟩
    · rintro ⟨hrole, ht⟩
      exact h.elim (fun h => h hrole) (fun h => Nat.not_le.mpr h ht)
    · intro stale held
      refine ⟨fun ht => takes (takeOver_early hp h ht), fun ht hpl => takes ((takeOver_due hp h ht).trans ?_),
        fun ht pl hpl => takes ((takeOver_due hp h ht).trans ?_)⟩
      · rw [show pairedPlan w.hw k = none from hpl]
        rfl
      · rw [show pairedPlan w.hw k = some pl from hpl]
        rfl
  · obtain ⟨hrole, hstate, hlt, ht⟩ := takeoverAt_some h
    rw [takeoverFrom] at ht
    refine ⟨hrole, hstate, ?_, hlt, fun hr => ?_, fun at_ last hr => ?_⟩
    · rw [ht]
      exact Nat.le_max_left ..
    · rw [hr] at ht
      dsimp only at ht
      omega
    · rw [hr] at ht
      dsimp only at ht
      split at ht <;> omega

end Sys2Proof.Machine
end

section
/-! PROOFS. RDMA requests that arrive from a host (R318 to R333). -/
namespace Sys2Proof.Machine

open Sys2Proof

/-! ## What the arrival of packets leaves as it was -/

/-- No more than the queue pairs, the ports and halves, the counters, what leaves and the free values taken differ. -/
def EtherOnly (w v : Work) : Prop :=
  v = { w with hw := { w.hw with
    host := { w.hw.host with halves := v.hw.host.halves, qps := v.hw.host.qps }
    ctr := v.hw.ctr
    tx := v.hw.tx
    freeCtr := v.hw.freeCtr } }

section
variable {w v x : Work}

theorem EtherOnly.refl (w : Work) : EtherOnly w w := rfl

theorem EtherOnly.trans (h : EtherOnly w v) (h' : EtherOnly v x) : EtherOnly w x := by
  unfold EtherOnly at *
  rw [h'.trans (by rw [h])]

theorem EtherOnly.regionOfKey (h : EtherOnly w v) (rkey : Nat) : regionOfKey v.hw rkey = regionOfKey w.hw rkey := by
  rw [h]
  rfl

theorem EtherOnly.regions (h : EtherOnly w v) : v.hw.host.regions = w.hw.host.regions := by rw [h]

theorem EtherOnly.channelTakes (h : EtherOnly w v) (q : Qp) (rkey a n : Nat) : channelTakes v.hw q rkey a n = channelTakes w.hw q rkey a n := by
  rw [h]
  rfl

theorem EtherOnly.rangeInReset (h : EtherOnly w v) (a : Nat) : rangeInReset v.hw a = rangeInReset w.hw a := by
  rw [h]
  rfl

theorem EtherOnly.isRackQp (h : EtherOnly w v) (i : Nat) : isRackQp v.hw i = isRackQp w.hw i := by
  rw [h]
  rfl

theorem EtherOnly.time (h : EtherOnly w v) : v.hw.time = w.hw.time := by rw [h]

end

theorem ite_etherOnly {c : Prop} [Decidable c] {w v x : Work} (h : EtherOnly w v) (h' : EtherOnly w x) : EtherOnly w (if c then v else x) := by
  split
  · exact h
  · exact h'

theorem bump_etherOnly (block index n : Nat) (w : Work) : EtherOnly w (bump block index n w) := rfl

theorem modHalf_etherOnly (i : Nat) (f : EthHalf → EthHalf) (w : Work) : EtherOnly w (modHalf i f w) := rfl

theorem modQp_etherOnly (i : Nat) (f : Qp → Qp) (w : Work) : EtherOnly w (modQp i f w) := rfl

theorem emit_etherOnly (e : Emit) (w : Work) : EtherOnly w (emit e w) := rfl

theorem freeUsed_etherOnly (w : Work) : EtherOnly w (freeUsed w) := rfl

theorem judgeFill_etherOnly (h k fill : Nat) (w : Work) : EtherOnly w (judgeFill h k fill w) := by
  unfold judgeFill
  dsimp only
  split
  · exact ((modHalf_etherOnly ..).trans (emit_etherOnly ..)).trans (bump_etherOnly ..)
  · exact modHalf_etherOnly ..

theorem noteFill_etherOnly (h k : Nat) (w : Work) : EtherOnly w (noteFill h k w) := by
  unfold noteFill
  split
  · exact (freeUsed_etherOnly w).trans (judgeFill_etherOnly ..)
  · exact .refl w

theorem countReceived_etherOnly (q : Qp) (frames bytes : Nat) (w : Work) : EtherOnly w (countReceived q frames bytes w) :=
  ((modHalf_etherOnly ..).trans (bump_etherOnly ..)).trans (noteFill_etherOnly ..)

theorem countSent_etherOnly (q : Qp) (packets len : Nat) (w : Work) : EtherOnly w (countSent q packets len w) :=
  (modHalf_etherOnly ..).trans (bump_etherOnly ..)

theorem sendRoce_etherOnly (q : Qp) (op psn address : Nat) (data : List Byte) (w : Work) : EtherOnly w (sendRoce q op psn address data w) := by
  unfold sendRoce
  split
  · exact modQp_etherOnly ..
  · exact (emit_etherOnly ..).trans (countSent_etherOnly ..)

theorem notifyCongestion_etherOnly (i : Nat) (ce : Bool) (w : Work) : EtherOnly w (notifyCongestion i ce w) := by
  unfold notifyCongestion
  cases findQp w.hw i with
  | none => exact .refl w
  | some q =>
    refine ite_etherOnly (.refl w) ?_
    exact ((modQp_etherOnly ..).trans (sendRoce_etherOnly ..)).trans (bump_etherOnly ..)

/-! ## Requests in their turn (R318, R320; log 24) -/

/-- The packets of a request have arrived, and a mark of congestion is answered (R325). -/
def packetsArrived (i : Nat) (ce : Bool) (q : Qp) (frames bytes : Nat) (w : Work) : Work :=
  notifyCongestion i ce (countReceived q frames bytes w)

theorem packetsArrived_etherOnly (i : Nat) (ce : Bool) (q : Qp) (frames bytes : Nat) (w : Work) :
    EtherOnly w (packetsArrived i ce q frames bytes w) := (countReceived_etherOnly ..).trans (notifyCongestion_etherOnly ..)

section
variable {i psn n frames bytes : Nat} {ce : Bool} {act : Qp → Work → Work} {w : Work}

theorem inTurn_unserved (h : findQp w.hw i = none ∨ cupolaLive w.hw = false) : inTurn i psn n frames bytes ce act w = w := by
  unfold inTurn
  rcases h with h | h
  · simp only [h]
  · simp only [h, Bool.not_false, if_true]
    split <;> rfl

variable {q : Qp} (hq : findQp w.hw i = some q) (hlive : cupolaLive w.hw = true)
include hq hlive

theorem inTurn_inactive (h : q.state ≠ 1) : inTurn i psn n frames bytes ce act w = countReceived q frames bytes w := by
  simp only [inTurn, hq, hlive, Bool.not_true, Bool.false_eq_true, if_false, ne_eq, h, not_false_eq_true, if_true]

theorem inTurn_ready (h : q.state = 1) :
    inTurn i psn n frames bytes ce act w =
      if (psn + 2 ^ 24 - q.rqPsn % 2 ^ 24) % 2 ^ 24 = 0 then act q (packetsArrived i ce q frames bytes w)
      else if 2 ^ 23 ≤ (psn + 2 ^ 24 - q.rqPsn % 2 ^ 24) % 2 ^ 24 then
        sendRoce q 3 ((psn + n - 1) % 2 ^ 24) 0 [] (packetsArrived i ce q frames bytes w)
      else sendRdmaNak q q.rqPsn .sequence (packetsArrived i ce q frames bytes w) := by
  simp only [inTurn, hq, hlive, Bool.not_true, Bool.false_eq_true, if_false, ne_eq, h, not_true]
  rfl

end

/-! ## What requests do in their turn (R319, R322, R323, R332, R333) -/

/-- What a WRITE in its turn does. -/
def placeWrite (psn rkey a n : Nat) (data : List Byte) (q : Qp) (w : Work) : Work :=
  match regionOfKey w.hw rkey with
  | some r =>
    if !regionTakesWrite r a data.length then refuseRdma q psn .remoteAccess w
    else if rangeInReset w.hw a then sendRdmaNak q psn .remoteOperational w
    else ackRequest q psn n (postSeal r a data.length (w.write a data))
  | none =>
    if channelTakes w.hw q rkey a data.length then ackRequest q psn n (w.write a data) else refuseRdma q psn .remoteAccess w

/-- What a READ reaches. -/
def readReaches (hw : Hw) (q : Qp) (rkey a len : Nat) : Bool :=
  match regionOfKey hw rkey with
  | some r => regionTakesRead r a len
  | none => channelTakes hw q rkey a len

/-- What a READ in its turn does. -/
def answerRead (i psn rkey a len : Nat) (q : Qp) (w : Work) : Work :=
  if !readReaches w.hw q rkey a len then refuseRdma q psn .remoteAccess w
  else if rangeInReset w.hw a then sendRdmaNak q psn .remoteOperational w
  else if !w.good a len then sendRdmaNak q psn .remoteOperational (uncorrectableAt (w.firstBad a len) w)
  else sendRoce q 6 psn a (w.read a len) (modQp i (fun x => { x with rqPsn := (psn + packetsOf q.mtu len) % 2 ^ 24 }) w)

/-- What a SEND in its turn does. -/
def placeSend (i psn n : Nat) (data : List Byte) (imm : Option Nat) (q : Qp) (w : Work) : Work :=
  match w.hw.host.regions.find? (fun r => r.type == 3 && r.ringQp == i) with
  | some r => takeRingSend q r psn n data imm w
  | none => if isRackQp w.hw i then takeRack i (imm.getD 0) data (ackRequest q psn n w) else sendRdmaNak q psn .rnr w

section
variable {i psn rkey a len : Nat} {data : List Byte} {imm : Option Nat} {ce : Bool} {w : Work}

theorem takeWrite_eq :
    takeWrite i psn rkey a data ce w = inTurn i psn (packetsOf (mtuOf w.hw i) data.length) (packetsOf (mtuOf w.hw i) data.length)
      (wireBytes (packetsOf (mtuOf w.hw i) data.length) data.length) ce
      (placeWrite psn rkey a (packetsOf (mtuOf w.hw i) data.length) data) w := rfl

theorem takeUnsupported_eq :
    takeUnsupported i psn data ce w = inTurn i psn (packetsOf (mtuOf w.hw i) data.length) (packetsOf (mtuOf w.hw i) data.length)
      (wireBytes (packetsOf (mtuOf w.hw i) data.length) data.length) ce (fun q w => refuseRdma q psn .invalidRequest w) w := rfl

theorem takeRead_eq :
    takeRead i psn rkey a len ce w = inTurn i psn (packetsOf (mtuOf w.hw i) len) 1 (wireBytes 1 0) ce (answerRead i psn rkey a len) w := rfl

theorem takeSend_eq :
    takeSend i psn data imm ce w = inTurn i psn (packetsOf (mtuOf w.hw i) data.length) (packetsOf (mtuOf w.hw i) data.length)
      (wireBytes (packetsOf (mtuOf w.hw i) data.length) data.length) ce (placeSend i psn (packetsOf (mtuOf w.hw i) data.length) data imm) w := rfl

theorem mtuOf_some {q : Qp} (hq : findQp w.hw i = some q) : mtuOf w.hw i = q.mtu := by
  rw [mtuOf, hq]
  rfl

end

section
variable {psn rkey a n : Nat} {data : List Byte} {q : Qp} {w : Work}

theorem placeWrite_region {r : Region} (h : regionOfKey w.hw rkey = some r) :
    placeWrite psn rkey a n data q w =
      if !regionTakesWrite r a data.length then refuseRdma q psn .remoteAccess w
      else if rangeInReset w.hw a then sendRdmaNak q psn .remoteOperational w
      else ackRequest q psn n (postSeal r a data.length (w.write a data)) := by
  simp only [placeWrite, h]

theorem placeWrite_channel (h : regionOfKey w.hw rkey = none) :
    placeWrite psn rkey a n data q w = if channelTakes w.hw q rkey a data.length then ackRequest q psn n (w.write a data)
      else refuseRdma q psn .remoteAccess w := by
  simp only [placeWrite, h]

end

theorem placeSend_ring {i psn n : Nat} {data : List Byte} {imm : Option Nat} {q : Qp} {w : Work} {r : Region}
    (h : w.hw.host.regions.find? (fun r => r.type == 3 && r.ringQp == i) = some r) :
    placeSend i psn n data imm q w = takeRingSend q r psn n data imm w := by
  simp only [placeSend, h]

section
variable {r : Region} {a n : Nat} {w : Work}

/-- A write that is not the first half of a seal record is not posted (R333). -/
theorem postSeal_other (h : ∀ k, r.type = 2 → k < r.slots → a = r.base + 0x800 + 32 * k → n ≠ 16) : postSeal r a n w = w := by
  refine if_neg ?_
  rintro ⟨htype, hn, hbase, hmod, hk⟩
  exact h ((a - (r.base + 0x800)) / 32) htype hk (by omega) hn

theorem postSeal_seal {k : Nat} (htype : r.type = 2) (hk : k < r.slots) (ha : a = r.base + 0x800 + 32 * k) (hn : n = 16) :
    postSeal r a n w = (w.writeNum (a + 16) 8 w.hw.time.now).up fun h => { h with host := { h.host with
      seals := h.host.seals ++ [{ region := r.index, record := k, time := w.hw.time.now }] } } := by
  have hrecord : (a - (r.base + 0x800)) / 32 = k := by omega
  have hmod : (a - (r.base + 0x800)) % 32 = 0 := by omega
  rw [← hrecord] at hk
  refine (if_pos ⟨htype, hn, by omega, hmod, hk⟩).trans ?_
  rw [hrecord]

end

theorem write_time (w : Work) (a : Nat) (bs : List Byte) : (w.write a bs).hw.time = w.hw.time := (write_recordOnly a bs w).time

section
variable {q : Qp} {r : Region} {psn n : Nat} {data : List Byte} {imm : Option Nat} {w : Work}

theorem takeRingSend_long (h : r.slotBytes - 16 < data.length) : takeRingSend q r psn n data imm w = sendRdmaNak q psn .invalidRequest w :=
  if_pos h

variable (h : data.length ≤ r.slotBytes - 16)
include h

theorem takeRingSend_full (hv : bit (w.num (r.base + r.nextEntry * r.slotBytes + r.slotBytes - 16 + 8) 1) 0 = true) :
    takeRingSend q r psn n data imm w = sendRdmaNak q psn .rnr w := (if_neg (Nat.not_lt.mpr h)).trans (if_pos hv)

theorem takeRingSend_placed (hv : bit (w.num (r.base + r.nextEntry * r.slotBytes + r.slotBytes - 16 + 8) 1) 0 = false) :
    takeRingSend q r psn n data imm w =
      ackRequest q psn n (modRegion r.index (fun x => { x with nextEntry := (x.nextEntry + 1) % max 1 x.slots })
        ((w.write (r.base + r.nextEntry * r.slotBytes) data).write (r.base + r.nextEntry * r.slotBytes + r.slotBytes - 16)
          (leBytes 4 data.length ++ leBytes 4 (imm.getD 0) ++ leBytes 1 (1 + 2 * b2n imm.isSome) ++ zeros 7))) :=
  (if_neg (Nat.not_lt.mpr h)).trans (if_neg (ne_true_of_eq_false hv))

end

theorem notifyCongestion_unmarked (i : Nat) (w : Work) : notifyCongestion i false w = w := by
  unfold notifyCongestion
  split <;> rfl

theorem notifyCongestion_recent {i t : Nat} {q : Qp} {w : Work} (hq : findQp w.hw i = some q) (ht : q.cnpSentAt = some t)
    (h : w.hw.time.now < t + w.hw.host.cong.cnp * 1000) : notifyCongestion i true w = w := by
  simp only [notifyCongestion, hq, ht, decide_eq_false (Nat.not_le.mpr h), Bool.not_true, Bool.not_false, Bool.or_true, if_true]

theorem notifyCongestion_sends {i : Nat} {q : Qp} {w : Work} (hq : findQp w.hw i = some q)
    (h : ∀ t, q.cnpSentAt = some t → t + w.hw.host.cong.cnp * 1000 ≤ w.hw.time.now) :
    notifyCongestion i true w = bump 5 (25 + (q.code - 8)) 1
      (sendRoce q 5 0 0 [] (modQp i (fun x => { x with cnpSentAt := some w.hw.time.now }) w)) := by
  unfold notifyCongestion
  simp only [hq]
  refine if_neg ?_
  cases ht : q.cnpSentAt with
  | none => simp
  | some t => simp [h t ht]

/-- The rows of requests, each with the PSNs it takes, its frames and its bytes. -/
def requestRows (mtu : Nat) (qp : BitVec 12) (psn : BitVec 24) (rkey : W32) (address : W64) (data : List Byte) (length : W32) (ce : Bool)
    (imm : Option W32) (bytes : Vector Byte 16) : List (Instr × Nat × Nat × Nat) :=
  let sized (i : Instr) (n : Nat) : Instr × Nat × Nat × Nat := (i, packetsOf mtu n, packetsOf mtu n, wireBytes (packetsOf mtu n) n)
  [sized (.rdmaWrite qp psn rkey address data ce .plain) data.length, sized (.rdmaWrite qp psn rkey address data ce .withImmediate) data.length,
    sized (.rdmaWrite qp psn rkey address data ce .atomic) data.length, sized (.rdmaWrite qp psn rkey address data ce .memoryWindow) data.length,
    sized (.seal qp psn rkey address bytes ce) 16, sized (.rdmaSend qp psn data imm ce) data.length,
    (.rdmaRead qp psn rkey address length ce, packetsOf mtu length.toNat, 1, wireBytes 1 0)]

section
variable {s : State} {qp : BitVec 12} {psn : BitVec 24} {rkey : W32} {address : W64} {data : List Byte} {length : W32} {ce : Bool}
  {imm : Option W32} {bytes : Vector Byte 16}

/-- Each row of a request takes it in its turn. -/
theorem requestRows_inTurn {i : Instr} {n frames size : Nat}
    (h : (i, n, frames, size) ∈ requestRows (mtuOf (beginWork s).hw qp.toNat) qp psn rkey address data length ce imm bytes) :
    ∃ f act, exec i s = run s f ∧ f (beginWork s) = inTurn qp.toNat psn.toNat n frames size ce act (beginWork s) := by
  simp only [requestRows, List.mem_cons, List.not_mem_nil, or_false, Prod.mk.injEq] at h
  obtain ⟨rfl, rfl, rfl, rfl⟩ | ⟨rfl, rfl, rfl, rfl⟩ | ⟨rfl, rfl, rfl, rfl⟩ | ⟨rfl, rfl, rfl, rfl⟩ | ⟨rfl, rfl, rfl, rfl⟩ |
    ⟨rfl, rfl, rfl, rfl⟩ | ⟨rfl, rfl, rfl, rfl⟩ := h
  · exact ⟨_, _, exec_rdmaWrite .., takeWrite_eq⟩
  · exact ⟨_, _, exec_rdmaWrite .., takeUnsupported_eq⟩
  · exact ⟨_, _, exec_rdmaWrite .., takeUnsupported_eq⟩
  · exact ⟨_, _, exec_rdmaWrite .., takeUnsupported_eq⟩
  · have hlen : bytes.toList.length = 16 := by simp
    have hwrite := takeWrite_eq (i := qp.toNat) (psn := psn.toNat) (rkey := rkey.toNat) (a := address.toNat) (data := bytes.toList) (ce := ce)
      (w := beginWork s)
    rw [hlen] at hwrite
    exact ⟨_, _, exec_seal .., hwrite⟩
  · exact ⟨_, _, exec_rdmaSend .., takeSend_eq⟩
  · exact ⟨_, _, exec_rdmaRead .., takeRead_eq⟩

variable {q : Qp} (hq : findQp (beginWork s).hw qp.toNat = some q) (hlive : cupolaLive (beginWork s).hw = true) (hstate : q.state = 1)
  (hturn : (psn.toNat + 2 ^ 24 - q.rqPsn % 2 ^ 24) % 2 ^ 24 = 0)
include hq hlive hstate hturn

theorem inTurn_acts {n frames size : Nat} {act : Qp → Work → Work} :
    inTurn qp.toNat psn.toNat n frames size ce act (beginWork s) = act q (packetsArrived qp.toNat ce q frames size (beginWork s)) := by
  rw [inTurn_ready hq hlive hstate, if_pos hturn]

/-- The packets of a request with data have arrived. -/
def dataArrived (qp : BitVec 12) (ce : Bool) (q : Qp) (n : Nat) (s : State) : Work :=
  packetsArrived qp.toNat ce q (packetsOf q.mtu n) (wireBytes (packetsOf q.mtu n) n) (beginWork s)

theorem answers_unsupported {form : WriteForm} (h : form ∈ [WriteForm.withImmediate, .atomic, .memoryWindow]) :
    AnswersWith (.rdmaWrite qp psn rkey address data ce form) s (refuseRdma q psn.toNat .invalidRequest (dataArrived qp ce q data.length s)) := by
  have hrefused : takeUnsupported qp.toNat psn.toNat data ce (beginWork s) =
      refuseRdma q psn.toNat .invalidRequest (dataArrived qp ce q data.length s) := by
    rw [takeUnsupported_eq, mtuOf_some hq, inTurn_acts hq hlive hstate hturn]
    rfl
  simp only [List.mem_cons, List.not_mem_nil, or_false] at h
  obtain rfl | rfl | rfl := h
  · exact answersWith_run _ s _ _ (exec_rdmaWrite ..) hrefused
  · exact answersWith_run _ s _ _ (exec_rdmaWrite ..) hrefused
  · exact answersWith_run _ s _ _ (exec_rdmaWrite ..) hrefused

theorem answers_write {i : Instr} {bs : List Byte}
    (hi : (i, bs) ∈ [(Instr.rdmaWrite qp psn rkey address data ce .plain, data), (.seal qp psn rkey address bytes ce, bytes.toList)]) {v : Work}
    (hv : placeWrite psn.toNat rkey.toNat address.toNat (packetsOf q.mtu bs.length) bs q (dataArrived qp ce q bs.length s) = v) :
    AnswersWith i s v := by
  have hplaced : takeWrite qp.toNat psn.toNat rkey.toNat address.toNat bs ce (beginWork s) = v := by
    rw [takeWrite_eq, mtuOf_some hq, inTurn_acts hq hlive hstate hturn]
    exact hv
  simp only [List.mem_cons, List.not_mem_nil, or_false, Prod.mk.injEq] at hi
  obtain ⟨rfl, rfl⟩ | ⟨rfl, rfl⟩ := hi
  · exact answersWith_run _ s _ _ (exec_rdmaWrite ..) hplaced
  · exact answersWith_run _ s _ _ (exec_seal ..) hplaced

theorem answers_read {v : Work}
    (hv : answerRead qp.toNat psn.toNat rkey.toNat address.toNat length.toNat q
      (packetsArrived qp.toNat ce q 1 (wireBytes 1 0) (beginWork s)) = v) : AnswersWith (.rdmaRead qp psn rkey address length ce) s v := by
  refine answersWith_run _ s _ _ (exec_rdmaRead ..) ?_
  rw [takeRead_eq, inTurn_acts hq hlive hstate hturn]
  exact hv

theorem answers_send {v : Work}
    (hv : placeSend qp.toNat psn.toNat (packetsOf q.mtu data.length) data (imm.map BitVec.toNat) q (dataArrived qp ce q data.length s) = v) :
    AnswersWith (.rdmaSend qp psn data imm ce) s v := by
  refine answersWith_run _ s _ _ (exec_rdmaSend ..) ?_
  rw [takeSend_eq, mtuOf_some hq, inTurn_acts hq hlive hstate hturn]
  exact hv

end

/-- Settles O33, by the turn of a request on its queue pair and then by what it reaches. -/
theorem rdmaRequests : Obligations.RdmaRequests := by
  unfold Obligations.RdmaRequests
  intro s qp psn rkey address data length ce imm bytes
  rw [show findQp s.hw qp.toNat = findQp (beginWork s).hw qp.toNat from rfl]
  intro w0 a
  refine ⟨fun h i hi => ?_, fun q hq hlive => ?_, fun w i q op psn address data hq => ?_⟩
  · obtain ⟨⟨i, n, frames, size⟩, hmem, rfl⟩ :=
      List.mem_map (f := Prod.fst) (l := requestRows (mtuOf w0.hw qp.toNat) qp psn rkey address data length ce imm bytes) |>.mp hi
    obtain ⟨f, act, hexec, hf⟩ := requestRows_inTurn hmem
    exact answersWith_run i s _ _ hexec (hf.trans (inTurn_unserved h))
  · intro pk ahead got w r1
    refine ⟨fun i n frames size hmem => ?_, fun hs h0 => ⟨fun form hform => answers_unsupported hq hlive hs h0 hform, fun i bs hi => ?_, ?_,
      fun r hr => ?_, fun hr => ?_⟩⟩
    · have hmem' : (i, n, frames, size) ∈ requestRows (mtuOf w0.hw qp.toNat) qp psn rkey address data length ce imm bytes := by
        rw [mtuOf_some hq]
        exact hmem
      obtain ⟨f, act, hexec, hf⟩ := requestRows_inTurn hmem'
      have answers {v : Work} (hv : inTurn qp.toNat psn.toNat n frames size ce act w0 = v) : AnswersWith i s v :=
        answersWith_run i s _ _ hexec (hf.trans hv)
      refine ⟨fun hs => answers (inTurn_inactive hq hlive hs), fun hs h => answers ((inTurn_ready hq hlive hs).trans ?_),
        fun hs h h' => answers ((inTurn_ready hq hlive hs).trans ?_)⟩
      · have hne : ¬(psn.toNat + 2 ^ 24 - q.rqPsn % 2 ^ 24) % 2 ^ 24 = 0 := fun hn => absurd (hn ▸ h : 2 ^ 23 ≤ 0) (by decide)
        exact (if_neg hne).trans (if_pos h)
      · exact (if_neg (Nat.ne_of_gt h)).trans (if_neg (Nat.not_le.mpr h'))
    · intro n
      have hv : EtherOnly w0 (w n) := packetsArrived_etherOnly ..
      have answers {v : Work} (h : placeWrite psn.toNat rkey.toNat a (pk n) bs q (w n) = v) : AnswersWith i s v :=
        answers_write hq hlive hs h0 hi h
      refine ⟨fun r hr => ?_, fun hr => ?_⟩
      · have hplace := placeWrite_region (psn := psn.toNat) (a := a) (n := pk n) (data := bs) (q := q) ((hv.regionOfKey _).trans hr)
        rw [hv.rangeInReset] at hplace
        refine ⟨fun ht => answers (hplace.trans (if_pos (by rw [ht]; rfl))),
          fun ht hreset => answers (hplace.trans ((if_neg (by rw [ht]; exact Bool.false_ne_true)).trans (if_pos hreset))), fun ht hreset => ?_⟩
        have hgoes := hplace.trans ((if_neg (by rw [ht]; exact Bool.false_ne_true)).trans (if_neg (ne_true_of_eq_false hreset)))
        refine ⟨fun hk => answers (hgoes.trans (by rw [postSeal_other hk])), fun k htype hk ha hn => answers (hgoes.trans ?_)⟩
        rw [postSeal_seal htype hk ha hn, write_time, hv.time]
        rfl
      · have hplace := placeWrite_channel (psn := psn.toNat) (a := a) (n := pk n) (data := bs) (q := q) ((hv.regionOfKey _).trans hr)
        rw [hv.channelTakes] at hplace
        exact ⟨fun h => answers (hplace.trans (if_pos h)), fun h => answers (hplace.trans (if_neg (ne_true_of_eq_false h)))⟩
    · intro reaches i
      have hv : EtherOnly w0 r1 := packetsArrived_etherOnly ..
      have answers {v : Work} (h : answerRead qp.toNat psn.toNat rkey.toNat a length.toNat q r1 = v) : AnswersWith i s v :=
        answers_read hq hlive hs h0 h
      have hreaches : readReaches r1.hw q rkey.toNat a length.toNat = reaches := by
        rw [readReaches, hv.regionOfKey, hv.channelTakes]
        rfl
      have hread : answerRead qp.toNat psn.toNat rkey.toNat a length.toNat q r1 =
          if !reaches then refuseRdma q psn.toNat .remoteAccess r1
          else if rangeInReset s.hw a then sendRdmaNak q psn.toNat .remoteOperational r1
          else if !r1.good a length.toNat then sendRdmaNak q psn.toNat .remoteOperational (uncorrectableAt (r1.firstBad a length.toNat) r1)
          else sendRoce q 6 psn.toNat a (r1.read a length.toNat)
            (modQp qp.toNat (fun x => { x with rqPsn := (psn.toNat + pk length.toNat) % 2 ^ 24 }) r1) := by
        rw [answerRead, hreaches, hv.rangeInReset]
        rfl
      refine ⟨fun h => answers (hread.trans ?_), fun h hr => answers (hread.trans ?_), fun h hr hg => answers (hread.trans ?_),
        fun h hr hg => answers (hread.trans ?_)⟩
      · rw [h]
        rfl
      · rw [h, hr]
        rfl
      · rw [h, hr, hg]
        rfl
      · rw [h, hr, hg]
        rfl
    · intro entry v valid
      have hv : EtherOnly w0 (w data.length) := packetsArrived_etherOnly ..
      have answers {x : Work}
          (h : takeRingSend q r psn.toNat (pk data.length) data (imm.map BitVec.toNat) v = x) : AnswersWith (.rdmaSend qp psn data imm ce) s x := by
        refine answers_send hq hlive hs h0 (Eq.trans ?_ h)
        have hr' : (w data.length).hw.host.regions.find? (fun r => r.type == 3 && r.ringQp == qp.toNat) = some r := by rw [hv.regions]; exact hr
        exact placeSend_ring hr'
      refine ⟨fun h => answers (takeRingSend_long h), fun h hfull => answers (takeRingSend_full h hfull), fun h hfree => answers ?_⟩
      have himm : (imm.map BitVec.toNat).isSome = imm.isSome := Option.isSome_map ..
      rw [takeRingSend_placed h hfree, himm]
    · have hv : EtherOnly w0 (w data.length) := packetsArrived_etherOnly ..
      have hr' : (w data.length).hw.host.regions.find? (fun r => r.type == 3 && r.ringQp == qp.toNat) = none := by rw [hv.regions]; exact hr
      have hsend : placeSend qp.toNat psn.toNat (pk data.length) data (imm.map BitVec.toNat) q (w data.length) =
          if isRackQp s.hw qp.toNat then
            takeRack qp.toNat ((imm.map BitVec.toNat).getD 0) data (ackRequest q psn.toNat (pk data.length) (w data.length))
          else sendRdmaNak q psn.toNat .rnr (w data.length) := by
        simp only [placeSend, hr', hv.isRackQp]
        rfl
      exact ⟨fun h => answers_send hq hlive hs h0 (hsend.trans (if_pos h)),
        fun h => answers_send hq hlive hs h0 (hsend.trans (if_neg (ne_true_of_eq_false h)))⟩
  · exact ⟨fun h => if_pos h, fun h => if_neg (ne_true_of_eq_false h), notifyCongestion_unmarked i w,
      fun t ht h => notifyCongestion_recent hq ht h, notifyCongestion_sends hq⟩

end Sys2Proof.Machine
end

section
/-! PROOFS. Acknowledgements, timeouts and congestion of queue pairs (R321 to R329). -/
namespace Sys2Proof.Machine

open Sys2Proof

/-! ## Acknowledgements (R321) -/

section
variable {i psn : Nat} {nak : Option NakKind} {ce : Bool} {w : Work}

theorem takeAckRoce_unserved (h : findQp w.hw i = none ∨ cupolaLive w.hw = false) : takeAckRoce i psn nak ce w = w := by
  unfold takeAckRoce
  rcases h with h | h
  · simp only [h]
  · simp only [h, Bool.not_false, if_true]
    split <;> rfl

theorem takeCnp_unserved (h : findQp w.hw i = none ∨ cupolaLive w.hw = false) : takeCnp i w = w := by
  unfold takeCnp
  rcases h with h | h
  · simp only [h]
  · simp only [h, Bool.not_false, if_true]
    split <;> rfl

/-- No request of the queue pair waits for its acknowledgement. -/
theorem oldestWork_none (h : ∀ q, findQp w.hw i = some q → q.state = 1 → ∀ r rest, q.outstanding = r :: rest → r.sent = false) :
    oldestWork w.hw i = none := by
  rw [oldestWork]
  cases hq : findQp w.hw i with
  | none => rfl
  | some q =>
    rw [Option.bind_some]
    cases ho : q.outstanding with
    | nil => rfl
    | cons r rest =>
      rw [List.head?_cons, Option.bind_some]
      refine if_neg ?_
      rintro ⟨hs, hsent⟩
      rw [h q hq hs r rest ho] at hsent
      cases hsent

theorem ackTimeoutQp_idle (h : oldestWork w.hw i = none) : ackTimeoutQp i w = w := by
  simp only [ackTimeoutQp, h]

theorem retriesExhausted_idle (h : oldestWork w.hw i = none) : retriesExhausted i w = w := by
  simp only [retriesExhausted, h]

variable {q : Qp} (hq : findQp w.hw i = some q)
include hq

theorem oldestWork_some {r : WorkReq} {rest : List WorkReq} (hs : q.state = 1) (ho : q.outstanding = r :: rest) (hr : r.sent = true) :
    oldestWork w.hw i = some (q, r) := by
  simp only [oldestWork, hq, Option.bind_some, ho, List.head?_cons]
  exact if_pos ⟨hs, hr⟩

theorem takeAckRoce_inactive (hlive : cupolaLive w.hw = true) (hs : q.state ≠ 1) :
    takeAckRoce i psn nak ce w = countReceived q 1 (wireBytes 1 0) w := by
  simp only [takeAckRoce, hq, hlive, Bool.not_true, Bool.false_eq_true, if_false, ne_eq, hs, not_false_eq_true, if_true]

section
variable (hlive : cupolaLive w.hw = true) (hs : q.state = 1)
include hlive hs

theorem takeAckRoce_ack :
    takeAckRoce i psn none ce w = ackUpTo i psn q.outstanding.length (notifyCongestion i ce (countReceived q 1 (wireBytes 1 0) w)) := by
  simp only [takeAckRoce, hq, hlive, Bool.not_true, Bool.false_eq_true, if_false, ne_eq, hs, not_true]

/-- What the requests before a NAK leave. -/
def nakBefore (i psn : Nat) (ce : Bool) (q : Qp) (w : Work) : Work :=
  ackUpTo i ((psn + 2 ^ 24 - 1) % 2 ^ 24) q.outstanding.length (notifyCongestion i ce (countReceived q 1 (wireBytes 1 0) w))

theorem takeAckRoce_nak (kind : NakKind) :
    takeAckRoce i psn (some kind) ce w =
      match kind, oldestWork (nakBefore i psn ce q w).hw i with
      | _, none => nakBefore i psn ce q w
      | .sequence, some (p, r) => if r.retries < p.retry then resendWork i false (nakBefore i psn ce q w) else qpFailed i 1 (nakBefore i psn ce q w)
      | .rnr, some (p, r) => if r.rnrs < p.rnr then resendWork i true (nakBefore i psn ce q w) else qpFailed i 1 (nakBefore i psn ce q w)
      | _, some _ => qpFailed i 2 (nakBefore i psn ce q w) := by
  simp only [takeAckRoce, hq, hlive, Bool.not_true, Bool.false_eq_true, if_false, ne_eq, hs, not_true]
  rfl

theorem takeAckRoce_settled (kind : NakKind) (h : oldestWork (nakBefore i psn ce q w).hw i = none) :
    takeAckRoce i psn (some kind) ce w = nakBefore i psn ce q w := by
  rw [takeAckRoce_nak hq hlive hs, h]

variable {p : Qp} {r : WorkReq} (h : oldestWork (nakBefore i psn ce q w).hw i = some (p, r))
include h

theorem takeAckRoce_sequence :
    takeAckRoce i psn (some .sequence) ce w =
      if r.retries < p.retry then resendWork i false (nakBefore i psn ce q w) else qpFailed i 1 (nakBefore i psn ce q w) := by
  rw [takeAckRoce_nak hq hlive hs, h]

theorem takeAckRoce_rnr :
    takeAckRoce i psn (some .rnr) ce w =
      if r.rnrs < p.rnr then resendWork i true (nakBefore i psn ce q w) else qpFailed i 1 (nakBefore i psn ce q w) := by
  rw [takeAckRoce_nak hq hlive hs, h]

theorem takeAckRoce_fatal {kind : NakKind} (hk : kind ∈ [NakKind.invalidRequest, .remoteAccess, .remoteOperational]) :
    takeAckRoce i psn (some kind) ce w = qpFailed i 2 (nakBefore i psn ce q w) := by
  rw [takeAckRoce_nak hq hlive hs, h]
  simp only [List.mem_cons, List.not_mem_nil, or_false] at hk
  obtain rfl | rfl | rfl := hk
  · rfl
  · rfl
  · rfl

end

/-! ## Congestion and timers (R324; log 25) -/

theorem takeCnp_eq (hlive : cupolaLive w.hw = true) :
    takeCnp i w =
      if q.state ≠ 1 then bump 5 (33 + (q.code - 8)) 1 (countReceived q 1 0 w)
      else modQp i (fun x => { x with
        target := x.rate
        rate := max (w.hw.host.cong.rMin * 1000000) (x.rate - x.rate * x.alpha / 2 ^ 33)
        alpha := x.alpha - x.alpha / 2 ^ w.hw.host.cong.gShift + 2 ^ 32 / 2 ^ w.hw.host.cong.gShift
        stage := 0
        cnpAt := w.hw.time.now }) (bump 5 (33 + (q.code - 8)) 1 (countReceived q 1 0 w)) := by
  simp only [takeCnp, hq, hlive, Bool.not_true, Bool.false_eq_true, if_false]

theorem alphaStep_eq :
    alphaStep i w =
      if q.state ≠ 1 ∨ horizon w.hw < max q.cnpAt q.alphaAt + w.hw.host.cong.tAlpha * 1000 then w
      else modQp i (fun x => { x with
        alpha := x.alpha - x.alpha / 2 ^ w.hw.host.cong.gShift
        alphaAt := max w.hw.time.now (max q.cnpAt q.alphaAt + w.hw.host.cong.tAlpha * 1000) })
        (advance w (max q.cnpAt q.alphaAt + w.hw.host.cong.tAlpha * 1000)) := by
  simp only [alphaStep, hq, due, Bool.not_eq_true', decide_eq_false_iff_not, Nat.not_le]
  rfl

/-- The rate that a queue pair without a CNP goes to. -/
def raisedTarget (hw : Hw) (q : Qp) : Nat :=
  if 5 < q.stage + 1 then min (lineRate hw (q.code - 8)) (q.target + hw.host.cong.rAi * 1000000) else q.target

theorem increaseStep_eq :
    increaseStep i w =
      if q.state ≠ 1 ∨ horizon w.hw < max q.cnpAt q.incAt + w.hw.host.cong.tInc * 1000 then w
      else modQp i (fun x => { x with
        stage := x.stage + 1
        target := raisedTarget w.hw q
        rate := (x.rate + raisedTarget w.hw q) / 2
        incAt := max w.hw.time.now (max q.cnpAt q.incAt + w.hw.host.cong.tInc * 1000) })
        (advance w (max q.cnpAt q.incAt + w.hw.host.cong.tInc * 1000)) := by
  simp only [increaseStep, hq, due, Bool.not_eq_true', decide_eq_false_iff_not, Nat.not_le]
  rfl

end

section
variable {i : Nat} {q : Qp} {r : WorkReq} {w : Work} (h : oldestWork w.hw i = some (q, r))
include h

theorem ackTimeoutQp_eq :
    ackTimeoutQp i w = if ackDue q r ≤ horizon w.hw ∧ r.retries < q.retry then resendWork i false (advance w (ackDue q r)) else w := by
  simp only [ackTimeoutQp, h, due, Bool.and_eq_true, decide_eq_true_eq]

theorem retriesExhausted_eq :
    retriesExhausted i w = if ackDue q r ≤ horizon w.hw ∧ q.retry ≤ r.retries then qpFailed i 1 (advance w (ackDue q r)) else w := by
  simp only [retriesExhausted, h, due, Bool.and_eq_true, decide_eq_true_eq]

end

/-! ## Requests that complete, and what leaves (R321, R326) -/

section
variable {i psn n : Nat} {q : Qp} {w : Work} (hq : findQp w.hw i = some q)
include hq

theorem ackUpTo_completes {r : WorkReq} {rest : List WorkReq} (ho : q.outstanding = r :: rest) (hs : r.sent = true)
    (hp : psnUpTo psn r.lastPsn = true) :
    ackUpTo i psn (n + 1) w = ackUpTo i psn n (finishWork r (modQp i (fun x => { x with outstanding := rest }) w)) := by
  simp only [ackUpTo, hq, ho, hs, hp, Bool.and_self, if_true]

theorem ackUpTo_stops {r : WorkReq} {rest : List WorkReq} (ho : q.outstanding = r :: rest)
    (h : r.sent = false ∨ psnUpTo psn r.lastPsn = false) : ackUpTo i psn n w = w := by
  cases n with
  | zero => rfl
  | succ n =>
    simp only [ackUpTo, hq, ho]
    refine if_neg ?_
    rcases h with h | h <;> simp [h]

theorem pushQp_waits (h : q.state ≠ 1 ∨ isPaused w.hw (q.code - 8) q.priority = true ∨ isSafe w.hw = true) : pushQp i w = w := by
  simp only [pushQp, hq]
  exact if_pos h

theorem pushQp_sends (hs : q.state = 1) (hp : isPaused w.hw (q.code - 8) q.priority = false) (hsafe : isSafe w.hw = false) :
    pushQp i w = forEach (q.outstanding.filter (fun r => !r.sent || r.again)) (sendWork q)
      (forEach q.waiting (fun a v => sendReply q a.1 a.2.1 a.2.2.1 a.2.2.2 v) (modQp i (fun x => { x with
        waiting := []
        outstanding := x.outstanding.map (fun r =>
          if !r.sent || r.again then { r with sent := true, again := false, sentAt := w.hw.time.now } else r) }) w)) := by
  simp only [pushQp, hq]
  refine if_neg ?_
  simp [hs, hp, hsafe]

end

/-- Settles O34, by the state of the queue pair, its oldest request and the moment of its timers. -/
theorem queuePairs : Obligations.QueuePairs := by
  unfold Obligations.QueuePairs
  refine ⟨fun s qp psn nak ce hq i hi => ?_, fun s qp psn nak ce q hq => ?_, fun w i psn n q hq => ⟨fun r rest => ackUpTo_completes hq,
    fun r rest => ackUpTo_stops hq, pushQp_waits hq, pushQp_sends hq, fun r h => if_pos h⟩⟩
  · have hnone : oldestWork (beginWork s).hw qp.toNat = none := oldestWork_none fun q hq' => by
      rw [show findQp (beginWork s).hw qp.toNat = none from hq] at hq'
      cases hq'
    have hq' : findQp (beginWork s).hw qp.toNat = none := hq
    simp only [List.mem_cons, List.not_mem_nil, or_false] at hi
    obtain rfl | rfl | rfl | rfl | rfl | rfl := hi
    · exact answersWith_run _ s _ _ (exec_rdmaAck ..) (takeAckRoce_unserved (.inl hq'))
    · exact answersWith_run _ s _ _ (exec_qpAckTimeout ..) (ackTimeoutQp_idle hnone)
    · exact answersWith_run _ s _ _ (exec_qpRetryExhausted ..) (retriesExhausted_idle hnone)
    · exact answersWith_run _ s _ _ (exec_cnp ..) (takeCnp_unserved (.inl hq'))
    · exact answersWith_run _ s _ _ (exec_tAlpha ..) (by simp only [alphaStep, hq'])
    · exact answersWith_run _ s _ _ (exec_tInc ..) (by simp only [increaseStep, hq'])
  · rw [show horizon s.hw = horizon (beginWork s).hw from rfl]
    have hq' : findQp (beginWork s).hw qp.toNat = some q := hq
    intro i c w acked heard
    have acks {nak : Option NakKind} {v : Work} (hv : takeAckRoce i psn.toNat nak ce w = v) : AnswersWith (.rdmaAck qp psn nak ce) s v :=
      answersWith_run _ s _ _ (exec_rdmaAck ..) hv
    have cnps {v : Work} (hv : takeCnp i w = v) : AnswersWith (.cnp qp) s v := answersWith_run _ s _ _ (exec_cnp ..) hv
    have times {v : Work} (hv : ackTimeoutQp i w = v) : AnswersWith (.qpAckTimeout qp) s v := answersWith_run _ s _ _ (exec_qpAckTimeout ..) hv
    have exhausts {v : Work} (hv : retriesExhausted i w = v) : AnswersWith (.qpRetryExhausted qp) s v :=
      answersWith_run _ s _ _ (exec_qpRetryExhausted ..) hv
    have alphas {v : Work} (hv : alphaStep i w = v) : AnswersWith (.tAlpha qp) s v := answersWith_run _ s _ _ (exec_tAlpha ..) hv
    have raises {v : Work} (hv : increaseStep i w = v) : AnswersWith (.tInc qp) s v := answersWith_run _ s _ _ (exec_tInc ..) hv
    refine ⟨fun hlive => ⟨acks (takeAckRoce_unserved (.inr hlive)), cnps (takeCnp_unserved (.inr hlive))⟩,
      fun hlive hs => ⟨acks (takeAckRoce_inactive hq' hlive hs), cnps ((takeCnp_eq hq' hlive).trans (if_pos hs))⟩, fun hs j hj => ?_,
      fun hlive hs => ⟨acks (takeAckRoce_ack hq' hlive hs), fun kind h => acks (takeAckRoce_settled hq' hlive hs kind h), fun p r h => ?_,
        cnps ((takeCnp_eq hq' hlive).trans (if_neg (not_not_intro hs)))⟩, fun hs => ?_⟩
    · have hnone : oldestWork w.hw i = none := oldestWork_none fun q' hq'' hs' => by
        rw [hq'] at hq''
        obtain rfl := Option.some.inj hq''
        exact absurd hs' hs
      simp only [List.mem_cons, List.not_mem_nil, or_false] at hj
      obtain rfl | rfl | rfl | rfl := hj
      · exact times (ackTimeoutQp_idle hnone)
      · exact exhausts (retriesExhausted_idle hnone)
      · exact alphas ((alphaStep_eq hq').trans (if_pos (.inl hs)))
      · exact raises ((increaseStep_eq hq').trans (if_pos (.inl hs)))
    · exact ⟨fun hr => acks ((takeAckRoce_sequence hq' hlive hs h).trans (if_pos hr)),
        fun hr => acks ((takeAckRoce_sequence hq' hlive hs h).trans (if_neg (Nat.not_lt.mpr hr))),
        fun hr => acks ((takeAckRoce_rnr hq' hlive hs h).trans (if_pos hr)),
        fun hr => acks ((takeAckRoce_rnr hq' hlive hs h).trans (if_neg (Nat.not_lt.mpr hr))),
        fun kind hk => acks (takeAckRoce_fatal hq' hlive hs h hk)⟩
    · intro alphaAt incAt target
      refine ⟨fun h => ?_, fun r rest ho hr => ?_, fun h => alphas ((alphaStep_eq hq').trans (if_neg ?_)),
        fun h => alphas ((alphaStep_eq hq').trans (if_pos (.inr h))), fun h => raises ((increaseStep_eq hq').trans (if_neg ?_)),
        fun h => raises ((increaseStep_eq hq').trans (if_pos (.inr h)))⟩
      · have hnone : oldestWork w.hw i = none := oldestWork_none fun q' hq'' hs' r rest ho => by
          rw [hq'] at hq''
          obtain rfl := Option.some.inj hq''
          rcases h with h | ⟨r', rest', h, hr⟩
          · rw [h] at ho
            cases ho
          · rw [h] at ho
            obtain ⟨rfl, -⟩ := List.cons.inj ho
            exact hr
        exact ⟨times (ackTimeoutQp_idle hnone), exhausts (retriesExhausted_idle hnone)⟩
      · intro end_
        have hold := oldestWork_some hq' hs ho hr
        have htime : ackTimeoutQp i w = if end_ ≤ horizon w.hw ∧ r.retries < q.retry then resendWork i false (advance w end_) else w :=
          ackTimeoutQp_eq hold
        have hexhaust : retriesExhausted i w = if end_ ≤ horizon w.hw ∧ q.retry ≤ r.retries then qpFailed i 1 (advance w end_) else w :=
          retriesExhausted_eq hold
        refine ⟨fun h => ⟨times (htime.trans (if_neg ?_)), exhausts (hexhaust.trans (if_neg ?_))⟩,
          fun h hl => ⟨times (htime.trans (if_pos ⟨h, hl⟩)), exhausts (hexhaust.trans (if_neg ?_))⟩,
          fun h hl => ⟨exhausts (hexhaust.trans (if_pos ⟨h, hl⟩)), times (htime.trans (if_neg ?_))⟩⟩
        · exact fun hn => Nat.not_le.mpr h hn.1
        · exact fun hn => Nat.not_le.mpr h hn.1
        · exact fun hn => Nat.not_le.mpr hl hn.2
        · exact fun hn => Nat.not_le.mpr hn.2 hl
      · exact fun hn => hn.elim (fun hn => hn hs) (fun hn => Nat.not_lt.mpr h hn)
      · exact fun hn => hn.elim (fun hn => hn hs) (fun hn => Nat.not_lt.mpr h hn)

end Sys2Proof.Machine
end

section
/-! PROOFS. PFC, PTP, LLDP, ARP, discards and link state of the Ethernet ports (R316, R326, R327, R355, R396, R433). -/
namespace Sys2Proof.Machine

open Sys2Proof

/-! ## Runs over a list -/

/-- A run that does nothing for some items is the run over the others, where an item's test does not change on the way. -/
theorem forEach_filter {α : Type} {p : α → Bool} {f g : α → Work → Work} {R : Work → Prop} (hstep : ∀ a v, R v → R (f a v))
    (hg : ∀ a v, R v → g a v = if p a then f a v else v) (l : List α) {w : Work} (hw : R w) :
    forEach l g w = forEach (l.filter p) f w := by
  induction l generalizing w with
  | nil => rfl
  | cons a l ih =>
    rw [forEach_cons, hg a w hw, List.filter_cons]
    split
    · rw [forEach_cons]
      exact ih (hstep a w hw)
    · exact ih hw

/-! ## Frames that reach a port or half -/

section
variable {h : Nat} {act : Work → Work} {w : Work}

theorem onHalf_unserved (hno : halfExists w.hw h = false ∨ (halfOf w.hw h).link ≠ 1 ∨ cupolaLive w.hw = false) : onHalf h act w = w := by
  rw [onHalf]
  refine if_neg ?_
  rw [Bool.and_eq_true, Bool.and_eq_true, beq_iff_eq]
  rintro ⟨⟨hx, hl⟩, hc⟩
  rcases hno with hno | hno | hno
  · exact Bool.false_ne_true (hno.symm.trans hx)
  · exact hno hl
  · exact Bool.false_ne_true (hno.symm.trans hc)

theorem onHalf_served (hx : halfExists w.hw h = true) (hl : (halfOf w.hw h).link = 1) (hc : cupolaLive w.hw = true) :
    onHalf h act w = act (bump 5 (8 + h) 1 w) := by
  rw [onHalf]
  exact if_pos (by rw [hx, hl, hc]; rfl)

/-- The moment of the module's next LLDP frame (R316). -/
def lldpInstant (hw : Hw) (h : Nat) : Nat := match (halfOf hw h).lldpAt with | some t => t + 30000000000 | none => hw.time.now

theorem sendLldp_eq :
    sendLldp h w =
      if halfExists w.hw h = false ∨ (halfOf w.hw h).link ≠ 1 ∨ cupolaLive w.hw = false ∨ horizon w.hw < lldpInstant w.hw h then w
      else sendEther h 1 (leBytes 8 w.hw.keep.serial)
        (modHalf h (fun y => { y with lldpAt := some (max w.hw.time.now (lldpInstant w.hw h)) }) (advance w (lldpInstant w.hw h))) := by
  refine if_congr ?_ rfl rfl
  change (_ || _ || _ || !decide (lldpInstant w.hw h ≤ horizon w.hw)) = true ↔ _
  simp only [Bool.or_eq_true, Bool.not_eq_true', bne_iff_ne, ne_eq, decide_eq_false_iff_not, Nat.not_le, or_assoc]

theorem ethDown_eq :
    ethDown h w =
      if halfExists w.hw h = true ∧ (halfOf w.hw h).link = 1 then
        raise 18 7 h 0 0 (publishUnit (23 + h) 0 0 (linkGone h 0 (halfQpsFail h 3 w)))
      else w := by
  rw [ethDown]
  refine (if_congr ?_ rfl rfl).trans (ite_not ..)
  simp only [Bool.or_eq_true, Bool.not_eq_true', bne_iff_ne, ne_eq, not_and_or, Bool.not_eq_true]

theorem ethUp_eq :
    ethUp h w =
      if halfExists w.hw h = false ∨ (halfOf w.hw h).link = 1 ∨ w.hw.keep.linked = false ∨ cupolaLive w.hw = false then w
      else publishUnit (23 + h) 1 0 (modKeep (fun k => { k with linkSince := tabSet 0 k.linkSince h w.hw.time.now })
        (saveTraining (72 + h / 2) (modHalf h (fun y => { y with link := 1, lldp := none }) w))) := by
  rw [ethUp]
  refine if_congr ?_ rfl rfl
  simp only [Bool.or_eq_true, Bool.not_eq_true', beq_iff_eq, or_assoc]

end

/-! ## What a frame does on a port or half that has link -/

section
variable {h : Nat} {w : Work} (hx : halfExists w.hw h = true) (hl : (halfOf w.hw h).link = 1) (hc : cupolaLive w.hw = true)
include hx hl hc

theorem takePfc_served (enables : Nat) (quanta : List Nat) :
    takePfc h enables quanta w =
      forEach ((List.range 8).filter (fun k => bit enables k && bit (pfcOf w.hw h) k)) (fun k v =>
        modHalf h (fun y => { y with
          pausedUntil := tabSet 0 y.pausedUntil k (w.hw.time.now + (quanta[k]?).getD 0 * 512 * 1000000000 / lineRate w.hw h) }) v)
        (bump 5 (8 + h) 1 w) := by
  rw [takePfc, onHalf_served hx hl hc]
  refine forEach_filter (R := EtherOnly w) (fun k v hv => hv.trans (modHalf_etherOnly ..)) (fun k v hv => ?_) _ (bump_etherOnly ..)
  rw [hv]
  rfl

theorem takeLldp_same {chassis port : List Byte} (hsame : (halfOf w.hw h).lldp = some (chassis, port)) :
    takeLldp h chassis port w = modHalf h (fun y => { y with lldp := some (chassis, port) }) (bump 5 (8 + h) 1 w) := by
  rw [takeLldp, onHalf_served hx hl hc]
  exact if_neg (by rw [bne_iff_ne]; exact not_not_intro hsame)

theorem takeLldp_changed {chassis port : List Byte} (hnew : (halfOf w.hw h).lldp ≠ some (chassis, port)) :
    takeLldp h chassis port w = recheckItem (8 + h) (modHalf h (fun y => { y with lldp := some (chassis, port) }) (bump 5 (8 + h) 1 w)) := by
  rw [takeLldp, onHalf_served hx hl hc]
  exact if_pos (bne_iff_ne.mpr hnew)

theorem takeArp_eq (v6 : Bool) (address : Nat) :
    takeArp h v6 address w =
      if address = (if v6 then (halfOf w.hw h).ipv6 else (halfOf w.hw h).ipv4) ∧ (if v6 then (halfOf w.hw h).ipv6 else (halfOf w.hw h).ipv4) ≠ 0 then
        sendEther h 2 (leBytes 16 address ++ leBytes 6 (Config.macAddress w.hw.keep.serial h)) (bump 5 (8 + h) 1 w)
      else bump 5 (16 + h) 1 (bump 5 (8 + h) 1 w) := by
  rw [takeArp, onHalf_served hx hl hc]
  rfl

theorem discardFrame_served (bad : BadFrame) :
    discardFrame h bad w = (match bad with | .unhandled => bump 5 (16 + h) 1 | .qp1 => bump 5 4393 1) (bump 5 (8 + h) 1 w) := by
  cases bad with
  | unhandled => exact onHalf_served hx hl hc
  | qp1 => exact onHalf_served hx hl hc

theorem takePtp_announce (domain : Byte) (sender data : BitVec 64) :
    takePtp h (.announce domain sender data) w =
      if ptpAccepted w.hw h domain.toNat = false then bump 5 (8 + h) 1 w
      else chooseMaster (modHalf h (fun y => { y with
        masters := y.masters.filter (fun e => e.1 != sender.toNat) ++ [(sender.toNat, data.toNat)] }) (bump 5 (8 + h) 1 w)) := by
  rw [takePtp, onHalf_served hx hl hc]
  exact if_congr (by rw [Bool.not_eq_true']; rfl) rfl rfl

/-- The module's answer to a sync of its master: the sync is measured and a delay request leaves. -/
def syncTaken (h : Nat) (measured : Int) (w : Work) : Work :=
  sendEther h 4 (leBytes 8 w.hw.time.now) (modHalf h (fun y => { y with ptpSync := some measured }) (bump 5 (8 + h) 1 w))

theorem takePtp_sync (domain : Byte) (sender origin receipt correction : BitVec 64) :
    takePtp h (.sync domain sender origin receipt correction) w =
      if !ofMaster w.hw h domain.toNat sender.toNat then bump 5 (8 + h) 1 w
      else match ptpOffset (syncTaken h ((receipt.toNat : Int) - origin.toNat - correction.toInt) w).hw h with
        | some offset => takeOffset .ptp offset (gainSource .ptp (syncTaken h ((receipt.toNat : Int) - origin.toNat - correction.toInt) w))
        | none => syncTaken h ((receipt.toNat : Int) - origin.toNat - correction.toInt) w := by
  rw [takePtp, onHalf_served hx hl hc]
  rfl

theorem takePtp_delay (domain : Byte) (sender origin receipt correction : BitVec 64) :
    takePtp h (.delayResp domain sender origin receipt correction) w =
      if !ofMaster w.hw h domain.toNat sender.toNat then bump 5 (8 + h) 1 w
      else match (halfOf w.hw h).ptpSync with
        | none => bump 5 (8 + h) 1 w
        | some v => modHalf h (fun y => { y with ptpDelay := some ((v + ((receipt.toNat : Int) - origin.toNat - correction.toInt)) / 2) })
            (bump 5 (8 + h) 1 w) := by
  rw [takePtp, onHalf_served hx hl hc]
  rfl

theorem takePtp_other {msg : PtpMsg} (hm : msg ∈ [PtpMsg.management, .signalling, .peerDelay]) :
    takePtp h msg w = bump 5 4393 1 (bump 5 (8 + h) 1 w) := by
  rw [takePtp, onHalf_served hx hl hc]
  simp only [List.mem_cons, List.not_mem_nil, or_false] at hm
  obtain rfl | rfl | rfl := hm
  · rfl
  · rfl
  · rfl

end

/-! ## The measure of the master (R327) -/

theorem halfOf_modHalf (h : Nat) (f : EthHalf → EthHalf) (w : Work) : halfOf (modHalf h f w).hw h = f (halfOf w.hw h) := by
  rw [halfOf, modHalf, up_hw]
  exact (tabGet_tabMod ..).trans (if_pos rfl)

theorem sendEther_measures (h kind : Nat) (payload : List Byte) (w : Work) :
    (halfOf (sendEther h kind payload w).hw h).ptpSync = (halfOf w.hw h).ptpSync ∧
      (halfOf (sendEther h kind payload w).hw h).ptpDelay = (halfOf w.hw h).ptpDelay := by
  rw [sendEther]
  split
  · rw [halfOf_modHalf]
    exact ⟨rfl, rfl⟩
  · exact ⟨rfl, rfl⟩

theorem sendEther_etherOnly (h kind : Nat) (payload : List Byte) (w : Work) : EtherOnly w (sendEther h kind payload w) := by
  rw [sendEther]
  exact ite_etherOnly (modHalf_etherOnly ..) ((emit_etherOnly ..).trans (bump_etherOnly ..))

theorem ptpOffset_syncTaken (h : Nat) (measured : Int) (w : Work) :
    ptpOffset (syncTaken h measured w).hw h =
      (halfOf w.hw h).ptpDelay.map (fun d => d + tabGet 0 w.hw.host.ptpAsym h - measured) := by
  have hkept : EtherOnly w (syncTaken h measured w) := ((bump_etherOnly ..).trans (modHalf_etherOnly ..)).trans (sendEther_etherOnly ..)
  have hasym : (syncTaken h measured w).hw.host.ptpAsym = w.hw.host.ptpAsym := by rw [hkept]
  obtain ⟨hs, hd⟩ := sendEther_measures h 4 (leBytes 8 w.hw.time.now)
    (modHalf h (fun y => { y with ptpSync := some measured }) (bump 5 (8 + h) 1 w))
  rw [halfOf_modHalf] at hs hd
  rw [ptpOffset, hasym, show (halfOf (syncTaken h measured w).hw h).ptpSync = some measured from hs,
    show (halfOf (syncTaken h measured w).hw h).ptpDelay = (halfOf w.hw h).ptpDelay from hd]
  cases (halfOf w.hw h).ptpDelay with
  | none => rfl
  | some d => rfl

theorem ofMaster_eq_true {hw : Hw} {h domain sender : Nat} :
    ofMaster hw h domain sender = true ↔ ptpAccepted hw h domain = true ∧ hw.host.ptpUsed = some (h, sender) := by
  rw [ofMaster, Bool.and_eq_true, beq_iff_eq]

/-! ## Receive buffers (R326) -/

/-- The receive buffer of a priority and the stop of its far end are noted. -/
def fillKept (h k fill : Nat) (stopped : Bool) (w : Work) : Work :=
  modHalf h (fun x => { x with rxFill := tabSet 0 x.rxFill k fill, xoff := setBit x.xoff k stopped }) w

theorem judgeFill_eq (h k fill : Nat) (w : Work) :
    judgeFill h k fill w =
      if bit (halfOf w.hw h).xoff k = true then
        if fill < 96 * 1024 then bump 5 h 1 (emit (.ether h 3 none (leBytes 1 (2 ^ k) ++ leBytes 2 0)) (fillKept h k fill false w))
        else fillKept h k fill true w
      else if 192 * 1024 < fill then
        bump 5 h 1 (emit (.ether h 3 none (leBytes 1 (2 ^ k) ++ leBytes 2 0xFFFF)) (fillKept h k fill true w))
      else fillKept h k fill false w := by
  rw [judgeFill]
  cases hoff : bit (halfOf w.hw h).xoff k with
  | true =>
    by_cases hf : fill < 96 * 1024
    · simp only [hf, decide_true, Bool.not_true, Bool.false_and, Bool.and_true, Bool.or_true, Bool.and_false, if_true, pfcPayload,
        Bool.false_eq_true, if_false, fillKept]
    · simp only [hf, decide_false, Bool.not_true, Bool.false_and, Bool.and_false, Bool.or_false, Bool.not_false, Bool.and_true, if_true,
        Bool.false_eq_true, if_false, fillKept]
  | false =>
    by_cases hf : 192 * 1024 < fill
    · simp only [hf, decide_true, Bool.not_false, Bool.and_true, Bool.false_and, Bool.or_true, Bool.true_or, if_true, pfcPayload,
        Bool.false_eq_true, if_false, fillKept]
    · simp only [hf, decide_false, Bool.not_false, Bool.and_true, Bool.false_and, Bool.and_false, Bool.or_false, Bool.false_eq_true,
        if_false, fillKept]

/-! ## O35 -/

/-- Settles O35, a command at a time: a port or half without link drops what arrives; one with link does what the frame's kind says. -/
theorem ethernetPorts : Obligations.EthernetPorts := by
  unfold Obligations.EthernetPorts
  refine ⟨?_, ?_, ?_, ?_⟩
  · intro s half enables quanta chassis port v6 address msg bad h
    rw [show halfExists s.hw h = halfExists (beginWork s).hw h from rfl, show halfOf s.hw h = halfOf (beginWork s).hw h from rfl,
      show cupolaLive s.hw = cupolaLive (beginWork s).hw from rfl]
    intro x w
    have downs {v : Work} (hv : ethDown h w = v) : AnswersWith (.ethLinkDown half) s v := answersWith_run _ s _ _ (exec_ethLinkDown ..) hv
    have ups {v : Work} (hv : ethUp h w = v) : AnswersWith (.ethLinkUp half) s v := answersWith_run _ s _ _ (exec_ethLinkUp ..) hv
    refine ⟨fun hno i hi => ?_, fun hno => downs (ethDown_eq.trans (if_neg ?_)), fun hx hl => downs (ethDown_eq.trans (if_pos ⟨hx, hl⟩)),
      fun hno => ups (ethUp_eq.trans (if_pos hno)), fun hx hl hk hc => ups (ethUp_eq.trans (if_neg ?_))⟩
    · simp only [List.mem_cons, List.not_mem_nil, or_false] at hi
      obtain rfl | rfl | rfl | rfl | rfl | rfl := hi
      · exact answersWith_run _ s _ _ (exec_pfcPause ..) (onHalf_unserved hno)
      · exact answersWith_run _ s _ _ (exec_ptp ..) (onHalf_unserved hno)
      · exact answersWith_run _ s _ _ (exec_lldp ..) (onHalf_unserved hno)
      · exact answersWith_run _ s _ _ (exec_arpRequest ..) (onHalf_unserved hno)
      · exact answersWith_run _ s _ _ (exec_ethFrameDiscard ..) (onHalf_unserved hno)
      · exact answersWith_run _ s _ _ (exec_lldpSend ..) (sendLldp_eq.trans (if_pos (hno.imp_right (Or.imp_right .inl))))
    · rintro ⟨hx, hl⟩
      rcases hno with hno | hno
      · exact Bool.false_ne_true (hno.symm.trans hx)
      · exact hno hl
    · rw [hx, show w.hw.keep.linked = true from hk, hc]
      simp only [Bool.true_eq_false, false_or, or_false]
      exact hl
  · intro s half enables quanta chassis port v6 address h
    rw [show halfExists s.hw h = halfExists (beginWork s).hw h from rfl, show halfOf s.hw h = halfOf (beginWork s).hw h from rfl,
      show cupolaLive s.hw = cupolaLive (beginWork s).hw from rfl, show horizon s.hw = horizon (beginWork s).hw from rfl]
    intro x w arrived own until_ hx hl hc
    have arps {v : Work} (hv : takeArp h v6 address.toNat w = v) : AnswersWith (.arpRequest half v6 address) s v :=
      answersWith_run _ s _ _ (exec_arpRequest ..) hv
    refine ⟨answersWith_run _ s _ _ (exec_pfcPause ..) (takePfc_served hx hl hc ..),
      fun h => answersWith_run _ s _ _ (exec_lldp ..) (takeLldp_same hx hl hc h),
      fun h => answersWith_run _ s _ _ (exec_lldp ..) (takeLldp_changed hx hl hc h),
      fun ha ho => arps ((takeArp_eq hx hl hc v6 address.toNat).trans (if_pos ⟨ha, fun hz => ho hz⟩)),
      fun hno => arps ((takeArp_eq hx hl hc v6 address.toNat).trans (if_neg ?_)),
      answersWith_run _ s _ _ (exec_ethFrameDiscard ..) (discardFrame_served hx hl hc .unhandled),
      answersWith_run _ s _ _ (exec_ethFrameDiscard ..) (discardFrame_served hx hl hc .qp1), fun instant hi => ?_⟩
    · rintro ⟨ha, ho⟩
      exact hno.elim (fun hno => hno ha) ho
    · have hi' : lldpInstant w.hw h = instant := hi
      have hsend : sendLldp h w = if halfExists w.hw h = false ∨ (halfOf w.hw h).link ≠ 1 ∨ cupolaLive w.hw = false ∨ horizon w.hw < instant then w
          else sendEther h 1 (leBytes 8 w.hw.keep.serial)
            (modHalf h (fun y => { y with lldpAt := some (max w.hw.time.now instant) }) (advance w instant)) := by
        rw [sendLldp_eq, hi']
      refine ⟨fun hd => answersWith_run _ s _ _ (exec_lldpSend ..) (hsend.trans (if_neg ?_)),
        fun hd => answersWith_run _ s _ _ (exec_lldpSend ..) (hsend.trans (if_pos (.inr (.inr (.inr hd)))))⟩
      rw [hx, hc, hl]
      simp only [Bool.true_eq_false, ne_eq, not_true, false_or, Nat.not_lt]
      exact hd
  · intro s half domain sender data origin receipt correction h
    rw [show halfExists s.hw h = halfExists (beginWork s).hw h from rfl, show halfOf s.hw h = halfOf (beginWork s).hw h from rfl,
      show cupolaLive s.hw = cupolaLive (beginWork s).hw from rfl,
      show ptpAccepted s.hw h domain.toNat = ptpAccepted (beginWork s).hw h domain.toNat from rfl,
      show s.hw.host = (beginWork s).hw.host from rfl]
    intro x arrived measured synced sync delay master hx hl hc
    have ptps {msg : PtpMsg} {v : Work} (hv : takePtp h msg (beginWork s) = v) : AnswersWith (.ptp half msg) s v :=
      answersWith_run _ s _ _ (exec_ptp ..) hv
    have hsync := takePtp_sync hx hl hc domain sender origin receipt correction
    have hdelay := takePtp_delay hx hl hc domain sender origin receipt correction
    refine ⟨fun ha => ptps ((takePtp_announce hx hl hc ..).trans (if_neg (ne_false_of_eq_true ha))),
      fun ha => ptps ((takePtp_announce hx hl hc ..).trans (if_pos ha)), fun hm => ?_, fun hm => ?_,
      fun msg hmsg => ptps (takePtp_other hx hl hc hmsg)⟩
    · have hm' : ofMaster (beginWork s).hw h domain.toNat sender.toNat = false := Bool.eq_false_iff.mpr fun h => hm (ofMaster_eq_true.mp h)
      rw [hm'] at hsync hdelay
      exact ⟨ptps hsync, ptps hdelay⟩
    · rw [ofMaster_eq_true.mpr hm] at hsync hdelay
      have hoffset := ptpOffset_syncTaken h measured (beginWork s)
      refine ⟨fun hn => ptps (hsync.trans ?_), fun d hd => ptps (hsync.trans ?_), fun hn => ptps (hdelay.trans ?_), fun v hv => ptps (hdelay.trans ?_)⟩
      · rw [hoffset, hn]
        rfl
      · rw [hoffset, hd]
        rfl
      · rw [hn]
        rfl
      · rw [hv]
        rfl
  · intro w h k fill kind payload priority off kept pfc
    refine ⟨fun hp => if_pos hp, fun hp => if_neg (ne_true_of_eq_false hp), fun ho hf => ?_, fun ho hf => ?_, fun ho hf => ?_, fun ho hf => ?_⟩
    · exact (judgeFill_eq h k fill w).trans ((if_neg (ne_true_of_eq_false ho)).trans (if_pos hf))
    · exact (judgeFill_eq h k fill w).trans ((if_pos ho).trans (if_pos hf))
    · exact (judgeFill_eq h k fill w).trans ((if_neg (ne_true_of_eq_false ho)).trans (if_neg (Nat.not_lt.mpr hf)))
    · exact (judgeFill_eq h k fill w).trans ((if_pos ho).trans (if_neg (Nat.not_lt.mpr hf)))

end Sys2Proof.Machine
end

section
/-! PROOFS. The management port and its relay (R345, R346, R377, R431, R434). -/
namespace Sys2Proof.Machine

open Sys2Proof

/-! ## Fields of the 16 B frame header (R345) -/

theorem leNat_leBytes (n v : Nat) : leNat (leBytes n v) = v % 256 ^ n := by
  induction n generalizing v with
  | zero => rw [Nat.pow_zero, Nat.mod_one]; rfl
  | succ n ih =>
    rw [leBytes, leNat, ih, BitVec.toNat_ofNat, show 256 ^ (n + 1) = 2 ^ 8 * 256 ^ n from Nat.pow_succ']
    exact Nat.mod_mul.symm

theorem leNat_leBytes_of_lt {n v : Nat} (h : v < 256 ^ n) : leNat (leBytes n v) = v := by
  rw [leNat_leBytes, Nat.mod_eq_of_lt h]

section
variable {mop channel xseq length target address : Nat}

theorem mgmtHeader_mop (h : mop < 256) : field (mgmtHeader mop channel xseq length target address) 0 1 = mop :=
  leNat_leBytes_of_lt (n := 1) h

theorem mgmtHeader_channel (h : channel < 256) : field (mgmtHeader mop channel xseq length target address) 1 1 = channel :=
  leNat_leBytes_of_lt (n := 1) h

theorem mgmtHeader_length (h : length < 2 ^ 16) : field (mgmtHeader mop channel xseq length target address) 4 2 = length :=
  leNat_leBytes_of_lt (n := 2) h

theorem mgmtHeader_target (h : target < 2 ^ 24) : field (mgmtHeader mop channel xseq length target address) 6 3 = target :=
  leNat_leBytes_of_lt (n := 3) h

theorem mgmtHeader_address (h : address < 2 ^ 48) : field (mgmtHeader mop channel xseq length target address) 10 6 = address :=
  leNat_leBytes_of_lt (n := 6) h

end

theorem field_patch_first (b : List Byte) (m : Byte) (rest : List Byte) : field (patch b 0 [m] ++ rest) 0 1 = m.toNat := rfl

theorem field_slice (b : List Byte) : field (slice b 0 16) 1 1 = field b 1 1 := by
  match b with
  | [] => rfl
  | [_] => rfl
  | _ :: _ :: _ => rfl

/-! ## The answer to a management frame -/

/-- The range of a frame lies within the areas of its channel, and its length is legal (R339, R345). -/
def mgmtLegal (channel a n : Nat) : Bool := inMgmtArea channel a n && 16 ≤ n && n ≤ 1024 && n % 16 == 0

/-- A frame is served: on the recovery path and in service mode channel 17's slots and writes to the load area of channel 16 only
(R377, R380). -/
def mgmtServed (hw : Hw) (mop channel a n : Nat) : Bool :=
  !(hw.keep.phase == 2 || hw.keep.phase == 9) || (if channel = 17 then within a n (requestAddr 17 0) 0x80000
    else mop == 1 && within a n (loadArea 16) 0x10000000)

section
variable {header data : List Byte} {byRelay : Bool} {w : Work} {mop channel n a : Nat}
  (hmop : field header 0 1 = mop) (hchannel : field header 1 1 = channel) (hlength : field header 4 2 = n) (haddress : field header 10 6 = a)
include hmop hchannel hlength haddress

theorem mgmtAnswer_eq :
    mgmtAnswer header data byRelay w =
      if (mgmtServed w.hw mop channel a n && mgmtLegal channel a n && !(byRelay && channel == 17)) && mop == 1 && data.length == n then
        (patch header 0 [2], w.write a data)
      else if (mgmtServed w.hw mop channel a n && mgmtLegal channel a n && !(byRelay && channel == 17)) && mop == 3 && w.good a n then
        (patch header 0 [4] ++ w.read a n, w)
      else (patch header 0 [5], w) := by
  subst hmop hchannel hlength haddress
  simp only [mgmtAnswer, mgmtServed, mgmtLegal, Bool.and_assoc]

theorem mgmtAnswer_placed (hm : mop = 1) (hs : mgmtServed w.hw 1 channel a n = true) (hl : mgmtLegal channel a n = true) (hd : data.length = n) :
    mgmtAnswer header data false w = (patch header 0 [2], w.write a data) := by
  rw [mgmtAnswer_eq hmop hchannel hlength haddress, hm, hs, hl, hd]
  exact if_pos (by simp)

theorem mgmtAnswer_unplaced (hm : mop = 1) (h : mgmtLegal channel a n = false ∨ mgmtServed w.hw 1 channel a n = false ∨ data.length ≠ n) :
    mgmtAnswer header data false w = (patch header 0 [5], w) := by
  rw [mgmtAnswer_eq hmop hchannel hlength haddress, hm]
  have hno : ¬(mgmtServed w.hw 1 channel a n && mgmtLegal channel a n && !(false && channel == 17) && (1 : Nat) == 1 && data.length == n) = true := by
    simp only [Bool.and_eq_true, beq_iff_eq]
    rintro ⟨⟨⟨⟨hs, hl⟩, -⟩, -⟩, hd⟩
    rcases h with h | h | h
    · exact Bool.false_ne_true (h.symm.trans hl)
    · exact Bool.false_ne_true (h.symm.trans hs)
    · exact h hd
  rw [if_neg hno]
  exact if_neg (by simp)

theorem mgmtAnswer_read (hm : mop = 3) (hs : mgmtServed w.hw 3 channel a n = true) (hl : mgmtLegal channel a n = true) (hg : w.good a n = true) :
    mgmtAnswer header data false w = (patch header 0 [4] ++ w.read a n, w) := by
  rw [mgmtAnswer_eq hmop hchannel hlength haddress, hm, hs, hl, hg]
  rfl

theorem mgmtAnswer_unread (hm : mop = 3) (h : mgmtLegal channel a n = false ∨ mgmtServed w.hw 3 channel a n = false ∨ w.good a n = false) :
    mgmtAnswer header data false w = (patch header 0 [5], w) := by
  rw [mgmtAnswer_eq hmop hchannel hlength haddress, hm, if_neg (by simp)]
  refine if_neg ?_
  simp only [Bool.and_eq_true]
  rintro ⟨⟨⟨⟨hs, hl⟩, -⟩, -⟩, hg⟩
  rcases h with h | h | h
  · exact Bool.false_ne_true (h.symm.trans hl)
  · exact Bool.false_ne_true (h.symm.trans hs)
  · exact Bool.false_ne_true (h.symm.trans hg)

end

theorem mgmtAnswer_relayed {header data : List Byte} {w : Work} (h : field header 1 1 = 17) :
    mgmtAnswer header data true w = (patch header 0 [5], w) := by
  rw [mgmtAnswer_eq rfl h rfl rfl]
  simp

/-! ## Frames of the port -/

section
variable {header data : List Byte} {w : Work}

theorem takeMgmtFrame_unserved (h : w.hw.keep.lpUp = false) : takeMgmtFrame header data w = w := by
  simp only [takeMgmtFrame, h, Bool.not_false, if_true]

variable (hup : w.hw.keep.lpUp = true) {target : Nat} (ht : field header 6 3 = target)
include hup ht

theorem takeMgmtFrame_mine (h : bit target 18 = false ∨ target % 2 ^ 18 = endpointOf w.hw 0) :
    takeMgmtFrame header data w =
      emit (.mgmt (field (mgmtAnswer header data false w).1 0 1) (mgmtAnswer header data false w).1) (mgmtAnswer header data false w).2 := by
  have hc : (!bit target 18 || target % 2 ^ 18 == endpointOf w.hw 0) = true := by
    rcases h with h | h
    · rw [h]; rfl
    · rw [h, beq_self_eq_true, Bool.or_true]
  simp only [takeMgmtFrame, hup, ht, Bool.not_true, Bool.false_eq_true, if_false, hc, if_true]

theorem takeMgmtFrame_other (h : ¬(bit target 18 = false ∨ target % 2 ^ 18 = endpointOf w.hw 0)) :
    takeMgmtFrame header data w =
      if 224 < data.length ∨ target % 2 ^ 18 / 256 ≠ endpointOf w.hw 0 / 256 then bump 5 4393 1 w
      else routeFlit (freeOf w % 6) ⟨1, 9, true, true, target % 2 ^ 18, endpointOf w.hw 0, header ++ data, none⟩ (freeUsed w) := by
  have hc : (!bit target 18 || target % 2 ^ 18 == endpointOf w.hw 0) = false := by
    rw [Bool.eq_false_iff, ne_eq, Bool.or_eq_true, Bool.not_eq_true', beq_iff_eq]
    exact h
  simp only [takeMgmtFrame, hup, ht, Bool.not_true, Bool.false_eq_true, if_false, hc]
  exact if_congr (by simp) rfl rfl

end

/-! ## Relayed frames (R346) -/

section
variable {rx : Rx} {b : List Byte} {w : Work}

theorem serveMgmtFlit_answer (h : field b 0 1 ∈ [2, 4, 5]) : serveMgmtFlit rx b w = emit (.mgmt (field b 0 1) b) w := by
  rw [serveMgmtFlit]
  refine if_pos ?_
  simp only [List.mem_cons, List.not_mem_nil, or_false] at h
  rw [Bool.or_eq_true, Bool.or_eq_true, beq_iff_eq, beq_iff_eq, beq_iff_eq, or_assoc]
  exact h

theorem serveMgmtFlit_request (h : field b 0 1 ∉ [2, 4, 5]) :
    serveMgmtFlit rx b w =
      if w.hw.keep.lpUp = false then w
      else if 240 < (mgmtAnswer (slice b 0 16) (b.drop 16) true w).1.length then bump 5 4393 1 (mgmtAnswer (slice b 0 16) (b.drop 16) true w).2
      else enqueue rx.port.val ⟨1, 9, true, true, rx.src.toNat, endpointOf w.hw 0, (mgmtAnswer (slice b 0 16) (b.drop 16) true w).1, none⟩
        (mgmtAnswer (slice b 0 16) (b.drop 16) true w).2 := by
  rw [serveMgmtFlit]
  simp only [List.mem_cons, List.not_mem_nil, or_false, not_or] at h
  obtain ⟨h2, h4, h5⟩ := h
  rw [beq_false_of_ne h2, beq_false_of_ne h4, beq_false_of_ne h5]
  simp only [Bool.or_false, Bool.false_eq_true, if_false]
  exact if_congr (by rw [Bool.not_eq_true']) rfl rfl

/-- A management flit in order has been taken from its buffer, within the port's share (R263). -/
def mgmtTaken (rx : Rx) (w : Work) : Work := modPort rx.port.val (fun q => { q with lowIn := q.lowIn + 1 }) (flitTaken rx 1 w)

theorem mgmtTaken_keep (rx : Rx) (w : Work) : (mgmtTaken rx w).hw.keep = w.hw.keep := by
  rw [mgmtTaken, flitTaken_linkOnly rx 1 w]
  rfl

theorem mgmtTaken_endpoint (rx : Rx) (w : Work) : endpointOf (mgmtTaken rx w).hw 0 = endpointOf w.hw 0 := by
  rw [mgmtTaken, flitTaken_linkOnly rx 1 w]
  rfl

end

/-- A frame is served, in the words of R377 and R380. -/
theorem mgmtServed_eq_true {hw : Hw} {mop a n : Nat} {channel : Byte} :
    mgmtServed hw mop channel.toNat a n = true ↔
      (hw.keep.phase = 2 ∨ hw.keep.phase = 9 → (channel = 17 ∧ within a n (requestAddr 17 0) 0x80000 = true)
        ∨ (channel ≠ 17 ∧ mop = 1 ∧ within a n (loadArea 16) 0x10000000 = true)) := by
  have h17 : channel.toNat = 17 ↔ channel = 17 := by rw [← BitVec.toNat_inj]; rfl
  rw [mgmtServed, Bool.or_eq_true, Bool.not_eq_true', ← Bool.not_eq_true, Bool.or_eq_true, beq_iff_eq, beq_iff_eq, ← imp_iff_not_or]
  refine imp_congr_right fun _ => ?_
  by_cases hc : channel = 17
  · rw [if_pos (h17.mpr hc)]
    simp [hc]
  · rw [if_neg fun h => hc (h17.mp h), Bool.and_eq_true, beq_iff_eq]
    exact ⟨fun h => .inr ⟨hc, h⟩, fun h => h.elim (fun h => absurd h.1 hc) And.right⟩

/-! ## O36 -/

/-- Settles O36, by the fields of the header and the cases of the answer; a relayed flit is first taken from its port. -/
theorem managementPort : Obligations.ManagementPort := by
  unfold Obligations.ManagementPort
  refine ⟨?_, ?_, fun s => ⟨fun ha => ⟨?_, ?_⟩, fun ha => ⟨?_, ?_⟩⟩⟩
  · intro s channel xseq length target address data
    rw [show endpointOf s.hw 0 = endpointOf (beginWork s).hw 0 from rfl, show s.hw.keep = (beginWork s).hw.keep from rfl]
    intro a n w own word header legal held open_ mine write read relayed
    have writes {v : Work} (hv : takeMgmtFrame (header 1) data w = v) : AnswersWith write s v := answersWith_run _ s _ _ (exec_mgmtWrite ..) hv
    have reads {v : Work} (hv : takeMgmtFrame (header 3) [] w = v) : AnswersWith read s v := answersWith_run _ s _ _ (exec_mgmtRead ..) hv
    have hmop (mop : Nat) (hm : mop < 256) : field (header mop) 0 1 = mop := mgmtHeader_mop hm
    have hchannel (mop : Nat) : field (header mop) 1 1 = channel.toNat := mgmtHeader_channel channel.isLt
    have hlength (mop : Nat) : field (header mop) 4 2 = n := mgmtHeader_length length.isLt
    have htarget (mop : Nat) : field (header mop) 6 3 = target.toNat := mgmtHeader_target target.isLt
    have haddress (mop : Nat) : field (header mop) 10 6 = a := mgmtHeader_address address.isLt
    have hopen (mop : Nat) : mgmtServed w.hw mop channel.toNat a n = true ↔ open_ mop := mgmtServed_eq_true
    have hshut {mop : Nat} (h : ¬open_ mop) : mgmtServed w.hw mop channel.toNat a n = false :=
      Bool.eq_false_iff.mpr fun hs => h ((hopen mop).mp hs)
    refine ⟨fun hup => ⟨writes (takeMgmtFrame_unserved hup), reads (takeMgmtFrame_unserved hup)⟩, fun hup hmine => ⟨fun hl ho hd => writes ?_,
      fun hno => writes ?_, fun hl ho hg => reads ?_, fun hno => reads ?_⟩, fun hup hmine => ⟨fun h => writes ?_, fun hd hr => writes ?_,
      fun hr => reads ?_, fun hr => reads ?_⟩⟩
    · rw [takeMgmtFrame_mine hup (htarget 1) hmine,
        mgmtAnswer_placed (hmop 1 (by decide)) (hchannel 1) (hlength 1) (haddress 1) rfl ((hopen 1).mpr ho) hl hd]
      rfl
    · rw [takeMgmtFrame_mine hup (htarget 1) hmine,
        mgmtAnswer_unplaced (hmop 1 (by decide)) (hchannel 1) (hlength 1) (haddress 1) rfl (hno.imp_right (Or.imp_left hshut))]
      rfl
    · rw [takeMgmtFrame_mine hup (htarget 3) hmine,
        mgmtAnswer_read (hmop 3 (by decide)) (hchannel 3) (hlength 3) (haddress 3) rfl ((hopen 3).mpr ho) hl hg]
      rfl
    · rw [takeMgmtFrame_mine hup (htarget 3) hmine,
        mgmtAnswer_unread (hmop 3 (by decide)) (hchannel 3) (hlength 3) (haddress 3) rfl (hno.imp_right (Or.imp_left hshut))]
      rfl
    · exact (takeMgmtFrame_other hup (htarget 1) hmine).trans (if_pos h)
    · exact (takeMgmtFrame_other hup (htarget 1) hmine).trans (if_neg fun h => h.elim (Nat.not_lt.mpr hd) fun h => h hr)
    · exact (takeMgmtFrame_other hup (htarget 3) hmine).trans (if_pos (.inr hr))
    · refine (takeMgmtFrame_other hup (htarget 3) hmine).trans ((if_neg fun h => h.elim (by decide) fun h => h hr).trans ?_)
      rw [List.append_nil]
  · intro s rx b horder
    rw [show endpointOf s.hw 0 = endpointOf (mgmtTaken rx (beginWork s)).hw 0 from (mgmtTaken_endpoint rx (beginWork s)).symm,
      show s.hw.keep = (mgmtTaken rx (beginWork s)).hw.keep from (mgmtTaken_keep rx (beginWork s)).symm]
    intro p w room taken answer request
    have mgmts {v : Work} (hv : takeMgmtFlit rx b w = v) : AnswersWith (.mgmt rx b) s v := answersWith_run _ s _ _ (exec_mgmt ..) hv
    have htake : takeMgmtFlit rx b w = if room then serveMgmtFlit rx b taken
        else modPort p (fun q => { q with lowHeld := q.lowHeld ++ [(1, rx, b)] }) (flitStored rx 1 w) := acceptLow_inOrder b _ (inOrder_begin horder)
    refine ⟨fun hr => mgmts (htake.trans (if_neg hr)), fun hr hq => mgmts ((htake.trans (if_pos hr)).trans ?_), fun hr hq hup => ?_,
      fun hr hq hup hlen => ?_, fun hr hq hup hlen => ?_, fun hc => mgmtAnswer_relayed ((field_slice b).trans hc)⟩
    · exact serveMgmtFlit_answer (not_not.mp hq)
    · exact mgmts ((htake.trans (if_pos hr)).trans ((serveMgmtFlit_request hq).trans (if_pos hup)))
    · exact mgmts ((htake.trans (if_pos hr)).trans ((serveMgmtFlit_request hq).trans
        ((if_neg (ne_false_of_eq_true hup)).trans (if_neg (Nat.not_lt.mpr hlen)))))
    · exact mgmts ((htake.trans (if_pos hr)).trans ((serveMgmtFlit_request hq).trans ((if_neg (ne_false_of_eq_true hup)).trans (if_pos hlen))))
  · exact answersWith_run _ s _ _ (exec_mgmtPortDown s) (if_pos ha)
  · exact answersWith_run _ s _ _ (exec_mgmtPortUp s) (if_pos ha)
  · exact answersWith_run _ s _ _ (exec_mgmtPortDown s) (if_neg (ne_true_of_eq_false ha))
  · exact answersWith_run _ s _ _ (exec_mgmtPortUp s) (if_neg (ne_true_of_eq_false ha))

end Sys2Proof.Machine
end

section
/-! PROOFS. Frames, markers and timed events of the Belfry ring (R413 to R430). -/
namespace Sys2Proof.Machine

open Sys2Proof

/-! ## Frames on the ring (R413 to R415) -/

/-- No reserved bit of a frame is set, and its type is known (R415). -/
def frameValid (t : Nat) (f : BFrame) : Prop := f.src.toNat < 8 ∧ f.dst.toNat < 16 ∧ payloadOk t f.payload.toList = true

/-- A frame addressed to this module alone. -/
def frameMine (w : Work) (f : BFrame) : Prop := w.hw.lantern.seat = some (f.dst.toNat % 8) ∧ ¬bit f.dst.toNat 3 = true

/-- What a valid frame brings about before it is consumed (R427). -/
def frameHeard (f : BFrame) (w : Work) : Work := if f.src.toNat = 0 then heardMaster w else w

/-- A frame goes on with one more hop (R414). -/
def frameOnward (t : Nat) (f : BFrame) (w : Work) : Work :=
  emit (.belfry (belfryBytes t f.src.toNat f.dst.toNat ((f.hops.toNat + 1) % 256) f.payload.toList)) w

section
variable {t : Nat} {ok : Bool} {f : BFrame} {w : Work}

theorem belfryArrive_closed
    (h : w.hw.lantern.bypassOpen = false ∨ w.hw.power.aon = false ∨ w.hw.lantern.seat = some (f.src.toNat % 8)) :
    belfryArrive t ok f w = w := by
  unfold belfryArrive
  rcases h with h | h | h
  · simp only [h, Bool.not_false, Bool.true_or, if_true]
  · simp only [h, Bool.not_false, Bool.or_true, if_true]
  · simp only [h, if_true, ite_self]

theorem frameMine_eq_true (f : BFrame) (w : Work) :
    (decide (w.hw.lantern.seat = some (f.dst.toNat % 8)) && !bit f.dst.toNat 3) = true ↔ frameMine w f := by
  rw [Bool.and_eq_true, decide_eq_true_iff, Bool.not_eq_true', frameMine, Bool.not_eq_true]

theorem frameValid_eq_true (t : Nat) (f : BFrame) :
    (decide (f.src.toNat < 8) && decide (f.dst.toNat < 16) && payloadOk t f.payload.toList) = true ↔ frameValid t f := by
  rw [Bool.and_eq_true, Bool.and_eq_true, decide_eq_true_iff, decide_eq_true_iff, and_assoc, frameValid]

section
variable (hopen : w.hw.lantern.bypassOpen = true) (haon : w.hw.power.aon = true) (hown : w.hw.lantern.seat ≠ some (f.src.toNat % 8))
include hopen haon hown

theorem belfryArrive_badCrc : belfryArrive t false f w = frameOnward t f (bump 6 0 1 w) := by
  simp only [belfryArrive, hopen, haon, hown, Bool.not_true, Bool.or_false, Bool.false_eq_true, if_false, Bool.not_false, if_true, Bool.and_false]
  rfl

section
variable (hvalid : ¬frameValid t f)
include hvalid

theorem belfryArrive_mineInvalid (hm : frameMine w f) : belfryArrive t true f w = bump 6 1 1 w := by
  rw [← frameValid_eq_true, Bool.not_eq_true] at hvalid
  rw [← frameMine_eq_true] at hm
  simp only [belfryArrive, hopen, haon, hown, hvalid, hm, Bool.not_true, Bool.or_false, Bool.false_eq_true, if_false, Bool.not_false, if_true,
    Bool.and_true]

theorem belfryArrive_otherInvalid (hm : ¬frameMine w f) : belfryArrive t true f w = frameOnward t f (bump 6 1 1 w) := by
  rw [← frameValid_eq_true, Bool.not_eq_true] at hvalid
  rw [← frameMine_eq_true, Bool.not_eq_true] at hm
  simp only [belfryArrive, hopen, haon, hown, hvalid, hm, Bool.not_true, Bool.or_false, Bool.false_eq_true, if_false, Bool.not_false, if_true,
    Bool.and_true]
  rfl

end

section
variable (hvalid : frameValid t f)
include hvalid

theorem belfryArrive_consumed (hm : frameMine w f) : belfryArrive t true f w = consumeFrame t f (frameHeard f w) := by
  have hsrc : f.src.toNat % 8 = f.src.toNat := Nat.mod_eq_of_lt hvalid.1
  rw [hsrc] at hown
  rw [← frameValid_eq_true] at hvalid
  rw [← frameMine_eq_true] at hm
  simp only [belfryArrive, hopen, haon, hsrc, hown, hvalid, hm, Bool.not_true, Bool.or_false, Bool.false_eq_true, if_false, Bool.and_true,
    Bool.true_or, if_true]
  rfl

theorem belfryArrive_forwarded (hm : ¬frameMine w f) :
    belfryArrive t true f w =
      frameOnward t f (if bit f.dst.toNat 3 = true then consumeFrame t f (frameHeard f w) else frameHeard f w) := by
  have hsrc : f.src.toNat % 8 = f.src.toNat := Nat.mod_eq_of_lt hvalid.1
  rw [hsrc] at hown
  rw [← frameValid_eq_true] at hvalid
  rw [← frameMine_eq_true, Bool.not_eq_true] at hm
  simp only [belfryArrive, hopen, haon, hsrc, hown, hvalid, hm, Bool.not_true, Bool.or_false, Bool.false_eq_true, if_false, Bool.and_true,
    Bool.false_or]
  rfl

end

end

end

/-! ## What frames say (R415 to R430) -/

section
variable {b : List Byte} {x : Work}

theorem noteEpoch_epoch (e : Nat) (x : Work) : (noteEpoch e x).hw.lantern.masterEpoch = some e := by
  rw [noteEpoch]
  split
  · assumption
  · rfl

theorem noteEpoch_lantern (e : Nat) (x : Work) : (noteEpoch e x).hw.lantern = { x.hw.lantern with masterEpoch := some e } := by
  rw [noteEpoch]
  split
  next h => rw [← h]
  next => rfl

theorem noteEpoch_trayTokens (e : Nat) (x : Work) : (noteEpoch e x).hw.conserve.trayTokens = x.hw.conserve.trayTokens := by
  rw [noteEpoch]
  split
  · rfl
  · rfl

/-- The master's heartbeat is heard, and the orphan cap ends (R429). -/
def beatHeard (x : Work) : Work := modLantern (fun l => { l with beatAt := some x.hw.time.now, orphan := false }) x

theorem takeHeartbeat_eq :
    takeHeartbeat b x =
      if field b 0 1 = 1 then noteEpoch (field b 4 4) (modConserve (fun c => { c with trayTokens := field b 8 2 })
        (if x.hw.lantern.orphan then logPower 19 10 0 0 (beatHeard x) else beatHeard x))
      else if x.hw.lantern.orphan then logPower 19 10 0 0 (beatHeard x) else beatHeard x := rfl

theorem takeHeartbeat_master (h : field b 0 1 = 1) :
    (takeHeartbeat b x).hw.conserve.trayTokens = field b 8 2 ∧ (takeHeartbeat b x).hw.lantern.masterEpoch = some (field b 4 4)
      ∧ (takeHeartbeat b x).hw.lantern.orphan = false := by
  rw [takeHeartbeat_eq, if_pos h]
  refine ⟨noteEpoch_trayTokens .., noteEpoch_epoch .., ?_⟩
  rw [noteEpoch_lantern]
  cases x.hw.lantern.orphan with
  | false => rfl
  | true => rfl

theorem takeLease_eq :
    takeLease b x =
      match x.hw.lantern.seat with
      | none => modConserve (fun c => { c with
          leaseSum := some (((List.range 7).map (fun i => leaseOf b (i + 1))).foldl (· + ·) 0)
          newEpoch := c.newEpoch || c.epochDue
          epochDue := false }) x
      | some seat =>
        bump 6 3 ((if x.hw.conserve.epochDue then 0 else x.hw.lantern.held - x.hw.lantern.offer - leaseOf b seat)
            + (leaseOf b seat - (x.hw.lantern.held - x.hw.lantern.offer + x.hw.lantern.claim)))
          (modConserve (fun c => { c with
            unexplained := c.unexplained + (if x.hw.conserve.epochDue then 0 else x.hw.lantern.held - x.hw.lantern.offer - leaseOf b seat) })
          (modLantern (fun l => { l with held := leaseOf b seat }) (modConserve (fun c => { c with
            leaseSum := some (((List.range 7).map (fun i => leaseOf b (i + 1))).foldl (· + ·) 0)
            newEpoch := c.newEpoch || c.epochDue
            epochDue := false }) x))) := rfl

theorem publishUnit_seat (unit state cause : Nat) (x : Work) :
    (publishUnit unit state cause x).hw.lantern.seat = x.hw.lantern.seat
      ∧ (publishUnit unit state cause x).hw.lantern.seatChanges = x.hw.lantern.seatChanges
      ∧ (publishUnit unit state cause x).hw.lantern.masterEpoch = x.hw.lantern.masterEpoch := by
  rw [publishUnit]
  split
  · exact ⟨rfl, rfl, rfl⟩
  · exact ⟨rfl, rfl, rfl⟩

/-- The seat that a `SEAT_ASSIGN` gives the member that it reaches after `hops` members (R417). -/
def seatGiven (hops : Nat) (b : List Byte) : Option Nat :=
  if 1 ≤ (if hops + 1 ≤ 7 then field b (hops + 1) 1 else 0xFF) && (if hops + 1 ≤ 7 then field b (hops + 1) 1 else 0xFF) ≤ 7 then
    some (if hops + 1 ≤ 7 then field b (hops + 1) 1 else 0xFF)
  else none

theorem seatGiven_some {hops n : Nat} (hn : field b (hops + 1) 1 = n) (hh : hops ≤ 6) (h1 : 1 ≤ n) (h7 : n ≤ 7) : seatGiven hops b = some n := by
  have hv : (if hops + 1 ≤ 7 then field b (hops + 1) 1 else 0xFF) = n := (if_pos (Nat.succ_le_succ hh)).trans hn
  rw [seatGiven, hv]
  exact if_pos (by rw [decide_eq_true h1, decide_eq_true h7]; rfl)

theorem seatGiven_none {hops n : Nat} (hn : field b (hops + 1) 1 = n) (h : 6 < hops ∨ n = 0 ∨ 7 < n) : seatGiven hops b = none := by
  refine if_neg ?_
  rw [hn, Bool.and_eq_true, decide_eq_true_iff, decide_eq_true_iff]
  split
  · omega
  · omega

theorem takeSeats_lantern (hops : Nat) (b : List Byte) (x : Work) :
    (takeSeats hops b x).hw.lantern.seat = seatGiven hops b
      ∧ (takeSeats hops b x).hw.lantern.masterEpoch = some (field b 8 4)
      ∧ (takeSeats hops b x).hw.lantern.seatChanges =
        if x.hw.lantern.seat.isSome && x.hw.lantern.seat != seatGiven hops b then x.hw.lantern.seatChanges + 1 else x.hw.lantern.seatChanges := by
  obtain ⟨hseat, hchanges, hepoch⟩ := publishUnit_seat 32
    (if !(takeSeats hops b x).hw.lantern.bypassOpen then 0 else 0) 0 x
  rw [takeSeats, publishBelfry]
  refine ⟨(publishUnit_seat ..).1.trans ?_, (publishUnit_seat ..).2.2.trans (noteEpoch_epoch ..), (publishUnit_seat ..).2.1.trans ?_⟩
  · rw [noteEpoch_lantern]
    rfl
  · rw [noteEpoch_lantern]
    rfl

theorem takeCoolant_eq :
    takeCoolant b x = modLantern (fun l => { l with
      inlet := if bit (field b 8 1) 0 then toSigned 16 (field b 2 2) else l.inlet
      outlet := if bit (field b 8 1) 1 then toSigned 16 (field b 4 2) else l.outlet
      flow := if bit (field b 8 1) 2 then field b 6 2 else l.flow
      coolantMiss := if bit (field b 8 1) 0 then 0 else l.coolantMiss
      coolantAssumed := l.coolantAssumed && !bit (field b 8 1) 0
      lowFlowRun := if bit (field b 8 1) 2 then (if field b 6 2 < 500 then l.lowFlowRun + 1 else 0) else l.lowFlowRun
      coolant := (x.hw.time.now, if bit (field b 8 1) 0 then some (toSigned 16 (field b 2 2)) else none,
        if bit (field b 8 1) 2 then some (field b 6 2) else none) :: recentCoolant x.hw }) x := by
  cases h0 : bit (field b 8 1) 0 with
  | false => cases h2 : bit (field b 8 1) 2 with
    | false => simp only [takeCoolant, h0, h2]; rfl
    | true => simp only [takeCoolant, h0, h2]; rfl
  | true => cases h2 : bit (field b 8 1) 2 with
    | false => simp only [takeCoolant, h0, h2]; rfl
    | true => simp only [takeCoolant, h0, h2]; rfl

/-- A halted module is too hot or has too little flow to wake (R408). -/
abbrev tooHot (hw : Hw) : Prop := hw.power.haltedWake = true ∧ (flowBelow hw 2000 = true ∨ inletAbove hw 4500 = true)

theorem takeWake_eq :
    takeWake b x =
      if field b 0 1 ≠ 1 then x
      else if x.hw.lantern.powerState < 3 ∨ (x.hw.lantern.powerState = 3 ∧ tooHot x.hw) then logPower 18 6 0 4 x
      else if x.hw.lantern.powerState = 3 then modPower (fun p => { p with waking := true }) (logPower 18 6 0 0 x)
      else modLantern (fun l => { l with powerState := 2, lowest := l.lowest.filter (fun c => c != 4) }) (logPower 18 6 0 0 x) := by
  rw [takeWake]
  refine if_congr .rfl rfl (if_congr ?_ rfl rfl)
  simp only [tooHot, Bool.and_eq_true, Bool.or_eq_true, decide_eq_true_iff, and_assoc]

end

/-! ## Timed events of the ring -/

section
variable {w : Work}

theorem takeMarker_open (count hops : Nat) (ho : w.hw.lantern.bypassOpen = true) (ha : w.hw.power.aon = true) :
    takeMarker count hops w =
      emit (.marker count ((hops + 1) % 256)) (takeOffset .marker (-((w.hw.time.now - 120 * hops : Nat) - ((w.hw.time.tickAt : Int)
          + toSigned 16 ((count + 2 ^ 16 - w.hw.time.tick % 2 ^ 16) % 2 ^ 16) * (period w.hw : Int)) : Int))
        (gainSource .marker (modLantern (fun l => { l with
          marker := some (w.hw.time.now - 120 * hops, count)
          markerOffset := (w.hw.time.now - 120 * hops : Nat) - ((w.hw.time.tickAt : Int)
            + toSigned 16 ((count + 2 ^ 16 - w.hw.time.tick % 2 ^ 16) % 2 ^ 16) * (period w.hw : Int)) }) w))) := by
  simp only [takeMarker, ho, ha, Bool.not_true, Bool.or_false, Bool.false_eq_true, if_false]

theorem takeMarker_closed (count hops : Nat) (h : w.hw.lantern.bypassOpen = false ∨ w.hw.power.aon = false) : takeMarker count hops w = w := by
  unfold takeMarker
  refine if_pos ?_
  rcases h with h | h
  · rw [h]; rfl
  · rw [h, Bool.not_false, Bool.or_true]

theorem loseMarker_due {u c : Nat} (hm : w.hw.lantern.marker = some (u, c)) (hd : u + 3 * period w.hw ≤ horizon w.hw) :
    loseMarker w = loseSource .marker (modLantern (fun l => { l with marker := none }) (advance w (u + 3 * period w.hw))) := by
  simp only [loseMarker, hm, due, decide_eq_true hd, if_true]

theorem loseMarker_idle (h : ∀ u c, w.hw.lantern.marker = some (u, c) → horizon w.hw < u + 3 * period w.hw) : loseMarker w = w := by
  unfold loseMarker
  cases hm : w.hw.lantern.marker with
  | none => rfl
  | some m => exact if_neg (by rw [due, decide_eq_true_iff]; exact Nat.not_le.mpr (h m.1 m.2 hm))

theorem markerMismatch_eq :
    markerMismatch w =
      if 3 ≤ w.hw.time.mismatchRun ∧ w.hw.time.mismatch = false then raise 19 0 0 0 0 (modTime (fun t => { t with mismatch := true }) w) else w := by
  rw [markerMismatch]
  exact if_congr (by rw [Bool.and_eq_true, decide_eq_true_iff, Bool.not_eq_true']) rfl rfl

theorem becomeMasterless_due {u : Nat} (hh : w.hw.lantern.heardAt = some u) (hm : w.hw.lantern.masterless = false)
    (hd : u + 50000000 ≤ horizon w.hw) :
    becomeMasterless w =
      logPower 19 7 0 0 (bump 6 5 1 (modLantern (fun l => { l with masterless := true }) (advance w (u + 50000000)))) := by
  simp only [becomeMasterless, hh, hm, due, decide_eq_true hd, Bool.not_true, Bool.or_false, Bool.false_eq_true, if_false]

theorem becomeMasterless_idle (h : w.hw.lantern.masterless = true ∨ ∀ u, w.hw.lantern.heardAt = some u → horizon w.hw < u + 50000000) :
    becomeMasterless w = w := by
  unfold becomeMasterless
  cases hu : w.hw.lantern.heardAt with
  | none => rfl
  | some u =>
    refine if_pos ?_
    rw [Bool.or_eq_true, Bool.not_eq_true', due, decide_eq_false_iff_not, Nat.not_le]
    exact h.imp_right fun h => h u hu

/-- The moment at which the orphan cap begins (R429). -/
def orphanAt (hw : Hw) : Nat := hw.lantern.beatAt.getD hw.lantern.aloneSince + 30000000000

theorem becomeOrphan_eq :
    becomeOrphan w =
      if w.hw.lantern.up = false ∨ w.hw.lantern.orphan = true ∨ horizon w.hw < orphanAt w.hw then w
      else logPower 19 9 0 0 (bump 6 6 1 (modLantern (fun l => { l with orphan := true }) (advance w (orphanAt w.hw)))) := by
  rw [becomeOrphan]
  refine if_congr ?_ rfl rfl
  rw [Bool.or_eq_true, Bool.or_eq_true, Bool.not_eq_true', Bool.not_eq_true', due, decide_eq_false_iff_not, Nat.not_le, or_assoc]
  rfl

theorem assumeCoolant_eq :
    assumeCoolant w =
      if 3 ≤ w.hw.lantern.coolantMiss ∧ w.hw.lantern.up = true then modLantern (fun l => { l with coolantAssumed := true }) w else w := by
  rw [assumeCoolant]
  exact if_congr (by rw [Bool.and_eq_true, decide_eq_true_iff]) rfl rfl

/-- The moment of the module's next `HEARTBEAT` (R415). -/
def sendBeatAt (hw : Hw) : Nat := match hw.lantern.sentBeatAt with | some u => u + 10000000 | none => 0

theorem sendHeartbeat_eq :
    sendHeartbeat w =
      if w.hw.lantern.up = false ∨ w.hw.lantern.seat = none ∨ w.hw.lantern.bypassOpen = false ∨ horizon w.hw < sendBeatAt w.hw then w
      else sendBelfry 1 8 (heartbeatPayload (advance w (sendBeatAt w.hw)).hw)
        (modLantern (fun x => { x with sentBeatAt := some (max w.hw.time.now (sendBeatAt w.hw)) }) (advance w (sendBeatAt w.hw))) := by
  refine if_congr ?_ rfl rfl
  change (_ || _ || _ || !decide (sendBeatAt w.hw ≤ horizon w.hw)) = true ↔ _
  simp only [Bool.or_eq_true, Bool.not_eq_true', Option.isNone_iff_eq_none, decide_eq_false_iff_not, Nat.not_le, or_assoc]

theorem sendBelfry_open (type dst : Nat) (payload : List Byte) {seat : Nat} (hs : w.hw.lantern.seat = some seat)
    (ho : w.hw.lantern.bypassOpen = true) (ha : w.hw.power.aon = true) :
    sendBelfry type dst payload w = emit (.belfry (belfryBytes type seat dst 0 payload)) w := by
  simp only [sendBelfry, hs, ho, ha, Bool.and_true, if_true]

end

/-! ## O37 and O38 -/

theorem consumeFrame_notMaster {t : Nat} {f : BFrame} (x : Work) (hs : f.src.toNat ≠ 0) (ht : t ∈ [1, 3, 4, 5, 7]) : consumeFrame t f x = x := by
  simp only [List.mem_cons, List.not_mem_nil, or_false] at ht
  obtain rfl | rfl | rfl | rfl | rfl := ht
  · exact if_neg hs
  · exact if_neg hs
  · exact if_neg hs
  · exact if_neg hs
  · exact if_neg hs

/-- Settles O37: first the ways of a frame on the ring, then what each frame of seat 0 says. -/
theorem belfryFrames : Obligations.BelfryFrames := by
  unfold Obligations.BelfryFrames
  refine ⟨?_, ?_⟩
  · intro s f type crcOk i t ok hi w b own wide mine valid heard onward
    have arrives {v : Work} (hv : belfryArrive t ok f w = v) : AnswersWith i s v := by
      simp only [List.mem_cons, List.not_mem_nil, or_false, Prod.mk.injEq] at hi
      obtain ⟨rfl, rfl, rfl⟩ | ⟨rfl, rfl, rfl⟩ | ⟨rfl, rfl, rfl⟩ | ⟨rfl, rfl, rfl⟩ | ⟨rfl, rfl, rfl⟩ | ⟨rfl, rfl, rfl⟩ | ⟨rfl, rfl, rfl⟩ := hi
      · exact answersWith_run _ s _ _ (exec_heartbeat ..) hv
      · exact answersWith_run _ s _ _ (exec_lease ..) hv
      · exact answersWith_run _ s _ _ (exec_seatAssign ..) hv
      · exact answersWith_run _ s _ _ (exec_coolant ..) hv
      · exact answersWith_run _ s _ _ (exec_alert ..) hv
      · exact answersWith_run _ s _ _ (exec_wake ..) hv
      · exact answersWith_run _ s _ _ (exec_belfryFrameForward ..) hv
    refine ⟨fun h => arrives (belfryArrive_closed h), fun ho ha hown => ⟨fun hok => arrives ?_, fun hok hv hm => arrives ?_,
      fun hok hv hm => arrives ?_, fun hok hv hm => arrives ?_, fun hok hv hw => arrives ?_, fun hok hv hm hw => arrives ?_⟩⟩
    · rw [hok]
      exact belfryArrive_badCrc ho ha hown
    · rw [hok]
      exact belfryArrive_otherInvalid ho ha hown hv hm
    · rw [hok]
      exact belfryArrive_mineInvalid ho ha hown hv hm
    · rw [hok]
      exact belfryArrive_consumed ho ha hown hv hm
    · rw [hok]
      exact (belfryArrive_forwarded ho ha hown hv fun hm => hm.2 hw).trans (congrArg onward (if_pos hw))
    · rw [hok]
      exact (belfryArrive_forwarded (w := w) ho ha hown hv hm).trans (congrArg onward (if_neg hw))
  · intro f x b v kept
    refine ⟨fun hs t ht => consumeFrame_notMaster x hs ht, rfl, rfl, fun hs => ?_⟩
    have beats : consumeFrame 1 f x = takeHeartbeat b x := if_pos hs
    have leases : consumeFrame 3 f x = takeLease b x := if_pos hs
    have seats : consumeFrame 4 f x = takeSeats f.hops.toNat b x := if_pos hs
    have coolants : consumeFrame 5 f x = takeCoolant b x := if_pos hs
    have wakes : consumeFrame 7 f x = takeWake b x := if_pos hs
    rw [beats, leases, seats, coolants, wakes]
    refine ⟨fun hb ho => ?_, fun hb ho => ?_, fun hb => takeHeartbeat_master hb, fun hn => ?_, fun seat hn => ?_, fun n hn => ?_, takeCoolant_eq,
      fun hb => takeWake_eq.trans (if_pos hb), fun hb => ?_⟩
    · rw [takeHeartbeat_eq, if_neg hb, ho]
      rfl
    · rw [takeHeartbeat_eq, if_neg hb, ho]
      rfl
    · rw [takeLease_eq, hn]
    · rw [takeLease_eq, hn]
      rfl
    · obtain ⟨hseat, hepoch, hchanges⟩ := takeSeats_lantern f.hops.toNat b x
      refine ⟨fun hh h1 h7 => hseat.trans (seatGiven_some hn hh h1 h7), fun h => hseat.trans (seatGiven_none hn h), hepoch, fun hnew hold => ?_⟩
      rw [hchanges]
      refine if_pos ?_
      rw [Bool.and_eq_true, Option.isSome_iff_ne_none, bne_iff_ne, ← hseat]
      exact ⟨hold, hnew.symm⟩
    · have hwake := (takeWake_eq (x := x)).trans (if_neg (not_not_intro hb))
      refine ⟨fun h => hwake.trans (if_pos (.inl h)), fun h hot => hwake.trans (if_pos (.inr ⟨h, hot⟩)),
        fun h hot => hwake.trans ((if_neg ?_).trans (if_pos h)), fun h => hwake.trans ((if_neg ?_).trans (if_neg ?_))⟩
      · exact fun hn => hn.elim (fun hn => absurd (h ▸ hn) (by decide)) fun hn => hot hn.2
      · exact fun hn => hn.elim (fun hn => absurd h (Nat.not_lt.mpr hn.le)) fun hn => absurd hn.1 (Nat.ne_of_gt h)
      · exact Nat.ne_of_gt h

/-- Settles O38, an event at a time: each has one moment or condition. -/
theorem belfryTimers : Obligations.BelfryTimers := by
  unfold Obligations.BelfryTimers
  intro s count hops
  rw [show s.hw.time = (beginWork s).hw.time from rfl, show s.hw.lantern = (beginWork s).hw.lantern from rfl,
    show period s.hw = period (beginWork s).hw from rfl, show horizon s.hw = horizon (beginWork s).hw from rfl,
    show s.hw.power = (beginWork s).hw.power from rfl]
  intro w t l ref ahead off beatAt orphanAt
  have markers {v : Work} (hv : takeMarker count.toNat hops.toNat w = v) : AnswersWith (.tickMarker count hops) s v :=
    answersWith_run _ s _ _ (exec_tickMarker ..) hv
  have losts {v : Work} (hv : loseMarker w = v) : AnswersWith .markerLost s v := answersWith_run _ s _ _ (exec_markerLost ..) hv
  have mismatches {v : Work} (hv : markerMismatch w = v) : AnswersWith .markerMismatch s v := answersWith_run _ s _ _ (exec_markerMismatch ..) hv
  have masters {v : Work} (hv : becomeMasterless w = v) : AnswersWith .masterless s v := answersWith_run _ s _ _ (exec_masterless ..) hv
  have orphans {v : Work} (hv : becomeOrphan w = v) : AnswersWith .orphan s v := answersWith_run _ s _ _ (exec_orphan ..) hv
  have coolants {v : Work} (hv : assumeCoolant w = v) : AnswersWith .coolantAssumed s v := answersWith_run _ s _ _ (exec_coolantAssumed ..) hv
  have beats {v : Work} (hv : sendHeartbeat w = v) : AnswersWith .heartbeatSend s v := answersWith_run _ s _ _ (exec_heartbeatSend ..) hv
  refine ⟨fun ho ha => markers (takeMarker_open _ _ ho ha), fun h => markers (takeMarker_closed _ _ h), fun u c hm hd => losts (loseMarker_due hm hd),
    fun h => losts (loseMarker_idle h), fun hr hm => mismatches (markerMismatch_eq.trans (if_pos ⟨hr, hm⟩)),
    fun h => mismatches (markerMismatch_eq.trans (if_neg ?_)), fun u hu hm hd => masters (becomeMasterless_due hu hm hd),
    fun h => masters (becomeMasterless_idle h), fun hup ho hd => orphans (becomeOrphan_eq.trans (if_neg ?_)),
    fun h => orphans (becomeOrphan_eq.trans (if_pos h)), fun hup hm => coolants (assumeCoolant_eq.trans (if_pos ⟨hm, hup⟩)),
    fun h => coolants (assumeCoolant_eq.trans (if_neg ?_)), fun hup ho ha seat hs hd => beats ?_,
    fun h => beats (sendHeartbeat_eq.trans (if_pos ?_))⟩
  · rintro ⟨hr, hm⟩
    exact h.elim (fun h => Nat.not_lt.mpr hr h) fun h => Bool.false_ne_true (hm.symm.trans h)
  · rintro (h | h | h)
    · exact Bool.false_ne_true (h.symm.trans hup)
    · exact Bool.false_ne_true (ho.symm.trans h)
    · exact Nat.not_lt.mpr hd h
  · rintro ⟨hm, hup⟩
    exact h.elim (fun h => Bool.false_ne_true (h.symm.trans hup)) (Nat.not_lt.mpr hm)
  · refine (sendHeartbeat_eq.trans (if_neg ?_)).trans (sendBelfry_open (seat := seat) _ _ _ hs ho ha)
    rintro (h | h | h | h)
    · exact Bool.false_ne_true (h.symm.trans hup)
    · exact Option.some_ne_none seat (hs.symm.trans h)
    · exact Bool.false_ne_true (h.symm.trans ho)
    · exact Nat.not_lt.mpr hd h
  · rcases h with h | h | h | h
    · exact .inl h
    · exact .inr (.inr (.inl h))
    · exact .inr (.inl h)
    · exact .inr (.inr (.inr h))

end Sys2Proof.Machine
end

section
/-! PROOFS. Supply events, regulator alerts and droops (R209, R441 to R448). -/
namespace Sys2Proof.Machine

open Sys2Proof

/-! ## Supply events (R443, R444) -/

section
variable {volts : Nat} {w : Work}

/-- A sample below the warning level, while Lantern runs, may act. -/
theorem warns_iff : (!lanternRuns w.hw || decide (4700 ≤ volts)) = true ↔ lanternRuns w.hw = false ∨ 4700 ≤ volts := by
  rw [Bool.or_eq_true, Bool.not_eq_true', decide_eq_true_iff]

/-- The warning of a supply sample has been raised (R443). -/
def supplyWarned (volts : Nat) (w : Work) : Work :=
  sendAlert 1 (raise 21 0 0 0 0 (forceLowest 2 (modPower (fun q => { q with
    warning := true
    warningSeen := true
    warnClear := false
    warnAt := some (q.warnAt.getD w.hw.time.now) }) (bump 7 0 1 (takeVolts volts w)))))

theorem supplyWarn_eq :
    supplyWarn volts w =
      if lanternRuns w.hw = false ∨ 4700 ≤ volts then w
      else if pagerLive (supplyWarned volts w).hw = true ∧ warningFlush (supplyWarned volts w).hw = false then
        startFlush .warning none none (supplyWarned volts w)
      else supplyWarned volts w :=
  if_congr warns_iff rfl (if_congr (by rw [Bool.and_eq_true, Bool.not_eq_true']; rfl) rfl rfl)

theorem supplyDip_eq :
    supplyDip volts w =
      if lanternRuns w.hw = false ∨ 4700 ≤ volts then w
      else bump 7 1 1 (modPower (fun q => { q with warnClear := false }) (takeVolts volts w)) :=
  if_congr warns_iff rfl rfl

theorem supplyResetNow_eq (holdup : Bool) :
    supplyResetNow volts holdup w =
      if w.hw.power.aon = false ∨ w.hw.power.retained = true ∨ 4300 ≤ volts then w
      else supplyModuleReset .lost (if holdup then drainAll (takeVolts volts w) else takeVolts volts w) :=
  if_congr (by rw [Bool.or_eq_true, Bool.or_eq_true, Bool.not_eq_true', decide_eq_true_iff, or_assoc]) rfl rfl

theorem overVoltage_eq :
    overVoltage volts w =
      if w.hw.power.aon = false ∨ w.hw.power.retained = true ∨ volts ≤ 5950 then w else supplyModuleReset .kept (takeVolts volts w) :=
  if_congr (by rw [Bool.or_eq_true, Bool.or_eq_true, Bool.not_eq_true', decide_eq_true_iff, or_assoc]) rfl rfl

theorem supplyRecover_eq :
    supplyRecover volts w =
      if w.hw.power.aon = false ∨ volts ≤ 4800 then w
      else if w.hw.power.warning = false then takeVolts volts w
      else endWarning (modPower (fun q => { q with warnClear := true }) (takeVolts volts w)) :=
  if_congr (by rw [Bool.or_eq_true, Bool.not_eq_true', decide_eq_true_iff]) rfl (if_congr (by rw [Bool.not_eq_true']; rfl) rfl rfl)

theorem aonLost_eq : aonLost w = if w.hw.power.aon = false then w else modPower (fun q => { q with pwrGood := false }) (powerLoss .lost w) :=
  if_congr (by rw [Bool.not_eq_true']) rfl rfl

theorem endWarning_flushes (h : warningFlush w.hw = true) : endWarning w = w := if_pos (by rw [h, Bool.or_true])

section
variable (hw : w.hw.power.warning = true) (hc : w.hw.power.warnClear = true) (hf : warningFlush w.hw = false)
include hw hc hf

theorem endWarning_none (h : w.hw.power.warnAt = none) :
    endWarning w = endLowest 2 (modPower (fun q => { q with warning := false, warnClear := false }) w) := by
  have hnone : (endLowest 2 (modPower (fun q => { q with warning := false, warnClear := false }) w)).hw.power.warnAt = none := h
  simp only [endWarning, hw, hc, hf, hnone, Bool.not_true, Bool.or_false, Bool.false_eq_true, if_false]

theorem endWarning_some {t : Nat} (h : w.hw.power.warnAt = some t) :
    endWarning w = resumeFrom t (endLowest 2 (modPower (fun q => { q with warning := false, warnClear := false }) w)) := by
  have hsome : (endLowest 2 (modPower (fun q => { q with warning := false, warnClear := false }) w)).hw.power.warnAt = some t := h
  simp only [endWarning, hw, hc, hf, hsome, Bool.not_true, Bool.or_false, Bool.false_eq_true, if_false]

end

end

/-- Settles O39: each sample acts where its level and the state of the supply allow, and beyond 60 V there is a fault. -/
theorem supplyEvents : Obligations.SupplyEvents := by
  unfold Obligations.SupplyEvents
  intro s volts holdup
  rw [show lanternRuns s.hw = lanternRuns (beginWork s).hw from rfl, show s.hw.power = (beginWork s).hw.power from rfl,
    show warningFlush s.hw = warningFlush (beginWork s).hw from rfl]
  intro v w p sampled warned cleared_ resets
  have warnings {x : Work} (hx : supplyWarn v w = x) : AnswersWith (.supplyWarning volts) s x := answersWith_run _ s _ _ (exec_supplyWarning ..) hx
  have dips {x : Work} (hx : supplyDip v w = x) : AnswersWith (.supplyGlitch volts) s x := answersWith_run _ s _ _ (exec_supplyGlitch ..) hx
  have falls {h : Bool} {x : Work} (hx : supplyResetNow v h w = x) : AnswersWith (.supplyReset volts h) s x :=
    answersWith_run _ s _ _ (exec_supplyReset ..) hx
  have recovers {x : Work} (hx : supplyRecover v w = x) : AnswersWith (.supplyRecovery volts) s x :=
    answersWith_run _ s _ _ (exec_supplyRecovery ..) hx
  have losses {x : Work} (hx : aonLost w = x) : AnswersWith .aonPowerLoss s x := answersWith_run _ s _ _ (exec_aonPowerLoss ..) hx
  have exceeds (hv : v ≤ 6000) {x : Work} (hx : overVoltage v w = x) : AnswersWith (.overVoltageReset volts) s x :=
    answersWith_run _ s _ _ (if_neg (Nat.not_lt.mpr hv)) hx
  refine ⟨fun hl hv => ?_, fun h => ⟨warnings (supplyWarn_eq.trans (if_pos h)), dips (supplyDip_eq.trans (if_pos h))⟩,
    fun ha hr => ⟨fun hv => ?_, fun hv hmax => exceeds hmax (overVoltage_eq.trans (if_neg ?_))⟩,
    fun h => falls ((supplyResetNow_eq _).trans (if_pos h)), fun hmax h => exceeds hmax (overVoltage_eq.trans (if_pos h)), fun h => if_pos h,
    fun ha hv => ?_, fun h => recovers (supplyRecover_eq.trans (if_pos h)),
    fun ha => losses (aonLost_eq.trans (if_neg (ne_false_of_eq_true ha))), fun ha => losses (aonLost_eq.trans (if_pos ha))⟩
  · have hact : ¬(lanternRuns w.hw = false ∨ 4700 ≤ v) := not_or_intro (ne_false_of_eq_true hl) (Nat.not_le.mpr hv)
    refine ⟨fun hp hf => warnings (supplyWarn_eq.trans ((if_neg hact).trans (if_pos ⟨hp, hf⟩))),
      fun h => warnings (supplyWarn_eq.trans ((if_neg hact).trans (if_neg ?_))), dips (supplyDip_eq.trans (if_neg hact))⟩
    rintro ⟨hp, hf⟩
    exact h.elim (fun h => Bool.false_ne_true (h.symm.trans hp)) fun h => Bool.false_ne_true (hf.symm.trans h)
  · have hact : ¬(w.hw.power.aon = false ∨ w.hw.power.retained = true ∨ 4300 ≤ v) :=
      not_or_intro (ne_false_of_eq_true ha) (not_or_intro (ne_true_of_eq_false hr) (Nat.not_le.mpr hv))
    exact ⟨falls ((supplyResetNow_eq false).trans (if_neg hact)), falls ((supplyResetNow_eq true).trans (if_neg hact))⟩
  · exact not_or_intro (ne_false_of_eq_true ha) (not_or_intro (ne_true_of_eq_false hr) (Nat.not_le.mpr hv))
  · have hact : ¬(w.hw.power.aon = false ∨ v ≤ 4800) := not_or_intro (ne_false_of_eq_true ha) (Nat.not_le.mpr hv)
    have hwarn (h : p.warning = true) : supplyRecover v w = endWarning cleared_ :=
      supplyRecover_eq.trans ((if_neg hact).trans (if_neg (ne_false_of_eq_true h)))
    refine ⟨fun h => recovers (supplyRecover_eq.trans ((if_neg hact).trans (if_pos h))),
      fun h hf => recovers ((hwarn h).trans (endWarning_flushes hf)), fun h hf => ⟨fun ht => recovers ((hwarn h).trans ?_),
      fun t ht => recovers ((hwarn h).trans ?_)⟩⟩
    · exact endWarning_none (w := cleared_) h rfl hf ht
    · exact endWarning_some (w := cleared_) h rfl hf ht

/-! ## Regulator alerts (R441, R447) -/

section
variable {w : Work}

theorem vrAsserted_eq (own : Bool) :
    vrAsserted own w =
      if lanternRuns w.hw = false then w
      else if w.hw.power.vrAlert = true then modPower (fun q => { q with vrOwn := own }) w
      else bump 7 2 1 (sendAlert 2 (forceLowest 1 (modPower (fun q => { q with
        vrAlert := true
        vrOwn := own
        vrSince := some w.hw.time.now
        vrReported := false }) w))) :=
  if_congr (by rw [Bool.not_eq_true']) rfl rfl

theorem vrTooLong_some {t : Nat} (h : w.hw.power.vrSince = some t) :
    vrTooLong w =
      if lanternRuns w.hw = false ∨ w.hw.power.vrReported = true ∨ horizon w.hw < t + 10000000000 then w
      else raise 22 0 0 0 0 (modPower (fun q => { q with vrReported := true }) (advance w (t + 10000000000))) := by
  simp only [vrTooLong, h]
  refine if_congr ?_ rfl rfl
  rw [Bool.or_eq_true, Bool.or_eq_true, Bool.not_eq_true', Bool.not_eq_true', due, decide_eq_false_iff_not, Nat.not_le, or_assoc]

theorem vrTooLong_idle
    (h : lanternRuns w.hw = false ∨ w.hw.power.vrReported = true ∨ ∀ t, w.hw.power.vrSince = some t → horizon w.hw < t + 10000000000) :
    vrTooLong w = w := by
  cases hs : w.hw.power.vrSince with
  | none => rw [vrTooLong, hs]
  | some t => exact (vrTooLong_some hs).trans (if_pos (h.imp_right (Or.imp_right fun h => h t hs)))

/-! ## Droops (R448) -/

/-- The detector's last event ended less than 1 us before. -/
def droopEarly (hw : Hw) (k detector : Nat) : Prop :=
  ∃ e, (spirePower hw k).droopEnded.find? (fun e => e.1 == detector) = some e ∧ hw.time.now < e.2 + 1000

variable {k detector lasted : Nat}

theorem droopEarly_eq_true :
    (match (spirePower w.hw k).droopEnded.find? (fun e => e.1 == detector) with
      | some e => decide (w.hw.time.now < e.2 + 1000)
      | none => false) = true ↔ droopEarly w.hw k detector := by
  unfold droopEarly
  cases (spirePower w.hw k).droopEnded.find? (fun e => e.1 == detector) with
  | none => exact ⟨fun h => absurd h Bool.false_ne_true, fun ⟨e, he, _⟩ => nomatch he⟩
  | some e =>
    refine ⟨fun h => ⟨e, rfl, decide_eq_true_iff.mp h⟩, ?_⟩
    rintro ⟨e', he, h⟩
    cases he
    exact decide_eq_true h

theorem droopBarred_iff :
    (!w.hw.power.spireOn.contains k || (spirePower w.hw k).droopSince.isSome
      || (match (spirePower w.hw k).droopEnded.find? (fun e => e.1 == detector) with
        | some e => decide (w.hw.time.now < e.2 + 1000)
        | none => false)) = true ↔
      w.hw.power.spireOn.contains k = false ∨ (spirePower w.hw k).droopSince ≠ none ∨ droopEarly w.hw k detector := by
  rw [Bool.or_eq_true, Bool.or_eq_true, Bool.not_eq_true', Option.isSome_iff_ne_none, droopEarly_eq_true, or_assoc]

theorem beginDroop_barred (h : w.hw.power.spireOn.contains k = false ∨ (spirePower w.hw k).droopSince ≠ none ∨ droopEarly w.hw k detector) :
    beginDroop k detector w = w :=
  if_pos (droopBarred_iff.mpr h)

theorem beginDroop_begins
    (h : ¬(w.hw.power.spireOn.contains k = false ∨ (spirePower w.hw k).droopSince ≠ none ∨ droopEarly w.hw k detector)) :
    beginDroop k detector w = bump 7 (3 + k) 1 (modSpire k (fun q => { q with
      droopSince := some w.hw.time.now
      droopBy := detector
      droopLong := false
      droopRate := freeOf w % 12001 }) (freeUsed w)) :=
  if_neg fun hb => h (droopBarred_iff.mp hb)

theorem endDroop_idle (h : (spirePower w.hw k).droopSince = none) : endDroop k lasted w = w := by rw [endDroop, h]

theorem longDroop_idle (h : (spirePower w.hw k).droopSince = none) : longDroop k w = w := by rw [longDroop, h]

section
variable {t : Nat} (h : (spirePower w.hw k).droopSince = some t)
include h

theorem endDroop_eq : endDroop k lasted w = if 200 ≤ lasted ∨ horizon w.hw < t + lasted then w else endStretch k t lasted false w := by
  simp only [endDroop, h]
  refine if_congr ?_ rfl rfl
  rw [Bool.or_eq_true, decide_eq_true_iff, Bool.not_eq_true', due, decide_eq_false_iff_not, Nat.not_le]

theorem longDroop_eq :
    longDroop k w = if horizon w.hw < t + 200 then w else raise 23 2 k 0 0 (bump 7 (7 + k) 1 (endStretch k t 200 true w)) := by
  simp only [longDroop, h]
  refine if_congr ?_ rfl rfl
  rw [Bool.not_eq_true', due, decide_eq_false_iff_not, Nat.not_le]

end

end

/-- A droop lengthens the cycles by at most 12 % (R448). -/
theorem droopGrowth_le {rate n : Nat} (h : rate ≤ 12000) : 112 * droopGrowth rate n ≤ 12 * n := by
  have hdiv : droopGrowth rate n * (100000 + rate) ≤ n * rate := Nat.div_mul_le_self ..
  nlinarith

/-- Settles O40: an alert or a droop acts where none is in progress, and each of their ends at its one moment. -/
theorem regulatorAndDroop : Obligations.RegulatorAndDroop := by
  unfold Obligations.RegulatorAndDroop
  intro s spire detector own lasted
  rw [show lanternRuns s.hw = lanternRuns (beginWork s).hw from rfl, show s.hw.power = (beginWork s).hw.power from rfl,
    show horizon s.hw = horizon (beginWork s).hw from rfl, show s.hw.time = (beginWork s).hw.time from rfl]
  intro w p k
  rw [show spirePower s.hw k = spirePower w.hw k from rfl]
  intro sp ended early
  have alerts {x : Work} (hx : vrAsserted own w = x) : AnswersWith (.vrAlertN own) s x := answersWith_run _ s _ _ (exec_vrAlertN ..) hx
  have longs {x : Work} (hx : vrTooLong w = x) : AnswersWith .regulatorAlert s x := answersWith_run _ s _ _ (exec_regulatorAlert ..) hx
  have droops {x : Work} (hx : beginDroop k detector.val w = x) : AnswersWith (.droop spire detector) s x :=
    answersWith_run _ s _ _ (exec_droop ..) hx
  have ends {x : Work} (hx : endDroop k lasted.toNat w = x) : AnswersWith (.droopEnd spire lasted) s x :=
    answersWith_run _ s _ _ (exec_droopEnd ..) hx
  have lasts {x : Work} (hx : longDroop k w = x) : AnswersWith (.droopLong spire) s x := answersWith_run _ s _ _ (exec_droopLong ..) hx
  refine ⟨fun hl => ⟨fun ha => alerts ((vrAsserted_eq own).trans ((if_neg (ne_false_of_eq_true hl)).trans (if_pos ha))),
      fun ha => alerts ((vrAsserted_eq own).trans ((if_neg (ne_false_of_eq_true hl)).trans (if_neg (ne_true_of_eq_false ha)))),
      fun t ht hr hd => longs ((vrTooLong_some ht).trans (if_neg ?_))⟩,
    fun hl => alerts ((vrAsserted_eq own).trans (if_pos hl)), fun h => longs (vrTooLong_idle h),
    answersWith_run _ s _ _ (exec_vrAlertEnd s) rfl, fun ho hs he => droops (beginDroop_begins ?_), fun h => droops (beginDroop_barred h),
    fun t ht => ⟨fun hlt hd => ends ((endDroop_eq ht).trans (if_neg (not_or_intro (Nat.not_le.mpr hlt) (Nat.not_lt.mpr hd)))),
      fun h => ends ((endDroop_eq ht).trans (if_pos h)), fun hd => lasts ((longDroop_eq ht).trans (if_neg (Nat.not_lt.mpr hd))),
      fun hd => lasts ((longDroop_eq ht).trans (if_pos hd))⟩,
    fun h => ⟨ends (endDroop_idle h), lasts (longDroop_idle h)⟩, fun rate n h => droopGrowth_le h⟩
  · exact not_or_intro (ne_false_of_eq_true hl) (not_or_intro (ne_true_of_eq_false hr) (Nat.not_lt.mpr hd))
  · exact not_or_intro (ne_false_of_eq_true ho) (not_or_intro (not_not_intro hs) he)

end Sys2Proof.Machine
end

section
/-! PROOFS. Temperatures, margins and the power sequence (R401 to R462, R576 to R584). -/
namespace Sys2Proof.Machine

open Sys2Proof

/-! ## Temperatures (R449 to R454) -/

section
variable {w : Work}

theorem thermalSampleNow_eq (spots : List (Nat × Int × Int)) :
    thermalSampleNow spots w =
      if lanternRuns w.hw = false then w
      else endEmergency (forEach [0, 1, 2, 3] (fun i v => applyThermal i (thermalRate i v))
        (forEach spots (fun x v => samplePair x.1 x.2.1 x.2.2 v) w)) :=
  if_congr (by rw [Bool.not_eq_true']) rfl rfl

theorem forEach_map {α β : Type} (g : α → β) (f : β → Work → Work) (l : List α) (w : Work) :
    forEach (l.map g) f w = forEach l (fun a => f (g a)) w := by
  induction l generalizing w with
  | nil => rfl
  | cons a l ih =>
    rw [List.map_cons, forEach_cons, forEach_cons]
    exact ih _

theorem changePair_same {i : Nat} (h : (spotOf w.hw i).latest = (spotOf w.hw i).status) : changePair i w = w := if_pos h

theorem changePair_worse {i : Nat} (h : (spotOf w.hw i).latest ≠ (spotOf w.hw i).status) (h0 : (spotOf w.hw i).latest ≠ 0) :
    changePair i w =
      raise 24 9 i 0 (spotOf w.hw i).latest
        (forEach (if i < 120 then [i / 30] else [0, 1, 2, 3]) (fun s v => bump 7 (15 + s) 1 v) (modSpot i (fun q => { q with
          status := (spotOf w.hw i).latest
          changedAt := some w.hw.time.now
          absentSince := none }) w)) :=
  (if_neg h).trans (if_neg h0)

section
variable {i : Nat} (h0 : (spotOf w.hw i).latest = 0) (hs : (spotOf w.hw i).status ≠ 0)
include h0 hs

theorem changePair_back {t : Nat} (ha : (spotOf w.hw i).absentSince = some t) :
    changePair i w =
      if t + 1000000000 ≤ w.hw.time.now then modSpot i (fun q => { q with status := 0, changedAt := some w.hw.time.now }) w else w := by
  simp only [changePair, h0, ha, if_neg hs.symm, if_true]

theorem changePair_notBack (ha : ∀ t, (spotOf w.hw i).absentSince = some t → w.hw.time.now < t + 1000000000) : changePair i w = w := by
  cases hn : (spotOf w.hw i).absentSince with
  | none => simp only [changePair, h0, hn, if_neg hs.symm, if_true]
  | some t => exact (changePair_back h0 hs hn).trans (if_neg (Nat.not_le.mpr (ha t hn)))

end

/-- The work at the moment at which an emergency counts: 10 ms after the Spire became hot (R453). -/
def hotWork (k : Nat) (w : Work) : Work :=
  match (spirePower w.hw k).hotSince with
  | some t => if due w.hw (t + 10000000) then advance w (t + 10000000) else w
  | none => w

theorem beginEmergency_eq (k : Nat) :
    beginEmergency k w =
      if lanternRuns w.hw = true ∧ (spirePower w.hw k).emergency = false ∧ emergencyDue (hotWork k w).hw k = true then
        raise 25 2 k 0 0 (bump 7 19 1 (forceLowest 3 (modSpire k (fun q => { q with emergency := true }) (hotWork k w))))
      else w := by
  refine (if_congr ?_ rfl rfl).trans (ite_not ..)
  change (_ || _ || !emergencyDue (hotWork k w).hw k) = true ↔ _
  rw [Bool.or_eq_true, Bool.or_eq_true, Bool.not_eq_true', Bool.not_eq_true', or_assoc, not_and_or, not_and_or, Bool.not_eq_true,
    Bool.not_eq_false, Bool.not_eq_true]

/-- A hot spot's comparator may trip the module (R450, R454, R584). -/
abbrev mayTrip (hw : Hw) (spot : Nat) : Prop :=
  hw.power.aon = true ∧ hw.power.retained = false ∧ (spotOf hw spot).status ≠ 3 ∧
    (hw.power.tripLatch = false ∨ (120 ≤ spot ∧ hw.power.tripCupola = false))

theorem tripBarred_iff {spot : Nat} :
    (!w.hw.power.aon || w.hw.power.retained || decide ((spotOf w.hw spot).status = 3)
      || (w.hw.power.tripLatch && (!decide (120 ≤ spot) || w.hw.power.tripCupola))) = true ↔ ¬mayTrip w.hw spot := by
  rw [mayTrip, not_and_or, not_and_or, not_and_or, not_or, not_and_or, Bool.or_eq_true, Bool.or_eq_true, Bool.or_eq_true, Bool.and_eq_true,
    Bool.or_eq_true, Bool.not_eq_true', Bool.not_eq_true', decide_eq_true_iff, decide_eq_false_iff_not, not_not, Bool.not_eq_true,
    Bool.not_eq_false, Bool.not_eq_false, Bool.not_eq_false, or_assoc, or_assoc]

/-- The trip of a hot spot has been latched and announced (R454). -/
def tripLatched (spot : Nat) (w : Work) : Work :=
  sendAlert 4 (raise 26 9 spot 0 0 (modPower (fun q => { q with tripLatch := true, tripAt := some w.hw.time.now }) w))

/-- The domains that a trip on Cupola removes (R584). -/
def cupolaTripped (spot : Nat) (w : Work) : Work :=
  publishBelfry (publishModule (modPower (fun q => { q with tripCupola := true })
    (modLight (fun l => { l with resets := l.resets + 1 }) ((clearTiers .kept (tripLatched spot w)).up fun h => afterReset h .kept true true))))

theorem thermalTripNow_eq (spot : Nat) :
    thermalTripNow spot w =
      if ¬mayTrip w.hw spot then w
      else if 120 ≤ spot then (if w.hw.power.moves.contains .cut then retainTier2 (cupolaTripped spot w) else cupolaTripped spot w)
      else tripSpires (tripLatched spot w) :=
  if_congr tripBarred_iff rfl ((if_congr (by rw [Bool.not_eq_true', decide_eq_false_iff_not]) rfl rfl).trans (ite_not ..))

/-- The moment at which the trip latch may be cleared (R576). -/
def tripOpens (hw : Hw) : Nat := max hw.power.pwrEnAt (hw.power.tripAt.getD 0) + 100000000

theorem releaseTrip_eq :
    releaseTrip w =
      if w.hw.power.tripLatch = false ∨ w.hw.power.pwrEn = true ∨ horizon w.hw < tripOpens w.hw then w
      else modPower (fun q => { q with tripLatch := false, tripAt := none }) (advance w (tripOpens w.hw)) := by
  refine if_congr ?_ rfl rfl
  change (_ || _ || !decide (tripOpens w.hw ≤ horizon w.hw)) = true ↔ _
  rw [Bool.or_eq_true, Bool.or_eq_true, Bool.not_eq_true', Bool.not_eq_true', decide_eq_false_iff_not, Nat.not_le, or_assoc]

theorem review_eq (slack : List Nat) (margins : Nat) :
    review slack margins w =
      if isReady w.hw = true ∧ w.hw.lantern.powerState < 3 ∧ w.hw.power.nextReview ≤ poweredHours w.hw then
        modPower (fun q => { q with
          nextReview := q.nextReview + 720
          stale := (List.range 46).foldl (fun n i =>
            if bit q.stale i || bit margins i || ((agedParts w.hw).map staleBit).contains i then n + 2 ^ i else n) 0 })
          (forEach (numbered 0 slack) (fun y v => reviewSpire (poweredHours w.hw) y.1 y.2 v) w)
      else w := by
  refine (if_congr ?_ rfl rfl).trans (ite_not ..)
  rw [Bool.or_eq_true, Bool.or_eq_true, Bool.not_eq_true', decide_eq_true_iff, decide_eq_true_iff, or_assoc, not_and_or, not_and_or,
    Bool.not_eq_true, Nat.not_lt, Nat.not_le]

end

/-- Settles O41, an event at a time: each acts under its one condition. -/
theorem temperaturesAndMargins : Obligations.TemperaturesAndMargins := by
  unfold Obligations.TemperaturesAndMargins
  intro s samples spot spire slack margins
  rw [show lanternRuns s.hw = lanternRuns (beginWork s).hw from rfl, show s.hw.power = (beginWork s).hw.power from rfl,
    show horizon s.hw = horizon (beginWork s).hw from rfl, show s.hw.time = (beginWork s).hw.time from rfl,
    show spotOf s.hw spot.val = spotOf (beginWork s).hw spot.val from rfl, show poweredHours s.hw = poweredHours (beginWork s).hw from rfl,
    show agedParts s.hw = agedParts (beginWork s).hw from rfl, show s.hw.lantern = (beginWork s).hw.lantern from rfl,
    show isReady s.hw = isReady (beginWork s).hw from rfl]
  intro w p x k
  rw [show spirePower s.hw k = spirePower w.hw k from rfl]
  intro sp cupola latched mayTrip' opens hours atHot hot reviews
  have samplings {v : Work} (hv : thermalSampleNow (samples.map (fun x => (x.spot.val, x.a.toInt, x.b.toInt))) w = v) :
      AnswersWith (.thermalSample samples) s v := answersWith_run _ s _ _ (exec_thermalSample ..) hv
  have pairs {v : Work} (hv : changePair spot.val w = v) : AnswersWith (.sensorPair spot) s v := answersWith_run _ s _ _ (exec_sensorPair ..) hv
  have heats {v : Work} (hv : beginEmergency k w = v) : AnswersWith (.thermalEmergency spire) s v :=
    answersWith_run _ s _ _ (exec_thermalEmergency ..) hv
  have trips {v : Work} (hv : thermalTripNow spot.val w = v) : AnswersWith (.thermalTrip spot) s v :=
    answersWith_run _ s _ _ (exec_thermalTrip ..) hv
  have frees {v : Work} (hv : releaseTrip w = v) : AnswersWith .thermalTripRelease s v := answersWith_run _ s _ _ (exec_thermalTripRelease ..) hv
  have looks {v : Work} (hv : review (slack.toList.map (fun v => v.toNat)) margins.toNat w = v) : AnswersWith (.marginReview slack margins) s v :=
    answersWith_run _ s _ _ (exec_marginReview ..) hv
  have hhot : hotWork k w = atHot := by
    unfold hotWork atHot
    change (match sp.hotSince with | some t => if due w.hw (t + 10000000) then advance w (t + 10000000) else w | none => w) = _
    cases sp.hotSince with
    | none => rfl
    | some t => exact if_congr decide_eq_true_iff rfl rfl
  have hemergency := beginEmergency_eq (w := w) k
  rw [hhot] at hemergency
  have htrip := thermalTripNow_eq (w := w) spot.val
  refine ⟨fun hl => samplings (((thermalSampleNow_eq _).trans (if_neg (ne_false_of_eq_true hl))).trans ?_),
    fun hl => samplings ((thermalSampleNow_eq _).trans (if_pos hl)), fun h => pairs (changePair_same h),
    fun h h0 => pairs (changePair_worse h h0), fun t h0 hs ha ht => pairs ((changePair_back h0 hs ha).trans (if_pos ht)),
    fun h0 hs ha => pairs (changePair_notBack h0 hs ha), fun h => heats (hemergency.trans (if_pos h)),
    fun h => heats (hemergency.trans (if_neg h)),
    fun h hc => trips (htrip.trans ((if_neg (not_not_intro h)).trans (if_neg hc))),
    fun h hc => trips (htrip.trans ((if_neg (not_not_intro h)).trans (if_pos hc))), fun h => trips (htrip.trans (if_pos h)),
    fun hl hp hd => frees (releaseTrip_eq.trans (if_neg ?_)), fun h => frees (releaseTrip_eq.trans (if_pos h)),
    fun h => looks ((review_eq ..).trans (if_pos h)), fun h => looks ((review_eq ..).trans (if_neg h))⟩
  · rw [forEach_map]
  · exact not_or_intro (ne_false_of_eq_true hl) (not_or_intro (ne_true_of_eq_false hp) (Nat.not_lt.mpr hd))

/-! ## Power of the AON domain and PWR_EN (R401, R442, R576, R582, R583) -/

section
variable {w : Work}

/-- AON power is on with what the supervisor has sampled (R582). -/
def aonSupplied (volts : Nat) (aon : Bool) (now : Nat) (x : Work) : Work :=
  modPower (fun q => { q with aon := true, retained := false, pwrGood := true, inputV := volts })
    (if aon then x else modLight (fun l => { l with aonSince := now }) x)

theorem aonPowered_eq :
    aonPowered w =
      if w.hw.power.pwrEn = false ∨ (w.hw.power.aon = true ∧ w.hw.power.retained = false) then w
      else if 4800 < w.hw.power.inputV then aonSupplied w.hw.power.inputV w.hw.power.aon w.hw.time.now w
      else aonSupplied (4801 + freeOf w % (2 ^ 16 - 4801)) w.hw.power.aon w.hw.time.now (freeUsed w) := by
  rw [aonPowered]
  refine if_congr (by rw [Bool.or_eq_true, Bool.and_eq_true, Bool.not_eq_true', Bool.not_eq_true']) rfl ?_
  split
  · rfl
  · rfl

/-- A deassertion of PWR_EN has counted (R582). -/
def pwrEnOff (w : Work) : Work := modPower (fun q => { q with pwrEn := false, pwrEnAt := w.hw.time.now - 20000000 }) w

/-- The module's power is to be cut once its flush has ended (R583). -/
def cutPlanned (w : Work) : Work := modMoves (fun m => if m.contains .cut then m else m ++ [.cut]) (forceLowest 6 (pwrEnOff w))

/-- The first row of R583 holds: nothing is flushed. -/
def safeRow (hw : Hw) : Bool :=
  isSafe hw || hw.power.tripCupola || (hw.keep.failed && !hw.keep.drained && hw.lantern.powerState != 4)

theorem pwrEnLow_eq :
    pwrEnLow w =
      if w.hw.power.pwrEn = false then w
      else if w.hw.power.aon = false ∨ w.hw.power.retained = true then pwrEnOff w
      else if safeRow w.hw = true then retainTier2 (pwrEnOff w)
      else if pagerLive w.hw = false then cutPower (drainAll (pwrEnOff w))
      else if warningFlush (cutPlanned w).hw = true then cutPlanned w
      else startFlush .warning none none (cutPlanned w) :=
  if_congr (by rw [Bool.not_eq_true']) rfl (if_congr (by rw [Bool.or_eq_true, Bool.not_eq_true']) rfl
    (if_congr .rfl rfl (if_congr (by rw [Bool.not_eq_true']; rfl) rfl rfl)))

theorem lanternReadyNow_eq :
    lanternReadyNow w =
      if w.hw.power.aon = false ∨ w.hw.power.retained = true ∨ w.hw.lantern.up = true then w
      else publishBelfry (modLantern (fun l => { l with up := true, bypassOpen := true, aloneSince := w.hw.time.now }) w) :=
  if_congr (by rw [Bool.or_eq_true, Bool.or_eq_true, Bool.not_eq_true', or_assoc]) rfl rfl

/-! ## Coolant and the compute domains (R407, R408, R457, R458) -/

/-- The moment at which low flow or a hot inlet begins an orderly halt (R457). -/
def haltLimit (hw : Hw) : Option Nat :=
  least ((hw.lantern.lowFlowSince.toList ++ hw.lantern.hotInletSince.toList).map (fun t => t + 1000000000))

/-- An orderly halt may begin. -/
abbrev mayHalt (hw : Hw) : Prop := lanternRuns hw = true ∧ haltRuns hw = false ∧ hw.lantern.powerState < 3

/-- The requests are released for a halt that begins at a moment. -/
def haltBegun (t : Nat) (w : Work) : Work := modPower (fun q => { q with coolantMode := 2 }) (releaseAll (advance w t))

theorem beginHalt_some {t : Nat} (h : haltLimit w.hw = some t) :
    beginHalt w =
      if mayHalt w.hw ∧ t ≤ horizon w.hw then
        logPower 19 2 0 0 (raise 27 0 0 0 0 (bump 7 20 1 (sendAlert 6
          (modMoves (fun m => m ++ [.accepted false true (haltBegun t w).hw.time.now none]) (haltBegun t w)))))
      else w := by
  rw [haltLimit] at h
  simp only [beginHalt, h]
  refine (if_congr ?_ rfl rfl).trans (ite_not ..)
  simp only [Bool.or_eq_true, Bool.not_eq_true', decide_eq_true_iff, due, decide_eq_false_iff_not, Nat.not_le, not_and_or, Bool.not_eq_true,
    Bool.not_eq_false, Nat.not_lt, or_assoc]

theorem beginHalt_idle (h : ¬mayHalt w.hw ∨ ∀ t, haltLimit w.hw = some t → horizon w.hw < t) : beginHalt w = w := by
  cases hl : haltLimit w.hw with
  | none =>
    rw [haltLimit] at hl
    simp only [beginHalt, hl]
  | some t => exact (beginHalt_some hl).trans (if_neg fun hn => h.elim (fun h => h hn.1) fun h => Nat.not_lt.mpr hn.2 (h t hl))

/-- A sudden coolant loss may act (R458). -/
abbrev mayLose (hw : Hw) : Prop := lanternRuns hw = true ∧ hw.power.coolantMode ≠ 3 ∧ hw.lantern.powerState < 3 ∧ lossDue hw = true

/-- A sudden coolant loss has been announced, and a halt in progress is given up (R458). -/
def coolantLost (w : Work) : Work :=
  (raise 28 0 0 0 0 (bump 7 20 1 (sendAlert 3 (forceLowest 4 (modPower (fun q => { q with
    coolantMode := 3
    moves := q.moves.filter (fun m => m == .cut) }) (releaseAll w)))))).up
    fun h => { h with pager := { h.pager with flushes := h.pager.flushes.filter (fun f => f.kind != .halt) } }

theorem coolantLoss_eq :
    coolantLoss w =
      if mayLose w.hw then
        if pagerLive (coolantLost w).hw = true then startFlush .emergency none none (coolantLost w)
        else modMoves (fun m => m ++ [.removal false true (coolantLost w).hw.time.now]) (releaseEvery (abortEvery (coolantLost w)))
      else w := by
  refine (if_congr ?_ rfl rfl).trans (ite_not ..)
  simp only [Bool.or_eq_true, Bool.not_eq_true', decide_eq_true_iff, not_and_or, Bool.not_eq_true, Nat.not_lt, or_assoc, ne_eq, not_not]

/-- A removal of the domains whose moment lies in the present window. -/
def removalDue (hw : Hw) (m : PowerMove) : Bool := match m with | .removal _ _ t => due hw t | _ => false

theorem removeDomains_some {m : PowerMove} (h : w.hw.power.moves.find? (removalDue w.hw) = some m) : removeDomains w = removeAt m w := by
  rw [show removeDomains w = (match w.hw.power.moves.find? (removalDue w.hw) with | some m => removeAt m w | none => w) from rfl, h]

theorem removeDomains_none (h : w.hw.power.moves.find? (removalDue w.hw) = none) : removeDomains w = w := by
  rw [show removeDomains w = (match w.hw.power.moves.find? (removalDue w.hw) with | some m => removeAt m w | none => w) from rfl, h]

theorem removeAt_removal (dark halt : Bool) (t : Nat) :
    removeAt (.removal dark halt t) w = if dark then enterDark (advance w t) else enterStandby halt (advance w t) := rfl

theorem resumeStandby_idle {failure : Option (Nat × Nat)} (h : w.hw.power.waking = false ∨ w.hw.lantern.powerState ≠ 3) :
    resumeStandby failure w = w :=
  if_pos (by rw [Bool.or_eq_true, Bool.not_eq_true', decide_eq_true_iff]; exact h)

/-- The module has left STANDBY (R408). -/
def woken (w : Work) : Work :=
  modLantern (fun l => { l with powerState := 2, standbyOffered := false })
    (modPower (fun q => { q with waking := false, haltedWake := false, coolantMode := 0, selfRefresh := false }) w)

theorem resumeStandby_wakes {failure : Option (Nat × Nat)} (hk : w.hw.power.waking = true) (hs : w.hw.lantern.powerState = 3) :
    resumeStandby failure w = match failure with
      | some (cause, detail) => failStart cause detail (woken w)
      | none => publishModule ((powerSpires (modKeep (fun k => { k with lpUp := true })
          (modLantern (fun l => { l with lowest := l.lowest.filter (fun c => c != 4) }) (woken w)))).zero 0 tier2Base) :=
  if_neg (by rw [Bool.or_eq_true, Bool.not_eq_true', decide_eq_true_iff]; exact not_or_intro (ne_false_of_eq_true hk) (not_not_intro hs))

end

/-- Settles O42, an event at a time: power comes, goes in one of two ways, and returns. -/
theorem powerSequence : Obligations.PowerSequence := by
  unfold Obligations.PowerSequence
  intro s cause detail failure
  rw [show lanternRuns s.hw = lanternRuns (beginWork s).hw from rfl, show s.hw.power = (beginWork s).hw.power from rfl,
    show horizon s.hw = horizon (beginWork s).hw from rfl, show s.hw.time = (beginWork s).hw.time from rfl,
    show s.hw.lantern = (beginWork s).hw.lantern from rfl, show s.hw.keep = (beginWork s).hw.keep from rfl,
    show isSafe s.hw = isSafe (beginWork s).hw from rfl, show haltRuns s.hw = haltRuns (beginWork s).hw from rfl,
    show lossDue s.hw = lossDue (beginWork s).hw from rfl, show pagerLive s.hw = pagerLive (beginWork s).hw from rfl]
  intro w p l off safeRow' cut supplied limit mayHalt' mayLose' lossy unhalted removalDue' woken'
  have highs {v : Work} (hv : pwrEnHigh w = v) : AnswersWith .pwrEnAssert s v := answersWith_run _ s _ _ (exec_pwrEnAssert ..) hv
  have lows {v : Work} (hv : pwrEnLow w = v) : AnswersWith .pwrEnDeassert s v := answersWith_run _ s _ _ (exec_pwrEnDeassert ..) hv
  have powers {v : Work} (hv : aonPowered w = v) : AnswersWith .aonPowerOn s v := answersWith_run _ s _ _ (exec_aonPowerOn ..) hv
  have readies {v : Work} (hv : lanternReadyNow w = v) : AnswersWith .lanternReady s v := answersWith_run _ s _ _ (exec_lanternReady ..) hv
  have halts {v : Work} (hv : beginHalt w = v) : AnswersWith .orderlyHalt s v := answersWith_run _ s _ _ (exec_orderlyHalt ..) hv
  have losses {v : Work} (hv : coolantLoss w = v) : AnswersWith .suddenCoolantLoss s v := answersWith_run _ s _ _ (exec_suddenCoolantLoss ..) hv
  have removes {v : Work} (hv : removeDomains w = v) : AnswersWith .domainRemoval s v := answersWith_run _ s _ _ (exec_domainRemoval ..) hv
  have resumes {f : Option (Byte × W32)} {v : Work} (hv : resumeStandby (f.map (fun f => (f.1.toNat, f.2.toNat % 256))) w = v) :
      AnswersWith (.standbyResume f) s v := answersWith_run _ s _ _ (exec_standbyResume ..) hv
  refine ⟨fun he => ⟨highs (if_neg (ne_true_of_eq_false he)), lows (pwrEnLow_eq.trans (if_pos he)), powers (aonPowered_eq.trans (if_pos (.inl he)))⟩,
    fun he => ⟨highs (if_pos he), fun h => ?_, fun ha hr => ?_⟩, fun ha hr hu => readies (lanternReadyNow_eq.trans (if_neg ?_)),
    fun h => readies (lanternReadyNow_eq.trans (if_pos h)), fun t hl hm hd => halts ((beginHalt_some hl).trans (if_pos ⟨hm, hd⟩)),
    fun h => halts (beginHalt_idle h), fun hm => ⟨fun hp => losses (coolantLoss_eq.trans ((if_pos hm).trans (if_pos hp))),
      fun hp => losses (coolantLoss_eq.trans ((if_pos hm).trans (if_neg (ne_true_of_eq_false hp))))⟩,
    fun hm => losses (coolantLoss_eq.trans (if_neg hm)), fun dark halt t hf => ⟨fun hd => removes ?_, fun hd => removes ?_⟩,
    fun hf => removes (removeDomains_none hf), fun hk hs => ⟨resumes (resumeStandby_wakes hk hs), resumes (resumeStandby_wakes hk hs)⟩,
    fun h => resumes (resumeStandby_idle h)⟩
  · have hact : ¬(w.hw.power.pwrEn = false ∨ (w.hw.power.aon = true ∧ w.hw.power.retained = false)) := by
      refine not_or_intro (ne_false_of_eq_true he) ?_
      rintro ⟨ha, hr⟩
      exact h.elim (fun h => Bool.false_ne_true (h.symm.trans ha)) fun h => Bool.false_ne_true (hr.symm.trans h)
    exact ⟨lows (pwrEnLow_eq.trans ((if_neg (ne_false_of_eq_true he)).trans (if_pos h))),
      fun hv => powers (aonPowered_eq.trans ((if_neg hact).trans (if_pos hv))),
      fun hv => powers (aonPowered_eq.trans ((if_neg hact).trans (if_neg (Nat.not_lt.mpr hv))))⟩
  · have hlow := pwrEnLow_eq.trans ((if_neg (ne_false_of_eq_true he)).trans
      (if_neg (not_or_intro (ne_false_of_eq_true ha) (ne_true_of_eq_false hr))))
    exact ⟨powers (aonPowered_eq.trans (if_pos (.inr ⟨ha, hr⟩))), fun hs => lows (hlow.trans (if_pos hs)),
      fun hs hp => lows (hlow.trans ((if_neg (ne_true_of_eq_false hs)).trans (if_pos hp))),
      fun hs hp hf => lows (hlow.trans ((if_neg (ne_true_of_eq_false hs)).trans
        ((if_neg (ne_false_of_eq_true hp)).trans (if_neg (ne_true_of_eq_false hf))))),
      fun hs hp hf => lows (hlow.trans ((if_neg (ne_true_of_eq_false hs)).trans ((if_neg (ne_false_of_eq_true hp)).trans (if_pos hf))))⟩
  · exact not_or_intro (ne_false_of_eq_true ha) (not_or_intro (ne_true_of_eq_false hr) (ne_true_of_eq_false hu))
  · exact (removeDomains_some (w := w) hf).trans ((removeAt_removal ..).trans (if_pos hd))
  · exact (removeDomains_some (w := w) hf).trans ((removeAt_removal ..).trans (if_neg (ne_true_of_eq_false hd)))

end Sys2Proof.Machine
end

section
/-! PROOFS. Keep's checks, registers and scrubbing; the return of domains, the start limit and bundle writes (R10, R366 to R399, R470 to R497). -/
namespace Sys2Proof.Machine

open Sys2Proof

/-! ## Checks (R369, R370, R475, R483) -/

section
variable {w : Work}

/-- AON is powered and out of reset. -/
abbrev keepOn (hw : Hw) : Prop := hw.power.aon = true ∧ hw.power.retained = false

theorem turretSilent_eq :
    turretSilent w =
      if w.hw.keep.turretUp = true ∧ w.hw.power.cupola = true ∧ w.hw.fault.safe ≠ some 1 then raise 2 8 0 0 0 w else w :=
  if_congr (by rw [Bool.and_eq_true, Bool.and_eq_true, bne_iff_ne, and_assoc]) rfl rfl

theorem checkFails_eq (source : Nat) : checkFails source w = if keepOn w.hw then raise source 8 0 0 0 w else w :=
  if_congr (by rw [Bool.and_eq_true, Bool.not_eq_true']) rfl rfl

theorem parityError_eq (kind unit : Nat) :
    parityError kind unit w = if parityUnit kind unit = true ∧ keepOn w.hw then raise 15 kind unit 0 0 w else w :=
  if_congr (by rw [Bool.and_eq_true, Bool.and_eq_true, Bool.not_eq_true', and_assoc]) rfl rfl

/-! ## Register writes (R10, R366) -/

variable {master : Master} {reg : Reg} {v : Nat}

theorem writeRegister_off (h : w.hw.power.aon = false) : writeRegister master reg v w = w := if_pos (by rw [h]; rfl)

section
variable (ha : w.hw.power.aon = true)
include ha

theorem writeRegister_open (hr : isKeepLocked reg = false) : writeRegister master reg v w = writeOpen reg v w :=
  (if_neg (by rw [ha]; exact Bool.false_ne_true)).trans (if_pos (by rw [hr]; rfl))

variable (hr : isKeepLocked reg = true)
include hr

theorem writeRegister_byKeep : writeRegister .keep reg v w = writeLocked reg v w :=
  (if_neg (by rw [ha]; exact Bool.false_ne_true)).trans ((if_neg (by rw [hr]; exact Bool.false_ne_true)).trans (if_pos rfl))

theorem writeRegister_permitted (hm : master ≠ .keep) (hp : readPermitted master reg = true) : writeRegister master reg v w = w :=
  (if_neg (by rw [ha]; exact Bool.false_ne_true)).trans
    ((if_neg (by rw [hr]; exact Bool.false_ne_true)).trans ((if_neg hm).trans (if_pos hp)))

theorem writeRegister_barred (hm : master ≠ .keep) (hp : readPermitted master reg = false) : writeRegister master reg v w = raise 3 8 0 0 0 w :=
  (if_neg (by rw [ha]; exact Bool.false_ne_true)).trans
    ((if_neg (by rw [hr]; exact Bool.false_ne_true)).trans ((if_neg hm).trans (if_neg (ne_true_of_eq_false hp))))

end

theorem writeOpen_context {ctx : BitVec 12} {core : Nat} {p : Plan} (h : contextHolder w.hw ctx.toNat = some (p, core)) :
    writeOpen (.ctxStatus ctx) v w = modCore core (fun y => { y with aborted := y.aborted && !bit v 14, faulted := y.faulted && !bit v 15 }) w := by
  simp only [writeOpen, h]

theorem writeOpen_noContext {ctx : BitVec 12} (h : contextHolder w.hw ctx.toNat = none) : writeOpen (.ctxStatus ctx) v w = w := by
  simp only [writeOpen, h]

theorem writeLocked_tickConfig :
    writeLocked .tickConfig v w =
      if 16 ≤ bits v 22 16 ∧ bits v 22 16 ≤ 64 ∧ floorConflict w.hw (bits v 22 16) = none then
        w.up fun h => { h with time := { h.time with floorNext := some (bits v 22 16) } }
      else w :=
  if_congr (by rw [inRange, Bool.and_eq_true, Bool.and_eq_true, decide_eq_true_iff, decide_eq_true_iff, Option.isNone_iff_eq_none, and_assoc])
    rfl rfl

theorem readPermitted_item {item : KeepItem}
    (h : item ∈ [KeepItem.fuses, .limitTables, .leases] ∨ (item = .imageStore ∧ master = .turret)) :
    readPermitted master (.keepOnly item true) = true := by
  simp only [List.mem_cons, List.not_mem_nil, or_false] at h
  obtain (rfl | rfl | rfl) | ⟨rfl, rfl⟩ := h
  · rfl
  · rfl
  · rfl
  · rfl

theorem readPermitted_barred {item : KeepItem} {read : Bool}
    (h : read = false ∨ item ∈ [KeepItem.identity, .romAndSram, .keyTable, .topologyRecord] ∨ (item = .imageStore ∧ master ≠ .turret)) :
    readPermitted master (.keepOnly item read) = false := by
  simp only [List.mem_cons, List.not_mem_nil, or_false] at h
  obtain rfl | (rfl | rfl | rfl | rfl) | ⟨rfl, hm⟩ := h
  · rfl
  · exact Bool.and_false read
  · exact Bool.and_false read
  · exact Bool.and_false read
  · exact Bool.and_false read
  · exact (congrArg (read && ·) (beq_false_of_ne hm)).trans (Bool.and_false read)

/-! ## Scrubbing (R470, R471) -/

variable {a : Nat} {outcome : ScrubOutcome}

theorem scrubRead_barred (h : ¬(inTiers a 1 = true ∧ scrubbed w.hw (memUnit a) = true)) : scrubRead a outcome w = w := by
  refine if_pos ?_
  rw [Bool.or_eq_true, Bool.not_eq_true', Bool.not_eq_true', ← Bool.not_eq_true, ← Bool.not_eq_true, ← not_and_or]
  exact h

theorem scrubRead_meets (h : inTiers a 1 = true ∧ scrubbed w.hw (memUnit a) = true) :
    scrubRead a outcome w = match outcome with
      | .clean => w
      | .corrected => scrubCorrects a w
      | .uncorrectable => scrubFails a w
      | .passEnd => bump 8 (144 + memUnit a) 1 w := by
  refine if_neg ?_
  rw [h.1, h.2]
  exact Bool.false_ne_true

/-- A corrected error has been noted, and its pass over the row (R471). -/
def scrubNoted (a : Nat) (w : Work) : Work :=
  (noteCorrected (memUnit a) a w).up fun h => { h with fault := { h.fault with
    scrubHits := h.fault.scrubHits.filter (fun x => w.hw.time.now < x.2.2 + 259200000000000)
      ++ [(a / 32 * 32, w.hw.keep.bootCount * 2 ^ 32 + ctrOf w.hw 8 (144 + memUnit a), w.hw.time.now)] } }

theorem scrubCorrects_eq :
    scrubCorrects a w =
      if 3 ≤ (rowPasses (scrubNoted a w).hw.fault (a / 32 * 32)).length then
        retireRow a ((scrubNoted a w).up fun h => { h with fault := { h.fault with
          scrubHits := h.fault.scrubHits.filter (fun x => x.1 != a / 32 * 32) } })
      else scrubNoted a w := rfl

end

/-- Settles O43: the checks, then a register at a time by its field kinds, then the outcomes of a scrub read. -/
theorem keepChecks : Obligations.KeepChecks := by
  unfold Obligations.KeepChecks
  refine ⟨?_, ?_, ?_⟩
  · intro s kind unit w k on watched
    have watches {v : Work} (hv : turretSilent w = v) : AnswersWith .turretWatchdog s v := answersWith_run _ s _ _ (exec_turretWatchdog s) hv
    have steps {v : Work} (hv : checkFails 1 w = v) : AnswersWith .keepLockstep s v := answersWith_run _ s _ _ (exec_keepLockstep s) hv
    have collects {v : Work} (hv : checkFails 0 w = v) : AnswersWith .collectorCheck s v := answersWith_run _ s _ _ (exec_collectorCheck s) hv
    have parities {v : Work} (hv : parityError kind.toNat unit.toNat w = v) : AnswersWith (.registerParity kind unit) s v :=
      answersWith_run _ s _ _ (exec_registerParity ..) hv
    refine ⟨fun h => watches (turretSilent_eq.trans (if_pos h)), fun h => watches (turretSilent_eq.trans (if_neg h)),
      fun h => ⟨steps ((checkFails_eq 1).trans (if_pos h)), collects ((checkFails_eq 0).trans (if_pos h))⟩,
      fun h => ⟨steps ((checkFails_eq 1).trans (if_neg h)), collects ((checkFails_eq 0).trans (if_neg h))⟩,
      fun h hp => parities ((parityError_eq ..).trans (if_pos ⟨hp, h⟩)), fun h => parities ((parityError_eq ..).trans (if_neg ?_))⟩
    rintro ⟨hp, hon⟩
    exact h.elim (fun h => h hon) fun h => Bool.false_ne_true (h.symm.trans hp)
  · intro s master value p ctx source part item read w v written floor
    have writes {r : Reg} {x : Work} (hx : writeRegister master r v w = x) : written r x := answersWith_run _ s _ _ (exec_registerWrite ..) hx
    refine ⟨fun ha r => writes (writeRegister_off ha), fun ha => ⟨fun r hr => ?_, writes (writeRegister_open ha rfl), writes (writeRegister_open ha rfl),
      fun h => writes ((writeRegister_open ha rfl).trans (writeOpen_noContext h)),
      fun x core h => writes ((writeRegister_open ha rfl).trans (writeOpen_context h)),
      writes (writeRegister_open ha rfl), writes (writeRegister_open ha rfl), writes (writeRegister_open ha rfl), fun hm => ?_, fun hm => ?_⟩⟩
    · simp only [List.mem_cons, List.not_mem_nil, or_false] at hr
      obtain rfl | rfl | rfl | rfl | rfl | rfl | rfl | rfl | rfl | rfl | rfl | rfl := hr
      · exact writes (writeRegister_open ha rfl)
      · exact writes (writeRegister_open ha rfl)
      · exact writes (writeRegister_open ha rfl)
      · exact writes (writeRegister_open ha rfl)
      · exact writes (writeRegister_open ha rfl)
      · exact writes (writeRegister_open ha rfl)
      · exact writes (writeRegister_open ha rfl)
      · exact writes (writeRegister_open ha rfl)
      · exact writes (writeRegister_open ha rfl)
      · exact writes (writeRegister_open ha rfl)
      · exact writes (writeRegister_open ha rfl)
      · exact writes (writeRegister_open ha rfl)
    · subst hm
      refine ⟨fun h16 h64 hf => writes ((writeRegister_byKeep ha rfl).trans (writeLocked_tickConfig.trans (if_pos ⟨h16, h64, hf⟩))),
        fun h => writes ((writeRegister_byKeep ha rfl).trans (writeLocked_tickConfig.trans (if_neg ?_))),
        writes (writeRegister_byKeep ha rfl), writes (writeRegister_byKeep ha rfl), writes (writeRegister_byKeep ha rfl)⟩
      rintro ⟨h16, h64, hf⟩
      rcases h with h | h | h
      · exact Nat.not_lt.mpr h16 h
      · exact Nat.not_lt.mpr h64 h
      · exact h hf
    · refine ⟨fun r hr => ?_, fun hread hi => ?_, fun h => writes (writeRegister_barred ha rfl hm (readPermitted_barred h))⟩
      · simp only [List.mem_cons, List.not_mem_nil, or_false] at hr
        obtain rfl | rfl | rfl := hr
        · exact writes (writeRegister_barred ha rfl hm rfl)
        · exact writes (writeRegister_barred ha rfl hm rfl)
        · exact writes (writeRegister_barred ha rfl hm rfl)
      · rw [hread]
        exact writes (writeRegister_permitted ha rfl hm (readPermitted_item hi))
  · intro s a outcome w addr u row now read hit corrected
    have scrubs {o : ScrubOutcome} {v : Work} (hv : scrubRead addr o w = v) : AnswersWith (.scrub a o) s v :=
      answersWith_run _ s _ _ (exec_scrub ..) hv
    exact ⟨fun h => scrubs (scrubRead_barred h), fun h => ⟨scrubs (scrubRead_meets h), scrubs (scrubRead_meets h), scrubs (scrubRead_meets h),
      fun hn => scrubs ((scrubRead_meets h).trans (scrubCorrects_eq.trans (if_neg (Nat.not_le.mpr hn)))),
      fun hn => scrubs ((scrubRead_meets h).trans (scrubCorrects_eq.trans (if_pos hn)))⟩⟩

/-! ## Domains, the start limit and bundle writes (R378, R398, R493 to R497) -/

section
variable {w : Work} {kind unit : Nat}

theorem domainBack_none {ok : Bool} (h : resetOf w.hw kind unit = none) : domainBack kind unit ok w = w := by
  simp only [domainBack, h]

theorem domainMisses_none (h : resetOf w.hw kind unit = none) : domainMisses kind unit w = w := by
  simp only [domainMisses, h]

section
variable {r : DomainReset} (h : resetOf w.hw kind unit = some r)
include h

theorem domainBack_some (ok : Bool) :
    domainBack kind unit ok w =
      if ok = false ∨ w.hw.power.warning = true ∨ r.deadline < w.hw.time.now then w else returnDomain kind unit w := by
  simp only [domainBack, h]
  exact if_congr (by rw [Bool.or_eq_true, Bool.or_eq_true, Bool.not_eq_true', decide_eq_true_iff, or_assoc]) rfl rfl

theorem domainMisses_some :
    domainMisses kind unit w =
      if w.hw.power.warning = true ∨ horizon w.hw < r.deadline then w
      else raise 7 (resetUnit w.hw kind unit).1 (resetUnit w.hw kind unit).2 0 0 (bump 9 7 1 (advance w r.deadline)) := by
  simp only [domainMisses, h]
  exact if_congr (by rw [Bool.or_eq_true, Bool.not_eq_true', due, decide_eq_false_iff_not, Nat.not_le]) rfl rfl

end

theorem meetStartLimit_some {limit t : Nat} (hl : startLimitOf w.hw.keep.startType = some limit) (ht : w.hw.keep.startAt = some t) :
    meetStartLimit w =
      if starting w.hw.keep = true ∧ w.hw.keep.excludeFrom = none ∧ t + limit + w.hw.keep.excluded ≤ horizon w.hw then
        failStart 10 w.hw.keep.phase (advance w (t + limit + w.hw.keep.excluded))
      else w := by
  simp only [meetStartLimit, hl, ht]
  exact if_congr (by rw [Bool.and_eq_true, Bool.and_eq_true, Option.isNone_iff_eq_none, due, decide_eq_true_iff, and_assoc]) rfl rfl

theorem meetStartLimit_none (h : startLimitOf w.hw.keep.startType = none ∨ w.hw.keep.startAt = none) : meetStartLimit w = w := by
  unfold meetStartLimit
  rcases h with h | h
  · simp only [h]
  · simp only [h]
    split
    · contradiction
    · rfl

theorem bundleWritten_none {ok : Bool} (h : w.hw.keep.imageWrite = none) : bundleWritten ok w = w := by
  simp only [bundleWritten, h]

theorem bundleWritten_again {x : ImageWrite} (h : w.hw.keep.imageWrite = some x) : bundleWritten false w = w := by
  simp only [bundleWritten, h, Bool.not_false, if_true]

theorem bundleWritten_right {x : ImageWrite} (h : w.hw.keep.imageWrite = some x) :
    bundleWritten true w =
      if x.activate then
        commandedReset (answerLater x.channel x.slot stDone [] (modKeep (fun k => { k with bundle := some x.bundle, imageWrite := none }) w))
      else answerLater x.channel x.slot stDone [] (modKeep (fun k => { k with bundle := some x.bundle, imageWrite := none }) w) := by
  simp only [bundleWritten, h, Bool.not_true, Bool.false_eq_true, if_false]

end

/-- Settles O44, an event at a time: each waits for its moment or its own check. -/
theorem domainsAndLimits : Obligations.DomainsAndLimits := by
  unfold Obligations.DomainsAndLimits
  intro s kind unit ok
  rw [show s.hw.power = (beginWork s).hw.power from rfl, show horizon s.hw = horizon (beginWork s).hw from rfl,
    show s.hw.time = (beginWork s).hw.time from rfl, show s.hw.keep = (beginWork s).hw.keep from rfl,
    show resetOf s.hw kind.toNat unit.toNat = resetOf (beginWork s).hw kind.toNat unit.toNat from rfl]
  intro w k x
  have backs {b : Bool} {v : Work} (hv : domainBack kind.toNat unit.toNat b w = v) : AnswersWith (.domainReturn kind unit b) s v :=
    answersWith_run _ s _ _ (exec_domainReturn ..) hv
  have misses {v : Work} (hv : domainMisses kind.toNat unit.toNat w = v) : AnswersWith (.domainDeadline kind unit) s v :=
    answersWith_run _ s _ _ (exec_domainDeadline ..) hv
  have limits {v : Work} (hv : meetStartLimit w = v) : AnswersWith .startLimit s v := answersWith_run _ s _ _ (exec_startLimit s) hv
  have stores {b : Bool} {v : Work} (hv : bundleWritten b w = v) : AnswersWith (.bundleWriteDone b) s v :=
    answersWith_run _ s _ _ (exec_bundleWriteDone ..) hv
  refine ⟨fun r hr => ⟨fun hw hd => backs ((domainBack_some hr true).trans (if_neg ?_)), fun h => backs ((domainBack_some hr ok).trans (if_pos h)),
      fun hw hd => misses ((domainMisses_some hr).trans (if_neg (not_or_intro (ne_true_of_eq_false hw) (Nat.not_lt.mpr hd)))),
      fun h => misses ((domainMisses_some hr).trans (if_pos h))⟩,
    fun h => ⟨backs (domainBack_none h), misses (domainMisses_none h)⟩,
    fun limit t hl ht => ⟨fun hs he hd => limits ((meetStartLimit_some hl ht).trans (if_pos ⟨hs, he, hd⟩)),
      fun h => limits ((meetStartLimit_some hl ht).trans (if_neg ?_))⟩,
    fun h => limits (meetStartLimit_none h), rfl, rfl, rfl, rfl,
    fun y hy => ⟨fun h => stores ((bundleWritten_right hy).trans (if_neg (ne_true_of_eq_false h))),
      fun h => stores ((bundleWritten_right hy).trans (if_pos h)), stores (bundleWritten_again hy)⟩,
    fun h => stores (bundleWritten_none h)⟩
  · rintro (h | h | h)
    · exact Bool.false_ne_true h.symm
    · exact Bool.false_ne_true (hw.symm.trans h)
    · exact Nat.not_lt.mpr hd h
  · rintro ⟨hs, he, hd⟩
    rcases h with h | h | h
    · exact Bool.false_ne_true (h.symm.trans hs)
    · exact h he
    · exact Nat.not_lt.mpr hd h

end Sys2Proof.Machine
end

section
/-! PROOFS. The phases of a start of the module (R33, R373 to R399, R431, R471). -/
namespace Sys2Proof.Machine

open Sys2Proof

/-! ## Keep begins a start (R386 to R388) -/

/-- Keep has counted the boot and chosen the start type (R376, R387, R392). -/
def startCounted (crcBad : Nat) (w : Work) : Work :=
  modKeep (fun k => { k with
    bootCount := k.bootCount + 1
    railsRemoved := false
    prevFailed := false
    startAt := some w.hw.time.now
    heldMs := none
    failed := false
    ready := false
    cause := 0
    detail := 0
    phase := 1
    startType := startType (modKeep (fun k => { k with
      running := k.bundle
      trained := k.trained.filter (fun e => !bit crcBad (staleBit e.1)) }) w).hw })
    (modKeep (fun k => { k with running := k.bundle, trained := k.trained.filter (fun e => !bit crcBad (staleBit e.1)) }) w)

/-- The ports know their spare lanes (R386). -/
def sparesNamed (w : Work) : Work :=
  forEach (List.range 6) (fun p v => modPort p (fun q => { q with
    rxSpare := (v.hw.keep.spares[2 * p]?).getD 31
    txSpare := (v.hw.keep.spares[2 * p + 1]?).getD 31 }) v) w

/-- `LANTERN_EPOCH` has advanced, and the ports know their spare lanes (R386, R431). -/
def startBegun (crcBad : Nat) (w : Work) : Work :=
  publishModule (sparesNamed (modLantern (fun l => { l with
      powerState := 2
      epoch := (l.epochSaved + 4096) % 2 ^ 32
      epochSaved := (l.epochSaved + 4096) % 2 ^ 32 })
    (modPower (fun p => { p with resetSeen := p.resetDue, resetDue := false, pwrGood := true, tripCupola := false, flashOn := true })
    (startCounted crcBad w))))

/-- The module has power for a start, and a reset by the supply is noted (R444). -/
def startPowered (crcBad : Nat) (w : Work) : Work :=
  modPower (fun p => { p with resetSeen := p.resetDue, resetDue := false, pwrGood := true, tripCupola := false, flashOn := true })
    (startCounted crcBad w)

theorem startPowered_lantern (crcBad : Nat) (w : Work) : (startPowered crcBad w).hw.lantern = w.hw.lantern := rfl

theorem modLantern_congr {f g : LanternSt → LanternSt} {w : Work} (h : f w.hw.lantern = g w.hw.lantern) : modLantern f w = modLantern g w :=
  congrArg (fun l => w.up fun h => { h with lantern := l }) h

theorem startBegun_eq (crcBad : Nat) (w : Work) {e : Nat} (he : e = (w.hw.lantern.epochSaved + 4096) % 2 ^ 32) :
    startBegun crcBad w = publishModule (sparesNamed (modLantern (fun l => { l with powerState := 2, epoch := e, epochSaved := e })
      (startPowered crcBad w))) := by
  rw [he]
  refine congrArg (fun v => publishModule (sparesNamed v)) (modLantern_congr ?_)
  rw [show (modPower _ (startCounted crcBad w)).hw.lantern = w.hw.lantern from startPowered_lantern crcBad w]

theorem publishUnit_keep (unit state cause : Nat) (w : Work) : (publishUnit unit state cause w).hw.keep = w.hw.keep := by
  rw [publishUnit]
  split
  · rfl
  · rfl

theorem publishModule_keep (w : Work) : (publishModule w).hw.keep = w.hw.keep := publishUnit_keep ..

theorem forEach_keep {α : Type} {f : α → Work → Work} (hf : ∀ a v, (f a v).hw.keep = v.hw.keep) (l : List α) (w : Work) :
    (forEach l f w).hw.keep = w.hw.keep := by
  induction l generalizing w with
  | nil => rfl
  | cons a l ih =>
    rw [forEach_cons, ih]
    exact hf a w

theorem sparesNamed_keep (w : Work) : (sparesNamed w).hw.keep = w.hw.keep := by
  rw [sparesNamed]
  apply forEach_keep
  intro p v
  rfl

theorem bundleFits_startBegun (crcBad : Nat) (w : Work) : bundleFits (startBegun crcBad w).hw.keep = bundleFits w.hw.keep := by
  rw [startBegun, publishModule_keep, sparesNamed_keep]
  rfl

section
variable {romOk fuseOk storeOk : Bool} {crcBad : Nat} {w : Work}

theorem beginStart_eq :
    beginStart romOk fuseOk storeOk crcBad w =
      if mayStartModule w.hw = false then w
      else if romOk = false then failStart 1 0 (startBegun crcBad w)
      else if fuseOk = false then failStart 2 0 (startBegun crcBad w)
      else if storeOk = false ∨ bundleFits w.hw.keep = false then enterRecovery (startBegun crcBad w)
      else modKeep (fun k => { k with phase := 3, bootPath := 0 }) (startBegun crcBad w) := by
  rw [← bundleFits_startBegun crcBad w]
  exact if_congr (by rw [Bool.not_eq_true']) rfl (if_congr (by rw [Bool.not_eq_true']) rfl (if_congr (by rw [Bool.not_eq_true']) rfl
    (if_congr (by rw [Bool.or_eq_true, Bool.not_eq_true', Bool.not_eq_true']; rfl) rfl rfl)))

end

/-! ## Cupola, Turret and LPDDR6; the Spires and stacks (R388, R394) -/

section
variable {w : Work}

theorem runCupola_idle {lp map : Option Nat} {hashOk : Bool} {retrained : Nat} (h : w.hw.keep.phase ≠ 3 ∨ w.hw.keep.turretUp = true) :
    runCupola lp hashOk map retrained w = w := if_pos h

section
variable (hp : w.hw.keep.phase = 3) (ht : w.hw.keep.turretUp = false)
include hp ht

theorem runCupola_runs (lp map : Option Nat) (hashOk : Bool) (retrained : Nat) :
    runCupola lp hashOk map retrained w =
      if hashOk = false then enterRecovery (modPower (fun p => { p with cupola := true }) w)
      else match lp with
        | some k => failStart 4 k (modPower (fun p => { p with cupola := true }) w)
        | none => match map with
          | some c => failStart 8 c (modKeep (fun k => { k with drained := true }) ((drainAll (modKeep (fun k => { k with
              turretUp := true, lpUp := true, heartbeat := w.hw.time.now })
              (trainParts 16 24 retrained (modPower (fun p => { p with lpddrOn := true, selfRefresh := false })
                (modPower (fun p => { p with cupola := true }) w))))).up fun h => { h with pager := { h.pager with drainDue := false } }))
          | none => showPhase (modKeep (fun k => { k with mapBuilt := true }) (modKeep (fun k => { k with drained := true })
              ((drainAll (modKeep (fun k => { k with turretUp := true, lpUp := true, heartbeat := w.hw.time.now })
                (trainParts 16 24 retrained (modPower (fun p => { p with lpddrOn := true, selfRefresh := false })
                  (modPower (fun p => { p with cupola := true }) w))))).up fun h => { h with pager := { h.pager with drainDue := false } }))) := by
  refine (if_neg (not_or_intro (not_not_intro hp) (ne_true_of_eq_false ht))).trans (if_congr (by rw [Bool.not_eq_true']) rfl ?_)
  cases lp with
  | some k => rfl
  | none => cases map with
    | some c => rfl
    | none => rfl

end

/-- Phase 4 may run (R388, R399). -/
abbrev spiresRun (hw : Hw) : Prop :=
  starting hw.keep = true ∧ hw.keep.turretUp = true ∧ hw.keep.spiresUp = false ∧ hw.power.warning = false

theorem runSpires_barred_iff :
    (!starting w.hw.keep || !w.hw.keep.turretUp || w.hw.keep.spiresUp || w.hw.power.warning) = true ↔ ¬spiresRun w.hw := by
  rw [Bool.or_eq_true, Bool.or_eq_true, Bool.or_eq_true, Bool.not_eq_true', Bool.not_eq_true', spiresRun, not_and_or, not_and_or, not_and_or,
    Bool.not_eq_true, Bool.not_eq_true, Bool.not_eq_false, Bool.not_eq_false, or_assoc, or_assoc]

theorem runSpires_idle {hbm test bad : Option Nat} {retrained : Nat} (h : ¬spiresRun w.hw) : runSpires hbm test bad retrained w = w :=
  if_pos (runSpires_barred_iff.mpr h)

theorem runSpires_runs (h : spiresRun w.hw) (hbm test bad : Option Nat) (retrained : Nat) :
    runSpires hbm test bad retrained w = match bad, hbm, test with
      | some type, _, _ => failStart 3 type w
      | none, some k, _ => failStart 5 k (powerSpires w)
      | none, none, some s => failStart 6 s (trainParts 0 12 retrained (powerSpires w))
      | none, none, none => showPhase (modKeep (fun k => { k with spiresUp := true })
          (forEach (List.range 256) (fun c v => prepareFetch 1 c (coreRuntime v.hw) v) (trainParts 0 12 retrained (powerSpires w)))) := by
  refine (if_neg fun hn => runSpires_barred_iff.mp hn h).trans ?_
  cases bad with
  | some type => rfl
  | none => cases hbm with
    | some k => rfl
    | none => cases test with
      | some s => rfl
      | none => rfl

/-! ## The cores' fetches (R394, R502) -/

/-- A core's fetch with its one repeat (R394). -/
def fetchTwice (core : Nat) (w : Work) : Nat × Work :=
  if (fetchCore core w).1 = 1 ∨ (fetchCore core w).1 = 2 then fetchCore core (renewFetch core (fetchCore core w).2) else fetchCore core w

theorem fetchRuntime_eq (core : Nat) :
    fetchRuntime core w =
      if (fetchTwice core w).1 ≠ 0 then failStart 9 core (fetchTwice core w).2
      else showPhase (modKeep (fun k => { k with fetched := k.fetched ++ [core] }) (fetchTwice core w).2) := rfl

/-- A core fetches its runtime in a start. -/
abbrev fetchInStart (hw : Hw) : Prop := starting hw.keep = true ∧ hw.keep.spiresUp = true

theorem fetchInStart_iff : (starting w.hw.keep && w.hw.keep.spiresUp) = true ↔ fetchInStart w.hw := by rw [Bool.and_eq_true]

theorem runFetch_inStart (core : Nat) (h : fetchInStart w.hw) :
    runFetch core w = if w.hw.keep.fetched.contains core = true then w else fetchRuntime core w := if_pos (fetchInStart_iff.mpr h)

section
variable {core : Nat} (h : ¬fetchInStart w.hw)
include h

theorem runFetch_plan {p : Plan} (hs : isReady w.hw = true ∧ isSafe w.hw = false)
    (hp : w.hw.plans.plans.find? (fun p => p.fetching.contains core) = some p) : runFetch core w = fetchPlanCore p core w := by
  refine (if_neg fun hn => h (fetchInStart_iff.mp hn)).trans ((if_neg ?_).trans ?_)
  · rw [hs.1, hs.2]
    exact Bool.false_ne_true
  · rw [hp]

theorem runFetch_idle (hs : ¬(isReady w.hw = true ∧ isSafe w.hw = false) ∨ w.hw.plans.plans.find? (fun p => p.fetching.contains core) = none) :
    runFetch core w = w := by
  refine (if_neg fun hn => h (fetchInStart_iff.mp hn)).trans ?_
  rcases hs with hs | hs
  · refine if_pos ?_
    rw [not_and_or, Bool.not_eq_true, Bool.not_eq_false] at hs
    rw [Bool.or_eq_true, Bool.not_eq_true']
    exact hs
  · rw [hs]
    exact ite_self w

end

/-! ## The memory test (R373, R393, R471) -/

/-- The rows on the retirement list, each with a place that is a free value. -/
def retiredRows (w : Work) : List (Nat × Nat) × Work :=
  w.hw.fault.retire.foldl (fun acc a => ((acc.1 ++ [(retiredRow a acc.2).1]), (retiredRow a acc.2).2)) ([], w)

/-- The rows that are retired and those found have been remapped. -/
def rowsRemapped (rows : List (Nat × Nat)) (w : Work) : Work :=
  addRemaps ((retiredRows w).1 ++ rows.filter (fun r => sampledRow w.hw r.2))
    ((retiredRows w).2.up fun h => { h with fault := { h.fault with retire := [], retireLost := [] } })

/-- Phase 5 may run. -/
abbrev memoryTestRuns (hw : Hw) : Prop :=
  starting hw.keep = true ∧ phaseOf hw.keep = 5 ∧ hw.keep.spiresUp = true ∧ hw.keep.drained = true ∧ hw.power.warning = false

theorem memoryTest_barred_iff :
    (!starting w.hw.keep || decide (phaseOf w.hw.keep ≠ 5) || !w.hw.keep.spiresUp || !w.hw.keep.drained || w.hw.power.warning) = true ↔
      ¬memoryTestRuns w.hw := by
  rw [Bool.or_eq_true, Bool.or_eq_true, Bool.or_eq_true, Bool.or_eq_true, Bool.not_eq_true', Bool.not_eq_true', Bool.not_eq_true',
    decide_eq_true_iff, memoryTestRuns, not_and_or, not_and_or, not_and_or, not_and_or, Bool.not_eq_true, Bool.not_eq_true, Bool.not_eq_true,
    Bool.not_eq_false, or_assoc, or_assoc, or_assoc]

theorem runMemoryTest_eq (rows : List (Nat × Nat)) :
    runMemoryTest rows w =
      if ¬memoryTestRuns w.hw then w
      else if (rowsRemapped rows w).hw.keep.failed = true then rowsRemapped rows w
      else showPhase (modKeep (fun k => { k with tested := true, fastStarts := if k.startType = 2 then k.fastStarts + 1 else 0 })
        (clearTiers (if (rowsRemapped rows w).hw.pager.journal = [] then .lost else .kept) (rowsRemapped rows w))) := by
  refine (if_congr memoryTest_barred_iff rfl rfl).trans (if_congr .rfl rfl (if_congr .rfl rfl ?_))
  have hempty : (if (rowsRemapped rows w).hw.pager.journal.isEmpty then JournalFate.lost else .kept) =
      if (rowsRemapped rows w).hw.pager.journal = [] then JournalFate.lost else .kept := if_congr List.isEmpty_iff rfl rfl
  rw [← hempty]
  rfl

/-! ## The ports and the time source (R33, R388) -/

/-- Phase 6 may run. -/
abbrev linksRun (hw : Hw) : Prop := starting hw.keep = true ∧ hw.keep.turretUp = true ∧ hw.keep.linked = false

/-- The ports and halves have begun to seek their far ends. -/
def portsBegun (w : Work) : Work :=
  forEach (List.range 8) (fun h v => if halfExists v.hw h then modHalf h (fun x => { x with link := 2 }) v else v)
    (forEach (List.range 6) (fun p v => modPort p (fun q => { q with
      state := if q.enabled then .detect else .disabled
      fullTraining := !(trainingValid v.hw (64 + p)) }) v) w)

theorem runLinks_eq (source : TimeSource) :
    runLinks source w =
      if ¬linksRun w.hw then w
      else showPhase (modKeep (fun k => { k with linked := true, linksAt := some w.hw.time.now })
        (modTime (fun t => { t with
          source := source
          planeOk := t.planeOk || source == .plane
          ptpOk := t.ptpOk || source == .ptp
          markerOk := t.markerOk || source == .marker }) (portsBegun w))) := by
  refine if_congr ?_ rfl rfl
  rw [Bool.or_eq_true, Bool.or_eq_true, Bool.not_eq_true', Bool.not_eq_true', linksRun, not_and_or, not_and_or, Bool.not_eq_true,
    Bool.not_eq_true, Bool.not_eq_false, or_assoc]

end

/-- Settles O45, a phase at a time: each runs in its own state of the start, and its failures come in order. -/
theorem startPhases : Obligations.StartPhases := by
  unfold Obligations.StartPhases
  refine ⟨?_, ?_, ?_, ?_, ?_, ?_⟩
  · intro s romOk fuseOk storeOk crcBad
    rw [show s.hw.keep = (beginWork s).hw.keep from rfl, show mayStartModule s.hw = mayStartModule (beginWork s).hw from rfl]
    intro w epoch chosen counted epochs begun
    have starts {a b c : Bool} {v : Work} (hv : beginStart a b c crcBad.toNat w = v) : AnswersWith (.start a b c crcBad) s v :=
      answersWith_run _ s _ _ (exec_start ..) hv
    have hbegun : startBegun crcBad.toNat w = begun := startBegun_eq crcBad.toNat w rfl
    refine ⟨fun hm => ?_, fun hm => starts (beginStart_eq.trans (if_pos hm))⟩
    rw [← hbegun]
    have hrun {a b c : Bool} := (beginStart_eq (romOk := a) (fuseOk := b) (storeOk := c) (crcBad := crcBad.toNat) (w := w)).trans
      (if_neg (ne_false_of_eq_true hm))
    refine ⟨starts (hrun.trans (if_pos rfl)), starts (hrun.trans ((if_neg (by decide)).trans (if_pos rfl))),
      fun h => starts (hrun.trans ((if_neg (by decide)).trans ((if_neg (by decide)).trans (if_pos h)))),
      fun h => starts (hrun.trans ((if_neg (by decide)).trans ((if_neg (by decide)).trans
        (if_neg (not_or_intro (by decide) (ne_false_of_eq_true h))))))⟩
  · intro s lpFail mapFail hashOk fail retrained w k cupola packages drained
    have runs {lp map : Option Byte} {ok : Bool} {v : Work}
        (hv : runCupola (lp.map (fun b => b.toNat)) ok (map.map (fun b => b.toNat)) retrained.toNat w = v) :
        AnswersWith (.cupola lp ok map retrained) s v := answersWith_run _ s _ _ (exec_cupola ..) hv
    exact ⟨fun hp ht => ⟨runs (runCupola_runs hp ht ..), runs (runCupola_runs hp ht ..), runs (runCupola_runs hp ht ..),
      runs (runCupola_runs hp ht ..)⟩, fun h => runs (runCupola_idle h)⟩
  · intro s hbmFail testFail hashFail section4 fail retrained w k trained running
    have runs {hbm test : Option Byte} {hash : Option Bool} {v : Work}
        (hv : runSpires (hbm.map (fun b => b.toNat)) (test.map (fun b => b.toNat)) (hash.map (fun b => 3 + b2n b)) retrained.toNat w = v) :
        AnswersWith (.spires hbm test hash retrained) s v := answersWith_run _ s _ _ (exec_spires ..) hv
    refine ⟨fun h => ⟨?_, runs (runSpires_runs h ..), runs (runSpires_runs h ..), runs (runSpires_runs h ..)⟩, fun h => runs (runSpires_idle h)⟩
    cases section4 with
    | false => exact runs (runSpires_runs h ..)
    | true => exact runs (runSpires_runs h ..)
  · intro s core w k c inStart serves first last
    have fetches {v : Work} (hv : runFetch c w = v) : AnswersWith (.coreFetch core) s v := answersWith_run _ s _ _ (exec_coreFetch ..) hv
    exact ⟨fun h hc hl => fetches ((runFetch_inStart c h).trans ((if_neg (ne_true_of_eq_false hc)).trans
        ((fetchRuntime_eq c).trans (if_neg (not_not_intro hl))))),
      fun h hc hl => fetches ((runFetch_inStart c h).trans ((if_neg (ne_true_of_eq_false hc)).trans ((fetchRuntime_eq c).trans (if_pos hl)))),
      fun h hc => fetches ((runFetch_inStart c h).trans (if_pos hc)),
      fun h hs p hp => fetches (runFetch_plan h hs hp), fun h hs => fetches (runFetch_idle h hs)⟩
  · intro s rows w k found old remapped runs
    have tests {v : Work} (hv : runMemoryTest (rows.map (fun v => (v.toNat / 2 ^ 32, v.toNat % 2 ^ 32))) w = v) :
        AnswersWith (.memoryTest rows) s v := answersWith_run _ s _ _ (exec_memoryTest ..) hv
    exact ⟨fun h hf => tests ((runMemoryTest_eq _).trans ((if_neg (not_not_intro h)).trans (if_pos hf))),
      fun h hf => tests ((runMemoryTest_eq _).trans ((if_neg (not_not_intro h)).trans (if_neg (ne_true_of_eq_false hf)))),
      fun h => tests ((runMemoryTest_eq _).trans (if_pos h))⟩
  · intro s source w k src ported runs
    have links {v : Work} (hv : runLinks src w = v) : AnswersWith (.links source) s v := answersWith_run _ s _ _ (exec_links ..) hv
    exact ⟨fun h => links ((runLinks_eq src).trans (if_neg (not_not_intro h))), fun h => links ((runLinks_eq src).trans (if_pos h))⟩

end Sys2Proof.Machine
end

section
/-! PROOFS. The tick, the deadline, the time sources, and how a frame ends and begins (R33 to R56, R502). -/
namespace Sys2Proof.Machine

open Sys2Proof

/-! ## The tick and the deadline (R39, R40, R43, R44) -/

theorem modTime_congr {f g : TimeSt → TimeSt} {w : Work} (h : f w.hw.time = g w.hw.time) : modTime f w = modTime g w :=
  congrArg (fun t => w.up fun h => { h with time := t }) h

/-- The next tick has been reached with a period and the change that still waits (R39, R41). -/
def tickReached (code : Nat) (next : Option (Nat × Nat)) (w : Work) : Work :=
  modTime (fun t => { t with
    periodCode := code
    periodNext := next
    tick := nextTick w.hw / (code * 10000) % 2 ^ 48
    tickAt := nextTick w.hw
    deadlineDone := false }) (advance w (nextTick w.hw))

section
variable {w : Work}

theorem reachTick_unchanged (h : w.hw.time.periodNext = none) : reachTick w = tickReached w.hw.time.periodCode none w := by
  have hnext : (advance w (nextTick w.hw)).hw.time.periodNext = none := h
  simp only [reachTick, hnext]
  refine modTime_congr ?_
  rw [← hnext]
  rfl

section
variable {at_ next : Nat} (h : w.hw.time.periodNext = some (at_, next))
include h

theorem reachTick_changed (hc : nextTick w.hw = changeAt at_ next) : reachTick w = tickReached next none w := by
  have hnext : (advance w (nextTick w.hw)).hw.time.periodNext = some (at_, next) := h
  simp only [reachTick, hnext, if_pos hc]
  rfl

theorem reachTick_waits (hc : nextTick w.hw ≠ changeAt at_ next) : reachTick w = tickReached w.hw.time.periodCode (some (at_, next)) w := by
  have hnext : (advance w (nextTick w.hw)).hw.time.periodNext = some (at_, next) := h
  simp only [reachTick, hnext, if_neg hc]
  refine modTime_congr ?_
  rw [← hnext]
  rfl

end

/-- The module up to its own tick actions: the samples of the closing window are taken and the settings in force (R44). -/
def tickSettled (w : Work) : Work :=
  topologyCheck (scanTick (frameTickStart (movesTick (liftFences (traceTick (applySettings (partitionTick (answerPeriod (crossCheck (slewTick
    (chargeTick (countTick (takeSnapshot (reachTick (frameDeadline (closeNotices w))))))))))))))))

/-- Lantern's part of the tick, while it runs. -/
def lanternDecides (sample_ : TickSample) (w : Work) : Work := if w.hw.lantern.up then lanternTick sample_ w else w

theorem tickAll_eq (sample_ : TickSample) :
    tickAll sample_ w =
      if w.hw.power.aon = false then reachTick w
      else auditTick sample_ w.hw.time.tickAt
        (hangTick (sample 10 0 (lanternDecides sample_ (tickSettled w)).hw.pager.journal.length (mirrorTick (lanternDecides sample_ (tickSettled w))))) := by
  unfold tickAll lanternDecides tickSettled
  exact if_congr (by rw [Bool.not_eq_true']) rfl rfl

theorem completePlan_noPlan {plan : Nat} (h : findPlan w.hw plan = none) : completePlan plan w = w := by simp only [completePlan, h]

theorem completePlan_idle {plan : Nat} {p : Plan} (h : findPlan w.hw plan = some p) (hf : p.frame = none) : completePlan plan w = w := by
  simp only [completePlan, h, hf]

theorem completePlan_eq {plan : Nat} {p : Plan} {f : FrameRun} (h : findPlan w.hw plan = some p) (hf : p.frame = some f) :
    completePlan plan w = if frameDone w.hw p f = true then completeFrame p f w else w := by
  simp only [completePlan, h, hf]

theorem losePtp_none (h : w.hw.host.ptpUsed = none) : losePtp w = chooseSource (modTime (fun t => { t with ptpOk := false }) w) := by
  simp only [losePtp, h]
  rfl

theorem losePtp_some {m : Nat × Nat} (h : w.hw.host.ptpUsed = some m) :
    losePtp w = chooseSource (modTime (fun t => { t with ptpOk := false })
      (chooseMaster (modHalf m.1 (fun x => { x with masters := x.masters.filter (fun e => e.1 != m.2) }) w))) := by
  simp only [losePtp, h]
  rfl

theorem expireHoldover_eq {u : Nat} (h : w.hw.time.holdover = some u) :
    expireHoldover w =
      if w.hw.time.source = .holdover ∧ u + 60000000000 ≤ horizon w.hw then
        modTime (fun t => { t with source := .freeRun, holdover := none }) (advance w (u + 60000000000))
      else w := by
  simp only [expireHoldover, h]
  exact if_congr (by rw [Bool.and_eq_true, beq_iff_eq, due, decide_eq_true_iff]) rfl rfl

theorem expireHoldover_idle (h : w.hw.time.source ≠ .holdover ∨ ∀ u, w.hw.time.holdover = some u → horizon w.hw < u + 60000000000) :
    expireHoldover w = w := by
  cases hu : w.hw.time.holdover with
  | none => simp only [expireHoldover, hu]
  | some u => exact (expireHoldover_eq hu).trans (if_neg fun hn => h.elim (fun h => h hn.1) fun h => Nat.not_lt.mpr hn.2 (h u hu))

end

/-- Settles O46: the tick and the deadline in their order, then a source at a time. -/
theorem ticksAndFrames : Obligations.TicksAndFrames := by
  unfold Obligations.TicksAndFrames
  intro s sample_ plan source
  rw [show s.hw.time = (beginWork s).hw.time from rfl, show deadlineAt s.hw = deadlineAt (beginWork s).hw from rfl,
    show nextTick s.hw = nextTick (beginWork s).hw from rfl, show s.hw.power = (beginWork s).hw.power from rfl,
    show s.hw.plans = (beginWork s).hw.plans from rfl, show findPlan s.hw plan.toNat = findPlan (beginWork s).hw plan.toNat from rfl,
    show s.hw.host = (beginWork s).hw.host from rfl, show horizon s.hw = horizon (beginWork s).hw from rfl]
  intro w t code closing reached opened settled framed decided
  have ticks {v : Work} (hv : tickAll sample_ w = v) : AnswersWith (.frameTick sample_) s (fillTick (serveLowAll v)) :=
    answersWith_run _ s _ _ (exec_frameTick ..) (congrArg (fun v => fillTick (serveLowAll v)) hv)
  have deadlines {v : Work} (hv : frameDeadline w = v) : AnswersWith .frameDeadline s v := answersWith_run _ s _ _ (exec_frameDeadline s) hv
  have completes {v : Work} (hv : completePlan plan.toNat w = v) : AnswersWith (.frameComplete plan) s v :=
    answersWith_run _ s _ _ (exec_frameComplete ..) hv
  have losses {v : Work} (hv : (match code with | .ptp => losePtp | other => loseSource other) w = v) : AnswersWith (.timeSourceLost source) s v :=
    answersWith_run _ s _ _ (exec_timeSourceLost ..) hv
  have expires {v : Work} (hv : expireHoldover w = v) : AnswersWith .holdoverExpiry s v := answersWith_run _ s _ _ (exec_holdoverExpiry s) hv
  have hframed : tickSettled w = framed := rfl
  have htick := tickAll_eq (w := w) sample_
  rw [hframed, show lanternDecides sample_ framed = decided from rfl] at htick
  refine ⟨fun ha => ticks (htick.trans (if_neg (ne_false_of_eq_true ha))), fun ha => ticks (htick.trans (if_pos ha)),
    fun h => reachTick_unchanged h, fun at_ next h => ⟨fun hc => reachTick_changed h hc, fun hc => reachTick_waits h hc⟩,
    fun hd => deadlines (if_neg (ne_true_of_eq_false hd)), fun hd => deadlines (if_pos hd),
    fun p f hp hf => ⟨fun hd => completes ((completePlan_eq hp hf).trans (if_pos hd)),
      fun hd => completes ((completePlan_eq hp hf).trans (if_neg (ne_true_of_eq_false hd)))⟩,
    fun p hp hf => completes (completePlan_idle hp hf), fun hp => completes (completePlan_noPlan hp), fun hc => losses ?_, fun hc => losses ?_,
    fun hc => losses ?_, fun hc hu => losses ?_, fun h sender hc hu => losses ?_,
    fun u hu hs hd => expires ((expireHoldover_eq hu).trans (if_pos ⟨hs, hd⟩)), fun h => expires (expireHoldover_idle h)⟩
  · rw [hc]
    rfl
  · rw [hc]
    rfl
  · obtain hc | hc := hc
    · rw [hc]
      rfl
    · rw [hc]
      rfl
  · rw [hc]
    exact losePtp_none hu
  · rw [hc]
    change losePtp w = _
    rw [losePtp_some (w := w) hu]

/-! ## How a frame ends and begins (R51 to R56) -/

section
variable {w : Work} {p : Plan} {f : FrameRun}

/-- The record of a plan's overrun is kept, and source 5 tells of it (R53, R55). -/
def overrunRaised (p : Plan) (f : FrameRun) (w : Work) : Work :=
  modLight (fun l => { l with overrun := l.overrun + 1 }) (raise 5 1 (overrunRecord w.hw p f).2.2 (overrunRecord w.hw p f).2.1 0 w)

/-- The time of a frame is sampled (R552). -/
def frameSampled (p : Plan) (f : FrameRun) (now : Nat) (w : Work) : Work := sample 1 p.id ((now : Int) - f.startAt) w

theorem completeFrame_onTime (ho : f.overrun = none) (ht : f.number = w.hw.time.tick) :
    completeFrame p f w = closeFrame p f 0 stBatchDone
      (noteSlack p.id (min 0xFFFE ((deadlineAt w.hw - w.hw.time.now) * 65536 / max 1 (period w.hw - 4000)))
        (modLight (fun l => { l with completed := l.completed + 1 }) (frameSampled p f w.hw.time.now w))) := by
  simp only [completeFrame, ho, ht, Option.isNone_none, and_self, if_true]
  rfl

theorem completeFrame_late (ho : f.overrun = none) (ht : f.number ≠ w.hw.time.tick) :
    completeFrame p f w = closeFrame p f 0 stBatchDone
      (noteSlack p.id 0 (modLight (fun l => { l with completed := l.completed + 1 }) (frameSampled p f w.hw.time.now w))) := by
  simp only [completeFrame, ho, ht, false_and, if_false]
  rfl

theorem completeFrame_slipped {first : List Byte} (ho : f.overrun = some first) :
    completeFrame p f w = closeFrame p f 0 stBatchDone
      (noteSlack p.id 0 (frameSampled p f w.hw.time.now (queueOverrun (finishOverrun first 1 w.hw.time.now) w))) := by
  simp only [completeFrame, ho, Option.isNone_some, Bool.false_eq_true, and_false, if_false]
  rfl

theorem overrunFrame_eq :
    overrunFrame p f w =
      if p.abort then abortFrame p (queueOverrun (finishOverrun (overrunRecord w.hw p f).1 2 0) (overrunRaised p f w))
      else match f.overrun with
        | none => modPlan p.id (fun q => { q with
            frame := some { f with overrun := some (overrunRecord w.hw p f).1, slipped := true }
            slipTick := some ((w.hw.time.tick + 1) % 2 ^ 48) }) (overrunRaised p f w)
        | some first => abortFrame p (queueOverrun (finishOverrun (overrunRecord w.hw p f).1 6 0)
            (queueOverrun (finishOverrun first 1 0) (overrunRaised p f w))) := rfl

section
variable {id : Nat} (hp : findPlan w.hw id = some p)
include hp

theorem planDeadline_none (hf : p.frame = none) : planDeadline id w = w := by simp only [planDeadline, hp, hf]

theorem planDeadline_some (hf : p.frame = some f) :
    planDeadline id w = if frameDone w.hw p f = true then completeFrame p f w else overrunFrame p f w := by
  simp only [planDeadline, hp, hf]

/-- A plan's frame falls due at a tick (R51, R52, R515). -/
abbrev planDue (hw : Hw) (p : Plan) (tick : Nat) : Prop := frameDue p tick = true ∧ mayStart hw p.part hw.time.tickAt = true

theorem planTick_eq (tick : Nat) :
    planTick tick id w =
      if ¬planDue w.hw p tick then w
      else if p.coreList.any (fun c => coreFenced w.hw c) = true then skipFrame p tick (modPlan id (fun q => { q with fenced := true }) w)
      else if p.frame ≠ none ∨ p.slipTick = some tick then skipFrame p tick w
      else if p.coreList.all (fun c => coreLive w.hw c) = true then beginFrame p tick (modPlan id (fun q => { q with fenced := false }) w)
      else w := by
  have hdead : (p.coreList.any (fun c => !coreLive w.hw c)) = !(p.coreList.all (fun c => coreLive w.hw c)) := List.not_all_eq_any_not.symm
  have hskip : (p.frame.isSome || p.slipTick == some tick) = true ↔ p.frame ≠ none ∨ p.slipTick = some tick := by
    rw [Bool.or_eq_true, Option.isSome_iff_ne_none, beq_iff_eq]
  by_cases h1 : frameDue p tick = true
  · by_cases h2 : mayStart w.hw p.part w.hw.time.tickAt = true
    · rw [if_neg (not_not_intro ⟨h1, h2⟩)]
      simp only [planTick, hp, hdead, hskip, h1, h2, Bool.not_true, Bool.false_eq_true, if_false]
      refine if_congr .rfl rfl (if_congr .rfl rfl ?_)
      cases p.coreList.all (fun c => coreLive w.hw c) with
      | false => rfl
      | true => rfl
    · rw [if_pos fun h => h2 h.2]
      simp only [planTick, hp, h1, Bool.not_eq_true _ ▸ h2, Bool.not_true, Bool.not_false, Bool.false_eq_true, if_false, if_true]
  · rw [if_pos fun h => h1 h.1]
    simp only [planTick, hp, Bool.not_eq_true _ ▸ h1, Bool.not_false, if_true]

end

theorem frameDue_fetching {tick : Nat} (h : p.fetching ≠ []) : frameDue p tick = false := by
  rw [frameDue, List.isEmpty_eq_false_iff.mpr h]
  rfl

theorem frameDue_before {tick first : Nat} (h : p.firstFrame = some first) (ht : tick < first) : frameDue p tick = false := by
  simp only [frameDue, h, decide_eq_false (Nat.not_le.mpr ht), Bool.and_false, Bool.false_and]

theorem frameDue_after {tick last : Nat} (h : p.lastFrame = some last) (ht : last < tick) : frameDue p tick = false := by
  simp only [frameDue, h, decide_eq_false (Nat.not_le.mpr ht), Bool.and_false]

end

/-- Settles O47: at a deadline a frame is done or an overrun; at a tick a plan's frame is due or not, and then starts or is skipped. -/
theorem frameOutcomes : Obligations.FrameOutcomes := by
  unfold Obligations.FrameOutcomes
  intro w p hp tick now fenced due
  have htick := planTick_eq hp tick
  refine ⟨fun f hf => ?_, fun hf => planDeadline_none hp hf, fun h => htick.trans (if_pos h),
    fun h hc => htick.trans ((if_neg (not_not_intro h)).trans (if_pos hc)),
    fun h hc hs => htick.trans ((if_neg (not_not_intro h)).trans ((if_neg hc).trans (if_pos hs))), fun h hc hf hs => ?_,
    fun h => frameDue_fetching h, fun first h ht => frameDue_before h ht, fun last h ht => frameDue_after h ht⟩
  · intro late raised sampled
    have hdone (hd : frameDone w.hw p f = true) := (planDeadline_some hp hf).trans (if_pos hd)
    have hover (hd : frameDone w.hw p f = false) := ((planDeadline_some hp hf).trans (if_neg (ne_true_of_eq_false hd))).trans overrunFrame_eq
    refine ⟨fun hd ho => ⟨fun ht => (hdone hd).trans (completeFrame_onTime ho ht), fun ht => (hdone hd).trans (completeFrame_late ho ht)⟩,
      fun first hd ho => (hdone hd).trans (completeFrame_slipped ho), fun hd ha => (hover hd).trans (if_pos ha),
      fun hd ha ho => (hover hd).trans ((if_neg (ne_true_of_eq_false ha)).trans ?_),
      fun first hd ha ho => (hover hd).trans ((if_neg (ne_true_of_eq_false ha)).trans ?_)⟩
    · rw [ho]
      rfl
    · rw [ho]
      rfl
  · have hrest := htick.trans ((if_neg (not_not_intro h)).trans ((if_neg hc).trans (if_neg (not_or_intro (not_not_intro hf) hs))))
    exact ⟨fun hl => hrest.trans (if_pos hl), fun hl => hrest.trans (if_neg (ne_true_of_eq_false hl))⟩

end Sys2Proof.Machine
end

section
/-! PROOFS. The checks that refuse a mailbox request (R342, R348). -/
namespace Sys2Proof.Machine

open Sys2Proof

/-- The module's state serves a command on a channel that lists it (R377, R391, R397). -/
abbrev mailServed (hw : Hw) (channel code : Nat) : Prop :=
  (hw.keep.phase = 15 → servedFailed code = true) ∧ (hw.keep.phase = 2 → servedRecovery code = true)
    ∧ (channel < 17 → isReady hw = false → servedEarly code = true) ∧ channelListed channel code = true

/-- A request sleeps in the safe state (R483). -/
abbrev mailSleeps (hw : Hw) (r : Request) : Prop := isSafe hw = true ∧ servedSafe r = false

section
variable {code : Nat} {refuse : Nat → Request → Work → Work} {permit : Hw → Request → Bool} {act : Request → Work → Answer}
  {channel slot : Nat} {w : Work}

theorem serveWith_none (h : takesRequest w.hw code channel slot = none) : serveWith code refuse permit act channel slot w = w := by
  simp only [serveWith, h]

variable {r : Request}

theorem sleeps_eq_false (hs : ¬mailSleeps w.hw r) : (isSafe w.hw && !servedSafe r) = false := by
  rw [Bool.eq_false_iff, ne_eq, Bool.and_eq_true, Bool.not_eq_true']
  exact hs

variable (h : takesRequest w.hw code channel slot = some r)
include h

theorem serveWith_sleeps (hs : mailSleeps w.hw r) : serveWith code refuse permit act channel slot w = w := by
  simp only [serveWith, h, hs.1, hs.2, Bool.not_false, Bool.and_self, if_true]

theorem serveWith_refused (hs : ¬mailSleeps w.hw r) (hno : ¬mailServed w.hw channel code ∨ permit w.hw r = false) :
    serveWith code refuse permit act channel slot w = refuse stNotPermitted r w := by
  simp only [serveWith, h, sleeps_eq_false hs, Bool.false_eq_true, if_false]
  split
  · rfl
  next hfailed =>
    split
    · rfl
    next hrecovery =>
      split
      · rfl
      next hready =>
        refine if_pos ?_
        rw [Bool.and_eq_true, beq_iff_eq, Bool.not_eq_true', not_and, Bool.not_eq_false] at hfailed hrecovery
        rw [Bool.and_eq_true, Bool.and_eq_true, decide_eq_true_iff, Bool.not_eq_true', Bool.not_eq_true', not_and, Bool.not_eq_false] at hready
        rw [Bool.or_eq_true, Bool.not_eq_true', Bool.not_eq_true']
        refine hno.imp_left fun hn => Bool.eq_false_iff.mpr fun hl => hn ⟨hfailed, hrecovery, fun hc hr => hready ⟨hc, hr⟩, hl⟩

theorem serveWith_unsigned (hs : ¬mailSleeps w.hw r) (hserved : mailServed w.hw channel code) (hp : permit w.hw r = true) {status : Nat}
    {v : Work} (hsig : checkSignature r w = (some status, v)) :
    serveWith code refuse permit act channel slot w = refuse status r v := by
  obtain ⟨hfailed, hrecovery, hready, hl⟩ := hserved
  have h15 : (w.hw.keep.phase == 15 && !servedFailed code) = false := by
    rw [Bool.eq_false_iff, ne_eq, Bool.and_eq_true, beq_iff_eq, Bool.not_eq_true', not_and, Bool.not_eq_false]
    exact hfailed
  have h2 : (w.hw.keep.phase == 2 && !servedRecovery code) = false := by
    rw [Bool.eq_false_iff, ne_eq, Bool.and_eq_true, beq_iff_eq, Bool.not_eq_true', not_and, Bool.not_eq_false]
    exact hrecovery
  have hearly : (decide (channel < 17) && !isReady w.hw && !servedEarly code) = false := by
    rw [Bool.eq_false_iff, ne_eq, Bool.and_eq_true, Bool.and_eq_true, decide_eq_true_iff, Bool.not_eq_true', Bool.not_eq_true', not_and,
      Bool.not_eq_false]
    exact fun hn => hready hn.1 hn.2
  simp only [serveWith, h, sleeps_eq_false hs, h15, h2, hearly, hl, hp, hsig, Bool.false_eq_true, Bool.not_true, Bool.or_false, if_false]

end

/-- Settles O48: each row runs the common checks with its own code, check of ownership and refusal; the checks then refuse in order. -/
theorem mailboxRefusals : Obligations.MailboxRefusals := by
  unfold Obligations.MailboxRefusals
  intro s c sl i code permit refuse
  dsimp only
  intro hi
  have hrow : ∃ act, exec i s = run s (serveWith code refuse permit act c.val sl.val) := by
    -- Each row of the list is the dispatch of its command.
    repeat
      obtain hi | hi := List.mem_cons.mp hi
      · cases hi
        exact ⟨_, rfl⟩
    exact absurd hi List.not_mem_nil
  obtain ⟨act, hact⟩ := hrow
  have serves {v : Work} (hv : serveWith code refuse permit act c.val sl.val (beginWork s) = v) : AnswersWith i s v := answersWith_run _ s _ _ hact hv
  exact ⟨fun h => serves (serveWith_none h), fun r h => ⟨fun hs => serves (serveWith_sleeps h hs),
    fun hs hno => serves (serveWith_refused h hs hno), fun hs hserved hp status v hsig => serves (serveWith_unsigned h hs hserved hp hsig)⟩⟩

end Sys2Proof.Machine
end

section
/-! PROOFS. Channel, outbox, Ethernet and PTP commands (R315, R324, R330, R350 to R357). -/
namespace Sys2Proof.Machine

open Sys2Proof

/-! ## What a command answers to legal operands -/

/-- An answer, in terms of a command's reply and of its going on. -/
def Answer.says (reply : Nat → List Byte → Work → Prop) (later : Option (Nat × Nat) → Work → Prop) : Answer → Prop
  | .reply status payload w => reply status payload w
  | .later target w => later target w

/-- A command that refuses operands that are not legal serves the others as its body says. -/
theorem serves_says {s : State} {c : Fin 18} {sl : Fin 64} {i : Instr} {code : Nat} {permit : Hw → Request → Bool} {act : Request → Work → Answer}
    {legal : Request → Work → Bool} {good : Request → Work → (Nat → List Byte → Work → Prop) → (Option (Nat × Nat) → Work → Prop) → Prop}
    {body : Request → Work → Answer} (hi : exec i s = run s (serve code permit act c.val sl.val))
    (hact : ∀ r w, act r w = if legal r w = true then body r w else malformed w)
    (hgood : ∀ r w, legal r w = true → ∀ reply later, (body r w).says reply later → good r w reply later) :
    Serves s c sl i code permit legal good := by
  refine serves_of s c sl i code permit act legal good hi (fun r w hl => ?_) fun r w hl reply later hreply hlater => hgood r w hl reply later ?_
  · rw [hact, if_neg (ne_true_of_eq_false hl)]
    rfl
  · have hbody : act r w = body r w := (hact r w).trans (if_pos hl)
    cases hb : body r w with
    | reply status payload v => exact hreply status payload v (hbody.trans hb)
    | later target v => exact hlater target v (hbody.trans hb)

theorem else_malformed {bad legal : Bool} {x y : Answer} (h : bad = !legal) : (if bad = true then y else x) = if legal = true then x else y := by
  cases legal with
  | false => exact (if_pos h).trans (if_neg Bool.false_ne_true).symm
  | true => exact (if_neg (ne_true_of_eq_false h)).trans (if_pos rfl).symm

section
variable {c : Prop} [Decidable c] {x y : Answer} {reply : Nat → List Byte → Work → Prop} {later : Option (Nat × Nat) → Work → Prop}

theorem says_then (h : Answer.says reply later (if c then x else y)) (hc : c) : x.says reply later := by
  rwa [if_pos hc] at h

theorem says_else (h : Answer.says reply later (if c then x else y)) (hc : ¬c) : y.says reply later := by
  rwa [if_neg hc] at h

end

/-! ## O50 -/

/-- Settles O50, a command at a time: what its body answers to legal operands. -/
theorem channelCommands : Obligations.ChannelCommands := by
  unfold Obligations.ChannelCommands
  intro s c sl
  refine ⟨serves_says (exec_nop ..) (fun r w => rfl) fun r w _ reply later h => h,
    serves_says (exec_channelOpen ..) (fun r w => else_malformed ?_) fun r w _ reply later h => ⟨fun ho => ?_, fun ho => ?_⟩,
    serves_says (exec_channelClose ..) (fun r w => else_malformed ?_) fun r w _ reply later h => ⟨fun ho => ?_, fun ho => ?_⟩,
    serves_says (exec_outboxSet ..) (fun r w => else_malformed ?_) fun r w _ reply later h => ⟨fun hq => ?_, fun q hq => ?_⟩,
    serves_says (exec_ethPortSet ..) (fun r w => else_malformed ?_) fun r w _ reply later h => ⟨fun hb => ?_, fun hb hu => ?_, fun hb hu => ?_⟩,
    serves_says (exec_ethAddrSet ..) (fun r w => else_malformed ?_) fun r w _ reply later h => ⟨fun hb => ?_, fun hb => ?_⟩,
    serves_says (exec_ethCongSet ..) (fun r w => else_malformed rfl) fun r w _ reply later h => h,
    serves_says (exec_ptpSet ..) (fun r w => else_malformed ?_) fun r w _ reply later h => h,
    serves_says (exec_ethStatus ..) (fun r w => rfl) fun r w _ reply later h => h⟩
  · simp only [Bool.not_and, ← decide_not, Nat.not_le]
  · exact says_then h ho
  · exact says_else h (ne_true_of_eq_false ho)
  · simp only [Bool.not_and, ← decide_not, Nat.not_le]
  · exact says_then h ho
  · exact says_else h (ne_true_of_eq_false ho)
  · simp only [Bool.not_and, ← decide_not, Nat.not_le, bne]
  · simp only [hq] at h
    exact h
  · simp only [hq] at h
    exact h
  · simp only [Bool.not_and, Bool.not_or, Bool.not_not, ← decide_not, Nat.not_le, Nat.not_lt]
  · exact says_then h hb
  · exact says_then (says_else h (ne_true_of_eq_false hb)) hu
  · exact says_else (says_else h (ne_true_of_eq_false hb)) (ne_true_of_eq_false hu)
  · simp only [Bool.not_and, ← decide_not, Nat.not_le]
  · exact says_then h hb
  · exact says_else h (ne_true_of_eq_false hb)
  · simp only [Bool.not_and, ← decide_not, Nat.not_le, List.not_all_eq_any_not]

end Sys2Proof.Machine
end

section
/-! PROOFS. Queue pair and region commands (R321 to R323, R332, R337, R358 to R360). -/
namespace Sys2Proof.Machine

open Sys2Proof

section
variable {r : Request} {w : Work}

/-- A region fits its reservation where the request may name it (R322). -/
def regionFits (r : Request) (w : Work) : Bool :=
  targetBusy w.hw 5 (r.arg 0 4) || (match findPlan w.hw (r.arg 0 4) with
    | some p => (match p.reservations[r.arg 4 2]? with
      | some e => p.channel != r.channel || e.kind != 1 || !(bit e.flags 0) || decide (r.arg 8 8 + r.arg 0x10 8 ≤ e.pages * 65536)
      | none => true)
    | none => true)

section
variable (hok : regionFieldsOk r = true)
include hok

theorem doRegionRegister_busy (hb : targetBusy w.hw 5 (r.arg 0 4) = true) : doRegionRegister r w = refusedWith stTargetBusy w := by
  simp only [doRegionRegister, hok, hb, Bool.not_true, Bool.false_eq_true, if_false, if_true]

variable (hb : targetBusy w.hw 5 (r.arg 0 4) = false)
include hb

theorem doRegionRegister_noPlan (hp : findPlan w.hw (r.arg 0 4) = none) : doRegionRegister r w = refusedWith stNotFound w := by
  simp only [doRegionRegister, hok, hb, hp, Bool.not_true, Bool.false_eq_true, if_false]

variable {p : Plan} (hp : findPlan w.hw (r.arg 0 4) = some p)
include hp

theorem doRegionRegister_noEntry (he : p.reservations[r.arg 4 2]? = none) : doRegionRegister r w = refusedWith stNotFound w := by
  simp only [doRegionRegister, hok, hb, hp, he, Bool.not_true, Bool.false_eq_true, if_false]

/-- The region that a request registers at an index (R322). -/
def registered (r : Request) (p : Plan) (base key i : Nat) : Region :=
  ⟨i, p.id, r.arg 4 2, r.channel, r.arg 6 1, base + r.arg 8 8, r.arg 0x10 8, r.arg 0x18 2, r.arg 0x1A 2, r.arg 0x1C 4, key, 0, 1, [], 0⟩

theorem doRegionRegister_entry {e : Reservation} (he : p.reservations[r.arg 4 2]? = some e) :
    doRegionRegister r w =
      if p.channel ≠ r.channel ∨ e.kind ≠ 1 ∨ bit e.flags 0 = false then refusedWith stNotPermitted w
      else if e.pages * 65536 < r.arg 8 8 + r.arg 0x10 8 then malformed w
      else match lowestFree (w.hw.host.regions.map (fun x => x.index)) 256 0 with
        | none => refusedWith stNoResource w
        | some i => .reply stDone (leBytes 2 i ++ zeros 2 ++ leBytes 4 (freeOf w % 2 ^ 32) ++ leBytes 8 (e.base + r.arg 8 8))
            (freeUsed (modHost (fun h => { h with
              regions := insertBy (fun x => x.index) (registered r p e.base (freeOf w % 2 ^ 32) i) h.regions }) w)) := by
  simp only [doRegionRegister, hok, hb, hp, he, Bool.not_true, Bool.false_eq_true, if_false, Bool.not_eq_true']
  rfl

end

theorem doRegionRegister_illegal (h : (regionFieldsOk r && regionFits r w) = false) : doRegionRegister r w = malformed w := by
  cases hok : regionFieldsOk r with
  | false => simp only [doRegionRegister, hok, Bool.not_false, if_true]
  | true =>
    rw [hok, Bool.true_and, regionFits, Bool.or_eq_false_iff] at h
    obtain ⟨hb, h⟩ := h
    cases hp : findPlan w.hw (r.arg 0 4) with
    | none =>
      rw [hp] at h
      cases h
    | some p =>
      simp only [hp] at h
      cases he : p.reservations[r.arg 4 2]? with
      | none =>
        rw [he] at h
        cases h
      | some e =>
        simp only [he, Bool.or_eq_false_iff, bne_eq_false_iff_eq, Bool.not_eq_false', decide_eq_false_iff_not, Nat.not_le] at h
        obtain ⟨⟨⟨hc, hk⟩, hf⟩, hl⟩ := h
        rw [doRegionRegister_entry hok hb hp he, if_neg, if_pos hl]
        rintro (h | h | h)
        · exact h hc
        · exact h hk
        · exact Bool.false_ne_true (h.symm.trans hf)

end

/-- Settles O51, a command at a time: what its body answers to legal operands. -/
theorem queuePairCommands : Obligations.QueuePairCommands := by
  unfold Obligations.QueuePairCommands
  intro s c sl
  refine ⟨serves_says (exec_qpCreate ..) (fun r w => else_malformed ?_) fun r w _ reply later h => ?_,
    serves_says (exec_qpConnect ..) (fun r w => else_malformed rfl) fun r w _ reply later h => ?_,
    serves_says (exec_qpDestroy ..) (fun r w => else_malformed rfl) fun r w _ reply later h => ?_,
    serves_says (exec_qpStatus ..) (fun r w => else_malformed rfl) fun r w _ reply later h => ?_,
    serves_says (body := doRegionRegister) (exec_regionRegister ..) (fun r w => ?_) fun r w hl reply later h => ?_,
    serves_says (exec_regionRelease ..) (fun r w => else_malformed rfl) fun r w _ reply later h => ?_⟩
  · simp only [Bool.not_and, ← decide_not, Nat.not_le]
  · intro used n fresh busy
    have hn {o : Option Nat} (ho : n = o) : (if r.arg 0 2 = 0xFFFF then lowestFree (w.hw.host.qps.map (fun q => q.index)) 4096 0
        else some (r.arg 0 2)) = o := ho
    refine ⟨fun hb => says_then h hb, fun hb ho => ?_, fun i hb ho hu => ?_, fun i hb ho hu => ?_⟩
    · replace h := says_else h (ne_true_of_eq_false hb)
      simp only [hn ho] at h
      exact h
    · replace h := says_else h (ne_true_of_eq_false hb)
      simp only [hn ho] at h
      exact says_then h hu
    · replace h := says_else h (ne_true_of_eq_false hb)
      simp only [hn ho] at h
      exact says_else h (ne_true_of_eq_false hu)
  · intro i now
    have hi {o : Option Qp} (ho : findQp w.hw i = o) : findQp w.hw (r.arg 0 2) = o := ho
    refine ⟨fun hq => ?_, fun q hq hs ho => ?_, fun q hq hs => ?_⟩
    · simp only [hi hq] at h
      exact h
    · simp only [hi hq] at h
      exact says_then h ⟨hs, by simpa using ho⟩
    · simp only [hi hq] at h
      refine says_else h ?_
      rintro ⟨h1, ho⟩
      rcases hs with hs | hs
      · exact hs h1
      · rw [hs] at ho
        cases ho
  · refine ⟨fun hq => ?_, fun q hq => ⟨fun ho => ?_, fun ho => ?_⟩⟩
    · simp only [hq] at h
      exact h
    · simp only [hq] at h
      exact says_then h (by simpa using ho)
    · simp only [hq] at h
      exact says_else h (by simpa using ho)
  · refine ⟨fun hq => ?_, fun q hq => ?_⟩
    · simp only [hq] at h
      exact h
    · simp only [hq] at h
      exact h
  · by_cases hl : (regionFieldsOk r && regionFits r w) = true
    · exact (if_pos hl).symm
    · exact (doRegionRegister_illegal (Bool.eq_false_iff.mpr hl)).trans (if_neg hl).symm
  · obtain ⟨hok, hfits⟩ := Bool.and_eq_true_iff.mp hl
    refine ⟨fun hb => ?_, fun hb => ⟨fun hp => ?_, fun p hp => ⟨fun he => ?_, fun e he => ⟨fun hno => ?_, fun hc hk hf => ?_⟩⟩⟩⟩
    · rw [doRegionRegister_busy hok hb] at h
      exact h
    · rw [doRegionRegister_noPlan hok hb hp] at h
      exact h
    · rw [doRegionRegister_noEntry hok hb hp he] at h
      exact h
    · rw [doRegionRegister_entry hok hb hp he] at h
      exact says_then h hno
    · intro n key new
      have hlen : ¬e.pages * 65536 < r.arg 8 8 + r.arg 0x10 8 := by
        rw [hb, Bool.false_or] at hfits
        simpa only [hp, he, hc, hk, hf, bne_self_eq_false, Bool.not_true, Bool.false_or, decide_eq_true_iff, Nat.not_lt] using hfits
      have hgrant : ¬(p.channel ≠ r.channel ∨ e.kind ≠ 1 ∨ bit e.flags 0 = false) :=
        not_or_intro (not_not_intro hc) (not_or_intro (not_not_intro hk) (ne_false_of_eq_true hf))
      rw [doRegionRegister_entry hok hb hp he] at h
      replace h := says_else (says_else h hgrant) hlen
      have hn {o : Option Nat} (ho : n = o) : lowestFree (w.hw.host.regions.map (fun x => x.index)) 256 0 = o := ho
      refine ⟨fun ho => ?_, fun i ho => ?_⟩
      · simp only [hn ho] at h
        exact h
      · simp only [hn ho] at h
        exact h
  · intro i
    have hi {o : Option Region} (ho : findRegion w.hw i = o) : findRegion w.hw (r.arg 0 2) = o := ho
    refine ⟨fun hx => ?_, fun x hx => ⟨fun hb => ?_, fun hb => ?_⟩⟩
    · simp only [hi hx] at h
      exact h
    · simp only [hi hx] at h
      exact says_then h hb
    · simp only [hi hx, List.isEmpty_iff] at h
      exact says_else h (ne_true_of_eq_false hb)

end Sys2Proof.Machine
end

section
/-! PROOFS. Plan, context, overrun, time, floor and partition commands (R33, R38, R41, R48 to R55, R75, R108, R351 to R362). -/
namespace Sys2Proof.Machine

open Sys2Proof

/-- What the operands of a request that passes its checks answer is what its command does. -/
theorem passes_says {i : Instr} {s : State} {code : Nat} {refuse : Nat → Request → Work → Work} {permit : Hw → Request → Bool}
    {act : Request → Work → Answer} {c sl : Nat} {r : Request} {w : Work}
    (hi : exec i s = run s (serveWith code refuse permit act c sl)) (h : Passes s code permit c sl r w) :
    (act r w).says (Replies i s r) (Pends i s r) := by
  cases ha : act r w with
  | reply status payload v => exact replies_of i s code refuse permit act c sl r w v status payload hi h ha
  | later target v => exact pends_of i s code refuse permit act c sl r w v target hi h ha

/-! ## The stages of an admission -/

section
variable (r : Request) (b : List Byte) (sh : PlanShape) (id : Nat) (w : Work)

/-- A refused admission (R351). -/
def planRefused (f : PlanFail) : Answer := .reply f.status (admitRefusal id f) w

/-- The check of the groups of a placed plan, and its admission (R49, R51). -/
def admitGroups (placed : List Reservation) (spill : Nat) : Answer :=
  match groupSlots w.hw b sh with
  | .error f => planRefused id w f
  | .ok groups => .later (some (5, id)) (admitPlan r b sh placed spill groups w)

/-- The runs of a partition's share that a plan's placed reservations leave in use. -/
def spillUsed (taken : List (Place × (Nat × Nat))) : List (Nat × Nat) :=
  usedRuns w.hw (.share (field b 0x0D 1)) ++ (taken.filter (fun t => t.1 == .share (field b 0x0D 1))).map (fun t => t.2)

/-- The spill run of a plan whose reservations are placed. -/
def spillRun (placed : List Reservation) (taken : List (Place × (Nat × Nat))) : Except Nat Nat :=
  if spillPagesOf placed = 0 then .ok 0
  else placeRun w.hw (.share (field b 0x0D 1)) (spillUsed b w taken) (spillPagesOf placed * 65536)

/-- The placement of a plan that may be placed. -/
def admitPlaced : Answer :=
  match placeTable w.hw (field b 0x0D 1) (sh.reservations.map (readReservation b)) with
  | .error f => planRefused id w f
  | .ok (placed, taken) => match spillRun b w placed taken with
    | .error n => planRefused id w ⟨stNoCapacity, 2, spillPagesOf placed, n⟩
    | .ok spill => admitGroups r b sh id w placed spill

/-- The checks of capacity, and the placement. -/
def admitCapacity : Answer :=
  match capacityChecks w.hw b sh with
  | some f => planRefused id w f
  | none => admitPlaced r b sh id w

/-- The checks of the fields of a plan whose identifier is new. -/
def admitFields : Answer :=
  match least (planFaults w.hw b sh) with
  | some i => planRefused id w ⟨stMalformed, i, 0, 0⟩
  | none => if !ownPart w.hw r (field b 0x0D 1) then planRefused id w ⟨stNotPermitted, 0, 0, 0⟩ else admitCapacity r b sh id w

/-- The checks of a plan whose tables lie in it. -/
def admitShaped : Answer :=
  if targetBusy w.hw 5 id || bindsBusy w.hw b sh then planRefused id w ⟨stTargetBusy, 0, 0, 0⟩
  else if (findPlan w.hw id).isSome then planRefused id w ⟨stMalformed, 4, 0, 0⟩
  else admitFields r b sh id w

/-- The checks of a plan that was read. -/
def admitRead : Answer :=
  match planShape b with
  | .error i => planRefused id w ⟨stMalformed, i, 0, 0⟩
  | .ok sh => admitShaped r b sh id w

end

section
variable {r : Request} {b : List Byte} {sh : PlanShape} {id : Nat} {w : Work}

/-- The identifier that a refused admission of some bytes names. -/
def planIdOf (b : List Byte) (len : Nat) : Nat := if len < 8 then 0 else field b 4 4

theorem admitRead_error {i : Nat} (h : planShape b = .error i) : admitRead r b id w = planRefused id w ⟨stMalformed, i, 0, 0⟩ := by
  simp only [admitRead, h]

theorem admitRead_ok (h : planShape b = .ok sh) : admitRead r b id w = admitShaped r b sh id w := by
  simp only [admitRead, h]

theorem admitFields_fault {i : Nat} (h : least (planFaults w.hw b sh) = some i) :
    admitFields r b sh id w = planRefused id w ⟨stMalformed, i, 0, 0⟩ := by
  simp only [admitFields, h]

theorem admitFields_good (h : least (planFaults w.hw b sh) = none) : admitFields r b sh id w =
    if (!ownPart w.hw r (field b 0x0D 1)) = true then planRefused id w ⟨stNotPermitted, 0, 0, 0⟩ else admitCapacity r b sh id w := by
  simp only [admitFields, h]

theorem admitCapacity_short {f : PlanFail} (h : capacityChecks w.hw b sh = some f) : admitCapacity r b sh id w = planRefused id w f := by
  simp only [admitCapacity, h]

theorem admitCapacity_enough (h : capacityChecks w.hw b sh = none) : admitCapacity r b sh id w = admitPlaced r b sh id w := by
  simp only [admitCapacity, h]

theorem admitPlaced_error {f : PlanFail} (h : placeTable w.hw (field b 0x0D 1) (sh.reservations.map (readReservation b)) = .error f) :
    admitPlaced r b sh id w = planRefused id w f := by
  simp only [admitPlaced, h]

section
variable {placed : List Reservation} {taken : List (Place × (Nat × Nat))}
  (h : placeTable w.hw (field b 0x0D 1) (sh.reservations.map (readReservation b)) = .ok (placed, taken))
include h

theorem admitPlaced_noSpill {n : Nat} (hn : spillRun b w placed taken = .error n) :
    admitPlaced r b sh id w = planRefused id w ⟨stNoCapacity, 2, spillPagesOf placed, n⟩ := by
  simp only [admitPlaced, h, hn]

theorem admitPlaced_spill {a : Nat} (ha : spillRun b w placed taken = .ok a) :
    admitPlaced r b sh id w = admitGroups r b sh id w placed a := by
  simp only [admitPlaced, h, ha]

end

theorem admitGroups_error {placed : List Reservation} {a : Nat} {f : PlanFail} (h : groupSlots w.hw b sh = .error f) :
    admitGroups r b sh id w placed a = planRefused id w f := by
  simp only [admitGroups, h]

theorem admitGroups_ok {placed : List Reservation} {a : Nat} {groups : List Group} (h : groupSlots w.hw b sh = .ok groups) :
    admitGroups r b sh id w placed a = .later (some (5, id)) (admitPlan r b sh placed a groups w) := by
  simp only [admitGroups, h]

theorem admitRequest_eq : admitRequest r w =
    if (targetBusy w.hw 1 0 || targetBusy w.hw 2 0) = true then planRefused 0 w ⟨stTargetBusy, 0, 0, 0⟩
    else if (!r.shape 16 [(12, 4)] || r.arg 0 8 % 16 != 0 || r.arg 0 8 < loadArea r.channel
        || loadArea r.channel + 0x10000000 < r.arg 0 8 + r.arg 8 4) = true then planRefused 0 w ⟨stMalformed, 0, 0, 0⟩
    else if (!w.good (r.arg 0 8) (r.arg 8 4)) = true then planRefused 0 w ⟨stUncorrectable, 0, 0, 0⟩
    else admitRead r (w.read (r.arg 0 8) (r.arg 8 4)) (planIdOf (w.read (r.arg 0 8) (r.arg 8 4)) (r.arg 8 4)) w := by
  refine if_congr Iff.rfl rfl (if_congr Iff.rfl rfl (if_congr Iff.rfl rfl ?_))
  generalize w.read (r.arg 0 8) (r.arg 8 4) = b
  dsimp only
  cases hs : planShape b with
  | error i => exact (admitRead_error hs).symm
  | ok sh =>
    refine (if_congr Iff.rfl rfl (if_congr Iff.rfl rfl ?_)).trans (admitRead_ok hs).symm
    cases hf : least (planFaults w.hw b sh) with
    | some i => exact (admitFields_fault hf).symm
    | none =>
      refine (if_congr Iff.rfl rfl ?_).trans (admitFields_good hf).symm
      cases hc : capacityChecks w.hw b sh with
      | some f => exact (admitCapacity_short hc).symm
      | none =>
        refine Eq.trans ?_ (admitCapacity_enough hc).symm
        cases ht : placeTable w.hw (field b 0x0D 1) (sh.reservations.map (readReservation b)) with
        | error f => exact (admitPlaced_error ht).symm
        | ok placed =>
          rw [admitPlaced, ht]
          rfl

section
variable {reply : Nat → List Byte → Work → Prop} {later : Option (Nat × Nat) → Work → Prop}

theorem admitPlaced_says (h : (admitPlaced r b sh id w).says reply later) {placed : List Reservation} {taken : List (Place × (Nat × Nat))}
    (hp : placeTable w.hw (field b 0x0D 1) (sh.reservations.map (readReservation b)) = .ok (placed, taken)) :
    (∀ n, spillRun b w placed taken = .error n →
      reply stNoCapacity (admitRefusal id ⟨stNoCapacity, 2, spillPagesOf placed, n⟩) w)
    ∧ (∀ a, spillRun b w placed taken = .ok a →
      (∀ f, groupSlots w.hw b sh = .error f → reply f.status (admitRefusal id f) w)
      ∧ (∀ groups, groupSlots w.hw b sh = .ok groups → later (some (5, id)) (admitPlan r b sh placed a groups w))) := by
  refine ⟨fun n hn => ?_, fun a ha => ⟨fun f hf => ?_, fun groups hg => ?_⟩⟩
  · rwa [admitPlaced_noSpill hp hn] at h
  · rwa [admitPlaced_spill hp ha, admitGroups_error hf] at h
  · rwa [admitPlaced_spill hp ha, admitGroups_ok hg] at h

/-- An admission whose identifier is neither busy nor known goes on with the fields. -/
theorem admitShaped_fresh (hf : (targetBusy w.hw 5 id || bindsBusy w.hw b sh) = false ∧ findPlan w.hw id = none) :
    admitShaped r b sh id w = admitFields r b sh id w := by
  rw [admitShaped, if_neg (ne_true_of_eq_false hf.1), if_neg]
  rw [hf.2]
  exact Bool.false_ne_true

end
end

/-! ## O52 -/

/-- Settles O52, a command at a time: an admission by its stages, the other commands by what their bodies answer to legal operands. -/
theorem planCommands : Obligations.PlanCommands := by
  unfold Obligations.PlanCommands
  intro s c sl
  refine ⟨fun r w hp => ?_,
    serves_says (exec_planRelease ..) (fun r w => else_malformed rfl) fun r w _ reply later h => ⟨fun hb => ?_, fun hb hn => ?_, fun hb hn => ?_⟩,
    serves_says (exec_planList ..) (fun r w => else_malformed rfl) fun r w _ reply later h => h,
    serves_says (exec_ctxStatusRead ..) (fun r w => else_malformed ?_) fun r w _ reply later h => ⟨fun hn => ?_, fun p core hn => ?_⟩,
    serves_says (exec_coreFaultRead ..) (fun r w => else_malformed ?_) fun r w _ reply later h => ⟨fun hn => ?_, fun f hn => ?_⟩,
    serves_says (exec_overrunRead ..) (fun r w => else_malformed ?_) fun r w _ reply later h => h,
    serves_says (exec_tickPeriodSet ..) (fun r w => else_malformed ?_) fun r w _ reply later h =>
      ⟨fun hb => says_then h hb, fun hb hn => ?_, fun hb hn => ?_⟩,
    serves_says (exec_timeRoleSet ..) (fun r w => else_malformed ?_) fun r w _ reply later h => h,
    serves_says (exec_timeRead ..) (fun r w => else_malformed rfl) fun r w _ reply later h => h,
    fun r w hp => ?_,
    serves_says (exec_partitionSet ..) (fun r w => else_malformed ?_) fun r w _ reply later h =>
      ⟨fun hb => says_then h hb, fun hb hn => ?_, fun hb hn => ?_⟩⟩
  · intro addr len b part busy legal refused
    have h := passes_says (exec_planAdmit ..) hp
    rw [admitRequest_eq] at h
    have hlegal : (!r.shape 16 [(12, 4)] || addr % 16 != 0 || addr < loadArea r.channel || loadArea r.channel + 0x10000000 < addr + len)
        = !legal := by
      simp only [legal, Bool.not_and, ← decide_not, Nat.not_le, bne]
    refine ⟨fun hb => says_then h hb, fun hb hl => ?_, fun hb hl hg => ?_, fun hb hl hg => ?_⟩
    · exact says_then (says_else h (ne_true_of_eq_false hb)) (hlegal.trans (by rw [hl]; rfl))
    all_goals replace h := says_else (says_else h (ne_true_of_eq_false hb)) (ne_true_of_eq_false (hlegal.trans (by rw [hl]; rfl)))
    · exact says_then h (by rw [hg]; rfl)
    · replace h := says_else h (ne_true_of_eq_false (by rw [hg]; rfl))
      intro id
      change (admitRead r b id w).says _ _ at h
      refine ⟨fun e he => ?_, fun sh hs => ?_⟩
      · rwa [admitRead_error he] at h
      · rw [admitRead_ok hs] at h
        intro held fresh
        refine ⟨fun hh => says_then h hh, fun hh hn => ?_, fun e hf he => ?_, fun hf hl ho => ?_, fun hf hl ho => ?_⟩
        · exact says_then (says_else h (ne_true_of_eq_false hh)) (Option.isSome_iff_ne_none.mpr hn)
        all_goals rw [admitShaped_fresh hf] at h
        · rwa [admitFields_fault he] at h
        all_goals rw [admitFields_good hl] at h
        · exact says_then h (by rw [ho]; rfl)
        · replace h := says_else h (ne_true_of_eq_false (by rw [ho]; rfl))
          refine ⟨fun f hc => ?_, fun hc => ⟨fun f ht => ?_, fun placed taken ht => ?_⟩⟩
          · rwa [admitCapacity_short hc] at h
          · rwa [admitCapacity_enough hc, admitPlaced_error ht] at h
          · rw [admitCapacity_enough hc] at h
            exact admitPlaced_says h ht
  · exact says_then h hb
  · replace h := says_else h (ne_true_of_eq_false hb)
    simp only [hn] at h
    exact h
  · obtain ⟨p, hp⟩ := Option.ne_none_iff_exists'.mp hn
    replace h := says_else h (ne_true_of_eq_false hb)
    simp only [hp] at h
    exact h
  · simp only [Bool.not_and, ← decide_not, Nat.not_le]
  · simp only [hn] at h
    exact h
  · simp only [hn] at h
    exact h
  · simp only [Bool.not_and, ← decide_not, Nat.not_le]
  · simp only [hn] at h
    exact h
  · simp only [hn] at h
    exact h
  · rw [Bool.not_and]
  · rw [Bool.not_and]
  · exact says_then (says_else h (ne_true_of_eq_false hb)) (by simpa using hn)
  · exact says_else (says_else h (ne_true_of_eq_false hb)) (by simp [hn])
  · simp only [Bool.not_and, ← decide_not, Nat.not_le]
  · intro floor legal conflict
    have h := passes_says (exec_floorSet ..) hp
    have hconflict {o : Option Nat} (ho : conflict = o) : floorConflict w.hw (r.arg 0 1) = o := ho
    refine ⟨fun hl => says_then h ?_, fun id hl hc => ?_, fun hl hc => ?_⟩
    · rw [← Bool.not_and]
      exact congrArg _ hl
    all_goals replace h := says_else h (by rw [← Bool.not_and]; exact ne_true_of_eq_false (congrArg _ hl))
    · simp only [hconflict hc] at h
      exact h
    · simp only [hconflict hc] at h
      exact h
  · rw [Bool.not_and]
  · exact says_then (says_else h (ne_true_of_eq_false hb)) (by simpa using hn)
  · exact says_else (says_else h (ne_true_of_eq_false hb)) (by simp [hn])

end Sys2Proof.Machine
end

section
/-! PROOFS. Object, journal and pager commands (R188 to R192, R205, R208, R352). -/
namespace Sys2Proof.Machine

open Sys2Proof

/-! ## A copy of an object -/

section
variable {write : Bool} {r : Request} {w : Work} {x : Region} {p : Plan} {o : PObj}

/-- The copy that a request begins (R352). -/
def copyOf (write : Bool) (r : Request) (part : Nat) : ObjCopy :=
  ⟨r.channel, r.slot, write, part, r.arg 0 4, r.arg 4 4, r.arg 8 4, r.arg 12 2, r.arg 20 8, 0⟩

/-- The checks of a copy whose object is found (R352). -/
def copyObject (write : Bool) (r : Request) (part : Nat) (x : Region) (o : PObj) (w : Work) : Answer :=
  if o.bound.isSome then refusedWith stObjectBusy w
  else if o.pages < r.arg 4 4 + r.arg 8 4 ∨ x.length < r.arg 20 8 + r.arg 8 4 * 65536 then malformed w
  else .later none (modHost (fun h => { h with copies := h.copies ++ [copyOf write r part] }) w)

section
variable (hl : (!r.shape 28 [(14, 6)] || !inRange 1 16384 (r.arg 8 4) || r.arg 20 8 % 65536 != 0) = false)
  (hb : regionBusy w.hw (r.arg 12 2) = false)
include hl hb

theorem doObjectCopy_noRegion (hx : findRegion w.hw (r.arg 12 2) = none) : doObjectCopy write r w = refusedWith stNotFound w := by
  simp only [doObjectCopy, hl, hb, hx, Bool.false_eq_true, if_false]

variable (hx : findRegion w.hw (r.arg 12 2) = some x)
include hx

theorem doObjectCopy_noPlan (hp : findPlan w.hw x.plan = none) : doObjectCopy write r w = refusedWith stNotFound w := by
  simp only [doObjectCopy, hl, hb, hx, hp, Bool.false_eq_true, if_false]

variable (hp : findPlan w.hw x.plan = some p)
include hp

theorem doObjectCopy_foreign (hc : p.channel ≠ r.channel) : doObjectCopy write r w = refusedWith stNotPermitted w := by
  simp only [doObjectCopy, hl, hb, hx, hp, Bool.false_eq_true, if_false]
  exact if_pos hc

variable (hc : p.channel = r.channel)
include hc

theorem doObjectCopy_busy (ho : objectBusy w.hw p.part (r.arg 0 4) = true) : doObjectCopy write r w = refusedWith stTargetBusy w := by
  simp only [doObjectCopy, hl, hb, hx, hp, hc, ho, Bool.false_eq_true, if_false, ne_eq, not_true_eq_false, if_true]

variable (hfree : objectBusy w.hw p.part (r.arg 0 4) = false)
include hfree

theorem doObjectCopy_noObject (ho : findObject w.hw p.part (r.arg 0 4) = none) : doObjectCopy write r w = refusedWith stNotFound w := by
  simp only [doObjectCopy, hl, hb, hx, hp, hc, hfree, ho, Bool.false_eq_true, if_false, ne_eq, not_true_eq_false]

theorem doObjectCopy_object (ho : findObject w.hw p.part (r.arg 0 4) = some o) : doObjectCopy write r w = copyObject write r p.part x o w := by
  simp only [doObjectCopy, hl, hb, hx, hp, hc, hfree, ho, Bool.false_eq_true, if_false, ne_eq, not_true_eq_false, copyObject, copyOf]

end
end

/-! ## A copy that goes on -/

/-- A copy is that of a channel and slot. -/
def copyAt (channel slot : Nat) (x : ObjCopy) : Bool := x.channel == channel && x.slot == slot

/-- The copy of a channel and slot ends, and its command is answered (R352). -/
def copyEnds (channel slot status : Nat) (payload : List Byte) (w : Work) : Work :=
  answerLater channel slot status payload (modHost (fun h => { h with copies := h.copies.filter (fun x => !copyAt channel slot x) }) w)

section
variable {channel slot : Nat} {t3 : T3Read} {w : Work}

theorem continueCopy_none (h : w.hw.host.copies.find? (copyAt channel slot) = none) : continueCopy channel slot t3 w = w := by
  simp only [continueCopy]
  rw [show w.hw.host.copies.find? (fun c => c.channel == channel && c.slot == slot) = none from h]

variable {c : ObjCopy} (h : w.hw.host.copies.find? (copyAt channel slot) = some c)
include h

theorem continueCopy_stopped (hp : pagerLive w.hw = false) : continueCopy channel slot t3 w = w := by
  simp only [continueCopy]
  rw [show w.hw.host.copies.find? (fun c => c.channel == channel && c.slot == slot) = some c from h]
  exact if_pos (by rw [hp]; rfl)

variable (hp : pagerLive w.hw = true)
include hp

theorem continueCopy_gone (hg : findRegion w.hw c.region = none ∨ findObject w.hw c.part c.obj = none) :
    continueCopy channel slot t3 w = copyEnds channel slot stNotFound (leBytes 4 c.done) w := by
  simp only [continueCopy]
  rw [show w.hw.host.copies.find? (fun c => c.channel == channel && c.slot == slot) = some c from h]
  refine (if_neg (by rw [hp]; exact Bool.false_ne_true)).trans ?_
  cases hr : findRegion w.hw c.region with
  | none => rfl
  | some reg =>
    cases ho : findObject w.hw c.part c.obj with
    | none => rfl
    | some o =>
      rcases hg with hg | hg
      · cases hr.symm.trans hg
      · cases ho.symm.trans hg

theorem continueCopy_pages {reg : Region} {o : PObj} (hr : findRegion w.hw c.region = some reg) (ho : findObject w.hw c.part c.obj = some o) :
    continueCopy channel slot t3 w =
      if (copyPages c reg o t3 (c.count - c.done) c.done w).2.1 = true then
        copyEnds channel slot stUncorrectable (leBytes 4 (copyPages c reg o t3 (c.count - c.done) c.done w).1)
          (copyPages c reg o t3 (c.count - c.done) c.done w).2.2
      else if (copyPages c reg o t3 (c.count - c.done) c.done w).1 = c.count then
        copyEnds channel slot stDone [] (copyPages c reg o t3 (c.count - c.done) c.done w).2.2
      else modHost (fun h => { h with copies := h.copies.map (fun x =>
        if copyAt channel slot x then { x with done := (copyPages c reg o t3 (c.count - c.done) c.done w).1 } else x) })
        (copyPages c reg o t3 (c.count - c.done) c.done w).2.2 := by
  simp only [continueCopy]
  rw [show w.hw.host.copies.find? (fun c => c.channel == channel && c.slot == slot) = some c from h]
  refine (if_neg (by rw [hp]; exact Bool.false_ne_true)).trans ?_
  rw [hr, ho]
  rfl

end

/-! ## O53 -/

/-- Settles O53, a command at a time: the bodies of the mailbox commands, and the outcomes of a copy that goes on. -/
theorem objectCommands : Obligations.ObjectCommands := by
  unfold Obligations.ObjectCommands
  intro s c sl copies
  have hcopies {i : Instr} {code : Nat} {write : Bool}
      (hi : exec i s = run s (serve code (fun hw r => ownRegion hw r (r.arg 12 2)) (doObjectCopy write) c.val sl.val)) : copies i code write := by
    intro r w hpass legal
    have h := passes_says hi hpass
    have hbad : (!r.shape 28 [(14, 6)] || !inRange 1 16384 (r.arg 8 4) || r.arg 20 8 % 65536 != 0) = !legal := by
      simp only [legal, Bool.not_and, bne]
    have hlegal (hl : legal = true) := hbad.trans (congrArg (!·) hl)
    refine ⟨fun hl => says_then h (hbad.trans (congrArg (!·) hl)),
      fun hl hb => says_then (says_else h (ne_true_of_eq_false (hlegal hl))) hb, fun hl hb hx => ?_,
      fun x hl hb hx => ⟨fun hp => ?_, fun p hp => ⟨fun hc => ?_, fun hc ho => ?_, fun hc hf ho => ?_⟩⟩, fun x p o hl hb hx hp hc hf ho => ?_⟩
    · rwa [doObjectCopy_noRegion (hlegal hl) hb hx] at h
    · rwa [doObjectCopy_noPlan (hlegal hl) hb hx hp] at h
    · rwa [doObjectCopy_foreign (hlegal hl) hb hx hp hc] at h
    · rwa [doObjectCopy_busy (hlegal hl) hb hx hp hc ho] at h
    · rwa [doObjectCopy_noObject (hlegal hl) hb hx hp hc hf ho] at h
    · rw [doObjectCopy_object (hlegal hl) hb hx hp hc hf ho] at h
      refine ⟨fun hn => says_then h (Option.isSome_iff_ne_none.mpr hn), fun hn hm => ?_, fun hn h1 h2 => ?_⟩
      · exact says_then (says_else h (by rw [hn]; exact Bool.false_ne_true)) hm
      · exact says_else (says_else h (by rw [hn]; exact Bool.false_ne_true)) (not_or_intro (Nat.not_lt.mpr h1) (Nat.not_lt.mpr h2))
  refine ⟨serves_says (exec_objectCreate ..) (fun r w => else_malformed ?_) fun r w _ reply later h => ?_,
    serves_says (exec_objectDelete ..) (fun r w => else_malformed ?_) fun r w _ reply later h => ?_,
    hcopies (exec_objectRead ..), hcopies (exec_objectWrite ..), fun t3 hn => ?_, fun x t3 hx => ?_,
    serves_says (exec_objectStatus ..) (fun r w => else_malformed ?_) fun r w _ reply later h => ?_,
    serves_says (exec_journalFlush ..) (fun r w => else_malformed rfl) fun r w _ reply later h => h,
    serves_says (exec_pagerRead ..) (fun r w => else_malformed ?_) fun r w _ reply later h => h⟩
  · simp only [Bool.not_and, Bool.not_or, Bool.not_not, ← decide_not, Nat.not_le, Nat.not_lt, bne]
  · intro part o full
    refine ⟨fun hp => says_then h (by rw [hp]; rfl), fun hp hb => ?_, fun hp hb => ?_⟩
    all_goals replace h := says_else h (by rw [hp]; exact Bool.false_ne_true)
    · exact says_then h hb
    · replace h := says_else h (ne_true_of_eq_false hb)
      refine ⟨fun he => says_then h he, fun he hf => ?_, fun he hf hc => ?_, fun he hf hc => ?_⟩
      all_goals replace h := says_else h (by rw [he]; exact Bool.false_ne_true)
      · exact says_then h hf
      · exact says_then (says_else h hf) hc
      · exact says_else (says_else h hf) (Nat.not_lt.mpr hc)
  · simp only [Bool.not_and, ← decide_not, Nat.not_lt]
  · intro part id
    refine ⟨fun hb => says_then h hb, fun hb hn => ?_, fun o hb ho => ⟨fun hn => ?_, fun hn => ?_⟩⟩
    all_goals replace h := says_else h (ne_true_of_eq_false hb)
    · rw [hn] at h
      exact h
    · rw [ho] at h
      exact says_then h (Option.isSome_iff_ne_none.mpr hn)
    · rw [ho] at h
      exact says_else h (by rw [hn]; exact Bool.false_ne_true)
  · exact answersWith_run _ s _ _ (exec_objectCopyDone ..) (continueCopy_none hn)
  · intro mine ended
    have answers {v : Work} (hv : continueCopy c.val sl.val t3 (beginWork s) = v) : AnswersWith (.objectCopyDone c sl t3) s v :=
      answersWith_run _ s _ _ (exec_objectCopyDone ..) hv
    refine ⟨fun hp => answers (continueCopy_stopped hx hp), fun hp hg => answers (continueCopy_gone hx hp hg), fun reg o hp hr ho => ?_⟩
    have hpages := continueCopy_pages (t3 := t3) (w := beginWork s) hx hp hr ho
    exact ⟨fun hf => answers (hpages.trans (if_pos hf)),
      fun hf hd => answers (hpages.trans ((if_neg (ne_true_of_eq_false hf)).trans (if_pos hd))),
      fun hf hd => answers (hpages.trans ((if_neg (ne_true_of_eq_false hf)).trans (if_neg hd)))⟩
  · simp only [Bool.not_and, ← decide_not, Nat.not_lt]
  · refine ⟨fun hb => says_then h hb, fun hb hn => ?_, fun o hb ho => ?_⟩
    all_goals replace h := says_else h (ne_true_of_eq_false hb)
    · rw [hn] at h
      exact h
    · rw [ho] at h
      exact h
  · simp only [Bool.not_and, ← decide_not, Nat.not_lt]

end Sys2Proof.Machine
end

section
/-! PROOFS. Group, plane port, counter, trace and monitor commands (R263, R278, R363, R364, R540 to R554). -/
namespace Sys2Proof.Machine

open Sys2Proof

section
variable {r : Request} {w : Work}

/-- The operands of `PLINK_SET` that are legal (R363). -/
def plinkSetLegal (r : Request) : Bool := r.shape 4 [(2, 2)] && r.arg 0 1 ≤ 5 && r.arg 1 1 ≤ 3

/-- A port is enabled where it is disabled, and published (R278, R363). -/
def plinkEnable (r : Request) (w : Work) : Answer :=
  if (portOf w.hw (r.arg 0 1)).state ≠ .disabled then accepted w
  else accepted (publishUnit (17 + r.arg 0 1) 0 0 (modPort (r.arg 0 1) (fun q => { q with
    state := afterDown (modPort (r.arg 0 1) (fun q => { q with enabled := true }) w).hw (r.arg 0 1) })
    (modPort (r.arg 0 1) (fun q => { q with enabled := true }) w)))

/-- A port is disabled, and published (R278, R363). -/
def plinkDisable (r : Request) (w : Work) : Answer :=
  accepted (publishUnit (17 + r.arg 0 1) 5 6 (linkDown (r.arg 0 1) 6 .disabled (modPort (r.arg 0 1) (fun q => { q with
    enabled := false
    retryAt := none }) w)))

/-- A port that is `ACTIVE` is trained again (R278, R363). -/
def plinkRetrain (r : Request) (w : Work) : Answer :=
  if (portOf w.hw (r.arg 0 1)).state ≠ .active then accepted w
  else accepted (modPort (r.arg 0 1) (fun q => { q with fullTraining := r.arg 1 1 == 3 }) (linkDown (r.arg 0 1) 6 (afterDown w.hw (r.arg 0 1)) w))

/-- What `PLINK_SET` does by its action (R363). -/
def plinkAction (r : Request) (w : Work) : Answer :=
  if r.arg 1 1 = 0 then plinkEnable r w else if r.arg 1 1 = 1 then plinkDisable r w else plinkRetrain r w

theorem doPlinkSet_eq : doPlinkSet r w = if plinkSetLegal r = true then
    (if portBusy w.hw 5 (r.arg 0 1) = true then refusedWith stTargetBusy w else plinkAction r w) else malformed w := by
  refine Eq.trans ?_ (else_malformed (bad := !r.shape 4 [(2, 2)] || 5 < r.arg 0 1 || 3 < r.arg 1 1) ?_)
  · refine if_congr Iff.rfl rfl (if_congr Iff.rfl rfl ?_)
    rw [plinkAction, plinkRetrain]
    generalize r.arg 1 1 = action
    match action with
    | 0 => rfl
    | 1 => rfl
    | _ + 2 => rfl
  · simp only [plinkSetLegal, Bool.not_and, ← decide_not, Nat.not_le]

theorem plinkAction_enable (h : r.arg 1 1 = 0) : plinkAction r w = plinkEnable r w := if_pos h

theorem plinkAction_disable (h : r.arg 1 1 = 1) : plinkAction r w = plinkDisable r w :=
  (if_neg (by rw [h]; exact Nat.one_ne_zero)).trans (if_pos h)

theorem plinkAction_retrain (h : 2 ≤ r.arg 1 1) : plinkAction r w = plinkRetrain r w :=
  (if_neg (Nat.ne_of_gt (Nat.lt_of_lt_of_le Nat.zero_lt_two h))).trans (if_neg (Nat.ne_of_gt h))

end

/-! ## O54 -/

/-- Settles O54, a command at a time: what its body answers to legal operands. -/
theorem portAndObservationCommands : Obligations.PortAndObservationCommands := by
  unfold Obligations.PortAndObservationCommands
  intro s c sl
  refine ⟨serves_says (exec_groupRead ..) (fun r w => else_malformed ?_) fun r w _ reply later h => ⟨fun hn => ?_, fun g hg => ⟨fun ho => ?_, fun ho => ?_⟩⟩,
    serves_says (exec_plinkSet ..) (fun r w => doPlinkSet_eq) fun r w _ reply later h => ?_,
    serves_says (exec_plinkArbSet ..) (fun r w => else_malformed ?_) fun r w _ reply later h =>
      ⟨fun hb => says_then h hb, fun hb => says_else h (ne_true_of_eq_false hb)⟩,
    serves_says (exec_plinkRead ..) (fun r w => else_malformed ?_) fun r w _ reply later h => h,
    serves_says (exec_counterRead ..) (fun r w => else_malformed ?_) fun r w _ reply later h => h,
    serves_says (exec_traceSet ..) (fun r w => else_malformed ?_) fun r w _ reply later h => ?_,
    serves_says (exec_traceRead ..) (fun r w => else_malformed ?_) fun r w _ reply later h => ?_,
    serves_says (exec_stippleSet ..) (fun r w => else_malformed ?_) fun r w _ reply later h => h,
    serves_says (exec_stippleRead ..) (fun r w => else_malformed ?_) fun r w _ reply later h => ?_⟩
  · simp only [Bool.not_and, ← decide_not, Nat.not_le]
  · rw [hn] at h
    exact h
  · rw [hg] at h
    exact says_then h (by rw [ho]; rfl)
  · rw [hg] at h
    replace h := says_else h (by rw [ho]; exact Bool.false_ne_true)
    intro a first
    refine ⟨fun hp => ?_, fun hp => ?_⟩
    · simp only [hp, if_true] at h
      exact h
    · simp only [hp, Nat.one_ne_zero, if_false] at h
      exact h
  · intro p port enabled
    refine ⟨fun hb => says_then h hb, fun hb ha hs => ?_, fun hb ha hs => ?_, fun hb ha => ?_, fun hb ha hs => ?_, fun hb ha hs => ?_⟩
    all_goals replace h := says_else h (ne_true_of_eq_false hb)
    · rw [plinkAction_enable ha] at h
      exact says_then h hs
    · rw [plinkAction_enable ha] at h
      exact says_else h (not_not_intro hs)
    · rwa [plinkAction_disable ha] at h
    · rw [plinkAction_retrain ha] at h
      exact says_then h hs
    · rw [plinkAction_retrain ha] at h
      exact says_else h (not_not_intro hs)
  · simp only [Bool.not_and, Bool.not_not, ← decide_not, Nat.not_le]
  · simp only [Bool.not_and, ← decide_not, Nat.not_le]
  · simp only [Bool.not_and, ← decide_not, Nat.not_le, bne, Bool.not_not]
  · simp only [Bool.not_and, ← decide_not, Nat.not_le, Nat.not_lt]
  · intro grows
    refine ⟨fun hg hp => says_then h ?_, fun hg => says_else h ?_⟩
    · exact Bool.and_eq_true_iff.mpr ⟨hg, by simpa using hp⟩
    · rw [Bool.and_eq_true_iff]
      rintro ⟨h1, h2⟩
      rcases hg with hg | hg
      · exact ne_true_of_eq_false hg h1
      · rw [hg] at h2
        cases h2
  · rw [Bool.not_and]
  · intro b first n
    have hbad {o : Option Nat} (ho : (List.range n).find? (fun i => !(w.good (ringAddr w.hw (first + i)) 32)) = o) :
      (List.range (min (r.arg 8 2) (w.hw.burin.next - max (r.arg 0 8) w.hw.burin.oldest))).find?
        (fun i => !w.good (ringAddr w.hw (max (r.arg 0 8) w.hw.burin.oldest + i)) 32) = o := ho
    refine ⟨fun i hi => ?_, fun hall => ?_⟩
    · simp only [hbad hi] at h
      exact h
    · have hnone : (List.range n).find? (fun i => !(w.good (ringAddr w.hw (first + i)) 32)) = none := by
        rw [List.find?_eq_none]
        intro i hi
        rw [List.all_eq_true.mp hall i hi]
        exact Bool.false_ne_true
      simp only [hbad hnone] at h
      exact h
  · simp only [Bool.not_and, ← decide_not, Nat.not_le]
  · simp only [Bool.not_and, ← decide_not, Nat.not_le]
  · intro all snap payload
    refine ⟨fun hc => ?_, fun hc => ?_⟩
    · simp only [hc, Nat.zero_ne_one, if_false] at h
      exact h
    · simp only [hc, if_true] at h
      exact h

end Sys2Proof.Machine
end

section
/-! PROOFS. Fault history, reaction, reset and hang commands (R479, R481, R484, R492, R505 to R507). -/
namespace Sys2Proof.Machine

open Sys2Proof

/-- The operands of `HANG_SET` are refused where they are not legal (R492): more than four windows, but for 255, or windows that do not fit. -/
theorem hang_refused (shape ticks all unused : Bool) (n total : Nat) :
    (!shape || ticks || (4 < n && n != 255) || (n ≤ 4 && (!all || 262144 < total || !unused)))
      = !(shape && !ticks && (n == 255 || (n ≤ 4 && (all && total ≤ 262144) && unused))) := by
  by_cases hn : n ≤ 4
  · have h255 : (n == 255) = false := beq_eq_false_iff_ne.mpr (by omega)
    simp only [hn, h255, Nat.not_lt.mpr hn, decide_true, decide_false, Bool.false_and, Bool.or_false, Bool.true_and, Bool.false_or, Bool.not_and,
      Bool.not_not, ← decide_not, Nat.not_le, Bool.or_assoc]
  · simp only [hn, Nat.not_le.mp hn, decide_true, decide_false, Bool.false_and, Bool.or_false, Bool.true_and, Bool.not_and, Bool.not_not, bne]

/-- Settles O55, a command at a time: what its body answers to legal operands, and the checks of `HANG_SET`. -/
theorem recoveryCommands : Obligations.RecoveryCommands := by
  unfold Obligations.RecoveryCommands
  intro s c sl
  refine ⟨serves_says (exec_faultHistoryRead ..) (fun r w => else_malformed ?_) fun r w _ reply later h => ?_,
    serves_says (exec_faultReactionSet ..) (fun r w => else_malformed ?_) fun r w _ reply later h =>
      ⟨fun hr => says_then h hr, fun hr => says_else h (ne_true_of_eq_false hr)⟩,
    serves_says (exec_domainReset ..) (fun r w => else_malformed ?_) fun r w _ reply later h =>
      ⟨fun hd => says_then h hd, fun hd => says_else h (Nat.not_le.mpr hd)⟩,
    serves_says (exec_moduleReset ..) (fun r w => rfl) fun r w _ reply later h => ?_, fun r w hp => ?_⟩
  · simp only [Bool.not_and, ← decide_not, Nat.not_le]
  · intro released
    refine ⟨fun ha => ?_, fun ha => ?_⟩
    · simp only [ha, if_true] at h
      exact h
    · simp only [ha, Nat.zero_ne_one, if_false] at h
      exact h
  · simp only [Bool.not_and, ← decide_not, Nat.not_le, List.not_all_eq_any_not]
  · rw [Bool.not_and]
  · have hreset : later none (commandedReset w) := h
    refine ⟨fun hs => ?_, fun hs hl => ?_⟩
    · rwa [commandedReset, if_pos] at hreset
      rcases hs with hs | hs
      · rw [hs]
        rfl
      · rw [hs]
        exact Bool.or_true _
    · rwa [commandedReset, if_neg] at hreset
      rw [hs, hl]
      exact Bool.false_ne_true
  · intro n wins fits unused legal taken
    have h := passes_says (exec_hangSet ..) hp
    have hbad := hang_refused (r.shape 36 [(2, 2)]) (r.arg 0 1 == 1) (wins.all windowOk) unused n ((wins.map (fun x => x.2)).foldl (· + ·) 65536)
    refine ⟨fun hl => says_then h (hbad.trans (congrArg (!·) hl)), fun hl hn => ?_, fun hl hn => ?_⟩
    all_goals replace h := says_else h (ne_true_of_eq_false (hbad.trans (congrArg (!·) hl)))
    · have hn' : r.arg 1 1 = 255 := hn
      simp only [hn', if_true] at h
      exact h
    · have hn' : ¬r.arg 1 1 = 255 := hn
      simp only [hn', if_false] at h
      exact h

end Sys2Proof.Machine
end

section
/-! PROOFS. Power and ageing commands (R391, R404 to R410, R429, R463 to R465). -/
namespace Sys2Proof.Machine

open Sys2Proof

/-- The operands of `POWER_ORDER` that are legal (R407, R411). -/
def orderLegal (r : Request) : Bool := r.shape 8 [(1, 1)] && inRange 1 3 (r.arg 0 1) && (if r.arg 0 1 = 3 then policyOk r else r.arg 2 6 == 0)

theorem order_refused (r : Request) :
    (!r.shape 8 [(1, 1)] || !inRange 1 3 (r.arg 0 1) || (r.arg 0 1 == 3 && !policyOk r) || (r.arg 0 1 != 3 && r.arg 2 6 != 0)) = !orderLegal r := by
  rw [orderLegal]
  by_cases h3 : r.arg 0 1 = 3
  · simp only [h3, if_true, Bool.not_and, beq_self_eq_true, bne_self_eq_false, Bool.true_and, Bool.false_and, Bool.or_false]
  · simp only [if_neg h3, beq_eq_false_iff_ne.mpr h3, bne, Bool.not_and, Bool.not_false, Bool.true_and, Bool.false_and, Bool.or_false]

/-- Settles O56, a command at a time: what its body answers to legal operands, and the states of the module in which an order is refused. -/
theorem powerCommands : Obligations.PowerCommands := by
  unfold Obligations.PowerCommands
  intro s c sl r w order code cap legal capLegal asked refused
  refine ⟨fun hp => ?_, fun hp => ?_, fun hp => ?_,
    serves_says (exec_powerRead ..) (fun r w => else_malformed rfl) fun r w _ reply later h => h,
    serves_says (exec_ageingRead ..) (fun r w => else_malformed rfl) fun r w _ reply later h => h⟩
  · have h := passes_says (exec_powerRequest ..) hp
    have hbad : (!r.shape 4 [(2, 2)] || !(r.arg 0 2 == 0 || (inRange 650 2800 (r.arg 0 2) && r.arg 0 2 % 5 == 0))) = !capLegal :=
      (Bool.not_and ..).symm
    exact ⟨fun hl => says_then h (hbad.trans (congrArg (!·) hl)), fun hl => says_else h (ne_true_of_eq_false (hbad.trans (congrArg (!·) hl)))⟩
  · have h := passes_says (exec_powerOrder ..) hp
    refine ⟨fun hl => says_then h ((order_refused r).trans (congrArg (!·) hl)), fun hl hf ho hd => ?_, fun hl hf ho hd => ?_, fun hl ho => ?_,
      fun hl hf ho hm => ?_, fun hl hf ho hm => ?_⟩
    all_goals replace h := says_else h (ne_true_of_eq_false ((order_refused r).trans (congrArg (!·) hl)))
    · have ho' : r.arg 0 1 = 2 := ho
      exact says_then (says_then h ⟨hf, by rw [ho']; decide⟩) (Bool.and_eq_true_iff.mpr ⟨decide_eq_true ho, hd⟩)
    · refine says_else (says_then h ⟨hf, ho⟩) ?_
      rw [Bool.and_eq_true_iff, decide_eq_true_iff]
      rintro ⟨h2, hdrained⟩
      exact hd.elim (fun hn => hn h2) fun hn => ne_true_of_eq_false hn hdrained
    · exact says_then (says_else h fun hn => hn.2 ho) ho
    · exact says_then (says_else (says_else h fun hn => hf hn.1) ho) (by simpa using hm)
    · exact says_else (says_else (says_else h fun hn => hf hn.1) ho) (by simp [hm])
  · intro legal
    have h := passes_says (exec_orphanCapSet ..) hp
    have hbad : (!r.shape 4 [(1, 3)] || !inRange 25 100 (r.arg 0 1)) = !legal := (Bool.not_and ..).symm
    exact ⟨fun hl => says_then h (hbad.trans (congrArg (!·) hl)), fun hl => says_else h (ne_true_of_eq_false (hbad.trans (congrArg (!·) hl)))⟩

end Sys2Proof.Machine
end

section
/-! PROOFS. Mirror pair, lease, switch-over and window commands (R509 to R513, R515, R518, R529, R530, R533). -/
namespace Sys2Proof.Machine

open Sys2Proof

/-! ## The window of a plan -/

section
variable {r : Request} {w : Work} {p : Plan} {x : MirrorWindow}

/-- The other windows, as those that wait for the tick leave them. -/
def otherWindows (r : Request) (hw : Hw) : List MirrorWindow := (windowsAhead hw).filter (fun x => x.index != r.arg 0 1)

/-- Another plan holds the window of a request. -/
def windowHeld (r : Request) (hw : Hw) : Bool := (windowsAhead hw).any (fun x => x.index == r.arg 0 1 && x.plan != r.arg 4 4)

/-- The module with the other windows alone. -/
def withoutWindow (r : Request) (hw : Hw) : Hw := { hw with mirror := { hw.mirror with windows := otherWindows r hw, windowsNext := [] } }

/-- The buffer of a window is placed in the share of its plan's partition (R518). -/
def windowBuffer (r : Request) (p : Plan) (x : MirrorWindow) (hw : Hw) : Except Nat Nat :=
  placeRun (withoutWindow r hw) (.share p.part) (usedRuns (withoutWindow r hw) (.share p.part))
    (3 * x.maxUnits * (if x.object.isSome then 65536 else 4096))

/-- A window is removed (R518). -/
def windowClear (r : Request) (w : Work) : Answer := if windowHeld r w.hw then malformed w else accepted (queueWindow (r.arg 0 1) none w)

/-- A window is set (R518). -/
def windowSet (r : Request) (p : Plan) (x : MirrorWindow) (w : Work) : Answer :=
  if (otherWindows r w.hw).any (windowsOverlap x) then malformed w
  else if windowHeld r w.hw then refusedWith stNoResource w
  else match windowBuffer r p x w.hw with
    | .error _ => refusedWith stNoResource w
    | .ok a => accepted (queueWindow (r.arg 0 1) (some { x with buffer := a }) w)

section
variable (hl : (!r.shape 32 [(0x1C, 4)] || 63 < r.arg 0 1 || 1 < r.arg 1 1 || !inRange 1 65536 (r.arg 0x18 4)) = false)
include hl

theorem doMirrorWindowSet_noPlan (hp : findPlan w.hw (r.arg 4 4) = none) : doMirrorWindowSet r w = malformed w := by
  simp only [doMirrorWindowSet, hl, hp, Bool.false_eq_true, if_false]

variable (hp : findPlan w.hw (r.arg 4 4) = some p)
include hp

theorem doMirrorWindowSet_noWindow (hx : windowOf r p = none) : doMirrorWindowSet r w = malformed w := by
  simp only [doMirrorWindowSet, hl, hp, hx, Bool.false_eq_true, if_false]

variable (hx : windowOf r p = some x)
include hx

theorem doMirrorWindowSet_window : doMirrorWindowSet r w =
    if (findPair w.hw p.part).isNone = true then malformed w else if r.arg 1 1 = 0 then windowClear r w else windowSet r p x w := by
  simp only [doMirrorWindowSet, hl, hp, hx, Bool.false_eq_true, if_false]
  rfl

end

section
variable (ho : (otherWindows r w.hw).any (windowsOverlap x) = false) (hh : windowHeld r w.hw = false)
include ho hh

theorem windowSet_full {n : Nat} (hb : windowBuffer r p x w.hw = .error n) : windowSet r p x w = refusedWith stNoResource w := by
  simp only [windowSet, ho, hh, hb, Bool.false_eq_true, if_false]

theorem windowSet_placed {a : Nat} (hb : windowBuffer r p x w.hw = .ok a) :
    windowSet r p x w = accepted (queueWindow (r.arg 0 1) (some { x with buffer := a }) w) := by
  simp only [windowSet, ho, hh, hb, Bool.false_eq_true, if_false]

end
end

/-! ## O57 -/

/-- Settles O57, a command at a time: a grant by its pair, a window by its plan, the other commands by what their bodies answer to legal operands. -/
theorem mirrorCommands : Obligations.MirrorCommands := by
  unfold Obligations.MirrorCommands
  intro s c sl
  refine ⟨serves_says (exec_pairSet ..) (fun r w => else_malformed ?_) fun r w _ reply later h =>
      ⟨fun hb => says_then h hb, fun hb => ⟨fun ha => ?_, fun ha => ?_⟩⟩,
    fun r w hpass => ?_,
    serves_says (exec_switchOver ..) (fun r w => else_malformed ?_) fun r w _ reply later h => ?_,
    fun r w hpass => ?_,
    serves_says (exec_pairRead ..) (fun r w => else_malformed ?_) fun r w _ reply later h => h⟩
  · simp only [Bool.not_and, ← decide_not, Nat.not_le, Nat.not_lt, Bool.not_not]
  · exact says_then (says_else h (ne_true_of_eq_false hb)) ha
  · exact says_else (says_else h (ne_true_of_eq_false hb)) (by rw [ha]; exact Nat.one_ne_zero)
  · have h := passes_says (exec_leaseGrant ..) hpass
    refine ⟨fun hn => ?_, fun p hp => ?_⟩
    · simp only [doLeaseGrant, hn] at h
      exact h
    · simp only [doLeaseGrant, hp] at h
      intro mode expires ending granted legal
      have hbad : (!r.shape 32 [(2, 6)] || 2 < r.arg 1 1 || r.arg 0x10 8 ≤ w.hw.time.now || w.hw.time.now + 2000000000 < r.arg 0x10 8
          || r.arg 8 8 ≤ p.epoch || (r.arg 1 1 != 1 && r.arg 0x18 8 != 0)) = !legal := by
        simp only [legal, mode, expires, Bool.not_and, Bool.not_or, ← decide_not, Nat.not_le, Nat.not_lt, bne]
      exact ⟨fun hl => says_then h (hbad.trans (congrArg (!·) hl)), fun hl => says_else h (ne_true_of_eq_false (hbad.trans (congrArg (!·) hl)))⟩
  · simp only [Bool.not_and, ← decide_not, Nat.not_lt]
  · intro part
    refine ⟨fun hn => ?_, fun p hp => ⟨fun hr => ?_, fun hr hs => ?_, fun hr hs => ?_⟩⟩
    · simp only [show findPair w.hw (r.arg 0 1) = none from hn] at h
      exact h
    all_goals simp only [show findPair w.hw (r.arg 0 1) = some p from hp] at h
    · exact says_then h (bne_iff_ne.mpr hr)
    · exact says_then (says_else h (by rw [hr]; decide)) (Option.isSome_iff_ne_none.mpr hs)
    · exact says_else (says_else h (by rw [hr]; decide)) (by rw [hs]; exact Bool.false_ne_true)
  · intro i ahead others held legal free
    have h := passes_says (exec_mirrorWindowSet ..) hpass
    have hbad : (!r.shape 32 [(0x1C, 4)] || 63 < r.arg 0 1 || 1 < r.arg 1 1 || !inRange 1 65536 (r.arg 0x18 4)) = !legal := by
      simp only [legal, i, Bool.not_and, ← decide_not, Nat.not_le]
    have hlegal (hl : legal = true) := hbad.trans (congrArg (!·) hl)
    refine ⟨fun hl => says_then h (hbad.trans (congrArg (!·) hl)), fun hl hp => ?_, fun p hl hp hn => ?_, fun p x hl hp hx hpair => ?_⟩
    · rwa [doMirrorWindowSet_noPlan (hlegal hl) hp] at h
    · cases hx : windowOf r p with
      | none => rwa [doMirrorWindowSet_noWindow (hlegal hl) hp hx] at h
      | some x =>
        rw [doMirrorWindowSet_window (hlegal hl) hp hx] at h
        rcases hn with hn | hn
        · cases hx.symm.trans hn
        · exact says_then h (Option.isNone_iff_eq_none.mpr hn)
    · rw [doMirrorWindowSet_window (hlegal hl) hp hx] at h
      replace h := says_else h fun hnone => hpair (Option.isNone_iff_eq_none.mp hnone)
      intro size
      refine ⟨fun ha hh => ?_, fun ha hh => ?_, fun ha ho => ?_, fun ha ho hh => ?_, fun n ha ho hh hb => ?_, fun a ha ho hh hb => ?_⟩
      · exact says_else (says_then h ha) (ne_true_of_eq_false hh)
      · exact says_then (says_then h ha) hh
      all_goals replace h := says_else h (by rw [ha]; exact Nat.one_ne_zero)
      · exact says_then h ho
      · exact says_then (says_else h (ne_true_of_eq_false ho)) hh
      · rwa [windowSet_full ho hh hb] at h
      · rwa [windowSet_placed ho hh hb] at h
  · simp only [Bool.not_and, ← decide_not, Nat.not_lt]

end Sys2Proof.Machine
end

section
/-! PROOFS. Attestation, image update, service mode, key, topology and state read commands (R378 to R397, R411, R435, R505). -/
namespace Sys2Proof.Machine

open Sys2Proof

section
variable {r : Request} {w : Work}

theorem beq_zero_eq (n : Nat) : (n == 0) = !decide (1 ≤ n) := by
  cases n <;> rfl

theorem serviceMode_refused (shape : Bool) (action page : Nat) :
    (!shape || action == 0 || 5 < action || (action == 5 && 57 < page)) = !(shape && inRange 1 5 action && !(action == 5 && decide (57 < page))) := by
  generalize (action == 5 && decide (57 < page)) = past
  simp only [inRange, beq_zero_eq, Bool.not_and, Bool.not_not, Bool.or_assoc]
  simp only [← decide_not, Nat.not_le]

theorem inRange_one_two (n : Nat) : inRange 1 2 n = (n == 1 || n == 2) :=
  match n with
  | 0 => rfl
  | 1 => rfl
  | 2 => rfl
  | _ + 3 => rfl

/-- The header of a state read (R435). -/
def stateHeader (what count : Nat) (hw : Hw) : List Byte :=
  leBytes 8 hw.keep.serial ++ leBytes 1 what ++ leBytes 1 count ++ zeros 2 ++ leBytes 4 hw.lantern.epoch

/-- What a state read answers (R385, R411, R435). -/
def stateAnswer (what : Nat) (w : Work) : Answer :=
  if what = 0 then .reply stDone (stateHeader what 33 w.hw ++ (List.range 33).flatMap (unitBytes w.hw)) w
  else if what = 1 then .reply stDone (stateHeader what w.hw.lantern.log.length w.hw ++ w.hw.lantern.log.flatten) w
  else if what = 2 then
    .reply stDone (stateHeader what (freeOf w % 256) w.hw ++ (leBytes 4 (bringupStatus w.hw) ++ leBytes 4 (bringupMs w.hw))) (freeUsed w)
  else .reply stDone (stateHeader what (freeOf w % 256) w.hw ++ (leBytes 4 (capStatus w.hw) ++ zeros 4 ++ leBytes 8 (capTerms w.hw)
    ++ leBytes 8 (tokenPolicy w.hw) ++ leBytes 4 (belfryStatus w.hw) ++ zeros 4)) (freeUsed w)

theorem doStateRead_eq : doStateRead r w = if (!r.shape 4 [(1, 3)] || 3 < r.arg 0 1) = true then malformed w else stateAnswer (r.arg 0 1) w := by
  refine if_congr Iff.rfl rfl ?_
  rw [stateAnswer]
  generalize r.arg 0 1 = what
  match what with
  | 0 => rfl
  | 1 => rfl
  | 2 => rfl
  | _ + 3 => rfl

end

/-! ## O58 -/

/-- Settles O58, a command at a time: what its body answers to legal operands. -/
theorem keepCommands : Obligations.KeepCommands := by
  unfold Obligations.KeepCommands
  intro s c sl
  refine ⟨serves_says (exec_attest ..) (fun r w => else_malformed ?_) fun r w _ reply later h => ⟨fun ha => ?_, fun ha => ?_⟩,
    serves_says (exec_imageUpdate ..) (fun r w => else_malformed ?_) fun r w _ reply later h => ?_,
    serves_says (exec_serviceMode ..) (fun r w => else_malformed (serviceMode_refused ..)) fun r w _ reply later h => ?_,
    serves_says (exec_keyEnrol ..) (fun r w => else_malformed ?_) fun r w _ reply later h => ?_,
    serves_says (exec_topologySet ..) (fun r w => else_malformed ?_) fun r w _ reply later h => h,
    serves_says (exec_stateRead ..) (fun r w => doStateRead_eq.trans (else_malformed ?_)) fun r w _ reply later h => ?_⟩
  · simp only [Bool.not_and, ← decide_not, Nat.not_le]
  · simp only [ha, if_true] at h
    exact h
  · simp only [ha, Nat.zero_ne_one, if_false] at h
    exact h
  · simp only [Bool.not_and, ← decide_not, Nat.not_le, bne]
  · intro b
    refine ⟨fun hw => says_then h (Option.isSome_iff_ne_none.mpr hw), fun hw hg => ?_, fun hw hg => ⟨fun status hb => ?_, fun hb => ?_⟩⟩
    all_goals replace h := says_else h (by rw [hw]; exact Bool.false_ne_true)
    · exact says_then h (by rw [hg]; rfl)
    all_goals replace h := says_else h (by rw [hg]; exact Bool.false_ne_true)
    · simp only [show checkBundle w.hw.keep (w.read (r.arg 0 8) (r.arg 8 4)) = some status from hb] at h
      exact h
    · simp only [show checkBundle w.hw.keep (w.read (r.arg 0 8) (r.arg 8 4)) = none from hb] at h
      exact h
  · intro inside
    have hmiddle (ha : inRange 2 4 (r.arg 0 1) = true) : r.arg 0 1 ≠ 5 ∧ r.arg 0 1 ≠ 1 := by
      rw [inRange, Bool.and_eq_true_iff, decide_eq_true_iff, decide_eq_true_iff] at ha
      omega
    have hlate {n : Nat} (ha : r.arg 0 1 = n) (hn : inRange 2 4 n = true) (hi : inside) := says_else (says_else (says_else h
      (hmiddle (ha ▸ hn)).1) (hmiddle (ha ▸ hn)).2) (by rw [decide_eq_true hi]; exact Bool.false_ne_true)
    refine ⟨fun ha => says_then h ha, fun ha hi => ?_, fun ha hi => ?_, fun ha hi => ?_, fun ha hi => ?_, fun ha hi => ?_, fun ha hi => ?_⟩
    · exact says_then (says_then (says_else h (by rw [ha]; decide)) ha) hi
    · exact says_else (says_then (says_else h (by rw [ha]; decide)) ha) hi
    · exact says_then (says_else (says_else h (hmiddle ha).1) (hmiddle ha).2) (by rw [decide_eq_false hi]; rfl)
    · exact says_then (hlate ha rfl hi) ha
    · exact says_then (says_else (hlate ha rfl hi) (by rw [ha]; decide)) ha
    · exact says_else (says_else (hlate ha rfl hi) (by rw [ha]; decide)) (by rw [ha]; decide)
  · simp only [inRange_one_two, Bool.not_and, Bool.not_or, Bool.not_not, ← decide_not, Nat.not_le, bne]
  · intro id keys present rest counter
    have hnot (ha : r.arg 0 1 = 2) : ¬r.arg 0 1 = 1 := by
      rw [ha]
      decide
    refine ⟨fun ha hp => ?_, fun ha hp hk => ?_, fun ha hp => ?_, fun ha hp hk => ?_⟩
    · exact says_then (says_then h ha) (by rw [Bool.or_eq_true, decide_eq_true_iff]; exact hp)
    · refine says_else (says_then h ha) ?_
      rw [Bool.or_eq_true, decide_eq_true_iff]
      exact not_or_intro (ne_true_of_eq_false hp) (Nat.not_le.mpr hk)
    · refine says_then (says_else h (hnot ha)) ?_
      rw [Bool.or_eq_true, Bool.not_eq_true', Bool.not_eq_true']
      exact hp
    · refine says_else (says_else h (hnot ha)) ?_
      rw [Bool.or_eq_true, Bool.not_eq_true', Bool.not_eq_true']
      exact not_or_intro (ne_false_of_eq_true hp) (ne_false_of_eq_true hk)
  · rw [Bool.not_and]
  · simp only [Bool.not_and, ← decide_not, Nat.not_le]
  · intro what header
    refine ⟨fun ha => says_then h ha, fun ha => ?_, fun ha => ?_, fun ha => ?_⟩
    all_goals replace h := says_else h (by rw [show r.arg 0 1 = _ from ha]; decide)
    · exact says_then h ha
    all_goals replace h := says_else h (by rw [show r.arg 0 1 = _ from ha]; decide)
    · replace h := says_then h ha
      rwa [Answer.says, ← List.append_assoc] at h
    · replace h := says_else h (by rw [show r.arg 0 1 = _ from ha]; decide)
      simpa only [header, Answer.says, stateHeader, List.append_assoc] using h

end Sys2Proof.Machine
end
